-- ==== Sys2Proof/Word.lean ====
section
/-! DEFINITION. The word types of the model and their plainest arithmetic. -/

namespace Sys2Proof

/-- One byte of memory, of a command or of a message (R14). -/
abbrev Byte := BitVec 8

/-- A register, command or descriptor word: 64 bits, bit 0 least significant (R14). -/
abbrev Word := BitVec 64

/-- A binary32 pattern (R90, R105). -/
abbrev F32 := BitVec 32

/-- A binary64 pattern (R105, R283). -/
abbrev F64 := BitVec 64

/-- A table keyed by number, held as pairs with strictly rising keys: a register file, a memory, a set of records. -/
abbrev SMap (β : Type) := List (Nat × β)

/-- Addition that stops at `top`, as every saturating counter of the manual counts. -/
def satAdd (top a b : Nat) : Nat := min top (a + b)

end Sys2Proof
end

