-- ==== Sys2Proof/Syntax.lean ====
section
/-! DEFINITION. The commands of the block (the operation table), with the operands each carries. -/

namespace Sys2Proof

/-- Who writes a register (R561, R565): the device for a unit (CLASS and INDEX of JRN_READMIT, and the causing JSEQ), the management port by an address, a host Requester ID, or a remote window's source herd address. -/
inductive RegSrc where
  | device (cls idx jseq : Nat)
  | mgmt (addr : Nat)
  | host (rid : Nat)
  | remote (herd : Nat)
  deriving DecidableEq, Repr

/-- A master that reads registers (R49, R561). -/
inductive Master where
  | mgmt
  | host
  | remote
  deriving DecidableEq, Repr

/-- How a PCIe completion for a device read ends it (R476): data, Unsupported Request, Completer Abort, or poisoned data. -/
inductive CplStatus where
  | data
  | unsupported
  | abort
  | poisoned
  deriving DecidableEq, Repr

/-- The link speeds of R449. -/
inductive PcieSpeed where
  | gt16
  | gt32
  | gt64
  deriving DecidableEq, Repr

/-- How a management transaction arrived (R559): well formed, with a PEC that does not match, with no PEC, with an I3C byte with a parity error, or with a reserved OPCODE byte. -/
inductive MgmtCheck where
  | good
  | pecBad
  | pecAbsent
  | parityBad
  | reservedOpcode
  deriving DecidableEq, Repr

/-- What the row engines find in one step beside its result (R351, R352): granules corrected and granules found uncorrectable, by UDA, and comparisons that failed, on a stack. -/
structure RowObs where
  corrected : List Nat
  uncorrectable : List Nat
  mismatches : Nat
  stack : Nat
  deriving DecidableEq, Repr

/-- Errors a command's scratchpad reads meet (R174): local offsets of granules corrected and of granules found uncorrectable, in the executing tile. -/
structure EccObs where
  corrected : List Nat
  uncorrectable : List Nat
  deriving DecidableEq, Repr

/-- What a failing check of a pass was (R145, KIND of TILE_ARRCHKLOC). -/
inductive ChkKind where
  | column
  | row
  | both
  | adder
  deriving DecidableEq, Repr

/-- A pass of an array command that failed its checks (R141): the yoke member, the pass in the order of R120, where, and how many runs of it failed. -/
structure PassFault where
  member : Nat
  pass : Nat
  kind : ChkKind
  slice : Nat
  row : Nat
  column : Nat
  fails : Nat
  deriving DecidableEq, Repr

/-- What comes about inside an array command beside its results: failing passes in pass order, cycles of starvation, of back-pressure and of waiting at the ports (R134, R141, R173), and scratchpad errors. -/
structure ArrayObs where
  faults : List PassFault
  starved : Nat
  backed : Nat
  waited : Nat
  ecc : EccObs
  deriving DecidableEq, Repr

/-- A column or group of the element unit that failed its comparison (R166): its output row, and how many runs of it failed. -/
structure GroupFault where
  row : Nat
  fails : Nat
  deriving DecidableEq, Repr

/-- What comes about inside an element command beside its results: failing groups in order, the cycles it occupied the unit (used where R163 gives no figure), paused cycles (R150), waiting cycles (R173), and scratchpad errors. -/
structure EltObs where
  faults : List GroupFault
  cycles : Nat
  paused : Nat
  waited : Nat
  ecc : EccObs
  deriving DecidableEq, Repr

/-- A flit as it lies on the lanes (R366): link word, exchange word, 232 payload bytes and FCRC. -/
structure Flit where
  link : Word
  exch : Word
  payload : List Byte
  fcrc : Word
  deriving DecidableEq, Repr

/-- What a flash controller's metadata hold after a program (R341): physical bytes programmed by it, highest and average erase counts, and spare blocks in percent. -/
structure WearObs where
  pgm : Nat
  maxPe : Nat
  avgPe : Nat
  spare : Nat
  deriving DecidableEq, Repr

/-- Errors that a stream's channel meets (R174, R314): at the far side by UDA of DRAM, at the local side by local offset. -/
structure StreamObs where
  far : EccObs
  loc : EccObs
  deriving DecidableEq, Repr

/-- What the current and temperature sensors measure over a spoke (R540, R567): millivolts and eighths of an ampere of each rail of R536, and samples by sensor in units of 0.125 °C, two's complement of 16 bits. -/
structure PowerObs where
  rails : List (Nat × Nat)
  temps : List (Nat × Nat)
  deriving DecidableEq, Repr

/-- What the herd check's row stands for: a write of HRN_CTRL with ACTION 5, or the check of ports that have left training (R87). -/
inductive HerdReq where
  | request (src : RegSrc) (value : BitVec 32)
  | proceed
  deriving DecidableEq, Repr

/-- The I3C common command codes of R558: SETDASA to a static address and ENTDAA give a dynamic address; another code only shows that the bus is I3C. -/
inductive CccKind where
  | setdasa (stat dyn : Nat)
  | entdaa (dyn : Nat)
  | other
  deriving DecidableEq, Repr

/-- Who reads register space (R559): a management transaction by an address, or the host. -/
inductive ReadBy where
  | mgmt (addr : Nat) (check : MgmtCheck)
  | host
  deriving DecidableEq, Repr
/-- The commands of the block: one constructor a row of the operation table, in its order. -/
inductive Instr where
  /-- DOORBELL: A 4- or 8-byte write to a doorbell page gives a host ring its new PROD, which the device takes or discards (R456). -/
  | doorbell (page : Nat) (offset : Nat) (size : Nat) (data : Word)
  /-- FETCH: The device reads up to 32 submission entries of an enabled ring whose PROD differs from ACCEPT, serving the rings in round robin (R463). -/
  | fetch
  /-- READ_COMPLETION: A PCIe completion arrives for an outstanding device-initiated read and ends it with data or an error status (R476). -/
  | readCompletion (tag : Nat) (status : CplStatus) (data : List Byte)
  /-- READ_TIMEOUT: A device-initiated host read has no completion within HIF_RDTMO and fails with TIMEOUT, and its tag is quarantined (R476). -/
  | readTimeout (tag : Nat)
  /-- LATE_COMPLETION: A completion arrives for a host read that has already failed; it is discarded and counted in HIF_LATE (R477). -/
  | lateCompletion (tag : Nat)
  /-- TAG_QUARANTINE_END: Twice HIF_RDTMO after a timeout, the quarantined tag becomes free for reuse (R477). -/
  | tagQuarantineEnd (tag : Nat)
  /-- RING_ERROR: A fetch read fails after FETCHRETRY retries, and the ring stops acceptance and enters the error state (R465). -/
  | ringError (ring : Nat)
  /-- ACCEPTANCE: Once all acceptance conditions hold, the entry at ACCEPT is accepted: it is given a JSEQ, journalled and checked, and ACCEPT advances (R463). -/
  | acceptance (ring : Nat)
  /-- RING_ENABLE: A write of RING_CTLn.ENABLE enables or disables a host ring; an enable zeroes its indices (R455). -/
  | ringEnable (src : RegSrc) (ring : Nat) (value : BitVec 32)
  /-- CANCEL: A write of RING_CTLn.CANCEL cancels every uncompleted command of the ring, each according to its state (R475). -/
  | cancel (src : RegSrc) (ring : Nat) (value : BitVec 32)
  /-- HIF_CANCEL: A write of a JSEQ to HIF_CANCEL cancels that one host-submitted command (R475). -/
  | hifCancel (src : RegSrc) (jseq : Word)
  /-- CLRERR: A write of RING_CTLn.CLRERR takes the ring out of the error state, and fetching restarts at ACCEPT (R465). -/
  | clrErr (src : RegSrc) (ring : Nat) (value : BitVec 32)
  /-- NOP: A host NOP waits on its wait slots, signals its marks and completes (R458). -/
  | nop (jseq : Nat)
  /-- FORWARD: A FORWARD envelope passes its COUNT following commands to a target, each accepted in slot order (R461). -/
  | forward (ring : Nat)
  /-- WRITE_INLINE: Writes up to 96 bytes of inline data to a UDA range (R458). -/
  | writeInline (jseq : Nat)
  /-- HCOPY_IN: Copies host memory into a UDA range in 4 KiB pieces through the copy engine (R459). -/
  | hcopyIn (jseq : Nat)
  /-- HCOPY_OUT: Copies a UDA range to host memory in 4 KiB pieces as an EXTERNAL write (R459). -/
  | hcopyOut (jseq : Nat)
  /-- FENCE: Holds later commands of its ring until the earlier commands in its scope have completed (R466). -/
  | fence (jseq : Nat)
  /-- FLUSH: Completes after a fence condition holds, the difference stream has delivered, and a zero-length read has returned (R467). -/
  | flush (jseq : Nat)
  /-- COMPLETION: A committed command whose earlier ring commands have all completed has its 32-byte completion entry written (R470). -/
  | completion (ring : Nat)
  /-- HOLDOFF: RING_MODn.HOLDOFF_US expires after the first unsignalled entry, and the completion ring signals its vector (R478). -/
  | holdoff (ring : Nat)
  /-- H2MSEND: The host sends a mailbox message to the management controller (R481). -/
  | h2mSend (src : RegSrc) (value : BitVec 32)
  /-- M2HACK: The host acknowledges a management-to-host mailbox message (R481). -/
  | m2hAck (src : RegSrc) (value : BitVec 32)
  /-- M2HSEND: The management controller sends a mailbox message to the host; the device sets M2HFULL, raises MAILBOX and signals the vector (R570). -/
  | m2hSend (src : RegSrc) (value : BitVec 32)
  /-- H2MACK: The management controller acknowledges a host message and clears H2MFULL (R570). -/
  | h2mAck (src : RegSrc) (value : BitVec 32)
  /-- PERST: PERST# or a link retrain resets only the PCIe link and configuration space; host-memory traffic is held meanwhile (R452). -/
  | perst
  /-- D3HOT: A change of Bus Master Enable or of D3hot holds, or then releases, fetches and writes to host memory (R452). -/
  | d3hot (busMaster : Bool) (d3 : Bool)
  /-- TILE_DISPATCH: In each cycle the tile dispatches one dispatchable ring head, chosen by priority and round robin (R183). -/
  | tileDispatch (tile : Nat)
  /-- ARRAY: Runs a matrix product on the array, as row tiles, column blocks and stationary-block passes (R120). -/
  | array (jseq : Nat) (obs : ArrayObs)
  /-- RE_FORMING: After the array has drained, the tile re-forms it into the shape that the next command names, in 64 cycles (R125). -/
  | reForming (tile : Nat)
  /-- EXPERT_PASS: A Drover-built command runs one template step of an expert pass (R256). -/
  | expertPass (jseq : Nat) (arr : ArrayObs) (elt : EltObs)
  /-- CONVERT: An element operation that stores x in the output row (R149). -/
  | eltConvert (jseq : Nat) (obs : EltObs)
  /-- ADD: An element operation: y = a + b (R149). -/
  | eltAdd (jseq : Nat) (obs : EltObs)
  /-- MUL: An element operation: y = a × b (R149). -/
  | eltMul (jseq : Nat) (obs : EltObs)
  /-- FMA: An element operation: y = a × b + c, with one rounding (R149). -/
  | eltFma (jseq : Nat) (obs : EltObs)
  /-- MAX: An element operation: the elementwise maximum (R149). -/
  | eltMax (jseq : Nat) (obs : EltObs)
  /-- MIN: An element operation: the elementwise minimum (R149). -/
  | eltMin (jseq : Nat) (obs : EltObs)
  /-- CURVE: Evaluates a Harness curve for each element (R153). -/
  | eltCurve (jseq : Nat) (obs : EltObs)
  /-- REDUCE: Reduces each row to one FP32 value by SUM, SUMSQ, MAX or ABSMAX (R149). -/
  | eltReduce (jseq : Nat) (obs : EltObs)
  /-- RMSNORM: Applies RMS normalisation to each row (R155). -/
  | rmsNorm (jseq : Nat) (obs : EltObs)
  /-- LAYERNORM: Applies layer normalisation to each row (R155). -/
  | layerNorm (jseq : Nat) (obs : EltObs)
  /-- SOFTMAX: Computes a whole-row softmax (R156). -/
  | softmax (jseq : Nat) (obs : EltObs)
  /-- ATTN_ONLINE: Processes one key block of attention softmax with online rescaling (R157). -/
  | attnOnline (jseq : Nat) (obs : EltObs)
  /-- ATTN_FINAL: Divides the attention outputs by l as the final step (R159). -/
  | attnFinal (jseq : Nat) (obs : EltObs)
  /-- RESID: Encodes with residual carry (R160). -/
  | resid (jseq : Nat) (obs : EltObs)
  /-- MATVEC: Computes a matrix-vector product of 1 to 8 rows on the fallback or on the array (R161). -/
  | matvec (jseq : Nat) (arr : ArrayObs) (elt : EltObs)
  /-- TILE_ARRINJ: A write that arms or disarms a single injected array fault (R143). -/
  | tileArrInj (src : RegSrc) (phys : Nat) (value : BitVec 32)
  /-- SCRUB: The scrubber reads one bank row when the read port is idle and corrects errors (R175). -/
  | scrub (phys : Nat) (obs : EccObs)
  /-- CONTROL_NOP: A CONTROL NOP waits, takes, signals and gives, and does nothing else (R193). -/
  | controlNop (jseq : Nat)
  /-- MARK_SET: Sets mark counts, and clears their POISON where asked, at commit (R194). -/
  | markSet (jseq : Nat)
  /-- CREDIT_SET: Sets credit pool counts at commit (R194). -/
  | creditSet (jseq : Nat)
  /-- CONTROL_FENCE: Is not dispatched until every earlier command of its ring has completed (R193). -/
  | controlFence (jseq : Nat)
  /-- LOAD: A STREAM that moves far-side data into local rows (R202). -/
  | load (jseq : Nat) (obs : StreamObs)
  /-- STORE: A STREAM that moves local rows to the far side (R202). -/
  | store (jseq : Nat) (obs : StreamObs)
  /-- ACCUM: A STREAM whose FP32 contributions are added into a G8R buffer by accumulate-on-write (R272). -/
  | accum (jseq : Nat) (obs : StreamObs)
  /-- PREFETCH: A STREAM that makes a flash tier range resident in DRAM (R202). -/
  | prefetch (jseq : Nat) (obs : StreamObs)
  /-- RECEIVE: A STREAM that writes arrivals from a link channel ring as local rows (R213). -/
  | receive (jseq : Nat)
  /-- SEGMENT_DELIVERED: A stream segment becomes durable, and PINC is added to its progress mark; the last segment commits the stream (R212). -/
  | segmentDelivered (jseq : Nat)
  /-- HALT: A stream halts after a credit or arrival wait, or on a tier miss, and saves its position (R219). -/
  | halt (jseq : Nat)
  /-- STREAM_RESUME: A halted stream whose resume condition holds takes a free channel and continues (R221). -/
  | streamResume (tile : Nat)
  /-- CREDIT_WATCHDOG: Every STR_WDOG.LIMIT cycles, the watchdog halts the youngest eligible blocked stream and releases its records (R225). -/
  | creditWatchdog (tile : Nat)
  /-- ROUTE_JOB: A route job leaves WAIT and runs selection, counting and pass building (R261). -/
  | routeJob (jseq : Nat)
  /-- PASS_FILL: When a buffer credit is available, the row mover fills a pass buffer and raises FILLMARK (R254). -/
  | passFill (jseq : Nat) (pass : Nat)
  /-- SCATTER: After a segment's last command completes, its output rows are written to STAGE (R257). -/
  | scatter (jseq : Nat) (pass : Nat) (seg : Nat)
  /-- COMBINE: Once every pass has been scattered, the staged rows of each token are summed in slot order into OUT (R258). -/
  | combine (jseq : Nat)
  /-- STEP_CLOSE: A layer slot closes its open step once the verdict has arrived and its jobs have completed (R264). -/
  | stepClose (cluster : Nat) (slot : Nat)
  /-- PEND: A write of DRV_EXPBIAS.PEND sets a pending bias that applies at the next close (R270). -/
  | pend (src : RegSrc) (cluster : Nat) (value : BitVec 32)
  /-- SEGMENT_COMMIT: When every involved base die has staged an ACCUM segment, the segment commits together with its norm partial and its bitmap bit (R275). -/
  | segmentCommit (jseq : Nat)
  /-- ACCUMULATE_ON_WRITE: A base die applies a committed staged block: it adds the contributions, re-encodes the block and keeps the residual (R274). -/
  | accumulateOnWrite (jseq : Nat)
  /-- VOTE_SEAL: Seals the package's step contribution from the loss record, the non-finite latch and the norm partial (R281). -/
  | voteSeal (jseq : Nat)
  /-- VOTE: At V − LEAD of a VOTE entry, the package launches its contribution into the herd reduction (R441). -/
  | vote (entry : Nat)
  /-- VOTE_DECISION: At V, the herd root computes and broadcasts the verdict (R283). -/
  | voteDecision (entry : Nat)
  /-- CONTRIB: A vote contribution arrives at a level root and is combined (R417). -/
  | contrib
  /-- VERDICT: A verdict record arrives; it is logged and acted on once (R284). -/
  | verdict
  /-- VERDICT_REQ: A neighbour asks for a verdict; the package answers from its vote log (R418). -/
  | verdictReq
  /-- VERDICT_REQ_REPEAT: From V + 256 spokes, and then every 10 µs, a package without a verdict sends VERDICT_REQ (R418). -/
  | verdictReqRepeat
  /-- COLLECTIVE_REDUCE: A REDUCE command reads SRC and sends one RCONTRIB (R419). -/
  | collectiveReduce (jseq : Nat)
  /-- RCONTRIB: A REDUCE contribution arrives at a level root and is combined (R420). -/
  | rcontrib
  /-- RRESULT: A REDUCE result arrives and is written to DST (R420). -/
  | rresult
  /-- REDUCE_TIMEOUT: No RRESULT arrives within COL_REDCFG.TMO_US, and the REDUCE completes TIMEOUT (R420). -/
  | reduceTimeout (jseq : Nat)
  /-- SWEEP: A SWEEP job that holds its verdict and closes sweeps its rules on APPLY, or restores their buffers on SKIP (R292). -/
  | sweep (jseq : Nat)
  /-- PREP: The matrix-rule PREP phase computes the momentum and the direction on tiles (R301). -/
  | prep (jseq : Nat)
  /-- COMMIT_GROUP: A staged commit group of weights, moments, carry and bit commits as one durable change (R306). -/
  | commitGroup (jseq : Nat)
  /-- SWEEP_COPY: Writes copies A and B from the committed weights and raises DONEMARK at the rule's end (R307). -/
  | sweepCopy (jseq : Nat)
  /-- FINAL: When every other job of the step has completed, a FINAL job updates ACTAB and advances the open sweep step (R293). -/
  | final (jseq : Nat)
  /-- PROMOTION: A promotion completes, the entry becomes CLEAN, and the halted requests resume (R326). -/
  | promotion (slot : Nat)
  /-- PROMOTION_FAILED: An uncorrectable flash read fails a promotion, and the pinned streams complete FLASH_ERROR (R333). -/
  | promotionFailed (slot : Nat)
  /-- FLASH_READ_TIMEOUT: A flash read does not return within TIER_FTMO; the promotion fails and the streams complete TIMEOUT (R334). -/
  | flashReadTimeout (slot : Nat)
  /-- LATE_FLASH_DATA: Flash data arrives for a timed-out read and is discarded (R334). -/
  | lateFlashData (tag : Nat)
  /-- FLASH_TAG_QUARANTINE: The quarantine of a timed-out flash request tag ends after twice TIER_FTMO (R334). -/
  | flashTagQuarantine (tag : Nat)
  /-- WRITE_BACK: A write-back program commits; the dirty bits clear and the entry becomes CLEAN, DIRTY or FREE (R328). -/
  | writeBack (slot : Nat) (wear : WearObs)
  /-- CLEANING: The DIRTY count passes WMHIGH, or an entry reaches CLEANAGE, and background write-back starts (R328). -/
  | cleaning
  /-- TIER_FLUSH: Writes back every dirty entry in the range (R331). -/
  | tierFlush (src : RegSrc) (value : BitVec 32)
  /-- EVICT: Writes back, then frees, every resident entry in the range (R331). -/
  | tierEvict (src : RegSrc) (value : BitVec 32)
  /-- INVALIDATE: Frees every resident entry in the range without write-back (R331). -/
  | tierInvalidate (src : RegSrc) (value : BitVec 32)
  /-- FILL: Reads the range from host memory and programs it into flash (R331). -/
  | tierFill (src : RegSrc) (value : BitVec 32)
  /-- TIER_ABORT: Stops the running tier operation, which completes ABORTED (R331). -/
  | tierAbort (src : RegSrc) (value : BitVec 32)
  /-- PATROL_SCRUB: A base die scrubs each location of its stack once in every DRM_SCRUBCTL.HOURS (R314). -/
  | patrolScrub (stack : Nat) (obs : EccObs)
  /-- PCH_RETIRED: A pseudo-channel retires; its stack's slots are withdrawn and its locations are relocated in chunks (R337). -/
  | pchRetired (pch : Nat) (bad : List Nat)
  /-- CHUNK_COPY: The Dray commits the copy of one relocation chunk, and accesses to the chunk are redirected (R337). -/
  | chunkCopy (pch : Nat) (bad : List Nat)
  /-- COPY_BACK: After re-admission, a relocated chunk is copied back and its slot becomes FREE (R340). -/
  | copyBack (pch : Nat)
  /-- STACK_RETIRED: A DRAM stack retires, and its 32 pseudo-channels are relocated or lost (R516). -/
  | stackRetired (stack : Nat) (bad : List Nat)
  /-- FLASH_STACK_RETIRED: A flash stack retires, and the Dray evacuates its objects to new homes (R339). -/
  | flashStackRetired (stack : Nat)
  /-- SET0: A row command that clears destination wide rows (R354). -/
  | set0 (jseq : Nat) (obs : RowObs)
  /-- SET1: A row command that sets destination wide rows to all ones (R354). -/
  | set1 (jseq : Nat) (obs : RowObs)
  /-- COPY: A row command that copies A to D (R354). -/
  | rowCopy (jseq : Nat) (obs : RowObs)
  /-- NOT: A row command: D = NOT A (R354). -/
  | rowNot (jseq : Nat) (obs : RowObs)
  /-- AND: A row command: D = A AND B (R354). -/
  | rowAnd (jseq : Nat) (obs : RowObs)
  /-- OR: A row command: D = A OR B (R354). -/
  | rowOr (jseq : Nat) (obs : RowObs)
  /-- XOR: A row command: D = A XOR B (R354). -/
  | rowXor (jseq : Nat) (obs : RowObs)
  /-- ANDN: A row command: D = A AND NOT B (R354). -/
  | rowAndn (jseq : Nat) (obs : RowObs)
  /-- MAJ: A row command: D = majority of A, B and C (R354). -/
  | rowMaj (jseq : Nat) (obs : RowObs)
  /-- SEAL: Sweeps a region through the decoder and makes it SEALED (R358). -/
  | rowSeal (jseq : Nat) (obs : RowObs)
  /-- UNSEAL: Returns a region to BITMAP (R358). -/
  | rowUnseal (jseq : Nat)
  /-- DATA: A DATA flit arrives: it is checked, and accepted in order or discarded as ahead or duplicate (R374). -/
  | data (port : Nat) (flit : Flit)
  /-- IDLE: An IDLE flit arrives carrying ACK, NAK and credits (R375). -/
  | idle (port : Nat) (flit : Flit)
  /-- IDENT: The partner's IDENT arrives; the version, width and session are chosen, and RESUME starts (R370). -/
  | ident (port : Nat) (flit : Flit)
  /-- PM_ENTER: A partner asks to enter LOW_POWER (R390). -/
  | pmEnter (port : Nat) (flit : Flit)
  /-- PM_ACK: The partner accepts PM_ENTER, and the port enters LOW_POWER (R390). -/
  | pmAck (port : Nat) (flit : Flit)
  /-- PM_WAKE: A wake request relocks all active lanes and returns the port to UP (R390). -/
  | pmWake (port : Nat) (flit : Flit)
  /-- ECHO_REQ: An echo request arrives and is answered with ECHO_RSP (R369). -/
  | echoReq (port : Nat) (flit : Flit)
  /-- ECHO_RSP: An echo response arrives, and the round trip is recorded in LNK_RTT (R369). -/
  | echoRsp (port : Nat) (flit : Flit) (rtt : Nat)
  /-- WHEELPOS: A neighbour's WHEELPOS arrives; it is recorded and may set the revolution count (R434). -/
  | wheelpos (port : Nat) (flit : Flit)
  /-- WHEELPOS_INSTANT: At spoke 0008.0, each UP port sends a WHEELPOS (R436). -/
  | wheelposInstant
  /-- DOWN: A DOWN message arrives, and the port suspects loss (R387). -/
  | down (port : Nat) (flit : Flit)
  /-- REPLAY_TIMEOUT: TMO_NS passes without ACK progress, a replay starts, and an exhausted budget starts a fast retrain (R376). -/
  | replayTimeout (port : Nat)
  /-- FAST_RETRAIN: A fast retrain keeps equalization and runs LOCK and IDENT within 200 µs (R379). -/
  | fastRetrain (port : Nat)
  /-- PMD: PMD start-up and equalization training end, and LOCK begins (R379). -/
  | pmd (port : Nat)
  /-- LOCK: FEC lock and deskew end, and IDENT begins (R379). -/
  | lock (port : Nat) (locked : Nat)
  /-- ATTEMPT_TIMEOUT: A training attempt misses its limit and fails; the next attempt, ABSENT or retirement follows (R379). -/
  | attemptTimeout (port : Nat)
  /-- GAP_S: While the port is ABSENT, another full attempt is made every GAP_S seconds (R382). -/
  | gapS (port : Nat)
  /-- FLIT_SILENCE: No valid flit arrives for 100 µs, and the port suspects loss (R387). -/
  | flitSilence (port : Nat)
  /-- NO_SIGNAL: Every active lane loses signal, and the port suspects loss (R387). -/
  | noSignal (port : Nat)
  /-- LANE_RETIRED: A lane exceeds its error threshold in STRIKES windows, or fails LOCK twice, and retires (R385). -/
  | laneRetired (port : Nat) (lane : Nat) (symbols : Nat)
  /-- PORT_RETIRED: A port retires; its buffers are discarded and its EXTERNAL commands complete LINK_LOST (R388). -/
  | portRetired (port : Nat)
  /-- RETRAIN: A write of LNK_CTL.RETRAIN starts a fast retrain of an UP port (R393). -/
  | retrain (src : RegSrc) (port : Nat) (value : BitVec 32)
  /-- READMIT: A write of LNK_CTL.READMIT starts a self-test of a RETIRED port (R389). -/
  | readmit (src : RegSrc) (port : Nat) (value : BitVec 32)
  /-- HOLDDOWN: A write of LNK_CTL.HOLDDOWN holds the port down, or releases it to training (R393). -/
  | holddown (src : RegSrc) (port : Nat) (value : BitVec 32)
  /-- SELFTEST: The 10 ms port self-test ends, and full attempts begin or the port stays RETIRED (R389). -/
  | selftest (port : Nat) (passed : Nat)
  /-- WRITE: A WRITE message arrives at a window; it is checked against the flow record and written, dropped or refused (R407). -/
  | write (bad : List Nat)
  /-- READ_REQ: A remote read request arrives and is answered with READ_DATA (R410). -/
  | readReq (bad : List Nat)
  /-- READ_DATA: Remote read data arrives for a LOAD (R410). -/
  | readData
  /-- ACK: An end-to-end ACK arrives and advances ACKPOS and CREDLIM (R408). -/
  | ack
  /-- REFUSE: A REFUSE arrives, and the sending command completes MEM_ERROR (R405). -/
  | refuse
  /-- OPEN: A write of WIN_CTLw.OPEN checks the entry and opens the slot (R402). -/
  | winOpen (src : RegSrc) (slot : Nat) (value : BitVec 32)
  /-- CLOSE: A write of WIN_CTLw.CLOSE makes the slot CLOSING until its messages finish (R403). -/
  | winClose (src : RegSrc) (slot : Nat) (value : BitVec 32)
  /-- RESEND: E2ETMO_US passes without ACK progress; the unacknowledged messages are resent, or the commands complete TIMEOUT (R409). -/
  | resend (dst : Nat) (slot : Nat)
  /-- REMOTE_READ_TIMEOUT: A remote read has no answer within COL_RDTMO, and the LOAD completes TIMEOUT (R410). -/
  | remoteReadTimeout (rtag : Nat)
  /-- RTAG_QUARANTINE: The quarantine of a timed-out RTAG ends after twice COL_RDTMO (R410). -/
  | rtagQuarantine (rtag : Nat)
  /-- WHEEL_MARK: A rising edge of WHEEL_MARK is accepted, ignored or counted as a glitch, and drives slews, steps and locking (R426). -/
  | wheelMark (high : Nat)
  /-- STUCK: WHEEL_MARK stays high for more than 64 cycles, causing a mark fault (R427). -/
  | stuck
  /-- REVOLUTION_BOUNDARY: The Wheel reaches spoke 0000: missing marks are counted, ERR grows, and the boundary actions run (R424). -/
  | revolutionBoundary
  /-- REFERENCE_LOSS: WHEEL_REF is lost, and the Wheel counts on its oscillator (R425). -/
  | referenceLoss
  /-- REFERENCE_RESTORE: After one good revolution the reference counts as restored, and counting returns to it (R425). -/
  | referenceRestore
  /-- DISCIPLINED: The oscillator becomes disciplined after 600 s of uninterrupted reference (R425). -/
  | disciplined
  /-- GRANT: A GRANT entry falls due and opens the VC 0 grant on its ports (R440). -/
  | grant (entry : Nat)
  /-- GRANT_CLOSE: DUR spokes after it opened, a grant closes (R440). -/
  | grantClose (port : Nat)
  /-- MARK: A calendar MARK entry adds INC to a tile's ready mark (R442). -/
  | mark (entry : Nat)
  /-- CLRCOUNT: A write of WHL_CTL.CLRCOUNT sets COUNTSRC to NONE (R434). -/
  | clrcount (src : RegSrc) (value : BitVec 32)
  /-- FULL_LOAD: A loader action that stops acceptance and stages a full image (R78). -/
  | fullLoad (src : RegSrc) (value : BitVec 32)
  /-- PARTIAL_LOAD: A loader action that holds newly accepted commands and stages a partial image (R84). -/
  | partialLoad (src : RegSrc) (value : BitVec 32)
  /-- STORE_ACTION: A loader action that writes an image into STORE0 or STORE1 (R81). -/
  | storeAction (src : RegSrc) (value : BitVec 32)
  /-- ERASE: A loader action that clears a store slot (R88). -/
  | erase (src : RegSrc) (value : BitVec 32)
  /-- ABORT: Ends the loader action in progress with ABORTED, if it is before APPLYING (R88). -/
  | abort (src : RegSrc) (value : BitVec 32)
  /-- HERD_CHECK: Checks each port's partner identity and sets HERD_VALID (R87). -/
  | herdCheck (req : HerdReq)
  /-- VERIFYING: When staging ends, the loader verifies the image in phases 2 to 12 (R73). -/
  | verifying (readable : Bool)
  /-- HARNESS_APPLY: At the first revolution boundary after verification, the image is applied and the rings are reinitialised (R79). -/
  | harnessApply
  /-- PRLD_TIMEOUT: The partial-reload drain exceeds HRN_PRLDTMO, and the reload is abandoned (R84). -/
  | prldTimeout
  /-- AUTOLOAD: At cold start, once the store stacks are ready, the loader loads the best AUTOLOAD image (R82). -/
  | autoload
  /-- START_ORDER: After its delay or barrier, the next start-order entry starts its unit (R550). -/
  | startOrder
  /-- PORST_N: Cold reset, and on release the cold start sequence (R553). -/
  | porstN (low : Bool) (straps : Nat)
  /-- WRST_N: Warm reset keeps the always-on state and discards the rest (R523). -/
  | wrstN (glitch : Bool)
  /-- RESUMPTION: On WRST_N release the device restores state, reloads the image and resolves the journal (R524). -/
  | resumption
  /-- PWR_WARN_N: The first falling edge stops the device and mirrors the journal to flash (R527). -/
  | pwrWarnN
  /-- THERM_N: A sensor exceeds TTRIP; THERM_N is asserted and R527 acts (R544). -/
  | thermN (sensor : Nat) (temp : Nat)
  /-- RAIL_FAULT: A rail stays below its range for more than 10 µs and acts as a power warning (R537). -/
  | railFault (rail : Nat)
  /-- POWER_CAP: At the end of each spoke, power is averaged and the throttle levels are adjusted, thermal rules included (R540). -/
  | powerCap (obs : PowerObs)
  /-- PARK: A write of PWR_CTL.PARK requests park, or leaves it (R546). -/
  | park (src : RegSrc) (value : BitVec 32)
  /-- PARK_ENTRY: Once no work is outstanding, the units enter park in order (R546). -/
  | parkEntry
  /-- PARK_EXIT: A waking event restarts the parked units in start order (R547). -/
  | parkExit
  /-- TILE_RETIRED: A permanent tile fault retires the physical tile, copies its scratchpad to a replacement and replays its commands (R512). -/
  | tileRetired (phys : Nat) (bad : List Nat)
  /-- UNIT_RETIRED: A Drover cluster, update sequencer or set of row engines retires, and its jobs complete MEM_ERROR (R518). -/
  | unitRetired (unit : Nat)
  /-- RING_RETIRED: Both copies of a ring context fail; the context retires and its commands complete MEM_ERROR (R505). -/
  | ringRetired (ring : Nat)
  /-- FATAL: An uncovered fault halts the device and sets JRN_FATAL (R519). -/
  | fatal (cause : Nat)
  /-- JRN_READMIT: A write naming a retired unit starts its re-admission self-test (R529). -/
  | jrnReadmit (src : RegSrc) (value : BitVec 32)
  /-- SELF_TEST: A unit's re-admission self-test ends, and the unit waits to join or stays retired (R529). -/
  | selfTest (cls : Nat) (idx : Nat) (pass : Bool)
  /-- JRN_PLCLR: A write that discards the power-loss mirror record (R528). -/
  | jrnPlclr (src : RegSrc) (value : BitVec 32)
  /-- DIF_ENABLE: A write of DIF_CTL.ENABLE starts the difference stream with a BASE_MARK, or stops it (R487). -/
  | difEnable (src : RegSrc) (value : BitVec 32)
  /-- BASE_MARK: A write of DIF_CTL.MARK writes a BASE_MARK chunk (R496). -/
  | baseMark (src : RegSrc) (value : BitVec 32)
  /-- DELIVERY: The delivery engine copies staged chunks to the host buffer while room allows, and advances DELIV (R494). -/
  | delivery
  /-- DIF_CONS: A write that advances the host's consumed position (R494). -/
  | difCons (src : RegSrc) (value : Word)
  /-- IMPORT_ENABLE: A write of DIF_IMPCTL.ENABLE starts import once the sequencers are idle (R497). -/
  | importEnable (src : RegSrc) (value : BitVec 32)
  /-- IMPORT: The device reads and applies the next imported chunk (R497). -/
  | importNext
  /-- IMPORT_RESUME: A write of DIF_IMPCTL.RESUME resumes import after an image or read error (R498). -/
  | importResume (src : RegSrc) (value : BitVec 32)
  /-- READ32: A management transaction that reads 32 bits (R559). -/
  | read32 (reader : ReadBy) (offset : Nat)
  /-- READ64: A management transaction that reads 64 bits (R559). -/
  | read64 (reader : ReadBy) (offset : Nat)
  /-- WRITE32: A management transaction that writes 32 bits (R559). -/
  | write32 (addr : Nat) (check : MgmtCheck) (offset : Nat) (data : BitVec 32)
  /-- WRITE64: A management transaction that writes 64 bits (R559). -/
  | write64 (addr : Nat) (check : MgmtCheck) (offset : Nat) (data : Word)
  /-- REGISTER_WRITE: The serializer applies a write to a register that has no row of its own, and journals it (R561). -/
  | registerWrite (src : RegSrc) (offset : Nat) (size : Nat) (data : Word)
  /-- BYPASS: TAP instruction BYPASS (R571). -/
  | bypass
  /-- IDCODE: TAP instruction that shifts out the IDCODE (R571). -/
  | idcode
  /-- SAMPLE_PRELOAD: TAP instruction SAMPLE/PRELOAD (R571). -/
  | samplePreload
  /-- EXTEST: TAP instruction EXTEST; effective only while PORST_N is low (R571). -/
  | extest
  /-- EXTEST_PULSE: IEEE 1149.6 TAP instruction EXTEST_PULSE (R571). -/
  | extestPulse
  /-- EXTEST_TRAIN: IEEE 1149.6 TAP instruction EXTEST_TRAIN (R571). -/
  | extestTrain
  /-- CLAMP: TAP instruction CLAMP (R571). -/
  | clamp
  /-- HIGHZ: TAP instruction HIGHZ (R571). -/
  | highz
  /-- FLIT_SLOT: In each flit slot an UP port chooses and sends one flit (CONTROL, replay, VC 1, VC 0 in a grant, VC 3, VC 2 or IDLE), including the 1 µs repetitions of IDENT, PM_ENTER and PM_WAKE (R372). -/
  | flitSlot (port : Nat) (repeats : Bool)
  /-- PCIE_LINK_UP: The PCIe link finishes training after PERST# or a retrain, and held fetches, completions, event records and interrupts are released (R452). -/
  | pcieLinkUp (speed : PcieSpeed) (width : Nat) (tagBits : Nat)
  /-- MSI_X_ENABLE: Software sets MSI-X Enable again in configuration space, and held interrupt messages are sent (R452). -/
  | msiXEnable
  /-- UNIT_STARTED: A unit named by the start order reaches its started state, releasing a BARRIER and resuming acceptance on the rings bound to it (R550). -/
  | unitStarted (cls : Nat) (idx : Nat)
  /-- PAUSE_END: The marks' time reaches the Wheel paused by a backward step; the pause ends, and a VOTE launch that fell in it happens (R433). -/
  | pauseEnd
  /-- EVACUATION: The Dray's program of an evacuated object to its new home commits, and the object changes home (R339). -/
  | evacuation (frame : Nat) (unreadable : Bool) (wear : WearObs)
  /-- FILL_PROGRAMMED: A FILL object's flash program commits, and after the last one FILL completes and raises the tier event (R331). -/
  | fillProgrammed (wear : WearObs)
  /-- CCC: An I3C broadcast or direct common command code, such as SETDASA or ENTDAA, arrives at the management port and selects I3C mode or assigns the dynamic address (R558). -/
  | ccc (kind : CccKind)
  /-- ALERT_RESPONSE: An SMBus alert response read arrives while MALERT_N is asserted, and the package answers with its address (R569). -/
  | alertResponse
  /-- TRST_N: TRST_N is asserted or released, holding the TAP in reset or letting it run (R571). -/
  | trstN (low : Bool)
  deriving DecidableEq, Repr

end Sys2Proof
end

