-- ==== Sys2Proof/WellFormed.lean ====
section
/-! DEFINITION. Commands whose operands name something the block has (log entry 48). -/

namespace Sys2Proof

/-- A writer that exists: a unit as JRN_READMIT encodes it, a seven-bit management address, a 16-bit Requester ID or herd address (R565). -/
def RegSrc.wf : RegSrc → Bool
  | .device cls idx _ => decide (cls < 16) && decide (idx < 16384)
  | .mgmt a => decide (a < 128)
  | .host rid => decide (rid < 65536)
  | .remote h => decide (h < 65536)

/-- A herd check's row with a writer that exists. -/
def HerdReq.wf : HerdReq → Bool
  | .request src _ => src.wf
  | .proceed => true

/-- I3C addresses of seven bits. -/
def CccKind.wf : CccKind → Bool
  | .setdasa stat dyn => decide (stat < 128) && decide (dyn < 128)
  | .entdaa dyn => decide (dyn < 128)
  | .other => true

/-- A reader that exists. -/
def ReadBy.wf : ReadBy → Bool
  | .mgmt a _ => decide (a < 128)
  | .host => true

/-- The operands of a command lie in the ranges the spec gives what they name: ports P0 to P5, logical tiles, physical tiles, rings, dies, pseudo-channels, rails, sensors, units, lanes, calendar entries, window slots, stacks. -/
def Instr.wf : Instr → Bool
  | .doorbell page _ _ _ => decide (page < 16384)
  | .fetch => true
  | .readCompletion _ _ _ => true
  | .readTimeout _ => true
  | .lateCompletion _ => true
  | .tagQuarantineEnd _ => true
  | .ringError ring => decide (ring < 16384)
  | .acceptance ring => decide (ring < 16384)
  | .ringEnable src ring _ => src.wf && decide (ring < 16384)
  | .cancel src ring _ => src.wf && decide (ring < 16384)
  | .hifCancel src _ => src.wf
  | .clrErr src ring _ => src.wf && decide (ring < 16384)
  | .nop _ => true
  | .forward ring => decide (ring < 16384)
  | .writeInline _ => true
  | .hcopyIn _ => true
  | .hcopyOut _ => true
  | .fence _ => true
  | .flush _ => true
  | .completion ring => decide (ring < 16384)
  | .holdoff ring => decide (ring < 16384)
  | .h2mSend src _ => src.wf
  | .m2hAck src _ => src.wf
  | .m2hSend src _ => src.wf
  | .h2mAck src _ => src.wf
  | .perst => true
  | .d3hot _ _ => true
  | .tileDispatch tile => decide (tile < 64)
  | .array _ _ => true
  | .reForming tile => decide (tile < 64)
  | .expertPass _ _ _ => true
  | .eltConvert _ _ => true
  | .eltAdd _ _ => true
  | .eltMul _ _ => true
  | .eltFma _ _ => true
  | .eltMax _ _ => true
  | .eltMin _ _ => true
  | .eltCurve _ _ => true
  | .eltReduce _ _ => true
  | .rmsNorm _ _ => true
  | .layerNorm _ _ => true
  | .softmax _ _ => true
  | .attnOnline _ _ => true
  | .attnFinal _ _ => true
  | .resid _ _ => true
  | .matvec _ _ _ => true
  | .tileArrInj src phys _ => src.wf && decide (phys < 68)
  | .scrub phys _ => decide (phys < 68)
  | .controlNop _ => true
  | .markSet _ => true
  | .creditSet _ => true
  | .controlFence _ => true
  | .load _ _ => true
  | .store _ _ => true
  | .accum _ _ => true
  | .prefetch _ _ => true
  | .receive _ => true
  | .segmentDelivered _ => true
  | .halt _ => true
  | .streamResume tile => decide (tile < 64)
  | .creditWatchdog tile => decide (tile < 64)
  | .routeJob _ => true
  | .passFill _ _ => true
  | .scatter _ _ _ => true
  | .combine _ => true
  | .stepClose cluster slot => decide (cluster < 4) && decide (slot < 64)
  | .pend src cluster _ => src.wf && decide (cluster < 4)
  | .segmentCommit _ => true
  | .accumulateOnWrite _ => true
  | .voteSeal _ => true
  | .vote entry => decide (entry < 8192)
  | .voteDecision entry => decide (entry < 8192)
  | .contrib => true
  | .verdict => true
  | .verdictReq => true
  | .verdictReqRepeat => true
  | .collectiveReduce _ => true
  | .rcontrib => true
  | .rresult => true
  | .reduceTimeout _ => true
  | .sweep _ => true
  | .prep _ => true
  | .commitGroup _ => true
  | .sweepCopy _ => true
  | .final _ => true
  | .promotion _ => true
  | .promotionFailed _ => true
  | .flashReadTimeout _ => true
  | .lateFlashData _ => true
  | .flashTagQuarantine _ => true
  | .writeBack _ _ => true
  | .cleaning => true
  | .tierFlush src _ => src.wf
  | .tierEvict src _ => src.wf
  | .tierInvalidate src _ => src.wf
  | .tierFill src _ => src.wf
  | .tierAbort src _ => src.wf
  | .patrolScrub stack _ => decide (stack < 20)
  | .pchRetired pch _ => decide (pch < 640)
  | .chunkCopy pch _ => decide (pch < 640)
  | .copyBack pch => decide (pch < 640)
  | .stackRetired stack _ => decide (stack < 20)
  | .flashStackRetired stack => decide (stack < 4)
  | .set0 _ _ => true
  | .set1 _ _ => true
  | .rowCopy _ _ => true
  | .rowNot _ _ => true
  | .rowAnd _ _ => true
  | .rowOr _ _ => true
  | .rowXor _ _ => true
  | .rowAndn _ _ => true
  | .rowMaj _ _ => true
  | .rowSeal _ _ => true
  | .rowUnseal _ => true
  | .data port flit => decide (port < 6) && decide (flit.payload.length = 232)
  | .idle port flit => decide (port < 6) && decide (flit.payload.length = 232)
  | .ident port flit => decide (port < 6) && decide (flit.payload.length = 232)
  | .pmEnter port flit => decide (port < 6) && decide (flit.payload.length = 232)
  | .pmAck port flit => decide (port < 6) && decide (flit.payload.length = 232)
  | .pmWake port flit => decide (port < 6) && decide (flit.payload.length = 232)
  | .echoReq port flit => decide (port < 6) && decide (flit.payload.length = 232)
  | .echoRsp port flit _ => decide (port < 6) && decide (flit.payload.length = 232)
  | .wheelpos port flit => decide (port < 6) && decide (flit.payload.length = 232)
  | .wheelposInstant => true
  | .down port flit => decide (port < 6) && decide (flit.payload.length = 232)
  | .replayTimeout port => decide (port < 6)
  | .fastRetrain port => decide (port < 6)
  | .pmd port => decide (port < 6)
  | .lock port _ => decide (port < 6)
  | .attemptTimeout port => decide (port < 6)
  | .gapS port => decide (port < 6)
  | .flitSilence port => decide (port < 6)
  | .noSignal port => decide (port < 6)
  | .laneRetired port lane _ => decide (port < 6) && decide (lane < 8)
  | .portRetired port => decide (port < 6)
  | .retrain src port _ => src.wf && decide (port < 6)
  | .readmit src port _ => src.wf && decide (port < 6)
  | .holddown src port _ => src.wf && decide (port < 6)
  | .selftest port _ => decide (port < 6)
  | .write _ => true
  | .readReq _ => true
  | .readData => true
  | .ack => true
  | .refuse => true
  | .winOpen src slot _ => src.wf && decide (slot < 256)
  | .winClose src slot _ => src.wf && decide (slot < 256)
  | .resend dst slot => decide (dst < 65536) && decide (slot < 256)
  | .remoteReadTimeout _ => true
  | .rtagQuarantine _ => true
  | .wheelMark _ => true
  | .stuck => true
  | .revolutionBoundary => true
  | .referenceLoss => true
  | .referenceRestore => true
  | .disciplined => true
  | .grant entry => decide (entry < 8192)
  | .grantClose port => decide (port < 6)
  | .mark entry => decide (entry < 8192)
  | .clrcount src _ => src.wf
  | .fullLoad src _ => src.wf
  | .partialLoad src _ => src.wf
  | .storeAction src _ => src.wf
  | .erase src _ => src.wf
  | .abort src _ => src.wf
  | .herdCheck req => req.wf
  | .verifying _ => true
  | .harnessApply => true
  | .prldTimeout => true
  | .autoload => true
  | .startOrder => true
  | .porstN _ straps => decide (straps < 4)
  | .wrstN _ => true
  | .resumption => true
  | .pwrWarnN => true
  | .thermN sensor _ => decide (sensor < 64)
  | .railFault rail => decide (rail < 7)
  | .powerCap _ => true
  | .park src _ => src.wf
  | .parkEntry => true
  | .parkExit => true
  | .tileRetired phys _ => decide (phys < 68)
  | .unitRetired unit => decide (unit < 12)
  | .ringRetired ring => decide (ring < 16384)
  | .fatal cause => decide (1 ≤ cause ∧ cause ≤ 5)
  | .jrnReadmit src _ => src.wf
  | .selfTest _ _ _ => true
  | .jrnPlclr src _ => src.wf
  | .difEnable src _ => src.wf
  | .baseMark src _ => src.wf
  | .delivery => true
  | .difCons src _ => src.wf
  | .importEnable src _ => src.wf
  | .importNext => true
  | .importResume src _ => src.wf
  | .read32 reader _ => reader.wf
  | .read64 reader _ => reader.wf
  | .write32 addr _ _ _ => decide (addr < 128)
  | .write64 addr _ _ _ => decide (addr < 128)
  | .registerWrite src _ _ _ => src.wf
  | .bypass => true
  | .idcode => true
  | .samplePreload => true
  | .extest => true
  | .extestPulse => true
  | .extestTrain => true
  | .clamp => true
  | .highz => true
  | .flitSlot port _ => decide (port < 6)
  | .pcieLinkUp _ _ _ => true
  | .msiXEnable => true
  | .unitStarted _ _ => true
  | .pauseEnd => true
  | .evacuation _ _ _ => true
  | .fillProgrammed _ => true
  | .ccc kind => kind.wf
  | .alertResponse => true
  | .trstN _ => true

end Sys2Proof
end

