-- ==== Sys2Proof/Decode.lean ====
section
/-! DEFINITION. The decoder of the operation table's words. No row of spec/opcode_table.json has bits: every command of this block is a write, a read, a message or an event, and none is a word that a decoder reads (log entry 49). -/

namespace Sys2Proof

/-- The command that a word of `nbits` bits spells by the table's bits: none, since no row gives bits. -/
def decodeTableWord (_nbits _w : Nat) : Option Instr := none

end Sys2Proof
end

