-- ==== Sys2Proof/Config.lean ====
section
/-! DEFINITION. What one package's fabrication and the manual's silence leave open: constants and functions without a body, so that nothing can be proved of their values (log entries 4 to 6). -/

namespace Sys2Proof

/-- The built-in exp2 of the element unit at arguments the manual gives no bits for: it states an accuracy of 1 unit in the last place and one fixed algorithm (R147), not the results. Free value, log entry 4. -/
opaque Config.exp2 : F32 → F32

/-- The built-in log2 of the element unit and of the update lanes (R147, R289). Free value, log entry 4. -/
opaque Config.log2 : F32 → F32

/-- The built-in rsqrt of the element unit (R147). Free value, log entry 4. -/
opaque Config.rsqrt : F32 → F32

/-- The package's serial number (R56). Free value, log entry 5. -/
opaque Config.serial : Word

/-- Svairarel's PCI vendor identifier (R56, R449). Free value, log entry 5. -/
opaque Config.vendorId : BitVec 16

/-- The manufacturer field of the IDCODE (R571). Free value, log entry 5. -/
opaque Config.jedecId : BitVec 11

/-- A package's fused minimum tile voltages at the eight knots, in mV (R601). Free value, log entry 5. -/
opaque Config.vmin : Nat → BitVec 16

/-- A value the manual leaves open at a place and for an occasion, numbered by the counter of the state. Free value, log entry 6. -/
opaque Config.freeWord : Nat → Word

end Sys2Proof
end

