-- ==== Sys2Proof/Machine/Bits.lean ====
section
/-! DEFINITION. Bit fields, little-endian bytes and the CRC of the manual (R14, R61, R365, R490): the helpers every other file of the machine reads words with. -/

set_option Elab.async false

namespace Sys2Proof.Machine

/-- `n` ones starting at bit `lo`. -/
def mask64 (lo n : Nat) : Word := BitVec.ofNat 64 (2 ^ n - 1) <<< lo

/-- The field of `n` bits whose lowest bit is `lo` (R14). -/
def bits (w : Word) (lo n : Nat) : Nat := (w.extractLsb' lo n).toNat

/-- One bit of a word (R14). -/
def bit (w : Word) (i : Nat) : Bool := w.getLsbD i

/-- The word with its field of `n` bits at `lo` set to `v`, the other bits as they were. -/
def putBits (w : Word) (lo n v : Nat) : Word :=
  (w &&& ~~~(mask64 lo n)) ||| ((BitVec.ofNat 64 v &&& mask64 0 n) <<< lo)

/-- A word assembled from fields `(lo, n, v)`, every other bit zero. -/
def wordOf : List (Nat × Nat × Nat) → Word
  | [] => 0
  | (lo, n, v) :: r => putBits (wordOf r) lo n v

/-- 1 for true, 0 for false: a flag as a register field shows it. -/
def b2n (b : Bool) : Nat := if b then 1 else 0

/-- The value of a little-endian byte string (R14). -/
def leNat : List Byte → Nat
  | [] => 0
  | b :: r => b.toNat + 256 * leNat r

/-- The `n` bytes of `v`, least significant first (R14). -/
def leBytes : Nat → Nat → List Byte
  | 0, _ => []
  | n + 1, v => BitVec.ofNat 8 v :: leBytes n (v / 256)

/-- The 64-bit word at byte offset `off` of a byte string; bytes past its end read as zero. -/
def wordAt (bs : List Byte) (off : Nat) : Word := BitVec.ofNat 64 (leNat ((bs.drop off).take 8))

/-- The 32-bit word at byte offset `off` of a byte string; bytes past its end read as zero. -/
def word32At (bs : List Byte) (off : Nat) : Nat := leNat ((bs.drop off).take 4)

/-- A byte string cut into 64-bit words, `n` of them. -/
def wordsOfBytes : Nat → List Byte → List Word
  | 0, _ => []
  | n + 1, bs => BitVec.ofNat 64 (leNat (bs.take 8)) :: wordsOfBytes n (bs.drop 8)

/-- The bytes of a list of 64-bit words, each word little-endian (R14). -/
def bytesOfWords : List Word → List Byte
  | [] => []
  | w :: r => leBytes 8 w.toNat ++ bytesOfWords r

/-- The word of index `i` of a command or a descriptor; zero past its end. -/
def wget (ws : List Word) (i : Nat) : Word := ws.getD i 0

/-- One bit step of CRC-32C: the register shifted down, and the Castagnoli polynomial, reflected, where a 1 left it. -/
def crcBit (c : Nat) : Nat := (c / 2) ^^^ (0x82F63B78 * (c % 2))

/-- The CRC register after one more byte. -/
def crcByte (c : Nat) (b : Byte) : Nat :=
  crcBit (crcBit (crcBit (crcBit (crcBit (crcBit (crcBit (crcBit (c ^^^ b.toNat))))))))

/-- The CRC register after more bytes, each byte's register computed before the next one's. -/
def crcBytes : List Byte → Nat → Nat
  | [], c => c
  | b :: r, c =>
    match crcByte c b with
    | 0 => crcBytes r 0
    | n + 1 => crcBytes r (n + 1)

/-- CRC-32C of a byte string (R61, R63, R365, R490, R565). -/
def crc32c (bs : List Byte) : Nat := (crcBytes bs 0xFFFFFFFF) ^^^ 0xFFFFFFFF

/-- Sign extension of an `n`-bit field. -/
def signed (n v : Nat) : Int := if v < 2 ^ (n - 1) then (v : Int) else (v : Int) - (2 : Int) ^ n

/-- The numbers from `a` on, `n` of them. -/
def numsFrom : Nat → Nat → List Nat
  | _, 0 => []
  | a, n + 1 => a :: numsFrom (a + 1) n

/-- Rounding up to a multiple of `m`. -/
def roundUp (m a : Nat) : Nat := (a + m - 1) / m * m

/-- Division rounding up. -/
def ceilDiv (a b : Nat) : Nat := (a + b - 1) / b

/-- Whether the ranges [a, a + m) and [b, b + n) share a byte; an empty range shares none. -/
def overlaps (a m b n : Nat) : Bool := decide (0 < m) && decide (0 < n) && decide (a < b + n) && decide (b < a + m)

/-- The element of index `i` replaced, the list otherwise as it was. -/
def setAt {α : Type} : List α → Nat → α → List α
  | [], _, _ => []
  | _ :: r, 0, v => v :: r
  | x :: r, i + 1, v => x :: setAt r i v

end Sys2Proof.Machine
end

