-- ==== Sys2Proof/Machine/Num.lean ====
section
/-! DEFINITION. Exact binary arithmetic and its one rounding (R90, R95, R99, R105): every float of the manual is decoded to an exact value, computed with exactly, and rounded once. -/

set_option Elab.async false

namespace Sys2Proof.Machine

/-- A decoded float: a NaN, an infinity, or plus or minus `m` times 2^`e` (`m = 0` is a signed zero). -/
inductive FV where
  | nan
  | inf (neg : Bool)
  | fin (neg : Bool) (m : Nat) (e : Int)
  deriving DecidableEq, Repr

/-- An exact sum in progress: `m` times 2^`e`. -/
structure Dy where
  m : Int
  e : Int
  deriving DecidableEq, Repr

/-- How a value that lies between two representable ones is rounded (R99). -/
inductive Rnd where
  | nearestEven
  | towardZero
  deriving DecidableEq, Repr

/-- The number of binary digits of `m`. -/
def bitLen (m : Nat) : Nat := if m = 0 then 0 else Nat.log2 m + 1

/-- 2 to an integer power at least 0; 1 for a negative power (the callers pass none). -/
def pow2 (k : Int) : Nat := 2 ^ k.toNat

/-- Exact sum. -/
def dyAdd (a b : Dy) : Dy :=
  if a.m = 0 then b else if b.m = 0 then a
  else if a.e ≤ b.e then ⟨a.m + b.m * (pow2 (b.e - a.e) : Int), a.e⟩
  else ⟨a.m * (pow2 (a.e - b.e) : Int) + b.m, b.e⟩

/-- Exact product. -/
def dyMul (a b : Dy) : Dy := ⟨a.m * b.m, a.e + b.e⟩

/-- An exact value times 2^`k`. -/
def dyScale (a : Dy) (k : Int) : Dy := ⟨a.m, a.e + k⟩

/-- The exact value as a float value; an exact zero is +0 (R105, IEEE 754). -/
def dyFV (a : Dy) : FV := .fin (decide (a.m < 0)) a.m.natAbs a.e

/-- A finite float value as an exact value; not used on the others. -/
def fvDy : FV → Dy
  | .fin s m e => ⟨if s then -(m : Int) else (m : Int), e⟩
  | _ => ⟨0, 0⟩

/-- Whether the value is finite. -/
def fvFinite : FV → Bool
  | .fin _ _ _ => true
  | _ => false

/-- Whether the value is a zero of either sign. -/
def fvIsZero : FV → Bool
  | .fin _ m _ => m == 0
  | _ => false

/-- The sign of a value; a NaN counts as positive (R105). -/
def fvNegative : FV → Bool
  | .nan => false
  | .inf s => s
  | .fin s _ _ => s

/-- Negation. -/
def fvNeg : FV → FV
  | .nan => .nan
  | .inf s => .inf (!s)
  | .fin s m e => .fin (!s) m e

/-- Magnitude. -/
def fvAbs : FV → FV
  | .nan => .nan
  | .inf _ => .inf false
  | .fin _ m e => .fin false m e

/-- Exact sum of two float values; Inf − Inf is NaN, and the sum of two zeros is negative only if both are (R105, IEEE 754). -/
def fvAdd : FV → FV → FV
  | .nan, _ => .nan
  | _, .nan => .nan
  | .inf a, .inf b => if a = b then .inf a else .nan
  | .inf a, _ => .inf a
  | _, .inf b => .inf b
  | .fin s m e, .fin t n f =>
    if m = 0 ∧ n = 0 then .fin (s && t) 0 0
    else dyFV (dyAdd (fvDy (.fin s m e)) (fvDy (.fin t n f)))

/-- Exact difference. -/
def fvSub (a b : FV) : FV := fvAdd a (fvNeg b)

/-- Exact product of two float values; 0 × Inf is NaN (R105). -/
def fvMul : FV → FV → FV
  | .nan, _ => .nan
  | _, .nan => .nan
  | .inf a, .inf b => .inf (a != b)
  | .inf a, .fin t n _ => if n = 0 then .nan else .inf (a != t)
  | .fin s m _, .inf b => if m = 0 then .nan else .inf (s != b)
  | .fin s m e, .fin t n f => .fin (s != t) (m * n) (e + f)

/-- Quotient to 130 digits beyond the divisor, its last digit 1 if anything was cut off, which every rounding below rounds as the exact quotient (IEEE 754). -/
def fvDiv : FV → FV → FV
  | .nan, _ => .nan
  | _, .nan => .nan
  | .inf _, .inf _ => .nan
  | .inf a, .fin t _ _ => .inf (a != t)
  | .fin s _ _, .inf b => .fin (s != b) 0 0
  | .fin s m e, .fin t n f =>
    if n = 0 then (if m = 0 then .nan else .inf (s != t))
    else
      let k := 130 + bitLen n
      let q := m * 2 ^ k / n
      let st := if m * 2 ^ k % n = 0 then 0 else 1
      .fin (s != t) (2 * q + st) (e - f - (k : Int) - 1)

/-- The integer square root, one binary digit of the root at a time from digit `i` down. -/
def isqrtFrom : Nat → Nat → Nat → Nat
  | 0, _, r => r
  | i + 1, x, r => if (r + 2 ^ i) * (r + 2 ^ i) ≤ x then isqrtFrom i x (r + 2 ^ i) else isqrtFrom i x r

/-- The largest integer whose square is at most `x`. -/
def isqrt (x : Nat) : Nat := isqrtFrom (bitLen x / 2 + 1) x 0

/-- Square root with a sticky last digit, as `fvDiv`; the root of a negative number is NaN and of a zero that zero (IEEE 754). -/
def fvSqrt : FV → FV
  | .nan => .nan
  | .inf s => if s then .nan else .inf false
  | .fin s m e =>
    if m = 0 then .fin s 0 0
    else if s then .nan
    else
      let odd := e % 2 ≠ 0
      let m2 := if odd then 2 * m else m
      let e2 := if odd then e - 1 else e
      let x := m2 * 2 ^ 240
      let r := isqrt x
      .fin false (2 * r + (if r * r = x then 0 else 1)) (e2 / 2 - 120 - 1)

/-- The magnitude `m` times 2^`e` rounded to at most `p` digits with a last digit worth at least 2^`emin` (R99). -/
def roundMag (r : Rnd) (p : Nat) (emin : Int) (m : Nat) (e : Int) : Nat × Int :=
  let q : Int := max emin (e + (bitLen m : Int) - (p : Int))
  if q ≤ e then (m * pow2 (e - q), q)
  else
    let d := pow2 (q - e)
    let t := m / d
    let rem := m % d
    match r with
    | .towardZero => (t, q)
    | .nearestEven => if d < 2 * rem ∨ (2 * rem = d ∧ t % 2 = 1) then (t + 1, q) else (t, q)

/-- A float format of `ew` exponent and `mw` mantissa bits. -/
structure BinFmt where
  ew : Nat
  mw : Nat
  bias : Nat
  deriving DecidableEq, Repr

/-- binary16, bfloat16, binary32 and binary64 (R90, R105). -/
def fmt16 : BinFmt := ⟨5, 10, 15⟩
/-- bfloat16 (R90). -/
def fmtBf16 : BinFmt := ⟨8, 7, 127⟩
/-- binary32 (R90). -/
def fmt32 : BinFmt := ⟨8, 23, 127⟩
/-- binary64 (R105). -/
def fmt64 : BinFmt := ⟨11, 52, 1023⟩
/-- E4M3 (R90). -/
def fmtE4M3 : BinFmt := ⟨4, 3, 7⟩
/-- E5M2 (R90). -/
def fmtE5M2 : BinFmt := ⟨5, 2, 15⟩
/-- E3M2 (R90). -/
def fmtE3M2 : BinFmt := ⟨3, 2, 3⟩
/-- E2M3 (R90). -/
def fmtE2M3 : BinFmt := ⟨2, 3, 1⟩
/-- E2M1 (R90). -/
def fmtE2M1 : BinFmt := ⟨2, 1, 1⟩
/-- The unsigned E5M3 of M8U (R110). -/
def fmtE5M3 : BinFmt := ⟨5, 3, 15⟩

/-- The exponent of a format's smallest step. -/
def BinFmt.emin (f : BinFmt) : Int := 1 - (f.bias : Int) - (f.mw : Int)

/-- The magnitude code of `t` times 2^`q`, which the format can hold (or whose code lies above its codes, by which overflow is seen). -/
def BinFmt.magCode (f : BinFmt) (t : Nat) (q : Int) : Nat :=
  if t < 2 ^ f.mw then t
  else
    let l := bitLen t - 1
    let ex := ((l : Int) + q + (f.bias : Int)).toNat
    let man := (if l ≤ f.mw then t * 2 ^ (f.mw - l) else t / 2 ^ (l - f.mw)) - 2 ^ f.mw
    ex * 2 ^ f.mw + man

/-- The exact value of a magnitude code, all codes finite. -/
def BinFmt.magValue (f : BinFmt) (c : Nat) : Nat × Int :=
  let ex := c / 2 ^ f.mw
  let man := c % 2 ^ f.mw
  if ex = 0 then (man, f.emin) else (2 ^ f.mw + man, f.emin + (ex : Int) - 1)

/-- The sign position of a format. -/
def BinFmt.signBit (f : BinFmt) : Nat := f.ew + f.mw

/-- Decoding of an IEEE 754 style format: the top exponent holds the infinities and the NaNs (R90). -/
def BinFmt.decIEEE (f : BinFmt) (c : Nat) : FV :=
  let s := decide (c / 2 ^ f.signBit % 2 = 1)
  let g := c % 2 ^ f.signBit
  if g / 2 ^ f.mw = 2 ^ f.ew - 1 then (if g % 2 ^ f.mw = 0 then .inf s else .nan)
  else .fin s (f.magValue g).1 (f.magValue g).2

/-- Encoding to an IEEE 754 style format, to nearest with ties to even; a NaN is the canonical one (R105, R106). -/
def BinFmt.encIEEE (f : BinFmt) : FV → Nat
  | .nan => (2 ^ f.ew - 1) * 2 ^ f.mw + 2 ^ (f.mw - 1)
  | .inf s => (b2n s) * 2 ^ f.signBit + (2 ^ f.ew - 1) * 2 ^ f.mw
  | .fin s m e =>
    let r := roundMag .nearestEven (f.mw + 1) f.emin m e
    (b2n s) * 2 ^ f.signBit + min (f.magCode r.1 r.2) ((2 ^ f.ew - 1) * 2 ^ f.mw)

/-- The value of a binary32 pattern. -/
def ofF32 (x : F32) : FV := fmt32.decIEEE x.toNat
/-- The binary32 pattern nearest to a value. -/
def toF32 (v : FV) : F32 := BitVec.ofNat 32 (fmt32.encIEEE v)
/-- The value of a binary64 pattern. -/
def ofF64 (x : F64) : FV := fmt64.decIEEE x.toNat
/-- The binary64 pattern nearest to a value. -/
def toF64 (v : FV) : F64 := BitVec.ofNat 64 (fmt64.encIEEE v)

/-- The canonical binary32 NaN (R105). -/
def nan32 : F32 := 0x7FC00000
/-- The canonical binary64 NaN (R105). -/
def nan64 : F64 := 0x7FF8000000000000

/-- FP32 addition (R105). -/
def f32Add (a b : F32) : F32 := toF32 (fvAdd (ofF32 a) (ofF32 b))
/-- FP32 subtraction. -/
def f32Sub (a b : F32) : F32 := toF32 (fvSub (ofF32 a) (ofF32 b))
/-- FP32 multiplication. -/
def f32Mul (a b : F32) : F32 := toF32 (fvMul (ofF32 a) (ofF32 b))
/-- FP32 fused multiply-add: one rounding. -/
def f32Fma (a b c : F32) : F32 := toF32 (fvAdd (fvMul (ofF32 a) (ofF32 b)) (ofF32 c))
/-- FP32 division, correctly rounded. -/
def f32Div (a b : F32) : F32 := toF32 (fvDiv (ofF32 a) (ofF32 b))
/-- FP32 square root, correctly rounded. -/
def f32Sqrt (a : F32) : F32 := toF32 (fvSqrt (ofF32 a))
/-- Negation of an FP32 pattern. -/
def f32Neg (a : F32) : F32 := toF32 (fvNeg (ofF32 a))
/-- Magnitude of an FP32 pattern. -/
def f32Abs (a : F32) : F32 := toF32 (fvAbs (ofF32 a))

/-- binary64 addition. -/
def f64Add (a b : F64) : F64 := toF64 (fvAdd (ofF64 a) (ofF64 b))
/-- binary64 subtraction. -/
def f64Sub (a b : F64) : F64 := toF64 (fvSub (ofF64 a) (ofF64 b))
/-- binary64 multiplication. -/
def f64Mul (a b : F64) : F64 := toF64 (fvMul (ofF64 a) (ofF64 b))
/-- binary64 division. -/
def f64Div (a b : F64) : F64 := toF64 (fvDiv (ofF64 a) (ofF64 b))
/-- binary64 square root. -/
def f64Sqrt (a : F64) : F64 := toF64 (fvSqrt (ofF64 a))

/-- Whether a value is below another; false when either is a NaN, and the two zeros are equal (IEEE 754). -/
def fvLt : FV → FV → Bool
  | .nan, _ => false
  | _, .nan => false
  | .inf a, .inf b => a && !b
  | .inf a, _ => a
  | _, .inf b => !b
  | .fin s m e, .fin t n f => decide ((dyAdd (fvDy (.fin s m e)) (fvDy (.fin (!t) n f))).m < 0)

/-- Whether two values are equal as numbers; false when either is a NaN. -/
def fvEq : FV → FV → Bool
  | .nan, _ => false
  | _, .nan => false
  | .inf a, .inf b => a == b
  | .inf _, _ => false
  | _, .inf _ => false
  | .fin s m e, .fin t n f => decide ((dyAdd (fvDy (.fin s m e)) (fvDy (.fin (!t) n f))).m = 0)

/-- At most, as numbers. -/
def fvLe (a b : FV) : Bool := fvLt a b || fvEq a b

/-- A natural number as a float value. -/
def fvNat (n : Nat) : FV := .fin false n 0

/-- 1.0 in FP32. -/
def one32 : F32 := 0x3F800000

end Sys2Proof.Machine
end

