-- ==== Sys2Proof/Machine/Formats.lean ====
section
/-! DEFINITION. The element formats of file 04: rows, decoding, encoding with its rounding and saturation, block scales, the stochastic generator, and the gradient and moment formats. -/

set_option Elab.async false

namespace Sys2Proof.Machine

/-- A row of the format table (R68): `kind` 0 absent, 1 built-in, 2 custom; `table` holds the FP32 decode entries of a custom row, 2^`width` of them. -/
structure FmtRow where
  kind : Nat
  builtin : Nat
  width : Nat
  encode : Nat
  scaled : Bool
  table : List F32
  deriving DecidableEq, Repr

/-- An absent row (R69). -/
def FmtRow.absent : FmtRow := ⟨0, 0, 0, 0, false, []⟩

/-- A built-in row with an ENCODE rule (R68, R69). -/
def FmtRow.ofBuiltin (b e : Nat) : FmtRow := ⟨1, b, 0, e, decide (6 ≤ b), []⟩

/-- Element width in bits (R68, R90). -/
def FmtRow.bitsOf (r : FmtRow) : Nat :=
  if r.kind = 2 then r.width
  else match r.builtin with
    | 1 => 16
    | 2 => 16
    | 3 => 32
    | 8 => 6
    | 9 => 6
    | 10 => 4
    | _ => 8

/-- Decoding of E4M3: every code finite but 0x7F and 0xFF (R90). -/
def decE4M3 (c : Nat) : FV :=
  if c % 128 = 127 then .nan
  else .fin (decide (c / 128 % 2 = 1)) (fmtE4M3.magValue (c % 128)).1 (fmtE4M3.magValue (c % 128)).2

/-- Decoding of a format every code of which is finite (R90). -/
def decFinite (f : BinFmt) (c : Nat) : FV :=
  .fin (decide (c / 2 ^ f.signBit % 2 = 1)) (f.magValue (c % 2 ^ f.signBit)).1 (f.magValue (c % 2 ^ f.signBit)).2

/-- The value of an element code of a row, without its block scale (R90). -/
def FmtRow.decode (r : FmtRow) (c : Nat) : FV :=
  if r.kind = 2 then ofF32 (r.table.getD c 0)
  else match r.builtin with
    | 1 => fmt16.decIEEE c
    | 2 => fmtBf16.decIEEE c
    | 3 => fmt32.decIEEE c
    | 4 => decE4M3 c
    | 5 => fmtE5M2.decIEEE c
    | 6 => decE4M3 c
    | 7 => fmtE5M2.decIEEE c
    | 8 => decFinite fmtE3M2 c
    | 9 => decFinite fmtE2M3 c
    | 10 => decFinite fmtE2M1 c
    | 11 => .fin (decide (128 ≤ c)) (signed 8 c).natAbs (-6)
    | _ => .nan

/-- A value times the scale 2^(`s` − 127); the code 0xFF makes it a NaN (R97). -/
def applyScale (s : Nat) (v : FV) : FV :=
  if s = 255 then .nan
  else match v with
    | .fin n m e => .fin n m (e + (s : Int) - 127)
    | x => x

/-- An element as the element unit reads it: the scaled value, a magnitude of 2^128 or more an infinity (R147). -/
def toEU (v : FV) : FV :=
  match v with
  | .fin n m e => if 0 < m ∧ 128 ≤ (bitLen m : Int) - 1 + e then .inf n else v
  | x => x

/-- The mixing function of R102. -/
def mix64 (z : Word) : Word :=
  let a := (z ^^^ (z >>> 30)) * 0xBF58476D1CE4E5B9
  let b := (a ^^^ (a >>> 27)) * 0x94D049BB133111EB
  b ^^^ (b >>> 31)

/-- The 16-bit draw of R102. -/
def draw16 (seed tid idx : Word) : Nat :=
  bits (mix64 (mix64 (mix64 (seed + 0x9E3779B97F4A7C15) ^^^ tid) ^^^ idx)) 48 16

/-- What an encode did beside its code: the events of R107, with the KIND of TILE_FMTKIND. -/
inductive EncEvent where
  | saturated
  | nanMade
  | infMade
  | scaleFF
  | customFinite
  | negativeM8U
  deriving DecidableEq, Repr

/-- The KIND that TILE_FMTKIND reports for an event counted in TILE_FMTNF; 0 for a saturation (R112). -/
def EncEvent.kind : EncEvent → Nat
  | .saturated => 0
  | .nanMade => 1
  | .infMade => 2
  | .scaleFF => 3
  | .customFinite => 4
  | .negativeM8U => 5

/-- A code and the events of encoding it. -/
abbrev Coded := Nat × List EncEvent

/-- The magnitude code of a finite magnitude not above the format's largest, under ENCODE `enc` with draw `d` (R99, R101). -/
def magEncode (f : BinFmt) (enc d m : Nat) (e : Int) : Nat :=
  match enc with
  | 0 => let r := roundMag .nearestEven (f.mw + 1) f.emin m e; f.magCode r.1 r.2
  | 1 =>
    let r := roundMag .towardZero (f.mw + 1) f.emin m e
    let lo := f.magCode r.1 r.2
    if r.2 ≤ e then lo
    else
      let step := pow2 (r.2 - e)
      let rem := m % step
      if rem = 0 then lo
      else if d < 65536 * rem / step then lo + 1 else lo
  | _ => let r := roundMag .towardZero (f.mw + 1) f.emin m e; f.magCode r.1 r.2

/-- Whether the magnitude `m` times 2^`e` lies above the value of magnitude code `top`. -/
def aboveCode (f : BinFmt) (top m : Nat) (e : Int) : Bool :=
  fvLt (.fin false (f.magValue top).1 (f.magValue top).2) (.fin false m e)

/-- Encoding of a finite value into a format of finite codes up to `top`: above the largest finite value it saturates (R106). -/
def encMini (f : BinFmt) (top enc d : Nat) (s : Bool) (m : Nat) (e : Int) : Coded :=
  let sg := b2n s * 2 ^ f.signBit
  if aboveCode f top m e then (sg + top, [.saturated])
  else (sg + magEncode f enc d m e, [])

/-- The largest finite magnitude code of an IEEE-style format. -/
def BinFmt.topFinite (f : BinFmt) : Nat := (2 ^ f.ew - 1) * 2 ^ f.mw - 1

/-- Encoding of a finite value into binary16 or bfloat16 (R99, R101, R106): to nearest and stochastic may reach Inf. -/
def encHalf (f : BinFmt) (enc d : Nat) (s : Bool) (m : Nat) (e : Int) : Coded :=
  let sg := b2n s * 2 ^ f.signBit
  let infc := f.topFinite + 1
  let above := aboveCode f f.topFinite m e
  if enc = 2 then (if above then (sg + f.topFinite, [.saturated]) else (sg + magEncode f 2 d m e, []))
  else
    let c := min (magEncode f enc d m e) infc
    if c = infc then (sg + infc, [.infMade])
    else (sg + c, if above then [.saturated] else [])

/-- The entries of a custom row as values, in code order. -/
def FmtRow.entries (r : FmtRow) : List FV := r.table.map ofF32

/-- The code of the first entry that satisfies `p`. -/
def findCode (p : FV → Bool) : Nat → List FV → Option Nat
  | _, [] => none
  | i, v :: r => if p v then some i else findCode p (i + 1) r

/-- Of two entry codes, the one of the larger value by `lt`; the first stands when they are equal. -/
def pickMax (lt : FV → FV → Bool) (es : List FV) (a : Option Nat) (i : Nat) : Option Nat :=
  match a with
  | none => some i
  | some j => if lt (es.getD j .nan) (es.getD i .nan) then some i else some j

/-- The entry codes that satisfy `p`. -/
def codesWhere (p : FV → Bool) (es : List FV) : List Nat := (numsFrom 0 es.length).filter (fun i => p (es.getD i .nan))

/-- The code of the greatest entry that satisfies `p`. -/
def greatestWhere (p : FV → Bool) (es : List FV) : Option Nat := (codesWhere p es).foldl (pickMax fvLt es) none

/-- The code of the least entry that satisfies `p`. -/
def leastWhere (p : FV → Bool) (es : List FV) : Option Nat := (codesWhere p es).foldl (pickMax (fun a b => fvLt b a) es) none

/-- Of the entries whose value equals that of entry `i`, the one with the sign of `neg` if there is one (the two zeros of a custom row). -/
def withSign (neg : Bool) (es : List FV) (i : Nat) : Nat :=
  match findCode (fun v => fvEq v (es.getD i .nan) && (fvNegative v == neg)) 0 es with
  | some j => j
  | none => i

/-- |a − b| as an exact value. -/
def fvDist (a b : FV) : Dy := let d := dyAdd (fvDy a) (fvDy (fvNeg b)); ⟨(d.m.natAbs : Int), d.e⟩

/-- Exact comparison of two distances. -/
def dyLt (a b : Dy) : Bool := decide ((dyAdd a ⟨-b.m, b.e⟩).m < 0)

/-- floor(65536 × a / b) of two exact non-negative values, `b` not zero. -/
def ratio16 (a b : Dy) : Nat :=
  if a.e ≤ b.e then 65536 * a.m.natAbs / (b.m.natAbs * pow2 (b.e - a.e))
  else 65536 * (a.m.natAbs * pow2 (a.e - b.e)) / b.m.natAbs

/-- Encoding of a zero into a custom row (R99): never counted as saturated. -/
def encCustomZero (es : List FV) (neg : Bool) : Nat :=
  match findCode (fun v => fvIsZero v && (fvNegative v == neg)) 0 es with
  | some i => i
  | none =>
    match findCode fvIsZero 0 es with
    | some i => i
    | none =>
      let z : FV := .fin false 0 0
      match greatestWhere (fun v => fvLt v z) es, leastWhere (fun v => fvLt z v) es with
      | none, none => 0
      | some a, none => a
      | none, some b => b
      | some a, some b =>
        let da := fvDist z (es.getD a .nan)
        let db := fvDist z (es.getD b .nan)
        if dyLt da db then a else if dyLt db da then b else if neg then a else b

/-- Encoding of a finite value into a custom row (R99, R101, R106). -/
def encCustom (r : FmtRow) (d : Nat) (s : Bool) (m : Nat) (e : Int) : Coded :=
  let es := r.entries
  let x : FV := .fin s m e
  if m = 0 then (encCustomZero es s, [])
  else
    match findCode (fun v => fvEq v x) 0 es with
    | some i => (i, [])
    | none =>
      match greatestWhere (fun v => fvLt v x) es, leastWhere (fun v => fvLt x v) es with
      | none, none => (0, [])
      | none, some b => (withSign s es b, [.saturated])
      | some a, none => (withSign s es a, [.saturated])
      | some a, some b =>
        let va := es.getD a .nan
        let vb := es.getD b .nan
        if r.encode = 1 then
          let near := if s then b else a
          let far := if s then a else b
          let f := ratio16 (fvDist x (if s then vb else va)) (fvDist va vb)
          (withSign s es (if d < f then far else near), [])
        else
          let da := fvDist x va
          let db := fvDist x vb
          if dyLt da db then (withSign s es a, [])
          else if dyLt db da then (withSign s es b, [])
          else
            let za : Dy := ⟨((fvDy va).m.natAbs : Int), (fvDy va).e⟩
            let zb : Dy := ⟨((fvDy vb).m.natAbs : Int), (fvDy vb).e⟩
            if dyLt za zb then (withSign s es a, [])
            else if dyLt zb za then (withSign s es b, [])
            else (withSign s es (if s then a else b), [])

/-- Encoding of a value already divided by its block's scale, or of an element of a row without scales (R99 to R106). -/
def FmtRow.encodeElt (r : FmtRow) (d : Nat) (v : FV) : Coded :=
  if r.kind = 2 then
    match v with
    | .fin s m e => encCustom r d s m e
    | _ => ((findCode (fun x => fvIsZero x && !fvNegative x) 0 r.entries).getD 0, [.customFinite])
  else
    match r.builtin, v with
    | 1, .fin s m e => encHalf fmt16 r.encode d s m e
    | 2, .fin s m e => encHalf fmtBf16 r.encode d s m e
    | 3, .fin s m e => (fmt32.encIEEE (.fin s m e), [])
    | 4, .fin s m e => encMini fmtE4M3 126 r.encode d s m e
    | 5, .fin s m e => encMini fmtE5M2 fmtE5M2.topFinite r.encode d s m e
    | 6, .fin s m e => encMini fmtE4M3 126 r.encode d s m e
    | 7, .fin s m e => encMini fmtE5M2 fmtE5M2.topFinite r.encode d s m e
    | 8, .fin s m e => encMini fmtE3M2 31 r.encode d s m e
    | 9, .fin s m e => encMini fmtE2M3 31 r.encode d s m e
    | 10, .fin s m e => encMini fmtE2M1 7 r.encode d s m e
    | 11, .fin s m e =>
      -- the integer codes of MXINT8 are a fixed-point magnitude in steps of 2^-6, code 0x80 never written
      let mag := if fvLt (.fin false 127 (-6)) (.fin false m e) then 127 else
        (match r.encode with
          | 0 => let q := roundMag .nearestEven 64 (-6) m e; q.1 * pow2 (q.2 + 6)
          | 1 =>
            let q := roundMag .towardZero 64 (-6) m e
            let lo := q.1 * pow2 (q.2 + 6)
            if q.2 ≤ e then lo
            else if d < 65536 * (m % pow2 (q.2 - e)) / pow2 (q.2 - e) then lo + 1 else lo
          | _ => let q := roundMag .towardZero 64 (-6) m e; q.1 * pow2 (q.2 + 6))
      ((if s then (256 - mag) % 256 else mag), if fvLt (.fin false 127 (-6)) (.fin false m e) then [.saturated] else [])
    | 1, .inf s => (fmt16.encIEEE (.inf s), [.infMade])
    | 2, .inf s => (fmtBf16.encIEEE (.inf s), [.infMade])
    | 3, .inf s => (fmt32.encIEEE (.inf s), [.infMade])
    | 4, .inf s => (127 + 128 * b2n s, [.nanMade])
    | 5, .inf s => (124 + 128 * b2n s, [.infMade])
    | 1, .nan => (fmt16.encIEEE .nan, [.nanMade])
    | 2, .nan => (fmtBf16.encIEEE .nan, [.nanMade])
    | 3, .nan => (fmt32.encIEEE .nan, [.nanMade])
    | 4, .nan => (127, [.nanMade])
    | 5, .nan => (126, [.nanMade])
    | _, _ => (0, [])

/-- floor(log2) of a positive magnitude. -/
def floorLog2 (m : Nat) (e : Int) : Int := (bitLen m : Int) - 1 + e

/-- The largest magnitude among the finite values of a block, as an exact value (R98). -/
def amaxOf (vs : List FV) : Dy :=
  vs.foldl (fun a v =>
    match v with
    | .fin _ m e => if dyLt a ⟨(m : Int), e⟩ then ⟨(m : Int), e⟩ else a
    | _ => a) ⟨0, 0⟩

/-- The exponent of the largest power of two not above a format row's largest finite magnitude (R90). -/
def FmtRow.emax (r : FmtRow) : Int :=
  if r.kind = 2 then
    let a := amaxOf r.entries
    if a.m = 0 then 0 else floorLog2 a.m.natAbs a.e
  else match r.builtin with
    | 6 => 8
    | 7 => 15
    | 8 => 4
    | 9 => 2
    | 10 => 2
    | _ => 0

/-- A scale exponent held in the range of E8M0 (R98). -/
def clampScale (x : Int) : Int := max (-127) (min 127 x)

/-- The scale exponent of a block under the rule of the block-scaled rows (R98). -/
def scaleExpRow (emax : Int) (a : Dy) : Int :=
  if a.m = 0 then -127 else clampScale (floorLog2 a.m.natAbs a.e - emax)

/-- The scale exponent of a block under the rule of G8R and the moments: the smallest `x` with the largest magnitude at most `top` × 2^`x` (R98). -/
def scaleExpMin (top : Nat) (a : Dy) : Int :=
  if a.m = 0 then -127
  else
    let x0 := floorLog2 a.m.natAbs a.e - ((bitLen top : Int) - 1)
    clampScale (if dyLt ⟨(top : Int), x0⟩ a then x0 + 1 else x0)

/-- A value divided exactly by 2^`x`. -/
def unscale (x : Int) : FV → FV
  | .fin s m e => .fin s m (e - x)
  | v => v

/-- A block of 32 values encoded into a block-scaled row: the scale code, the element codes and the events (R98). -/
def FmtRow.encodeBlock (r : FmtRow) (ds : List Nat) (vs : List FV) : Nat × List Nat × List EncEvent :=
  if vs.any (fun v => !fvFinite v) then (255, vs.map (fun _ => 0), [.scaleFF])
  else
    let x := scaleExpRow r.emax (amaxOf vs)
    let cs := List.zipWith (fun d v => r.encodeElt d (unscale x v)) ds vs
    ((x + 127).toNat, cs.map (·.1), (cs.map (·.2)).flatten)

/-- Codes of `w` bits packed as one little-endian bit string (R91). -/
def packNat (w : Nat) : List Nat → Nat
  | [] => 0
  | c :: r => c % 2 ^ w + 2 ^ w * packNat w r

/-- The bytes of `cs`, codes of `w` bits (R91): groups of 32 for codes narrower than a byte, whole bytes otherwise. -/
def packCodes (w : Nat) (cs : List Nat) : List Byte := leBytes (cs.length * w / 8) (packNat w cs)

/-- The `n` codes of `w` bits in a little-endian number (R91). -/
def unpackNat (w : Nat) : Nat → Nat → List Nat
  | 0, _ => []
  | n + 1, v => v % 2 ^ w :: unpackNat w n (v / 2 ^ w)

/-- The `n` codes of `w` bits that a byte string holds (R91). -/
def unpackCodes (w n : Nat) (bs : List Byte) : List Nat := unpackNat w n (leNat bs)

/-- Bytes of `n` elements of a row (R91). -/
def FmtRow.rowBytes (r : FmtRow) (n : Nat) : Nat := n * r.bitsOf / 8

/-- Bytes of the scale plane row of `n` elements: one code a block, padded to 16 bytes (R189). -/
def scaleRowBytes (n : Nat) : Nat := roundUp 16 (ceilDiv n 32)

/-- A G8R block of 32 FP32 values: scale code, value codes and residual codes (R109). -/
def encodeG8R (vs : List FV) : Nat × List Nat × List Nat × List EncEvent :=
  if vs.any (fun v => !fvFinite v) then (255, vs.map (fun _ => 0), vs.map (fun _ => 0), [.scaleFF])
  else
    let x := scaleExpMin 448 (amaxOf vs)
    let row := FmtRow.ofBuiltin 4 0
    let us := vs.map (unscale x)
    let cv := us.map (row.encodeElt 0)
    let cq := List.zipWith (fun u c =>
      match fvSub u (row.decode c.1) with
      | .fin s m e => row.encodeElt 0 (.fin s m (e + 4))
      | y => row.encodeElt 0 y) us cv
    ((x + 127).toNat, cv.map (·.1), cq.map (·.1), (cv.map (·.2)).flatten ++ (cq.map (·.2)).flatten)

/-- The value of a G8R element: 2^x × (v + 2^−4 × q); a scale of 0xFF is a NaN (R108, R97). -/
def decodeG8R (s v q : Nat) : FV :=
  let w := match decE4M3 q with
    | .fin n m e => FV.fin n m (e - 4)
    | y => y
  applyScale s (fvAdd (decE4M3 v) w)

/-- The value-only reading of a G8R element (R108). -/
def decodeG8RValue (s v : Nat) : FV := applyScale s (decE4M3 v)

/-- A block of signed moments (R110): scale code, codes and events. -/
def encodeM8S (ds : List Nat) (vs : List FV) : Nat × List Nat × List EncEvent :=
  if vs.any (fun v => !fvFinite v) then (255, vs.map (fun _ => 0), [.scaleFF])
  else
    let x := scaleExpMin 448 (amaxOf vs)
    let cs := List.zipWith (fun d v => (FmtRow.ofBuiltin 4 1).encodeElt d (unscale x v)) ds vs
    ((x + 127).toNat, cs.map (·.1), (cs.map (·.2)).flatten)

/-- One element of M8U: a negative value encodes as 0 and is counted (R110). -/
def encM8U (d : Nat) : FV → Coded
  | .fin s m e => if s ∧ 0 < m then (0, [.negativeM8U]) else
      let c := encMini fmtE5M3 255 1 d false m e
      (c.1 % 256, c.2)
  | _ => (0, [])

/-- A block of non-negative moments (R110): negative values take no part in the block's largest magnitude. -/
def encodeM8U (ds : List Nat) (vs : List FV) : Nat × List Nat × List EncEvent :=
  if vs.any (fun v => !fvFinite v) then (255, vs.map (fun _ => 0), [.scaleFF])
  else
    let x := scaleExpMin 122880 (amaxOf (vs.filter (fun v => !fvNegative v)))
    let cs := List.zipWith (fun d v => encM8U d (unscale x v)) ds vs
    ((x + 127).toNat, cs.map (·.1), (cs.map (·.2)).flatten)

/-- The value of a signed moment (R110). -/
def decodeM8S (s c : Nat) : FV := applyScale s (decE4M3 c)

/-- The value of a non-negative moment (R110). -/
def decodeM8U (s c : Nat) : FV := applyScale s (.fin false (fmtE5M3.magValue c).1 (fmtE5M3.magValue c).2)

/-- Whether a row may be an array operand or matrix-vector fallback weights: every row but binary32 (R92). -/
def FmtRow.arrayOperand (r : FmtRow) : Bool := decide (r.kind = 2) || (decide (r.kind = 1) && decide (r.builtin ≠ 3))

/-- Whether a row is present (R69). -/
def FmtRow.isPresent (r : FmtRow) : Bool := decide (r.kind ≠ 0)

/-- Whether a row is MXINT8 (R92). -/
def FmtRow.isInt8 (r : FmtRow) : Bool := decide (r.kind = 1) && decide (r.builtin = 11)

end Sys2Proof.Machine
end

