-- ==== Sys2Proof/Machine/BuiltIn.lean ====
section
/-! DEFINITION. The built-in functions exp2, log2 and rsqrt (R147, R289): accurate to within 1 unit in the last place, by one fixed algorithm whose results the manual does not give. The result is the free function of log entry 4 wherever that lies within the accuracy, and the rounded value elsewhere. -/

set_option Elab.async false

namespace Sys2Proof.Machine

/-- Whether an FP32 code lies within 1 unit in the last place of a value in [lo, hi]; an infinity counts as 2^128, with the unit of the binade below. -/
def nearF32 (c : F32) (lo hi : Dy) : Bool :=
  match ofF32 c with
  | .nan => false
  | .inf s => !s && !dyLt hi ⟨2 ^ 24 - 1, 104⟩
  | .fin s m e =>
    let u : Dy := ⟨1, (max 1 (c.toNat / 2 ^ 23 % 256) : Nat) - 150⟩
    let v := fvDy (.fin s m e)
    !dyLt (dyAdd v u) lo && !dyLt hi (dyAdd v ⟨-1, u.e⟩)

/-- The free result of a built-in function, kept within its accuracy around a value in [lo, hi] (log entry 4). -/
def withinUlp (c : F32) (lo hi : Dy) : F32 := if nearF32 c lo hi then c else toF32 (dyFV lo)

/-- The product of the roots 2^(2^−i) that the digits of a fraction name, the leading digit first, with 96 binary places: `c` is the last root, `p` the product so far; each step truncates. -/
def exp2Roots : Nat → Nat → Nat → Nat → Nat
  | 0, _, _, p => p
  | n + 1, c, f, p =>
    let c := isqrt (c * 2 ^ 96)
    exp2Roots n c (f % 2 ^ n) (if f / 2 ^ n = 0 then p else p * c / 2 ^ 96)

/-- An interval that holds 2 to the power of plus or minus m × 2^e, m < 2^24. -/
def exp2Bounds (s : Bool) (m : Nat) (e : Int) : Dy × Dy :=
  let x : Dy := ⟨if s then -(m : Int) else (m : Int), e⟩
  if floorLog2 m e < -30 then (if s then (dyAdd ⟨1, 0⟩ x, ⟨1, 0⟩) else (⟨1, 0⟩, dyAdd ⟨1, 0⟩ x))
  else if 8 ≤ floorLog2 m e then (if s then (⟨0, 0⟩, ⟨1, -256⟩) else (⟨1, 256⟩, ⟨1, 256⟩))
  else
    let n : Int := if 0 ≤ e + 54 then x.m * (pow2 (e + 54) : Int) else 0
    let k := n / 2 ^ 54
    let p := exp2Roots 54 (2 ^ 97) (n % 2 ^ 54).toNat (2 ^ 96)
    (⟨p, k - 96⟩, ⟨p + 2 ^ 20, k - 96⟩)

/-- Binary digits of the logarithm of f / 2^128 in [1, 2), by repeated squaring with truncation. -/
def log2Digits : Nat → Nat → Nat → Nat
  | 0, _, a => a
  | n + 1, f, a =>
    let g := f * f / 2 ^ 128
    if 2 ^ 129 ≤ g then log2Digits n (g / 2) (2 * a + 1) else log2Digits n g (2 * a)

/-- An interval that holds the logarithm to base 2 of m × 2^e, m > 0. -/
def log2Bounds (m : Nat) (e : Int) : Dy × Dy :=
  let l := bitLen m
  let a : Int := (floorLog2 m e) * 2 ^ 100 + (log2Digits 100 (m * 2 ^ (129 - l)) 0 : Nat)
  (⟨a, -100⟩, ⟨if m = 2 ^ (l - 1) then a else a + 3, -100⟩)

/-- An interval that holds 1 / √(m × 2^e), m > 0. -/
def rsqrtBounds (m : Nat) (e : Int) : Dy × Dy :=
  let odd := e % 2 ≠ 0
  let m2 := if odd then 2 * m else m
  let e2 := if odd then e - 1 else e
  let r := isqrt (2 ^ 200 / m2)
  (⟨r, -100 - e2 / 2⟩, ⟨r + 1, -100 - e2 / 2⟩)

/-- exp2 (R147): the results the manual states (of 0, of the infinities, of a NaN), and the free function within its accuracy elsewhere (log entry 4). -/
def exp2F (x : F32) : F32 :=
  match ofF32 x with
  | .nan => nan32
  | .inf s => if s then 0 else 0x7F800000
  | .fin s m e => if m = 0 then one32 else let b := exp2Bounds s m e; withinUlp (Config.exp2 x) b.1 b.2

/-- rsqrt (R147): a NaN gives a NaN; of a positive finite number the free function within its accuracy; the manual states no result of the others (log entry 4). -/
def rsqrtF (x : F32) : F32 :=
  match ofF32 x with
  | .nan => nan32
  | .inf _ => Config.rsqrt x
  | .fin s m e => if m = 0 ∨ s then Config.rsqrt x else let b := rsqrtBounds m e; withinUlp (Config.rsqrt x) b.1 b.2

/-- log2 of the element unit and of the update lanes (R147, R289): as `rsqrtF` (log entry 4). -/
def log2F (x : F32) : F32 :=
  match ofF32 x with
  | .nan => nan32
  | .inf _ => Config.log2 x
  | .fin s m e => if m = 0 ∨ s then Config.log2 x else let b := log2Bounds m e; withinUlp (Config.log2 x) b.1 b.2

end Sys2Proof.Machine
end

