-- ==== Sys2Proof/Machine/Arith.lean ====
section
/-! DEFINITION. The arithmetic of the tile: exact blocks of 32 (R95), the reduction tree (R148), element operations (R149), curves (R153), norms and softmax (R155 to R159), and the encoding of output rows (R103). -/

set_option Elab.async false

namespace Sys2Proof.Machine

/-- A list cut into pieces of `n`; `fuel` pieces at most. -/
def chunksOf {α : Type} (n : Nat) : Nat → List α → List (List α)
  | 0, _ => []
  | fuel + 1, l => if l.isEmpty then [] else l.take n :: chunksOf n fuel (l.drop n)

/-- The exact value of one block of 32: the sum of its products times the two block scales, rounded to FP32 once (R95 steps 2 to 4). A scale of 0xFF makes it a NaN. -/
def blockValue (sa sb : Nat) (as bs : List FV) : F32 :=
  if sa = 255 ∨ sb = 255 then nan32
  else
    let s := (List.zipWith fvMul as bs).foldl fvAdd (.fin true 0 0)
    toF32 (match s with
      | .fin n m e => .fin n m (e + (sa : Int) + (sb : Int) - 254)
      | x => x)

/-- The accumulation of R95 over blocks in ascending order: `sa` and `sb` are the scale codes of the blocks, 0x7F where a row has none (R93). -/
def dotBlocks : F32 → List Nat → List Nat → List (List FV) → List (List FV) → F32
  | acc, sa :: ra, sb :: rb, a :: as, b :: bs => dotBlocks (f32Add acc (blockValue sa sb a b)) ra rb as bs
  | acc, _, _, _, _ => acc

/-- One vector of a tensor as read from memory: its element codes and its scale codes, one a block. -/
structure CodeVec where
  codes : List Nat
  scales : List Nat
  deriving DecidableEq, Repr

/-- The scale codes of a vector, 0x7F where the row is not block-scaled (R93). -/
def CodeVec.blockScales (r : FmtRow) (v : CodeVec) : List Nat :=
  if r.scaled then v.scales else List.replicate (ceilDiv v.codes.length 32) 127

/-- The blocks of 32 of a vector, decoded without their scales (R94). -/
def CodeVec.blocks (r : FmtRow) (v : CodeVec) : List (List FV) :=
  chunksOf 32 v.codes.length (v.codes.map r.decode)

/-- One output element of a matrix product (R95, R96). -/
def dotProduct (ra rw : FmtRow) (init : F32) (a w : CodeVec) : F32 :=
  dotBlocks init (a.blockScales ra) (w.blockScales rw) (a.blocks ra) (w.blocks rw)

/-- The elements of a vector as the element unit decodes them to FP32 (R147). -/
def CodeVec.euValues (r : FmtRow) (v : CodeVec) : List F32 :=
  List.zipWith (fun s c => toF32 (toEU (if r.scaled then applyScale s (r.decode c) else r.decode c)))
    (if r.scaled then (v.scales.map (fun s => List.replicate 32 s)).flatten else List.replicate v.codes.length 127) v.codes

/-- Adjacent pairs combined; a last element without a partner stays (R148). -/
def pairUp (op : F32 → F32 → F32) : List F32 → List F32
  | a :: b :: r => op a b :: pairUp op r
  | l => l

/-- One chunk of at most 64 elements combined by six levels of pairs (R148). -/
def treeReduce (op : F32 → F32 → F32) (l : List F32) : Option F32 :=
  (pairUp op (pairUp op (pairUp op (pairUp op (pairUp op (pairUp op l)))))).head?

/-- The reduction of R148: chunks of 64 by the tree, their results in ascending order; `none` for no element. -/
def reduceBy (op : F32 → F32 → F32) (l : List F32) : Option F32 :=
  (chunksOf 64 l.length l).foldl (fun a c =>
    match a, treeReduce op c with
    | none, x => x
    | some y, some x => some (op y x)
    | some y, none => some y) none

/-- The maximum of R149: a NaN gives NaN, and −0 lies below +0. -/
def f32Max (a b : F32) : F32 :=
  let x := ofF32 a
  let y := ofF32 b
  if x = .nan ∨ y = .nan then nan32
  else if fvLt x y then b
  else if fvLt y x then a
  else if fvNegative x then b else a

/-- The minimum of R149. -/
def f32Min (a b : F32) : F32 :=
  let x := ofF32 a
  let y := ofF32 b
  if x = .nan ∨ y = .nan then nan32
  else if fvLt x y then a
  else if fvLt y x then b
  else if fvNegative x then a else b

/-- SUM along a row (R148, R149). -/
def euSum (l : List F32) : F32 := (reduceBy f32Add l).getD 0
/-- SUMSQ along a row (R148, R149). -/
def euSumSq (l : List F32) : F32 := euSum (l.map (fun x => f32Mul x x))
/-- MAX along a row (R149). -/
def euMax (l : List F32) : F32 := (reduceBy f32Max l).getD 0xFF800000
/-- ABSMAX along a row (R149). -/
def euAbsMax (l : List F32) : F32 := (reduceBy f32Max (l.map f32Abs)).getD 0

/-- The REDUCE kinds (R190). -/
def euReduce (kind : Nat) (l : List F32) : F32 :=
  match kind with
  | 0 => toF32 (ofF32 (euSum l))
  | 1 => euSumSq l
  | 2 => toF32 (ofF32 (euMax l))
  | _ => euAbsMax l

/-- A segment of a polynomial curve (R152). -/
structure CurveSeg where
  lo : F32
  hi : F32
  x0 : F32
  c : List F32
  deg : Nat
  deriving DecidableEq, Repr

/-- A Harness curve (R152): `kind` 0 unused, 1 polynomial, 2 lookup. -/
structure Curve where
  kind : Nat
  miss : Nat
  row : Nat
  segs : List CurveSeg
  table : List F32
  deriving DecidableEq, Repr

/-- The polynomial of a segment at `x` (R153). -/
def CurveSeg.eval (s : CurveSeg) (x : F32) : F32 :=
  let t := f32Sub x s.x0
  ((s.c.take s.deg).reverse).foldl (fun y c => f32Fma y t c) (s.c.getD s.deg 0)

/-- Whether a segment contains `x` (R153). -/
def CurveSeg.holds (s : CurveSeg) (x : F32) : Bool := fvLe (ofF32 s.lo) (ofF32 x) && fvLt (ofF32 x) (ofF32 s.hi)

/-- The largest FP32 value below `h` (R153). -/
def f32Below (h : F32) : F32 :=
  if h.toNat % 2 ^ 31 = 0 then 0x80000001
  else if h.toNat < 2 ^ 31 then BitVec.ofNat 32 (h.toNat - 1)
  else BitVec.ofNat 32 (h.toNat + 1)

/-- A bound of a curve: its value and the point at which its segment is evaluated there (R153). -/
structure CurveBound where
  at_ : F32
  point : F32
  seg : CurveSeg
  deriving DecidableEq, Repr

/-- Of two bounds, the nearer to `x`; the first when they are equally near (R153). Infinite distances compare by order alone. -/
def nearerBound (x : F32) (a b : CurveBound) : CurveBound :=
  let fx := ofF32 x
  let fa := ofF32 a.at_
  let fb := ofF32 b.at_
  if fvFinite fx && fvFinite fa && fvFinite fb then (if dyLt (fvDist fx fb) (fvDist fx fa) then b else a)
  else if fvFinite fx then (if fvFinite fb && !fvFinite fa then b else a)
  else if fvNegative fx then (if fvLt fb fa then b else a) else (if fvLt fa fb then b else a)

/-- The bounds of a curve's segments, in segment order. -/
def Curve.bounds (c : Curve) : List CurveBound :=
  (c.segs.map (fun s => [⟨s.lo, s.lo, s⟩, ⟨s.hi, f32Below s.hi, s⟩])).flatten

/-- What an evaluation of a curve did beside its value: no segment held the input, and more than one did (R153). -/
structure CurveOut where
  y : F32
  missed : Bool
  multi : Bool
  deriving DecidableEq, Repr

/-- A polynomial curve at `x` (R153). -/
def Curve.evalPoly (c : Curve) (x : F32) : CurveOut :=
  if ofF32 x = .nan then ⟨nan32, false, false⟩
  else
    match c.segs.filter (fun s => s.holds x) with
    | s :: r => ⟨s.eval x, false, !r.isEmpty⟩
    | [] =>
      match c.miss, c.bounds with
      | 1, b :: r => let w := r.foldl (nearerBound x) b; ⟨w.seg.eval w.point, true, false⟩
      | 2, _ => ⟨x, true, false⟩
      | _, _ => ⟨nan32, true, false⟩

/-- RMSNORM of one row (R155). -/
def rmsNormRow (eps : F32) (xs gs : List F32) : List F32 :=
  let n := toF32 (fvNat xs.length)
  let r := rsqrtF (f32Add (f32Div (euSumSq xs) n) eps)
  List.zipWith (fun x g => f32Mul (f32Mul x r) g) xs gs

/-- LAYERNORM of one row (R155). -/
def layerNormRow (eps : F32) (xs gs bs : List F32) : List F32 :=
  let n := toF32 (fvNat xs.length)
  let mu := f32Div (euSum xs) n
  let ds := xs.map (fun x => f32Sub x mu)
  let v := f32Div (euSumSq ds) n
  let r := rsqrtF (f32Add v eps)
  List.zipWith (fun d gb => f32Fma (f32Mul d r) gb.1 gb.2) ds (List.zip gs bs)

/-- Whether a pattern is minus infinity. -/
def isNegInf (x : F32) : Bool := ofF32 x == .inf true

/-- SOFTMAX of one row (R156). -/
def softmaxRow (c : F32) (xs : List F32) : List F32 :=
  if xs.any (fun x => ofF32 x == .nan) then xs.map (fun _ => nan32)
  else if xs.all isNegInf then xs.map (fun _ => 0)
  else
    let m := euMax xs
    let ps := xs.map (fun x => exp2F (f32Mul c (f32Sub x m)))
    let s := euSum ps
    ps.map (fun p => f32Div p s)

/-- The state record of one row of online attention (R157). -/
structure AttnState where
  m : F32
  l : F32
  count : Nat
  deriving DecidableEq, Repr

/-- One row of ATTN_ONLINE: the new state, the weights and the rescaled outputs; `vis` says which keys are visible (R157, R158). -/
def attnOnlineRow (c : F32) (st : AttnState) (vis : List Bool) (ss os : List F32) : AttnState × List F32 × List F32 :=
  let seen := ((List.zip vis ss).filter (·.1)).map (·.2)
  let mx := match reduceBy f32Max seen with
    | some x => f32Max st.m x
    | none => st.m
  let vcount := (vis.take ss.length).count true
  let (alpha, ps) :=
    if isNegInf mx then (one32, ss.map (fun _ => (0 : F32)))
    else (exp2F (f32Mul c (f32Sub st.m mx)), List.zipWith (fun v s => if v then exp2F (f32Mul c (f32Sub s mx)) else 0) vis ss)
  (⟨mx, f32Fma st.l alpha (euSum ps), (st.count + vcount) % 2 ^ 32⟩, ps, os.map (fun o => f32Mul o alpha))

/-- One row of ATTN_FINAL (R159). -/
def attnFinalRow (st : AttnState) (os : List F32) : List F32 :=
  if st.count = 0 then os.map (fun _ => 0) else os.map (fun o => f32Div o st.l)

/-- The generator index and identity of an output row's elements (R103): by the row's tag, or by the logical index. -/
structure DrawKey where
  seed : Word
  tid : Word
  tag : Option Word
  first : Nat
  deriving DecidableEq, Repr

/-- The draw of column `j` of a row (R102, R103). -/
def DrawKey.draw (k : DrawKey) (j : Nat) : Nat :=
  match k.tag with
  | some t => draw16 k.seed (k.tid + BitVec.ofNat 64 j) t
  | none => draw16 k.seed k.tid (BitVec.ofNat 64 (k.first + j))

/-- An encoded row: its codes, its scale codes and the events of encoding it. -/
structure EncodedRow where
  codes : List Nat
  scales : List Nat
  events : List EncEvent
  deriving DecidableEq, Repr

/-- FP32 values encoded into a row of the format table; the first has column number `j0` (R98 to R107). -/
def encodeRow (r : FmtRow) (k : DrawKey) (j0 : Nat) (xs : List F32) : EncodedRow :=
  let vs := xs.map ofF32
  let ds := (numsFrom j0 xs.length).map (fun j => if r.encode = 1 then k.draw j else 0)
  if r.scaled then
    let bs := List.zipWith (fun d v => r.encodeBlock d v) (chunksOf 32 xs.length ds) (chunksOf 32 xs.length vs)
    ⟨(bs.map (·.2.1)).flatten, bs.map (·.1), (bs.map (·.2.2)).flatten⟩
  else
    let cs := List.zipWith r.encodeElt ds vs
    ⟨cs.map (·.1), [], (cs.map (·.2)).flatten⟩

/-- An encoded row as the element unit would read it back (R160). -/
def EncodedRow.values (r : FmtRow) (e : EncodedRow) : List F32 := CodeVec.euValues r ⟨e.codes, e.scales⟩

/-- RESID of one row (R160): the encoded row and the new residual in FP32. -/
def residRow (r : FmtRow) (k : DrawKey) (xs rs : List F32) : EncodedRow × List F32 :=
  let us := List.zipWith f32Add xs rs
  let v := encodeRow r k 0 us
  (v, List.zipWith (fun u w => if fvFinite (ofF32 u) then f32Sub u w else 0) us (v.values r))

end Sys2Proof.Machine
end

