-- ==== Sys2Proof/Machine/Codec.lean ====
section
/-! DEFINITION. The activation codec (file 09): the block encodings of R232, the encoder's choice (R233), the headers (R234) and the decoder with its errors (R236). -/

set_option Elab.async false

namespace Sys2Proof.Machine

/-- Bytes cut into elements of `e` bytes. -/
def elementsOf (e : Nat) (bs : List Byte) : List (List Byte) := chunksOf e bs.length bs

/-- An element all of whose bits are 0 (R232). -/
def isZeroElt (x : List Byte) : Bool := x.all (fun b => b == 0)

/-- The bitmap of the non-zero elements, bit i for element i (R232). -/
def zeroBitmap (xs : List (List Byte)) : List Byte :=
  packCodes 1 (xs.map (fun x => if isZeroElt x then 0 else 1))

/-- The payload of mode BITMAP before its padding (R232). -/
def bitmapPayload (xs : List (List Byte)) : List Byte :=
  zeroBitmap xs ++ (xs.filter (fun x => !isZeroElt x)).flatten

/-- The length of the run of elements at the head that satisfy `p`, at most 255 (R233). -/
def runLength (p : List Byte → Bool) (xs : List (List Byte)) : Nat := min 255 (xs.takeWhile p).length

/-- The ZRUN entries of a block, built greedily; `fuel` entries at most (R233). -/
def zrunPayload : Nat → List (List Byte) → List Byte
  | 0, _ => []
  | fuel + 1, xs =>
    if xs.isEmpty then []
    else
      let z := runLength isZeroElt xs
      let rest := xs.drop z
      let l := runLength (fun x => !isZeroElt x) rest
      BitVec.ofNat 8 l :: BitVec.ofNat 8 z :: ((rest.take l).flatten ++ zrunPayload fuel (rest.drop l))

/-- A payload padded with zero bytes to a multiple of 16 (R232). -/
def padTo16 (bs : List Byte) : List Byte := bs ++ List.replicate (roundUp 16 bs.length - bs.length) 0

/-- An encoded block: its MODE, and its payload, a multiple of 16 bytes long (R232, R233). -/
structure CodecBlock where
  mode : Nat
  payload : List Byte
  deriving DecidableEq, Repr

/-- LEN of a block in 16-byte units (R234). -/
def CodecBlock.len (b : CodecBlock) : Nat := b.payload.length / 16

/-- The encoding of a 512-byte block of elements of `e` bytes: the shortest mode, the lowest MODE number among equals (R233). -/
def encodeBlock512 (e : Nat) (bs : List Byte) : CodecBlock :=
  let xs := elementsOf e bs
  let raw : CodecBlock := ⟨1, bs⟩
  let bm : CodecBlock := ⟨3, padTo16 (bitmapPayload xs)⟩
  let zr : CodecBlock := ⟨4, padTo16 (zrunPayload xs.length xs)⟩
  if xs.all isZeroElt then ⟨2, []⟩
  else
    let b1 := if bm.len < raw.len then bm else raw
    if zr.len < b1.len then zr else b1

/-- The 16-bit header of a block (R234). -/
def CodecBlock.header (b : CodecBlock) : Nat := b.mode * 2 ^ 13 + b.len * 2 ^ 7

/-- Elements of a BITMAP payload put back in place. -/
def expandBitmap (e : Nat) : List Nat → List Byte → List Byte
  | [], _ => []
  | b :: r, lits => if b = 1 then lits.take e ++ expandBitmap e r (lits.drop e) else List.replicate e 0 ++ expandBitmap e r lits

/-- ZRUN entries expanded until `n` elements are covered; `none` when malformed (R236 kind 0x3). -/
def expandZrun (e : Nat) : Nat → Nat → List Byte → Option (List Byte)
  | 0, n, _ => if n = 0 then some [] else none
  | fuel + 1, n, bs =>
    if n = 0 then some []
    else
      match bs with
      | l :: z :: rest =>
        let lc := l.toNat
        let zc := z.toNat
        if (lc = 0 ∧ zc = 0) ∨ n < lc + zc ∨ rest.length < lc * e then none
        else (expandZrun e fuel (n - zc - lc) (rest.drop (lc * e))).map (fun t => List.replicate (zc * e) 0 ++ (rest.take (lc * e) ++ t))
      | _ => none

/-- Bytes of the payload that a header announces (R234). -/
def headerUnits (h : Nat) : Nat := h / 2 ^ 7 % 2 ^ 6

/-- MODE of a header (R234). -/
def headerMode (h : Nat) : Nat := h / 2 ^ 13 % 8

/-- Decoding of a block from its header and the payload of LEN units: the 512 bytes, or the kind of error (R236). -/
def decodeBlock512 (e h : Nat) (payload : List Byte) : Except Nat (List Byte) :=
  let n := 512 / e
  let len := headerUnits h
  if h % 2 ^ 7 ≠ 0 then .error 4
  else match headerMode h with
    | 1 => if len = 32 then .ok payload else .error 2
    | 2 => if len = 0 then .ok (List.replicate 512 0) else .error 2
    | 3 =>
      let bm := unpackCodes 1 n (payload.take (n / 8))
      if len = ceilDiv (n / 8 + (bm.count 1) * e) 16 then .ok (expandBitmap e bm (payload.drop (n / 8))) else .error 2
    | 4 => match expandZrun e n n payload with
      | some bs => .ok bs
      | none => .error 3
    | _ => .error 1

end Sys2Proof.Machine
end

