-- ==== Sys2Proof/Machine/DroverState.lean ====
section
/-! DEFINITION. The state of the Drover clusters (R248, R261, R262): layer slots and route jobs, plain data. -/

set_option Elab.async false

namespace Sys2Proof.Machine

/-- Layer state of one expert (R248). -/
structure ExpertSt where
  cur : Nat
  prev : Nat
  bias : F32
  last : Nat
  pend : Option F32
  deriving DecidableEq, Repr

/-- Layer state of an expert after a cold reset and after the first load of a plan (R248). -/
def ExpertSt.fresh : ExpertSt := ⟨0, 0, 0, 0xFFFFFFFF, none⟩

/-- A layer slot (R248): whether a plan has been loaded into it since the cold reset, its open step, its last close (DRV_STEP.VERDICT) and its experts that are not fresh. -/
structure LayerSlot where
  loaded : Bool
  step : Option Nat
  verdict : Nat
  experts : SMap ExpertSt
  deriving DecidableEq, Repr

/-- A layer slot after a cold reset. -/
def LayerSlot.fresh : LayerSlot := ⟨false, none, 0, []⟩

/-- The state of a route job (R261). -/
inductive JobState where
  | wait | held | select | count | build | run | combine | done
  deriving DecidableEq, Repr

/-- The encoding of a job state (DRV_JOB.STATE). -/
def JobState.num : JobState → Nat
  | .wait => 1
  | .held => 2
  | .select => 3
  | .count => 4
  | .build => 5
  | .run => 6
  | .combine => 7
  | .done => 8

/-- A segment of a pass: its expert, its first row, its rows, and the number of its first copy among the expert's copies (R250, R251). -/
structure PassSeg where
  expert : Nat
  first : Nat
  rows : Nat
  copy : Nat
  deriving DecidableEq, Repr

/-- A pass: its home tile and its segments (R250 to R252). -/
structure DPass where
  tile : Nat
  segs : List PassSeg
  deriving DecidableEq, Repr

/-- A pass buffer that a job holds: its pass, its home tile, its reservation record and its credit pool (R253, R254). -/
structure HeldBuf where
  pass : Nat
  tile : Nat
  rec_ : Nat
  pool : Nat
  deriving DecidableEq, Repr

/-- A route job (R261, R262). -/
structure RouteRun where
  cluster : Nat
  /-- Job slot 0 to 7. -/
  slot : Nat
  st : JobState
  /-- Token rows; 0 before the dispatch. -/
  rows : Nat
  /-- Input tags by token row. -/
  tags : List Word
  /-- Routed copies by token row and route slot: expert and gate (R245, R246). -/
  sel : List (List (Nat × F32))
  passes : List DPass
  /-- The buffer set of each pass filled so far (R254). -/
  sets : List Nat
  held : List HeldBuf
  /-- Instances of the pass in hand that have been accepted (R262). -/
  sent : Nat
  /-- Passes whose instances have been accepted (R262). -/
  issued : Nat
  /-- Segments scattered, as 8 × pass + segment, and passes scattered whole (R257, R262). -/
  segsDone : List Nat
  scattered : List Nat
  /-- Combine blocks committed (R262). -/
  blocks : List Nat
  /-- Instances that completed REPLAYED_OK (R263). -/
  replayed : Nat
  err : Bool
  counted : Bool
  deriving DecidableEq, Repr

/-- A route job just accepted (R261). -/
def RouteRun.start (cluster slot : Nat) (st : JobState) : RouteRun where
  cluster := cluster
  slot := slot
  st := st
  rows := 0
  tags := []
  sel := []
  passes := []
  sets := []
  held := []
  sent := 0
  issued := 0
  segsDone := []
  scattered := []
  blocks := []
  replayed := 0
  err := false
  counted := false

/-- The Drover clusters: layer slots by 64 × cluster + slot, route jobs by JSEQ, and the buffer set that the next pass of a pool takes, by 32 × tile + pool (R254). -/
structure DroverState where
  layers : SMap LayerSlot
  jobs : SMap RouteRun
  turns : SMap Nat
  deriving DecidableEq, Repr

/-- The clusters after a cold reset. -/
def DroverState.reset : DroverState := ⟨[], [], []⟩

end Sys2Proof.Machine
end

