-- ==== Sys2Proof/Machine/Sparse.lean ====
section
/-! DEFINITION. Sparse tables: pairs with strictly rising keys (the model's registers, memory and record tables are held this way, log entry 3). -/

set_option Elab.async false

namespace Sys2Proof.Machine

/-- The entry of key `k`, if the table lists one. -/
def sfind {β : Type} : SMap β → Nat → Option β
  | [], _ => none
  | (k', v) :: r, k => if k' = k then some v else sfind r k

/-- The table with `v` at key `k`. -/
def sinsert {β : Type} : SMap β → Nat → β → SMap β
  | [], k, v => [(k, v)]
  | (k', v') :: r, k, v =>
    if k < k' then (k, v) :: (k', v') :: r
    else if k' = k then (k, v) :: r
    else (k', v') :: sinsert r k v

/-- The table without key `k`. -/
def serase {β : Type} : SMap β → Nat → SMap β
  | [], _ => []
  | (k', v') :: r, k => if k' = k then serase r k else (k', v') :: serase r k

/-- Whether every key of the table lies above `lo`, rising strictly. -/
def srisesFrom {β : Type} : Nat → SMap β → Bool
  | _, [] => true
  | lo, (k, _) :: r => decide (lo < k) && srisesFrom k r

/-- Strictly rising keys. -/
def srises {β : Type} : SMap β → Bool
  | [] => true
  | (k, _) :: r => srisesFrom k r

/-- The value of key `k` in a table whose unlisted keys read as `d`. -/
def sget {β : Type} (d : β) (l : SMap β) (k : Nat) : β := (sfind l k).getD d

/-- A write of a table whose unlisted keys read as `d`: writing `d` removes the entry. -/
def sput {β : Type} [DecidableEq β] (d : β) (l : SMap β) (k : Nat) (v : β) : SMap β :=
  if v = d then serase l k else sinsert l k v

/-- Every entry changed by a function of its key and value. -/
def smap {β : Type} (f : Nat → β → β) : SMap β → SMap β
  | [] => []
  | (k, v) :: r => (k, f k v) :: smap f r

/-- The entry of key `k` changed, if there is one. -/
def smodify {β : Type} (l : SMap β) (k : Nat) (f : β → β) : SMap β := smap (fun k' v => if k' = k then f v else v) l

/-- Membership in a set of numbers held as a rising list. -/
def nmem (l : List Nat) (k : Nat) : Bool := l.any (fun x => x == k)

/-- A number put into a rising list. -/
def nadd : List Nat → Nat → List Nat
  | [], k => [k]
  | x :: r, k => if k < x then k :: x :: r else if x = k then x :: r else x :: nadd r k

/-- A number taken out of a list. -/
def ndel (l : List Nat) (k : Nat) : List Nat := l.filter (fun x => x != k)

/-- Strictly rising numbers above `lo`. -/
def nrisesFrom : Nat → List Nat → Bool
  | _, [] => true
  | lo, k :: r => decide (lo < k) && nrisesFrom k r

/-- Strictly rising numbers. -/
def nrises : List Nat → Bool
  | [] => true
  | k :: r => nrisesFrom k r

/-- The lowest number from `lo` on, below `lo + n`, that satisfies `p`. -/
def firstFrom (p : Nat → Bool) : Nat → Nat → Option Nat
  | _, 0 => none
  | lo, n + 1 => if p lo then some lo else firstFrom p (lo + 1) n

end Sys2Proof.Machine
end

