-- ==== Sys2Proof/Machine/HarnessState.lean ====
section
/-! DEFINITION. The state of the loader (R78 to R88), of the power and health manager (R534 to R557), of re-admission (R529) and of the journal mirror (R527, R528), beside their registers: plain data. -/

set_option Elab.async false

namespace Sys2Proof.Machine

/-- Who started a loader action: software, the cold start sequence (R82) or a warm reset (R602). -/
inductive LoadBy where
  | software | coldStart | warmReset
  deriving DecidableEq, Repr

/-- The loader action in progress (R88). -/
structure LoadAct where
  /-- ACTION: 1 full load, 2 partial reload, 3 STORE, 5 herd check. -/
  kind : Nat
  origin : LoadBy
  /-- SOURCE and SLOT, read when the action started. -/
  source : Nat
  slot : Nat
  /-- PCIe address of a host image (R81). -/
  addr : Nat
  /-- Bytes of the image, and bytes of it in the active-copy area (R80). -/
  len : Nat
  staged : Nat
  /-- A staging read is outstanding (R81). -/
  reading : Bool
  /-- Cold start: the other store slot to try (R82). -/
  alt : Option Nat
  /-- A revolution boundary at which the image may be applied has come (R79, R84). -/
  due : Bool
  /-- Partial reload: the TYPEs that the image replaces (R85). -/
  types : List Nat
  deriving DecidableEq, Repr

/-- How the units of a start order start (R550). -/
inductive StartKind where
  | cold | warm | parkExit
  deriving DecidableEq, Repr

/-- What the manager is doing (PWR_STAT.STATE). -/
inductive PowerPhase where
  | starting | running | parking | parked | waking
  deriving DecidableEq, Repr

/-- The encoding of PWR_STAT.STATE. -/
def PowerPhase.num : PowerPhase → Nat
  | .starting => 0
  | .running => 1
  | .parking => 2
  | .parked => 3
  | .waking => 4

/-- A throttle class (R540, R542). -/
structure ThrotClass where
  level : Nat
  /-- The levels of this revolution's spokes summed. -/
  sum : Nat
  /-- Consecutive revolutions at level 0. -/
  zeros : Nat
  /-- Curve point. -/
  point : Nat
  deriving DecidableEq, Repr

/-- A rail's readings in this revolution summed (R568). -/
structure RailSum where
  mv : Nat
  amps : Nat
  deriving DecidableEq, Repr

/-- The power and health manager. -/
structure PowerState where
  phase : PowerPhase
  startKind : StartKind
  /-- The next entry of the start order, while it runs; and whether it runs. -/
  next : Nat
  ordering : Bool
  /-- Units not started (or parked), and those of them whose start has begun: 65,536 × CLASS + INDEX of R548. -/
  down : List Nat
  begun : List Nat
  /-- The last WINDOW spoke powers, latest first (R540), and this revolution's sum and number. -/
  window : List Nat
  revSum : Nat
  revSpokes : Nat
  /-- Classes 0 to 3. -/
  classes : List ThrotClass
  /-- Extra levels of CD0 to CD3 (R541), of the DRAM stacks and of the flash stacks (R589). -/
  therm : List Nat
  /-- POWER events 0x1 and 0x2 raised in this revolution (R556). -/
  capEvent : Bool
  freeEvent : Bool
  /-- Latest samples of the sensors in units of 0.125 °C, two's complement of 16 bits, and the highest since the last read (R567). -/
  temps : SMap Nat
  tempMax : SMap Nat
  rails : SMap RailSum
  /-- PORST_N is low; WRST_N is low. -/
  porst : Bool
  wrst : Bool
  /-- The first filtered edge of PWR_WARN_N has come since the cold reset (R552). -/
  warned : Bool
  /-- A PARK request came during park exit (R547). -/
  again : Bool
  /-- The flash stage of the cold start sequence, at which the store slots are examined, is still to come (R82, R553, R554). -/
  flashStage : Bool
  deriving DecidableEq, Repr

/-- The numbers from `a` on, `n` of them. -/
def unitRange (a : Nat) : Nat → List Nat
  | 0 => []
  | n + 1 => a :: unitRange (a + 1) n

/-- Every unit that a start order may name, 65,536 × CLASS + INDEX of R548: 20 DRAM stacks, 4 dies, 64 logical tiles, 6 ports. -/
def allUnits : List Nat := unitRange 65536 20 ++ unitRange 131072 4 ++ unitRange 196608 64 ++ unitRange 262144 6

/-- The manager at a cold reset: no unit started (R553). -/
def PowerState.reset : PowerState where
  phase := .starting
  startKind := .cold
  next := 0
  ordering := false
  down := allUnits
  begun := []
  window := []
  revSum := 0
  revSpokes := 0
  classes := List.replicate 4 ⟨0, 0, 0, 0⟩
  therm := [0, 0, 0, 0, 0, 0]
  capEvent := false
  freeEvent := false
  temps := []
  tempMax := []
  rails := []
  porst := false
  wrst := false
  warned := false
  again := false
  flashStage := true

/-- A command listed in the journal mirror (R528). -/
structure Listed where
  jseq : Nat
  ring : Nat
  idx : Nat
  state : Nat
  deriving DecidableEq, Repr

/-- The journal mirror on flash (R527). -/
structure Mirror where
  next : Nat
  entries : List Listed
  deriving DecidableEq, Repr

/-- Re-admissions under way (R529): units under self-test, and units that wait to join; 65,536 × CLASS + INDEX of JRN_READMIT. -/
structure ReadmitState where
  tests : List Nat
  joining : List Nat
  deriving DecidableEq, Repr

end Sys2Proof.Machine
end

