-- ==== Sys2Proof/Machine/Image.lean ====
section
/-! DEFINITION. The Harness image (file 03): its header, its directory, the loader's status codes, the fault record of R604, and the sections that file 03 itself lays out. -/

set_option Elab.async false

namespace Sys2Proof.Machine

/-- The loader status codes of R74. -/
inductive LoadCode where
  | ok | badMagic | formatVersion | wrongDevice | imageLength | imageCrc | sectionDir | sectionCrc | sectionMissing | reservedNonzero
  | tileMap | yoke | shape | formatRow | codebook | curve | routePlan | updateRule | tier | calendar | ring | startOrder | powerCurve
  | detector | alignment | reservationFit | busy | tierDirty | prldSection | prldTimeout | sourceRead | storeUnavailable | storeEmpty
  | aborted | reset | noHarness
  deriving DecidableEq, Repr

/-- The encoding of a status code (R74). -/
def LoadCode.num : LoadCode → Nat
  | .ok => 0x00
  | .badMagic => 0x01
  | .formatVersion => 0x02
  | .wrongDevice => 0x03
  | .imageLength => 0x04
  | .imageCrc => 0x05
  | .sectionDir => 0x06
  | .sectionCrc => 0x07
  | .sectionMissing => 0x08
  | .reservedNonzero => 0x09
  | .tileMap => 0x0A
  | .yoke => 0x0B
  | .shape => 0x0C
  | .formatRow => 0x0D
  | .codebook => 0x0E
  | .curve => 0x0F
  | .routePlan => 0x10
  | .updateRule => 0x11
  | .tier => 0x12
  | .calendar => 0x13
  | .ring => 0x14
  | .startOrder => 0x15
  | .powerCurve => 0x16
  | .detector => 0x17
  | .alignment => 0x18
  | .reservationFit => 0x19
  | .busy => 0x1A
  | .tierDirty => 0x1B
  | .prldSection => 0x1C
  | .prldTimeout => 0x1D
  | .sourceRead => 0x1E
  | .storeUnavailable => 0x1F
  | .storeEmpty => 0x20
  | .aborted => 0x21
  | .reset => 0x22
  | .noHarness => 0x23

/-- What locates a refusal (R604): the code, the section's TYPE, the image offset, the entry, and whether it lies in the active image. -/
structure LoadErr where
  code : LoadCode
  sec : Nat
  off : Nat
  entry : Nat
  active : Bool
  deriving DecidableEq, Repr

/-- A fault found in one section: its code, its offset from the section's first byte, and its entry. -/
structure SecFault where
  code : LoadCode
  off : Nat
  entry : Nat
  deriving DecidableEq, Repr

/-- Of several faults of one section, the one at the lowest offset, the first listed among equals (R604: the first failing byte). -/
def firstFault : List SecFault → Option SecFault
  | [] => none
  | f :: r =>
    match firstFault r with
    | none => some f
    | some g => some (if g.off < f.off then g else f)

/-- A fault at `off` where `bad` holds. -/
def faultIf (bad : Bool) (c : LoadCode) (off entry : Nat) : List SecFault := if bad then [⟨c, off, entry⟩] else []

/-- A section's byte faults, and behind them its faults that lie in no single byte (R604; their order is log entry 10). -/
def pickFault (bytes whole : List SecFault) : Option SecFault :=
  match firstFault bytes with
  | some f => some f
  | none => whole.head?

/-- The lowest byte of a word `w` that has a bit outside `allowed`. -/
def badByte (w allowed : Word) : Option Nat :=
  (numsFrom 0 8).find? (fun i => bits (w &&& ~~~allowed) (8 * i) 8 ≠ 0)

/-- Reserved bits of one word at offset `off` of a section (R15, phase 8 of R73). -/
def reservedIn (bs : List Byte) (off entry : Nat) (allowed : Word) : List SecFault :=
  match badByte (wordAt bs off) allowed with
  | some i => [⟨.reservedNonzero, off + i, entry⟩]
  | none => []

/-- Bytes that must be zero, from `off`, `n` of them; the first that is not. -/
def zeroFrom (bs : List Byte) (c : LoadCode) (off n entry : Nat) : List SecFault :=
  match ((bs.drop off).take n).findIdx? (fun b => b ≠ 0) with
  | some i => [⟨c, off + i, entry⟩]
  | none => []

/-- The whole word allowed. -/
def allBits : Word := ~~~0

/-- A section of an image: TYPE, its image offset and its bytes (R63). -/
structure Section where
  type : Nat
  off : Nat
  crc : Nat
  body : List Byte
  deriving DecidableEq, Repr

/-- The header fields of an image (R61, R62). -/
structure ImgHeader where
  magic : Nat
  fmtMaj : Nat
  fmtMin : Nat
  hdrLen : Nat
  imageLen : Nat
  device : Nat
  minStepping : Nat
  sections : Nat
  imageId : Word
  generation : Nat
  herdAddr : Nat
  flags : Nat
  herdKey : Word
  zdim : Nat
  ydim : Nat
  xdim : Nat
  crc : Nat
  deriving DecidableEq, Repr

/-- The header of an image read from its bytes (R61). -/
def ImgHeader.ofBytes (bs : List Byte) : ImgHeader :=
  let w0 := wordAt bs 0
  let w1 := wordAt bs 8
  let w3 := wordAt bs 24
  let w5 := wordAt bs 40
  { magic := bits w0 32 32, fmtMaj := bits w0 24 8, fmtMin := bits w0 16 8, hdrLen := bits w0 0 16,
    imageLen := bits w1 32 32, device := bits w1 16 16, minStepping := bits w1 8 8, sections := bits w1 0 8,
    imageId := wordAt bs 16, generation := bits w3 32 32, herdAddr := bits w3 16 16, flags := bits w3 0 16,
    herdKey := wordAt bs 32, zdim := bits w5 26 6, ydim := bits w5 21 5, xdim := bits w5 16 5, crc := bits (wordAt bs 56) 0 32 }

/-- Largest image: 256 MiB (R61). -/
def maxImage : Nat := 0x10000000

/-- Phases 2 to 4 of R73: the header fields (the source length is `len`). -/
def ImgHeader.check (h : ImgHeader) (len : Nat) : Option LoadErr :=
  let e (c : LoadCode) (o : Nat) : Option LoadErr := some ⟨c, 0, o, 0, false⟩
  if h.magic ≠ 0x4B484152 then e .badMagic 4
  else if h.hdrLen ≠ 0x40 then e .badMagic 0
  else if h.imageLen % 64 ≠ 0 ∨ maxImage < h.imageLen ∨ h.imageLen ≠ len then e .imageLength 12
  else if h.fmtMaj ≠ 1 then e .formatVersion 3
  else if 1 < h.fmtMin then e .formatVersion 2
  else if h.device ≠ 0x1216 then e .wrongDevice 10
  else if 0xB0 < h.minStepping then e .wrongDevice 9
  else none

/-- The bytes of an image with IMAGE_CRC taken as zero (R61). -/
def crcImage (bs : List Byte) : List Byte := bs.take 0x38 ++ [0, 0, 0, 0] ++ bs.drop 0x3C

/-- A directory entry: OFFSET, LENGTH, CRC, TYPE (R63). -/
structure DirEntry where
  off : Nat
  len : Nat
  crc : Nat
  type : Nat
  deriving DecidableEq, Repr

/-- Directory entry `i` of an image. -/
def dirEntry (bs : List Byte) (i : Nat) : DirEntry :=
  let w0 := wordAt bs (0x40 + 16 * i)
  let w1 := wordAt bs (0x48 + 16 * i)
  ⟨bits w0 32 32, bits w0 0 32, bits w1 32 32, bits w1 0 8⟩

/-- The directory of an image. -/
def directory (bs : List Byte) : List DirEntry := (numsFrom 0 (ImgHeader.ofBytes bs).sections).map (dirEntry bs)

/-- The directory rules of R63 and R64 for entry `i`, the entries before it given; OFFSET is the failing field's image offset. -/
def dirFaults (h : ImgHeader) (ds : List DirEntry) (i : Nat) (d : DirEntry) : List LoadErr :=
  let base := 0x40 + 16 * i
  let e (bad : Bool) (o : Nat) : List LoadErr := if bad then [⟨.sectionDir, d.type, o, i, false⟩] else []
  e (d.off % 64 ≠ 0) (base + 4) ++
  e (d.off < 0x40 + 16 * h.sections) (base + 4) ++
  e (decide (h.imageLen < d.off + d.len)) base ++
  e ((ds.take i).any (fun x => overlaps x.off x.len d.off d.len)) (base + 4) ++
  e (d.type = 0 ∨ 0x0F ≤ d.type) (base + 8) ++
  e (d.type = 0x0E ∧ h.fmtMin = 0) (base + 8) ++
  e ((ds.take i).any (fun x => x.type = d.type)) (base + 8)

/-- Faults of the directory, entry by entry (R63, R64). -/
def checkDir (h : ImgHeader) (ds : List DirEntry) : Option LoadErr :=
  if h.sections = 0 ∨ 15 < h.sections then some ⟨.sectionDir, 0, 8, 0, false⟩
  else ((ds.zipIdx.map (fun p => dirFaults h ds p.2 p.1)).flatten).head?

/-- The sections of an image, in directory order. -/
def sectionsOf (bs : List Byte) : List Section :=
  (directory bs).map (fun d => ⟨d.type, d.off, d.crc, (bs.drop d.off).take d.len⟩)

/-- The body of the section of one TYPE. -/
def bodyOf (ss : List Section) (t : Nat) : Option (List Byte) := (ss.find? (fun s => s.type == t)).map (·.body)

/-- Whether a TYPE is a tile section (R64). -/
def isTileSection (t : Nat) : Bool := t == 2 || t == 3 || t == 5 || t == 6 || t == 0xC || t == 0xD || t == 0xE

/-- The TYPEs a full image requires (R64). -/
def requiredTypes : List Nat := [1, 4, 7, 9, 0xA, 0xB, 0xC]

/-! The tile map (R65). -/

/-- The physical code of die `d`, die-local index `i`: 17 d + i. -/
def physCode (d i : Nat) : Nat := 17 * d + i

/-- Reserved bits of a tile map section (R65). -/
def tileMapReserved (bs : List Byte) : List SecFault :=
  reservedIn bs 0 0 1 ++ zeroFrom bs .reservedNonzero 8 56 0 ++
  ((numsFrom 0 64).map (fun n => reservedIn bs (64 + 8 * n) n 0xFFFF)).flatten

/-- DIE and INDEX of the entry of logical tile `n`. -/
def tileMapEntry (bs : List Byte) (n : Nat) : Nat × Nat :=
  let w := wordAt bs (64 + 8 * n)
  (bits w 8 8, bits w 0 8)

/-- AUTO of a tile map section. -/
def tileMapAuto (bs : List Byte) : Bool := bit (wordAt bs 0) 0

/-- The map the loader builds when AUTO is 1 (R65): die by die in ascending order, the spare taken by the first tile in need. -/
def autoMap (inServ : Nat → Bool) : List (Option Nat) :=
  ((numsFrom 0 4).map (fun d =>
    ((numsFrom 0 16).foldl (fun (a : List (Option Nat) × Bool) i =>
      if inServ (physCode d i) then (a.1 ++ [some (physCode d i)], a.2)
      else if a.2 ∧ inServ (physCode d 16) then (a.1 ++ [some (physCode d 16)], false)
      else (a.1 ++ [none], a.2)) ([], true)).1)).flatten

/-- The physical tile of each logical tile under a tile map section (R65). -/
def tileMapOf (inServ : Nat → Bool) (bs : List Byte) : List (Option Nat) :=
  if tileMapAuto bs then autoMap inServ
  else (numsFrom 0 64).map (fun n => let e := tileMapEntry bs n; if e.2 = 0xFF then none else some (physCode e.1 e.2))

/-- Phase 9 of the tile map (R65). -/
def tileMapFaults (inServ : Nat → Bool) (bs : List Byte) : List SecFault :=
  if tileMapAuto bs then zeroFrom bs .tileMap 64 512 0 |>.map (fun f => { f with entry := (f.off - 64) / 8 })
  else ((numsFrom 0 64).map (fun n =>
    let e := tileMapEntry bs n
    let named := (numsFrom 0 64).map (fun k => (k, tileMapEntry bs k))
    faultIf (e.1 ≠ n / 16) .tileMap (65 + 8 * n) n ++
    faultIf (e.2 ≠ 0xFF ∧ 16 < e.2) .tileMap (64 + 8 * n) n ++
    faultIf (e.2 ≤ 16 ∧ e.1 = n / 16 ∧ !inServ (physCode e.1 e.2)) .tileMap (64 + 8 * n) n ++
    faultIf (e.2 ≤ 16 && named.any (fun p => decide (p.1 < n) && decide (p.2 = e))) .tileMap (64 + 8 * n) n ++
    faultIf (e.2 = 0xFF && (numsFrom 0 17).any (fun i => inServ (physCode (n / 16) i) && !named.any (fun p => decide (p.2 = (n / 16, i))))) .tileMap (64 + 8 * n) n)).flatten

/-! Yokes (R66) and array shapes (R67). -/

/-- The yoke value of logical tile `n` in a yokes section. -/
def yokeByte (bs : List Byte) (n : Nat) : Nat := (bs.getD n 0).toNat

/-- The members of the yoke of tile `n` for a yoke value. -/
def yokeMembersOf (v n : Nat) : List Nat :=
  match v with
  | 1 => numsFrom (n / 2 * 2) 2
  | 2 => numsFrom (n / 4 * 4) 4
  | _ => [n]

/-- Phase 9 of the yokes (R66). -/
def yokeFaults (bs : List Byte) : List SecFault :=
  ((numsFrom 0 64).map (fun n =>
    faultIf (2 < yokeByte bs n || (yokeMembersOf (yokeByte bs n) n).any (fun k => yokeByte bs k ≠ yokeByte bs n)) .yoke n n)).flatten

/-- Phase 10 of the yokes: no member is unmapped (R66). -/
def yokeMapFaults (tm : List (Option Nat)) (bs : List Byte) : List SecFault :=
  ((numsFrom 0 64).map (fun n =>
    faultIf (1 ≤ yokeByte bs n && (tm.getD n none).isNone) .yoke n n)).flatten

/-- Reserved bits of an array shapes section (R67). -/
def shapeReserved (bs : List Byte) : List SecFault := reservedIn bs 0 0 3

/-- Whether shape code `v` is enabled by ENABLE `en` (R67). -/
def shapeEnabled (en v : Nat) : Bool :=
  match v with
  | 0 => true
  | 1 => en % 2 == 1
  | 2 => en / 2 % 2 == 1
  | _ => false

/-- Phase 9 of the shapes (R67). -/
def shapeFaults (bs : List Byte) : List SecFault :=
  ((numsFrom 0 64).map (fun n => faultIf (!shapeEnabled (bits (wordAt bs 0) 0 2) (bs.getD (8 + n) 0).toNat) .shape (8 + n) n)).flatten

/-- Phase 10 of the shapes: the members of a yoke start alike (R67); the fault lies at the first member that differs from the yoke's first. -/
def shapeYokeFaults (yokes : List Byte) (bs : List Byte) : List SecFault :=
  ((numsFrom 0 64).map (fun n =>
    let m := (yokeMembersOf (yokeByte yokes n) n).headD n
    faultIf (bs.getD (8 + n) 0 ≠ bs.getD (8 + m) 0) .shape (8 + n) n)).flatten

/-! The format table (R68 to R70). -/

/-- Offset of row `r` in the format table section. -/
def fmtRowOff (r : Nat) : Nat := 64 + 1088 * r

/-- Reserved bits of a format table section (R68). -/
def formatReserved (bs : List Byte) : List SecFault :=
  zeroFrom bs .reservedNonzero 8 56 0 ++
  ((numsFrom 0 16).map (fun r => reservedIn bs (fmtRowOff r) r 0x1FFFFFF ++ zeroFrom bs .reservedNonzero (fmtRowOff r + 8) 56 r)).flatten

/-- A row of the format table section (R68). -/
def fmtRowOf (bs : List Byte) (r : Nat) : FmtRow :=
  let w := wordAt bs (fmtRowOff r)
  let kind := bits w 0 8
  let width := bits w 16 4
  { kind := kind, builtin := bits w 8 8, width := width, encode := bits w 20 4, scaled := bit w 24,
    table := if kind = 2 then (numsFrom 0 (2 ^ width)).map (fun i => BitVec.ofNat 32 (word32At bs (fmtRowOff r + 64 + 4 * i))) else [] }

/-- Whether a value is exactly representable in S1E6M3 (R70). -/
def inS1E6M3 (v : FV) : Bool :=
  match v with
  | .fin _ m e =>
    if m = 0 then true
    else
      let x := floorLog2 m e
      -- (8 + f) times 2^(x - 3): the digits below 2^(x - 3) must be zero
      decide (-30 ≤ x) && decide (x ≤ 32) && (if e < x - 3 then decide (m % pow2 (x - 3 - e) = 0) else true)
  | _ => false

/-- CODEBOOK faults of a custom row (R70); ENTRY is the decode table's index. -/
def codebookFaults (bs : List Byte) (r : Nat) (row : FmtRow) : List SecFault :=
  let es := row.table
  let at_ (i : Nat) : Nat := fmtRowOff r + 64 + 4 * i
  ((numsFrom 0 256).map (fun i =>
    if i < es.length then
      let x := es.getD i 0
      faultIf (!inS1E6M3 (ofF32 x) || (es.take i).any (fun y => decide (y = x) )) .codebook (at_ i) i
    else faultIf (word32At bs (at_ i) ≠ 0) .codebook (at_ i) i)).flatten

/-- Phase 9 of one format row (R68 to R70). -/
def fmtRowFaults (bs : List Byte) (r : Nat) : List SecFault :=
  let row := fmtRowOf bs r
  let o := fmtRowOff r
  let f (bad : Bool) (k : Nat) : List SecFault := faultIf bad .formatRow (o + k) r
  let zeroTable : List SecFault := (zeroFrom bs .formatRow (o + 64) 1024 0).map (fun g => { g with entry := (g.off - (o + 64)) / 4 })
  f (decide (2 < row.kind)) 0 ++
  f (decide (r = 0 ∧ (row.kind ≠ 1 ∨ row.builtin ≠ 3)) || decide (r = 1 ∧ (row.kind ≠ 1 ∨ row.builtin ≠ 2))) (if row.kind ≠ 1 then 0 else 1) ++
  f (decide (3 ≤ row.encode)) 2 ++
  (match row.kind with
    | 0 => f (decide (row.builtin ≠ 0)) 1 ++ f (decide (row.width ≠ 0 ∨ row.encode ≠ 0)) 2 ++ f row.scaled 3 ++ zeroTable
    | 1 => f (decide (row.builtin = 0 ∨ 0x0C ≤ row.builtin)) 1 ++ f (decide (row.width ≠ 0)) 2 ++
           f (row.scaled != (decide (6 ≤ row.builtin) && decide (row.builtin ≤ 11))) 3 ++ zeroTable
    | 2 => f (decide (row.builtin ≠ 0)) 1 ++ f (decide (row.width < 2 ∨ 8 < row.width)) 2 ++ f (decide (row.encode = 2)) 2 ++
           (if row.width < 2 ∨ 8 < row.width then [] else codebookFaults bs r row)
    | _ => [])

/-- Phase 9 of the format table (R68 to R70). -/
def formatFaults (bs : List Byte) : List SecFault := ((numsFrom 0 16).map (fmtRowFaults bs)).flatten

/-! Ring assignment (R71). -/

/-- A range record of the ring assignment (R71). -/
structure RingRange where
  first : Nat
  num : Nat
  role : Nat
  pair : Nat
  vector : Nat
  bind : Nat
  deriving DecidableEq, Repr

/-- Range record `i` of a ring assignment section. -/
def ringRange (bs : List Byte) (i : Nat) : RingRange :=
  let w := wordAt bs (16 + 16 * i)
  ⟨bits w 50 14, bits w 36 14, bits w 32 4, bits w 18 14, bits w 7 11, bits w 0 7⟩

/-- COUNT of a ring assignment section. -/
def ringCount (bs : List Byte) : Nat := bits (wordAt bs 0) 0 14

/-- The range records of a ring assignment section. -/
def ringRanges (bs : List Byte) : List RingRange := (numsFrom 0 (ringCount bs)).map (ringRange bs)

/-- Reserved bits of a ring assignment section, those of a field its role does not use among them (R71). -/
def ringReserved (bs : List Byte) : List SecFault :=
  reservedIn bs 0 0 0x3FFF ++ reservedIn bs 8 0 0 ++
  ((numsFrom 0 (ringCount bs)).map (fun i =>
    let r := ringRange bs i
    let allowed : Word := 0xFFFFFFFF00000000 ||| (if r.role = 1 then 0xFFFC0000 else if r.role = 2 then 0x3FF80 else if r.role = 3 ∨ r.role = 4 then 0x7F else 0xFFFFFFFF)
    reservedIn bs (16 + 16 * i) i allowed ++ reservedIn bs (24 + 16 * i) i 0)).flatten

/-- The role of a ring and its place in its range, if a range holds it. -/
def ringRole (rs : List RingRange) (ring : Nat) : Option RingRange :=
  rs.find? (fun r => decide (r.first ≤ ring) && decide (ring ≤ r.first + r.num))

/-- The completion rings a submission range pairs with: first and number minus 1. -/
def pairSpan (r : RingRange) : Nat × Nat := (r.pair, r.num + 1)

/-- Whether every ring of [a, a + n) lies in a host completion range. -/
def allCompletion (rs : List RingRange) (a n : Nat) : Bool :=
  (numsFrom a n).all (fun k => match ringRole rs k with
    | some r => r.role == 2
    | none => false)

/-- Phase 9 of the ring assignment (R71, R182). -/
def ringFaults (bs : List Byte) : List SecFault :=
  let rs := ringRanges bs
  ((numsFrom 0 rs.length).map (fun i =>
    let r := ringRange bs i
    let before := rs.take i
    let o := 16 + 16 * i
    faultIf (decide (r.role = 0 ∨ 5 ≤ r.role)) .ring (o + 4) i ++
    faultIf (decide (16383 < r.first + r.num)) .ring (o + 6) i ++
    faultIf (before.any (fun q => overlaps q.first (q.num + 1) r.first (r.num + 1))) .ring (o + 6) i ++
    faultIf (decide (r.role = 1) && !allCompletion rs r.pair (r.num + 1)) .ring (o + 2) i ++
    faultIf (decide (r.role = 1) && before.any (fun q => decide (q.role = 1) && overlaps q.pair (q.num + 1) r.pair (r.num + 1))) .ring (o + 2) i ++
    faultIf (decide (r.role = 3 ∧ 5 < r.bind) || decide (r.role = 4 ∧ 63 < r.bind)) .ring o i)).flatten

/-- The number of work rings bound to logical tile `t` by the first `n` records. -/
def ringsOfTile (rs : List RingRange) (t : Nat) : Nat :=
  (rs.map (fun r => if r.role = 4 ∧ r.bind = t then r.num + 1 else 0)).foldl (· + ·) 0

/-- The first record at which tile `t` has more than 16 work rings (R182, R604). -/
def ringOverflow (rs : List RingRange) (t : Nat) : Option Nat :=
  (numsFrom 0 rs.length).find? (fun i => decide (16 < ringsOfTile (rs.take (i + 1)) t))

/-- Faults of the ring assignment that lie in no single byte (R71, R182, R604). -/
def ringWhole (bs : List Byte) : List SecFault :=
  let rs := ringRanges bs
  ((numsFrom 0 64).map (fun t => faultIf (ringsOfTile rs t = 0) .ring 0 t)).flatten ++
  ((numsFrom 0 64).map (fun t => match ringOverflow rs t with
    | some i => [(⟨.ring, 0, i⟩ : SecFault)]
    | none => [])).flatten

/-- Phase 10: a port whose dimension has an extent above 1 has a link channel ring (R71). `dims` holds the extents minus 1 of X, Y and Z. -/
def ringPortFaults (xd yd zd : Nat) (bs : List Byte) : List SecFault :=
  let rs := ringRanges bs
  let ext (p : Nat) : Nat := if p < 2 then xd else if p < 4 then yd else zd
  ((numsFrom 0 6).map (fun p => faultIf (decide (0 < ext p) && !rs.any (fun r => decide (r.role = 3 ∧ r.bind = p))) .ring 0 p)).flatten

end Sys2Proof.Machine
end

