-- ==== Sys2Proof/Machine/Journal.lean ====
section
/-! DEFINITION. The command journal's entries (R508) and the host interface's own state (R452 to R481): the record types, plain data. -/

set_option Elab.async false

namespace Sys2Proof.Machine

/-- The state of an accepted command (R3, R4, R508); a completed command has left the journal (R464). -/
inductive CmdState where
  | accepted
  | dispatched
  | committed
  deriving DecidableEq, Repr

/-- Where a command is executed (R462); `invalid` is a command sent to an invalid target. -/
inductive Target where
  | host
  | tileRing (ring : Nat)
  | drover (cluster : Nat)
  | sequencer (die : Nat)
  | collective
  | rowEngines
  | invalid
  deriving DecidableEq, Repr

/-- The unit a dispatched tile command occupies (R183). -/
inductive TileUnit where
  | none
  | array
  | element
  | channel (c : Nat)
  deriving DecidableEq, Repr

/-- The state of a reservation record that is not FREE (R224). -/
inductive ResvSt where
  /-- IN_USE by the dispatched stream of this JSEQ. -/
  | inUse (jseq : Nat)
  | held
  deriving DecidableEq, Repr

/-- What a request that waits for the tier controller waits for (R324, R325): an object by a frame of it, for a read or a write, and the slot whose write-back was begun for it. -/
structure TierWait where
  frame : Nat
  write : Bool
  evict : Option Nat
  deriving DecidableEq, Repr

/-- What a stream on its channel waits for (R214, R219, R324, R337, R409, R410). -/
inductive StreamWait where
  | ready
  | tier (w : TierWait)
  | chunk (a : Nat)
  | credit
  | remote
  | arrival
  /-- Reads without an answer. -/
  | answers
  deriving DecidableEq, Repr

/-- One block of an ACCUM segment, staged: the memory keys of its value, residual and scale bytes, and the 32 contributions (R274, R275). -/
structure StagedBlock where
  value : Nat
  resid : Nat
  scale : Nat
  contrib : List Nat
  deriving DecidableEq, Repr

/-- How far a STREAM has come (R212, R214, R220). Positions count atoms in traversal order. -/
structure StreamRun where
  /-- The next atom to move. -/
  pos : Nat
  /-- The next atom to ask for or to send (far kinds 0x2 and 0x3). -/
  asked : Nat
  /-- The credit of the segment in hand has been taken. -/
  credited : Bool
  wait : StreamWait
  /-- The halt slot and its reason code (R219, R228). -/
  halt : Option (Nat × Nat)
  /-- The halt table was full (R220). -/
  full : Bool
  /-- Blocked at the watchdog's last examination and ever since (R225). -/
  blocked : Bool
  /-- Records the watchdog has released (R225). -/
  released : List Nat
  /-- Flow position after the last message sent (far kind 0x2 STORE), and flow identity. -/
  flowPos : Nat
  flow : Nat
  /-- Reads without an answer. -/
  awaiting : Nat
  /-- RECEIVE: bytes of the arrival in all, once known, and bytes of it written (R408, R413). -/
  arrival : Option Nat
  got : Nat
  /-- ACCUM: the segment in hand is staged on every base die (R275). RECEIVE: the arrival has ended (R413). -/
  staged : Bool
  /-- ACCUM: the blocks staged and not committed (R275). -/
  held : List StagedBlock
  deriving DecidableEq, Repr

/-- A stream that has moved nothing. -/
def StreamRun.start : StreamRun where
  pos := 0
  asked := 0
  credited := false
  wait := .ready
  halt := none
  full := false
  blocked := false
  released := []
  flowPos := 0
  flow := 0
  awaiting := 0
  arrival := none
  got := 0
  staged := false
  held := []

/-- A journal entry (R508): the command, its JSEQ (the table's key), its source, its state and its progress record. -/
structure JEntry where
  /-- Ring of acceptance: a host submission ring, or the tile work ring of an instance built on the device. -/
  ring : Nat
  /-- Submission index, free-running (R454). -/
  idx : Nat
  /-- Position in a FORWARD group (R461). -/
  sub : Nat
  /-- IRQ of the envelope, for the completion's interrupt (R478). -/
  irq : Bool
  user : Word
  task : Nat
  target : Target
  /-- Logical tile that executes a tile command. -/
  tile : Nat
  /-- The command's sixteen words. -/
  words : List Word
  /-- JSEQ of the job that built this instance; 0 for a command of the host (R466). -/
  parent : Nat
  st : CmdState
  /-- Dispatches so far (R508). -/
  disp : Nat
  /-- The command has a zero shape: it runs its course and completes EMPTY (R195). -/
  empty : Bool
  /-- Status of a refusal at acceptance (R4, R197). -/
  refusal : Option Nat
  /-- The signal slots themselves are at fault, or the target is invalid: the refusal poisons no mark (R180). -/
  mute : Bool
  /-- The status the execution ended with, while the commit waits for its place in the ring (R184). -/
  fin : Option Nat
  /-- The status the command completes with, once it has committed (R471). -/
  status : Nat
  /-- The signal slots have been applied: increments, or poison (R180). -/
  settled : Bool
  /-- The command has been reported to its source by its tile (R184). -/
  reported : Bool
  res0 : Word
  res1 : Word
  unit : TileUnit
  /-- Row count read at first dispatch (R196). -/
  rows : Option Nat
  /-- Commit blocks whose bit is set (R187). -/
  blocks : List Nat
  /-- Delivered segments of a stream (R212), or committed pieces of a copy (R459). -/
  segs : Nat
  /-- ACCUM header words read at first dispatch (R273). -/
  header : List Word
  /-- Reservation records the command holds (R508). -/
  resv : List Nat
  /-- A cancel arrived while the command ran (R475). -/
  cancelled : Bool
  /-- The REDUCE has been sent (R420), or the VOTE_SEAL sealed (R281). -/
  sent : Bool
  /-- REDUCE: the result received (R420). -/
  payload : List Byte
  deriving DecidableEq, Repr

/-- What a device-initiated read is for (R476). -/
inductive ReadKind where
  /-- Fetch of `n` entries of a submission ring from index `start`; `fails` retries of it have failed (R463, R465). -/
  | fetch (ring start n fails : Nat)
  /-- A piece of an HCOPY_IN: `n` bytes at byte offset `off` of the command's range (R459). -/
  | hcopy (jseq off n : Nat)
  /-- A piece of a LOAD with far kind 0x3 (R204). -/
  | load (jseq off n : Nat)
  /-- The zero-length read of a FLUSH (R467). -/
  | flush (jseq : Nat)
  /-- A piece of a loader's staging (R81). -/
  | stage (off n : Nat)
  /-- A piece of a tier FILL (R331). -/
  | fill (frame off n : Nat)
  /-- A chunk of the import buffer (R497). -/
  | importChunk (pos n : Nat)
  deriving DecidableEq, Repr

/-- A read awaiting completion (R477). -/
structure RdReq where
  kind : ReadKind
  addr : Nat
  len : Nat
  deriving DecidableEq, Repr

/-- A request the device has put on the PCIe link, in order: what the host side sees of it. -/
inductive HostTx where
  | read (tag addr len : Nat)
  | write (addr : Nat) (bytes : List Byte)
  /-- An interrupt message: the address and data of the vector's table entry (R478). -/
  | msix (vector : Nat) (addr : Word) (data : Nat)
  /-- An Uncorrectable Internal Error reported through Advanced Error Reporting (R519). -/
  | aerUncorrectable
  deriving DecidableEq, Repr

/-- A FORWARD group being accepted: its envelope, the position of its next command, and whether the envelope is malformed (R461). -/
structure Group where
  envelope : List Word
  next : Nat
  count : Nat
  malformed : Bool
  deriving DecidableEq, Repr

/-- A record waiting to be written while host memory cannot be written (R452): an event record. -/
structure EventRec where
  words : List Word
  deriving DecidableEq, Repr

/-- A recovery barrier owed to a submission ring: the recovery number (R474, R521). -/
structure Barrier where
  ring : Nat
  recovery : Nat
  deriving DecidableEq, Repr

/-- A message of a retired or zero-count envelope waiting for its place in completion order (R461): an envelope that is no command. -/
structure BareDone where
  idx : Nat
  user : Word
  irq : Bool
  /-- Every command of the ring with a lower JSEQ completes before it. -/
  before : Nat
  deriving DecidableEq, Repr

/-- The host interface beside its registers (file 18). -/
structure HostState where
  /-- Reads awaiting completion, by tag. -/
  reads : SMap RdReq
  /-- Tags in quarantine (R477). -/
  quarantined : List Nat
  /-- Entries fetched and not accepted, from ACCEPT on, by ring (R463). -/
  fetched : SMap (List (List Word))
  /-- Rings with a fetch read outstanding: the index after its last entry. -/
  fetching : SMap Nat
  /-- Rings whose fetch has failed for good, with the cause (R465); RING_ERROR acts on it. -/
  failed : SMap Nat
  /-- Failed tries of the fetch read that a ring is to issue again (R465). -/
  retries : SMap Nat
  /-- FORWARD groups in progress, by ring (R461). -/
  groups : SMap Group
  /-- Zero-count envelopes waiting to complete, by ring (R461). -/
  bare : SMap (List BareDone)
  /-- The ring after which the round robin of fetches goes on (R463). -/
  rrFetch : Nat
  /-- Event records held under R452, oldest first. -/
  heldEvents : List EventRec
  /-- Vectors of interrupts held under R452, oldest first. -/
  heldVectors : List Nat
  /-- MSI-X Enable of the configuration space. -/
  msixEnable : Bool
  /-- Tag width in use: 8, 10 or 14 bits (R449). -/
  tagBits : Nat
  /-- Entries a completion ring has written since it last signalled (R478). -/
  unsignalled : SMap Nat
  /-- Barriers owed, oldest first (R474, R522). -/
  barriers : List Barrier
  /-- Completion rings whose reserved entry is in use: the index after which it is free again (R474). -/
  reserveUsed : SMap Nat
  /-- Everything put on the PCIe link, oldest first. -/
  out : List HostTx
  deriving DecidableEq, Repr

end Sys2Proof.Machine
end

