-- ==== Sys2Proof/Machine/NetState.lean ====
section
/-! DEFINITION. The link ports' and the exchange path's state beside their registers (files 15 and 16): plain data. -/

set_option Elab.async false

namespace Sys2Proof.Machine

/-- A DATA flit held by a port: its class, exchange word and payload bytes (R366, R371). -/
structure DFlit where
  vc : Nat
  exch : Word
  payload : List Byte
  /-- It enters a dimension here, and so needs two credits (R397). -/
  turn : Bool
  /-- The port whose receive buffer entry it holds until it is sent on. -/
  origin : Option Nat
  /-- The EXTERNAL command that sent it; 0 for none (R388). -/
  jseq : Nat
  deriving DecidableEq, Repr

/-- Why a port trains: its start (R382), an attempt while ABSENT, a re-admission (R389), or a suspected loss (R387). -/
inductive Series where
  | start | gap | readmit | lost
  deriving DecidableEq, Repr

/-- A link port beside its LNK block. -/
structure Port where
  /-- What the training now running is: a fast retrain or a full attempt, and its series. -/
  fast : Bool
  series : Series
  /-- The port retires as soon as PORT_RETIRED comes (R387). -/
  dying : Bool
  /-- Flits not yet sent for the first time, by class, oldest first. -/
  queue : SMap (List DFlit)
  /-- Sent and not acknowledged, oldest first; the oldest has sequence number `oldest`. -/
  unacked : List DFlit
  oldest : Nat
  /-- Position in `unacked` of the next flit to replay, while a replay runs (R376). -/
  replayAt : Option Nat
  /-- Replays without acknowledgement progress (R376). -/
  replays : Nat
  /-- Receiver: the sequence number expected, whether a flit has been accepted in this session, and whether NAK is set (R374, R376). -/
  rxNext : Nat
  rxAny : Bool
  nak : Bool
  /-- Credits to return, by class (R373). -/
  freed : SMap Nat
  /-- Control messages due: those that go ahead of every flit, and the others (R369). -/
  urgent : List (List Word)
  control : List (List Word)
  /-- Flit slots since the last CONTROL flit, and slots a VC 2 flit has waited (R369, R372). -/
  sinceControl : Nat
  waited2 : Nat
  /-- Slots in which a DOWN message is still to be sent, and its reason (R369). -/
  downSlots : Nat
  downReason : Nat
  /-- The partner's IDENT in this attempt, whether it showed SEEN, and whether this side has sent SEEN (R370, R379). -/
  ident : Option (List Word)
  identSeen : Bool
  sentSeen : Bool
  /-- Lanes that locked in this attempt, and consecutive failures of each lane to lock (R379, R385). -/
  locked : Nat
  lockFails : SMap Nat
  /-- The port has been UP since its last start (R383), and its identity check is skipped once (R392). -/
  beenUp : Bool
  skipIdentity : Bool
  /-- Park: PM_ENTER is requested; a PM_ACK is due; a wake is under way (R390). -/
  pmEnter : Bool
  waking : Bool
  /-- Re-admitted and UP, waiting for the boundary (R389); the first JSEQ it carries commands of. -/
  joining : Bool
  fromJseq : Nat
  /-- The flit on the transmit lanes in the latest flit slot. -/
  sent : Option Flit
  deriving DecidableEq, Repr

/-- A port that has not started. -/
def Port.reset : Port where
  fast := false
  series := .start
  dying := false
  queue := []
  unacked := []
  oldest := 0
  replayAt := none
  replays := 0
  rxNext := 0
  rxAny := false
  nak := false
  freed := []
  urgent := []
  control := []
  sinceControl := 64
  waited2 := 0
  downSlots := 0
  downReason := 0
  ident := none
  identSeen := false
  sentSeen := false
  locked := 0
  lockFails := []
  beenUp := false
  skipIdentity := false
  pmEnter := false
  waking := false
  joining := false
  fromJseq := 0
  sent := none

/-- A message of the exchange path (R400), whole. -/
structure Msg where
  dst : Nat
  src : Nat
  tag : Nat
  mtype : Nat
  slot : Nat
  last : Bool
  codec : Bool
  /-- Element size code of compressed blocks, 0 to 2 for 1, 2 and 4 bytes (log entry 20). -/
  esz : Nat
  rtag : Nat
  reason : Nat
  flow : Nat
  eseq : Nat
  off : Nat
  len : Nat
  alen : Nat
  jseq : Nat
  /-- The collective messages' fields, in order, from +0x08 (log entry 21). -/
  extra : List Word
  /-- The data fragments' bytes. -/
  body : List Byte
  /-- The slot was OPEN when the header arrived (R403). -/
  opened : Bool
  deriving DecidableEq, Repr

/-- A message of one type with everything else zero. -/
def Msg.blank (dst src mtype : Nat) : Msg := ⟨dst, src, 0, mtype, 0, false, false, 0, 0, 0, 0, 0, 0, 0, 0, 0, [], [], false⟩

/-- A WRITE sent and not acknowledged: what it takes to send it again (R409). -/
structure SentMsg where
  pos : Nat
  len : Nat
  jseq : Nat
  off : Nat
  last : Bool
  alen : Nat
  /-- The local row, the first atom and the number of atoms it carries. -/
  row : Nat
  atom : Nat
  atoms : Nat
  deriving DecidableEq, Repr

/-- A sender's flow record (R406). -/
structure TxFlow where
  flow : Nat
  next : Nat
  ackPos : Nat
  credLim : Nat
  sent : List SentMsg
  resends : Nat
  deriving DecidableEq, Repr

/-- A receiver's flow record (R407); for a ring target, the position at which the arrival ends, once it is known (R408). -/
structure RxFlow where
  flow : Nat
  pos : Nat
  limit : Nat
  deriving DecidableEq, Repr

/-- A remote read without an answer (R410): its command, and the atoms it asks for. -/
structure RemoteRead where
  jseq : Nat
  row : Nat
  atom : Nat
  atoms : Nat
  scale : Bool
  deriving DecidableEq, Repr

/-- A reduction at a level root (R416, R420): level 0 row, 1 column, 2 herd; the contributions so far by their place in order. -/
structure Partial where
  /-- RID for a REDUCE, STEP for a vote. -/
  key : Nat
  vote : Bool
  level : Nat
  /-- The vote spoke V (R417); 0 for a REDUCE. -/
  spoke : Nat
  count : Nat
  rop : Nat
  mismatch : Bool
  inputs : SMap (List Word)
  deriving DecidableEq, Repr

/-- The vote's state beside COL_VOTESTEP, COL_VOTEREC and COL_VERDICT (R279 to R285): in the always-on domain. -/
structure VoteState where
  /-- The norm partial, in units of 2^−300 (R279). -/
  norm : Nat
  /-- A VOTE_SEAL has been accepted since the cold reset, and OPEN is set (R288). -/
  opened : Bool
  /-- The open step has a sealed record (R281). -/
  sealed_ : Bool
  /-- The vote spoke of the latest launch, as a Wheel time in spokes (R282). -/
  launched : Option Nat
  /-- The last 64 verdict records, oldest first (R418); the words of a VERDICT message (log entry 24). -/
  log : List (List Word)
  /-- APPLY and SKIP verdicts delivered to the Drover clusters: 1 or 2 by step (R264, R284). -/
  delivered : SMap Nat
  deriving DecidableEq, Repr

/-- Nothing sealed, launched or decided. -/
def VoteState.reset : VoteState := ⟨0, false, false, none, [], []⟩

/-- The exchange path and the collective unit beside their registers. -/
structure NetState where
  ports : SMap Port
  /-- Messages under assembly, by 4,096 × source + tag; and those in transit that are expanded on the way (R381). -/
  partials : SMap Msg
  transit : SMap Msg
  /-- Whole messages that have arrived and have not been acted on, oldest first. -/
  inbox : List Msg
  nextTag : Nat
  /-- Sender flow records by 256 × destination + slot; receiver flow records by 256 × source + slot. -/
  txFlows : SMap TxFlow
  rxFlows : SMap RxFlow
  /-- The revolution of the latest flow creation and how many were created in it (R406). -/
  flowRev : Nat
  flowsInRev : Nat
  reads : SMap RemoteRead
  readQuar : List Nat
  /-- Reductions under way at this package as a level root. -/
  reductions : List Partial
  /-- Results of the last 64 REDUCE commands: RID, mismatched, result words (R420). -/
  results : List (Nat × Bool × List Word)
  vote : VoteState
  deriving DecidableEq, Repr

/-- Nothing in flight. -/
def NetState.reset : NetState := ⟨[], [], [], [], 0, [], [], 0, 0, [], [], [], [], VoteState.reset⟩

end Sys2Proof.Machine
end

