-- ==== Sys2Proof/Machine/Regs.lean ====
section
/-! DEFINITION. The register blocks of BAR0 (R45): every register's offset, width, fields, access codes and Reset values, written from the tables of the spec. -/

set_option Elab.async false

namespace Sys2Proof.Machine

/-- The access codes of R17. -/
inductive Access where
  | ro
  | rw
  | w1c
  | w1s
  | wo
  | rc
  deriving DecidableEq, Repr

/-- A field of a register: its lowest bit, width, access code and Reset value (R16, R17). Bits in no field are reserved (R15). -/
structure FieldSpec where
  lo : Nat
  n : Nat
  acc : Access
  reset : Nat
  deriving DecidableEq, Repr

/-- A register of a block, or an indexed family of them: instance `i` lies at `off + i * stride` (R16). -/
structure RegSpec where
  off : Nat
  width : Nat
  stride : Nat
  count : Nat
  fields : List FieldSpec
  deriving DecidableEq, Repr

/-- A field by its register's BAR0 offset, lowest bit and width. -/
structure Fld where
  reg : Nat
  lo : Nat
  n : Nat
  deriving DecidableEq, Repr

/-- The registers of the CAP block (R60). -/
def capRegs : List RegSpec := [
  ⟨0x0, 64, 0x0, 1, [⟨0, 32, .ro, 0⟩]⟩,
  ⟨0x8, 32, 0x0, 1, [⟨0, 16, .ro, 0x100⟩]⟩,
  ⟨0x10, 64, 0x0, 1, [⟨40, 24, .rc, 0⟩, ⟨32, 8, .ro, 0⟩, ⟨0, 25, .ro, 0⟩]⟩,
  ⟨0x18, 64, 0x0, 1, [⟨56, 8, .rc, 0⟩, ⟨52, 4, .ro, 0⟩, ⟨0, 48, .ro, 0⟩]⟩]

/-- The registers of the HRN block (R88). -/
def hrnRegs : List RegSpec := [
  ⟨0x0, 32, 0x0, 1, [⟨8, 2, .rw, 0⟩, ⟨4, 4, .rw, 0⟩, ⟨0, 4, .wo, 0⟩]⟩,
  ⟨0x8, 64, 0x0, 1, [⟨24, 8, .ro, 0⟩, ⟨16, 8, .ro, 0⟩, ⟨12, 4, .ro, 0⟩, ⟨8, 1, .ro, 0⟩, ⟨4, 4, .ro, 0⟩, ⟨0, 4, .ro, 0⟩]⟩,
  ⟨0x10, 64, 0x0, 1, [⟨12, 52, .rw, 0⟩]⟩,
  ⟨0x18, 32, 0x0, 1, [⟨0, 32, .rw, 0⟩]⟩,
  ⟨0x20, 64, 0x0, 1, [⟨32, 32, .ro, 0⟩, ⟨24, 8, .ro, 0⟩, ⟨16, 8, .ro, 0⟩, ⟨0, 1, .ro, 0⟩]⟩,
  ⟨0x28, 64, 0x0, 1, [⟨0, 64, .ro, 0⟩]⟩,
  ⟨0x30, 64, 0x0, 1, [⟨48, 16, .ro, 0⟩, ⟨32, 1, .ro, 0⟩, ⟨0, 32, .ro, 0⟩]⟩,
  ⟨0x40, 64, 0x0, 1, [⟨32, 32, .ro, 0⟩, ⟨1, 1, .ro, 0⟩, ⟨0, 1, .ro, 0⟩]⟩,
  ⟨0x48, 64, 0x0, 1, [⟨32, 32, .ro, 0⟩, ⟨1, 1, .ro, 0⟩, ⟨0, 1, .ro, 0⟩]⟩,
  ⟨0x50, 32, 0x0, 1, [⟨0, 32, .rw, 0x186a0⟩]⟩,
  ⟨0x60, 32, 0x0, 1, [⟨0, 24, .ro, 0⟩]⟩,
  ⟨0x100, 32, 0x4, 16, [⟨0, 32, .rc, 0⟩]⟩]

/-- The registers of the TILE block (R112, R145, R167, R198, R199, R228, R239). -/
def tileRegs : List RegSpec := [
  ⟨0x5F00, 64, 0x0, 1, [⟨0, 64, .rc, 0⟩]⟩,
  ⟨0x5F08, 64, 0x0, 1, [⟨0, 64, .rc, 0⟩]⟩,
  ⟨0x5F10, 64, 0x0, 1, [⟨0, 64, .ro, 0⟩]⟩,
  ⟨0x5F18, 32, 0x0, 1, [⟨8, 4, .ro, 0⟩, ⟨4, 4, .ro, 0⟩, ⟨0, 4, .ro, 0⟩]⟩,
  ⟨0x2000, 32, 0x0, 1, [⟨0, 1, .rw, 1⟩]⟩,
  ⟨0x2008, 64, 0x0, 1, [⟨24, 8, .ro, 0xff⟩, ⟨18, 2, .ro, 0⟩, ⟨16, 2, .ro, 0⟩, ⟨9, 1, .ro, 0⟩, ⟨8, 1, .ro, 0⟩, ⟨0, 2, .ro, 0⟩]⟩,
  ⟨0x2010, 64, 0x0, 1, [⟨0, 64, .rc, 0⟩]⟩,
  ⟨0x2018, 64, 0x0, 1, [⟨0, 64, .rc, 0⟩]⟩,
  ⟨0x2020, 64, 0x0, 1, [⟨0, 64, .rc, 0⟩]⟩,
  ⟨0x2028, 64, 0x0, 1, [⟨0, 64, .rc, 0⟩]⟩,
  ⟨0x2030, 32, 0x0, 1, [⟨0, 32, .rc, 0⟩]⟩,
  ⟨0x2038, 64, 0x0, 1, [⟨48, 16, .rc, 0⟩, ⟨32, 16, .rc, 0⟩, ⟨16, 16, .rc, 0⟩, ⟨0, 16, .rc, 0⟩]⟩,
  ⟨0x2040, 64, 0x0, 1, [⟨0, 64, .rc, 0⟩]⟩,
  ⟨0x2048, 64, 0x0, 1, [⟨32, 4, .ro, 0⟩, ⟨30, 2, .ro, 0⟩, ⟨28, 2, .ro, 0⟩, ⟨24, 4, .ro, 0⟩, ⟨23, 1, .ro, 0⟩, ⟨13, 10, .ro, 0⟩, ⟨12, 1, .ro, 0⟩, ⟨0, 10, .ro, 0⟩]⟩,
  ⟨0x2050, 64, 0x0, 1, [⟨0, 64, .ro, 0⟩]⟩,
  ⟨0x2058, 32, 0x0, 1, [⟨21, 1, .wo, 0⟩, ⟨10, 10, .wo, 0⟩, ⟨0, 10, .wo, 0⟩]⟩,
  ⟨0x4000, 32, 0x0, 1, [⟨0, 2, .rw, 0⟩]⟩,
  ⟨0x4008, 64, 0x0, 1, [⟨16, 8, .ro, 0⟩, ⟨9, 1, .ro, 0⟩, ⟨8, 1, .ro, 0⟩, ⟨0, 2, .ro, 0⟩]⟩,
  ⟨0x4010, 64, 0x0, 1, [⟨0, 64, .rc, 0⟩]⟩,
  ⟨0x4018, 64, 0x0, 1, [⟨0, 64, .rc, 0⟩]⟩,
  ⟨0x4020, 64, 0x0, 1, [⟨32, 32, .rc, 0⟩, ⟨0, 32, .rc, 0⟩]⟩,
  ⟨0x4028, 64, 0x0, 1, [⟨0, 64, .rc, 0⟩]⟩,
  ⟨0x4030, 64, 0x0, 1, [⟨48, 5, .ro, 0⟩, ⟨0, 48, .rc, 0⟩]⟩,
  ⟨0x4038, 64, 0x0, 1, [⟨32, 32, .rc, 0⟩, ⟨0, 32, .rc, 0⟩]⟩,
  ⟨0x0, 32, 0x0, 1, [⟨0, 1, .rw, 0⟩]⟩,
  ⟨0x8, 64, 0x0, 1, [⟨32, 1, .ro, 0⟩, ⟨24, 8, .ro, 0xff⟩, ⟨16, 4, .ro, 0⟩, ⟨8, 2, .ro, 0⟩, ⟨0, 5, .ro, 0⟩]⟩,
  ⟨0x100, 64, 0x8, 16, [⟨50, 14, .ro, 0⟩, ⟨48, 2, .rw, 0⟩, ⟨0, 1, .ro, 0⟩]⟩,
  ⟨0x180, 64, 0x8, 16, [⟨28, 4, .ro, 0⟩, ⟨26, 2, .ro, 0⟩, ⟨0, 16, .ro, 0⟩]⟩,
  ⟨0x400, 32, 0x4, 64, [⟨16, 1, .w1c, 0⟩, ⟨0, 16, .rw, 0⟩]⟩,
  ⟨0x500, 32, 0x4, 32, [⟨0, 16, .rw, 0⟩]⟩,
  ⟨0x600, 64, 0x0, 1, [⟨32, 32, .rc, 0⟩, ⟨0, 6, .ro, 0⟩]⟩,
  ⟨0x608, 64, 0x0, 1, [⟨32, 32, .rc, 0⟩, ⟨0, 5, .ro, 0⟩]⟩,
  ⟨0x610, 64, 0x0, 1, [⟨0, 64, .rc, 0⟩]⟩,
  ⟨0x618, 64, 0x0, 1, [⟨0, 64, .rc, 0⟩]⟩,
  ⟨0x9000, 32, 0x0, 1, [⟨0, 1, .rw, 1⟩]⟩,
  ⟨0x9008, 64, 0x0, 1, [⟨32, 32, .rc, 0⟩, ⟨27, 5, .ro, 0⟩, ⟨13, 14, .ro, 0⟩]⟩,
  ⟨0x9010, 64, 0x0, 1, [⟨32, 32, .rc, 0⟩, ⟨27, 5, .ro, 0⟩, ⟨13, 14, .ro, 0⟩]⟩,
  ⟨0x9018, 64, 0x0, 1, [⟨0, 64, .rc, 0⟩]⟩,
  ⟨0x9020, 64, 0x0, 1, [⟨32, 32, .rc, 0⟩, ⟨0, 14, .ro, 0⟩]⟩,
  ⟨0x6000, 64, 0x800, 4, [⟨50, 14, .ro, 0⟩, ⟨42, 8, .ro, 0⟩, ⟨38, 4, .ro, 0⟩, ⟨3, 1, .ro, 0⟩, ⟨2, 1, .ro, 0⟩, ⟨0, 2, .ro, 0⟩]⟩,
  ⟨0x6008, 64, 0x800, 4, [⟨0, 64, .ro, 0⟩]⟩,
  ⟨0x6010, 64, 0x800, 4, [⟨0, 64, .rc, 0⟩]⟩,
  ⟨0x6018, 64, 0x800, 4, [⟨48, 16, .rc, 0⟩, ⟨0, 48, .rc, 0⟩]⟩,
  ⟨0x6400, 32, 0x0, 1, [⟨0, 32, .rw, 0x10000⟩]⟩,
  ⟨0x6408, 64, 0x0, 1, [⟨32, 32, .rc, 0⟩, ⟨0, 32, .rc, 0⟩]⟩,
  ⟨0x6410, 64, 0x0, 1, [⟨48, 16, .rc, 0⟩, ⟨32, 16, .rc, 0⟩, ⟨16, 16, .rc, 0⟩, ⟨0, 16, .rc, 0⟩]⟩,
  ⟨0x6418, 64, 0x0, 1, [⟨32, 32, .rc, 0⟩, ⟨0, 8, .ro, 0⟩]⟩,
  ⟨0x6420, 64, 0x0, 1, [⟨0, 64, .rc, 0⟩]⟩,
  ⟨0x6428, 32, 0x0, 1, [⟨0, 8, .rw, 0⟩]⟩,
  ⟨0x6430, 64, 0x0, 1, [⟨50, 14, .ro, 0⟩, ⟨42, 8, .ro, 0⟩, ⟨28, 14, .ro, 0⟩, ⟨13, 15, .ro, 0⟩, ⟨3, 1, .ro, 0⟩, ⟨2, 1, .ro, 0⟩, ⟨0, 2, .ro, 0⟩]⟩,
  ⟨0x6500, 64, 0x20, 16, [⟨50, 14, .ro, 0⟩, ⟨46, 4, .ro, 0⟩, ⟨22, 24, .ro, 0⟩, ⟨0, 1, .ro, 0⟩]⟩,
  ⟨0x6508, 64, 0x20, 16, [⟨40, 24, .ro, 0⟩, ⟨16, 24, .ro, 0⟩]⟩,
  ⟨0x6510, 64, 0x20, 16, [⟨40, 24, .ro, 0⟩, ⟨16, 24, .ro, 0⟩]⟩,
  ⟨0x6518, 64, 0x20, 16, [⟨40, 24, .ro, 0⟩, ⟨16, 24, .ro, 0⟩]⟩,
  ⟨0x8000, 64, 0x0, 1, [⟨0, 64, .rc, 0⟩]⟩,
  ⟨0x8008, 64, 0x0, 1, [⟨0, 64, .rc, 0⟩]⟩,
  ⟨0x8010, 64, 0x0, 1, [⟨48, 16, .rc, 0⟩, ⟨32, 16, .rc, 0⟩, ⟨16, 16, .rc, 0⟩, ⟨0, 16, .rc, 0⟩]⟩,
  ⟨0x8018, 64, 0x0, 1, [⟨48, 16, .rc, 0⟩, ⟨34, 14, .ro, 0⟩, ⟨30, 4, .ro, 0⟩, ⟨0, 30, .ro, 0⟩]⟩]

/-- The registers of the DRV block (R270). -/
def drvRegs : List RegSpec := [
  ⟨0x0, 32, 0x0, 1, [⟨1, 1, .rw, 0⟩, ⟨0, 1, .rw, 0⟩]⟩,
  ⟨0x8, 64, 0x0, 1, [⟨16, 4, .ro, 0⟩, ⟨8, 8, .ro, 0⟩, ⟨0, 1, .ro, 0⟩]⟩,
  ⟨0x10, 64, 0x0, 1, [⟨48, 16, .rc, 0⟩, ⟨32, 16, .rc, 0⟩, ⟨16, 16, .rc, 0⟩, ⟨0, 16, .rc, 0⟩]⟩,
  ⟨0x18, 64, 0x0, 1, [⟨32, 32, .rc, 0⟩, ⟨16, 16, .rc, 0⟩, ⟨0, 16, .rc, 0⟩]⟩,
  ⟨0x20, 64, 0x0, 1, [⟨0, 64, .rc, 0⟩]⟩,
  ⟨0x28, 64, 0x0, 1, [⟨32, 32, .rc, 0⟩, ⟨26, 6, .ro, 0⟩, ⟨0, 15, .ro, 0⟩]⟩,
  ⟨0x30, 64, 0x0, 1, [⟨32, 32, .rc, 0⟩, ⟨26, 6, .ro, 0⟩, ⟨0, 10, .ro, 0⟩]⟩,
  ⟨0x38, 64, 0x0, 1, [⟨58, 6, .ro, 0⟩, ⟨48, 10, .ro, 0⟩, ⟨32, 16, .ro, 0⟩, ⟨0, 32, .ro, 0⟩]⟩,
  ⟨0x40, 32, 0x0, 1, [⟨10, 6, .rw, 0⟩, ⟨0, 10, .rw, 0⟩]⟩,
  ⟨0x48, 64, 0x0, 1, [⟨32, 32, .ro, 0⟩, ⟨0, 32, .ro, 0⟩]⟩,
  ⟨0x50, 64, 0x0, 1, [⟨32, 32, .ro, 0⟩, ⟨0, 32, .rw, 0⟩]⟩,
  ⟨0x58, 64, 0x0, 1, [⟨32, 1, .ro, 0⟩, ⟨0, 32, .ro, 0⟩]⟩,
  ⟨0x60, 64, 0x0, 1, [⟨32, 32, .ro, 0⟩, ⟨2, 1, .ro, 0⟩, ⟨0, 2, .ro, 0⟩]⟩,
  ⟨0x100, 64, 0x10, 8, [⟨50, 14, .ro, 0⟩, ⟨46, 4, .ro, 0⟩, ⟨40, 6, .ro, 0⟩, ⟨27, 13, .ro, 0⟩, ⟨14, 13, .ro, 0⟩, ⟨0, 1, .ro, 0⟩]⟩,
  ⟨0x108, 64, 0x10, 8, [⟨0, 64, .ro, 0⟩]⟩]

/-- The registers of the DRM block (R345, R287, R361). -/
def drmRegs : List RegSpec := [
  ⟨0x3000, 64, 0x0, 1, [⟨0, 64, .rc, 0⟩]⟩,
  ⟨0x3008, 64, 0x0, 1, [⟨48, 16, .rc, 0⟩, ⟨0, 48, .ro, 0⟩]⟩,
  ⟨0x3010, 64, 0x0, 1, [⟨48, 16, .rc, 0⟩, ⟨0, 48, .ro, 0⟩]⟩,
  ⟨0x3018, 32, 0x0, 1, [⟨0, 19, .ro, 0⟩]⟩,
  ⟨0x0, 64, 0x0, 1, [⟨32, 32, .ro, 0⟩, ⟨1, 1, .ro, 0⟩, ⟨0, 1, .ro, 0⟩]⟩,
  ⟨0x8, 64, 0x0, 1, [⟨48, 16, .rc, 0⟩, ⟨0, 48, .ro, 0⟩]⟩,
  ⟨0x10, 64, 0x0, 1, [⟨48, 16, .rc, 0⟩, ⟨0, 48, .ro, 0⟩]⟩,
  ⟨0x18, 32, 0x0, 1, [⟨0, 16, .rw, 0x18⟩]⟩,
  ⟨0x20, 64, 0x0, 1, [⟨32, 32, .rc, 0⟩]⟩,
  ⟨0x2000, 32, 0x0, 1, [⟨0, 1, .rw, 0⟩]⟩,
  ⟨0x2008, 64, 0x0, 1, [⟨48, 16, .ro, 0⟩, ⟨1, 2, .ro, 0⟩, ⟨0, 1, .ro, 0⟩]⟩,
  ⟨0x2010, 64, 0x0, 1, [⟨0, 64, .rc, 0⟩]⟩,
  ⟨0x2018, 64, 0x0, 1, [⟨32, 32, .rc, 0⟩, ⟨0, 32, .rc, 0⟩]⟩,
  ⟨0x2020, 64, 0x0, 1, [⟨0, 64, .rc, 0⟩]⟩,
  ⟨0x2028, 64, 0x0, 1, [⟨48, 16, .rc, 0⟩, ⟨32, 16, .rc, 0⟩]⟩,
  ⟨0x2040, 32, 0x0, 1, [⟨0, 6, .rw, 0⟩]⟩,
  ⟨0x2048, 64, 0x0, 1, [⟨52, 12, .ro, 0⟩, ⟨40, 12, .ro, 0⟩, ⟨38, 2, .ro, 0⟩, ⟨36, 2, .ro, 0⟩, ⟨0, 1, .ro, 0⟩]⟩]

/-- The registers of the COL block (R422, R288). -/
def colRegs : List RegSpec := [
  ⟨0x1000, 32, 0x0, 1, [⟨16, 16, .rw, 0x400⟩, ⟨0, 4, .rw, 7⟩]⟩,
  ⟨0x1008, 64, 0x0, 1, [⟨32, 32, .ro, 0⟩, ⟨30, 2, .ro, 0⟩, ⟨28, 2, .ro, 0⟩, ⟨16, 8, .ro, 0⟩, ⟨8, 8, .ro, 0⟩, ⟨0, 4, .ro, 0⟩]⟩,
  ⟨0x1010, 64, 0x0, 1, [⟨0, 64, .ro, 0⟩]⟩,
  ⟨0x1018, 64, 0x0, 1, [⟨0, 64, .ro, 0⟩]⟩,
  ⟨0x1020, 64, 0x0, 1, [⟨0, 64, .ro, 0⟩]⟩,
  ⟨0x1028, 64, 0x0, 1, [⟨32, 4, .ro, 0⟩, ⟨0, 32, .ro, 0⟩]⟩,
  ⟨0x1030, 64, 0x0, 1, [⟨32, 32, .ro, 0⟩, ⟨30, 2, .ro, 0⟩, ⟨26, 4, .ro, 0⟩]⟩,
  ⟨0x1038, 64, 0x0, 1, [⟨0, 64, .ro, 0⟩]⟩,
  ⟨0x1040, 64, 0x0, 1, [⟨0, 64, .rw, 0⟩]⟩,
  ⟨0x1048, 64, 0x0, 1, [⟨0, 64, .rw, 0⟩]⟩,
  ⟨0x1050, 64, 0x0, 1, [⟨48, 16, .rc, 0⟩, ⟨32, 16, .rc, 0⟩, ⟨24, 8, .rc, 0⟩, ⟨16, 8, .rc, 0⟩, ⟨8, 8, .rc, 0⟩, ⟨0, 8, .rc, 0⟩]⟩,
  ⟨0x1058, 64, 0x0, 1, [⟨0, 64, .ro, 0⟩]⟩,
  ⟨0x0, 32, 0x0, 1, [⟨16, 16, .rw, 0x3e8⟩, ⟨8, 8, .rw, 8⟩, ⟨0, 8, .rw, 0x10⟩]⟩,
  ⟨0x8, 32, 0x0, 1, [⟨0, 32, .rw, 0x7d0⟩]⟩,
  ⟨0x10, 32, 0x0, 1, [⟨16, 16, .ro, 0⟩, ⟨0, 16, .ro, 0⟩]⟩,
  ⟨0x18, 64, 0x0, 1, [⟨48, 16, .rc, 0⟩, ⟨32, 16, .rc, 0⟩, ⟨16, 16, .rc, 0⟩, ⟨0, 16, .rc, 0⟩]⟩,
  ⟨0x20, 64, 0x0, 1, [⟨32, 32, .rc, 0⟩, ⟨0, 12, .ro, 0⟩]⟩,
  ⟨0x28, 64, 0x0, 1, [⟨0, 64, .rc, 0⟩]⟩,
  ⟨0x100, 32, 0x0, 1, [⟨0, 32, .rw, 0x2710⟩]⟩,
  ⟨0x108, 64, 0x0, 1, [⟨48, 16, .rc, 0⟩, ⟨32, 16, .rc, 0⟩, ⟨16, 16, .rc, 0⟩, ⟨0, 16, .rc, 0⟩]⟩]

/-- The registers of the UPD block (R311). -/
def updRegs : List RegSpec := [
  ⟨0x0, 32, 0x0, 1, [⟨0, 1, .rw, 0⟩]⟩,
  ⟨0x8, 64, 0x0, 1, [⟨32, 32, .ro, 0⟩, ⟨16, 3, .ro, 0⟩, ⟨4, 4, .ro, 0⟩, ⟨1, 1, .ro, 0⟩, ⟨0, 1, .ro, 0⟩]⟩,
  ⟨0x10, 64, 0x0, 1, [⟨32, 32, .ro, 0⟩, ⟨0, 32, .ro, 0⟩]⟩,
  ⟨0x18, 64, 0x0, 1, [⟨32, 32, .rc, 0⟩, ⟨0, 32, .rc, 0⟩]⟩,
  ⟨0x20, 64, 0x0, 1, [⟨32, 32, .rc, 0⟩, ⟨16, 16, .rc, 0⟩, ⟨0, 16, .rc, 0⟩]⟩,
  ⟨0x28, 64, 0x0, 1, [⟨32, 32, .rc, 0⟩]⟩,
  ⟨0x30, 64, 0x0, 1, [⟨0, 64, .rc, 0⟩]⟩,
  ⟨0x40, 32, 0x0, 1, [⟨0, 10, .rw, 0⟩]⟩,
  ⟨0x48, 64, 0x0, 1, [⟨32, 32, .ro, 0⟩, ⟨28, 4, .ro, 0⟩, ⟨0, 28, .ro, 0⟩]⟩,
  ⟨0x100, 64, 0x10, 4, [⟨50, 14, .ro, 0⟩, ⟨46, 4, .ro, 0⟩, ⟨36, 10, .ro, 0⟩, ⟨25, 11, .ro, 0⟩, ⟨24, 1, .ro, 0⟩, ⟨0, 1, .ro, 0⟩]⟩,
  ⟨0x108, 64, 0x10, 4, [⟨0, 64, .ro, 0⟩]⟩]

/-- The registers of the TIER block (R343). -/
def tierRegs : List RegSpec := [
  ⟨0x0, 32, 0x0, 1, []⟩,
  ⟨0x8, 64, 0x0, 1, [⟨62, 2, .ro, 0⟩, ⟨52, 10, .ro, 0⟩, ⟨28, 19, .ro, 0⟩, ⟨9, 19, .ro, 0⟩, ⟨1, 1, .ro, 0⟩, ⟨0, 1, .ro, 0⟩]⟩,
  ⟨0x10, 64, 0x0, 1, [⟨48, 16, .rw, 0⟩, ⟨32, 8, .rw, 0⟩, ⟨24, 8, .rw, 0⟩, ⟨0, 1, .rw, 0⟩]⟩,
  ⟨0x18, 64, 0x0, 1, [⟨45, 19, .ro, 0⟩, ⟨26, 19, .ro, 0⟩, ⟨7, 19, .ro, 0⟩]⟩,
  ⟨0x20, 64, 0x0, 1, [⟨48, 16, .ro, 0⟩, ⟨32, 16, .ro, 0⟩, ⟨16, 16, .ro, 0⟩]⟩,
  ⟨0x30, 32, 0x0, 1, [⟨0, 4, .wo, 0⟩]⟩,
  ⟨0x38, 64, 0x0, 1, [⟨38, 26, .rw, 0⟩, ⟨12, 26, .rw, 0⟩]⟩,
  ⟨0x40, 64, 0x0, 1, [⟨12, 52, .rw, 0⟩]⟩,
  ⟨0x48, 64, 0x0, 1, [⟨32, 32, .ro, 0⟩, ⟨16, 16, .ro, 0⟩, ⟨12, 4, .ro, 0⟩, ⟨0, 8, .ro, 0⟩]⟩,
  ⟨0x50, 32, 0x0, 1, [⟨0, 32, .rw, 0x2710⟩]⟩,
  ⟨0x58, 64, 0x0, 1, [⟨32, 32, .rc, 0⟩, ⟨16, 16, .rc, 0⟩, ⟨0, 16, .rc, 0⟩]⟩,
  ⟨0x60, 64, 0x0, 1, [⟨40, 24, .rc, 0⟩, ⟨16, 24, .rc, 0⟩, ⟨0, 16, .rc, 0⟩]⟩,
  ⟨0x68, 64, 0x0, 1, [⟨48, 16, .rc, 0⟩, ⟨32, 16, .rc, 0⟩, ⟨16, 16, .rc, 0⟩, ⟨0, 16, .rc, 0⟩]⟩,
  ⟨0x70, 64, 0x0, 1, [⟨32, 32, .rc, 0⟩, ⟨0, 2, .ro, 0⟩]⟩,
  ⟨0x78, 64, 0x0, 1, [⟨0, 64, .rc, 0⟩]⟩,
  ⟨0x80, 64, 0x0, 1, [⟨0, 64, .rc, 0⟩]⟩,
  ⟨0x88, 64, 0x0, 1, [⟨54, 10, .ro, 0⟩, ⟨44, 10, .ro, 0⟩, ⟨34, 10, .ro, 0⟩, ⟨15, 19, .ro, 0⟩, ⟨0, 1, .ro, 0⟩]⟩,
  ⟨0x90, 32, 0x0, 1, [⟨0, 10, .rw, 0⟩]⟩,
  ⟨0x98, 64, 0x0, 1, [⟨61, 3, .ro, 0⟩, ⟨50, 11, .ro, 0⟩]⟩,
  ⟨0x100, 32, 0x0, 1, [⟨0, 18, .rw, 0⟩]⟩,
  ⟨0x108, 64, 0x0, 1, [⟨61, 3, .ro, 0⟩, ⟨60, 1, .ro, 0⟩, ⟨59, 1, .ro, 0⟩, ⟨58, 1, .ro, 0⟩, ⟨46, 12, .ro, 0⟩, ⟨20, 26, .ro, 0⟩, ⟨14, 6, .ro, 0⟩]⟩,
  ⟨0x110, 64, 0x0, 1, [⟨32, 32, .ro, 0⟩, ⟨0, 32, .ro, 0⟩]⟩,
  ⟨0x118, 64, 0x0, 1, [⟨54, 10, .ro, 0⟩, ⟨43, 11, .ro, 0⟩]⟩,
  ⟨0x200, 64, 0x8, 4, [⟨62, 2, .ro, 0⟩, ⟨36, 26, .ro, 0⟩, ⟨10, 26, .ro, 0⟩]⟩]

/-- The registers of the FLS block (R344). -/
def flsRegs : List RegSpec := [
  ⟨0x0, 32, 0x0, 1, [⟨30, 2, .ro, 0⟩, ⟨8, 8, .ro, 0⟩, ⟨1, 1, .ro, 0⟩, ⟨0, 1, .ro, 0⟩]⟩,
  ⟨0x8, 64, 0x0, 1, [⟨48, 16, .ro, 0⟩, ⟨32, 16, .ro, 0⟩, ⟨16, 16, .ro, 0⟩, ⟨0, 16, .ro, 0⟩]⟩,
  ⟨0x10, 32, 0x0, 1, [⟨0, 16, .rw, 0x1f40⟩]⟩,
  ⟨0x18, 64, 0x0, 1, [⟨0, 64, .ro, 0⟩]⟩,
  ⟨0x20, 64, 0x0, 1, [⟨0, 64, .ro, 0⟩]⟩,
  ⟨0x28, 64, 0x0, 1, [⟨32, 32, .rc, 0⟩, ⟨16, 16, .rc, 0⟩, ⟨0, 16, .rc, 0⟩]⟩]

/-- The registers of the LNK block (R394). -/
def lnkRegs : List RegSpec := [
  ⟨0x0, 32, 0x0, 1, [⟨6, 2, .rw, 0⟩, ⟨5, 1, .rw, 0⟩, ⟨4, 1, .rw, 1⟩, ⟨1, 1, .wo, 0⟩, ⟨0, 1, .wo, 0⟩]⟩,
  ⟨0x8, 64, 0x0, 1, [⟨60, 4, .ro, 0⟩, ⟨56, 4, .ro, 0⟩, ⟨52, 4, .ro, 0⟩, ⟨48, 4, .ro, 0⟩, ⟨40, 8, .ro, 0⟩, ⟨32, 8, .ro, 0xff⟩, ⟨28, 4, .ro, 0⟩, ⟨20, 8, .ro, 0⟩]⟩,
  ⟨0x10, 32, 0x0, 1, [⟨16, 4, .rw, 2⟩, ⟨8, 8, .rw, 0xa⟩, ⟨0, 8, .rw, 6⟩]⟩,
  ⟨0x18, 32, 0x0, 1, [⟨4, 4, .rw, 3⟩, ⟨0, 4, .rw, 0⟩]⟩,
  ⟨0x20, 64, 0x0, 1, [⟨0, 64, .ro, 0⟩]⟩,
  ⟨0x28, 64, 0x0, 1, [⟨0, 64, .ro, 0⟩]⟩,
  ⟨0x30, 64, 0x0, 1, [⟨48, 16, .ro, 0⟩, ⟨42, 6, .ro, 0⟩, ⟨37, 5, .ro, 0⟩, ⟨32, 5, .ro, 0⟩, ⟨28, 4, .ro, 0⟩, ⟨24, 4, .ro, 0⟩, ⟨21, 3, .ro, 0⟩, ⟨0, 1, .ro, 0⟩]⟩,
  ⟨0x38, 64, 0x0, 1, [⟨52, 12, .ro, 0⟩, ⟨40, 12, .ro, 0⟩, ⟨28, 12, .ro, 0⟩, ⟨16, 12, .ro, 0⟩]⟩,
  ⟨0x40, 32, 0x0, 1, [⟨0, 32, .ro, 0⟩]⟩,
  ⟨0x48, 32, 0x0, 1, [⟨16, 8, .rw, 8⟩, ⟨0, 16, .rw, 0xfa0⟩]⟩,
  ⟨0x50, 64, 0x0, 1, [⟨48, 16, .rc, 0⟩, ⟨32, 16, .rc, 0⟩, ⟨16, 16, .rc, 0⟩, ⟨0, 16, .rc, 0⟩]⟩,
  ⟨0x58, 64, 0x0, 1, [⟨48, 16, .rc, 0⟩, ⟨32, 16, .rc, 0⟩, ⟨16, 16, .rc, 0⟩, ⟨8, 8, .rc, 0⟩, ⟨0, 8, .rc, 0⟩]⟩,
  ⟨0x60, 64, 0x0, 1, [⟨24, 40, .rc, 0⟩, ⟨0, 24, .rc, 0⟩]⟩,
  ⟨0x68, 32, 0x0, 1, [⟨24, 8, .rw, 3⟩, ⟨16, 8, .rw, 0x64⟩, ⟨0, 16, .rw, 0x40⟩]⟩,
  ⟨0x70, 32, 0x0, 1, [⟨0, 32, .ro, 0⟩]⟩,
  ⟨0x78, 64, 0x0, 1, [⟨32, 32, .rc, 0⟩, ⟨0, 32, .rc, 0⟩]⟩,
  ⟨0x80, 64, 0x8, 8, [⟨24, 40, .rc, 0⟩, ⟨8, 8, .ro, 0⟩, ⟨0, 2, .ro, 0⟩]⟩,
  ⟨0xC0, 64, 0x0, 1, [⟨48, 16, .ro, 0⟩, ⟨32, 16, .ro, 0⟩, ⟨16, 16, .ro, 0⟩, ⟨0, 16, .ro, 0⟩]⟩,
  ⟨0xC8, 64, 0x8, 4, [⟨0, 64, .rc, 0⟩]⟩]

/-- The registers of the WIN block (R421). -/
def winRegs : List RegSpec := [
  ⟨0x0, 64, 0x20, 256, [⟨16, 48, .rw, 0⟩, ⟨12, 4, .rw, 0⟩]⟩,
  ⟨0x8, 64, 0x20, 256, [⟨42, 22, .rw, 0⟩, ⟨41, 1, .rw, 0⟩, ⟨40, 1, .rw, 0⟩, ⟨39, 1, .rw, 1⟩, ⟨23, 16, .rw, 0⟩, ⟨17, 6, .rw, 0⟩, ⟨11, 6, .rw, 0⟩, ⟨1, 10, .rw, 0⟩]⟩,
  ⟨0x10, 32, 0x20, 256, [⟨16, 16, .ro, 0⟩, ⟨4, 2, .ro, 0⟩, ⟨1, 1, .wo, 0⟩, ⟨0, 1, .wo, 0⟩]⟩,
  ⟨0x18, 64, 0x20, 256, [⟨32, 32, .rc, 0⟩, ⟨0, 32, .rc, 0⟩]⟩,
  ⟨0x2000, 64, 0x0, 1, [⟨55, 9, .ro, 0⟩, ⟨16, 8, .ro, 0⟩, ⟨0, 1, .w1c, 0⟩]⟩,
  ⟨0x2008, 64, 0x0, 1, [⟨40, 24, .rc, 0⟩, ⟨36, 4, .ro, 0⟩, ⟨28, 8, .ro, 0⟩, ⟨12, 16, .ro, 0⟩]⟩]

/-- The registers of the WHL block (R446, R447). -/
def whlRegs : List RegSpec := [
  ⟨0x0, 32, 0x0, 1, [⟨1, 1, .rw, 0⟩, ⟨0, 1, .wo, 0⟩]⟩,
  ⟨0x8, 64, 0x0, 1, [⟨6, 2, .ro, 0⟩, ⟨5, 1, .ro, 0⟩, ⟨4, 1, .ro, 0⟩, ⟨3, 1, .ro, 0⟩, ⟨2, 1, .ro, 0⟩, ⟨0, 2, .ro, 0⟩]⟩,
  ⟨0x10, 64, 0x0, 1, [⟨16, 48, .ro, 0⟩, ⟨4, 12, .ro, 0⟩, ⟨0, 4, .ro, 0⟩]⟩,
  ⟨0x18, 64, 0x0, 1, [⟨16, 48, .rw, 0⟩]⟩,
  ⟨0x20, 32, 0x0, 1, [⟨16, 16, .rw, 0x1000⟩, ⟨0, 16, .rw, 0x20⟩]⟩,
  ⟨0x28, 64, 0x0, 1, [⟨32, 32, .ro, 0⟩, ⟨28, 4, .ro, 0⟩, ⟨0, 16, .ro, 0⟩]⟩,
  ⟨0x30, 64, 0x0, 1, [⟨48, 16, .rc, 0⟩, ⟨32, 16, .rc, 0⟩, ⟨16, 16, .rc, 0⟩, ⟨0, 16, .rc, 0⟩]⟩,
  ⟨0x38, 64, 0x0, 1, [⟨32, 32, .ro, 0⟩, ⟨0, 16, .ro, 0⟩]⟩,
  ⟨0x40, 64, 0x0, 1, [⟨48, 16, .rc, 0⟩, ⟨32, 16, .rc, 0⟩, ⟨0, 2, .ro, 0⟩]⟩,
  ⟨0x48, 64, 0x0, 1, [⟨32, 32, .rc, 0⟩, ⟨16, 16, .rc, 0⟩, ⟨0, 16, .rc, 0⟩]⟩,
  ⟨0x50, 32, 0x0, 1, [⟨8, 6, .ro, 0⟩, ⟨0, 6, .ro, 0⟩]⟩,
  ⟨0x58, 64, 0x0, 1, [⟨32, 32, .rc, 0⟩, ⟨16, 16, .rc, 0⟩, ⟨0, 16, .rc, 0⟩]⟩,
  ⟨0x100, 64, 0x8, 6, [⟨62, 2, .ro, 0⟩, ⟨60, 2, .ro, 0⟩, ⟨59, 1, .ro, 0⟩, ⟨32, 16, .ro, 0⟩, ⟨0, 16, .ro, 0x8000⟩]⟩]

/-- The registers of the HIF block (R482). -/
def hifRegs : List RegSpec := [
  ⟨0x0, 32, 0x0, 1, [⟨4, 4, .rw, 3⟩, ⟨0, 1, .rw, 0⟩]⟩,
  ⟨0x8, 64, 0x0, 1, [⟨16, 4, .ro, 0⟩, ⟨12, 4, .ro, 0⟩, ⟨11, 1, .ro, 0⟩, ⟨10, 1, .ro, 0⟩, ⟨9, 1, .ro, 0⟩, ⟨0, 1, .ro, 0⟩]⟩,
  ⟨0x10, 32, 0x0, 1, [⟨0, 32, .rw, 0xc350⟩]⟩,
  ⟨0x18, 64, 0x0, 1, [⟨32, 32, .rc, 0⟩, ⟨0, 14, .ro, 0⟩]⟩,
  ⟨0x20, 32, 0x0, 1, [⟨16, 13, .rw, 0x1000⟩, ⟨0, 13, .ro, 0⟩]⟩,
  ⟨0x28, 64, 0x0, 1, [⟨32, 32, .rc, 0⟩, ⟨30, 2, .ro, 0⟩, ⟨0, 14, .ro, 0⟩]⟩,
  ⟨0x30, 64, 0x0, 1, [⟨0, 64, .wo, 0⟩]⟩,
  ⟨0x38, 32, 0x0, 1, [⟨31, 1, .rw, 0⟩, ⟨17, 14, .rw, 0⟩]⟩,
  ⟨0x40, 64, 0x0, 1, [⟨32, 32, .rc, 0⟩, ⟨0, 8, .ro, 0⟩]⟩,
  ⟨0x48, 32, 0x0, 1, [⟨21, 11, .rw, 0⟩, ⟨12, 9, .rw, 0⟩, ⟨3, 1, .wo, 0⟩, ⟨2, 1, .ro, 0⟩, ⟨1, 1, .ro, 0⟩, ⟨0, 1, .wo, 0⟩]⟩,
  ⟨0x50, 32, 0x0, 1, [⟨0, 9, .ro, 0⟩]⟩,
  ⟨0x1000, 32, 0x4, 64, [⟨0, 32, .rw, 0⟩]⟩,
  ⟨0x1100, 32, 0x4, 64, [⟨0, 32, .ro, 0⟩]⟩]

/-- The registers of the RING block (R483). -/
def ringRegs : List RegSpec := [
  ⟨0x0, 64, 0x0, 1, [⟨12, 52, .rw, 0⟩]⟩,
  ⟨0x8, 64, 0x0, 1, [⟨60, 4, .ro, 0⟩, ⟨46, 14, .ro, 0⟩, ⟨35, 11, .ro, 0⟩, ⟨28, 7, .ro, 0⟩, ⟨0, 5, .rw, 0⟩]⟩,
  ⟨0x10, 32, 0x0, 1, [⟨2, 1, .wo, 0⟩, ⟨1, 1, .wo, 0⟩, ⟨0, 1, .rw, 0⟩]⟩,
  ⟨0x18, 32, 0x0, 1, [⟨0, 32, .ro, 0⟩]⟩,
  ⟨0x20, 64, 0x0, 1, [⟨32, 32, .ro, 0⟩, ⟨0, 32, .ro, 0⟩]⟩,
  ⟨0x28, 64, 0x0, 1, [⟨47, 17, .ro, 0⟩, ⟨44, 3, .ro, 0⟩, ⟨40, 4, .ro, 0⟩, ⟨36, 4, .ro, 0⟩, ⟨0, 32, .rc, 0⟩]⟩,
  ⟨0x30, 32, 0x0, 1, [⟨16, 16, .rw, 0⟩, ⟨0, 16, .rw, 1⟩]⟩,
  ⟨0x38, 64, 0x0, 1, [⟨0, 64, .ro, 0⟩]⟩]

/-- The registers of the GLB block (R484). -/
def glbRegs : List RegSpec := [
  ⟨0x100, 32, 0x0, 1, [⟨13, 1, .w1c, 0⟩, ⟨12, 1, .w1c, 0⟩, ⟨11, 1, .w1c, 0⟩, ⟨10, 1, .w1c, 0⟩, ⟨9, 1, .w1c, 0⟩, ⟨8, 1, .w1c, 0⟩, ⟨7, 1, .w1c, 0⟩, ⟨6, 1, .w1c, 0⟩, ⟨5, 1, .w1c, 0⟩, ⟨4, 1, .w1c, 0⟩, ⟨3, 1, .w1c, 0⟩, ⟨2, 1, .w1c, 0⟩, ⟨1, 1, .w1c, 0⟩, ⟨0, 1, .w1c, 0⟩]⟩,
  ⟨0x108, 32, 0x0, 1, [⟨0, 13, .rw, 0⟩]⟩]

/-- The registers of the JRN block (R485, R533). -/
def jrnRegs : List RegSpec := [
  ⟨0x0, 64, 0x0, 1, [⟨47, 17, .ro, 0⟩, ⟨0, 32, .rc, 0⟩]⟩,
  ⟨0x8, 64, 0x0, 1, [⟨0, 64, .ro, 1⟩]⟩,
  ⟨0x10, 64, 0x0, 1, [⟨0, 64, .ro, 0⟩]⟩,
  ⟨0x100, 64, 0x0, 1, [⟨32, 32, .ro, 0⟩, ⟨28, 4, .ro, 0⟩, ⟨27, 1, .ro, 0⟩, ⟨12, 15, .ro, 0⟩]⟩,
  ⟨0x108, 64, 0x0, 1, [⟨36, 16, .rw, 0x400⟩, ⟨32, 4, .rw, 8⟩, ⟨28, 4, .rw, 2⟩, ⟨24, 4, .rw, 4⟩, ⟨20, 4, .rw, 3⟩, ⟨16, 4, .rw, 3⟩, ⟨12, 4, .rw, 3⟩, ⟨8, 4, .rw, 3⟩, ⟨4, 4, .rw, 3⟩, ⟨0, 4, .rw, 3⟩]⟩,
  ⟨0x110, 32, 0x0, 1, [⟨0, 16, .rw, 0x80⟩]⟩,
  ⟨0x118, 64, 0x0, 1, [⟨57, 7, .ro, 0⟩, ⟨47, 10, .ro, 0⟩, ⟨42, 5, .ro, 0⟩, ⟨36, 6, .ro, 0⟩, ⟨33, 3, .ro, 0⟩, ⟨29, 4, .ro, 0⟩, ⟨14, 15, .ro, 0⟩]⟩,
  ⟨0x120, 32, 0x0, 1, [⟨16, 4, .wo, 0⟩, ⟨0, 14, .wo, 0⟩]⟩,
  ⟨0x128, 64, 0x0, 1, [⟨60, 4, .ro, 0⟩, ⟨46, 14, .ro, 0⟩, ⟨42, 4, .ro, 0⟩, ⟨38, 4, .ro, 0⟩]⟩,
  ⟨0x130, 64, 0x0, 1, [⟨0, 64, .rw, 0⟩]⟩,
  ⟨0x138, 64, 0x0, 1, [⟨60, 4, .ro, 0⟩, ⟨56, 4, .ro, 0⟩, ⟨42, 14, .ro, 0⟩, ⟨26, 16, .ro, 0⟩]⟩,
  ⟨0x140, 64, 0x0, 1, [⟨62, 2, .ro, 0⟩, ⟨61, 1, .ro, 0⟩, ⟨0, 17, .ro, 0⟩]⟩,
  ⟨0x148, 64, 0x0, 1, [⟨0, 64, .ro, 0⟩]⟩,
  ⟨0x150, 32, 0x0, 1, [⟨0, 16, .rw, 0⟩]⟩,
  ⟨0x158, 64, 0x0, 1, [⟨0, 64, .ro, 0⟩]⟩,
  ⟨0x160, 64, 0x0, 1, [⟨50, 14, .ro, 0⟩, ⟨34, 16, .ro, 0⟩, ⟨30, 4, .ro, 0⟩]⟩,
  ⟨0x168, 32, 0x0, 1, [⟨0, 1, .wo, 0⟩]⟩,
  ⟨0x170, 64, 0x0, 1, [⟨56, 8, .ro, 0⟩, ⟨0, 1, .ro, 0⟩]⟩]

/-- The registers of the DIF block (R501, R502). -/
def difRegs : List RegSpec := [
  ⟨0x0, 32, 0x0, 1, [⟨2, 1, .wo, 0⟩, ⟨1, 1, .rw, 0⟩, ⟨0, 1, .rw, 0⟩]⟩,
  ⟨0x8, 64, 0x0, 1, [⟨53, 11, .rw, 0⟩, ⟨32, 16, .rw, 0⟩, ⟨0, 6, .rw, 0⟩]⟩,
  ⟨0x10, 64, 0x0, 1, [⟨12, 52, .rw, 0⟩]⟩,
  ⟨0x18, 64, 0x0, 1, [⟨16, 48, .rw, 0⟩]⟩,
  ⟨0x20, 32, 0x0, 1, [⟨0, 32, .rw, 0⟩]⟩,
  ⟨0x30, 64, 0x0, 1, [⟨0, 64, .ro, 0⟩]⟩,
  ⟨0x38, 64, 0x0, 1, [⟨0, 64, .ro, 0⟩]⟩,
  ⟨0x40, 64, 0x0, 1, [⟨0, 64, .rw, 0⟩]⟩,
  ⟨0x48, 64, 0x0, 1, [⟨0, 64, .ro, 0⟩]⟩,
  ⟨0x50, 64, 0x0, 1, [⟨62, 2, .ro, 0⟩, ⟨58, 4, .ro, 0⟩]⟩,
  ⟨0x58, 64, 0x0, 1, [⟨32, 32, .rc, 0⟩, ⟨0, 32, .rc, 0⟩]⟩,
  ⟨0x60, 64, 0x0, 1, [⟨0, 64, .rc, 0⟩]⟩,
  ⟨0x100, 32, 0x0, 1, [⟨1, 1, .wo, 0⟩, ⟨0, 1, .rw, 0⟩]⟩,
  ⟨0x108, 64, 0x0, 1, [⟨12, 52, .rw, 0⟩]⟩,
  ⟨0x110, 32, 0x0, 1, [⟨0, 6, .rw, 0⟩]⟩,
  ⟨0x118, 64, 0x0, 1, [⟨0, 64, .rw, 0⟩]⟩,
  ⟨0x120, 64, 0x0, 1, [⟨0, 64, .ro, 0⟩]⟩,
  ⟨0x128, 64, 0x0, 1, [⟨0, 64, .rw, 0⟩]⟩,
  ⟨0x130, 64, 0x0, 1, [⟨62, 2, .ro, 0⟩, ⟨58, 4, .ro, 0⟩, ⟨0, 32, .rc, 0⟩]⟩]

/-- The registers of the PWR block (R555, R601). -/
def pwrRegs : List RegSpec := [
  ⟨0x0, 32, 0x0, 1, [⟨0, 1, .rw, 0⟩]⟩,
  ⟨0x8, 64, 0x0, 1, [⟨52, 12, .ro, 0x7d0⟩, ⟨32, 8, .ro, 0⟩, ⟨28, 4, .ro, 0⟩, ⟨12, 4, .ro, 0⟩, ⟨8, 4, .ro, 0⟩, ⟨4, 4, .ro, 0⟩, ⟨0, 4, .ro, 0⟩]⟩,
  ⟨0x10, 64, 0x0, 1, [⟨48, 16, .ro, 0⟩, ⟨32, 16, .rc, 0⟩, ⟨16, 16, .ro, 0⟩]⟩,
  ⟨0x18, 64, 0x0, 1, [⟨32, 32, .rc, 0⟩, ⟨16, 16, .rc, 0⟩, ⟨0, 16, .rc, 0⟩]⟩,
  ⟨0x20, 64, 0x0, 1, [⟨56, 8, .ro, 0⟩, ⟨48, 8, .ro, 0⟩, ⟨40, 8, .ro, 0⟩, ⟨32, 8, .ro, 0⟩, ⟨24, 8, .ro, 0⟩, ⟨16, 8, .ro, 0⟩, ⟨8, 8, .ro, 0⟩, ⟨0, 1, .ro, 0⟩]⟩,
  ⟨0x40, 64, 0x0, 1, [⟨0, 64, .ro, 0⟩]⟩,
  ⟨0x48, 64, 0x0, 1, [⟨0, 64, .ro, 0⟩]⟩]

/-- The registers of the CLK block (R557). -/
def clkRegs : List RegSpec := [
  ⟨0x0, 64, 0x0, 1, [⟨32, 32, .ro, 0⟩, ⟨0, 4, .ro, 1⟩]⟩,
  ⟨0x8, 64, 0x0, 1, [⟨32, 32, .rc, 0⟩, ⟨0, 32, .rc, 0⟩]⟩,
  ⟨0x1000, 64, 0x8, 100, [⟨61, 3, .ro, 0⟩, ⟨45, 16, .ro, 0⟩, ⟨35, 10, .ro, 0⟩, ⟨31, 4, .ro, 0⟩, ⟨27, 4, .ro, 0⟩]⟩]

/-- The registers of the MGT block (R572). -/
def mgtRegs : List RegSpec := [
  ⟨0x0, 32, 0x0, 1, [⟨1, 1, .rw, 0⟩, ⟨0, 1, .rw, 1⟩]⟩,
  ⟨0x8, 64, 0x0, 1, [⟨16, 7, .ro, 0⟩, ⟨8, 7, .ro, 0⟩, ⟨2, 1, .ro, 0⟩, ⟨0, 2, .ro, 0⟩]⟩,
  ⟨0x10, 64, 0x0, 1, [⟨48, 16, .rc, 0⟩, ⟨32, 16, .rc, 0⟩, ⟨16, 16, .rc, 0⟩, ⟨0, 16, .rc, 0⟩]⟩,
  ⟨0x18, 64, 0x0, 1, [⟨32, 32, .rc, 0⟩, ⟨0, 7, .ro, 0⟩]⟩,
  ⟨0x20, 64, 0x0, 1, [⟨0, 64, .ro, 1⟩]⟩,
  ⟨0x28, 32, 0x0, 1, [⟨0, 14, .w1c, 0⟩]⟩,
  ⟨0x30, 32, 0x0, 1, [⟨0, 14, .rw, 0⟩]⟩,
  ⟨0x40, 32, 0x0, 1, [⟨0, 6, .rw, 0⟩]⟩,
  ⟨0x48, 64, 0x0, 1, [⟨48, 16, .ro, 0⟩, ⟨32, 16, .rc, 0⟩, ⟨0, 1, .ro, 0⟩]⟩,
  ⟨0x80, 64, 0x8, 7, [⟨48, 16, .ro, 0⟩, ⟨32, 16, .ro, 0⟩, ⟨16, 16, .rc, 0⟩]⟩,
  ⟨0x100, 32, 0x0, 1, [⟨12, 9, .rw, 0⟩, ⟨3, 1, .wo, 0⟩, ⟨2, 1, .ro, 0⟩, ⟨1, 1, .ro, 0⟩, ⟨0, 1, .wo, 0⟩]⟩,
  ⟨0x1000, 32, 0x4, 64, [⟨0, 32, .ro, 0⟩]⟩,
  ⟨0x1100, 32, 0x4, 64, [⟨0, 32, .rw, 0⟩]⟩]

/-- The registers of the CAL block (R448). -/
def calRegs : List RegSpec := [
  ⟨0x0, 64, 0x10, 8192, [⟨0, 64, .ro, 0⟩]⟩,
  ⟨0x8, 64, 0x10, 8192, [⟨0, 64, .ro, 0⟩]⟩]

/-- The registers of the MSIX block (R478). -/
def msixRegs : List RegSpec := [
  ⟨0x0, 64, 0x10, 2048, [⟨0, 64, .rw, 0⟩]⟩,
  ⟨0x8, 32, 0x10, 2048, [⟨0, 32, .rw, 0⟩]⟩,
  ⟨0xC, 32, 0x10, 2048, [⟨0, 1, .rw, 1⟩]⟩,
  ⟨0x8000, 64, 0x8, 32, [⟨0, 64, .ro, 0⟩]⟩]

/-- CAP_GEN (R60). -/
def Reg.CAP_GEN : Nat := 0x0
/-- Field GEN of CAP_GEN. -/
def Fld.CAP_GEN_GEN : Fld := ⟨Reg.CAP_GEN, 0, 32⟩
/-- CAP_HEAD (R60). -/
def Reg.CAP_HEAD : Nat := 0x8
/-- Field FIRST of CAP_HEAD. -/
def Fld.CAP_HEAD_FIRST : Fld := ⟨Reg.CAP_HEAD, 0, 16⟩
/-- CAP_ACCERR (R60). -/
def Reg.CAP_ACCERR : Nat := 0x10
/-- Field COUNT of CAP_ACCERR. -/
def Fld.CAP_ACCERR_COUNT : Fld := ⟨Reg.CAP_ACCERR, 40, 24⟩
/-- Field KIND of CAP_ACCERR. -/
def Fld.CAP_ACCERR_KIND : Fld := ⟨Reg.CAP_ACCERR, 32, 8⟩
/-- Field OFFSET of CAP_ACCERR. -/
def Fld.CAP_ACCERR_OFFSET : Fld := ⟨Reg.CAP_ACCERR, 0, 25⟩
/-- CAP_UDAERR (R60). -/
def Reg.CAP_UDAERR : Nat := 0x18
/-- Field COUNT of CAP_UDAERR. -/
def Fld.CAP_UDAERR_COUNT : Fld := ⟨Reg.CAP_UDAERR, 56, 8⟩
/-- Field REASON of CAP_UDAERR. -/
def Fld.CAP_UDAERR_REASON : Fld := ⟨Reg.CAP_UDAERR, 52, 4⟩
/-- Field ADDR of CAP_UDAERR. -/
def Fld.CAP_UDAERR_ADDR : Fld := ⟨Reg.CAP_UDAERR, 0, 48⟩
/-- HRN_CTRL (R88). -/
def Reg.HRN_CTRL : Nat := 0x20000
/-- Field SLOT of HRN_CTRL. -/
def Fld.HRN_CTRL_SLOT : Fld := ⟨Reg.HRN_CTRL, 8, 2⟩
/-- Field SOURCE of HRN_CTRL. -/
def Fld.HRN_CTRL_SOURCE : Fld := ⟨Reg.HRN_CTRL, 4, 4⟩
/-- Field ACTION of HRN_CTRL. -/
def Fld.HRN_CTRL_ACTION : Fld := ⟨Reg.HRN_CTRL, 0, 4⟩
/-- HRN_STATUS (R88). -/
def Reg.HRN_STATUS : Nat := 0x20008
/-- Field SECTION of HRN_STATUS. -/
def Fld.HRN_STATUS_SECTION : Fld := ⟨Reg.HRN_STATUS, 24, 8⟩
/-- Field CODE of HRN_STATUS. -/
def Fld.HRN_STATUS_CODE : Fld := ⟨Reg.HRN_STATUS, 16, 8⟩
/-- Field LAST of HRN_STATUS. -/
def Fld.HRN_STATUS_LAST : Fld := ⟨Reg.HRN_STATUS, 12, 4⟩
/-- Field BUSY of HRN_STATUS. -/
def Fld.HRN_STATUS_BUSY : Fld := ⟨Reg.HRN_STATUS, 8, 1⟩
/-- Field STOPPED of HRN_STATUS. -/
def Fld.HRN_STATUS_STOPPED : Fld := ⟨Reg.HRN_STATUS, 4, 4⟩
/-- Field PHASE of HRN_STATUS. -/
def Fld.HRN_STATUS_PHASE : Fld := ⟨Reg.HRN_STATUS, 0, 4⟩
/-- HRN_SRCADDR (R88). -/
def Reg.HRN_SRCADDR : Nat := 0x20010
/-- Field ADDR of HRN_SRCADDR. -/
def Fld.HRN_SRCADDR_ADDR : Fld := ⟨Reg.HRN_SRCADDR, 12, 52⟩
/-- HRN_SRCLEN (R88). -/
def Reg.HRN_SRCLEN : Nat := 0x20018
/-- Field LEN of HRN_SRCLEN. -/
def Fld.HRN_SRCLEN_LEN : Fld := ⟨Reg.HRN_SRCLEN, 0, 32⟩
/-- HRN_ACTIVE (R88). -/
def Reg.HRN_ACTIVE : Nat := 0x20020
/-- Field GENERATION of HRN_ACTIVE. -/
def Fld.HRN_ACTIVE_GENERATION : Fld := ⟨Reg.HRN_ACTIVE, 32, 32⟩
/-- Field FMT_MAJ of HRN_ACTIVE. -/
def Fld.HRN_ACTIVE_FMT_MAJ : Fld := ⟨Reg.HRN_ACTIVE, 24, 8⟩
/-- Field FMT_MIN of HRN_ACTIVE. -/
def Fld.HRN_ACTIVE_FMT_MIN : Fld := ⟨Reg.HRN_ACTIVE, 16, 8⟩
/-- Field AREA of HRN_ACTIVE. -/
def Fld.HRN_ACTIVE_AREA : Fld := ⟨Reg.HRN_ACTIVE, 0, 1⟩
/-- HRN_ACTID (R88). -/
def Reg.HRN_ACTID : Nat := 0x20028
/-- Field IMAGE_ID of HRN_ACTID. -/
def Fld.HRN_ACTID_IMAGE_ID : Fld := ⟨Reg.HRN_ACTID, 0, 64⟩
/-- HRN_ERRDET (R88). -/
def Reg.HRN_ERRDET : Nat := 0x20030
/-- Field ENTRY of HRN_ERRDET. -/
def Fld.HRN_ERRDET_ENTRY : Fld := ⟨Reg.HRN_ERRDET, 48, 16⟩
/-- Field ACTIVE of HRN_ERRDET. -/
def Fld.HRN_ERRDET_ACTIVE : Fld := ⟨Reg.HRN_ERRDET, 32, 1⟩
/-- Field OFFSET of HRN_ERRDET. -/
def Fld.HRN_ERRDET_OFFSET : Fld := ⟨Reg.HRN_ERRDET, 0, 32⟩
/-- HRN_STORE0 (R88). -/
def Reg.HRN_STORE0 : Nat := 0x20040
/-- Field GENERATION of HRN_STORE0. -/
def Fld.HRN_STORE0_GENERATION : Fld := ⟨Reg.HRN_STORE0, 32, 32⟩
/-- Field AUTOLOAD of HRN_STORE0. -/
def Fld.HRN_STORE0_AUTOLOAD : Fld := ⟨Reg.HRN_STORE0, 1, 1⟩
/-- Field VALID of HRN_STORE0. -/
def Fld.HRN_STORE0_VALID : Fld := ⟨Reg.HRN_STORE0, 0, 1⟩
/-- HRN_STORE1 (R88). -/
def Reg.HRN_STORE1 : Nat := 0x20048
/-- Field GENERATION of HRN_STORE1. -/
def Fld.HRN_STORE1_GENERATION : Fld := ⟨Reg.HRN_STORE1, 32, 32⟩
/-- Field AUTOLOAD of HRN_STORE1. -/
def Fld.HRN_STORE1_AUTOLOAD : Fld := ⟨Reg.HRN_STORE1, 1, 1⟩
/-- Field VALID of HRN_STORE1. -/
def Fld.HRN_STORE1_VALID : Fld := ⟨Reg.HRN_STORE1, 0, 1⟩
/-- HRN_PRLDTMO (R88). -/
def Reg.HRN_PRLDTMO : Nat := 0x20050
/-- Field TMO_US of HRN_PRLDTMO. -/
def Fld.HRN_PRLDTMO_TMO_US : Fld := ⟨Reg.HRN_PRLDTMO, 0, 32⟩
/-- HRN_HERD (R88). -/
def Reg.HRN_HERD : Nat := 0x20060
/-- Field PORTS of HRN_HERD. -/
def Fld.HRN_HERD_PORTS : Fld := ⟨Reg.HRN_HERD, 0, 24⟩
/-- HRN_MMATCH (R88). -/
def Reg.HRN_MMATCH (i : Nat) : Nat := 0x20100 + 0x4 * i
/-- Field COUNT of HRN_MMATCH. -/
def Fld.HRN_MMATCH_COUNT (i : Nat) : Fld := ⟨Reg.HRN_MMATCH i, 0, 32⟩
/-- TILE_FMTSAT (R112, R145, R167, R198, R199, R228, R239). `t` is the physical tile code, 17 × die + index. -/
def Reg.TILE_FMTSAT (t : Nat) : Nat := 0x805F00 + 0x10000 * t
/-- Field COUNT of TILE_FMTSAT. -/
def Fld.TILE_FMTSAT_COUNT (t : Nat) : Fld := ⟨Reg.TILE_FMTSAT t, 0, 64⟩
/-- TILE_FMTNF (R112, R145, R167, R198, R199, R228, R239). `t` is the physical tile code, 17 × die + index. -/
def Reg.TILE_FMTNF (t : Nat) : Nat := 0x805F08 + 0x10000 * t
/-- Field COUNT of TILE_FMTNF. -/
def Fld.TILE_FMTNF_COUNT (t : Nat) : Fld := ⟨Reg.TILE_FMTNF t, 0, 64⟩
/-- TILE_FMTLAST (R112, R145, R167, R198, R199, R228, R239). `t` is the physical tile code, 17 × die + index. -/
def Reg.TILE_FMTLAST (t : Nat) : Nat := 0x805F10 + 0x10000 * t
/-- Field TID of TILE_FMTLAST. -/
def Fld.TILE_FMTLAST_TID (t : Nat) : Fld := ⟨Reg.TILE_FMTLAST t, 0, 64⟩
/-- TILE_FMTKIND (R112, R145, R167, R198, R199, R228, R239). `t` is the physical tile code, 17 × die + index. -/
def Reg.TILE_FMTKIND (t : Nat) : Nat := 0x805F18 + 0x10000 * t
/-- Field TARGET of TILE_FMTKIND. -/
def Fld.TILE_FMTKIND_TARGET (t : Nat) : Fld := ⟨Reg.TILE_FMTKIND t, 8, 4⟩
/-- Field ROW of TILE_FMTKIND. -/
def Fld.TILE_FMTKIND_ROW (t : Nat) : Fld := ⟨Reg.TILE_FMTKIND t, 4, 4⟩
/-- Field KIND of TILE_FMTKIND. -/
def Fld.TILE_FMTKIND_KIND (t : Nat) : Fld := ⟨Reg.TILE_FMTKIND t, 0, 4⟩
/-- TILE_ARRCTL (R112, R145, R167, R198, R199, R228, R239). `t` is the physical tile code, 17 × die + index. -/
def Reg.TILE_ARRCTL (t : Nat) : Nat := 0x802000 + 0x10000 * t
/-- Field ROWCHK of TILE_ARRCTL. -/
def Fld.TILE_ARRCTL_ROWCHK (t : Nat) : Fld := ⟨Reg.TILE_ARRCTL t, 0, 1⟩
/-- TILE_ARRSTAT (R112, R145, R167, R198, R199, R228, R239). `t` is the physical tile code, 17 × die + index. -/
def Reg.TILE_ARRSTAT (t : Nat) : Nat := 0x802008 + 0x10000 * t
/-- Field LEAD of TILE_ARRSTAT. -/
def Fld.TILE_ARRSTAT_LEAD (t : Nat) : Fld := ⟨Reg.TILE_ARRSTAT t, 24, 8⟩
/-- Field YOKE of TILE_ARRSTAT. -/
def Fld.TILE_ARRSTAT_YOKE (t : Nat) : Fld := ⟨Reg.TILE_ARRSTAT t, 18, 2⟩
/-- Field MEMBER of TILE_ARRSTAT. -/
def Fld.TILE_ARRSTAT_MEMBER (t : Nat) : Fld := ⟨Reg.TILE_ARRSTAT t, 16, 2⟩
/-- Field RESHAPING of TILE_ARRSTAT. -/
def Fld.TILE_ARRSTAT_RESHAPING (t : Nat) : Fld := ⟨Reg.TILE_ARRSTAT t, 9, 1⟩
/-- Field BUSY of TILE_ARRSTAT. -/
def Fld.TILE_ARRSTAT_BUSY (t : Nat) : Fld := ⟨Reg.TILE_ARRSTAT t, 8, 1⟩
/-- Field SHAPE of TILE_ARRSTAT. -/
def Fld.TILE_ARRSTAT_SHAPE (t : Nat) : Fld := ⟨Reg.TILE_ARRSTAT t, 0, 2⟩
/-- TILE_ARRCYC (R112, R145, R167, R198, R199, R228, R239). `t` is the physical tile code, 17 × die + index. -/
def Reg.TILE_ARRCYC (t : Nat) : Nat := 0x802010 + 0x10000 * t
/-- Field COUNT of TILE_ARRCYC. -/
def Fld.TILE_ARRCYC_COUNT (t : Nat) : Fld := ⟨Reg.TILE_ARRCYC t, 0, 64⟩
/-- TILE_ARRMAC (R112, R145, R167, R198, R199, R228, R239). `t` is the physical tile code, 17 × die + index. -/
def Reg.TILE_ARRMAC (t : Nat) : Nat := 0x802018 + 0x10000 * t
/-- Field COUNT of TILE_ARRMAC. -/
def Fld.TILE_ARRMAC_COUNT (t : Nat) : Fld := ⟨Reg.TILE_ARRMAC t, 0, 64⟩
/-- TILE_ARRSTV (R112, R145, R167, R198, R199, R228, R239). `t` is the physical tile code, 17 × die + index. -/
def Reg.TILE_ARRSTV (t : Nat) : Nat := 0x802020 + 0x10000 * t
/-- Field COUNT of TILE_ARRSTV. -/
def Fld.TILE_ARRSTV_COUNT (t : Nat) : Fld := ⟨Reg.TILE_ARRSTV t, 0, 64⟩
/-- TILE_ARRBKP (R112, R145, R167, R198, R199, R228, R239). `t` is the physical tile code, 17 × die + index. -/
def Reg.TILE_ARRBKP (t : Nat) : Nat := 0x802028 + 0x10000 * t
/-- Field COUNT of TILE_ARRBKP. -/
def Fld.TILE_ARRBKP_COUNT (t : Nat) : Fld := ⟨Reg.TILE_ARRBKP t, 0, 64⟩
/-- TILE_ARRSHP (R112, R145, R167, R198, R199, R228, R239). `t` is the physical tile code, 17 × die + index. -/
def Reg.TILE_ARRSHP (t : Nat) : Nat := 0x802030 + 0x10000 * t
/-- Field COUNT of TILE_ARRSHP. -/
def Fld.TILE_ARRSHP_COUNT (t : Nat) : Fld := ⟨Reg.TILE_ARRSHP t, 0, 32⟩
/-- TILE_ARRCHKCNT (R112, R145, R167, R198, R199, R228, R239). `t` is the physical tile code, 17 × die + index. -/
def Reg.TILE_ARRCHKCNT (t : Nat) : Nat := 0x802038 + 0x10000 * t
/-- Field COLMIS of TILE_ARRCHKCNT. -/
def Fld.TILE_ARRCHKCNT_COLMIS (t : Nat) : Fld := ⟨Reg.TILE_ARRCHKCNT t, 48, 16⟩
/-- Field ROWMIS of TILE_ARRCHKCNT. -/
def Fld.TILE_ARRCHKCNT_ROWMIS (t : Nat) : Fld := ⟨Reg.TILE_ARRCHKCNT t, 32, 16⟩
/-- Field ADDMIS of TILE_ARRCHKCNT. -/
def Fld.TILE_ARRCHKCNT_ADDMIS (t : Nat) : Fld := ⟨Reg.TILE_ARRCHKCNT t, 16, 16⟩
/-- Field RECOVERED of TILE_ARRCHKCNT. -/
def Fld.TILE_ARRCHKCNT_RECOVERED (t : Nat) : Fld := ⟨Reg.TILE_ARRCHKCNT t, 0, 16⟩
/-- TILE_ARRCHKSKIP (R112, R145, R167, R198, R199, R228, R239). `t` is the physical tile code, 17 × die + index. -/
def Reg.TILE_ARRCHKSKIP (t : Nat) : Nat := 0x802040 + 0x10000 * t
/-- Field COUNT of TILE_ARRCHKSKIP. -/
def Fld.TILE_ARRCHKSKIP_COUNT (t : Nat) : Fld := ⟨Reg.TILE_ARRCHKSKIP t, 0, 64⟩
/-- TILE_ARRCHKLOC (R112, R145, R167, R198, R199, R228, R239). `t` is the physical tile code, 17 × die + index. -/
def Reg.TILE_ARRCHKLOC (t : Nat) : Nat := 0x802048 + 0x10000 * t
/-- Field KIND of TILE_ARRCHKLOC. -/
def Fld.TILE_ARRCHKLOC_KIND (t : Nat) : Fld := ⟨Reg.TILE_ARRCHKLOC t, 32, 4⟩
/-- Field SHAPE of TILE_ARRCHKLOC. -/
def Fld.TILE_ARRCHKLOC_SHAPE (t : Nat) : Fld := ⟨Reg.TILE_ARRCHKLOC t, 30, 2⟩
/-- Field SLICE of TILE_ARRCHKLOC. -/
def Fld.TILE_ARRCHKLOC_SLICE (t : Nat) : Fld := ⟨Reg.TILE_ARRCHKLOC t, 28, 2⟩
/-- Field RETRIES of TILE_ARRCHKLOC. -/
def Fld.TILE_ARRCHKLOC_RETRIES (t : Nat) : Fld := ⟨Reg.TILE_ARRCHKLOC t, 24, 4⟩
/-- Field ROWV of TILE_ARRCHKLOC. -/
def Fld.TILE_ARRCHKLOC_ROWV (t : Nat) : Fld := ⟨Reg.TILE_ARRCHKLOC t, 23, 1⟩
/-- Field ROW of TILE_ARRCHKLOC. -/
def Fld.TILE_ARRCHKLOC_ROW (t : Nat) : Fld := ⟨Reg.TILE_ARRCHKLOC t, 13, 10⟩
/-- Field COLV of TILE_ARRCHKLOC. -/
def Fld.TILE_ARRCHKLOC_COLV (t : Nat) : Fld := ⟨Reg.TILE_ARRCHKLOC t, 12, 1⟩
/-- Field COLUMN of TILE_ARRCHKLOC. -/
def Fld.TILE_ARRCHKLOC_COLUMN (t : Nat) : Fld := ⟨Reg.TILE_ARRCHKLOC t, 0, 10⟩
/-- TILE_ARRCHKTID (R112, R145, R167, R198, R199, R228, R239). `t` is the physical tile code, 17 × die + index. -/
def Reg.TILE_ARRCHKTID (t : Nat) : Nat := 0x802050 + 0x10000 * t
/-- Field TID of TILE_ARRCHKTID. -/
def Fld.TILE_ARRCHKTID_TID (t : Nat) : Fld := ⟨Reg.TILE_ARRCHKTID t, 0, 64⟩
/-- TILE_ARRINJ (R112, R145, R167, R198, R199, R228, R239). `t` is the physical tile code, 17 × die + index. -/
def Reg.TILE_ARRINJ (t : Nat) : Nat := 0x802058 + 0x10000 * t
/-- Field ARM of TILE_ARRINJ. -/
def Fld.TILE_ARRINJ_ARM (t : Nat) : Fld := ⟨Reg.TILE_ARRINJ t, 21, 1⟩
/-- Field ROW of TILE_ARRINJ. -/
def Fld.TILE_ARRINJ_ROW (t : Nat) : Fld := ⟨Reg.TILE_ARRINJ t, 10, 10⟩
/-- Field COLUMN of TILE_ARRINJ. -/
def Fld.TILE_ARRINJ_COLUMN (t : Nat) : Fld := ⟨Reg.TILE_ARRINJ t, 0, 10⟩
/-- TILE_EUCTL (R112, R145, R167, R198, R199, R228, R239). `t` is the physical tile code, 17 × die + index. -/
def Reg.TILE_EUCTL (t : Nat) : Nat := 0x804000 + 0x10000 * t
/-- Field MVFORCE of TILE_EUCTL. -/
def Fld.TILE_EUCTL_MVFORCE (t : Nat) : Fld := ⟨Reg.TILE_EUCTL t, 0, 2⟩
/-- TILE_EUSTAT (R112, R145, R167, R198, R199, R228, R239). `t` is the physical tile code, 17 × die + index. -/
def Reg.TILE_EUSTAT (t : Nat) : Nat := 0x804008 + 0x10000 * t
/-- Field OP of TILE_EUSTAT. -/
def Fld.TILE_EUSTAT_OP (t : Nat) : Fld := ⟨Reg.TILE_EUSTAT t, 16, 8⟩
/-- Field PAUSED of TILE_EUSTAT. -/
def Fld.TILE_EUSTAT_PAUSED (t : Nat) : Fld := ⟨Reg.TILE_EUSTAT t, 9, 1⟩
/-- Field BUSY of TILE_EUSTAT. -/
def Fld.TILE_EUSTAT_BUSY (t : Nat) : Fld := ⟨Reg.TILE_EUSTAT t, 8, 1⟩
/-- Field LASTPATH of TILE_EUSTAT. -/
def Fld.TILE_EUSTAT_LASTPATH (t : Nat) : Fld := ⟨Reg.TILE_EUSTAT t, 0, 2⟩
/-- TILE_EUCYC (R112, R145, R167, R198, R199, R228, R239). `t` is the physical tile code, 17 × die + index. -/
def Reg.TILE_EUCYC (t : Nat) : Nat := 0x804010 + 0x10000 * t
/-- Field COUNT of TILE_EUCYC. -/
def Fld.TILE_EUCYC_COUNT (t : Nat) : Fld := ⟨Reg.TILE_EUCYC t, 0, 64⟩
/-- TILE_EUPAUSE (R112, R145, R167, R198, R199, R228, R239). `t` is the physical tile code, 17 × die + index. -/
def Reg.TILE_EUPAUSE (t : Nat) : Nat := 0x804018 + 0x10000 * t
/-- Field COUNT of TILE_EUPAUSE. -/
def Fld.TILE_EUPAUSE_COUNT (t : Nat) : Fld := ⟨Reg.TILE_EUPAUSE t, 0, 64⟩
/-- TILE_MVCNT (R112, R145, R167, R198, R199, R228, R239). `t` is the physical tile code, 17 × die + index. -/
def Reg.TILE_MVCNT (t : Nat) : Nat := 0x804020 + 0x10000 * t
/-- Field FALLBACK of TILE_MVCNT. -/
def Fld.TILE_MVCNT_FALLBACK (t : Nat) : Fld := ⟨Reg.TILE_MVCNT t, 32, 32⟩
/-- Field ARRAY of TILE_MVCNT. -/
def Fld.TILE_MVCNT_ARRAY (t : Nat) : Fld := ⟨Reg.TILE_MVCNT t, 0, 32⟩
/-- TILE_MVCYC (R112, R145, R167, R198, R199, R228, R239). `t` is the physical tile code, 17 × die + index. -/
def Reg.TILE_MVCYC (t : Nat) : Nat := 0x804028 + 0x10000 * t
/-- Field COUNT of TILE_MVCYC. -/
def Fld.TILE_MVCYC_COUNT (t : Nat) : Fld := ⟨Reg.TILE_MVCYC t, 0, 64⟩
/-- TILE_CURVEMISS (R112, R145, R167, R198, R199, R228, R239). `t` is the physical tile code, 17 × die + index. -/
def Reg.TILE_CURVEMISS (t : Nat) : Nat := 0x804030 + 0x10000 * t
/-- Field CURVE of TILE_CURVEMISS. -/
def Fld.TILE_CURVEMISS_CURVE (t : Nat) : Fld := ⟨Reg.TILE_CURVEMISS t, 48, 5⟩
/-- Field COUNT of TILE_CURVEMISS. -/
def Fld.TILE_CURVEMISS_COUNT (t : Nat) : Fld := ⟨Reg.TILE_CURVEMISS t, 0, 48⟩
/-- TILE_EUCHK (R112, R145, R167, R198, R199, R228, R239). `t` is the physical tile code, 17 × die + index. -/
def Reg.TILE_EUCHK (t : Nat) : Nat := 0x804038 + 0x10000 * t
/-- Field MISMATCH of TILE_EUCHK. -/
def Fld.TILE_EUCHK_MISMATCH (t : Nat) : Fld := ⟨Reg.TILE_EUCHK t, 32, 32⟩
/-- Field RECOVERED of TILE_EUCHK. -/
def Fld.TILE_EUCHK_RECOVERED (t : Nat) : Fld := ⟨Reg.TILE_EUCHK t, 0, 32⟩
/-- TILE_CTL (R112, R145, R167, R198, R199, R228, R239). `t` is the physical tile code, 17 × die + index. -/
def Reg.TILE_CTL (t : Nat) : Nat := 0x800000 + 0x10000 * t
/-- Field HOLD of TILE_CTL. -/
def Fld.TILE_CTL_HOLD (t : Nat) : Fld := ⟨Reg.TILE_CTL t, 0, 1⟩
/-- TILE_STAT (R112, R145, R167, R198, R199, R228, R239). `t` is the physical tile code, 17 × die + index. -/
def Reg.TILE_STAT (t : Nat) : Nat := 0x800008 + 0x10000 * t
/-- Field HELD of TILE_STAT. -/
def Fld.TILE_STAT_HELD (t : Nat) : Fld := ⟨Reg.TILE_STAT t, 32, 1⟩
/-- Field LOGICAL of TILE_STAT. -/
def Fld.TILE_STAT_LOGICAL (t : Nat) : Fld := ⟨Reg.TILE_STAT t, 24, 8⟩
/-- Field RINGS of TILE_STAT. -/
def Fld.TILE_STAT_RINGS (t : Nat) : Fld := ⟨Reg.TILE_STAT t, 16, 4⟩
/-- Field DIE of TILE_STAT. -/
def Fld.TILE_STAT_DIE (t : Nat) : Fld := ⟨Reg.TILE_STAT t, 8, 2⟩
/-- Field INDEX of TILE_STAT. -/
def Fld.TILE_STAT_INDEX (t : Nat) : Fld := ⟨Reg.TILE_STAT t, 0, 5⟩
/-- TILE_RINGBIND (R112, R145, R167, R198, R199, R228, R239). Its home is the logical tile (R176, R181): `t` is the logical tile. -/
def Reg.TILE_RINGBIND (t i : Nat) : Nat := 0x1000100 + 0x10000 * t + 0x8 * i
/-- Field RING of TILE_RINGBIND. -/
def Fld.TILE_RINGBIND_RING (t i : Nat) : Fld := ⟨Reg.TILE_RINGBIND t i, 50, 14⟩
/-- Field PRIO of TILE_RINGBIND. -/
def Fld.TILE_RINGBIND_PRIO (t i : Nat) : Fld := ⟨Reg.TILE_RINGBIND t i, 48, 2⟩
/-- Field VALID of TILE_RINGBIND. -/
def Fld.TILE_RINGBIND_VALID (t i : Nat) : Fld := ⟨Reg.TILE_RINGBIND t i, 0, 1⟩
/-- TILE_RINGSTAT (R112, R145, R167, R198, R199, R228, R239). `t` is the physical tile code, 17 × die + index. -/
def Reg.TILE_RINGSTAT (t i : Nat) : Nat := 0x800180 + 0x10000 * t + 0x8 * i
/-- Field BLOCK of TILE_RINGSTAT. -/
def Fld.TILE_RINGSTAT_BLOCK (t i : Nat) : Fld := ⟨Reg.TILE_RINGSTAT t i, 28, 4⟩
/-- Field SLOT of TILE_RINGSTAT. -/
def Fld.TILE_RINGSTAT_SLOT (t i : Nat) : Fld := ⟨Reg.TILE_RINGSTAT t i, 26, 2⟩
/-- Field INFLIGHT of TILE_RINGSTAT. -/
def Fld.TILE_RINGSTAT_INFLIGHT (t i : Nat) : Fld := ⟨Reg.TILE_RINGSTAT t i, 0, 16⟩
/-- TILE_MARK (R112, R145, R167, R198, R199, R228, R239). Its home is the logical tile (R176, R181): `t` is the logical tile. -/
def Reg.TILE_MARK (t i : Nat) : Nat := 0x1000400 + 0x10000 * t + 0x4 * i
/-- Field POISON of TILE_MARK. -/
def Fld.TILE_MARK_POISON (t i : Nat) : Fld := ⟨Reg.TILE_MARK t i, 16, 1⟩
/-- Field COUNT of TILE_MARK. -/
def Fld.TILE_MARK_COUNT (t i : Nat) : Fld := ⟨Reg.TILE_MARK t i, 0, 16⟩
/-- TILE_CREDIT (R112, R145, R167, R198, R199, R228, R239). Its home is the logical tile (R176, R181): `t` is the logical tile. -/
def Reg.TILE_CREDIT (t i : Nat) : Nat := 0x1000500 + 0x10000 * t + 0x4 * i
/-- Field COUNT of TILE_CREDIT. -/
def Fld.TILE_CREDIT_COUNT (t i : Nat) : Fld := ⟨Reg.TILE_CREDIT t i, 0, 16⟩
/-- TILE_MARKOVF (R112, R145, R167, R198, R199, R228, R239). `t` is the physical tile code, 17 × die + index. -/
def Reg.TILE_MARKOVF (t : Nat) : Nat := 0x800600 + 0x10000 * t
/-- Field COUNT of TILE_MARKOVF. -/
def Fld.TILE_MARKOVF_COUNT (t : Nat) : Fld := ⟨Reg.TILE_MARKOVF t, 32, 32⟩
/-- Field MARK of TILE_MARKOVF. -/
def Fld.TILE_MARKOVF_MARK (t : Nat) : Fld := ⟨Reg.TILE_MARKOVF t, 0, 6⟩
/-- TILE_CRDOVF (R112, R145, R167, R198, R199, R228, R239). `t` is the physical tile code, 17 × die + index. -/
def Reg.TILE_CRDOVF (t : Nat) : Nat := 0x800608 + 0x10000 * t
/-- Field COUNT of TILE_CRDOVF. -/
def Fld.TILE_CRDOVF_COUNT (t : Nat) : Fld := ⟨Reg.TILE_CRDOVF t, 32, 32⟩
/-- Field POOL of TILE_CRDOVF. -/
def Fld.TILE_CRDOVF_POOL (t : Nat) : Fld := ⟨Reg.TILE_CRDOVF t, 0, 5⟩
/-- TILE_DISPCNT (R112, R145, R167, R198, R199, R228, R239). `t` is the physical tile code, 17 × die + index. -/
def Reg.TILE_DISPCNT (t : Nat) : Nat := 0x800610 + 0x10000 * t
/-- Field COUNT of TILE_DISPCNT. -/
def Fld.TILE_DISPCNT_COUNT (t : Nat) : Fld := ⟨Reg.TILE_DISPCNT t, 0, 64⟩
/-- TILE_CANCELCNT (R112, R145, R167, R198, R199, R228, R239). `t` is the physical tile code, 17 × die + index. -/
def Reg.TILE_CANCELCNT (t : Nat) : Nat := 0x800618 + 0x10000 * t
/-- Field COUNT of TILE_CANCELCNT. -/
def Fld.TILE_CANCELCNT_COUNT (t : Nat) : Fld := ⟨Reg.TILE_CANCELCNT t, 0, 64⟩
/-- TILE_SPCTL (R112, R145, R167, R198, R199, R228, R239). `t` is the physical tile code, 17 × die + index. -/
def Reg.TILE_SPCTL (t : Nat) : Nat := 0x809000 + 0x10000 * t
/-- Field SCRUB of TILE_SPCTL. -/
def Fld.TILE_SPCTL_SCRUB (t : Nat) : Fld := ⟨Reg.TILE_SPCTL t, 0, 1⟩
/-- TILE_SPCE (R112, R145, R167, R198, R199, R228, R239). `t` is the physical tile code, 17 × die + index. -/
def Reg.TILE_SPCE (t : Nat) : Nat := 0x809008 + 0x10000 * t
/-- Field COUNT of TILE_SPCE. -/
def Fld.TILE_SPCE_COUNT (t : Nat) : Fld := ⟨Reg.TILE_SPCE t, 32, 32⟩
/-- Field BANK of TILE_SPCE. -/
def Fld.TILE_SPCE_BANK (t : Nat) : Fld := ⟨Reg.TILE_SPCE t, 27, 5⟩
/-- Field BROW of TILE_SPCE. -/
def Fld.TILE_SPCE_BROW (t : Nat) : Fld := ⟨Reg.TILE_SPCE t, 13, 14⟩
/-- TILE_SPUE (R112, R145, R167, R198, R199, R228, R239). `t` is the physical tile code, 17 × die + index. -/
def Reg.TILE_SPUE (t : Nat) : Nat := 0x809010 + 0x10000 * t
/-- Field COUNT of TILE_SPUE. -/
def Fld.TILE_SPUE_COUNT (t : Nat) : Fld := ⟨Reg.TILE_SPUE t, 32, 32⟩
/-- Field BANK of TILE_SPUE. -/
def Fld.TILE_SPUE_BANK (t : Nat) : Fld := ⟨Reg.TILE_SPUE t, 27, 5⟩
/-- Field BROW of TILE_SPUE. -/
def Fld.TILE_SPUE_BROW (t : Nat) : Fld := ⟨Reg.TILE_SPUE t, 13, 14⟩
/-- TILE_SPCONF (R112, R145, R167, R198, R199, R228, R239). `t` is the physical tile code, 17 × die + index. -/
def Reg.TILE_SPCONF (t : Nat) : Nat := 0x809018 + 0x10000 * t
/-- Field COUNT of TILE_SPCONF. -/
def Fld.TILE_SPCONF_COUNT (t : Nat) : Fld := ⟨Reg.TILE_SPCONF t, 0, 64⟩
/-- TILE_SPSCRUB (R112, R145, R167, R198, R199, R228, R239). `t` is the physical tile code, 17 × die + index. -/
def Reg.TILE_SPSCRUB (t : Nat) : Nat := 0x809020 + 0x10000 * t
/-- Field PASSES of TILE_SPSCRUB. -/
def Fld.TILE_SPSCRUB_PASSES (t : Nat) : Fld := ⟨Reg.TILE_SPSCRUB t, 32, 32⟩
/-- Field NEXT of TILE_SPSCRUB. -/
def Fld.TILE_SPSCRUB_NEXT (t : Nat) : Fld := ⟨Reg.TILE_SPSCRUB t, 0, 14⟩
/-- STR_CHSTAT (R112, R145, R167, R198, R199, R228, R239). `t` is the physical tile code, 17 × die + index. -/
def Reg.STR_CHSTAT (t c : Nat) : Nat := 0x806000 + 0x10000 * t + 0x800 * c
/-- Field RING of STR_CHSTAT. -/
def Fld.STR_CHSTAT_RING (t c : Nat) : Fld := ⟨Reg.STR_CHSTAT t c, 50, 14⟩
/-- Field OP of STR_CHSTAT. -/
def Fld.STR_CHSTAT_OP (t c : Nat) : Fld := ⟨Reg.STR_CHSTAT t c, 42, 8⟩
/-- Field FARKIND of STR_CHSTAT. -/
def Fld.STR_CHSTAT_FARKIND (t c : Nat) : Fld := ⟨Reg.STR_CHSTAT t c, 38, 4⟩
/-- Field XPOSE of STR_CHSTAT. -/
def Fld.STR_CHSTAT_XPOSE (t c : Nat) : Fld := ⟨Reg.STR_CHSTAT t c, 3, 1⟩
/-- Field EARLY of STR_CHSTAT. -/
def Fld.STR_CHSTAT_EARLY (t c : Nat) : Fld := ⟨Reg.STR_CHSTAT t c, 2, 1⟩
/-- Field STATE of STR_CHSTAT. -/
def Fld.STR_CHSTAT_STATE (t c : Nat) : Fld := ⟨Reg.STR_CHSTAT t c, 0, 2⟩
/-- STR_CHJSEQ (R112, R145, R167, R198, R199, R228, R239). `t` is the physical tile code, 17 × die + index. -/
def Reg.STR_CHJSEQ (t c : Nat) : Nat := 0x806008 + 0x10000 * t + 0x800 * c
/-- Field JSEQ of STR_CHJSEQ. -/
def Fld.STR_CHJSEQ_JSEQ (t c : Nat) : Fld := ⟨Reg.STR_CHJSEQ t c, 0, 64⟩
/-- STR_CHBYTES (R112, R145, R167, R198, R199, R228, R239). `t` is the physical tile code, 17 × die + index. -/
def Reg.STR_CHBYTES (t c : Nat) : Nat := 0x806010 + 0x10000 * t + 0x800 * c
/-- Field COUNT of STR_CHBYTES. -/
def Fld.STR_CHBYTES_COUNT (t c : Nat) : Fld := ⟨Reg.STR_CHBYTES t c, 0, 64⟩
/-- STR_CHRA (R112, R145, R167, R198, R199, R228, R239). `t` is the physical tile code, 17 × die + index. -/
def Reg.STR_CHRA (t c : Nat) : Nat := 0x806018 + 0x10000 * t + 0x800 * c
/-- Field FAULTS of STR_CHRA. -/
def Fld.STR_CHRA_FAULTS (t c : Nat) : Fld := ⟨Reg.STR_CHRA t c, 48, 16⟩
/-- Field DISCARDED of STR_CHRA. -/
def Fld.STR_CHRA_DISCARDED (t c : Nat) : Fld := ⟨Reg.STR_CHRA t c, 0, 48⟩
/-- STR_WDOG (R112, R145, R167, R198, R199, R228, R239). `t` is the physical tile code, 17 × die + index. -/
def Reg.STR_WDOG (t : Nat) : Nat := 0x806400 + 0x10000 * t
/-- Field LIMIT of STR_WDOG. -/
def Fld.STR_WDOG_LIMIT (t : Nat) : Fld := ⟨Reg.STR_WDOG t, 0, 32⟩
/-- STR_WDOGCNT (R112, R145, R167, R198, R199, R228, R239). `t` is the physical tile code, 17 × die + index. -/
def Reg.STR_WDOGCNT (t : Nat) : Nat := 0x806408 + 0x10000 * t
/-- Field HALTS of STR_WDOGCNT. -/
def Fld.STR_WDOGCNT_HALTS (t : Nat) : Fld := ⟨Reg.STR_WDOGCNT t, 32, 32⟩
/-- Field STUCK of STR_WDOGCNT. -/
def Fld.STR_WDOGCNT_STUCK (t : Nat) : Fld := ⟨Reg.STR_WDOGCNT t, 0, 32⟩
/-- STR_HALTCNT (R112, R145, R167, R198, R199, R228, R239). `t` is the physical tile code, 17 × die + index. -/
def Reg.STR_HALTCNT (t : Nat) : Nat := 0x806410 + 0x10000 * t
/-- Field TIER of STR_HALTCNT. -/
def Fld.STR_HALTCNT_TIER (t : Nat) : Fld := ⟨Reg.STR_HALTCNT t, 48, 16⟩
/-- Field CREDIT of STR_HALTCNT. -/
def Fld.STR_HALTCNT_CREDIT (t : Nat) : Fld := ⟨Reg.STR_HALTCNT t, 32, 16⟩
/-- Field ARRIVAL of STR_HALTCNT. -/
def Fld.STR_HALTCNT_ARRIVAL (t : Nat) : Fld := ⟨Reg.STR_HALTCNT t, 16, 16⟩
/-- Field FULL of STR_HALTCNT. -/
def Fld.STR_HALTCNT_FULL (t : Nat) : Fld := ⟨Reg.STR_HALTCNT t, 0, 16⟩
/-- STR_RESVERR (R112, R145, R167, R198, R199, R228, R239). `t` is the physical tile code, 17 × die + index. -/
def Reg.STR_RESVERR (t : Nat) : Nat := 0x806418 + 0x10000 * t
/-- Field COUNT of STR_RESVERR. -/
def Fld.STR_RESVERR_COUNT (t : Nat) : Fld := ⟨Reg.STR_RESVERR t, 32, 32⟩
/-- Field RECORD of STR_RESVERR. -/
def Fld.STR_RESVERR_RECORD (t : Nat) : Fld := ⟨Reg.STR_RESVERR t, 0, 8⟩
/-- STR_RESVWAIT (R112, R145, R167, R198, R199, R228, R239). `t` is the physical tile code, 17 × die + index. -/
def Reg.STR_RESVWAIT (t : Nat) : Nat := 0x806420 + 0x10000 * t
/-- Field COUNT of STR_RESVWAIT. -/
def Fld.STR_RESVWAIT_COUNT (t : Nat) : Fld := ⟨Reg.STR_RESVWAIT t, 0, 64⟩
/-- STR_RESVSEL (R112, R145, R167, R198, R199, R228, R239). `t` is the physical tile code, 17 × die + index. -/
def Reg.STR_RESVSEL (t : Nat) : Nat := 0x806428 + 0x10000 * t
/-- Field RECORD of STR_RESVSEL. -/
def Fld.STR_RESVSEL_RECORD (t : Nat) : Fld := ⟨Reg.STR_RESVSEL t, 0, 8⟩
/-- STR_RESVSTAT (R112, R145, R167, R198, R199, R228, R239). `t` is the physical tile code, 17 × die + index. -/
def Reg.STR_RESVSTAT (t : Nat) : Nat := 0x806430 + 0x10000 * t
/-- Field RING of STR_RESVSTAT. -/
def Fld.STR_RESVSTAT_RING (t : Nat) : Fld := ⟨Reg.STR_RESVSTAT t, 50, 14⟩
/-- Field GROUP of STR_RESVSTAT. -/
def Fld.STR_RESVSTAT_GROUP (t : Nat) : Fld := ⟨Reg.STR_RESVSTAT t, 42, 8⟩
/-- Field OFFSET of STR_RESVSTAT. -/
def Fld.STR_RESVSTAT_OFFSET (t : Nat) : Fld := ⟨Reg.STR_RESVSTAT t, 28, 14⟩
/-- Field LENGTH of STR_RESVSTAT. -/
def Fld.STR_RESVSTAT_LENGTH (t : Nat) : Fld := ⟨Reg.STR_RESVSTAT t, 13, 15⟩
/-- Field DEFINED of STR_RESVSTAT. -/
def Fld.STR_RESVSTAT_DEFINED (t : Nat) : Fld := ⟨Reg.STR_RESVSTAT t, 3, 1⟩
/-- Field CONTENDED of STR_RESVSTAT. -/
def Fld.STR_RESVSTAT_CONTENDED (t : Nat) : Fld := ⟨Reg.STR_RESVSTAT t, 2, 1⟩
/-- Field STATE of STR_RESVSTAT. -/
def Fld.STR_RESVSTAT_STATE (t : Nat) : Fld := ⟨Reg.STR_RESVSTAT t, 0, 2⟩
/-- STR_HALT (R112, R145, R167, R198, R199, R228, R239). `t` is the physical tile code, 17 × die + index. -/
def Reg.STR_HALT (t i : Nat) : Nat := 0x806500 + 0x10000 * t + 0x20 * i
/-- Field RING of STR_HALT. -/
def Fld.STR_HALT_RING (t i : Nat) : Fld := ⟨Reg.STR_HALT t i, 50, 14⟩
/-- Field REASON of STR_HALT. -/
def Fld.STR_HALT_REASON (t i : Nat) : Fld := ⟨Reg.STR_HALT t i, 46, 4⟩
/-- Field LOFF of STR_HALT. -/
def Fld.STR_HALT_LOFF (t i : Nat) : Fld := ⟨Reg.STR_HALT t i, 22, 24⟩
/-- Field VALID of STR_HALT. -/
def Fld.STR_HALT_VALID (t i : Nat) : Fld := ⟨Reg.STR_HALT t i, 0, 1⟩
/-- STR_HALT_8 (R112, R145, R167, R198, R199, R228, R239). `t` is the physical tile code, 17 × die + index. -/
def Reg.STR_HALT_8 (t i : Nat) : Nat := 0x806508 + 0x10000 * t + 0x20 * i
/-- Field I0 of STR_HALT_8. -/
def Fld.STR_HALT_8_I0 (t i : Nat) : Fld := ⟨Reg.STR_HALT_8 t i, 40, 24⟩
/-- Field I1 of STR_HALT_8. -/
def Fld.STR_HALT_8_I1 (t i : Nat) : Fld := ⟨Reg.STR_HALT_8 t i, 16, 24⟩
/-- STR_HALT_10 (R112, R145, R167, R198, R199, R228, R239). `t` is the physical tile code, 17 × die + index. -/
def Reg.STR_HALT_10 (t i : Nat) : Nat := 0x806510 + 0x10000 * t + 0x20 * i
/-- Field I2 of STR_HALT_10. -/
def Fld.STR_HALT_10_I2 (t i : Nat) : Fld := ⟨Reg.STR_HALT_10 t i, 40, 24⟩
/-- Field I3 of STR_HALT_10. -/
def Fld.STR_HALT_10_I3 (t i : Nat) : Fld := ⟨Reg.STR_HALT_10 t i, 16, 24⟩
/-- STR_HALT_18 (R112, R145, R167, R198, R199, R228, R239). `t` is the physical tile code, 17 × die + index. -/
def Reg.STR_HALT_18 (t i : Nat) : Nat := 0x806518 + 0x10000 * t + 0x20 * i
/-- Field I4 of STR_HALT_18. -/
def Fld.STR_HALT_18_I4 (t i : Nat) : Fld := ⟨Reg.STR_HALT_18 t i, 40, 24⟩
/-- Field I5 of STR_HALT_18. -/
def Fld.STR_HALT_18_I5 (t i : Nat) : Fld := ⟨Reg.STR_HALT_18 t i, 16, 24⟩
/-- CDC_RAWBYTES (R112, R145, R167, R198, R199, R228, R239). `t` is the physical tile code, 17 × die + index. -/
def Reg.CDC_RAWBYTES (t : Nat) : Nat := 0x808000 + 0x10000 * t
/-- Field COUNT of CDC_RAWBYTES. -/
def Fld.CDC_RAWBYTES_COUNT (t : Nat) : Fld := ⟨Reg.CDC_RAWBYTES t, 0, 64⟩
/-- CDC_FARBYTES (R112, R145, R167, R198, R199, R228, R239). `t` is the physical tile code, 17 × die + index. -/
def Reg.CDC_FARBYTES (t : Nat) : Nat := 0x808008 + 0x10000 * t
/-- Field COUNT of CDC_FARBYTES. -/
def Fld.CDC_FARBYTES_COUNT (t : Nat) : Fld := ⟨Reg.CDC_FARBYTES t, 0, 64⟩
/-- CDC_MODECNT (R112, R145, R167, R198, R199, R228, R239). `t` is the physical tile code, 17 × die + index. -/
def Reg.CDC_MODECNT (t : Nat) : Nat := 0x808010 + 0x10000 * t
/-- Field ZRUN of CDC_MODECNT. -/
def Fld.CDC_MODECNT_ZRUN (t : Nat) : Fld := ⟨Reg.CDC_MODECNT t, 48, 16⟩
/-- Field BITMAP of CDC_MODECNT. -/
def Fld.CDC_MODECNT_BITMAP (t : Nat) : Fld := ⟨Reg.CDC_MODECNT t, 32, 16⟩
/-- Field ZERO of CDC_MODECNT. -/
def Fld.CDC_MODECNT_ZERO (t : Nat) : Fld := ⟨Reg.CDC_MODECNT t, 16, 16⟩
/-- Field RAW of CDC_MODECNT. -/
def Fld.CDC_MODECNT_RAW (t : Nat) : Fld := ⟨Reg.CDC_MODECNT t, 0, 16⟩
/-- CDC_ERR (R112, R145, R167, R198, R199, R228, R239). `t` is the physical tile code, 17 × die + index. -/
def Reg.CDC_ERR (t : Nat) : Nat := 0x808018 + 0x10000 * t
/-- Field COUNT of CDC_ERR. -/
def Fld.CDC_ERR_COUNT (t : Nat) : Fld := ⟨Reg.CDC_ERR t, 48, 16⟩
/-- Field RING of CDC_ERR. -/
def Fld.CDC_ERR_RING (t : Nat) : Fld := ⟨Reg.CDC_ERR t, 34, 14⟩
/-- Field KIND of CDC_ERR. -/
def Fld.CDC_ERR_KIND (t : Nat) : Fld := ⟨Reg.CDC_ERR t, 30, 4⟩
/-- Field BLOCK of CDC_ERR. -/
def Fld.CDC_ERR_BLOCK (t : Nat) : Fld := ⟨Reg.CDC_ERR t, 0, 30⟩
/-- DRV_CTL (R270). -/
def Reg.DRV_CTL (d : Nat) : Nat := 0x280000 + 0x10000 * d
/-- Field HOLD of DRV_CTL. -/
def Fld.DRV_CTL_HOLD (d : Nat) : Fld := ⟨Reg.DRV_CTL d, 1, 1⟩
/-- Field FREEZE of DRV_CTL. -/
def Fld.DRV_CTL_FREEZE (d : Nat) : Fld := ⟨Reg.DRV_CTL d, 0, 1⟩
/-- DRV_STAT (R270). -/
def Reg.DRV_STAT (d : Nat) : Nat := 0x280008 + 0x10000 * d
/-- Field SLOTS of DRV_STAT. -/
def Fld.DRV_STAT_SLOTS (d : Nat) : Fld := ⟨Reg.DRV_STAT d, 16, 4⟩
/-- Field PLANS of DRV_STAT. -/
def Fld.DRV_STAT_PLANS (d : Nat) : Fld := ⟨Reg.DRV_STAT d, 8, 8⟩
/-- Field ENABLED of DRV_STAT. -/
def Fld.DRV_STAT_ENABLED (d : Nat) : Fld := ⟨Reg.DRV_STAT d, 0, 1⟩
/-- DRV_JOBCNT (R270). -/
def Reg.DRV_JOBCNT (d : Nat) : Nat := 0x280010 + 0x10000 * d
/-- Field OK of DRV_JOBCNT. -/
def Fld.DRV_JOBCNT_OK (d : Nat) : Fld := ⟨Reg.DRV_JOBCNT d, 48, 16⟩
/-- Field EMPTY of DRV_JOBCNT. -/
def Fld.DRV_JOBCNT_EMPTY (d : Nat) : Fld := ⟨Reg.DRV_JOBCNT d, 32, 16⟩
/-- Field SPLIT of DRV_JOBCNT. -/
def Fld.DRV_JOBCNT_SPLIT (d : Nat) : Fld := ⟨Reg.DRV_JOBCNT d, 16, 16⟩
/-- Field OTHER of DRV_JOBCNT. -/
def Fld.DRV_JOBCNT_OTHER (d : Nat) : Fld := ⟨Reg.DRV_JOBCNT d, 0, 16⟩
/-- DRV_PASSCNT (R270). -/
def Reg.DRV_PASSCNT (d : Nat) : Nat := 0x280018 + 0x10000 * d
/-- Field PASSES of DRV_PASSCNT. -/
def Fld.DRV_PASSCNT_PASSES (d : Nat) : Fld := ⟨Reg.DRV_PASSCNT d, 32, 32⟩
/-- Field EXTRA of DRV_PASSCNT. -/
def Fld.DRV_PASSCNT_EXTRA (d : Nat) : Fld := ⟨Reg.DRV_PASSCNT d, 16, 16⟩
/-- Field PACKED of DRV_PASSCNT. -/
def Fld.DRV_PASSCNT_PACKED (d : Nat) : Fld := ⟨Reg.DRV_PASSCNT d, 0, 16⟩
/-- DRV_COPYCNT (R270). -/
def Reg.DRV_COPYCNT (d : Nat) : Nat := 0x280020 + 0x10000 * d
/-- Field COUNT of DRV_COPYCNT. -/
def Fld.DRV_COPYCNT_COUNT (d : Nat) : Fld := ⟨Reg.DRV_COPYCNT d, 0, 64⟩
/-- DRV_SCORENF (R270). -/
def Reg.DRV_SCORENF (d : Nat) : Nat := 0x280028 + 0x10000 * d
/-- Field COUNT of DRV_SCORENF. -/
def Fld.DRV_SCORENF_COUNT (d : Nat) : Fld := ⟨Reg.DRV_SCORENF d, 32, 32⟩
/-- Field LSLOT of DRV_SCORENF. -/
def Fld.DRV_SCORENF_LSLOT (d : Nat) : Fld := ⟨Reg.DRV_SCORENF d, 26, 6⟩
/-- Field ROW of DRV_SCORENF. -/
def Fld.DRV_SCORENF_ROW (d : Nat) : Fld := ⟨Reg.DRV_SCORENF d, 0, 15⟩
/-- DRV_CTLMISS (R270). -/
def Reg.DRV_CTLMISS (d : Nat) : Nat := 0x280030 + 0x10000 * d
/-- Field COUNT of DRV_CTLMISS. -/
def Fld.DRV_CTLMISS_COUNT (d : Nat) : Fld := ⟨Reg.DRV_CTLMISS d, 32, 32⟩
/-- Field LSLOT of DRV_CTLMISS. -/
def Fld.DRV_CTLMISS_LSLOT (d : Nat) : Fld := ⟨Reg.DRV_CTLMISS d, 26, 6⟩
/-- Field EXPERT of DRV_CTLMISS. -/
def Fld.DRV_CTLMISS_EXPERT (d : Nat) : Fld := ⟨Reg.DRV_CTLMISS d, 0, 10⟩
/-- DRV_LASTSPLIT (R270). -/
def Reg.DRV_LASTSPLIT (d : Nat) : Nat := 0x280038 + 0x10000 * d
/-- Field LSLOT of DRV_LASTSPLIT. -/
def Fld.DRV_LASTSPLIT_LSLOT (d : Nat) : Fld := ⟨Reg.DRV_LASTSPLIT d, 58, 6⟩
/-- Field EXPERT of DRV_LASTSPLIT. -/
def Fld.DRV_LASTSPLIT_EXPERT (d : Nat) : Fld := ⟨Reg.DRV_LASTSPLIT d, 48, 10⟩
/-- Field PASSES of DRV_LASTSPLIT. -/
def Fld.DRV_LASTSPLIT_PASSES (d : Nat) : Fld := ⟨Reg.DRV_LASTSPLIT d, 32, 16⟩
/-- Field COPIES of DRV_LASTSPLIT. -/
def Fld.DRV_LASTSPLIT_COPIES (d : Nat) : Fld := ⟨Reg.DRV_LASTSPLIT d, 0, 32⟩
/-- DRV_SEL (R270). -/
def Reg.DRV_SEL (d : Nat) : Nat := 0x280040 + 0x10000 * d
/-- Field LSLOT of DRV_SEL. -/
def Fld.DRV_SEL_LSLOT (d : Nat) : Fld := ⟨Reg.DRV_SEL d, 10, 6⟩
/-- Field EXPERT of DRV_SEL. -/
def Fld.DRV_SEL_EXPERT (d : Nat) : Fld := ⟨Reg.DRV_SEL d, 0, 10⟩
/-- DRV_EXPCNT (R270). -/
def Reg.DRV_EXPCNT (d : Nat) : Nat := 0x280048 + 0x10000 * d
/-- Field PREV of DRV_EXPCNT. -/
def Fld.DRV_EXPCNT_PREV (d : Nat) : Fld := ⟨Reg.DRV_EXPCNT d, 32, 32⟩
/-- Field CUR of DRV_EXPCNT. -/
def Fld.DRV_EXPCNT_CUR (d : Nat) : Fld := ⟨Reg.DRV_EXPCNT d, 0, 32⟩
/-- DRV_EXPBIAS (R270). -/
def Reg.DRV_EXPBIAS (d : Nat) : Nat := 0x280050 + 0x10000 * d
/-- Field BIAS of DRV_EXPBIAS. -/
def Fld.DRV_EXPBIAS_BIAS (d : Nat) : Fld := ⟨Reg.DRV_EXPBIAS d, 32, 32⟩
/-- Field PEND of DRV_EXPBIAS. -/
def Fld.DRV_EXPBIAS_PEND (d : Nat) : Fld := ⟨Reg.DRV_EXPBIAS d, 0, 32⟩
/-- DRV_EXPLAST (R270). -/
def Reg.DRV_EXPLAST (d : Nat) : Nat := 0x280058 + 0x10000 * d
/-- Field PENDV of DRV_EXPLAST. -/
def Fld.DRV_EXPLAST_PENDV (d : Nat) : Fld := ⟨Reg.DRV_EXPLAST d, 32, 1⟩
/-- Field LAST of DRV_EXPLAST. -/
def Fld.DRV_EXPLAST_LAST (d : Nat) : Fld := ⟨Reg.DRV_EXPLAST d, 0, 32⟩
/-- DRV_STEP (R270). -/
def Reg.DRV_STEP (d : Nat) : Nat := 0x280060 + 0x10000 * d
/-- Field OPEN of DRV_STEP. -/
def Fld.DRV_STEP_OPEN (d : Nat) : Fld := ⟨Reg.DRV_STEP d, 32, 32⟩
/-- Field OPENV of DRV_STEP. -/
def Fld.DRV_STEP_OPENV (d : Nat) : Fld := ⟨Reg.DRV_STEP d, 2, 1⟩
/-- Field VERDICT of DRV_STEP. -/
def Fld.DRV_STEP_VERDICT (d : Nat) : Fld := ⟨Reg.DRV_STEP d, 0, 2⟩
/-- DRV_JOB (R270). -/
def Reg.DRV_JOB (d i : Nat) : Nat := 0x280100 + 0x10000 * d + 0x10 * i
/-- Field RING of DRV_JOB. -/
def Fld.DRV_JOB_RING (d i : Nat) : Fld := ⟨Reg.DRV_JOB d i, 50, 14⟩
/-- Field STATE of DRV_JOB. -/
def Fld.DRV_JOB_STATE (d i : Nat) : Fld := ⟨Reg.DRV_JOB d i, 46, 4⟩
/-- Field PLAN of DRV_JOB. -/
def Fld.DRV_JOB_PLAN (d i : Nat) : Fld := ⟨Reg.DRV_JOB d i, 40, 6⟩
/-- Field ISSUED of DRV_JOB. -/
def Fld.DRV_JOB_ISSUED (d i : Nat) : Fld := ⟨Reg.DRV_JOB d i, 27, 13⟩
/-- Field SCATTERED of DRV_JOB. -/
def Fld.DRV_JOB_SCATTERED (d i : Nat) : Fld := ⟨Reg.DRV_JOB d i, 14, 13⟩
/-- Field VALID of DRV_JOB. -/
def Fld.DRV_JOB_VALID (d i : Nat) : Fld := ⟨Reg.DRV_JOB d i, 0, 1⟩
/-- DRV_JOB_8 (R270). -/
def Reg.DRV_JOB_8 (d i : Nat) : Nat := 0x280108 + 0x10000 * d + 0x10 * i
/-- Field JSEQ of DRV_JOB_8. -/
def Fld.DRV_JOB_8_JSEQ (d i : Nat) : Fld := ⟨Reg.DRV_JOB_8 d i, 0, 64⟩
/-- DRM_ACCCNT (R345, R287, R361). -/
def Reg.DRM_ACCCNT (s : Nat) : Nat := 0x143000 + 0x4000 * s
/-- Field COUNT of DRM_ACCCNT. -/
def Fld.DRM_ACCCNT_COUNT (s : Nat) : Fld := ⟨Reg.DRM_ACCCNT s, 0, 64⟩
/-- DRM_ACCNF (R345, R287, R361). -/
def Reg.DRM_ACCNF (s : Nat) : Nat := 0x143008 + 0x4000 * s
/-- Field COUNT of DRM_ACCNF. -/
def Fld.DRM_ACCNF_COUNT (s : Nat) : Fld := ⟨Reg.DRM_ACCNF s, 48, 16⟩
/-- Field ADDR of DRM_ACCNF. -/
def Fld.DRM_ACCNF_ADDR (s : Nat) : Fld := ⟨Reg.DRM_ACCNF s, 0, 48⟩
/-- DRM_ACCSAT (R345, R287, R361). -/
def Reg.DRM_ACCSAT (s : Nat) : Nat := 0x143010 + 0x4000 * s
/-- Field COUNT of DRM_ACCSAT. -/
def Fld.DRM_ACCSAT_COUNT (s : Nat) : Fld := ⟨Reg.DRM_ACCSAT s, 48, 16⟩
/-- Field ADDR of DRM_ACCSAT. -/
def Fld.DRM_ACCSAT_ADDR (s : Nat) : Fld := ⟨Reg.DRM_ACCSAT s, 0, 48⟩
/-- DRM_ACCSTG (R345, R287, R361). -/
def Reg.DRM_ACCSTG (s : Nat) : Nat := 0x143018 + 0x4000 * s
/-- Field USED of DRM_ACCSTG. -/
def Fld.DRM_ACCSTG_USED (s : Nat) : Fld := ⟨Reg.DRM_ACCSTG s, 0, 19⟩
/-- DRM_STAT (R345, R287, R361). -/
def Reg.DRM_STAT (s : Nat) : Nat := 0x140000 + 0x4000 * s
/-- Field PCHRET of DRM_STAT. -/
def Fld.DRM_STAT_PCHRET (s : Nat) : Fld := ⟨Reg.DRM_STAT s, 32, 32⟩
/-- Field SCRUBBING of DRM_STAT. -/
def Fld.DRM_STAT_SCRUBBING (s : Nat) : Fld := ⟨Reg.DRM_STAT s, 1, 1⟩
/-- Field INSERVICE of DRM_STAT. -/
def Fld.DRM_STAT_INSERVICE (s : Nat) : Fld := ⟨Reg.DRM_STAT s, 0, 1⟩
/-- DRM_CE (R345, R287, R361). -/
def Reg.DRM_CE (s : Nat) : Nat := 0x140008 + 0x4000 * s
/-- Field COUNT of DRM_CE. -/
def Fld.DRM_CE_COUNT (s : Nat) : Fld := ⟨Reg.DRM_CE s, 48, 16⟩
/-- Field ADDR of DRM_CE. -/
def Fld.DRM_CE_ADDR (s : Nat) : Fld := ⟨Reg.DRM_CE s, 0, 48⟩
/-- DRM_UE (R345, R287, R361). -/
def Reg.DRM_UE (s : Nat) : Nat := 0x140010 + 0x4000 * s
/-- Field COUNT of DRM_UE. -/
def Fld.DRM_UE_COUNT (s : Nat) : Fld := ⟨Reg.DRM_UE s, 48, 16⟩
/-- Field ADDR of DRM_UE. -/
def Fld.DRM_UE_ADDR (s : Nat) : Fld := ⟨Reg.DRM_UE s, 0, 48⟩
/-- DRM_SCRUBCTL (R345, R287, R361). -/
def Reg.DRM_SCRUBCTL (s : Nat) : Nat := 0x140018 + 0x4000 * s
/-- Field HOURS of DRM_SCRUBCTL. -/
def Fld.DRM_SCRUBCTL_HOURS (s : Nat) : Fld := ⟨Reg.DRM_SCRUBCTL s, 0, 16⟩
/-- DRM_SCRUBSTAT (R345, R287, R361). -/
def Reg.DRM_SCRUBSTAT (s : Nat) : Nat := 0x140020 + 0x4000 * s
/-- Field PASSES of DRM_SCRUBSTAT. -/
def Fld.DRM_SCRUBSTAT_PASSES (s : Nat) : Fld := ⟨Reg.DRM_SCRUBSTAT s, 32, 32⟩
/-- DRM_RECTL (R345, R287, R361). -/
def Reg.DRM_RECTL (s : Nat) : Nat := 0x142000 + 0x4000 * s
/-- Field HOLD of DRM_RECTL. -/
def Fld.DRM_RECTL_HOLD (s : Nat) : Fld := ⟨Reg.DRM_RECTL s, 0, 1⟩
/-- DRM_RESTAT (R345, R287, R361). -/
def Reg.DRM_RESTAT (s : Nat) : Nat := 0x142008 + 0x4000 * s
/-- Field BANKS of DRM_RESTAT. -/
def Fld.DRM_RESTAT_BANKS (s : Nat) : Fld := ⟨Reg.DRM_RESTAT s, 48, 16⟩
/-- Field MODE of DRM_RESTAT. -/
def Fld.DRM_RESTAT_MODE (s : Nat) : Fld := ⟨Reg.DRM_RESTAT s, 1, 2⟩
/-- Field INSERVICE of DRM_RESTAT. -/
def Fld.DRM_RESTAT_INSERVICE (s : Nat) : Fld := ⟨Reg.DRM_RESTAT s, 0, 1⟩
/-- DRM_RESTEPS (R345, R287, R361). -/
def Reg.DRM_RESTEPS (s : Nat) : Nat := 0x142010 + 0x4000 * s
/-- Field COUNT of DRM_RESTEPS. -/
def Fld.DRM_RESTEPS_COUNT (s : Nat) : Fld := ⟨Reg.DRM_RESTEPS s, 0, 64⟩
/-- DRM_RECHK (R345, R287, R361). -/
def Reg.DRM_RECHK (s : Nat) : Nat := 0x142018 + 0x4000 * s
/-- Field MISMATCH of DRM_RECHK. -/
def Fld.DRM_RECHK_MISMATCH (s : Nat) : Fld := ⟨Reg.DRM_RECHK s, 32, 32⟩
/-- Field RECOVERED of DRM_RECHK. -/
def Fld.DRM_RECHK_RECOVERED (s : Nat) : Fld := ⟨Reg.DRM_RECHK s, 0, 32⟩
/-- DRM_REBLK (R345, R287, R361). -/
def Reg.DRM_REBLK (s : Nat) : Nat := 0x142020 + 0x4000 * s
/-- Field COUNT of DRM_REBLK. -/
def Fld.DRM_REBLK_COUNT (s : Nat) : Fld := ⟨Reg.DRM_REBLK s, 0, 64⟩
/-- DRM_REVFY (R345, R287, R361). -/
def Reg.DRM_REVFY (s : Nat) : Nat := 0x142028 + 0x4000 * s
/-- Field CORRECTED of DRM_REVFY. -/
def Fld.DRM_REVFY_CORRECTED (s : Nat) : Fld := ⟨Reg.DRM_REVFY s, 48, 16⟩
/-- Field UNCORRECTABLE of DRM_REVFY. -/
def Fld.DRM_REVFY_UNCORRECTABLE (s : Nat) : Fld := ⟨Reg.DRM_REVFY s, 32, 16⟩
/-- DRM_RGNSEL (R345, R287, R361). -/
def Reg.DRM_RGNSEL (s : Nat) : Nat := 0x142040 + 0x4000 * s
/-- Field REGION of DRM_RGNSEL. -/
def Fld.DRM_RGNSEL_REGION (s : Nat) : Fld := ⟨Reg.DRM_RGNSEL s, 0, 6⟩
/-- DRM_RGNSTAT (R345, R287, R361). -/
def Reg.DRM_RGNSTAT (s : Nat) : Nat := 0x142048 + 0x4000 * s
/-- Field BASE of DRM_RGNSTAT. -/
def Fld.DRM_RGNSTAT_BASE (s : Nat) : Fld := ⟨Reg.DRM_RGNSTAT s, 52, 12⟩
/-- Field LEN of DRM_RGNSTAT. -/
def Fld.DRM_RGNSTAT_LEN (s : Nat) : Fld := ⟨Reg.DRM_RGNSTAT s, 40, 12⟩
/-- Field CLASS of DRM_RGNSTAT. -/
def Fld.DRM_RGNSTAT_CLASS (s : Nat) : Fld := ⟨Reg.DRM_RGNSTAT s, 38, 2⟩
/-- Field ACLASS of DRM_RGNSTAT. -/
def Fld.DRM_RGNSTAT_ACLASS (s : Nat) : Fld := ⟨Reg.DRM_RGNSTAT s, 36, 2⟩
/-- Field VALID of DRM_RGNSTAT. -/
def Fld.DRM_RGNSTAT_VALID (s : Nat) : Fld := ⟨Reg.DRM_RGNSTAT s, 0, 1⟩
/-- COL_VOTECFG (R422, R288). -/
def Reg.COL_VOTECFG : Nat := 0x71000
/-- Field LEAD of COL_VOTECFG. -/
def Fld.COL_VOTECFG_LEAD : Fld := ⟨Reg.COL_VOTECFG, 16, 16⟩
/-- Field NFSRC of COL_VOTECFG. -/
def Fld.COL_VOTECFG_NFSRC : Fld := ⟨Reg.COL_VOTECFG, 0, 4⟩
/-- COL_VOTESTEP (R422, R288). -/
def Reg.COL_VOTESTEP : Nat := 0x71008
/-- Field OPEN of COL_VOTESTEP. -/
def Fld.COL_VOTESTEP_OPEN : Fld := ⟨Reg.COL_VOTESTEP, 32, 32⟩
/-- Field STATE of COL_VOTESTEP. -/
def Fld.COL_VOTESTEP_STATE : Fld := ⟨Reg.COL_VOTESTEP, 30, 2⟩
/-- Field LAST of COL_VOTESTEP. -/
def Fld.COL_VOTESTEP_LAST : Fld := ⟨Reg.COL_VOTESTEP, 28, 2⟩
/-- Field DEFERS of COL_VOTESTEP. -/
def Fld.COL_VOTESTEP_DEFERS : Fld := ⟨Reg.COL_VOTESTEP, 16, 8⟩
/-- Field SKIPS of COL_VOTESTEP. -/
def Fld.COL_VOTESTEP_SKIPS : Fld := ⟨Reg.COL_VOTESTEP, 8, 8⟩
/-- Field LATCH of COL_VOTESTEP. -/
def Fld.COL_VOTESTEP_LATCH : Fld := ⟨Reg.COL_VOTESTEP, 0, 4⟩
/-- COL_VOTEREC (R422, R288). -/
def Reg.COL_VOTEREC : Nat := 0x71010
/-- Field GN2 of COL_VOTEREC. -/
def Fld.COL_VOTEREC_GN2 : Fld := ⟨Reg.COL_VOTEREC, 0, 64⟩
/-- COL_VOTEREC_8 (R422, R288). -/
def Reg.COL_VOTEREC_8 : Nat := 0x71018
/-- Field LOSS of COL_VOTEREC_8. -/
def Fld.COL_VOTEREC_8_LOSS : Fld := ⟨Reg.COL_VOTEREC_8, 0, 64⟩
/-- COL_VOTEREC_10 (R422, R288). -/
def Reg.COL_VOTEREC_10 : Nat := 0x71020
/-- Field COUNT of COL_VOTEREC_10. -/
def Fld.COL_VOTEREC_10_COUNT : Fld := ⟨Reg.COL_VOTEREC_10, 0, 64⟩
/-- COL_VOTEREC_18 (R422, R288). -/
def Reg.COL_VOTEREC_18 : Nat := 0x71028
/-- Field NFBITS of COL_VOTEREC_18. -/
def Fld.COL_VOTEREC_18_NFBITS : Fld := ⟨Reg.COL_VOTEREC_18, 32, 4⟩
/-- Field STEP of COL_VOTEREC_18. -/
def Fld.COL_VOTEREC_18_STEP : Fld := ⟨Reg.COL_VOTEREC_18, 0, 32⟩
/-- COL_VERDICT (R422, R288). -/
def Reg.COL_VERDICT : Nat := 0x71030
/-- Field STEP of COL_VERDICT. -/
def Fld.COL_VERDICT_STEP : Fld := ⟨Reg.COL_VERDICT, 32, 32⟩
/-- Field VERDICT of COL_VERDICT. -/
def Fld.COL_VERDICT_VERDICT : Fld := ⟨Reg.COL_VERDICT, 30, 2⟩
/-- Field REASON of COL_VERDICT. -/
def Fld.COL_VERDICT_REASON : Fld := ⟨Reg.COL_VERDICT, 26, 4⟩
/-- COL_VERDICT_8 (R422, R288). -/
def Reg.COL_VERDICT_8 : Nat := 0x71038
/-- Field G of COL_VERDICT_8. -/
def Fld.COL_VERDICT_8_G : Fld := ⟨Reg.COL_VERDICT_8, 0, 64⟩
/-- COL_VERDICT_10 (R422, R288). -/
def Reg.COL_VERDICT_10 : Nat := 0x71040
/-- Field E of COL_VERDICT_10. -/
def Fld.COL_VERDICT_10_E : Fld := ⟨Reg.COL_VERDICT_10, 0, 64⟩
/-- COL_VERDICT_18 (R422, R288). -/
def Reg.COL_VERDICT_18 : Nat := 0x71048
/-- Field A of COL_VERDICT_18. -/
def Fld.COL_VERDICT_18_A : Fld := ⟨Reg.COL_VERDICT_18, 0, 64⟩
/-- COL_VOTECNT (R422, R288). -/
def Reg.COL_VOTECNT : Nat := 0x71050
/-- Field APPLY of COL_VOTECNT. -/
def Fld.COL_VOTECNT_APPLY : Fld := ⟨Reg.COL_VOTECNT, 48, 16⟩
/-- Field DEFER of COL_VOTECNT. -/
def Fld.COL_VOTECNT_DEFER : Fld := ⟨Reg.COL_VOTECNT, 32, 16⟩
/-- Field NONFINITE of COL_VOTECNT. -/
def Fld.COL_VOTECNT_NONFINITE : Fld := ⟨Reg.COL_VOTECNT, 24, 8⟩
/-- Field NORM of COL_VOTECNT. -/
def Fld.COL_VOTECNT_NORM : Fld := ⟨Reg.COL_VOTECNT, 16, 8⟩
/-- Field SPIKE of COL_VOTECNT. -/
def Fld.COL_VOTECNT_SPIKE : Fld := ⟨Reg.COL_VOTECNT, 8, 8⟩
/-- Field ALERT of COL_VOTECNT. -/
def Fld.COL_VOTECNT_ALERT : Fld := ⟨Reg.COL_VOTECNT, 0, 8⟩
/-- COL_NORMACC (R422, R288). -/
def Reg.COL_NORMACC : Nat := 0x71058
/-- Field VALUE of COL_NORMACC. -/
def Fld.COL_NORMACC_VALUE : Fld := ⟨Reg.COL_NORMACC, 0, 64⟩
/-- COL_XCHCFG (R422, R288). -/
def Reg.COL_XCHCFG : Nat := 0x70000
/-- Field E2ETMO_US of COL_XCHCFG. -/
def Fld.COL_XCHCFG_E2ETMO_US : Fld := ⟨Reg.COL_XCHCFG, 16, 16⟩
/-- Field BUDGET of COL_XCHCFG. -/
def Fld.COL_XCHCFG_BUDGET : Fld := ⟨Reg.COL_XCHCFG, 8, 8⟩
/-- Field CREDIT of COL_XCHCFG. -/
def Fld.COL_XCHCFG_CREDIT : Fld := ⟨Reg.COL_XCHCFG, 0, 8⟩
/-- COL_RDTMO (R422, R288). -/
def Reg.COL_RDTMO : Nat := 0x70008
/-- Field TMO_US of COL_RDTMO. -/
def Fld.COL_RDTMO_TMO_US : Fld := ⟨Reg.COL_RDTMO, 0, 32⟩
/-- COL_FLOWS (R422, R288). -/
def Reg.COL_FLOWS : Nat := 0x70010
/-- Field RX of COL_FLOWS. -/
def Fld.COL_FLOWS_RX : Fld := ⟨Reg.COL_FLOWS, 16, 16⟩
/-- Field TX of COL_FLOWS. -/
def Fld.COL_FLOWS_TX : Fld := ⟨Reg.COL_FLOWS, 0, 16⟩
/-- COL_E2ECNT (R422, R288). -/
def Reg.COL_E2ECNT : Nat := 0x70018
/-- Field RESENDS of COL_E2ECNT. -/
def Fld.COL_E2ECNT_RESENDS : Fld := ⟨Reg.COL_E2ECNT, 48, 16⟩
/-- Field DUP of COL_E2ECNT. -/
def Fld.COL_E2ECNT_DUP : Fld := ⟨Reg.COL_E2ECNT, 32, 16⟩
/-- Field AHEAD of COL_E2ECNT. -/
def Fld.COL_E2ECNT_AHEAD : Fld := ⟨Reg.COL_E2ECNT, 16, 16⟩
/-- Field ORPHAN of COL_E2ECNT. -/
def Fld.COL_E2ECNT_ORPHAN : Fld := ⟨Reg.COL_E2ECNT, 0, 16⟩
/-- COL_LATE (R422, R288). -/
def Reg.COL_LATE : Nat := 0x70020
/-- Field COUNT of COL_LATE. -/
def Fld.COL_LATE_COUNT : Fld := ⟨Reg.COL_LATE, 32, 32⟩
/-- Field QUAR of COL_LATE. -/
def Fld.COL_LATE_QUAR : Fld := ⟨Reg.COL_LATE, 0, 12⟩
/-- COL_FWDCNT (R422, R288). -/
def Reg.COL_FWDCNT : Nat := 0x70028
/-- Field COUNT of COL_FWDCNT. -/
def Fld.COL_FWDCNT_COUNT : Fld := ⟨Reg.COL_FWDCNT, 0, 64⟩
/-- COL_REDCFG (R422, R288). -/
def Reg.COL_REDCFG : Nat := 0x70100
/-- Field TMO_US of COL_REDCFG. -/
def Fld.COL_REDCFG_TMO_US : Fld := ⟨Reg.COL_REDCFG, 0, 32⟩
/-- COL_REDCNT (R422, R288). -/
def Reg.COL_REDCNT : Nat := 0x70108
/-- Field DONE of COL_REDCNT. -/
def Fld.COL_REDCNT_DONE : Fld := ⟨Reg.COL_REDCNT, 48, 16⟩
/-- Field TIMEOUT of COL_REDCNT. -/
def Fld.COL_REDCNT_TIMEOUT : Fld := ⟨Reg.COL_REDCNT, 32, 16⟩
/-- Field DUP of COL_REDCNT. -/
def Fld.COL_REDCNT_DUP : Fld := ⟨Reg.COL_REDCNT, 16, 16⟩
/-- Field LATE of COL_REDCNT. -/
def Fld.COL_REDCNT_LATE : Fld := ⟨Reg.COL_REDCNT, 0, 16⟩
/-- UPD_CTL (R311). -/
def Reg.UPD_CTL (d : Nat) : Nat := 0x2C0000 + 0x10000 * d
/-- Field HOLD of UPD_CTL. -/
def Fld.UPD_CTL_HOLD (d : Nat) : Fld := ⟨Reg.UPD_CTL d, 0, 1⟩
/-- UPD_STAT (R311). -/
def Reg.UPD_STAT (d : Nat) : Nat := 0x2C0008 + 0x10000 * d
/-- Field OPEN of UPD_STAT. -/
def Fld.UPD_STAT_OPEN (d : Nat) : Fld := ⟨Reg.UPD_STAT d, 32, 32⟩
/-- Field JOBS of UPD_STAT. -/
def Fld.UPD_STAT_JOBS (d : Nat) : Fld := ⟨Reg.UPD_STAT d, 16, 3⟩
/-- Field PHASE of UPD_STAT. -/
def Fld.UPD_STAT_PHASE (d : Nat) : Fld := ⟨Reg.UPD_STAT d, 4, 4⟩
/-- Field OPENV of UPD_STAT. -/
def Fld.UPD_STAT_OPENV (d : Nat) : Fld := ⟨Reg.UPD_STAT d, 1, 1⟩
/-- Field ENABLED of UPD_STAT. -/
def Fld.UPD_STAT_ENABLED (d : Nat) : Fld := ⟨Reg.UPD_STAT d, 0, 1⟩
/-- UPD_AC (R311). -/
def Reg.UPD_AC (d : Nat) : Nat := 0x2C0010 + 0x10000 * d
/-- Field LASTSTEP of UPD_AC. -/
def Fld.UPD_AC_LASTSTEP (d : Nat) : Fld := ⟨Reg.UPD_AC d, 32, 32⟩
/-- Field AC of UPD_AC. -/
def Fld.UPD_AC_AC (d : Nat) : Fld := ⟨Reg.UPD_AC d, 0, 32⟩
/-- UPD_BLKCNT (R311). -/
def Reg.UPD_BLKCNT (d : Nat) : Nat := 0x2C0018 + 0x10000 * d
/-- Field COMMITTED of UPD_BLKCNT. -/
def Fld.UPD_BLKCNT_COMMITTED (d : Nat) : Fld := ⟨Reg.UPD_BLKCNT d, 32, 32⟩
/-- Field REPLAYSKIP of UPD_BLKCNT. -/
def Fld.UPD_BLKCNT_REPLAYSKIP (d : Nat) : Fld := ⟨Reg.UPD_BLKCNT d, 0, 32⟩
/-- UPD_CATCH (R311). -/
def Reg.UPD_CATCH (d : Nat) : Nat := 0x2C0020 + 0x10000 * d
/-- Field EXPERTS of UPD_CATCH. -/
def Fld.UPD_CATCH_EXPERTS (d : Nat) : Fld := ⟨Reg.UPD_CATCH d, 32, 32⟩
/-- Field WIDE of UPD_CATCH. -/
def Fld.UPD_CATCH_WIDE (d : Nat) : Fld := ⟨Reg.UPD_CATCH d, 16, 16⟩
/-- Field NEVER of UPD_CATCH. -/
def Fld.UPD_CATCH_NEVER (d : Nat) : Fld := ⟨Reg.UPD_CATCH d, 0, 16⟩
/-- UPD_RESTORE (R311). -/
def Reg.UPD_RESTORE (d : Nat) : Nat := 0x2C0028 + 0x10000 * d
/-- Field RULES of UPD_RESTORE. -/
def Fld.UPD_RESTORE_RULES (d : Nat) : Fld := ⟨Reg.UPD_RESTORE d, 32, 32⟩
/-- UPD_CYC (R311). -/
def Reg.UPD_CYC (d : Nat) : Nat := 0x2C0030 + 0x10000 * d
/-- Field COUNT of UPD_CYC. -/
def Fld.UPD_CYC_COUNT (d : Nat) : Fld := ⟨Reg.UPD_CYC d, 0, 64⟩
/-- UPD_RULESEL (R311). -/
def Reg.UPD_RULESEL (d : Nat) : Nat := 0x2C0040 + 0x10000 * d
/-- Field RULE of UPD_RULESEL. -/
def Fld.UPD_RULESEL_RULE (d : Nat) : Fld := ⟨Reg.UPD_RULESEL d, 0, 10⟩
/-- UPD_RULESTAT (R311). -/
def Reg.UPD_RULESTAT (d : Nat) : Nat := 0x2C0048 + 0x10000 * d
/-- Field STEP of UPD_RULESTAT. -/
def Fld.UPD_RULESTAT_STEP (d : Nat) : Fld := ⟨Reg.UPD_RULESTAT d, 32, 32⟩
/-- Field PHASE of UPD_RULESTAT. -/
def Fld.UPD_RULESTAT_PHASE (d : Nat) : Fld := ⟨Reg.UPD_RULESTAT d, 28, 4⟩
/-- Field BLOCKS of UPD_RULESTAT. -/
def Fld.UPD_RULESTAT_BLOCKS (d : Nat) : Fld := ⟨Reg.UPD_RULESTAT d, 0, 28⟩
/-- UPD_JOB (R311). -/
def Reg.UPD_JOB (d i : Nat) : Nat := 0x2C0100 + 0x10000 * d + 0x10 * i
/-- Field RING of UPD_JOB. -/
def Fld.UPD_JOB_RING (d i : Nat) : Fld := ⟨Reg.UPD_JOB d i, 50, 14⟩
/-- Field STATE of UPD_JOB. -/
def Fld.UPD_JOB_STATE (d i : Nat) : Fld := ⟨Reg.UPD_JOB d i, 46, 4⟩
/-- Field FIRST of UPD_JOB. -/
def Fld.UPD_JOB_FIRST (d i : Nat) : Fld := ⟨Reg.UPD_JOB d i, 36, 10⟩
/-- Field NRULES of UPD_JOB. -/
def Fld.UPD_JOB_NRULES (d i : Nat) : Fld := ⟨Reg.UPD_JOB d i, 25, 11⟩
/-- Field FINAL of UPD_JOB. -/
def Fld.UPD_JOB_FINAL (d i : Nat) : Fld := ⟨Reg.UPD_JOB d i, 24, 1⟩
/-- Field VALID of UPD_JOB. -/
def Fld.UPD_JOB_VALID (d i : Nat) : Fld := ⟨Reg.UPD_JOB d i, 0, 1⟩
/-- UPD_JOB_8 (R311). -/
def Reg.UPD_JOB_8 (d i : Nat) : Nat := 0x2C0108 + 0x10000 * d + 0x10 * i
/-- Field JSEQ of UPD_JOB_8. -/
def Fld.UPD_JOB_8_JSEQ (d i : Nat) : Fld := ⟨Reg.UPD_JOB_8 d i, 0, 64⟩
/-- TIER_CTL (R343). -/
def Reg.TIER_CTL : Nat := 0x100000
/-- TIER_STAT (R343). -/
def Reg.TIER_STAT : Nat := 0x100008
/-- Field TIERCFG of TIER_STAT. -/
def Fld.TIER_STAT_TIERCFG : Fld := ⟨Reg.TIER_STAT, 62, 2⟩
/-- Field CACHE of TIER_STAT. -/
def Fld.TIER_STAT_CACHE : Fld := ⟨Reg.TIER_STAT, 52, 10⟩
/-- Field SLOTS of TIER_STAT. -/
def Fld.TIER_STAT_SLOTS : Fld := ⟨Reg.TIER_STAT, 28, 19⟩
/-- Field FREE of TIER_STAT. -/
def Fld.TIER_STAT_FREE : Fld := ⟨Reg.TIER_STAT, 9, 19⟩
/-- Field OPBUSY of TIER_STAT. -/
def Fld.TIER_STAT_OPBUSY : Fld := ⟨Reg.TIER_STAT, 1, 1⟩
/-- Field ENABLED of TIER_STAT. -/
def Fld.TIER_STAT_ENABLED : Fld := ⟨Reg.TIER_STAT, 0, 1⟩
/-- TIER_DIRCTL (R343). -/
def Reg.TIER_DIRCTL : Nat := 0x100010
/-- Field CLEANAGE of TIER_DIRCTL. -/
def Fld.TIER_DIRCTL_CLEANAGE : Fld := ⟨Reg.TIER_DIRCTL, 48, 16⟩
/-- Field WMLOW of TIER_DIRCTL. -/
def Fld.TIER_DIRCTL_WMLOW : Fld := ⟨Reg.TIER_DIRCTL, 32, 8⟩
/-- Field WMHIGH of TIER_DIRCTL. -/
def Fld.TIER_DIRCTL_WMHIGH : Fld := ⟨Reg.TIER_DIRCTL, 24, 8⟩
/-- Field NOCLEAN of TIER_DIRCTL. -/
def Fld.TIER_DIRCTL_NOCLEAN : Fld := ⟨Reg.TIER_DIRCTL, 0, 1⟩
/-- TIER_DIRCNT0 (R343). -/
def Reg.TIER_DIRCNT0 : Nat := 0x100018
/-- Field CLEAN of TIER_DIRCNT0. -/
def Fld.TIER_DIRCNT0_CLEAN : Fld := ⟨Reg.TIER_DIRCNT0, 45, 19⟩
/-- Field DIRTY of TIER_DIRCNT0. -/
def Fld.TIER_DIRCNT0_DIRTY : Fld := ⟨Reg.TIER_DIRCNT0, 26, 19⟩
/-- Field PROMOTING of TIER_DIRCNT0. -/
def Fld.TIER_DIRCNT0_PROMOTING : Fld := ⟨Reg.TIER_DIRCNT0, 7, 19⟩
/-- TIER_DIRCNT1 (R343). -/
def Reg.TIER_DIRCNT1 : Nat := 0x100020
/-- Field CLEANING of TIER_DIRCNT1. -/
def Fld.TIER_DIRCNT1_CLEANING : Fld := ⟨Reg.TIER_DIRCNT1, 48, 16⟩
/-- Field EVICTING of TIER_DIRCNT1. -/
def Fld.TIER_DIRCNT1_EVICTING : Fld := ⟨Reg.TIER_DIRCNT1, 32, 16⟩
/-- Field RELOCATED of TIER_DIRCNT1. -/
def Fld.TIER_DIRCNT1_RELOCATED : Fld := ⟨Reg.TIER_DIRCNT1, 16, 16⟩
/-- TIER_OPCTL (R343). -/
def Reg.TIER_OPCTL : Nat := 0x100030
/-- Field OP of TIER_OPCTL. -/
def Fld.TIER_OPCTL_OP : Fld := ⟨Reg.TIER_OPCTL, 0, 4⟩
/-- TIER_OPBASE (R343). -/
def Reg.TIER_OPBASE : Nat := 0x100038
/-- Field FRAME of TIER_OPBASE. -/
def Fld.TIER_OPBASE_FRAME : Fld := ⟨Reg.TIER_OPBASE, 38, 26⟩
/-- Field NFRAMES of TIER_OPBASE. -/
def Fld.TIER_OPBASE_NFRAMES : Fld := ⟨Reg.TIER_OPBASE, 12, 26⟩
/-- TIER_FILLSRC (R343). -/
def Reg.TIER_FILLSRC : Nat := 0x100040
/-- Field ADDR of TIER_FILLSRC. -/
def Fld.TIER_FILLSRC_ADDR : Fld := ⟨Reg.TIER_FILLSRC, 12, 52⟩
/-- TIER_OPSTAT (R343). -/
def Reg.TIER_OPSTAT : Nat := 0x100048
/-- Field OBJECTS of TIER_OPSTAT. -/
def Fld.TIER_OPSTAT_OBJECTS : Fld := ⟨Reg.TIER_OPSTAT, 32, 32⟩
/-- Field DEFERRED of TIER_OPSTAT. -/
def Fld.TIER_OPSTAT_DEFERRED : Fld := ⟨Reg.TIER_OPSTAT, 16, 16⟩
/-- Field LAST of TIER_OPSTAT. -/
def Fld.TIER_OPSTAT_LAST : Fld := ⟨Reg.TIER_OPSTAT, 12, 4⟩
/-- Field CODE of TIER_OPSTAT. -/
def Fld.TIER_OPSTAT_CODE : Fld := ⟨Reg.TIER_OPSTAT, 0, 8⟩
/-- TIER_FTMO (R343). -/
def Reg.TIER_FTMO : Nat := 0x100050
/-- Field TMO_US of TIER_FTMO. -/
def Fld.TIER_FTMO_TMO_US : Fld := ⟨Reg.TIER_FTMO, 0, 32⟩
/-- TIER_PROMCNT (R343). -/
def Reg.TIER_PROMCNT : Nat := 0x100058
/-- Field PROMOTIONS of TIER_PROMCNT. -/
def Fld.TIER_PROMCNT_PROMOTIONS : Fld := ⟨Reg.TIER_PROMCNT, 32, 32⟩
/-- Field FAILED of TIER_PROMCNT. -/
def Fld.TIER_PROMCNT_FAILED : Fld := ⟨Reg.TIER_PROMCNT, 16, 16⟩
/-- Field TIMEOUTS of TIER_PROMCNT. -/
def Fld.TIER_PROMCNT_TIMEOUTS : Fld := ⟨Reg.TIER_PROMCNT, 0, 16⟩
/-- TIER_EVCNT (R343). -/
def Reg.TIER_EVCNT : Nat := 0x100060
/-- Field CLEAN of TIER_EVCNT. -/
def Fld.TIER_EVCNT_CLEAN : Fld := ⟨Reg.TIER_EVCNT, 40, 24⟩
/-- Field WRITTEN of TIER_EVCNT. -/
def Fld.TIER_EVCNT_WRITTEN : Fld := ⟨Reg.TIER_EVCNT, 16, 24⟩
/-- Field KEPT of TIER_EVCNT. -/
def Fld.TIER_EVCNT_KEPT : Fld := ⟨Reg.TIER_EVCNT, 0, 16⟩
/-- TIER_XCNT (R343). -/
def Reg.TIER_XCNT : Nat := 0x100068
/-- Field DEFERRED of TIER_XCNT. -/
def Fld.TIER_XCNT_DEFERRED : Fld := ⟨Reg.TIER_XCNT, 48, 16⟩
/-- Field CANCELLED of TIER_XCNT. -/
def Fld.TIER_XCNT_CANCELLED : Fld := ⟨Reg.TIER_XCNT, 32, 16⟩
/-- Field VICTIMREAD of TIER_XCNT. -/
def Fld.TIER_XCNT_VICTIMREAD : Fld := ⟨Reg.TIER_XCNT, 16, 16⟩
/-- Field REDIRTY of TIER_XCNT. -/
def Fld.TIER_XCNT_REDIRTY : Fld := ⟨Reg.TIER_XCNT, 0, 16⟩
/-- TIER_LATE (R343). -/
def Reg.TIER_LATE : Nat := 0x100070
/-- Field COUNT of TIER_LATE. -/
def Fld.TIER_LATE_COUNT : Fld := ⟨Reg.TIER_LATE, 32, 32⟩
/-- Field STACK of TIER_LATE. -/
def Fld.TIER_LATE_STACK : Fld := ⟨Reg.TIER_LATE, 0, 2⟩
/-- TIER_NOSLOT (R343). -/
def Reg.TIER_NOSLOT : Nat := 0x100078
/-- Field COUNT of TIER_NOSLOT. -/
def Fld.TIER_NOSLOT_COUNT : Fld := ⟨Reg.TIER_NOSLOT, 0, 64⟩
/-- TIER_WBBYTES (R343). -/
def Reg.TIER_WBBYTES : Nat := 0x100080
/-- Field COUNT of TIER_WBBYTES. -/
def Fld.TIER_WBBYTES_COUNT : Fld := ⟨Reg.TIER_WBBYTES, 0, 64⟩
/-- TIER_RELOC (R343). -/
def Reg.TIER_RELOC : Nat := 0x100088
/-- Field RETIRED of TIER_RELOC. -/
def Fld.TIER_RELOC_RETIRED : Fld := ⟨Reg.TIER_RELOC, 54, 10⟩
/-- Field RELOCATED of TIER_RELOC. -/
def Fld.TIER_RELOC_RELOCATED : Fld := ⟨Reg.TIER_RELOC, 44, 10⟩
/-- Field LOST of TIER_RELOC. -/
def Fld.TIER_RELOC_LOST : Fld := ⟨Reg.TIER_RELOC, 34, 10⟩
/-- Field AVAIL of TIER_RELOC. -/
def Fld.TIER_RELOC_AVAIL : Fld := ⟨Reg.TIER_RELOC, 15, 19⟩
/-- Field ACTIVE of TIER_RELOC. -/
def Fld.TIER_RELOC_ACTIVE : Fld := ⟨Reg.TIER_RELOC, 0, 1⟩
/-- TIER_PCHSEL (R343). -/
def Reg.TIER_PCHSEL : Nat := 0x100090
/-- Field PCH of TIER_PCHSEL. -/
def Fld.TIER_PCHSEL_PCH : Fld := ⟨Reg.TIER_PCHSEL, 0, 10⟩
/-- TIER_PCHSTAT (R343). -/
def Reg.TIER_PCHSTAT : Nat := 0x100098
/-- Field STATE of TIER_PCHSTAT. -/
def Fld.TIER_PCHSTAT_STATE : Fld := ⟨Reg.TIER_PCHSTAT, 61, 3⟩
/-- Field CHUNKS of TIER_PCHSTAT. -/
def Fld.TIER_PCHSTAT_CHUNKS : Fld := ⟨Reg.TIER_PCHSTAT, 50, 11⟩
/-- TIER_DIRSEL (R343). -/
def Reg.TIER_DIRSEL : Nat := 0x100100
/-- Field SLOT of TIER_DIRSEL. -/
def Fld.TIER_DIRSEL_SLOT : Fld := ⟨Reg.TIER_DIRSEL, 0, 18⟩
/-- TIER_DIRENT (R343). -/
def Reg.TIER_DIRENT : Nat := 0x100108
/-- Field STATE of TIER_DIRENT. -/
def Fld.TIER_DIRENT_STATE : Fld := ⟨Reg.TIER_DIRENT, 61, 3⟩
/-- Field REDIRTY of TIER_DIRENT. -/
def Fld.TIER_DIRENT_REDIRTY : Fld := ⟨Reg.TIER_DIRENT, 60, 1⟩
/-- Field EVREQ of TIER_DIRENT. -/
def Fld.TIER_DIRENT_EVREQ : Fld := ⟨Reg.TIER_DIRENT, 59, 1⟩
/-- Field INVREQ of TIER_DIRENT. -/
def Fld.TIER_DIRENT_INVREQ : Fld := ⟨Reg.TIER_DIRENT, 58, 1⟩
/-- Field PIN of TIER_DIRENT. -/
def Fld.TIER_DIRENT_PIN : Fld := ⟨Reg.TIER_DIRENT, 46, 12⟩
/-- Field FRAME of TIER_DIRENT. -/
def Fld.TIER_DIRENT_FRAME : Fld := ⟨Reg.TIER_DIRENT, 20, 26⟩
/-- Field SIZE of TIER_DIRENT. -/
def Fld.TIER_DIRENT_SIZE : Fld := ⟨Reg.TIER_DIRENT, 14, 6⟩
/-- TIER_DIRENT_8 (R343). -/
def Reg.TIER_DIRENT_8 : Nat := 0x100110
/-- Field DIRTYMASK of TIER_DIRENT_8. -/
def Fld.TIER_DIRENT_8_DIRTYMASK : Fld := ⟨Reg.TIER_DIRENT_8, 32, 32⟩
/-- Field AGE of TIER_DIRENT_8. -/
def Fld.TIER_DIRENT_8_AGE : Fld := ⟨Reg.TIER_DIRENT_8, 0, 32⟩
/-- TIER_DIRENT_10 (R343). -/
def Reg.TIER_DIRENT_10 : Nat := 0x100118
/-- Field PCH of TIER_DIRENT_10. -/
def Fld.TIER_DIRENT_10_PCH : Fld := ⟨Reg.TIER_DIRENT_10, 54, 10⟩
/-- Field CHUNK of TIER_DIRENT_10. -/
def Fld.TIER_DIRENT_10_CHUNK : Fld := ⟨Reg.TIER_DIRENT_10, 43, 11⟩
/-- TIER_HOME (R343). -/
def Reg.TIER_HOME (i : Nat) : Nat := 0x100200 + 0x8 * i
/-- Field STATE of TIER_HOME. -/
def Fld.TIER_HOME_STATE (i : Nat) : Fld := ⟨Reg.TIER_HOME i, 62, 2⟩
/-- Field USED of TIER_HOME. -/
def Fld.TIER_HOME_USED (i : Nat) : Fld := ⟨Reg.TIER_HOME i, 36, 26⟩
/-- Field FREE of TIER_HOME. -/
def Fld.TIER_HOME_FREE (i : Nat) : Fld := ⟨Reg.TIER_HOME i, 10, 26⟩
/-- FLS_STAT (R344). -/
def Reg.FLS_STAT (f : Nat) : Nat := 0x1A0000 + 0x10000 * f
/-- Field MODE of FLS_STAT. -/
def Fld.FLS_STAT_MODE (f : Nat) : Fld := ⟨Reg.FLS_STAT f, 30, 2⟩
/-- Field SPARE of FLS_STAT. -/
def Fld.FLS_STAT_SPARE (f : Nat) : Fld := ⟨Reg.FLS_STAT f, 8, 8⟩
/-- Field WORN of FLS_STAT. -/
def Fld.FLS_STAT_WORN (f : Nat) : Fld := ⟨Reg.FLS_STAT f, 1, 1⟩
/-- Field INSERVICE of FLS_STAT. -/
def Fld.FLS_STAT_INSERVICE (f : Nat) : Fld := ⟨Reg.FLS_STAT f, 0, 1⟩
/-- FLS_WEAR (R344). -/
def Reg.FLS_WEAR (f : Nat) : Nat := 0x1A0008 + 0x10000 * f
/-- Field MAXPE of FLS_WEAR. -/
def Fld.FLS_WEAR_MAXPE (f : Nat) : Fld := ⟨Reg.FLS_WEAR f, 48, 16⟩
/-- Field AVGPE of FLS_WEAR. -/
def Fld.FLS_WEAR_AVGPE (f : Nat) : Fld := ⟨Reg.FLS_WEAR f, 32, 16⟩
/-- Field RATING of FLS_WEAR. -/
def Fld.FLS_WEAR_RATING (f : Nat) : Fld := ⟨Reg.FLS_WEAR f, 16, 16⟩
/-- Field LIFE of FLS_WEAR. -/
def Fld.FLS_WEAR_LIFE (f : Nat) : Fld := ⟨Reg.FLS_WEAR f, 0, 16⟩
/-- FLS_WEARCFG (R344). -/
def Reg.FLS_WEARCFG (f : Nat) : Nat := 0x1A0010 + 0x10000 * f
/-- Field WARN of FLS_WEARCFG. -/
def Fld.FLS_WEARCFG_WARN (f : Nat) : Fld := ⟨Reg.FLS_WEARCFG f, 0, 16⟩
/-- FLS_HOSTBYTES (R344). -/
def Reg.FLS_HOSTBYTES (f : Nat) : Nat := 0x1A0018 + 0x10000 * f
/-- Field COUNT of FLS_HOSTBYTES. -/
def Fld.FLS_HOSTBYTES_COUNT (f : Nat) : Fld := ⟨Reg.FLS_HOSTBYTES f, 0, 64⟩
/-- FLS_PGMBYTES (R344). -/
def Reg.FLS_PGMBYTES (f : Nat) : Nat := 0x1A0020 + 0x10000 * f
/-- Field COUNT of FLS_PGMBYTES. -/
def Fld.FLS_PGMBYTES_COUNT (f : Nat) : Fld := ⟨Reg.FLS_PGMBYTES f, 0, 64⟩
/-- FLS_ERR (R344). -/
def Reg.FLS_ERR (f : Nat) : Nat := 0x1A0028 + 0x10000 * f
/-- Field CORRECTED of FLS_ERR. -/
def Fld.FLS_ERR_CORRECTED (f : Nat) : Fld := ⟨Reg.FLS_ERR f, 32, 32⟩
/-- Field PARITY of FLS_ERR. -/
def Fld.FLS_ERR_PARITY (f : Nat) : Fld := ⟨Reg.FLS_ERR f, 16, 16⟩
/-- Field UNCORRECTABLE of FLS_ERR. -/
def Fld.FLS_ERR_UNCORRECTABLE (f : Nat) : Fld := ⟨Reg.FLS_ERR f, 0, 16⟩
/-- LNK_CTL (R394). -/
def Reg.LNK_CTL (p : Nat) : Nat := 0x200000 + 0x10000 * p
/-- Field LOOP of LNK_CTL. -/
def Fld.LNK_CTL_LOOP (p : Nat) : Fld := ⟨Reg.LNK_CTL p, 6, 2⟩
/-- Field HOLDDOWN of LNK_CTL. -/
def Fld.LNK_CTL_HOLDDOWN (p : Nat) : Fld := ⟨Reg.LNK_CTL p, 5, 1⟩
/-- Field LPALLOW of LNK_CTL. -/
def Fld.LNK_CTL_LPALLOW (p : Nat) : Fld := ⟨Reg.LNK_CTL p, 4, 1⟩
/-- Field RETRAIN of LNK_CTL. -/
def Fld.LNK_CTL_RETRAIN (p : Nat) : Fld := ⟨Reg.LNK_CTL p, 1, 1⟩
/-- Field READMIT of LNK_CTL. -/
def Fld.LNK_CTL_READMIT (p : Nat) : Fld := ⟨Reg.LNK_CTL p, 0, 1⟩
/-- LNK_STAT (R394). -/
def Reg.LNK_STAT (p : Nat) : Nat := 0x200008 + 0x10000 * p
/-- Field STATE of LNK_STAT. -/
def Fld.LNK_STAT_STATE (p : Nat) : Fld := ⟨Reg.LNK_STAT p, 60, 4⟩
/-- Field PHASE of LNK_STAT. -/
def Fld.LNK_STAT_PHASE (p : Nat) : Fld := ⟨Reg.LNK_STAT p, 56, 4⟩
/-- Field WIDTH of LNK_STAT. -/
def Fld.LNK_STAT_WIDTH (p : Nat) : Fld := ⟨Reg.LNK_STAT p, 52, 4⟩
/-- Field USE_MIN of LNK_STAT. -/
def Fld.LNK_STAT_USE_MIN (p : Nat) : Fld := ⟨Reg.LNK_STAT p, 48, 4⟩
/-- Field LANES of LNK_STAT. -/
def Fld.LNK_STAT_LANES (p : Nat) : Fld := ⟨Reg.LNK_STAT p, 40, 8⟩
/-- Field GOOD of LNK_STAT. -/
def Fld.LNK_STAT_GOOD (p : Nat) : Fld := ⟨Reg.LNK_STAT p, 32, 8⟩
/-- Field REASON of LNK_STAT. -/
def Fld.LNK_STAT_REASON (p : Nat) : Fld := ⟨Reg.LNK_STAT p, 28, 4⟩
/-- Field ATTEMPTS of LNK_STAT. -/
def Fld.LNK_STAT_ATTEMPTS (p : Nat) : Fld := ⟨Reg.LNK_STAT p, 20, 8⟩
/-- LNK_TRAINCFG (R394). -/
def Reg.LNK_TRAINCFG (p : Nat) : Nat := 0x200010 + 0x10000 * p
/-- Field LOSTATTEMPTS of LNK_TRAINCFG. -/
def Fld.LNK_TRAINCFG_LOSTATTEMPTS (p : Nat) : Fld := ⟨Reg.LNK_TRAINCFG p, 16, 4⟩
/-- Field GAP_S of LNK_TRAINCFG. -/
def Fld.LNK_TRAINCFG_GAP_S (p : Nat) : Fld := ⟨Reg.LNK_TRAINCFG p, 8, 8⟩
/-- Field ATTEMPTS of LNK_TRAINCFG. -/
def Fld.LNK_TRAINCFG_ATTEMPTS (p : Nat) : Fld := ⟨Reg.LNK_TRAINCFG p, 0, 8⟩
/-- LNK_VERCFG (R394). -/
def Reg.LNK_VERCFG (p : Nat) : Nat := 0x200018 + 0x10000 * p
/-- Field HI_MIN of LNK_VERCFG. -/
def Fld.LNK_VERCFG_HI_MIN (p : Nat) : Fld := ⟨Reg.LNK_VERCFG p, 4, 4⟩
/-- Field LO_MIN of LNK_VERCFG. -/
def Fld.LNK_VERCFG_LO_MIN (p : Nat) : Fld := ⟨Reg.LNK_VERCFG p, 0, 4⟩
/-- LNK_PARTNER (R394). -/
def Reg.LNK_PARTNER (p : Nat) : Nat := 0x200020 + 0x10000 * p
/-- Field SERIAL of LNK_PARTNER. -/
def Fld.LNK_PARTNER_SERIAL (p : Nat) : Fld := ⟨Reg.LNK_PARTNER p, 0, 64⟩
/-- LNK_PARTNER_8 (R394). -/
def Reg.LNK_PARTNER_8 (p : Nat) : Nat := 0x200028 + 0x10000 * p
/-- Field HERD_KEY of LNK_PARTNER_8. -/
def Fld.LNK_PARTNER_8_HERD_KEY (p : Nat) : Fld := ⟨Reg.LNK_PARTNER_8 p, 0, 64⟩
/-- LNK_PARTNER_10 (R394). -/
def Reg.LNK_PARTNER_10 (p : Nat) : Nat := 0x200030 + 0x10000 * p
/-- Field HERD_ADDR of LNK_PARTNER_10. -/
def Fld.LNK_PARTNER_10_HERD_ADDR (p : Nat) : Fld := ⟨Reg.LNK_PARTNER_10 p, 48, 16⟩
/-- Field ZDIM of LNK_PARTNER_10. -/
def Fld.LNK_PARTNER_10_ZDIM (p : Nat) : Fld := ⟨Reg.LNK_PARTNER_10 p, 42, 6⟩
/-- Field YDIM of LNK_PARTNER_10. -/
def Fld.LNK_PARTNER_10_YDIM (p : Nat) : Fld := ⟨Reg.LNK_PARTNER_10 p, 37, 5⟩
/-- Field XDIM of LNK_PARTNER_10. -/
def Fld.LNK_PARTNER_10_XDIM (p : Nat) : Fld := ⟨Reg.LNK_PARTNER_10 p, 32, 5⟩
/-- Field HI_MIN of LNK_PARTNER_10. -/
def Fld.LNK_PARTNER_10_HI_MIN (p : Nat) : Fld := ⟨Reg.LNK_PARTNER_10 p, 28, 4⟩
/-- Field LO_MIN of LNK_PARTNER_10. -/
def Fld.LNK_PARTNER_10_LO_MIN (p : Nat) : Fld := ⟨Reg.LNK_PARTNER_10 p, 24, 4⟩
/-- Field PORT of LNK_PARTNER_10. -/
def Fld.LNK_PARTNER_10_PORT (p : Nat) : Fld := ⟨Reg.LNK_PARTNER_10 p, 21, 3⟩
/-- Field VALID of LNK_PARTNER_10. -/
def Fld.LNK_PARTNER_10_VALID (p : Nat) : Fld := ⟨Reg.LNK_PARTNER_10 p, 0, 1⟩
/-- LNK_SEQ (R394). -/
def Reg.LNK_SEQ (p : Nat) : Nat := 0x200038 + 0x10000 * p
/-- Field TXNEXT of LNK_SEQ. -/
def Fld.LNK_SEQ_TXNEXT (p : Nat) : Fld := ⟨Reg.LNK_SEQ p, 52, 12⟩
/-- Field OLDEST of LNK_SEQ. -/
def Fld.LNK_SEQ_OLDEST (p : Nat) : Fld := ⟨Reg.LNK_SEQ p, 40, 12⟩
/-- Field RXEXP of LNK_SEQ. -/
def Fld.LNK_SEQ_RXEXP (p : Nat) : Fld := ⟨Reg.LNK_SEQ p, 28, 12⟩
/-- Field UNACKED of LNK_SEQ. -/
def Fld.LNK_SEQ_UNACKED (p : Nat) : Fld := ⟨Reg.LNK_SEQ p, 16, 12⟩
/-- LNK_SESSION (R394). -/
def Reg.LNK_SESSION (p : Nat) : Nat := 0x200040 + 0x10000 * p
/-- Field SESSION of LNK_SESSION. -/
def Fld.LNK_SESSION_SESSION (p : Nat) : Fld := ⟨Reg.LNK_SESSION p, 0, 32⟩
/-- LNK_REPLAYCFG (R394). -/
def Reg.LNK_REPLAYCFG (p : Nat) : Nat := 0x200048 + 0x10000 * p
/-- Field BUDGET of LNK_REPLAYCFG. -/
def Fld.LNK_REPLAYCFG_BUDGET (p : Nat) : Fld := ⟨Reg.LNK_REPLAYCFG p, 16, 8⟩
/-- Field TMO_NS of LNK_REPLAYCFG. -/
def Fld.LNK_REPLAYCFG_TMO_NS (p : Nat) : Fld := ⟨Reg.LNK_REPLAYCFG p, 0, 16⟩
/-- LNK_REPLAYCNT (R394). -/
def Reg.LNK_REPLAYCNT (p : Nat) : Nat := 0x200050 + 0x10000 * p
/-- Field NAKS of LNK_REPLAYCNT. -/
def Fld.LNK_REPLAYCNT_NAKS (p : Nat) : Fld := ⟨Reg.LNK_REPLAYCNT p, 48, 16⟩
/-- Field REPLAYS of LNK_REPLAYCNT. -/
def Fld.LNK_REPLAYCNT_REPLAYS (p : Nat) : Fld := ⟨Reg.LNK_REPLAYCNT p, 32, 16⟩
/-- Field TIMEOUTS of LNK_REPLAYCNT. -/
def Fld.LNK_REPLAYCNT_TIMEOUTS (p : Nat) : Fld := ⟨Reg.LNK_REPLAYCNT p, 16, 16⟩
/-- Field RETRAINS of LNK_REPLAYCNT. -/
def Fld.LNK_REPLAYCNT_RETRAINS (p : Nat) : Fld := ⟨Reg.LNK_REPLAYCNT p, 0, 16⟩
/-- LNK_FLITERR (R394). -/
def Reg.LNK_FLITERR (p : Nat) : Nat := 0x200058 + 0x10000 * p
/-- Field CRC of LNK_FLITERR. -/
def Fld.LNK_FLITERR_CRC (p : Nat) : Fld := ⟨Reg.LNK_FLITERR p, 48, 16⟩
/-- Field AHEAD of LNK_FLITERR. -/
def Fld.LNK_FLITERR_AHEAD (p : Nat) : Fld := ⟨Reg.LNK_FLITERR p, 32, 16⟩
/-- Field DUP of LNK_FLITERR. -/
def Fld.LNK_FLITERR_DUP (p : Nat) : Fld := ⟨Reg.LNK_FLITERR p, 16, 16⟩
/-- Field STALE of LNK_FLITERR. -/
def Fld.LNK_FLITERR_STALE (p : Nat) : Fld := ⟨Reg.LNK_FLITERR p, 8, 8⟩
/-- Field BADMSG of LNK_FLITERR. -/
def Fld.LNK_FLITERR_BADMSG (p : Nat) : Fld := ⟨Reg.LNK_FLITERR p, 0, 8⟩
/-- LNK_FECCNT (R394). -/
def Reg.LNK_FECCNT (p : Nat) : Nat := 0x200060 + 0x10000 * p
/-- Field CORRECTED of LNK_FECCNT. -/
def Fld.LNK_FECCNT_CORRECTED (p : Nat) : Fld := ⟨Reg.LNK_FECCNT p, 24, 40⟩
/-- Field UNCORRECTABLE of LNK_FECCNT. -/
def Fld.LNK_FECCNT_UNCORRECTABLE (p : Nat) : Fld := ⟨Reg.LNK_FECCNT p, 0, 24⟩
/-- LNK_LANECFG (R394). -/
def Reg.LNK_LANECFG (p : Nat) : Nat := 0x200068 + 0x10000 * p
/-- Field STRIKES of LNK_LANECFG. -/
def Fld.LNK_LANECFG_STRIKES (p : Nat) : Fld := ⟨Reg.LNK_LANECFG p, 24, 8⟩
/-- Field WINDOW of LNK_LANECFG. -/
def Fld.LNK_LANECFG_WINDOW (p : Nat) : Fld := ⟨Reg.LNK_LANECFG p, 16, 8⟩
/-- Field THRESH of LNK_LANECFG. -/
def Fld.LNK_LANECFG_THRESH (p : Nat) : Fld := ⟨Reg.LNK_LANECFG p, 0, 16⟩
/-- LNK_RTT (R394). -/
def Reg.LNK_RTT (p : Nat) : Nat := 0x200070 + 0x10000 * p
/-- Field RTT_PS of LNK_RTT. -/
def Fld.LNK_RTT_RTT_PS (p : Nat) : Fld := ⟨Reg.LNK_RTT p, 0, 32⟩
/-- LNK_LPCNT (R394). -/
def Reg.LNK_LPCNT (p : Nat) : Nat := 0x200078 + 0x10000 * p
/-- Field ENTRIES of LNK_LPCNT. -/
def Fld.LNK_LPCNT_ENTRIES (p : Nat) : Fld := ⟨Reg.LNK_LPCNT p, 32, 32⟩
/-- Field WAKES of LNK_LPCNT. -/
def Fld.LNK_LPCNT_WAKES (p : Nat) : Fld := ⟨Reg.LNK_LPCNT p, 0, 32⟩
/-- LNK_LANE (R394). -/
def Reg.LNK_LANE (p i : Nat) : Nat := 0x200080 + 0x10000 * p + 0x8 * i
/-- Field SYMBOLS of LNK_LANE. -/
def Fld.LNK_LANE_SYMBOLS (p i : Nat) : Fld := ⟨Reg.LNK_LANE p i, 24, 40⟩
/-- Field STRIKES of LNK_LANE. -/
def Fld.LNK_LANE_STRIKES (p i : Nat) : Fld := ⟨Reg.LNK_LANE p i, 8, 8⟩
/-- Field STATE of LNK_LANE. -/
def Fld.LNK_LANE_STATE (p i : Nat) : Fld := ⟨Reg.LNK_LANE p i, 0, 2⟩
/-- LNK_CREDIT (R394). -/
def Reg.LNK_CREDIT (p : Nat) : Nat := 0x2000C0 + 0x10000 * p
/-- Field VC3 of LNK_CREDIT. -/
def Fld.LNK_CREDIT_VC3 (p : Nat) : Fld := ⟨Reg.LNK_CREDIT p, 48, 16⟩
/-- Field VC2 of LNK_CREDIT. -/
def Fld.LNK_CREDIT_VC2 (p : Nat) : Fld := ⟨Reg.LNK_CREDIT p, 32, 16⟩
/-- Field VC1 of LNK_CREDIT. -/
def Fld.LNK_CREDIT_VC1 (p : Nat) : Fld := ⟨Reg.LNK_CREDIT p, 16, 16⟩
/-- Field VC0 of LNK_CREDIT. -/
def Fld.LNK_CREDIT_VC0 (p : Nat) : Fld := ⟨Reg.LNK_CREDIT p, 0, 16⟩
/-- LNK_VCFLITS (R394). -/
def Reg.LNK_VCFLITS (p i : Nat) : Nat := 0x2000C8 + 0x10000 * p + 0x8 * i
/-- Field COUNT of LNK_VCFLITS. -/
def Fld.LNK_VCFLITS_COUNT (p i : Nat) : Fld := ⟨Reg.LNK_VCFLITS p i, 0, 64⟩
/-- WIN_TGT (R421). -/
def Reg.WIN_TGT (i : Nat) : Nat := 0xA0000 + 0x20 * i
/-- Field TARGET of WIN_TGT. -/
def Fld.WIN_TGT_TARGET (i : Nat) : Fld := ⟨Reg.WIN_TGT i, 16, 48⟩
/-- Field TYPE of WIN_TGT. -/
def Fld.WIN_TGT_TYPE (i : Nat) : Fld := ⟨Reg.WIN_TGT i, 12, 4⟩
/-- WIN_CFG (R421). -/
def Reg.WIN_CFG (i : Nat) : Nat := 0xA0008 + 0x20 * i
/-- Field LEN4K of WIN_CFG. -/
def Fld.WIN_CFG_LEN4K (i : Nat) : Fld := ⟨Reg.WIN_CFG i, 42, 22⟩
/-- Field PERMR of WIN_CFG. -/
def Fld.WIN_CFG_PERMR (i : Nat) : Fld := ⟨Reg.WIN_CFG i, 41, 1⟩
/-- Field PERMW of WIN_CFG. -/
def Fld.WIN_CFG_PERMW (i : Nat) : Fld := ⟨Reg.WIN_CFG i, 40, 1⟩
/-- Field SRCANY of WIN_CFG. -/
def Fld.WIN_CFG_SRCANY (i : Nat) : Fld := ⟨Reg.WIN_CFG i, 39, 1⟩
/-- Field SRC of WIN_CFG. -/
def Fld.WIN_CFG_SRC (i : Nat) : Fld := ⟨Reg.WIN_CFG i, 23, 16⟩
/-- Field NTILE of WIN_CFG. -/
def Fld.WIN_CFG_NTILE (i : Nat) : Fld := ⟨Reg.WIN_CFG i, 17, 6⟩
/-- Field NMARK of WIN_CFG. -/
def Fld.WIN_CFG_NMARK (i : Nat) : Fld := ⟨Reg.WIN_CFG i, 11, 6⟩
/-- Field NINC of WIN_CFG. -/
def Fld.WIN_CFG_NINC (i : Nat) : Fld := ⟨Reg.WIN_CFG i, 1, 10⟩
/-- WIN_CTL (R421). -/
def Reg.WIN_CTL (i : Nat) : Nat := 0xA0010 + 0x20 * i
/-- Field INFLIGHT of WIN_CTL. -/
def Fld.WIN_CTL_INFLIGHT (i : Nat) : Fld := ⟨Reg.WIN_CTL i, 16, 16⟩
/-- Field STATE of WIN_CTL. -/
def Fld.WIN_CTL_STATE (i : Nat) : Fld := ⟨Reg.WIN_CTL i, 4, 2⟩
/-- Field OPEN of WIN_CTL. -/
def Fld.WIN_CTL_OPEN (i : Nat) : Fld := ⟨Reg.WIN_CTL i, 1, 1⟩
/-- Field CLOSE of WIN_CTL. -/
def Fld.WIN_CTL_CLOSE (i : Nat) : Fld := ⟨Reg.WIN_CTL i, 0, 1⟩
/-- WIN_CNT (R421). -/
def Reg.WIN_CNT (i : Nat) : Nat := 0xA0018 + 0x20 * i
/-- Field MSGS of WIN_CNT. -/
def Fld.WIN_CNT_MSGS (i : Nat) : Fld := ⟨Reg.WIN_CNT i, 32, 32⟩
/-- Field REFUSED of WIN_CNT. -/
def Fld.WIN_CNT_REFUSED (i : Nat) : Fld := ⟨Reg.WIN_CNT i, 0, 32⟩
/-- WIN_STAT (R421). -/
def Reg.WIN_STAT : Nat := 0xA2000
/-- Field OPEN of WIN_STAT. -/
def Fld.WIN_STAT_OPEN : Fld := ⟨Reg.WIN_STAT, 55, 9⟩
/-- Field ERRSLOT of WIN_STAT. -/
def Fld.WIN_STAT_ERRSLOT : Fld := ⟨Reg.WIN_STAT, 16, 8⟩
/-- Field ERR of WIN_STAT. -/
def Fld.WIN_STAT_ERR : Fld := ⟨Reg.WIN_STAT, 0, 1⟩
/-- WIN_REFUSE (R421). -/
def Reg.WIN_REFUSE : Nat := 0xA2008
/-- Field COUNT of WIN_REFUSE. -/
def Fld.WIN_REFUSE_COUNT : Fld := ⟨Reg.WIN_REFUSE, 40, 24⟩
/-- Field REASON of WIN_REFUSE. -/
def Fld.WIN_REFUSE_REASON : Fld := ⟨Reg.WIN_REFUSE, 36, 4⟩
/-- Field SLOT of WIN_REFUSE. -/
def Fld.WIN_REFUSE_SLOT : Fld := ⟨Reg.WIN_REFUSE, 28, 8⟩
/-- Field SRC of WIN_REFUSE. -/
def Fld.WIN_REFUSE_SRC : Fld := ⟨Reg.WIN_REFUSE, 12, 16⟩
/-- WHL_CTL (R446, R447). -/
def Reg.WHL_CTL : Nat := 0x60000
/-- Field NOMARK of WHL_CTL. -/
def Fld.WHL_CTL_NOMARK : Fld := ⟨Reg.WHL_CTL, 1, 1⟩
/-- Field CLRCOUNT of WHL_CTL. -/
def Fld.WHL_CTL_CLRCOUNT : Fld := ⟨Reg.WHL_CTL, 0, 1⟩
/-- WHL_STAT (R446, R447). -/
def Reg.WHL_STAT : Nat := 0x60008
/-- Field COUNTSRC of WHL_STAT. -/
def Fld.WHL_STAT_COUNTSRC : Fld := ⟨Reg.WHL_STAT, 6, 2⟩
/-- Field DISCIPLINED of WHL_STAT. -/
def Fld.WHL_STAT_DISCIPLINED : Fld := ⟨Reg.WHL_STAT, 5, 1⟩
/-- Field OSC of WHL_STAT. -/
def Fld.WHL_STAT_OSC : Fld := ⟨Reg.WHL_STAT, 4, 1⟩
/-- Field SLEWING of WHL_STAT. -/
def Fld.WHL_STAT_SLEWING : Fld := ⟨Reg.WHL_STAT, 3, 1⟩
/-- Field PAUSED of WHL_STAT. -/
def Fld.WHL_STAT_PAUSED : Fld := ⟨Reg.WHL_STAT, 2, 1⟩
/-- Field STATE of WHL_STAT. -/
def Fld.WHL_STAT_STATE : Fld := ⟨Reg.WHL_STAT, 0, 2⟩
/-- WHL_NOW (R446, R447). -/
def Reg.WHL_NOW : Nat := 0x60010
/-- Field REV of WHL_NOW. -/
def Fld.WHL_NOW_REV : Fld := ⟨Reg.WHL_NOW, 16, 48⟩
/-- Field SPOKE of WHL_NOW. -/
def Fld.WHL_NOW_SPOKE : Fld := ⟨Reg.WHL_NOW, 4, 12⟩
/-- Field CYCLE of WHL_NOW. -/
def Fld.WHL_NOW_CYCLE : Fld := ⟨Reg.WHL_NOW, 0, 4⟩
/-- WHL_REVSET (R446, R447). -/
def Reg.WHL_REVSET : Nat := 0x60018
/-- Field COUNT of WHL_REVSET. -/
def Fld.WHL_REVSET_COUNT : Fld := ⟨Reg.WHL_REVSET, 16, 48⟩
/-- WHL_HOLDCFG (R446, R447). -/
def Reg.WHL_HOLDCFG : Nat := 0x60020
/-- Field REFREVS of WHL_HOLDCFG. -/
def Fld.WHL_HOLDCFG_REFREVS : Fld := ⟨Reg.WHL_HOLDCFG, 16, 16⟩
/-- Field LIMIT of WHL_HOLDCFG. -/
def Fld.WHL_HOLDCFG_LIMIT : Fld := ⟨Reg.WHL_HOLDCFG, 0, 16⟩
/-- WHL_HOLDSTAT (R446, R447). -/
def Reg.WHL_HOLDSTAT : Nat := 0x60028
/-- Field ENTRYREV of WHL_HOLDSTAT. -/
def Fld.WHL_HOLDSTAT_ENTRYREV : Fld := ⟨Reg.WHL_HOLDSTAT, 32, 32⟩
/-- Field REASON of WHL_HOLDSTAT. -/
def Fld.WHL_HOLDSTAT_REASON : Fld := ⟨Reg.WHL_HOLDSTAT, 28, 4⟩
/-- Field ERR of WHL_HOLDSTAT. -/
def Fld.WHL_HOLDSTAT_ERR : Fld := ⟨Reg.WHL_HOLDSTAT, 0, 16⟩
/-- WHL_MARKCNT (R446, R447). -/
def Reg.WHL_MARKCNT : Nat := 0x60030
/-- Field ACCEPTED of WHL_MARKCNT. -/
def Fld.WHL_MARKCNT_ACCEPTED : Fld := ⟨Reg.WHL_MARKCNT, 48, 16⟩
/-- Field OUTSIDE of WHL_MARKCNT. -/
def Fld.WHL_MARKCNT_OUTSIDE : Fld := ⟨Reg.WHL_MARKCNT, 32, 16⟩
/-- Field MISSING of WHL_MARKCNT. -/
def Fld.WHL_MARKCNT_MISSING : Fld := ⟨Reg.WHL_MARKCNT, 16, 16⟩
/-- Field GLITCH of WHL_MARKCNT. -/
def Fld.WHL_MARKCNT_GLITCH : Fld := ⟨Reg.WHL_MARKCNT, 0, 16⟩
/-- WHL_MARKLAST (R446, R447). -/
def Reg.WHL_MARKLAST : Nat := 0x60038
/-- Field REV of WHL_MARKLAST. -/
def Fld.WHL_MARKLAST_REV : Fld := ⟨Reg.WHL_MARKLAST, 32, 32⟩
/-- Field OFFSET of WHL_MARKLAST. -/
def Fld.WHL_MARKLAST_OFFSET : Fld := ⟨Reg.WHL_MARKLAST, 0, 16⟩
/-- WHL_FAULT (R446, R447). -/
def Reg.WHL_FAULT : Nat := 0x60040
/-- Field STUCK of WHL_FAULT. -/
def Fld.WHL_FAULT_STUCK : Fld := ⟨Reg.WHL_FAULT, 48, 16⟩
/-- Field FAST of WHL_FAULT. -/
def Fld.WHL_FAULT_FAST : Fld := ⟨Reg.WHL_FAULT, 32, 16⟩
/-- Field LAST of WHL_FAULT. -/
def Fld.WHL_FAULT_LAST : Fld := ⟨Reg.WHL_FAULT, 0, 2⟩
/-- WHL_CALCNT (R446, R447). -/
def Reg.WHL_CALCNT : Nat := 0x60048
/-- Field FIRED of WHL_CALCNT. -/
def Fld.WHL_CALCNT_FIRED : Fld := ⟨Reg.WHL_CALCNT, 32, 32⟩
/-- Field SKIPPED of WHL_CALCNT. -/
def Fld.WHL_CALCNT_SKIPPED : Fld := ⟨Reg.WHL_CALCNT, 16, 16⟩
/-- Field SUPPRESSED of WHL_CALCNT. -/
def Fld.WHL_CALCNT_SUPPRESSED : Fld := ⟨Reg.WHL_CALCNT, 0, 16⟩
/-- WHL_GRANT (R446, R447). -/
def Reg.WHL_GRANT : Nat := 0x60050
/-- Field HELD of WHL_GRANT. -/
def Fld.WHL_GRANT_HELD : Fld := ⟨Reg.WHL_GRANT, 8, 6⟩
/-- Field OPEN of WHL_GRANT. -/
def Fld.WHL_GRANT_OPEN : Fld := ⟨Reg.WHL_GRANT, 0, 6⟩
/-- WHL_POSCNT (R446, R447). -/
def Reg.WHL_POSCNT : Nat := 0x60058
/-- Field RECEIVED of WHL_POSCNT. -/
def Fld.WHL_POSCNT_RECEIVED : Fld := ⟨Reg.WHL_POSCNT, 32, 32⟩
/-- Field ADOPTED of WHL_POSCNT. -/
def Fld.WHL_POSCNT_ADOPTED : Fld := ⟨Reg.WHL_POSCNT, 16, 16⟩
/-- Field DISAGREE of WHL_POSCNT. -/
def Fld.WHL_POSCNT_DISAGREE : Fld := ⟨Reg.WHL_POSCNT, 0, 16⟩
/-- WHL_NBR (R446, R447). -/
def Reg.WHL_NBR (i : Nat) : Nat := 0x60100 + 0x8 * i
/-- Field STATE of WHL_NBR. -/
def Fld.WHL_NBR_STATE (i : Nat) : Fld := ⟨Reg.WHL_NBR i, 62, 2⟩
/-- Field COUNTSRC of WHL_NBR. -/
def Fld.WHL_NBR_COUNTSRC (i : Nat) : Fld := ⟨Reg.WHL_NBR i, 60, 2⟩
/-- Field VALID of WHL_NBR. -/
def Fld.WHL_NBR_VALID (i : Nat) : Fld := ⟨Reg.WHL_NBR i, 59, 1⟩
/-- Field ERR of WHL_NBR. -/
def Fld.WHL_NBR_ERR (i : Nat) : Fld := ⟨Reg.WHL_NBR i, 32, 16⟩
/-- Field SKEW of WHL_NBR. -/
def Fld.WHL_NBR_SKEW (i : Nat) : Fld := ⟨Reg.WHL_NBR i, 0, 16⟩
/-- HIF_CTL (R482). -/
def Reg.HIF_CTL : Nat := 0xD0000
/-- Field FETCHRETRY of HIF_CTL. -/
def Fld.HIF_CTL_FETCHRETRY : Fld := ⟨Reg.HIF_CTL, 4, 4⟩
/-- Field HOLD of HIF_CTL. -/
def Fld.HIF_CTL_HOLD : Fld := ⟨Reg.HIF_CTL, 0, 1⟩
/-- HIF_STAT (R482). -/
def Reg.HIF_STAT : Nat := 0xD0008
/-- Field SPEED of HIF_STAT. -/
def Fld.HIF_STAT_SPEED : Fld := ⟨Reg.HIF_STAT, 16, 4⟩
/-- Field WIDTH of HIF_STAT. -/
def Fld.HIF_STAT_WIDTH : Fld := ⟨Reg.HIF_STAT, 12, 4⟩
/-- Field FLIT of HIF_STAT. -/
def Fld.HIF_STAT_FLIT : Fld := ⟨Reg.HIF_STAT, 11, 1⟩
/-- Field BME of HIF_STAT. -/
def Fld.HIF_STAT_BME : Fld := ⟨Reg.HIF_STAT, 10, 1⟩
/-- Field D3 of HIF_STAT. -/
def Fld.HIF_STAT_D3 : Fld := ⟨Reg.HIF_STAT, 9, 1⟩
/-- Field LINKUP of HIF_STAT. -/
def Fld.HIF_STAT_LINKUP : Fld := ⟨Reg.HIF_STAT, 0, 1⟩
/-- HIF_RDTMO (R482). -/
def Reg.HIF_RDTMO : Nat := 0xD0010
/-- Field TMO_US of HIF_RDTMO. -/
def Fld.HIF_RDTMO_TMO_US : Fld := ⟨Reg.HIF_RDTMO, 0, 32⟩
/-- HIF_LATE (R482). -/
def Reg.HIF_LATE : Nat := 0xD0018
/-- Field COUNT of HIF_LATE. -/
def Fld.HIF_LATE_COUNT : Fld := ⟨Reg.HIF_LATE, 32, 32⟩
/-- Field QUAR of HIF_LATE. -/
def Fld.HIF_LATE_QUAR : Fld := ⟨Reg.HIF_LATE, 0, 14⟩
/-- HIF_TAGS (R482). -/
def Reg.HIF_TAGS : Nat := 0xD0020
/-- Field LIMIT of HIF_TAGS. -/
def Fld.HIF_TAGS_LIMIT : Fld := ⟨Reg.HIF_TAGS, 16, 13⟩
/-- Field INUSE of HIF_TAGS. -/
def Fld.HIF_TAGS_INUSE : Fld := ⟨Reg.HIF_TAGS, 0, 13⟩
/-- HIF_DBERR (R482). -/
def Reg.HIF_DBERR : Nat := 0xD0028
/-- Field COUNT of HIF_DBERR. -/
def Fld.HIF_DBERR_COUNT : Fld := ⟨Reg.HIF_DBERR, 32, 32⟩
/-- Field KIND of HIF_DBERR. -/
def Fld.HIF_DBERR_KIND : Fld := ⟨Reg.HIF_DBERR, 30, 2⟩
/-- Field RING of HIF_DBERR. -/
def Fld.HIF_DBERR_RING : Fld := ⟨Reg.HIF_DBERR, 0, 14⟩
/-- HIF_CANCEL (R482). -/
def Reg.HIF_CANCEL : Nat := 0xD0030
/-- Field JSEQ of HIF_CANCEL. -/
def Fld.HIF_CANCEL_JSEQ : Fld := ⟨Reg.HIF_CANCEL, 0, 64⟩
/-- HIF_EVTCFG (R482). -/
def Reg.HIF_EVTCFG : Nat := 0xD0038
/-- Field VALID of HIF_EVTCFG. -/
def Fld.HIF_EVTCFG_VALID : Fld := ⟨Reg.HIF_EVTCFG, 31, 1⟩
/-- Field RING of HIF_EVTCFG. -/
def Fld.HIF_EVTCFG_RING : Fld := ⟨Reg.HIF_EVTCFG, 17, 14⟩
/-- HIF_EVTLOST (R482). -/
def Reg.HIF_EVTLOST : Nat := 0xD0040
/-- Field COUNT of HIF_EVTLOST. -/
def Fld.HIF_EVTLOST_COUNT : Fld := ⟨Reg.HIF_EVTLOST, 32, 32⟩
/-- Field CODE of HIF_EVTLOST. -/
def Fld.HIF_EVTLOST_CODE : Fld := ⟨Reg.HIF_EVTLOST, 0, 8⟩
/-- HIF_MBCTL (R482). -/
def Reg.HIF_MBCTL : Nat := 0xD0048
/-- Field VECTOR of HIF_MBCTL. -/
def Fld.HIF_MBCTL_VECTOR : Fld := ⟨Reg.HIF_MBCTL, 21, 11⟩
/-- Field LEN of HIF_MBCTL. -/
def Fld.HIF_MBCTL_LEN : Fld := ⟨Reg.HIF_MBCTL, 12, 9⟩
/-- Field M2HACK of HIF_MBCTL. -/
def Fld.HIF_MBCTL_M2HACK : Fld := ⟨Reg.HIF_MBCTL, 3, 1⟩
/-- Field M2HFULL of HIF_MBCTL. -/
def Fld.HIF_MBCTL_M2HFULL : Fld := ⟨Reg.HIF_MBCTL, 2, 1⟩
/-- Field H2MFULL of HIF_MBCTL. -/
def Fld.HIF_MBCTL_H2MFULL : Fld := ⟨Reg.HIF_MBCTL, 1, 1⟩
/-- Field H2MSEND of HIF_MBCTL. -/
def Fld.HIF_MBCTL_H2MSEND : Fld := ⟨Reg.HIF_MBCTL, 0, 1⟩
/-- HIF_MBSTAT (R482). -/
def Reg.HIF_MBSTAT : Nat := 0xD0050
/-- Field M2HLEN of HIF_MBSTAT. -/
def Fld.HIF_MBSTAT_M2HLEN : Fld := ⟨Reg.HIF_MBSTAT, 0, 9⟩
/-- HIF_MBH2M (R482). -/
def Reg.HIF_MBH2M (i : Nat) : Nat := 0xD1000 + 0x4 * i
/-- Field DATA of HIF_MBH2M. -/
def Fld.HIF_MBH2M_DATA (i : Nat) : Fld := ⟨Reg.HIF_MBH2M i, 0, 32⟩
/-- HIF_MBM2H (R482). -/
def Reg.HIF_MBM2H (i : Nat) : Nat := 0xD1100 + 0x4 * i
/-- Field DATA of HIF_MBM2H. -/
def Fld.HIF_MBM2H_DATA (i : Nat) : Fld := ⟨Reg.HIF_MBM2H i, 0, 32⟩
/-- RING_BASE (R483). -/
def Reg.RING_BASE (r : Nat) : Nat := 0x400000 + 0x40 * r
/-- Field ADDR of RING_BASE. -/
def Fld.RING_BASE_ADDR (r : Nat) : Fld := ⟨Reg.RING_BASE r, 12, 52⟩
/-- RING_CFG (R483). -/
def Reg.RING_CFG (r : Nat) : Nat := 0x400008 + 0x40 * r
/-- Field ROLE of RING_CFG. -/
def Fld.RING_CFG_ROLE (r : Nat) : Fld := ⟨Reg.RING_CFG r, 60, 4⟩
/-- Field PAIR of RING_CFG. -/
def Fld.RING_CFG_PAIR (r : Nat) : Fld := ⟨Reg.RING_CFG r, 46, 14⟩
/-- Field VECTOR of RING_CFG. -/
def Fld.RING_CFG_VECTOR (r : Nat) : Fld := ⟨Reg.RING_CFG r, 35, 11⟩
/-- Field BIND of RING_CFG. -/
def Fld.RING_CFG_BIND (r : Nat) : Fld := ⟨Reg.RING_CFG r, 28, 7⟩
/-- Field LOG2SIZE of RING_CFG. -/
def Fld.RING_CFG_LOG2SIZE (r : Nat) : Fld := ⟨Reg.RING_CFG r, 0, 5⟩
/-- RING_CTL (R483). -/
def Reg.RING_CTL (r : Nat) : Nat := 0x400010 + 0x40 * r
/-- Field CANCEL of RING_CTL. -/
def Fld.RING_CTL_CANCEL (r : Nat) : Fld := ⟨Reg.RING_CTL r, 2, 1⟩
/-- Field CLRERR of RING_CTL. -/
def Fld.RING_CTL_CLRERR (r : Nat) : Fld := ⟨Reg.RING_CTL r, 1, 1⟩
/-- Field ENABLE of RING_CTL. -/
def Fld.RING_CTL_ENABLE (r : Nat) : Fld := ⟨Reg.RING_CTL r, 0, 1⟩
/-- RING_PROD (R483). -/
def Reg.RING_PROD (r : Nat) : Nat := 0x400018 + 0x40 * r
/-- Field PROD of RING_PROD. -/
def Fld.RING_PROD_PROD (r : Nat) : Fld := ⟨Reg.RING_PROD r, 0, 32⟩
/-- RING_IDX (R483). -/
def Reg.RING_IDX (r : Nat) : Nat := 0x400020 + 0x40 * r
/-- Field DONE of RING_IDX. -/
def Fld.RING_IDX_DONE (r : Nat) : Fld := ⟨Reg.RING_IDX r, 32, 32⟩
/-- Field IDX of RING_IDX. -/
def Fld.RING_IDX_IDX (r : Nat) : Fld := ⟨Reg.RING_IDX r, 0, 32⟩
/-- RING_STAT (R483). -/
def Reg.RING_STAT (r : Nat) : Nat := 0x400028 + 0x40 * r
/-- Field UNCOMP of RING_STAT. -/
def Fld.RING_STAT_UNCOMP (r : Nat) : Fld := ⟨Reg.RING_STAT r, 47, 17⟩
/-- Field STATE of RING_STAT. -/
def Fld.RING_STAT_STATE (r : Nat) : Fld := ⟨Reg.RING_STAT r, 44, 3⟩
/-- Field BLOCK of RING_STAT. -/
def Fld.RING_STAT_BLOCK (r : Nat) : Fld := ⟨Reg.RING_STAT r, 40, 4⟩
/-- Field ERR of RING_STAT. -/
def Fld.RING_STAT_ERR (r : Nat) : Fld := ⟨Reg.RING_STAT r, 36, 4⟩
/-- Field DBERR of RING_STAT. -/
def Fld.RING_STAT_DBERR (r : Nat) : Fld := ⟨Reg.RING_STAT r, 0, 32⟩
/-- RING_MOD (R483). -/
def Reg.RING_MOD (r : Nat) : Nat := 0x400030 + 0x40 * r
/-- Field HOLDOFF_US of RING_MOD. -/
def Fld.RING_MOD_HOLDOFF_US (r : Nat) : Fld := ⟨Reg.RING_MOD r, 16, 16⟩
/-- Field COUNT of RING_MOD. -/
def Fld.RING_MOD_COUNT (r : Nat) : Fld := ⟨Reg.RING_MOD r, 0, 16⟩
/-- RING_JSEQ (R483). -/
def Reg.RING_JSEQ (r : Nat) : Nat := 0x400038 + 0x40 * r
/-- Field OLDEST of RING_JSEQ. -/
def Fld.RING_JSEQ_OLDEST (r : Nat) : Fld := ⟨Reg.RING_JSEQ r, 0, 64⟩
/-- GLB_EVTSUM (R484). -/
def Reg.GLB_EVTSUM : Nat := 0x10100
/-- Field EVENT_LOST of GLB_EVTSUM. -/
def Fld.GLB_EVTSUM_EVENT_LOST : Fld := ⟨Reg.GLB_EVTSUM, 13, 1⟩
/-- Field MAILBOX of GLB_EVTSUM. -/
def Fld.GLB_EVTSUM_MAILBOX : Fld := ⟨Reg.GLB_EVTSUM, 12, 1⟩
/-- Field POWER of GLB_EVTSUM. -/
def Fld.GLB_EVTSUM_POWER : Fld := ⟨Reg.GLB_EVTSUM, 11, 1⟩
/-- Field RING of GLB_EVTSUM. -/
def Fld.GLB_EVTSUM_RING : Fld := ⟨Reg.GLB_EVTSUM, 10, 1⟩
/-- Field WEAR of GLB_EVTSUM. -/
def Fld.GLB_EVTSUM_WEAR : Fld := ⟨Reg.GLB_EVTSUM, 9, 1⟩
/-- Field RECOVERY of GLB_EVTSUM. -/
def Fld.GLB_EVTSUM_RECOVERY : Fld := ⟨Reg.GLB_EVTSUM, 8, 1⟩
/-- Field STREAM of GLB_EVTSUM. -/
def Fld.GLB_EVTSUM_STREAM : Fld := ⟨Reg.GLB_EVTSUM, 7, 1⟩
/-- Field READMIT of GLB_EVTSUM. -/
def Fld.GLB_EVTSUM_READMIT : Fld := ⟨Reg.GLB_EVTSUM, 6, 1⟩
/-- Field RETIRE of GLB_EVTSUM. -/
def Fld.GLB_EVTSUM_RETIRE : Fld := ⟨Reg.GLB_EVTSUM, 5, 1⟩
/-- Field VOTE of GLB_EVTSUM. -/
def Fld.GLB_EVTSUM_VOTE : Fld := ⟨Reg.GLB_EVTSUM, 4, 1⟩
/-- Field WHEEL of GLB_EVTSUM. -/
def Fld.GLB_EVTSUM_WHEEL : Fld := ⟨Reg.GLB_EVTSUM, 3, 1⟩
/-- Field LINK of GLB_EVTSUM. -/
def Fld.GLB_EVTSUM_LINK : Fld := ⟨Reg.GLB_EVTSUM, 2, 1⟩
/-- Field TIER of GLB_EVTSUM. -/
def Fld.GLB_EVTSUM_TIER : Fld := ⟨Reg.GLB_EVTSUM, 1, 1⟩
/-- Field LOADER of GLB_EVTSUM. -/
def Fld.GLB_EVTSUM_LOADER : Fld := ⟨Reg.GLB_EVTSUM, 0, 1⟩
/-- GLB_EVTMASK (R484). -/
def Reg.GLB_EVTMASK : Nat := 0x10108
/-- Field MASK of GLB_EVTMASK. -/
def Fld.GLB_EVTMASK_MASK : Fld := ⟨Reg.GLB_EVTMASK, 0, 13⟩
/-- JRN_STAT (R485, R533). -/
def Reg.JRN_STAT : Nat := 0xC0000
/-- Field USED of JRN_STAT. -/
def Fld.JRN_STAT_USED : Fld := ⟨Reg.JRN_STAT, 47, 17⟩
/-- Field FULLWAIT of JRN_STAT. -/
def Fld.JRN_STAT_FULLWAIT : Fld := ⟨Reg.JRN_STAT, 0, 32⟩
/-- JRN_NEXT (R485, R533). -/
def Reg.JRN_NEXT : Nat := 0xC0008
/-- Field JSEQ of JRN_NEXT. -/
def Fld.JRN_NEXT_JSEQ : Fld := ⟨Reg.JRN_NEXT, 0, 64⟩
/-- JRN_OLDEST (R485, R533). -/
def Reg.JRN_OLDEST : Nat := 0xC0010
/-- Field JSEQ of JRN_OLDEST. -/
def Fld.JRN_OLDEST_JSEQ : Fld := ⟨Reg.JRN_OLDEST, 0, 64⟩
/-- JRN_RECOV (R485, R533). -/
def Reg.JRN_RECOV : Nat := 0xC0100
/-- Field NUMBER of JRN_RECOV. -/
def Fld.JRN_RECOV_NUMBER : Fld := ⟨Reg.JRN_RECOV, 32, 32⟩
/-- Field CAUSE of JRN_RECOV. -/
def Fld.JRN_RECOV_CAUSE : Fld := ⟨Reg.JRN_RECOV, 28, 4⟩
/-- Field ACTIVE of JRN_RECOV. -/
def Fld.JRN_RECOV_ACTIVE : Fld := ⟨Reg.JRN_RECOV, 27, 1⟩
/-- Field RINGS of JRN_RECOV. -/
def Fld.JRN_RECOV_RINGS : Fld := ⟨Reg.JRN_RECOV, 12, 15⟩
/-- JRN_BUDGET (R485, R533). -/
def Reg.JRN_BUDGET : Nat := 0xC0108
/-- Field PCHCE of JRN_BUDGET. -/
def Fld.JRN_BUDGET_PCHCE : Fld := ⟨Reg.JRN_BUDGET, 36, 16⟩
/-- Field PCHSTACK of JRN_BUDGET. -/
def Fld.JRN_BUDGET_PCHSTACK : Fld := ⟨Reg.JRN_BUDGET, 32, 4⟩
/-- Field PCHUE of JRN_BUDGET. -/
def Fld.JRN_BUDGET_PCHUE : Fld := ⟨Reg.JRN_BUDGET, 28, 4⟩
/-- Field SPUE of JRN_BUDGET. -/
def Fld.JRN_BUDGET_SPUE : Fld := ⟨Reg.JRN_BUDGET, 24, 4⟩
/-- Field TILECTL of JRN_BUDGET. -/
def Fld.JRN_BUDGET_TILECTL : Fld := ⟨Reg.JRN_BUDGET, 20, 4⟩
/-- Field UPD of JRN_BUDGET. -/
def Fld.JRN_BUDGET_UPD : Fld := ⟨Reg.JRN_BUDGET, 16, 4⟩
/-- Field DROVER of JRN_BUDGET. -/
def Fld.JRN_BUDGET_DROVER : Fld := ⟨Reg.JRN_BUDGET, 12, 4⟩
/-- Field ROWENG of JRN_BUDGET. -/
def Fld.JRN_BUDGET_ROWENG : Fld := ⟨Reg.JRN_BUDGET, 8, 4⟩
/-- Field EU of JRN_BUDGET. -/
def Fld.JRN_BUDGET_EU : Fld := ⟨Reg.JRN_BUDGET, 4, 4⟩
/-- Field ARRAY of JRN_BUDGET. -/
def Fld.JRN_BUDGET_ARRAY : Fld := ⟨Reg.JRN_BUDGET, 0, 4⟩
/-- JRN_WINDOW (R485, R533). -/
def Reg.JRN_WINDOW : Nat := 0xC0110
/-- Field W64K of JRN_WINDOW. -/
def Fld.JRN_WINDOW_W64K : Fld := ⟨Reg.JRN_WINDOW, 0, 16⟩
/-- JRN_RETIRED (R485, R533). -/
def Reg.JRN_RETIRED : Nat := 0xC0118
/-- Field TILES of JRN_RETIRED. -/
def Fld.JRN_RETIRED_TILES : Fld := ⟨Reg.JRN_RETIRED, 57, 7⟩
/-- Field PCH of JRN_RETIRED. -/
def Fld.JRN_RETIRED_PCH : Fld := ⟨Reg.JRN_RETIRED, 47, 10⟩
/-- Field STACKS of JRN_RETIRED. -/
def Fld.JRN_RETIRED_STACKS : Fld := ⟨Reg.JRN_RETIRED, 42, 5⟩
/-- Field LANES of JRN_RETIRED. -/
def Fld.JRN_RETIRED_LANES : Fld := ⟨Reg.JRN_RETIRED, 36, 6⟩
/-- Field PORTS of JRN_RETIRED. -/
def Fld.JRN_RETIRED_PORTS : Fld := ⟨Reg.JRN_RETIRED, 33, 3⟩
/-- Field UNITS of JRN_RETIRED. -/
def Fld.JRN_RETIRED_UNITS : Fld := ⟨Reg.JRN_RETIRED, 29, 4⟩
/-- Field RINGS of JRN_RETIRED. -/
def Fld.JRN_RETIRED_RINGS : Fld := ⟨Reg.JRN_RETIRED, 14, 15⟩
/-- JRN_READMIT (R485, R533). -/
def Reg.JRN_READMIT : Nat := 0xC0120
/-- Field CLASS of JRN_READMIT. -/
def Fld.JRN_READMIT_CLASS : Fld := ⟨Reg.JRN_READMIT, 16, 4⟩
/-- Field INDEX of JRN_READMIT. -/
def Fld.JRN_READMIT_INDEX : Fld := ⟨Reg.JRN_READMIT, 0, 14⟩
/-- JRN_RASTAT (R485, R533). -/
def Reg.JRN_RASTAT : Nat := 0xC0128
/-- Field CLASS of JRN_RASTAT. -/
def Fld.JRN_RASTAT_CLASS : Fld := ⟨Reg.JRN_RASTAT, 60, 4⟩
/-- Field INDEX of JRN_RASTAT. -/
def Fld.JRN_RASTAT_INDEX : Fld := ⟨Reg.JRN_RASTAT, 46, 14⟩
/-- Field STATE of JRN_RASTAT. -/
def Fld.JRN_RASTAT_STATE : Fld := ⟨Reg.JRN_RASTAT, 42, 4⟩
/-- Field TIMES of JRN_RASTAT. -/
def Fld.JRN_RASTAT_TIMES : Fld := ⟨Reg.JRN_RASTAT, 38, 4⟩
/-- JRN_SEL (R485, R533). -/
def Reg.JRN_SEL : Nat := 0xC0130
/-- Field JSEQ of JRN_SEL. -/
def Fld.JRN_SEL_JSEQ : Fld := ⟨Reg.JRN_SEL, 0, 64⟩
/-- JRN_ENT (R485, R533). -/
def Reg.JRN_ENT : Nat := 0xC0138
/-- Field STATE of JRN_ENT. -/
def Fld.JRN_ENT_STATE : Fld := ⟨Reg.JRN_ENT, 60, 4⟩
/-- Field DISPATCHES of JRN_ENT. -/
def Fld.JRN_ENT_DISPATCHES : Fld := ⟨Reg.JRN_ENT, 56, 4⟩
/-- Field RING of JRN_ENT. -/
def Fld.JRN_ENT_RING : Fld := ⟨Reg.JRN_ENT, 42, 14⟩
/-- Field SQIDX of JRN_ENT. -/
def Fld.JRN_ENT_SQIDX : Fld := ⟨Reg.JRN_ENT, 26, 16⟩
/-- JRN_MIRROR (R485, R533). -/
def Reg.JRN_MIRROR : Nat := 0xC0140
/-- Field REC of JRN_MIRROR. -/
def Fld.JRN_MIRROR_REC : Fld := ⟨Reg.JRN_MIRROR, 62, 2⟩
/-- Field NOFLASH of JRN_MIRROR. -/
def Fld.JRN_MIRROR_NOFLASH : Fld := ⟨Reg.JRN_MIRROR, 61, 1⟩
/-- Field ENTRIES of JRN_MIRROR. -/
def Fld.JRN_MIRROR_ENTRIES : Fld := ⟨Reg.JRN_MIRROR, 0, 17⟩
/-- JRN_PLNEXT (R485, R533). -/
def Reg.JRN_PLNEXT : Nat := 0xC0148
/-- Field JSEQ of JRN_PLNEXT. -/
def Fld.JRN_PLNEXT_JSEQ : Fld := ⟨Reg.JRN_PLNEXT, 0, 64⟩
/-- JRN_PLSEL (R485, R533). -/
def Reg.JRN_PLSEL : Nat := 0xC0150
/-- Field INDEX of JRN_PLSEL. -/
def Fld.JRN_PLSEL_INDEX : Fld := ⟨Reg.JRN_PLSEL, 0, 16⟩
/-- JRN_PLENT (R485, R533). -/
def Reg.JRN_PLENT : Nat := 0xC0158
/-- Field JSEQ of JRN_PLENT. -/
def Fld.JRN_PLENT_JSEQ : Fld := ⟨Reg.JRN_PLENT, 0, 64⟩
/-- JRN_PLENT_8 (R485, R533). -/
def Reg.JRN_PLENT_8 : Nat := 0xC0160
/-- Field RING of JRN_PLENT_8. -/
def Fld.JRN_PLENT_8_RING : Fld := ⟨Reg.JRN_PLENT_8, 50, 14⟩
/-- Field SQIDX of JRN_PLENT_8. -/
def Fld.JRN_PLENT_8_SQIDX : Fld := ⟨Reg.JRN_PLENT_8, 34, 16⟩
/-- Field STATE of JRN_PLENT_8. -/
def Fld.JRN_PLENT_8_STATE : Fld := ⟨Reg.JRN_PLENT_8, 30, 4⟩
/-- JRN_PLCLR (R485, R533). -/
def Reg.JRN_PLCLR : Nat := 0xC0168
/-- Field CLEAR of JRN_PLCLR. -/
def Fld.JRN_PLCLR_CLEAR : Fld := ⟨Reg.JRN_PLCLR, 0, 1⟩
/-- JRN_FATAL (R485, R533). -/
def Reg.JRN_FATAL : Nat := 0xC0170
/-- Field CAUSE of JRN_FATAL. -/
def Fld.JRN_FATAL_CAUSE : Fld := ⟨Reg.JRN_FATAL, 56, 8⟩
/-- Field FATAL of JRN_FATAL. -/
def Fld.JRN_FATAL_FATAL : Fld := ⟨Reg.JRN_FATAL, 0, 1⟩
/-- DIF_CTL (R501, R502). -/
def Reg.DIF_CTL : Nat := 0xB0000
/-- Field MARK of DIF_CTL. -/
def Fld.DIF_CTL_MARK : Fld := ⟨Reg.DIF_CTL, 2, 1⟩
/-- Field OVFL of DIF_CTL. -/
def Fld.DIF_CTL_OVFL : Fld := ⟨Reg.DIF_CTL, 1, 1⟩
/-- Field ENABLE of DIF_CTL. -/
def Fld.DIF_CTL_ENABLE : Fld := ⟨Reg.DIF_CTL, 0, 1⟩
/-- DIF_CFG (R501, R502). -/
def Reg.DIF_CFG : Nat := 0xB0008
/-- Field VECTOR of DIF_CFG. -/
def Fld.DIF_CFG_VECTOR : Fld := ⟨Reg.DIF_CFG, 53, 11⟩
/-- Field IRQKIB of DIF_CFG. -/
def Fld.DIF_CFG_IRQKIB : Fld := ⟨Reg.DIF_CFG, 32, 16⟩
/-- Field HLOG2 of DIF_CFG. -/
def Fld.DIF_CFG_HLOG2 : Fld := ⟨Reg.DIF_CFG, 0, 6⟩
/-- DIF_HOSTBASE (R501, R502). -/
def Reg.DIF_HOSTBASE : Nat := 0xB0010
/-- Field ADDR of DIF_HOSTBASE. -/
def Fld.DIF_HOSTBASE_ADDR : Fld := ⟨Reg.DIF_HOSTBASE, 12, 52⟩
/-- DIF_STGBASE (R501, R502). -/
def Reg.DIF_STGBASE : Nat := 0xB0018
/-- Field BASE of DIF_STGBASE. -/
def Fld.DIF_STGBASE_BASE : Fld := ⟨Reg.DIF_STGBASE, 16, 48⟩
/-- DIF_STGLEN (R501, R502). -/
def Reg.DIF_STGLEN : Nat := 0xB0020
/-- Field LEN of DIF_STGLEN. -/
def Fld.DIF_STGLEN_LEN : Fld := ⟨Reg.DIF_STGLEN, 0, 32⟩
/-- DIF_WRITE (R501, R502). -/
def Reg.DIF_WRITE : Nat := 0xB0030
/-- Field POS of DIF_WRITE. -/
def Fld.DIF_WRITE_POS : Fld := ⟨Reg.DIF_WRITE, 0, 64⟩
/-- DIF_DELIV (R501, R502). -/
def Reg.DIF_DELIV : Nat := 0xB0038
/-- Field POS of DIF_DELIV. -/
def Fld.DIF_DELIV_POS : Fld := ⟨Reg.DIF_DELIV, 0, 64⟩
/-- DIF_CONS (R501, R502). -/
def Reg.DIF_CONS : Nat := 0xB0040
/-- Field POS of DIF_CONS. -/
def Fld.DIF_CONS_POS : Fld := ⟨Reg.DIF_CONS, 0, 64⟩
/-- DIF_SEQ (R501, R502). -/
def Reg.DIF_SEQ : Nat := 0xB0048
/-- Field SEQ of DIF_SEQ. -/
def Fld.DIF_SEQ_SEQ : Fld := ⟨Reg.DIF_SEQ, 0, 64⟩
/-- DIF_STAT (R501, R502). -/
def Reg.DIF_STAT : Nat := 0xB0050
/-- Field STATE of DIF_STAT. -/
def Fld.DIF_STAT_STATE : Fld := ⟨Reg.DIF_STAT, 62, 2⟩
/-- Field ERR of DIF_STAT. -/
def Fld.DIF_STAT_ERR : Fld := ⟨Reg.DIF_STAT, 58, 4⟩
/-- DIF_CNT (R501, R502). -/
def Reg.DIF_CNT : Nat := 0xB0058
/-- Field CHUNKS of DIF_CNT. -/
def Fld.DIF_CNT_CHUNKS : Fld := ⟨Reg.DIF_CNT, 32, 32⟩
/-- Field DROPPED of DIF_CNT. -/
def Fld.DIF_CNT_DROPPED : Fld := ⟨Reg.DIF_CNT, 0, 32⟩
/-- DIF_STALL (R501, R502). -/
def Reg.DIF_STALL : Nat := 0xB0060
/-- Field COUNT of DIF_STALL. -/
def Fld.DIF_STALL_COUNT : Fld := ⟨Reg.DIF_STALL, 0, 64⟩
/-- DIF_IMPCTL (R501, R502). -/
def Reg.DIF_IMPCTL : Nat := 0xB0100
/-- Field RESUME of DIF_IMPCTL. -/
def Fld.DIF_IMPCTL_RESUME : Fld := ⟨Reg.DIF_IMPCTL, 1, 1⟩
/-- Field ENABLE of DIF_IMPCTL. -/
def Fld.DIF_IMPCTL_ENABLE : Fld := ⟨Reg.DIF_IMPCTL, 0, 1⟩
/-- DIF_IMPBASE (R501, R502). -/
def Reg.DIF_IMPBASE : Nat := 0xB0108
/-- Field ADDR of DIF_IMPBASE. -/
def Fld.DIF_IMPBASE_ADDR : Fld := ⟨Reg.DIF_IMPBASE, 12, 52⟩
/-- DIF_IMPCFG (R501, R502). -/
def Reg.DIF_IMPCFG : Nat := 0xB0110
/-- Field ILOG2 of DIF_IMPCFG. -/
def Fld.DIF_IMPCFG_ILOG2 : Fld := ⟨Reg.DIF_IMPCFG, 0, 6⟩
/-- DIF_IMPPROD (R501, R502). -/
def Reg.DIF_IMPPROD : Nat := 0xB0118
/-- Field POS of DIF_IMPPROD. -/
def Fld.DIF_IMPPROD_POS : Fld := ⟨Reg.DIF_IMPPROD, 0, 64⟩
/-- DIF_IMPPOS (R501, R502). -/
def Reg.DIF_IMPPOS : Nat := 0xB0120
/-- Field POS of DIF_IMPPOS. -/
def Fld.DIF_IMPPOS_POS : Fld := ⟨Reg.DIF_IMPPOS, 0, 64⟩
/-- DIF_IMPSEQ (R501, R502). -/
def Reg.DIF_IMPSEQ : Nat := 0xB0128
/-- Field SEQ of DIF_IMPSEQ. -/
def Fld.DIF_IMPSEQ_SEQ : Fld := ⟨Reg.DIF_IMPSEQ, 0, 64⟩
/-- DIF_IMPSTAT (R501, R502). -/
def Reg.DIF_IMPSTAT : Nat := 0xB0130
/-- Field STATE of DIF_IMPSTAT. -/
def Fld.DIF_IMPSTAT_STATE : Fld := ⟨Reg.DIF_IMPSTAT, 62, 2⟩
/-- Field ERR of DIF_IMPSTAT. -/
def Fld.DIF_IMPSTAT_ERR : Fld := ⟨Reg.DIF_IMPSTAT, 58, 4⟩
/-- Field APPLIED of DIF_IMPSTAT. -/
def Fld.DIF_IMPSTAT_APPLIED : Fld := ⟨Reg.DIF_IMPSTAT, 0, 32⟩
/-- PWR_CTL (R555, R601). -/
def Reg.PWR_CTL : Nat := 0x40000
/-- Field PARK of PWR_CTL. -/
def Fld.PWR_CTL_PARK : Fld := ⟨Reg.PWR_CTL, 0, 1⟩
/-- PWR_STAT (R555, R601). -/
def Reg.PWR_STAT : Nat := 0x40008
/-- Field LIMIT_W of PWR_STAT. -/
def Fld.PWR_STAT_LIMIT_W : Fld := ⟨Reg.PWR_STAT, 52, 12⟩
/-- Field STARTIDX of PWR_STAT. -/
def Fld.PWR_STAT_STARTIDX : Fld := ⟨Reg.PWR_STAT, 32, 8⟩
/-- Field STATE of PWR_STAT. -/
def Fld.PWR_STAT_STATE : Fld := ⟨Reg.PWR_STAT, 28, 4⟩
/-- Field LVL3 of PWR_STAT. -/
def Fld.PWR_STAT_LVL3 : Fld := ⟨Reg.PWR_STAT, 12, 4⟩
/-- Field LVL2 of PWR_STAT. -/
def Fld.PWR_STAT_LVL2 : Fld := ⟨Reg.PWR_STAT, 8, 4⟩
/-- Field LVL1 of PWR_STAT. -/
def Fld.PWR_STAT_LVL1 : Fld := ⟨Reg.PWR_STAT, 4, 4⟩
/-- Field LVL0 of PWR_STAT. -/
def Fld.PWR_STAT_LVL0 : Fld := ⟨Reg.PWR_STAT, 0, 4⟩
/-- PWR_MEAS (R555, R601). -/
def Reg.PWR_MEAS : Nat := 0x40010
/-- Field REV_W of PWR_MEAS. -/
def Fld.PWR_MEAS_REV_W : Fld := ⟨Reg.PWR_MEAS, 48, 16⟩
/-- Field PEAK_W of PWR_MEAS. -/
def Fld.PWR_MEAS_PEAK_W : Fld := ⟨Reg.PWR_MEAS, 32, 16⟩
/-- Field AVG_W of PWR_MEAS. -/
def Fld.PWR_MEAS_AVG_W : Fld := ⟨Reg.PWR_MEAS, 16, 16⟩
/-- PWR_THROT (R555, R601). -/
def Reg.PWR_THROT : Nat := 0x40018
/-- Field SPOKES of PWR_THROT. -/
def Fld.PWR_THROT_SPOKES : Fld := ⟨Reg.PWR_THROT, 32, 32⟩
/-- Field POINTDN of PWR_THROT. -/
def Fld.PWR_THROT_POINTDN : Fld := ⟨Reg.PWR_THROT, 16, 16⟩
/-- Field THERMAL of PWR_THROT. -/
def Fld.PWR_THROT_THERMAL : Fld := ⟨Reg.PWR_THROT, 0, 16⟩
/-- PWR_THERM (R555, R601). -/
def Reg.PWR_THERM : Nat := 0x40020
/-- Field CD3 of PWR_THERM. -/
def Fld.PWR_THERM_CD3 : Fld := ⟨Reg.PWR_THERM, 56, 8⟩
/-- Field CD2 of PWR_THERM. -/
def Fld.PWR_THERM_CD2 : Fld := ⟨Reg.PWR_THERM, 48, 8⟩
/-- Field CD1 of PWR_THERM. -/
def Fld.PWR_THERM_CD1 : Fld := ⟨Reg.PWR_THERM, 40, 8⟩
/-- Field CD0 of PWR_THERM. -/
def Fld.PWR_THERM_CD0 : Fld := ⟨Reg.PWR_THERM, 32, 8⟩
/-- Field IOD1 of PWR_THERM. -/
def Fld.PWR_THERM_IOD1 : Fld := ⟨Reg.PWR_THERM, 24, 8⟩
/-- Field IOD0 of PWR_THERM. -/
def Fld.PWR_THERM_IOD0 : Fld := ⟨Reg.PWR_THERM, 16, 8⟩
/-- Field MEM of PWR_THERM. -/
def Fld.PWR_THERM_MEM : Fld := ⟨Reg.PWR_THERM, 8, 8⟩
/-- Field TRIPPED of PWR_THERM. -/
def Fld.PWR_THERM_TRIPPED : Fld := ⟨Reg.PWR_THERM, 0, 1⟩
/-- PWR_VMIN0 (R555, R601). -/
def Reg.PWR_VMIN0 : Nat := 0x40040
/-- Field VMIN of PWR_VMIN0. -/
def Fld.PWR_VMIN0_VMIN : Fld := ⟨Reg.PWR_VMIN0, 0, 64⟩
/-- PWR_VMIN1 (R555, R601). -/
def Reg.PWR_VMIN1 : Nat := 0x40048
/-- Field VMIN of PWR_VMIN1. -/
def Fld.PWR_VMIN1_VMIN : Fld := ⟨Reg.PWR_VMIN1, 0, 64⟩
/-- CLK_RSTSTAT (R557). -/
def Reg.CLK_RSTSTAT : Nat := 0x50000
/-- Field WARMS of CLK_RSTSTAT. -/
def Fld.CLK_RSTSTAT_WARMS : Fld := ⟨Reg.CLK_RSTSTAT, 32, 32⟩
/-- Field LAST of CLK_RSTSTAT. -/
def Fld.CLK_RSTSTAT_LAST : Fld := ⟨Reg.CLK_RSTSTAT, 0, 4⟩
/-- CLK_RSTCNT (R557). -/
def Reg.CLK_RSTCNT : Nat := 0x50008
/-- Field GLITCH of CLK_RSTCNT. -/
def Fld.CLK_RSTCNT_GLITCH : Fld := ⟨Reg.CLK_RSTCNT, 32, 32⟩
/-- Field WARNEXTRA of CLK_RSTCNT. -/
def Fld.CLK_RSTCNT_WARNEXTRA : Fld := ⟨Reg.CLK_RSTCNT, 0, 32⟩
/-- CLK_DOM (R557). -/
def Reg.CLK_DOM (i : Nat) : Nat := 0x51000 + 0x8 * i
/-- Field STATE of CLK_DOM. -/
def Fld.CLK_DOM_STATE (i : Nat) : Fld := ⟨Reg.CLK_DOM i, 61, 3⟩
/-- Field FREQ_MHZ of CLK_DOM. -/
def Fld.CLK_DOM_FREQ_MHZ (i : Nat) : Fld := ⟨Reg.CLK_DOM i, 45, 16⟩
/-- Field MV of CLK_DOM. -/
def Fld.CLK_DOM_MV (i : Nat) : Fld := ⟨Reg.CLK_DOM i, 35, 10⟩
/-- Field POINT of CLK_DOM. -/
def Fld.CLK_DOM_POINT (i : Nat) : Fld := ⟨Reg.CLK_DOM i, 31, 4⟩
/-- Field LEVEL of CLK_DOM. -/
def Fld.CLK_DOM_LEVEL (i : Nat) : Fld := ⟨Reg.CLK_DOM i, 27, 4⟩
/-- MGT_CTL (R572). -/
def Reg.MGT_CTL : Nat := 0x30000
/-- Field IBIEN of MGT_CTL. -/
def Fld.MGT_CTL_IBIEN : Fld := ⟨Reg.MGT_CTL, 1, 1⟩
/-- Field PECREQ of MGT_CTL. -/
def Fld.MGT_CTL_PECREQ : Fld := ⟨Reg.MGT_CTL, 0, 1⟩
/-- MGT_STAT (R572). -/
def Reg.MGT_STAT : Nat := 0x30008
/-- Field DYNADDR of MGT_STAT. -/
def Fld.MGT_STAT_DYNADDR : Fld := ⟨Reg.MGT_STAT, 16, 7⟩
/-- Field STATADDR of MGT_STAT. -/
def Fld.MGT_STAT_STATADDR : Fld := ⟨Reg.MGT_STAT, 8, 7⟩
/-- Field ALERT of MGT_STAT. -/
def Fld.MGT_STAT_ALERT : Fld := ⟨Reg.MGT_STAT, 2, 1⟩
/-- Field MODE of MGT_STAT. -/
def Fld.MGT_STAT_MODE : Fld := ⟨Reg.MGT_STAT, 0, 2⟩
/-- MGT_ERR (R572). -/
def Reg.MGT_ERR : Nat := 0x30010
/-- Field PEC of MGT_ERR. -/
def Fld.MGT_ERR_PEC : Fld := ⟨Reg.MGT_ERR, 48, 16⟩
/-- Field OPCODE of MGT_ERR. -/
def Fld.MGT_ERR_OPCODE : Fld := ⟨Reg.MGT_ERR, 32, 16⟩
/-- Field PARITY of MGT_ERR. -/
def Fld.MGT_ERR_PARITY : Fld := ⟨Reg.MGT_ERR, 16, 16⟩
/-- Field UNAVAIL of MGT_ERR. -/
def Fld.MGT_ERR_UNAVAIL : Fld := ⟨Reg.MGT_ERR, 0, 16⟩
/-- MGT_SERQ (R572). -/
def Reg.MGT_SERQ : Nat := 0x30018
/-- Field STALLS of MGT_SERQ. -/
def Fld.MGT_SERQ_STALLS : Fld := ⟨Reg.MGT_SERQ, 32, 32⟩
/-- Field DEPTH of MGT_SERQ. -/
def Fld.MGT_SERQ_DEPTH : Fld := ⟨Reg.MGT_SERQ, 0, 7⟩
/-- MGT_CHJNEXT (R572). -/
def Reg.MGT_CHJNEXT : Nat := 0x30020
/-- Field SEQ of MGT_CHJNEXT. -/
def Fld.MGT_CHJNEXT_SEQ : Fld := ⟨Reg.MGT_CHJNEXT, 0, 64⟩
/-- MGT_EVTSUM (R572). -/
def Reg.MGT_EVTSUM : Nat := 0x30028
/-- Field CLASS of MGT_EVTSUM. -/
def Fld.MGT_EVTSUM_CLASS : Fld := ⟨Reg.MGT_EVTSUM, 0, 14⟩
/-- MGT_EVTMASK (R572). -/
def Reg.MGT_EVTMASK : Nat := 0x30030
/-- Field MASK of MGT_EVTMASK. -/
def Fld.MGT_EVTMASK_MASK : Fld := ⟨Reg.MGT_EVTMASK, 0, 14⟩
/-- MGT_SENSSEL (R572). -/
def Reg.MGT_SENSSEL : Nat := 0x30040
/-- Field SENSOR of MGT_SENSSEL. -/
def Fld.MGT_SENSSEL_SENSOR : Fld := ⟨Reg.MGT_SENSSEL, 0, 6⟩
/-- MGT_SENSVAL (R572). -/
def Reg.MGT_SENSVAL : Nat := 0x30048
/-- Field TEMP of MGT_SENSVAL. -/
def Fld.MGT_SENSVAL_TEMP : Fld := ⟨Reg.MGT_SENSVAL, 48, 16⟩
/-- Field MAX of MGT_SENSVAL. -/
def Fld.MGT_SENSVAL_MAX : Fld := ⟨Reg.MGT_SENSVAL, 32, 16⟩
/-- Field VALID of MGT_SENSVAL. -/
def Fld.MGT_SENSVAL_VALID : Fld := ⟨Reg.MGT_SENSVAL, 0, 1⟩
/-- MGT_RAIL (R572). -/
def Reg.MGT_RAIL (i : Nat) : Nat := 0x30080 + 0x8 * i
/-- Field MV of MGT_RAIL. -/
def Fld.MGT_RAIL_MV (i : Nat) : Fld := ⟨Reg.MGT_RAIL i, 48, 16⟩
/-- Field AMPS of MGT_RAIL. -/
def Fld.MGT_RAIL_AMPS (i : Nat) : Fld := ⟨Reg.MGT_RAIL i, 32, 16⟩
/-- Field PEAK of MGT_RAIL. -/
def Fld.MGT_RAIL_PEAK (i : Nat) : Fld := ⟨Reg.MGT_RAIL i, 16, 16⟩
/-- MGT_MBCTL (R572). -/
def Reg.MGT_MBCTL : Nat := 0x30100
/-- Field LEN of MGT_MBCTL. -/
def Fld.MGT_MBCTL_LEN : Fld := ⟨Reg.MGT_MBCTL, 12, 9⟩
/-- Field H2MACK of MGT_MBCTL. -/
def Fld.MGT_MBCTL_H2MACK : Fld := ⟨Reg.MGT_MBCTL, 3, 1⟩
/-- Field M2HFULL of MGT_MBCTL. -/
def Fld.MGT_MBCTL_M2HFULL : Fld := ⟨Reg.MGT_MBCTL, 2, 1⟩
/-- Field H2MFULL of MGT_MBCTL. -/
def Fld.MGT_MBCTL_H2MFULL : Fld := ⟨Reg.MGT_MBCTL, 1, 1⟩
/-- Field M2HSEND of MGT_MBCTL. -/
def Fld.MGT_MBCTL_M2HSEND : Fld := ⟨Reg.MGT_MBCTL, 0, 1⟩
/-- MGT_MBH2M (R572). -/
def Reg.MGT_MBH2M (i : Nat) : Nat := 0x31000 + 0x4 * i
/-- Field DATA of MGT_MBH2M. -/
def Fld.MGT_MBH2M_DATA (i : Nat) : Fld := ⟨Reg.MGT_MBH2M i, 0, 32⟩
/-- MGT_MBM2H (R572). -/
def Reg.MGT_MBM2H (i : Nat) : Nat := 0x31100 + 0x4 * i
/-- Field DATA of MGT_MBM2H. -/
def Fld.MGT_MBM2H_DATA (i : Nat) : Fld := ⟨Reg.MGT_MBM2H i, 0, 32⟩
/-- CAL_ENT (R448). -/
def Reg.CAL_ENT (i : Nat) : Nat := 0x80000 + 0x10 * i
/-- Field W0 of CAL_ENT. -/
def Fld.CAL_ENT_W0 (i : Nat) : Fld := ⟨Reg.CAL_ENT i, 0, 64⟩
/-- CAL_ENT_8 (R448). -/
def Reg.CAL_ENT_8 (i : Nat) : Nat := 0x80008 + 0x10 * i
/-- Field W1 of CAL_ENT_8. -/
def Fld.CAL_ENT_8_W1 (i : Nat) : Fld := ⟨Reg.CAL_ENT_8 i, 0, 64⟩
/-- MSIX_ADDR (R478). -/
def Reg.MSIX_ADDR (i : Nat) : Nat := 0xF0000 + 0x10 * i
/-- Field ADDR of MSIX_ADDR. -/
def Fld.MSIX_ADDR_ADDR (i : Nat) : Fld := ⟨Reg.MSIX_ADDR i, 0, 64⟩
/-- MSIX_DATA (R478). -/
def Reg.MSIX_DATA (i : Nat) : Nat := 0xF0008 + 0x10 * i
/-- Field DATA of MSIX_DATA. -/
def Fld.MSIX_DATA_DATA (i : Nat) : Fld := ⟨Reg.MSIX_DATA i, 0, 32⟩
/-- MSIX_CTRL (R478). -/
def Reg.MSIX_CTRL (i : Nat) : Nat := 0xF000C + 0x10 * i
/-- Field MASK of MSIX_CTRL. -/
def Fld.MSIX_CTRL_MASK (i : Nat) : Fld := ⟨Reg.MSIX_CTRL i, 0, 1⟩
/-- MSIX_PBA (R478). -/
def Reg.MSIX_PBA (i : Nat) : Nat := 0xF8000 + 0x8 * i
/-- Field PENDING of MSIX_PBA. -/
def Fld.MSIX_PBA_PENDING (i : Nat) : Fld := ⟨Reg.MSIX_PBA i, 0, 64⟩

/-- A register block: its first offset, the distance between instances, their number, the size of one, its registers, and whether it lies in the always-on domain D099 (R18, R45). -/
structure BlockSpec where
  base : Nat
  stride : Nat
  count : Nat
  size : Nat
  regs : List RegSpec
  aon : Bool
  deriving DecidableEq, Repr

/-- The blocks of BAR0 with the registers they list (R45, R46). The CHJ block is read from the change journal itself, and the TLA blocks alias the tile blocks (R47). -/
def blocks : List BlockSpec := [
  ⟨0x0, 0x10000, 1, 0x10000, capRegs, true⟩,
  ⟨0x10000, 0x10000, 1, 0x10000, glbRegs, true⟩,
  ⟨0x20000, 0x10000, 1, 0x10000, hrnRegs, true⟩,
  ⟨0x30000, 0x10000, 1, 0x10000, mgtRegs, true⟩,
  ⟨0x40000, 0x10000, 1, 0x10000, pwrRegs, true⟩,
  ⟨0x50000, 0x10000, 1, 0x10000, clkRegs, true⟩,
  ⟨0x60000, 0x10000, 1, 0x10000, whlRegs, true⟩,
  ⟨0x70000, 0x10000, 1, 0x10000, colRegs, true⟩,
  ⟨0x80000, 0x20000, 1, 0x20000, calRegs, true⟩,
  ⟨0xA0000, 0x10000, 1, 0x10000, winRegs, true⟩,
  ⟨0xB0000, 0x10000, 1, 0x10000, difRegs, true⟩,
  ⟨0xC0000, 0x10000, 1, 0x10000, jrnRegs, true⟩,
  ⟨0xD0000, 0x10000, 1, 0x10000, hifRegs, true⟩,
  ⟨0xF0000, 0x10000, 1, 0x10000, msixRegs, true⟩,
  ⟨0x100000, 0x40000, 1, 0x40000, tierRegs, true⟩,
  ⟨0x140000, 0x4000, 20, 0x4000, drmRegs, false⟩,
  ⟨0x1A0000, 0x10000, 4, 0x10000, flsRegs, false⟩,
  ⟨0x200000, 0x10000, 6, 0x10000, lnkRegs, false⟩,
  ⟨0x280000, 0x10000, 4, 0x10000, drvRegs, false⟩,
  ⟨0x2C0000, 0x10000, 4, 0x10000, updRegs, false⟩,
  ⟨0x400000, 0x40, 16384, 0x40, ringRegs, true⟩,
  ⟨0x800000, 0x10000, 68, 0x10000, tileRegs, false⟩]

/-- The instance of block `b` that holds BAR0 offset `a`, if one does. -/
def BlockSpec.inst (b : BlockSpec) (a : Nat) : Option Nat :=
  if a < b.base then none
  else
    let k := (a - b.base) / b.stride
    if k < b.count ∧ (a - b.base) % b.stride < b.size then some k else none

/-- The block that holds BAR0 offset `a` and the offset of its instance's first byte. -/
def blockAt (a : Nat) : List BlockSpec → Option (BlockSpec × Nat)
  | [] => none
  | b :: r =>
    match b.inst a with
    | some k => some (b, b.base + k * b.stride)
    | none => blockAt a r

/-- The register of a block that holds block offset `o`, and the block offset where that register begins. -/
def regAt (o : Nat) : List RegSpec → Option (RegSpec × Nat)
  | [] => none
  | r :: rest =>
    let k := if r.stride = 0 then 0 else (o - r.off) / r.stride
    let b := r.off + k * r.stride
    if r.off ≤ o ∧ k < r.count ∧ b ≤ o ∧ o < b + r.width / 8 then some (r, b) else regAt o rest

/-- The register that holds BAR0 offset `a` and the BAR0 offset where it begins (R16, R48). -/
def regSpecAt (a : Nat) : Option (RegSpec × Nat) :=
  match blockAt a blocks with
  | none => none
  | some (b, base) =>
    match regAt (a - base) b.regs with
    | none => none
    | some (r, o) => some (r, base + o)

/-- The block's domain: whether BAR0 offset `a` lies in the always-on domain D099 (R18). -/
def inAlwaysOn (a : Nat) : Bool :=
  match blockAt a blocks with
  | some (b, _) => b.aon
  | none => true

/-- A register with every field at its Reset value (R18). -/
def resetWord (r : RegSpec) : Word := wordOf (r.fields.map (fun f => (f.lo, f.n, f.reset)))

/-- Where the fields of a tile block that move with the logical tile have their home: the TLA offset of the first logical tile. -/
def tlaBase : Nat := 0x1000000

/-- The Reset value of the register that begins at BAR0 offset `a`; the fields of a logical tile (marks, credit pools, ring bindings) are found through its TLA offset (R18, R176). -/
def regReset (a : Nat) : Word :=
  let a' := if tlaBase ≤ a then 0x800000 + (a - tlaBase) % 0x10000 else a
  match regSpecAt a' with
  | some (r, _) => resetWord r
  | none => 0

end Sys2Proof.Machine
end

