-- ==== Sys2Proof/Machine/SweepState.lean ====
section
/-! DEFINITION. The state of the update sequencers (R292, R293, R305) and of the difference stream with its import (R486 to R502): plain data. -/

set_option Elab.async false

namespace Sys2Proof.Machine

/-- The state of a SWEEP job (UPD_JOB.STATE). -/
inductive SweepSt where
  | wait | verdict | sweep | restore | done
  deriving DecidableEq, Repr

/-- The encoding of a SWEEP job's state. -/
def SweepSt.num : SweepSt → Nat
  | .wait => 1
  | .verdict => 2
  | .sweep => 3
  | .restore => 4
  | .done => 5

/-- What a sweeping job does next: begin a rule, prepare a matrix, commit its next block, or write its copies (R301, R307). -/
inductive SweepPhase where
  | start | prep | commit | copy
  deriving DecidableEq, Repr

/-- A matrix that a sweep touches, with the applied steps its expert missed (R300). -/
structure SweepMat where
  e : Nat
  d : Nat
  deriving DecidableEq, Repr

/-- A SWEEP job (R292, R305, R310). -/
structure SweepRun where
  seq : Nat
  /-- Job slot 0 to 3. -/
  slot : Nat
  st : SweepSt
  /-- The bits of the job's rules have been cleared (R305). -/
  cleared : Bool
  /-- Rules of the job that have ended. -/
  ended : Nat
  phase : SweepPhase
  /-- Matrices of the rule in hand not finished, the first in hand. -/
  mats : List SweepMat
  /-- Next block of the matrix in hand. -/
  block : Nat
  committed : Nat
  skipped : Nat
  caught : Nat
  /-- The verdict was skip. -/
  skip : Bool
  /-- The next commit group has waited for staging and has been counted (R493). -/
  stalled : Bool
  deriving DecidableEq, Repr

/-- A SWEEP job just accepted. -/
def SweepRun.start (seq slot : Nat) : SweepRun where
  seq := seq
  slot := slot
  st := .wait
  cleared := false
  ended := 0
  phase := .start
  mats := []
  block := 0
  committed := 0
  skipped := 0
  caught := 0
  skip := false
  stalled := false

/-- What UPD_RULESTAT reports of a rule (R311). -/
structure RuleStat where
  step : Nat
  phase : Nat
  blocks : Nat
  deriving DecidableEq, Repr

/-- The update sequencers: jobs by JSEQ, the open sweep step of a sequencer whose ACTAB is not valid (R293), and the rules' reports. -/
structure SweepState where
  jobs : SMap SweepRun
  opened : SMap Nat
  stats : SMap RuleStat
  deriving DecidableEq, Repr

/-- The sequencers after a cold reset. -/
def SweepState.reset : SweepState := ⟨[], [], []⟩

/-- A chunk staged and not delivered: its length, and whether it is a STEP_END (R494). -/
structure Staged where
  len : Nat
  stepEnd : Bool
  deriving DecidableEq, Repr

/-- A matrix of a rule that received a DELTA chunk since its sequencer's last STEP_END (R499). -/
structure Touched where
  seq : Nat
  step : Nat
  rule : Nat
  e : Nat
  deriving DecidableEq, Repr

/-- The difference stream and its import (R486 to R502), beside their registers. -/
structure DiffState where
  /-- Chunks staged and not delivered, oldest first. -/
  queue : List Staged
  /-- BASE_MARK chunks that wait for staging: their REASONs (R493). -/
  marks : List Nat
  /-- Chunks dropped since the last GAP chunk: the first one's step, and their number (R493). -/
  gap : Option (Nat × Nat)
  /-- The stream was disabled and drains (R495). -/
  draining : Bool
  /-- DELTA chunks since the last STEP_END, by sequencer (R492). -/
  deltas : SMap Nat
  /-- Import: bytes read from DIF_IMPPOS on (R497). -/
  buf : List Byte
  /-- Import: a read of the buffer is outstanding. -/
  reading : Bool
  touched : List Touched
  deriving DecidableEq, Repr

/-- The difference stream after a cold reset. -/
def DiffState.reset : DiffState := ⟨[], [], none, false, [], [], false, []⟩

end Sys2Proof.Machine
end

