-- ==== Sys2Proof/Machine/TierState.lean ====
section
/-! DEFINITION. Memory tiers: the tier and DRAM regions section (R315 to R317, R347) and the records the tier controller holds (R320 to R342). -/

set_option Elab.async false

namespace Sys2Proof.Machine

/-- The directory states of R322; a FREE slot has no entry. -/
inductive DirSt where
  | promoting | clean | dirty | cleaning | evicting | relocated
  deriving DecidableEq, Repr

/-- The encoding of TIER_DIRENT.STATE. -/
def DirSt.num : DirSt → Nat
  | .promoting => 1
  | .clean => 2
  | .dirty => 3
  | .cleaning => 4
  | .evicting => 5
  | .relocated => 6

/-- A directory entry (R322): its key is the slot. -/
structure DirEnt where
  st : DirSt
  redirty : Bool
  evreq : Bool
  invreq : Bool
  /-- The holders of pins, by JSEQ (R323). -/
  pins : List Nat
  /-- First frame and length in frames of the object. -/
  frame : Nat
  size : Nat
  /-- One bit per frame newer than flash. -/
  mask : Nat
  /-- Frames written since the write-back in progress began (R328). -/
  rewritten : Nat
  /-- Revolution of the last access. -/
  age : Nat
  /-- RELOCATED: the pseudo-channel and chunk; its copy has committed. -/
  pch : Nat
  chunk : Nat
  copied : Bool
  /-- PROMOTING: the stack and the controller request tag of its flash read (R334). -/
  tag : Nat
  /-- Revolution of the last write (R328, CLEANAGE). -/
  wrote : Nat
  deriving DecidableEq, Repr

/-- An entry with nothing in it. -/
def DirEnt.blank : DirEnt := ⟨.clean, false, false, false, [], 0, 0, 0, 0, 0, 0, 0, false, 0, 0⟩

/-- A flash region record (R315). -/
structure FlashRegion where
  frame : Nat
  nframes : Nat
  obj : Nat
  deriving DecidableEq, Repr

/-- A row-engine region: its record and its current and accepted class (R347, R355): 1 BITMAP, 2 SEALED. -/
structure RowRegion where
  base : Nat
  len : Nat
  cls : Nat
  acls : Nat
  deriving DecidableEq, Repr

/-- The states of a retired pseudo-channel (TIER_PCHSTAT, R337 to R340). -/
inductive PchSt where
  | relocating | relocated | lost | copyingBack
  deriving DecidableEq, Repr

/-- The encoding of TIER_PCHSTAT.STATE. -/
def PchSt.num : PchSt → Nat
  | .relocating => 1
  | .relocated => 2
  | .lost => 3
  | .copyingBack => 4

/-- A tier operation in progress (R330, R331). -/
structure TierOp where
  op : Nat
  frame : Nat
  nframes : Nat
  /-- Slots the operation still waits for: whether a write-back of each has begun since its start (FLUSH), or is under way. -/
  slots : SMap Bool
  /-- FILL: objects not yet read, as first frames in order; and the one read and being programmed. -/
  todo : List Nat
  programming : Option Nat
  /-- FILL: bytes of the object in hand read so far. -/
  staged : List Byte
  /-- An object could not be written back (R342). -/
  failed : Bool
  aborted : Bool
  deriving DecidableEq, Repr

/-- What the tier controller holds of a flash stack beside its registers (R340, R341). -/
structure FlashStack where
  /-- Whether the stack takes part in allocation; set at a boundary after re-admission (R340). -/
  eligible : Bool
  worn : Bool
  warned : Bool
  deriving DecidableEq, Repr

/-- The tier controller's state beside its registers. -/
structure TierState where
  /-- RELOC of the applied section. -/
  reloc : Nat
  flashRegions : List FlashRegion
  rowRegions : List RowRegion
  dir : SMap DirEnt
  /-- Stacks of S00 to S15 whose slots are withdrawn (R337). -/
  withdrawn : List Nat
  /-- Home stack of each allocated object, by its first frame (R321). -/
  homes : SMap Nat
  /-- Objects marked lost (R339), by first frame. -/
  lostObjs : List Nat
  /-- Retired pseudo-channels, by number (R337, R338). -/
  pchs : SMap PchSt
  op : Option TierOp
  /-- Controller request tags in quarantine, 65,536 × stack + tag (R334). -/
  quarantine : List Nat
  /-- Objects still to be evacuated from retiring stacks, by first frame (R339). -/
  evac : List Nat
  /-- State of the flash stacks. -/
  fstacks : SMap FlashStack
  /-- The TIERCFG that the flash stacks are formatted for, kept in their metadata; 0 unformatted (R318, FLS_STAT.MODE). -/
  format : Nat
  deriving DecidableEq, Repr

/-- The tier controller after a cold reset. -/
def TierState.reset : TierState := ⟨0, [], [], [], [], [], [], [], none, [], [], [], 0⟩

/-! The section (R315, R317, R347). -/

/-- The header fields of a tier section. -/
structure TierHdr where
  cfg : Nat
  cache : Nat
  reloc : Nat
  frcount : Nat
  rcount : Nat
  cleanAge : Nat
  wmLow : Nat
  wmHigh : Nat
  deriving DecidableEq, Repr

/-- The header of a tier section. -/
def tierHdr (bs : List Byte) : TierHdr :=
  let w0 := wordAt bs 0
  let w1 := wordAt bs 8
  let w2 := wordAt bs 16
  ⟨bits w0 0 2, bits w0 8 10, bits w0 24 6, bits w1 0 16, bits w1 16 16, bits w2 16 16, bits w2 8 8, bits w2 0 8⟩

/-- Flash region record `i`. -/
def flashRegion (bs : List Byte) (i : Nat) : FlashRegion :=
  let w := wordAt bs (64 + 16 * i)
  ⟨bits w 38 26, bits w 12 26, bits w 6 6⟩

/-- The flash region records. -/
def flashRegions (bs : List Byte) : List FlashRegion := (numsFrom 0 (tierHdr bs).frcount).map (flashRegion bs)

/-- Row-engine region record `i` (R347). -/
def rowRegion (bs : List Byte) (i : Nat) : RowRegion :=
  let w := wordAt bs (64 + 16 * (tierHdr bs).frcount + 16 * i)
  ⟨bits w 52 12, bits w 40 12, bits w 38 2, bits w 38 2⟩

/-- The row-engine region records. -/
def rowRegions (bs : List Byte) : List RowRegion := (numsFrom 0 (tierHdr bs).rcount).map (rowRegion bs)

/-- Layout length of a tier section (R600). -/
def tierLength (bs : List Byte) : Nat := 64 + 16 * (tierHdr bs).frcount + 16 * (tierHdr bs).rcount

/-- Whether the counts of a tier section are within their ranges (R600, R317, R347). -/
def tierCounts (bs : List Byte) : Bool := decide ((tierHdr bs).frcount ≤ 256) && decide ((tierHdr bs).rcount ≤ 64)

/-- Reserved bits of a tier section. -/
def tierReserved (bs : List Byte) : List SecFault :=
  let h := tierHdr bs
  reservedIn bs 0 0 0x3F03FF03 ++ reservedIn bs 8 0 0xFFFFFFFF ++ reservedIn bs 16 0 0xFFFFFFFF ++ zeroFrom bs .reservedNonzero 24 40 0 ++
  ((numsFrom 0 h.frcount).map (fun i => reservedIn bs (64 + 16 * i) i 0xFFFFFFFFFFFFFFC0 ++ reservedIn bs (72 + 16 * i) i 0)).flatten ++
  ((numsFrom 0 h.rcount).map (fun i =>
    reservedIn bs (64 + 16 * h.frcount + 16 * i) i 0xFFFFFFC000000000 ++ reservedIn bs (72 + 16 * h.frcount + 16 * i) i 0)).flatten

/-- Frames of the usable prefix under a tier configuration (R41): 64 KiB each. -/
def usableFrames (cfg : Nat) : Nat := if cfg = 1 then 58720256 else if cfg = 2 then 29360128 else 0

/-- Slots that one relocated pseudo-channel needs (R317). -/
def relocChunks (c : Nat) : Nat := max (1024 - c) 768

/-- Slots kept for the directory (R317). -/
def tierKeep (cfg : Nat) : Nat := if cfg = 0 then 0 else 2048

/-- Phase 9 of a tier section (R315, R317, R347). -/
def tierFaults (bs : List Byte) : List SecFault :=
  let h := tierHdr bs
  let f (bad : Bool) (o i : Nat) : List SecFault := faultIf bad .tier o i
  let frs := flashRegions bs
  let rrs := rowRegions bs
  let rb := 64 + 16 * h.frcount
  f (decide (h.cfg = 3)) 0 0 ++
  f (decide (512 < h.cache)) 1 0 ++
  f (decide (15 < h.reloc)) 3 0 ++
  f (decide (32 * h.cache * (16 - h.reloc) < h.reloc * relocChunks h.cache + tierKeep h.cfg)) 1 0 ++
  f (decide (h.cfg = 0 ∧ 0 < h.frcount)) 8 0 ++
  f (decide (h.cfg = 2 ∧ (h.wmHigh = 0 ∨ 100 < h.wmHigh)) || decide (h.cfg ≠ 2 ∧ h.wmHigh ≠ 0)) 16 0 ++
  f (decide (h.cfg = 2 ∧ h.wmHigh ≤ h.wmLow) || decide (h.cfg ≠ 2 ∧ h.wmLow ≠ 0)) 17 0 ++
  f (decide (h.cfg = 2 ∧ h.cleanAge = 0) || decide (h.cfg ≠ 2 ∧ h.cleanAge ≠ 0)) 18 0 ++
  ((numsFrom 0 frs.length).map (fun i =>
    let r := flashRegion bs i
    f (decide (r.obj = 0 ∨ 32 < r.obj)) (64 + 16 * i) i ++
    f (decide (r.nframes = 0 ∨ (0 < r.obj ∧ r.nframes % r.obj ≠ 0))) (65 + 16 * i) i ++
    f (decide (usableFrames h.cfg < r.frame + r.nframes)) (68 + 16 * i) i ++
    f ((frs.take i).any (fun q => overlaps q.frame q.nframes r.frame r.nframes)) (68 + 16 * i) i)).flatten ++
  ((numsFrom 0 rrs.length).map (fun i =>
    let r := rowRegion bs i
    f (decide (r.cls = 0 ∨ r.cls = 3)) (rb + 16 * i + 4) i ++
    f (decide (r.len = 0 ∨ 3072 < r.base + r.len)) (rb + 16 * i + 5) i ++
    f ((rrs.take i).any (fun q => overlaps q.base q.len r.base r.len)) (rb + 16 * i + 6) i)).flatten

end Sys2Proof.Machine
end

