-- ==== Sys2Proof/Machine/WheelState.lean ====
section
/-! DEFINITION. The Wheel's state beside its registers (R424 to R445): plain data. -/

set_option Elab.async false

namespace Sys2Proof.Machine

/-- An open VC 0 grant: its port, and the Wheel time in spokes at whose start it closes (R440). -/
structure Grant where
  port : Nat
  close : Nat
  deriving DecidableEq, Repr

/-- The Wheel beside WHL and CAL. -/
structure WheelState where
  /-- Reference cycles counted since the cold reset, pauses included: the time base of mark spacing (R433). -/
  cycles : Nat
  /-- Rising edges in this revolution, and whether a high level of more than 64 cycles was among them (R427). -/
  edges : Nat
  long : Bool
  /-- An accepted mark belongs to this revolution; to the next one (R426). -/
  marked : Bool
  markedNext : Bool
  /-- Consecutive revolutions without an accepted mark (R429). -/
  missRun : Nat
  /-- A mark fault holds, and the clean revolutions seen since (R427). -/
  fault : Bool
  clean : Nat
  /-- Marks in the count of R433, the time of the latest, and whether the phase is held, for how many revolutions (R434). -/
  acq : Nat
  lastMark : Nat
  held : Bool
  heldRevs : Nat
  /-- Consecutive marks inside the holdover window, and the offset expected of the next (R432). -/
  relock : Nat
  relockOff : Int
  /-- Length change of this revolution's spoke 4095, and of the next one's (R432). -/
  slew : Int
  slewNext : Int
  /-- The reference counts as present (R425). -/
  refIn : Bool
  /-- HOLDOVER by reference loss begins at the next boundary, a slew being in progress (R445). -/
  lossDue : Bool
  /-- Revolutions since ERR last grew (R430). -/
  grow : Nat
  /-- Highest revolution counted so far, for backward adoptions (R434, R435). -/
  top : Nat
  /-- The number the next revolution takes (R434). -/
  nextRev : Option Nat
  /-- Revolutions since Harness application without a HERD WHEELPOS (R434). -/
  sinceApply : Nat
  grants : List Grant
  /-- Ports whose grant the state holds open until the next spoke boundary or longer (R444). -/
  heldOpen : List Nat
  /-- Calendar entries that have acted at this spoke: 2 × number, plus 1 for a launch (R439). -/
  fired : List Nat
  /-- A launch that fell into a pause: the vote spoke's Wheel time in spokes (R445). -/
  owedLaunch : Option Nat
  deriving DecidableEq, Repr

/-- The Wheel after a cold reset: free-running on the reference (R429). -/
def WheelState.reset : WheelState where
  cycles := 0
  edges := 0
  long := false
  marked := false
  markedNext := false
  missRun := 0
  fault := false
  clean := 0
  acq := 0
  lastMark := 0
  held := false
  heldRevs := 0
  relock := 0
  relockOff := 0
  slew := 0
  slewNext := 0
  refIn := true
  lossDue := false
  grow := 0
  top := 0
  nextRev := none
  sinceApply := 0
  grants := []
  heldOpen := []
  fired := []
  owedLaunch := none

end Sys2Proof.Machine
end

