-- ==== Sys2Proof/Machine/State.lean ====
section
/-! DEFINITION. The state of the block, its faults and refusals, and the state after reset. -/

set_option Elab.async false

namespace Sys2Proof.Machine

/-- Reasons a step can stop with a fault. The manual gives every command an effect in every state, so none is raised (safe). -/
inductive Fault where
  /-- Raised by no meaning. -/
  | none
  deriving DecidableEq, Repr

/-- Reasons a step can be refused. -/
inductive Refusal where
  /-- Raised by an arm of `exec` that has no meaning yet: the command's name. Safe: the machine stops. -/
  | notModelled (mnemonic : String)
  deriving DecidableEq, Repr

/-- What has halted the device for good (R519, R527). -/
inductive Halt where
  | running
  | powerWarning
  | fatal
  deriving DecidableEq, Repr

/-- The low half read latched for each master: the register's BAR0 offset and its high half (R49). -/
structure HalfLatch where
  reg : Nat
  high : Nat
  deriving DecidableEq, Repr

/-- The instructions of the test access port (R571). -/
inductive TapInstr where
  | bypass | idcode | samplePreload | extest | extestPulse | extestTrain | clamp | highz
  deriving DecidableEq, Repr

/-- The management port, the masters' latches and the test access port (file 22). -/
structure MgmtState where
  /-- FEATURES.MODE of entry 0x004: 0 idle, 1 I3C, 2 SMBus (R558). -/
  mode : Nat
  /-- I3C dynamic address; 0 for none. -/
  dynAddr : Nat
  /-- MADDR1 and MADDR0 as sampled at the release of PORST_N (R558). -/
  straps : Nat
  /-- Mandatory bytes of the in-band interrupts raised, latest first (R569). -/
  ibis : List Nat
  /-- TRST_N is low; the instruction in force; what it has shifted out last (R571). -/
  trst : Bool
  tap : TapInstr
  tdo : Nat
  /-- Latch of each master, by number 0 management, 1 host, 2 remote (R49). -/
  latches : SMap HalfLatch
  /-- The bytes the latest read returned to its master, or the answer to the latest alert response (R559, R569). -/
  reply : List Byte
  deriving DecidableEq, Repr

/-- The whole block. -/
structure State where
  /-- The commands waiting, first in, first out: the model's own. -/
  pending : List Instr
  /-- Occasions on which a free value was taken: the model's own counter (log entry 6). -/
  freeCount : Nat
  /-- Every register field with a home, by BAR0 offset; an unlisted register holds its Reset value (R16 to R18). -/
  regs : SMap Word
  /-- Memory bytes: DRAM and flash tier by UDA, scratchpads and flash store in areas of their own (log entry 2). -/
  mem : List Host.Cell
  /-- Poisoned granules, by memory key div 32 (R174, R314). -/
  poison : List Nat
  /-- The command journal, by JSEQ (R508). -/
  journal : SMap JEntry
  /-- Physical code of each logical tile (R65); 64 entries. -/
  tileMap : List (Option Nat)
  host : HostState
  mgmt : MgmtState
  /-- The change journal: the entry of each sequence number mod 4,096, as its eight words (R564, R565). -/
  chj : SMap (List Word)
  halt : Halt
  /-- The header and the sections of the active image (R61, R63); none before the first load. -/
  image : Option ImgHeader
  sections : List Section
  /-- Acceptance stopped on every ring (R78, R524, R602). -/
  acceptStop : Bool
  /-- Commands of this JSEQ and later are held undispatched by a partial reload (R84). -/
  holdFrom : Option Nat
  /-- Leads of the yokes that have been dissolved since the last load (R132). -/
  dissolved : List Nat
  tier : TierState
  /-- The retirement record: units out of service, 65,536 × CLASS + INDEX of JRN_READMIT, lanes as class 7 (R507). -/
  retired : List Nat
  /-- Retirements on record of each unit (R531). -/
  retireTimes : SMap Nat
  /-- Armed array faults not yet used, row and column, by physical tile (R143). -/
  arrInj : SMap (Nat × Nat)
  /-- The ring each logical tile last dispatched from (R183). -/
  lastDisp : SMap Nat
  /-- Reservation records not FREE, by 256 × logical tile + record (R224). -/
  resv : SMap ResvSt
  /-- HERD_VALID: the herd check has passed (R56, R87). -/
  herdValid : Bool
  wheel : WheelState
  net : NetState
  /-- What each dispatched or early STREAM has done so far, by JSEQ (R212, R216 to R221). -/
  streams : SMap StreamRun
  /-- ACCUM segments committed and not yet applied by their base dies, in commit order: JSEQ and blocks (R275). -/
  applying : List (Nat × List StagedBlock)
  drover : DroverState
  sweep : SweepState
  diff : DiffState
  /-- The loader action in progress (R88). -/
  load : Option LoadAct
  power : PowerState
  readmit : ReadmitState
  /-- The journal mirror on flash (R527, R528). -/
  mirror : Option Mirror
  deriving DecidableEq, Repr

/-- The host interface after reset: the link is down and nothing is outstanding (R449, R452). -/
def HostState.reset : HostState where
  reads := []
  quarantined := []
  fetched := []
  fetching := []
  failed := []
  retries := []
  groups := []
  bare := []
  rrFetch := 0
  heldEvents := []
  heldVectors := []
  msixEnable := false
  tagBits := 8
  unsignalled := []
  barriers := []
  reserveUsed := []
  out := []

/-- The management port after reset. -/
def MgmtState.reset : MgmtState where
  mode := 0
  dynAddr := 0
  straps := 0
  ibis := []
  trst := false
  tap := .idcode
  tdo := 0
  latches := []
  reply := []

/-- The machine right after cold reset: every register at its Reset value, no Harness, no command (R18, R54, R552). -/
def State.reset : State where
  pending := []
  freeCount := 0
  regs := []
  mem := []
  poison := []
  journal := []
  tileMap := List.replicate 64 none
  host := HostState.reset
  mgmt := MgmtState.reset
  chj := []
  halt := .running
  image := none
  sections := []
  acceptStop := false
  holdFrom := none
  dissolved := []
  tier := TierState.reset
  retired := []
  retireTimes := []
  arrInj := []
  lastDisp := []
  resv := []
  herdValid := false
  wheel := WheelState.reset
  net := NetState.reset
  streams := []
  applying := []
  drover := DroverState.reset
  sweep := SweepState.reset
  diff := DiffState.reset
  load := none
  power := PowerState.reset
  readmit := ⟨[], []⟩
  mirror := none

end Sys2Proof.Machine
end

