-- ==== Sys2Proof/Machine/Ops.lean ====
section
/-! DEFINITION. The named operations over registers, memory, the journal, host memory, events and interrupts: every change of the state goes through these. -/

set_option Elab.async false

namespace Sys2Proof.Machine

/-! Registers. -/

/-- The register that begins at BAR0 offset `a`, as its home holds it. -/
def State.reg (s : State) (a : Nat) : Word := sget (regReset a) s.regs a

/-- The register at `a` set to `w`; a register at its Reset value is not listed. -/
def State.setReg (s : State) (a : Nat) (w : Word) : State := { s with regs := sput (regReset a) s.regs a w }

/-- A field's value. -/
def State.get (s : State) (f : Fld) : Nat := bits (s.reg f.reg) f.lo f.n

/-- A field set. -/
def State.set (s : State) (f : Fld) (v : Nat) : State := s.setReg f.reg (putBits (s.reg f.reg) f.lo f.n v)

/-- A flag field. -/
def State.flag (s : State) (f : Fld) : Bool := s.get f == 1

/-- A flag field set. -/
def State.setFlag (s : State) (f : Fld) (b : Bool) : State := s.set f (b2n b)

/-- A counter that saturates at the field's largest value, raised by `k`. -/
def State.count (s : State) (f : Fld) (k : Nat) : State := s.set f (satAdd (2 ^ f.n - 1) (s.get f) k)

/-- A free-running counter, raised by `k` modulo its width. -/
def State.wrap (s : State) (f : Fld) (k : Nat) : State := s.set f ((s.get f + k) % 2 ^ f.n)

/-- A field that counts down as well as up. -/
def State.lower (s : State) (f : Fld) (k : Nat) : State := s.set f (s.get f - k)

/-- Registers of a list of offsets back at their Reset values. -/
def State.resetRegs (s : State) (p : Nat → Bool) : State := { s with regs := s.regs.filter (fun e => !p e.1) }

/-! Memory. -/

/-- What a byte that nothing has written reads as: 0 (log entry 1). -/
def unwritten : Byte := 0

/-- One byte of memory. -/
def State.rb (s : State) (a : Nat) : Byte := sget unwritten s.mem a

/-- `n` bytes of memory. -/
def State.rbs (s : State) (a : Nat) : Nat → List Byte
  | 0 => []
  | n + 1 => s.rb a :: s.rbs (a + 1) n

/-- One byte of a memory written; the canonical form is kept. -/
def memPut (m : List Host.Cell) (a : Nat) (b : Byte) : List Host.Cell := sput unwritten m a b

/-- Bytes written from `a` on, in a memory. -/
def memPuts (m : List Host.Cell) (a : Nat) : List Byte → List Host.Cell
  | [] => m
  | b :: r => memPuts (memPut m a b) (a + 1) r

/-- Bytes written from `a` on. -/
def State.wbs (s : State) (a : Nat) (bs : List Byte) : State := { s with mem := memPuts s.mem a bs }

/-- `n` zero bytes from `a` on. -/
def State.zero (s : State) (a n : Nat) : State := s.wbs a (List.replicate n 0)

/-- The canonical form of memory: keys strictly rising, no entry equal to what an unlisted address reads as. -/
def Memory.wf (m : List Host.Cell) : Bool := srises m && m.all (fun e => e.2 != unwritten)

/-- Whether a byte's granule is poisoned (R174, R314). -/
def State.poisonedAt (s : State) (a : Nat) : Bool := nmem s.poison (a / 32)

/-- Whether any granule of [a, a + n) is poisoned. -/
def State.poisonedIn (s : State) (a n : Nat) : Bool := decide (0 < n) && s.poison.any (fun g => decide (a / 32 ≤ g) && decide (g ≤ (a + n - 1) / 32))

/-- The granule of key `g` marked poisoned. -/
def State.poisonGranule (s : State) (g : Nat) : State := { s with poison := nadd s.poison g }

/-- Granules that a write of [a, a + n) covers whole lose their poison (R174, R314). -/
def State.cleanse (s : State) (a n : Nat) : State :=
  { s with poison := s.poison.filter (fun g => !(decide (a ≤ 32 * g) && decide (32 * g + 32 ≤ a + n))) }

/-- The memory key of byte `o` of the scratchpad of physical tile `p`. -/
def spKey (p o : Nat) : Nat := 2 ^ 52 + p * 2 ^ 24 + o

/-- The memory key of byte `o` of a flash store area: 0 STORE0, 1 STORE1, 2 ACTIVE_A, 3 ACTIVE_B (R80). -/
def areaKey (a o : Nat) : Nat := 2 ^ 53 + a * 2 ^ 28 + o

/-! The journal. -/

/-- A journal entry. -/
def State.cmd (s : State) (j : Nat) : Option JEntry := sfind s.journal j

/-- A journal entry changed. -/
def State.jmod (s : State) (j : Nat) (f : JEntry → JEntry) : State := { s with journal := smodify s.journal j f }

/-- Whether a journalled command satisfies `p`. -/
def State.cmdIs (s : State) (j : Nat) (p : JEntry → Bool) : Bool :=
  match s.cmd j with
  | some e => p e
  | none => false

/-- The commands of a submission ring that are accepted and not completed, with their JSEQs, oldest first. -/
def State.ofRing (s : State) (r : Nat) : List (Nat × JEntry) := s.journal.filter (fun e => e.2.ring == r && e.2.parent == 0)

/-- A free value, taken at this occasion (log entry 6). -/
def State.freshWord (s : State) : Word × State := (Config.freeWord s.freeCount, { s with freeCount := s.freeCount + 1 })

/-! The host side of the PCIe link. -/

/-- A request put on the link. -/
def State.tx (s : State) (t : HostTx) : State := { s with host := { s.host with out := s.host.out ++ [t] } }

/-- Whether the device may fetch from and write to host memory (R452, R527). -/
def State.hostOpen (s : State) : Bool :=
  s.flag Fld.HIF_STAT_LINKUP && s.flag Fld.HIF_STAT_BME && !s.flag Fld.HIF_STAT_D3 && (s.halt != .powerWarning)

/-- An interrupt message of a vector put on the link, or its pending bit set when the vector is masked (R478). -/
def State.sendVector (s : State) (v : Nat) : State :=
  if bit (s.reg (Reg.MSIX_CTRL v)) 0 then s.setReg (Reg.MSIX_PBA (v / 64)) (putBits (s.reg (Reg.MSIX_PBA (v / 64))) (v % 64) 1 1)
  else s.tx (.msix v (s.reg (Reg.MSIX_ADDR v)) (s.reg (Reg.MSIX_DATA v)).toNat)

/-- A vector signalled: sent at once, or held in order while R452 or a cleared MSI-X Enable holds it. -/
def State.signal (s : State) (v : Nat) : State :=
  if s.halt = .powerWarning then s
  else if s.hostOpen ∧ s.host.msixEnable then s.sendVector v
  else { s with host := { s.host with heldVectors := s.host.heldVectors ++ [v] } }

/-- Address of the slot of index `i` of a host ring with entries of `n` bytes (R454). -/
def State.slotAddr (s : State) (r i n : Nat) : Nat :=
  (s.reg (Reg.RING_BASE r)).toNat / 4096 * 4096 + n * (i % 2 ^ s.get (Fld.RING_CFG_LOG2SIZE r))

/-- PHASE of the entry of index `i` (R469). -/
def State.phase (s : State) (r i : Nat) : Nat := 1 - (i / 2 ^ s.get (Fld.RING_CFG_LOG2SIZE r)) % 2

/-- Entries written since a completion ring last signalled. -/
def State.unsignalled (s : State) (c : Nat) : Nat := sget 0 s.host.unsignalled c

/-- The number of unsignalled entries set. -/
def State.setUnsignalled (s : State) (c n : Nat) : State :=
  { s with host := { s.host with unsignalled := sput 0 s.host.unsignalled c n } }

/-- A completion ring signals its vector (R478). -/
def State.signalRing (s : State) (c : Nat) : State := (s.setUnsignalled c 0).signal (s.get (Fld.RING_CFG_VECTOR c))

/-- An entry written at WRITE of completion ring `c`: two words and the sixteen result bytes, with its PHASE; then the moderation of R478, which `now` bypasses. -/
def State.writeEntry (s : State) (c : Nat) (w0 w1 w2 w3 : Word) (now : Bool) : State :=
  let i := s.get (Fld.RING_IDX_IDX c)
  let w := putBits w0 63 1 (s.phase c i)
  let s := s.tx (.write (s.slotAddr c i 32) (bytesOfWords [w, w1, w2, w3]))
  let s := s.wrap (Fld.RING_IDX_IDX c) 1
  let n := s.unsignalled c + 1
  let s := s.setUnsignalled c n
  if now ∨ s.get (Fld.RING_MOD_HOLDOFF_US c) = 0 ∨ max 1 (s.get (Fld.RING_MOD_COUNT c)) ≤ n then s.signalRing c else s

/-! Events (R479, R480). -/

/-- The event codes of R480. -/
inductive Event where
  | loaderDone | tierDone | linkState | wheelState | vote | tileRetired | portRetired | laneRetired | pchRetired | stackRetired
  | unitRetired | readmitted | streamStuck | recovery | wear | ringError | power | mailbox | ringRetired
  deriving DecidableEq, Repr

/-- The code of an event (R480). -/
def Event.code : Event → Nat
  | .loaderDone => 0x01
  | .tierDone => 0x02
  | .linkState => 0x03
  | .wheelState => 0x04
  | .vote => 0x05
  | .tileRetired => 0x06
  | .portRetired => 0x07
  | .laneRetired => 0x08
  | .pchRetired => 0x09
  | .stackRetired => 0x0A
  | .unitRetired => 0x0B
  | .readmitted => 0x0C
  | .streamStuck => 0x0D
  | .recovery => 0x0E
  | .wear => 0x0F
  | .ringError => 0x10
  | .power => 0x11
  | .mailbox => 0x12
  | .ringRetired => 0x13

/-- The class bit of an event in GLB_EVTSUM (R480, R484). -/
def Event.classBit : Event → Nat
  | .loaderDone => 0
  | .tierDone => 1
  | .linkState => 2
  | .wheelState => 3
  | .vote => 4
  | .tileRetired => 5
  | .portRetired => 5
  | .laneRetired => 5
  | .pchRetired => 5
  | .stackRetired => 5
  | .unitRetired => 5
  | .ringRetired => 5
  | .readmitted => 6
  | .streamStuck => 7
  | .recovery => 8
  | .wear => 9
  | .ringError => 10
  | .power => 11
  | .mailbox => 12

/-- Class bits set and not masked for the management controller (R569). -/
def State.alertBits (s : State) : Nat := s.get Fld.MGT_EVTSUM_CLASS &&& (2 ^ 14 - 1 - s.get Fld.MGT_EVTMASK_MASK)

/-- MALERT_N is asserted, or an in-band interrupt pends (R569). -/
def State.alert (s : State) : Bool := s.alertBits != 0 && (s.mgmt.mode == 2 || (s.mgmt.mode == 1 && s.flag Fld.MGT_CTL_IBIEN))

/-- Under I3C an in-band interrupt is raised while one pends: its mandatory byte is the number of the lowest set unmasked class bit (R569). -/
def State.raiseIbi (s : State) : State :=
  if s.alert ∧ s.mgmt.mode = 1 then { s with mgmt := { s.mgmt with ibis := ((numsFrom 0 14).findIdx (fun i => decide (s.alertBits / 2 ^ i % 2 = 1))) :: s.mgmt.ibis } } else s

/-- A class bit set in GLB_EVTSUM and in MGT_EVTSUM (R479, R569). -/
def State.setClass (s : State) (b : Nat) : State :=
  ((s.setReg Reg.GLB_EVTSUM (putBits (s.reg Reg.GLB_EVTSUM) b 1 1)).setReg Reg.MGT_EVTSUM (putBits (s.reg Reg.MGT_EVTSUM) b 1 1)).raiseIbi

/-- Whether ring `r` is a host completion ring in service that no submission ring pairs with, and enabled (R479). -/
def State.isEventRing (s : State) (r : Nat) : Bool := s.get (Fld.RING_CFG_ROLE r) == 2 && s.flag (Fld.RING_CTL_ENABLE r)

/-- An event record written to the event ring (R479). -/
def State.writeRecord (s : State) (ws : List Word) : State :=
  s.writeEntry (s.get Fld.HIF_EVTCFG_RING) (wget ws 0) (wget ws 1) (wget ws 2) (wget ws 3) false

/-- Whether the event ring has room for one more record beside those held (R479). -/
def State.eventRoom (s : State) : Bool :=
  let r := s.get Fld.HIF_EVTCFG_RING
  decide ((s.get (Fld.RING_IDX_IDX r) + s.host.heldEvents.length + 2 ^ 32 - s.get (Fld.RING_PROD_PROD r)) % 2 ^ 32 < 2 ^ s.get (Fld.RING_CFG_LOG2SIZE r))

/-- An event with an instance and two detail words: its class bits, and its record written, held or lost (R479, R480, R452). -/
def State.raise (s : State) (e : Event) (inst : Nat) (d0 d1 : Word) : State :=
  let s := s.setClass e.classBit
  if bit (s.reg Reg.GLB_EVTMASK) e.classBit ∨ s.halt = .powerWarning then s
  else if s.flag Fld.HIF_EVTCFG_VALID ∧ s.isEventRing (s.get Fld.HIF_EVTCFG_RING) ∧ s.eventRoom then
    let ws := [wordOf [(60, 3, 2), (48, 8, e.code), (18, 16, inst % 2 ^ 16)], s.reg Reg.WHL_NOW, d0, d1]
    if s.hostOpen then s.writeRecord ws
    else { s with host := { s.host with heldEvents := s.host.heldEvents ++ [⟨ws⟩] } }
  else ((s.count Fld.HIF_EVTLOST_COUNT 1).set Fld.HIF_EVTLOST_CODE e.code).setClass 13

/-- Held event records written, oldest first (R452). -/
def State.flushEvents (s : State) : State :=
  s.host.heldEvents.foldl (fun s r => s.writeRecord r.words) { s with host := { s.host with heldEvents := [] } }

/-- Held interrupts sent, oldest first, once MSI-X Enable is set (R452). -/
def State.flushVectors (s : State) : State :=
  if s.host.msixEnable then
    s.host.heldVectors.foldl (fun s v => s.sendVector v) { s with host := { s.host with heldVectors := [] } }
  else s

/-- Everything held under R452 released: event records and interrupts. -/
def State.release (s : State) : State := if s.hostOpen then s.flushEvents.flushVectors else s

/-! Park (R547). -/

/-- The power manager's state changed. -/
def State.pwmod (s : State) (f : PowerState → PowerState) : State := { s with power := f s.power }

/-- An event that ends park: a parked device begins to wake (R547). -/
def State.wake (s : State) : State := if s.power.phase = .parked then s.pwmod (fun p => { p with phase := .waking, ordering := false }) else s

/-! The capability list's generation (R55). -/

/-- One change of the capability list: CAP_GEN rises once before it and once after (R55). -/
def State.capChange (s : State) : State := s.wrap Fld.CAP_GEN_GEN 2

end Sys2Proof.Machine
end

