-- ==== Sys2Proof/Machine/Access.lean ====
section
/-! DEFINITION. The unified device address space: its regions (R33, R35), the address check of a command with its classification (R36, R39, R603), where DRAM addresses lie (R312, R313, R348), and the result of the acceptance checks (R598). -/

set_option Elab.async false

namespace Sys2Proof.Machine

/-- The regions of R33. -/
inductive Region where
  | dramA | dramB | flash | scratch | inbound | registers | reserved
  deriving DecidableEq, Repr

/-- First byte of DRAM set B. -/
def dramBBase : Nat := 0x010000000000
/-- First byte after DRAM set B. -/
def dramBEnd : Nat := 0x013000000000
/-- First byte of the flash tier window. -/
def flashBase : Nat := 0x040000000000
/-- First byte of the scratchpad windows. -/
def scratchBase : Nat := 0x080000000000
/-- First byte after the scratchpad windows. -/
def scratchEnd : Nat := 0x080040000000
/-- First byte of the inbound remote windows. -/
def inboundBase : Nat := 0x0C0000000000
/-- First byte after the inbound remote windows. -/
def inboundEnd : Nat := 0x100000000000
/-- First byte of register space. -/
def registerBase : Nat := 0xFFFFFFE000000
/-- The end of the 52-bit space. -/
def udaEnd : Nat := 0x10000000000000
/-- Backed bytes of a scratchpad slot: 15 MiB. -/
def spSize : Nat := 0xF00000

/-- The region of a byte (R33). -/
def regionOf (a : Nat) : Region :=
  if a < dramBBase then .dramA
  else if a < dramBEnd then .dramB
  else if a < flashBase then .reserved
  else if a < scratchBase then .flash
  else if a < scratchEnd then .scratch
  else if a < inboundBase then .reserved
  else if a < inboundEnd then .inbound
  else if a < registerBase then .reserved
  else .registers

/-- Usable bytes of the flash tier window (R41). -/
def State.flashUsable (s : State) : Nat := usableFrames (s.get Fld.TIER_STAT_TIERCFG) * 65536

/-- First byte of the tier cache, the end of set A when there is none (R316). -/
def State.cacheBase (s : State) : Nat := dramBBase - s.get Fld.TIER_STAT_CACHE * 0x40000000

/-- End of the backed range that holds backed byte `a` (R35); `a` itself when it is not backed. -/
def State.backedEnd (s : State) (a : Nat) : Nat :=
  match regionOf a with
  | .dramA => dramBBase
  | .dramB => dramBEnd
  | .flash => max a (flashBase + s.flashUsable)
  | .scratch => max a (a / 0x1000000 * 0x1000000 + spSize)
  | .registers => udaEnd
  | _ => a

/-- The operations of R39. -/
inductive UdaOp where
  | read | write | accum | row
  deriving DecidableEq, Repr

/-- Whether a region admits an operation (R39). -/
def State.admits (s : State) (o : UdaOp) (r : Region) : Bool :=
  match r, o with
  | .dramA, .row => false
  | .dramA, _ => true
  | .dramB, _ => true
  | .flash, .read => true
  | .flash, .write => s.get Fld.TIER_STAT_TIERCFG == 2
  | .scratch, .read => true
  | .scratch, .write => true
  | _, _ => false

/-- The row-engine region that holds byte `a` of DRAM set B, by index (R347). -/
def State.rowRegionAt (s : State) (a : Nat) : Option (Nat × RowRegion) :=
  if a < dramBBase ∨ dramBEnd ≤ a then none
  else
    let g := (a - dramBBase) / 0x4000000
    (s.tier.rowRegions.zipIdx.find? (fun p => decide (p.1.base ≤ g) && decide (g < p.1.base + p.1.len))).map (fun p => (p.2, p.1))

/-- The lowest byte of [lo, hi] in a row-engine region of any class: where ACCUM is refused (R350). -/
def State.firstInRegions (s : State) (lo hi : Nat) : Option Nat :=
  let hits := s.tier.rowRegions.filterMap (fun r =>
    let b := dramBBase + r.base * 0x4000000
    let e := b + r.len * 0x4000000
    if lo < e ∧ b ≤ hi then some (max lo b) else none)
  hits.foldl (fun m x => match m with
    | none => some x
    | some y => some (min x y)) none

/-- A range that fails an address check: the command's field offset, the reason and the first offending byte (R603). -/
structure AddrFault where
  field : Nat
  reason : Nat
  byte : Nat
  deriving DecidableEq, Repr

/-- The lowest byte of [lo, hi] where the operation meets the tier cache or a refusing region (R316, R350). -/
def State.refusedWithin (s : State) (o : UdaOp) (lo hi : Nat) : Option Nat :=
  let c := if lo < dramBBase ∧ s.cacheBase ≤ hi ∧ s.cacheBase < dramBBase then some (max lo s.cacheBase) else none
  let r := if o = .accum then s.firstInRegions lo hi else none
  match c, r with
  | some a, some b => some (min a b)
  | some a, none => some a
  | none, x => x

/-- The check of one range [lo, hi] of UDA bytes for an operation (R35, R39, R316, R350), classified by R603. -/
def State.checkRange (s : State) (o : UdaOp) (field : Nat) (lo hi : Int) : Option AddrFault :=
  if lo < 0 then some ⟨field, 7, 0⟩
  else if (udaEnd : Int) ≤ hi then some ⟨field, 7, udaEnd - 16⟩
  else
    let b := lo.toNat
    let h := hi.toNat
    let r := regionOf b
    if r = .reserved then some ⟨field, 1, b⟩
    else if r = .inbound then some ⟨field, 5, b⟩
    else if r = .registers then some ⟨field, 6, b⟩
    else if !s.admits o r then some ⟨field, 4, b⟩
    else
      match s.refusedWithin o b h with
      | some x => some ⟨field, 4, x⟩
      | none =>
        let e := s.backedEnd b
        if e = b then some ⟨field, 3, b⟩
        else if h < e then none
        else if regionOf e = r ∧ (r = .flash ∨ (r = .scratch ∧ e % 0x1000000 = spSize)) then some ⟨field, 3, e⟩
        else some ⟨field, 2, e⟩

/-- The check of a local range of `n` bytes at scratchpad offset `o` of logical tile `t`; a range past 15 MiB is reason 0x3 (R603). -/
def checkLocal (t field o n : Nat) : Option AddrFault :=
  if o + n ≤ spSize then none else some ⟨field, 3, scratchBase + t * 0x1000000 + spSize⟩

/-- What the acceptance checks of a command found (R598): a rule that refuses with REJECTED_SHAPE, one that refuses with REJECTED_FORMAT, a zero shape, and the ranges that fail. -/
structure Check where
  shape : Bool
  format : Bool
  zero : Bool
  addr : List AddrFault
  deriving DecidableEq, Repr

/-- Nothing wrong. -/
def Check.good : Check := ⟨false, false, false, []⟩

/-- Two checks together. -/
def Check.and (a b : Check) : Check := ⟨a.shape || b.shape, a.format || b.format, a.zero || b.zero, a.addr ++ b.addr⟩

/-- Many checks together. -/
def Check.all (l : List Check) : Check := l.foldl Check.and Check.good

/-- A rule that refuses with REJECTED_SHAPE, broken when `bad`. -/
def shapeIf (bad : Bool) : Check := { Check.good with shape := bad }

/-- A rule that refuses with REJECTED_FORMAT, broken when `bad`. -/
def formatIf (bad : Bool) : Check := { Check.good with format := bad }

/-- A zero shape (R195). -/
def zeroIf (z : Bool) : Check := { Check.good with zero := z }

/-- An address check, made unless the command has a zero shape (R598). -/
def addrCheck (f : Option AddrFault) : Check := { Check.good with addr := f.toList }

/-- The status codes of R471. -/
inductive Status where
  | ok | empty | split | replayedOk | skippedStep | rejectedShape | rejectedFormat | memError | flashError | linkLost | timeout | cancelled
  deriving DecidableEq, Repr

/-- The encoding of a status (R471). -/
def Status.num : Status → Nat
  | .ok => 0x00
  | .empty => 0x01
  | .split => 0x02
  | .replayedOk => 0x03
  | .skippedStep => 0x04
  | .rejectedShape => 0x10
  | .rejectedFormat => 0x11
  | .memError => 0x20
  | .flashError => 0x21
  | .linkLost => 0x22
  | .timeout => 0x23
  | .cancelled => 0x30

/-- The refusal a check gives (R598): the command's status at acceptance, none when it is to run. -/
def Check.verdict (c : Check) : Option Status :=
  let addr := if c.zero then [] else c.addr
  if c.shape ∨ ¬ addr.isEmpty then some .rejectedShape
  else if c.format then some .rejectedFormat
  else if c.zero then some .empty
  else none

/-- Of two address faults, the one R603 records: the lowest reason, then the lowest field. -/
def AddrFault.prefer (a b : AddrFault) : AddrFault :=
  if b.reason < a.reason ∨ (b.reason = a.reason ∧ b.field < a.field) then b else a

/-- CAP_UDAERR after a command whose check found address faults (R37, R603). -/
def State.recordUda (s : State) (c : Check) : State :=
  match (if c.zero then [] else c.addr) with
  | [] => s
  | f :: r =>
    let g := r.foldl AddrFault.prefer f
    ((s.count Fld.CAP_UDAERR_COUNT 1).set Fld.CAP_UDAERR_REASON g.reason).set Fld.CAP_UDAERR_ADDR (g.byte / 16)

/-! Where DRAM addresses lie (R312, R313, R348). -/

/-- The pseudo-channel of the package that holds a DRAM byte, and its location there. -/
def State.dramPlace (s : State) (a : Nat) : Nat × Nat :=
  if a < dramBBase then
    let q := a / 256
    (32 * (q % 16) + q / 16 % 32, q / 512)
  else
    let b := a - dramBBase
    match s.rowRegionAt a with
    | some _ =>
      let g := b / 0x4000000
      let r := b % 0x4000000
      let p := r / 1024 % 128
      (32 * (16 + p % 4) + p / 4, g * 2048 + r / 131072 * 4 + r % 1024 / 256)
    | none =>
      let q := b / 256
      (32 * (16 + q % 4) + q / 4 % 32, q / 128)

/-- The stack of a DRAM byte. -/
def State.stackOf (s : State) (a : Nat) : Nat := (s.dramPlace a).1 / 32

/-- The UDA of byte `o` of tier cache slot `n` (R312, R316). -/
def State.slotByte (s : State) (n o : Nat) : Nat :=
  let g := o / 256
  let loc := 8388608 - s.get Fld.TIER_STAT_CACHE * 8192 + n / 16 * 256 + g / 32
  ((loc * 32 + g % 32) * 16 + n % 16) * 256 + o % 256

/-- Locations of a pseudo-channel that lie outside the tier cache, in chunks of 8,192 (R337). -/
def State.chunksOfPch (s : State) (p : Nat) : Nat := if p < 512 then 1024 - s.get Fld.TIER_STAT_CACHE else 768

/-- Whether a unit of the start order has not started, or is parked: CLASS and INDEX of R548. -/
def State.unitDown (s : State) (cls idx : Nat) : Bool := s.power.down.contains (65536 * cls + idx)

/-- Whether a unit is out of service: CLASS and INDEX of JRN_READMIT. -/
def State.isRetired (s : State) (cls idx : Nat) : Bool := nmem s.retired (65536 * cls + idx)

/-- How an access to one DRAM location stands: served, waiting for a chunk's copy, or lost (R337, R338, R340). -/
inductive DramAccess where
  | served | waits | lost
  deriving DecidableEq, Repr

/-- The directory slot that holds a relocation chunk, with whether its copy has committed. -/
def State.chunkSlot (s : State) (p c : Nat) : Option (Nat × Bool) :=
  (s.tier.dir.find? (fun e => e.2.st == .relocated && e.2.pch == p && e.2.chunk == c)).map (fun e => (e.1, e.2.copied))

/-- An access to the location that holds DRAM byte `a`. -/
def State.dramAccess (s : State) (a : Nat) : DramAccess :=
  let pl := s.dramPlace a
  if s.unitDown 1 (pl.1 / 32) then .waits else
  match sfind s.tier.pchs pl.1 with
  | none => .served
  | some .lost => .lost
  | some .copyingBack => .served
  | some _ =>
    if s.chunksOfPch pl.1 ≤ pl.2 / 8192 then .served
    else match s.chunkSlot pl.1 (pl.2 / 8192) with
      | some (_, true) => .served
      | _ => .waits

/-- The locations that a byte range touches, as one byte of each. -/
def locationsOf (a n : Nat) : List Nat := if n = 0 then [] else numsFrom (a / 256) ((a + n - 1) / 256 - a / 256 + 1) |>.map (· * 256)

/-- A whole DRAM range as the stacks hold it: lost if any location is lost, waiting if any waits. -/
def State.dramHeld (s : State) (a n : Nat) : DramAccess :=
  if s.tier.pchs = [] ∧ s.power.down = [] then .served
  else
    let l := (locationsOf a n).map (fun x => s.dramAccess (max a x))
    if l.any (· == .lost) then .lost else if l.any (· == .waits) then .waits else .served

/-- Whether a range reaches a block whose committed contributions are not yet applied (R275). -/
def State.unapplied (s : State) (a n : Nat) : Bool :=
  s.applying.any (fun g => g.2.any (fun b => overlaps a n b.value 32 || overlaps a n b.resid 32 || overlaps a n b.scale 1))

/-- An access to a whole DRAM range: one that reaches an unapplied block waits until the block is applied (R275). -/
def State.dramRange (s : State) (a n : Nat) : DramAccess :=
  match s.dramHeld a n with
  | .served => if s.unapplied a n then .waits else .served
  | x => x

/-- The scratchpad slot's logical tile and offset of a UDA byte in the scratchpad windows (R40). -/
def slotTile (a : Nat) : Nat × Nat := ((a - scratchBase) / 0x1000000, (a - scratchBase) % 0x1000000)

/-- The physical tile of a logical tile, if one is mapped (R65). -/
def State.phys (s : State) (t : Nat) : Option Nat := s.tileMap.getD t none

/-- Whether a logical tile is mapped. -/
def State.mapped (s : State) (t : Nat) : Bool := (s.phys t).isSome

end Sys2Proof.Machine
end

