-- ==== Sys2Proof/Machine/Marks.lean ====
section
/-! DEFINITION. Ready marks, credit pools and the slots that name them (R176 to R180, R185). -/

set_option Elab.async false

namespace Sys2Proof.Machine

/-- A wait, signal, TAKE or GIVE slot: a mark or pool, and a count (R185). -/
structure Slot where
  idx : Nat
  n : Nat
  deriving DecidableEq, Repr

/-- A mark slot of 16 bits: MARK in [15:10], COUNT or INC in [9:0] (R185). -/
def markSlot (w : Word) (lo : Nat) : Slot := ⟨bits w (lo + 10) 6, bits w lo 10⟩

/-- A pool slot of 16 bits: POOL in [15:11], AMOUNT in [10:0] (R185). -/
def poolSlot (w : Word) (lo : Nat) : Slot := ⟨bits w (lo + 11) 5, bits w lo 11⟩

/-- The four wait slots of a slot word, WAIT0 first (R185). -/
def waitSlots (w : Word) : List Slot := [markSlot w 0, markSlot w 16, markSlot w 32, markSlot w 48]

/-- The two signal slots of a slot word, SIG0 first (R185). -/
def sigSlots (w : Word) : List Slot := [markSlot w 0, markSlot w 16]

/-- The slots in use: those with a count (R185). -/
def usedSlots (l : List Slot) : List Slot := l.filter (fun x => x.n != 0)

/-- Whether a slot breaks R185: no count, and yet a mark or pool. -/
def slotBad (x : Slot) : Bool := x.n == 0 && x.idx != 0

/-- Whether two slots of a list name one mark (R177). -/
def slotsRepeat : List Slot → Bool
  | [] => false
  | x :: r => r.any (fun y => y.idx == x.idx) || slotsRepeat r

/-- Whether the wait slots break R177 or R185. -/
def waitsBad (w : Word) : Bool := (waitSlots w).any slotBad || slotsRepeat (usedSlots (waitSlots w))

/-- Whether the signal slots break R185. -/
def sigsBad (w : Word) : Bool := (sigSlots w).any slotBad

/-! Marks and pools of a logical tile. -/

/-- A mark's count. -/
def State.markCount (s : State) (t m : Nat) : Nat := s.get (Fld.TILE_MARK_COUNT t m)

/-- Whether a mark is poisoned. -/
def State.markPoison (s : State) (t m : Nat) : Bool := s.flag (Fld.TILE_MARK_POISON t m)

/-- An increment of a mark, saturating; a saturation is counted at the tile's physical tile (R177). -/
def State.raiseMark (s : State) (t m inc : Nat) : State :=
  let v := s.markCount t m + inc
  if 65535 < v then
    let s := s.set (Fld.TILE_MARK_COUNT t m) 65535
    match s.phys t with
    | some p => (s.count (Fld.TILE_MARKOVF_COUNT p) 1).set (Fld.TILE_MARKOVF_MARK p) m
    | none => s
  else s.set (Fld.TILE_MARK_COUNT t m) v

/-- A mark poisoned (R180). -/
def State.poisonMark (s : State) (t m : Nat) : State := s.set (Fld.TILE_MARK_POISON t m) 1

/-- A pool's count. -/
def State.pool (s : State) (t p : Nat) : Nat := s.get (Fld.TILE_CREDIT_COUNT t p)

/-- Credits given to a pool, saturating; a saturation is counted at the tile's physical tile (R178). -/
def State.giveCredit (s : State) (t p n : Nat) : State :=
  let v := s.pool t p + n
  if 65535 < v then
    let s := s.set (Fld.TILE_CREDIT_COUNT t p) 65535
    match s.phys t with
    | some q => (s.count (Fld.TILE_CRDOVF_COUNT q) 1).set (Fld.TILE_CRDOVF_POOL q) p
    | none => s
  else s.set (Fld.TILE_CREDIT_COUNT t p) v

/-- Credits taken from a pool (R178). -/
def State.takeCredit (s : State) (t p n : Nat) : State := s.lower (Fld.TILE_CREDIT_COUNT t p) n

/-- Whether every used wait slot is satisfied: the count reaches it and the mark is not poisoned (R177). -/
def State.waitsMet (s : State) (t : Nat) (l : List Slot) : Bool :=
  (usedSlots l).all (fun x => decide (x.n ≤ s.markCount t x.idx) && !s.markPoison t x.idx)

/-- Whether a used wait slot names a poisoned mark (R180). -/
def State.waitsPoisoned (s : State) (t : Nat) (l : List Slot) : Bool := (usedSlots l).any (fun x => s.markPoison t x.idx)

/-- The number of the first wait slot that is not satisfied (TILE_RINGSTAT.SLOT). -/
def State.firstUnmet (s : State) (t : Nat) (l : List Slot) : Nat :=
  (l.findIdx? (fun x => x.n != 0 && (decide (s.markCount t x.idx < x.n) || s.markPoison t x.idx))).getD 0

/-- The wait slots' counts subtracted (R177). -/
def State.consumeWaits (s : State) (t : Nat) (l : List Slot) : State :=
  (usedSlots l).foldl (fun s x => s.lower (Fld.TILE_MARK_COUNT t x.idx) x.n) s

/-- The signal slots' increments added (R177). -/
def State.signalMarks (s : State) (t : Nat) (l : List Slot) : State :=
  (usedSlots l).foldl (fun s x => s.raiseMark t x.idx x.n) s

/-- The signal slots' marks poisoned (R180). -/
def State.poisonMarks (s : State) (t : Nat) (l : List Slot) : State :=
  (usedSlots l).foldl (fun s x => s.poisonMark t x.idx) s

/-! The slots of a journalled command, by its target (R185, R241, R280, R290, R353, R419, R457). -/

/-- OP of a host operation's envelope (R457). -/
def hostOp (ws : List Word) : Nat := bits (wget ws 0) 56 8

/-- The wait slots of a command. -/
def JEntry.waits (e : JEntry) : List Slot :=
  match e.target with
  | .host => if hostOp e.words = 3 then [] else waitSlots (wget e.words 2)
  | _ => waitSlots (wget e.words 2)

/-- The signal slots of a command. -/
def JEntry.sigs (e : JEntry) : List Slot := sigSlots (wget e.words 3)

/-- The logical tile whose marks the wait slots name. -/
def JEntry.srcTile (e : JEntry) : Nat :=
  match e.target with
  | .host => bits (wget e.words 3) 58 6
  | .drover _ => bits (wget e.words 0) 38 6
  | .tileRing _ => e.tile
  | _ => bits (wget e.words 0) 46 6

/-- The logical tile whose marks the signal slots name. -/
def JEntry.dstTile (e : JEntry) : Nat :=
  match e.target with
  | .host => bits (wget e.words 3) 52 6
  | .drover _ => bits (wget e.words 0) 32 6
  | .tileRing _ => e.tile
  | _ => bits (wget e.words 0) 40 6

/-- TAKE of a tile command. -/
def JEntry.take (e : JEntry) : Slot := poolSlot (wget e.words 3) 32

/-- GIVE of a tile command. -/
def JEntry.give (e : JEntry) : Slot := poolSlot (wget e.words 3) 48

/-- KIND of a tile command (R186). -/
def JEntry.kind (e : JEntry) : Nat := bits (wget e.words 0) 56 8

/-- OP of a tile command. -/
def JEntry.op (e : JEntry) : Nat := bits (wget e.words 0) 48 8

/-- Whether the entry is a tile command. -/
def JEntry.onTile (e : JEntry) : Bool :=
  match e.target with
  | .tileRing _ => true
  | _ => false

/-- The tile work ring of a tile command. -/
def JEntry.tileRing (e : JEntry) : Nat :=
  match e.target with
  | .tileRing r => r
  | _ => 0

/-- Whether the entry is a STREAM. -/
def JEntry.isStream (e : JEntry) : Bool := e.onTile && e.kind == 4

/-- The progress mark of a STREAM, a slot of its PINC; unused when PINC is 0 (R203). -/
def JEntry.pmark (e : JEntry) : Slot := if e.isStream then ⟨bits (wget e.words 5) 42 6, bits (wget e.words 6) 54 10⟩ else ⟨0, 0⟩

/-- Whether a wait slot of the command is poisoned. -/
def State.waitPoisoned (s : State) (e : JEntry) : Bool := s.waitsPoisoned e.srcTile e.waits

/-- Whether the wait slots of the command are satisfied. -/
def State.waitsOk (s : State) (e : JEntry) : Bool := s.waitsMet e.srcTile e.waits

/-- What a command's end does to its signal marks (R180, R215): poison, its progress mark among them, unless the refusal poisons none. -/
def State.poisonSignals (s : State) (e : JEntry) : State :=
  if e.mute then s else s.poisonMarks e.dstTile (e.sigs ++ [e.pmark])

end Sys2Proof.Machine
end

