-- ==== Sys2Proof/Machine/TierOps.lean ====
section
/-! DEFINITION. The tier controller's shared operations: objects and homes (R320, R321), the directory, lookups and replacement (R323 to R325), write-backs (R328), and deferred requests (R329). -/

set_option Elab.async false

namespace Sys2Proof.Machine

/-- The tier state changed. -/
def State.tmod (s : State) (f : TierState → TierState) : State := { s with tier := f s.tier }

/-- The current revolution (R19). -/
def State.revNow (s : State) : Nat := s.get Fld.WHL_NOW_REV

/-! Objects and homes. -/

/-- The object that holds a frame of the window: its first frame and its length in frames (R320). -/
def State.objectOf (s : State) (fr : Nat) : Nat × Nat :=
  match s.tier.flashRegions.find? (fun r => decide (r.frame ≤ fr) && decide (fr < r.frame + r.nframes)) with
  | some r => (r.frame + (fr - r.frame) / r.obj * r.obj, r.obj)
  | none =>
    let a := fr / 32 * 32
    let lo := s.tier.flashRegions.foldl (fun m r => if r.frame + r.nframes ≤ fr then max m (r.frame + r.nframes) else m) a
    let hi := s.tier.flashRegions.foldl (fun m r => if fr < r.frame then min m r.frame else m) (a + 32)
    (lo, hi - lo)

/-- The frame of a byte of the flash tier window. -/
def frameOf (a : Nat) : Nat := (a - flashBase) / 65536

/-- The flash key of byte `o` of frame `fr`: the byte's UDA. -/
def frameKey (fr o : Nat) : Nat := flashBase + 65536 * fr + o

/-- Whether flash stack `f` is in service. -/
def State.flashIn (s : State) (f : Nat) : Bool := !s.isRetired 4 (32 + f)

/-- A flash stack's record. -/
def State.flashStack (s : State) (f : Nat) : FlashStack := sget ⟨true, false, false⟩ s.tier.fstacks f

/-- Frames allocated on a flash stack (R321). -/
def State.framesUsed (s : State) (f : Nat) : Nat :=
  (s.tier.homes.map (fun h => if h.2 = f then (s.objectOf h.1).2 else 0)).foldl (· + ·) 0

/-- Frames a flash stack offers under the active configuration (R319). -/
def State.framesOfStack (s : State) : Nat := usableFrames (s.get Fld.TIER_STAT_TIERCFG) / 4

/-- Whether a flash stack takes allocations (R321, R340, R342). -/
def State.takesAlloc (s : State) (f : Nat) : Bool := s.flashIn f && (s.flashStack f).eligible && !(s.flashStack f).worn

/-- The stack that an allocation of `n` frames chooses: most free frames, the lower number among equals (R321). -/
def State.chooseHome (s : State) (n : Nat) : Option Nat :=
  let c := (numsFrom 0 4).filter (fun f => s.takesAlloc f && decide (n ≤ s.framesOfStack - s.framesUsed f))
  c.foldl (fun b f => match b with
    | none => some f
    | some g => if s.framesOfStack - s.framesUsed g < s.framesOfStack - s.framesUsed f then some f else some g) none

/-- An object given a home, if any stack can take it (R321). -/
def State.allocObject (s : State) (fr n : Nat) : Option State :=
  (s.chooseHome n).map (fun f => s.tmod (fun t => { t with homes := sinsert t.homes fr f, lostObjs := ndel t.lostObjs fr }))

/-- An object's home made fit to be programmed: kept, or re-allocated when its stack is retired or worn (R339, R342). -/
def State.fitHome (s : State) (fr n : Nat) : Option State :=
  match sfind s.tier.homes fr with
  | some f => if s.flashIn f ∧ ¬ (s.flashStack f).worn then some s else (s.tmod (fun t => { t with homes := serase t.homes fr })).allocObject fr n
  | none => s.allocObject fr n

/-! The directory. -/

/-- The entry of a slot; none for FREE. -/
def State.dirEnt (s : State) (n : Nat) : Option DirEnt := sfind s.tier.dir n

/-- An entry put into a slot. -/
def State.dirPut (s : State) (n : Nat) (e : DirEnt) : State := s.tmod (fun t => { t with dir := sinsert t.dir n e })

/-- An entry changed. -/
def State.dirMod (s : State) (n : Nat) (f : DirEnt → DirEnt) : State := s.tmod (fun t => { t with dir := smodify t.dir n f })

/-- A slot made FREE. -/
def State.dirFree (s : State) (n : Nat) : State := s.tmod (fun t => { t with dir := serase t.dir n })

/-- Whether a slot's stack has its slots in service. -/
def State.slotIn (s : State) (n : Nat) : Bool := !nmem s.tier.withdrawn (n % 16)

/-- Slots of the package, in service or not (R316). -/
def State.slotCount (s : State) : Nat := 512 * s.get Fld.TIER_STAT_CACHE

/-- Slots in service. -/
def State.slotsIn (s : State) : Nat := 32 * s.get Fld.TIER_STAT_CACHE * (16 - s.tier.withdrawn.length)

/-- Entries in a directory state. -/
def State.dirCount (s : State) (d : DirSt) : Nat := (s.tier.dir.filter (fun e => e.2.st == d)).length

/-- FREE slots in service. -/
def State.slotsFree (s : State) : Nat := s.slotsIn - (s.tier.dir.filter (fun e => s.slotIn e.1)).length

/-- The lowest FREE slot in service. -/
def State.freeSlot (s : State) : Option Nat := firstFrom (fun n => s.slotIn n && (s.dirEnt n).isNone) 0 s.slotCount

/-- The entry of an object: its slot, if it is resident or being promoted. -/
def State.dirOf (s : State) (fr : Nat) : Option (Nat × DirEnt) :=
  s.tier.dir.find? (fun e => e.2.st != .relocated && e.2.frame == fr)

/-- Of two entries, the one whose last access lies further back; the lower slot between equals (R325). -/
def older (a b : Nat × DirEnt) : Nat × DirEnt := if b.2.age < a.2.age ∨ (b.2.age = a.2.age ∧ b.1 < a.1) then b else a

/-- The oldest entry that satisfies `p`. -/
def State.oldestWhere (s : State) (p : Nat × DirEnt → Bool) : Option (Nat × DirEnt) :=
  match s.tier.dir.filter p with
  | [] => none
  | e :: r => some (r.foldl older e)

/-- Whether a DIRTY entry can be written back: its object has, or can get, a home that takes programs (R342). -/
def State.canWriteBack (s : State) (e : DirEnt) : Bool := (s.fitHome e.frame e.size).isSome

/-- The victim of R325, with R342's last choice. -/
def State.victim (s : State) : Option (Nat × DirEnt) :=
  let un (e : Nat × DirEnt) : Bool := e.2.pins.isEmpty && s.slotIn e.1
  match s.oldestWhere (fun e => un e && e.2.st == .clean) with
  | some e => some e
  | none =>
    match s.oldestWhere (fun e => un e && e.2.st == .dirty && s.canWriteBack e.2) with
    | some e => some e
    | none => s.oldestWhere (fun e => un e && e.2.st == .dirty)

/-- A write-back of a slot begun in state CLEANING or EVICTING; none when no stack can take the object (R328, R342). -/
def State.startWriteBack (s : State) (n : Nat) (st : DirSt) : Option State :=
  match s.dirEnt n with
  | none => none
  | some e => (s.fitHome e.frame e.size).map (fun s => s.dirMod n (fun e => { e with st := st, rewritten := 0, redirty := false }))

/-! Tier operations' progress (R330, R331). -/

/-- The end of a tier operation with a code: TIER_OPSTAT and the tier event. -/
def State.endTierOp (s : State) (code : Nat) : State :=
  let s := s.tmod (fun t => { t with op := none })
  let s := s.set Fld.TIER_OPSTAT_CODE code
  s.raise .tierDone 0 (s.reg Reg.TIER_OPSTAT) 0

/-- The operation ends when nothing is left to wait for. -/
def State.checkTierOp (s : State) : State :=
  match s.tier.op with
  | none => s
  | some o =>
    if o.slots = [] ∧ o.todo = [] ∧ o.programming = none then s.endTierOp (if o.aborted then 6 else if o.failed then 5 else 0)
    else s

/-- One object of the operation in progress finished. -/
def State.opFinished (s : State) (n : Nat) : State :=
  match s.tier.op with
  | none => s
  | some o =>
    if (sfind o.slots n).isNone then s
    else
      ((s.count Fld.TIER_OPSTAT_OBJECTS 1).tmod (fun t => { t with op := some { o with slots := serase o.slots n } })).checkTierOp

/-- The operation meets an object that cannot be written back (R342). -/
def State.opFailed (s : State) (n : Nat) : State :=
  match s.tier.op with
  | none => s
  | some o =>
    if (sfind o.slots n).isNone then s
    else (s.tmod (fun t => { t with op := some { o with slots := serase o.slots n, failed := true } })).checkTierOp

/-- A CLEAN entry freed, counted (TIER_EVCNT). -/
def State.freeClean (s : State) (n : Nat) : State := ((s.dirFree n).count Fld.TIER_EVCNT_CLEAN 1).opFinished n

/-- A requested eviction or invalidation of a slot evaluated (R329): carried out when the entry is unpinned and not PROMOTING. -/
def State.evalRequest (s : State) (n : Nat) : State :=
  match s.dirEnt n with
  | none => s
  | some e =>
    if ¬ e.pins.isEmpty ∨ e.st = .promoting then s
    else if e.invreq then (s.dirFree n).opFinished n
    else if e.evreq then
      match e.st with
      | .clean => s.freeClean n
      | .dirty =>
        match s.startWriteBack n .evicting with
        | some s => s
        | none => (s.dirMod n (fun e => { e with evreq := false })).opFailed n
      | _ => s
    else s

/-- A pin of a command on a slot released, and a deferred request re-evaluated when none is left (R323, R329). -/
def State.unpin (s : State) (n j : Nat) : State :=
  let s := s.dirMod n (fun e => { e with pins := e.pins.erase j })
  s.evalRequest n

/-- Every pin of a command released. -/
def State.unpinAll (s : State) (j : Nat) : State :=
  s.tier.dir.foldl (fun s e => if e.2.pins.contains j then
    (s.dirMod e.1 (fun e => { e with pins := e.pins.filter (· != j) })).evalRequest e.1 else s) s

/-! Lookups (R324, R325). -/

/-- What a lookup gives: a slot to serve from, or a halt with reason TIER, the slot waited for known or not. -/
inductive Lookup where
  | serve (slot : Nat)
  | halt
  deriving DecidableEq, Repr

/-- A controller request tag of a stack that is neither in use nor in quarantine (R334). -/
def State.flashTag (s : State) (f : Nat) : Nat :=
  (firstFrom (fun t => !nmem s.tier.quarantine (65536 * f + t) && !s.tier.dir.any (fun e => e.2.st == .promoting && e.2.tag == 65536 * f + t)) 0 65536).getD 0

/-- A promotion of an object begun in a free slot, pinned by a command (R324, R326). -/
def State.startPromotion (s : State) (n j fr sz : Nat) : State :=
  let f := (sfind s.tier.homes fr).getD 0
  s.dirPut n { DirEnt.blank with st := .promoting, pins := [j], frame := fr, size := sz, age := s.revNow, tag := 65536 * f + s.flashTag f }

/-- Replacement for a lookup that finds no FREE slot (R325): a CLEAN victim's slot at once, a DIRTY victim's write-back begun. -/
def State.replace (s : State) : Option Nat × State :=
  match s.victim with
  | none => (none, s.count Fld.TIER_NOSLOT_COUNT 1)
  | some (n, e) =>
    if e.st = .clean then (some n, s.freeClean n)
    else
      match s.startWriteBack n .evicting with
      | some s => (none, s)
      | none => (none, s.count Fld.TIER_NOSLOT_COUNT 1)

/-- Whether an entry is what replacement would choose next while no slot is FREE (R329, TIER_XCNT.CANCELLED). -/
def State.spared (s : State) (n : Nat) : Bool := s.freeSlot.isNone && (match s.victim with
  | some v => v.1 == n
  | none => false)

/-- The lookup of the object that holds frame `fr`, by command `j`, for a read or a write (R324). The entry found is pinned. -/
def State.lookup (s : State) (j fr : Nat) (write : Bool) : Lookup × State :=
  let o := s.objectOf fr
  match s.dirOf o.1 with
  | none =>
    match s.freeSlot with
    | some n => (.halt, s.startPromotion n j o.1 o.2)
    | none =>
      match s.replace with
      | (some n, s) => (.halt, s.startPromotion n j o.1 o.2)
      | (none, s) => (.halt, s)
  | some (n, e) =>
    let s := if s.spared n then s.count Fld.TIER_XCNT_CANCELLED 1 else s
    let s := s.dirMod n (fun e => { e with pins := j :: e.pins, age := s.revNow })
    match e.st with
    | .promoting => (.halt, s)
    | .evicting => if write then (.halt, s) else (.serve n, s.count Fld.TIER_XCNT_VICTIMREAD 1)
    | _ => (.serve n, s)

/-- Frames of an object that bytes [o, o + n) of it touch, as a mask. -/
def frameMask (o n : Nat) : Nat := if n = 0 then 0 else 2 ^ ((o + n - 1) / 65536 + 1) - 2 ^ (o / 65536)

/-- An entry after a write of the frames in `m` in revolution `r` (R324, R328). -/
def DirEnt.written (e : DirEnt) (m r : Nat) : DirEnt :=
  match e.st with
  | .clean => { e with st := .dirty, mask := e.mask ||| m, wrote := r }
  | .cleaning => { e with redirty := true, mask := e.mask ||| m, rewritten := e.rewritten ||| m, wrote := r }
  | _ => { e with mask := e.mask ||| m, wrote := r }

/-- A write of bytes [o, o + n) of a served slot's object noted in the directory; none when it cannot be allocated (R321, R324, R328). -/
def State.noteWrite (s : State) (n o k : Nat) : Option State :=
  match s.dirEnt n with
  | none => none
  | some e =>
    let put (s : State) : State := s.dirMod n (fun e => e.written (frameMask o k) s.revNow)
    if e.st = .clean then (s.fitHome e.frame e.size).map put else some (put s)

end Sys2Proof.Machine
end

