-- ==== Sys2Proof/Machine/Plan.lean ====
section
/-! DEFINITION. What the loaded Harness says: flags, format rows, array shapes, yokes and curves (R62, R66 to R68, R152, R154). -/

set_option Elab.async false

namespace Sys2Proof.Machine

/-- The body of the active image's section of one TYPE; empty when absent. -/
def State.section_ (s : State) (t : Nat) : List Byte := (bodyOf s.sections t).getD []

/-- Whether the active image has a section of one TYPE. -/
def State.hasSection (s : State) (t : Nat) : Bool := (bodyOf s.sections t).isSome

/-- A FLAGS bit of the active image (R62). -/
def State.hflag (s : State) (i : Nat) : Bool :=
  match s.image with
  | some h => h.flags / 2 ^ i % 2 == 1
  | none => false

/-- Row `r` of the active format table (R68). -/
def State.fmt (s : State) (r : Nat) : FmtRow := fmtRowOf (s.section_ 4) r

/-- SEED of the active format table (R68). -/
def State.seed (s : State) : Word := wordAt (s.section_ 4) 0

/-- Whether a shape of the encoding of TILE_ARRSTAT is enabled (R67); 128 × 128 alone without a section. -/
def State.shapeOn (s : State) (v : Nat) : Bool := shapeEnabled (bits (wordAt (s.section_ 3) 0) 0 2) v

/-- The shape a Harness names for a logical tile (R67). -/
def State.harnessShape (s : State) (t : Nat) : Nat := ((s.section_ 3).getD (8 + t) 0).toNat

/-- The yoke value of a logical tile: 0 none, 1 of two, 2 of four; 0 once dissolved (R66, R132). -/
def State.yoke (s : State) (t : Nat) : Nat :=
  let v := yokeByte (s.section_ 2) t
  if nmem s.dissolved ((yokeMembersOf v t).headD t) then 0 else v

/-- The members of a tile's yoke, the tile alone when it is in none; the lead is first (R128). -/
def State.yokeMembers (s : State) (t : Nat) : List Nat := yokeMembersOf (s.yoke t) t

/-- The lead of a tile's yoke (R128). -/
def State.yokeLead (s : State) (t : Nat) : Nat := (s.yokeMembers t).headD t

/-! Curves (R152, R154). -/

/-- COUNT and SEGS of a curve tables section. -/
def curveCounts (bs : List Byte) : Nat × Nat := (bits (wordAt bs 0) 0 6, bits (wordAt bs 8) 0 11)

/-- Layout length of a curve tables section (R600). -/
def curveLength (bs : List Byte) : Nat := 576 + 32 * (curveCounts bs).2

/-- Offset of segment record `i`. -/
def segOff (i : Nat) : Nat := 576 + 32 * i

/-- Segment record `i` (R152). -/
def curveSeg (bs : List Byte) (i : Nat) : CurveSeg :=
  let f (k : Nat) : F32 := BitVec.ofNat 32 (word32At bs (segOff i + 4 * k))
  ⟨f 0, f 1, f 2, [f 3, f 4, f 5, f 6], word32At bs (segOff i + 28) % 4⟩

/-- FIRST and NSEG of directory entry `c`. -/
def curveSpan (bs : List Byte) (c : Nat) : Nat × Nat :=
  let w := wordAt bs (64 + 16 * c)
  (bits w 22 10, bits w 11 11)

/-- Curve `c` of a section (R152); an unused entry is a curve without segments. -/
def curveOf (bs : List Byte) (c : Nat) : Curve :=
  let w := wordAt bs (64 + 16 * c)
  let sp := curveSpan bs c
  let kind := bits w 0 2
  { kind := kind, miss := bits w 2 2, row := bits w 4 4,
    segs := if kind = 1 then (numsFrom sp.1 sp.2).map (curveSeg bs) else [],
    table := if kind = 2 then (numsFrom 0 256).map (fun k => BitVec.ofNat 32 (word32At bs (segOff sp.1 + 4 * k))) else [] }

/-- Curve `c` of the active image. -/
def State.curve (s : State) (c : Nat) : Curve := curveOf (s.section_ 5) c

/-- Whether directory entry `c` is a lookup curve. -/
def curveIsLookup (bs : List Byte) (c : Nat) : Bool := bits (wordAt bs (64 + 16 * c)) 0 2 == 2

/-- The segment records that some lookup curve of a section uses. -/
def lookupRecord (bs : List Byte) (i : Nat) : Bool :=
  (numsFrom 0 32).any (fun c => curveIsLookup bs c && decide ((curveSpan bs c).1 ≤ i) && decide (i < (curveSpan bs c).1 + 32))

/-- Reserved bits of a curve tables section (R152). -/
def curveReserved (bs : List Byte) : List SecFault :=
  let cnt := curveCounts bs
  reservedIn bs 0 0 0x3F ++ reservedIn bs 8 0 0x7FF ++ zeroFrom bs .reservedNonzero 16 48 0 ++
  ((numsFrom 0 32).map (fun c =>
    (if c < cnt.1 then reservedIn bs (64 + 16 * c) c 0xFFFFF8FF else zeroFrom bs .reservedNonzero (64 + 16 * c) 8 c) ++
    zeroFrom bs .reservedNonzero (72 + 16 * c) 8 c)).flatten ++
  ((numsFrom 0 cnt.2).map (fun i => if lookupRecord bs i then [] else reservedIn bs (segOff i + 24) i 0x3FFFFFFFF)).flatten

/-- Whether a binary32 pattern is finite. -/
def finite32 (x : F32) : Bool := fvFinite (ofF32 x)

/-- Faults of one polynomial segment record (R154). -/
def segFaults (bs : List Byte) (i : Nat) : List SecFault :=
  let g := curveSeg bs i
  let f (bad : Bool) (k : Nat) : List SecFault := faultIf bad .curve (segOff i + 4 * k) i
  f (ofF32 g.lo == .inf false || !fvLt (ofF32 g.lo) (ofF32 g.hi)) 0 ++
  f (ofF32 g.hi == .inf true) 1 ++
  f (!finite32 g.x0) 2 ++
  ((numsFrom 0 4).map (fun k => f (!finite32 (g.c.getD k 0) || (decide (g.deg < k) && decide (g.c.getD k 0 ≠ 0))) (3 + k))).flatten

/-- Phase 9 of the curve tables (R154). -/
def curveFaults (bs : List Byte) : List SecFault :=
  let cnt := curveCounts bs
  let f (bad : Bool) (o i : Nat) : List SecFault := faultIf bad .curve o i
  f (decide (cnt.1 = 0 ∨ 32 < cnt.1)) 0 0 ++ f (decide (1024 < cnt.2)) 8 0 ++
  ((numsFrom 0 32).map (fun c =>
    let w := wordAt bs (64 + 16 * c)
    let kind := bits w 0 2
    let sp := curveSpan bs c
    let o := 64 + 16 * c
    f (decide (kind = 3)) o c ++
    f (decide (kind = 1 ∧ (bits w 2 2 = 3 ∨ bits w 4 4 ≠ 0)) || decide (kind = 2 ∧ bits w 2 2 ≠ 0)) o c ++
    f (decide (kind ≠ 0 ∧ (sp.2 = 0 ∨ cnt.2 < sp.1 + sp.2)) || decide (kind = 2 ∧ sp.2 ≠ 32)) (o + 1) c)).flatten ++
  ((numsFrom 0 cnt.2).map (fun i =>
    if (numsFrom 0 32).any (fun c => (curveOf bs c).kind == 1 && decide ((curveSpan bs c).1 ≤ i) && decide (i < (curveSpan bs c).1 + (curveSpan bs c).2))
    then segFaults bs i else [])).flatten

/-- Phase 10 of the curves: a lookup curve's row is present and at most 8 bits wide (R154). -/
def curveRowFaults (fmts : List Byte) (bs : List Byte) : List SecFault :=
  ((numsFrom 0 32).map (fun c =>
    let w := wordAt bs (64 + 16 * c)
    let r := fmtRowOf fmts (bits w 4 4)
    faultIf (curveIsLookup bs c && (!r.isPresent || decide (8 < r.bitsOf))) .curve (64 + 16 * c) c)).flatten

end Sys2Proof.Machine
end

