-- ==== Sys2Proof/Machine/Resv.lean ====
section
/-! DEFINITION. Reservation plans: the section (R72, R222), the records' states and the entries of a STREAM (R223, R224). -/

set_option Elab.async false

namespace Sys2Proof.Machine

/-- A reservation record (R222). -/
structure ResvRec where
  tile : Nat
  group : Nat
  off : Nat
  len : Nat
  expert : Bool
  plan : Nat
  cap : Nat
  deriving DecidableEq, Repr

/-- COUNT of a reservation plans section. -/
def resvCount (bs : List Byte) : Nat := bits (wordAt bs 0) 0 13

/-- Offset of record `i`. -/
def resvOff (i : Nat) : Nat := 64 + 32 * i

/-- Record `i` of a section (R222). -/
def resvRec (bs : List Byte) (i : Nat) : ResvRec :=
  let w := wordAt bs (resvOff i)
  let x := wordAt bs (resvOff i + 8)
  ⟨bits w 58 6, bits w 50 8, bits w 36 14, bits w 21 15, bit w 20, bits x 56 8, bits x 32 24⟩

/-- The records of a section in section order. -/
def resvRecs (bs : List Byte) : List ResvRec := (numsFrom 0 (resvCount bs)).map (resvRec bs)

/-- The records of one tile; a record's place is its number (R222). -/
def resvOfTile (bs : List Byte) (t : Nat) : List ResvRec := (resvRecs bs).filter (fun r => r.tile == t)

/-- Layout length of a reservation plans section (R600). -/
def resvLength (bs : List Byte) : Nat := 64 + 32 * resvCount bs

/-- Whether COUNT is in its range (R222, R600). -/
def resvCountOk (bs : List Byte) : Bool := decide (1 ≤ resvCount bs) && decide (resvCount bs ≤ 4096)

/-- Reserved bits of a reservation plans section (R222). -/
def resvReserved (bs : List Byte) : List SecFault :=
  reservedIn bs 0 0 0x1FFF ++ zeroFrom bs .reservedNonzero 8 56 0 ++
  ((numsFrom 0 (resvCount bs)).map (fun i =>
    reservedIn bs (resvOff i) i 0xFFFFFFFFFFF00000 ++
    reservedIn bs (resvOff i + 8) i (if (resvRec bs i).expert then 0xFFFFFFFF00000000 else 0) ++
    zeroFrom bs .reservedNonzero (resvOff i + 16) 16 i)).flatten

/-- Alignment of the records (R72, R222). -/
def resvAlign (bs : List Byte) : List SecFault :=
  ((numsFrom 0 (resvCount bs)).map (fun i =>
    let r := resvRec bs i
    faultIf (decide (r.len = 0 ∨ 15360 < r.off + r.len)) .alignment (resvOff i + 2) i)).flatten

/-- Records of one tile and group that overlap (R72). -/
def resvFit (bs : List Byte) : List SecFault :=
  let rs := resvRecs bs
  ((numsFrom 0 rs.length).map (fun i =>
    let r := resvRec bs i
    let before := (rs.take i).filter (fun q => q.tile == r.tile && q.group == r.group)
    faultIf (before.any (fun q => overlaps q.off q.len r.off r.len)) .reservationFit (resvOff i + 2) i)).flatten

/-- Limits exceeded over several records (R72, R222, R604): a group's total, and more than 256 records of a tile. -/
def resvLimits (bs : List Byte) : List SecFault :=
  let rs := resvRecs bs
  ((numsFrom 0 rs.length).map (fun i =>
    let r := resvRec bs i
    let before := (rs.take i).filter (fun q => q.tile == r.tile)
    faultIf (decide (15360 < ((before.filter (fun q => q.group == r.group)).map (·.len)).foldl (· + ·) r.len) || decide (256 ≤ before.length)) .reservationFit 0 i)).flatten

/-! Records at run time (R224). -/

/-- The records of a logical tile under the active image. -/
def State.records (s : State) (t : Nat) : List ResvRec := resvOfTile (s.section_ 0xC) t

/-- Record `n` of a tile. -/
def State.record (s : State) (t n : Nat) : Option ResvRec := ((s.records t).drop n).head?

/-- Whether two records share space and belong to different groups. -/
def ResvRec.contends (a b : ResvRec) : Bool := a.group != b.group && overlaps a.off a.len b.off b.len

/-- Whether record `n` of a tile is contended (R222). -/
def State.contended (s : State) (t n : Nat) : Bool :=
  match s.record t n with
  | some r => (s.records t).any (fun q => r.contends q)
  | none => false

/-- The state of record `n` of a tile; none is FREE. -/
def State.resvState (s : State) (t n : Nat) : Option ResvSt := sfind s.resv (256 * t + n)

/-- A record's state set. -/
def State.setResv (s : State) (t n : Nat) (v : ResvSt) : State := { s with resv := sinsert s.resv (256 * t + n) v }

/-- A record made FREE. -/
def State.freeResv (s : State) (t n : Nat) : State := { s with resv := serase s.resv (256 * t + n) }

/-- Whether record `n` of a tile can be granted: FREE or HELD, and no overlapping record of another group IN_USE or HELD (R224). -/
def State.grantable (s : State) (t n : Nat) : Bool :=
  match s.record t n with
  | none => false
  | some r =>
    (match s.resvState t n with
      | some (.inUse _) => false
      | _ => true) &&
    !((s.records t).zipIdx.any (fun q => r.contends q.1 && (s.resvState t q.2).isSome))

/-- A reservation entry of a STREAM: MODE and RECORD (R223). -/
structure ResvEntry where
  mode : Nat
  num : Nat
  deriving DecidableEq, Repr

/-- The three entry fields of a STREAM. -/
def resvFields (ws : List Word) : List Nat := [bits (wget ws 7) 48 16, bits (wget ws 8) 48 16, bits (wget ws 9) 48 16]

/-- The valid entries of a STREAM, in order. -/
def resvEntries (ws : List Word) : List ResvEntry :=
  ((resvFields ws).filter (fun e => decide (32768 ≤ e))).map (fun e => ⟨e / 8192 % 4, e % 256⟩)

/-- The records a STREAM acquires at dispatch: its USE and KEEP entries (R223). -/
def resvTaken (ws : List Word) : List Nat := ((resvEntries ws).filter (fun e => decide (e.mode ≤ 1))).map (·.num)

/-- Whether all records of a list can be granted together (R224). -/
def State.grantableAll (s : State) (t : Nat) (l : List Nat) : Bool := l.all (s.grantable t)

/-- Records taken IN_USE by command `j`. -/
def State.takeResv (s : State) (t j : Nat) (l : List Nat) : State := l.foldl (fun s n => s.setResv t n (.inUse j)) s

/-- What the entries of a STREAM do at its commit (R223). -/
def State.commitResv (s : State) (t j : Nat) (ws : List Word) : State :=
  (resvEntries ws).foldl (fun s e =>
    match e.mode, s.resvState t e.num with
    | 0, some (.inUse k) => if k = j then s.freeResv t e.num else s
    | 1, some (.inUse k) => if k = j then s.setResv t e.num .held else s
    | 2, some .held => s.freeResv t e.num
    | 2, _ =>
      match s.phys t with
      | some p => (s.count (Fld.STR_RESVERR_COUNT p) 1).set (Fld.STR_RESVERR_RECORD p) e.num
      | none => s
    | _, _ => s) s

/-- Records that a STREAM ending without a commit gives up: its IN_USE records become FREE. -/
def State.dropResv (s : State) (j : Nat) : State := { s with resv := s.resv.filter (fun e => e.2 != .inUse j) }

/-- Whether [lo, hi] lies inside the union of byte ranges; `fuel` of them are used at most. -/
def coveredBy (ranges : List (Nat × Nat)) : Nat → Nat → Nat → Bool
  | 0, lo, hi => decide (hi < lo)
  | fuel + 1, lo, hi =>
    if hi < lo then true
    else
      match ranges.find? (fun r => decide (r.1 ≤ lo) && decide (lo < r.2)) with
      | some r => coveredBy ranges fuel r.2 hi
      | none => false

end Sys2Proof.Machine
end

