-- ==== Sys2Proof/Machine/Life.lean ====
section
/-! DEFINITION. A command's life after acceptance (R3, R4): its end, its commit in ring order (R184), its signals (R177, R180), and its completion entry (R468 to R474). -/

set_option Elab.async false

namespace Sys2Proof.Machine

/-- Whether the device executes at all: not held in a reset, and not halted by a power warning or a fatal fault (R519, R527, R552). -/
def State.live (s : State) : Bool := s.halt == .running && !s.power.porst && !s.power.wrst

/-- Whether a FENCE of its ring holds a host-sourced command (R466): an earlier one has not completed. -/
def State.fenced (s : State) (j : Nat) (e : JEntry) : Bool :=
  e.parent == 0 && s.journal.any (fun f => decide (f.1 < j) && f.2.ring == e.ring && f.2.target == .host && hostOp f.2.words == 6 && f.2.refusal.isNone)

/-- Whether the unit that executes a command has started (R550). -/
def State.targetUp (s : State) (e : JEntry) : Bool :=
  match e.target with
  | .tileRing _ => !s.unitDown 3 e.tile
  | .drover d => !s.unitDown 2 d
  | .sequencer d => !s.unitDown 2 d
  | _ => true

/-- Whether a command may be dispatched as far as its kind is not concerned: the device runs, no FENCE and no partial reload holds it (R84, R466). -/
def State.gate (s : State) (j : Nat) (e : JEntry) : Bool :=
  s.live && s.targetUp e && !s.fenced j e && (match s.holdFrom with
    | some k => decide (j < k) || e.parent != 0
    | none => true)

/-- Statuses with which a command signals and gives; every other one poisons (R180, R215; log entry 11). -/
def goodStatus (n : Nat) : Bool := n == Status.ok.num || n == Status.empty.num || n == Status.split.num || n == Status.replayedOk.num || n == Status.skippedStep.num

/-- The entries of a MARK_SET or CREDIT_SET that are valid, in entry order (R193). -/
def setEntries (ws : List Word) : List Word := ((numsFrom 4 12).map (wget ws)).filter (fun w => bit w 63)

/-- One entry of MARK_SET applied (R194). -/
def State.applyMarkSet (s : State) (t : Nat) (w : Word) : State :=
  let s := s.set (Fld.TILE_MARK_COUNT t (bits w 56 6)) (bits w 40 16)
  if bit w 62 then s.set (Fld.TILE_MARK_POISON t (bits w 56 6)) 0 else s

/-- One entry of CREDIT_SET applied (R194). -/
def State.applyCreditSet (s : State) (t : Nat) (w : Word) : State := s.set (Fld.TILE_CREDIT_COUNT t (bits w 56 5)) (bits w 40 16)

/-- What a CONTROL command does at its commit, before its signals (R193, R194). -/
def State.controlCommit (s : State) (e : JEntry) : State :=
  if e.onTile ∧ e.kind = 5 ∧ e.op = 2 then (setEntries e.words).foldl (fun s w => s.applyMarkSet e.tile w) s
  else if e.onTile ∧ e.kind = 5 ∧ e.op = 3 then (setEntries e.words).foldl (fun s w => s.applyCreditSet e.tile w) s
  else s

/-- A route job's record changed. -/
def State.routeMod (s : State) (j : Nat) (f : RouteRun → RouteRun) : State := { s with drover := { s.drover with jobs := smodify s.drover.jobs j f } }

/-- A journal entry freed. -/
def State.jdel (s : State) (j : Nat) : State := { s with journal := serase s.journal j }

/-- The commit of command `j` with status `n`: its signals and credit, or the poison of a failure (R177, R178, R180). -/
def State.settleOne (s : State) (j : Nat) (e : JEntry) (n : Nat) : State :=
  let s :=
    if goodStatus n then
      let s := (s.controlCommit e).signalMarks e.dstTile e.sigs
      let s := if e.isStream then s.commitResv e.tile j e.words else s
      if e.onTile ∧ e.give.n ≠ 0 then s.giveCredit e.tile e.give.idx e.give.n else s
    else (s.dropResv j).poisonSignals e
  s.jmod j (fun e => { e with st := (if e.refusal.isSome ∨ e.st = .accepted then e.st else .committed), status := n, settled := true, reported := true, unit := .none, resv := [] })

/-- Passes an expert takes in a job (R263). -/
def RouteRun.passesOf (r : RouteRun) (e : Nat) : Nat := (r.passes.filter (fun p => p.segs.any (fun g => g.expert == e))).length

/-- The experts a job visits, ascending. -/
def RouteRun.visited (r : RouteRun) : List Nat := ((r.passes.map (fun p => p.segs.map (·.expert))).flatten).foldl nadd []

/-- A route job's result words (R263). -/
def RouteRun.result (r : RouteRun) : Word × Word :=
  let ns := r.visited.map r.passesOf
  let extra := (ns.map (fun n => n - 1)).foldl (· + ·) 0
  (wordOf [(48, 16, r.passes.length), (32, 16, extra), (16, 16, (ns.filter (fun n => decide (1 < n))).length), (0, 16, ns.foldl max 0)],
   wordOf [(32, 32, (r.sel.map List.length).foldl (· + ·) 0), (16, 16, r.replayed)])

/-- The pass buffers of a job that satisfy `p` released: records free, credits back (R254). -/
def State.releaseBufs (s : State) (j : Nat) (p : HeldBuf → Bool) : State :=
  match sfind s.drover.jobs j with
  | none => s
  | some r =>
    let s := (r.held.filter p).foldl (fun (s : State) h => { (s.giveCredit h.tile h.pool 1) with resv := serase s.resv (256 * h.tile + h.rec_) }) s
    s.routeMod j (fun r => { r with held := r.held.filter (fun h => !p h) })

/-- A route job with an error ends once no instance of it is outstanding: its buffers are released and it completes MEM_ERROR (R263). -/
def State.failRoute (s : State) (j : Nat) : State :=
  match s.cmd j, sfind s.drover.jobs j with
  | some e, some r =>
    if ¬ r.err ∨ e.fin.isSome ∨ s.journal.any (fun f => f.2.parent == j) then s
    else
      let s := s.releaseBufs j (fun _ => true)
      let n := Status.memError.num
      let s := s.jmod j (fun e => { e with fin := some n, res0 := r.result.1, res1 := r.result.2 })
      (s.settleOne j { e with fin := some n } n).routeMod j (fun r => { r with st := .done })
  | _, _ => s

/-- An instance's end reported to the route job that built it (R184, R263): any status but a good one is the job's error. -/
def State.reportInstance (s : State) (j : Nat) (e : JEntry) (n : Nat) : State :=
  ((s.routeMod e.parent (fun r => { r with err := r.err || !goodStatus n, replayed := r.replayed + if n = Status.ok.num ∧ 1 < e.disp then 1 else 0 })).jdel j).failRoute e.parent

/-- The commit of command `j` with status `n`; an instance of a job is reported to it and leaves the journal. -/
def State.settle (s : State) (j : Nat) (e : JEntry) (n : Nat) : State :=
  let s := s.settleOne j e n
  if e.parent = 0 then s else s.reportInstance j e n

/-- The tile commands of a tile work ring that have not been reported, oldest first (R184). -/
def State.ringQueue (s : State) (r : Nat) : List (Nat × JEntry) :=
  s.journal.filter (fun e => e.2.onTile && e.2.tileRing == r && !e.2.reported)

/-- Held commits of a tile work ring released from its head on, as long as the head has ended (R184). -/
def State.settleFrom (s : State) : List (Nat × JEntry) → State
  | [] => s
  | (j, e) :: r =>
    match e.fin with
    | some n => (s.settle j e n).settleFrom r
    | none => s

/-- Held commits of a tile work ring released (R184). -/
def State.settleRing (s : State) (r : Nat) : State := s.settleFrom (s.ringQueue r)

/-- The end of a command's execution with a status and a result: a tile command's commit waits for its place in its ring (R184), any other commits at once. -/
def State.finish (s : State) (j : Nat) (st : Status) (r0 r1 : Word) : State :=
  match s.cmd j with
  | none => s
  | some e =>
    if e.fin.isSome then s
    else
      let s := s.jmod j (fun e => { e with fin := some st.num, res0 := r0, res1 := r1, unit := if e.onTile then e.unit else .none })
      let s := if e.isStream then { (s.unpinAll j) with streams := serase s.streams j } else s
      if e.onTile then (s.jmod j (fun e => { e with unit := .none })).settleRing e.tileRing
      else s.settle j { e with fin := some st.num } st.num

/-- The status a command completes with (R473): a second dispatch turns OK into REPLAYED_OK. -/
def JEntry.finalStatus (e : JEntry) : Nat := if e.status = Status.ok.num ∧ 1 < e.disp then Status.replayedOk.num else e.status

/-! Completions on a host submission ring. -/

/-- The uncompleted commands of host submission ring `r`, with JSEQ, oldest first. -/
def State.hostCmds (s : State) (r : Nat) : List (Nat × JEntry) := s.ofRing r

/-- The poison of a refused command that is now its ring's oldest and enters no tile ring (R180). -/
def State.settleOldest (s : State) (r : Nat) : State :=
  match s.hostCmds r with
  | (j, e) :: _ =>
    match e.refusal with
    | some n => if e.settled ∨ e.onTile then s else s.settle j e n
    | none => s
  | [] => s

/-- The completion ring paired with a submission ring (R71). -/
def State.pairOf (s : State) (r : Nat) : Nat := s.get (Fld.RING_CFG_PAIR r)

/-- Whether command `e` may complete: it has committed, or has been refused or cancelled, and its signals have been applied. -/
def JEntry.ready (e : JEntry) : Bool := e.settled

/-- Whether a barrier is owed to a submission ring (R474, R521). -/
def State.barrierOwed (s : State) (r : Nat) : Bool := s.host.barriers.any (fun b => b.ring == r)

/-- Whether the reserved entry of a completion ring is free for a barrier: the host has consumed the last one (R522). -/
def State.reserveFree (s : State) (c : Nat) : Bool :=
  match sfind s.host.reserveUsed c with
  | none => true
  | some i => decide ((s.get (Fld.RING_PROD_PROD c) + 2 ^ 32 - i) % 2 ^ 32 < 2 ^ 31)

/-- The lowest recovery owed to a ring, among the barriers waiting. -/
def lowestBarrier (l : List Barrier) (r : Nat) : Option Barrier :=
  (l.filter (fun b => b.ring == r)).foldl (fun m b => match m with
    | none => some b
    | some x => some (if b.recovery < x.recovery then b else x)) none

/-- The recovery report turns inactive once no barrier of the latest recovery is owed (JRN_RECOV.ACTIVE). -/
def State.recoveryDone (s : State) : State :=
  if s.host.barriers.any (fun b => b.recovery == s.get Fld.JRN_RECOV_NUMBER) then s else s.setFlag Fld.JRN_RECOV_ACTIVE false

/-- Whether a warm reset's reload is still to start the units that replay: barriers wait for it (R521, R524). -/
def State.resuming (s : State) : Bool := s.load.isSome && s.power.phase == .starting

/-- The next BARRIER of a ring written (R474, R522); nothing while host memory, the reserve or a resumption holds it. -/
def State.writeBarrier (s : State) (r : Nat) : State :=
  match lowestBarrier s.host.barriers r with
  | none => s
  | some b =>
    let c := s.pairOf r
    if ¬ s.hostOpen ∨ s.halt ≠ .running ∨ s.resuming ∨ ¬ s.reserveFree c then s
    else
      let oldest := match s.hostCmds r with
        | (j, _) :: _ => j
        | [] => 0
      let w0 := wordOf [(60, 3, 1), (34, 14, r), (18, 16, s.get (Fld.RING_IDX_IDX r) % 2 ^ 16)]
      let s := { s with host := { s.host with barriers := s.host.barriers.erase b,
                                              reserveUsed := sinsert s.host.reserveUsed c ((s.get (Fld.RING_IDX_IDX c) + 1) % 2 ^ 32) } }
      (s.writeEntry c w0 0 (BitVec.ofNat 64 b.recovery) (BitVec.ofNat 64 oldest) true).recoveryDone

/-- Every barrier of a ring that can be written now. -/
def State.writeBarriers (s : State) (r : Nat) : Nat → State
  | 0 => s
  | n + 1 => (s.writeBarrier r).writeBarriers r n

/-- The entry of a journalled command's completion (R468). -/
def completionWord (e : JEntry) : Word :=
  wordOf [(48, 8, e.finalStatus), (34, 14, e.ring), (18, 16, e.idx % 2 ^ 16), (13, 5, e.sub)]

/-- The zero-count envelope whose turn it is in the ring's completion order (R461). -/
def State.bareTurn (s : State) (r : Nat) : Option BareDone :=
  match sget [] s.host.bare r with
  | b :: _ => if (s.hostCmds r).any (fun e => decide (e.1 < b.before)) then none else some b
  | [] => none

/-- A zero-count envelope completes REJECTED_SHAPE (R461). -/
def State.completeBare (s : State) (r : Nat) (b : BareDone) : State :=
  let w0 := wordOf [(48, 8, Status.rejectedShape.num), (34, 14, r), (18, 16, b.idx % 2 ^ 16)]
  let s := { s with host := { s.host with bare := sput [] s.host.bare r ((sget [] s.host.bare r).drop 1) } }
  s.writeEntry (s.pairOf r) w0 b.user 0 0 b.irq

/-- Whether a ring's completions may be written: host memory can be written, the device runs, the ring's completion context is in service and no barrier comes first. -/
def State.mayComplete (s : State) (r : Nat) : Bool :=
  s.hostOpen && s.live && s.flag (Fld.RING_CTL_ENABLE (s.pairOf r)) && !s.barrierOwed r

/-- A route job's completion counted in its cluster (DRV_JOBCNT). -/
def State.countJob (s : State) (e : JEntry) : State :=
  match e.target with
  | .drover d =>
    if e.finalStatus = Status.ok.num then s.count (Fld.DRV_JOBCNT_OK d) 1
    else if e.finalStatus = Status.empty.num then s.count (Fld.DRV_JOBCNT_EMPTY d) 1
    else if e.finalStatus = Status.split.num then s.count (Fld.DRV_JOBCNT_SPLIT d) 1
    else s.count (Fld.DRV_JOBCNT_OTHER d) 1
  | _ => s

/-- A completed command's records freed: its journal entry and its job slot (R261, R464). -/
def State.free (s : State) (j : Nat) : State :=
  let s := s.jdel j
  let s := { s with drover := { s.drover with jobs := serase s.drover.jobs j } }
  { s with sweep := { s.sweep with jobs := serase s.sweep.jobs j } }

/-- The completion of the oldest uncompleted command of a submission ring, if it is ready (R470): its entry is written and its journal entry freed. -/
def State.completeOldest (s : State) (r : Nat) : State :=
  if ¬ s.mayComplete r then s
  else
    match s.bareTurn r with
    | some b => s.completeBare r b
    | none =>
      match s.hostCmds r with
      | [] => s
      | (j, e) :: _ =>
        if ¬ e.ready then s
        else
          let s := s.writeEntry (s.pairOf r) (completionWord e) e.user e.res0 e.res1 e.irq
          let s := s.wrap (Fld.RING_IDX_DONE r) 1
          ((s.countJob e).free j).settleOldest r

end Sys2Proof.Machine
end

