-- ==== Sys2Proof/Machine/Recover.lean ====
section
/-! DEFINITION. Recoveries: the affected rings, their barriers and the event (R520 to R522). -/

set_option Elab.async false

namespace Sys2Proof.Machine

/-- The host-submitted command that command `j` belongs to: itself, or the job at the root of the instances it was built by (R521); `fuel` links at most. -/
def State.rootOf (s : State) : Nat → Nat → Nat
  | 0, j => j
  | fuel + 1, j =>
    match s.cmd j with
    | some e => if e.parent = 0 then j else s.rootOf fuel e.parent
    | none => j

/-- The host submission ring a command counts as one of (R521). -/
def State.hostRingOf (s : State) (j : Nat) : Option Nat := (s.cmd (s.rootOf 4 j)).map (·.ring)

/-- The host submission rings of a list of commands, rising. -/
def State.hostRingsOf (s : State) (js : List Nat) : List Nat := (js.filterMap s.hostRingOf).foldl nadd []

/-- A recovery begins (R520, R521): it takes the next number and owes every affected ring a barrier. CAUSE as JRN_RECOV encodes it. -/
def State.beginRecovery (s : State) (cause : Nat) (rings : List Nat) : State :=
  let n := s.get Fld.JRN_RECOV_NUMBER + 1
  let s := (((s.set Fld.JRN_RECOV_NUMBER n).set Fld.JRN_RECOV_CAUSE cause).set Fld.JRN_RECOV_RINGS rings.length).setFlag Fld.JRN_RECOV_ACTIVE (!rings.isEmpty)
  { s with host := { s.host with barriers := s.host.barriers ++ rings.map (fun r => ⟨r, n⟩) } }

/-- The RECOVERY event of the latest recovery (R480, R521). -/
def State.recoveryEvent (s : State) : State :=
  s.raise .recovery (s.get Fld.JRN_RECOV_NUMBER % 2 ^ 16) (BitVec.ofNat 64 (s.get Fld.JRN_RECOV_RINGS)) 0

/-- The barriers of rings written, as far as they can be. -/
def State.barriersOf (s : State) (rings : List Nat) : State := rings.foldl (fun (s : State) r => s.writeBarriers r 8) s

/-- A recovery whose replays are dispatched as it begins: number, event and barriers (R520 to R522). -/
def State.recover (s : State) (cause : Nat) (rings : List Nat) : State :=
  ((s.beginRecovery cause rings).recoveryEvent).barriersOf rings

/-- A unit put on the retirement record (R507, R531). -/
def State.retireUnit (s : State) (cls idx : Nat) : State :=
  { s with retired := nadd s.retired (65536 * cls + idx), retireTimes := sput 0 s.retireTimes (65536 * cls + idx) (sget 0 s.retireTimes (65536 * cls + idx) + 1) }

/-- A unit taken off the retirement record by its re-admission (R507). -/
def State.readmitUnit (s : State) (cls idx : Nat) : State := { s with retired := ndel s.retired (65536 * cls + idx) }

/-- Retirements of a unit on record (R531). -/
def State.timesRetired (s : State) (cls idx : Nat) : Nat := sget 0 s.retireTimes (65536 * cls + idx)

/-- STATE of JRN_RASTAT set if the report is about this unit (R529). -/
def State.setRastat (s : State) (cls idx st : Nat) : State :=
  if s.get Fld.JRN_RASTAT_CLASS = cls ∧ s.get Fld.JRN_RASTAT_INDEX = idx then s.set Fld.JRN_RASTAT_STATE st else s

end Sys2Proof.Machine
end

