-- ==== Sys2Proof/Machine/TileCheck.lean ====
section
/-! DEFINITION. The tile command's layout (R185 to R193) and the acceptance checks of ARRAY, ELEMENT and CONTROL commands. -/

set_option Elab.async false

namespace Sys2Proof.Machine

/-- An operand reference (R189). -/
structure OpRef where
  base : Nat
  stride : Nat
  row : Nat
  form : Nat
  soff : Nat
  imm : F32
  deriving DecidableEq, Repr

/-- An operand reference from its word; an immediate holds its value in [63:32] (R189). -/
def opRef (w : Word) : OpRef := ⟨bits w 44 20, bits w 24 20, bits w 20 4, bits w 17 3, bits w 0 17, BitVec.ofNat 32 (bits w 32 32)⟩

/-- Operand reference OP0 to OP5 of an ARRAY or ELEMENT command (R190). -/
def opN (ws : List Word) (i : Nat) : OpRef := opRef (wget ws (6 + i))

/-! Fields of the header and the shared body (R185, R190). -/

/-- KIND. -/
def tKind (ws : List Word) : Nat := bits (wget ws 0) 56 8
/-- OP. -/
def tOp (ws : List Word) : Nat := bits (wget ws 0) 48 8
/-- EC: 0 PURE, 1 IN_PLACE, 2 EXTERNAL. -/
def tEc (ws : List Word) : Nat := bits (wget ws 0) 46 2
/-- SHAPE. -/
def tShape (ws : List Word) : Nat := bits (wget ws 0) 44 2
/-- PATH. -/
def tPath (ws : List Word) : Nat := bits (wget ws 0) 42 2
/-- MINDIR. -/
def tMindir (ws : List Word) : Bool := bit (wget ws 0) 41
/-- TAGGED. -/
def tTagged (ws : List Word) : Bool := bit (wget ws 0) 40
/-- TID. -/
def tTid (ws : List Word) : Word := wget ws 1
/-- MMAX. -/
def tMmax (ws : List Word) : Nat := bits (wget ws 4) 40 24
/-- K. -/
def tK (ws : List Word) : Nat := bits (wget ws 4) 16 24
/-- N. -/
def tN (ws : List Word) : Nat := bits (wget ws 5) 40 24
/-- MIND, as a byte offset. -/
def tMind (ws : List Word) : Nat := 16 * bits (wget ws 5) 20 20
/-- IMM0. -/
def tImm0 (ws : List Word) : F32 := BitVec.ofNat 32 (bits (wget ws 12) 0 32)
/-- TBASE, as a byte offset. -/
def tTbase (ws : List Word) : Nat := 16 * bits (wget ws 14) 44 20
/-- QBASE. -/
def tQbase (ws : List Word) : Nat := bits (wget ws 15) 42 22
/-- KBASE. -/
def tKbase (ws : List Word) : Nat := bits (wget ws 15) 20 22
/-- MASKMODE. -/
def tMask (ws : List Word) : Nat := bits (wget ws 15) 16 4
/-- REDKIND. -/
def tRed (ws : List Word) : Nat := bits (wget ws 15) 14 2
/-- CURVE. -/
def tCurve (ws : List Word) : Nat := bits (wget ws 15) 9 5
/-- INIT. -/
def tInit (ws : List Word) : Bool := bit (wget ws 15) 8

/-- What an operand slot may be. -/
inductive Role where
  | unused
  /-- A tensor of `m` rows of `n` elements. -/
  | tensor (m n : Nat)
  /-- One element a row. -/
  | perRow (m : Nat)
  /-- One element a column. -/
  | perCol (n : Nat)
  /-- A tensor of the output's shape, either vector, or an immediate (b and c of R149). -/
  | flexible (m n : Nat)
  /-- `m` records of 16 bytes (R157). -/
  | records (m : Nat)
  /-- A bitmap of `n` bits (R158). -/
  | bitmap (n : Nat)
  deriving DecidableEq, Repr

/-- The local byte ranges an operand names: (first, length) pairs; a tensor's row span and its scale plane (R189). -/
def OpRef.ranges (r : FmtRow) (o : OpRef) (role : Role) : List (Nat × Nat) :=
  let b := 16 * o.base
  let span (m n : Nat) : List (Nat × Nat) :=
    if m = 0 ∨ n = 0 then [] else
      [(b, (m - 1) * 16 * o.stride + r.rowBytes n)] ++ (if r.scaled then [(b + 16 * o.soff, m * scaleRowBytes n)] else [])
  let vec (n : Nat) : List (Nat × Nat) :=
    if n = 0 then [] else [(b, r.rowBytes n)] ++ (if r.scaled then [(b + 16 * o.soff, scaleRowBytes n)] else [])
  match role, o.form with
  | .unused, _ => []
  | .tensor m n, _ => span m n
  | .perRow m, _ => vec m
  | .perCol n, _ => vec n
  | .flexible m n, 1 => span m n
  | .flexible m _, 2 => vec m
  | .flexible _ n, 3 => vec n
  | .flexible _ _, _ => []
  | .records m, _ => if m = 0 then [] else [(b, (m - 1) * 16 * o.stride + 16)]
  | .bitmap n, _ => if n = 0 then [] else [(b, ceilDiv n 8)]

/-- Whether a row needs its innermost count to be a multiple of 32 (R91). -/
def FmtRow.by32 (r : FmtRow) : Bool := r.scaled || decide (r.bitsOf < 8)

/-- The checks of one operand in its role (R69, R91, R189, R191); `field` is its byte offset in the command. -/
def operandCheck (r : FmtRow) (t field : Nat) (o : OpRef) (w : Word) (role : Role) : Check :=
  let tensorLike (m n : Nat) : Check :=
    Check.all [formatIf (!r.isPresent), shapeIf (r.isPresent && r.by32 && decide (n % 32 ≠ 0)),
      shapeIf (decide (1 < m) && decide (16 * o.stride < r.rowBytes n)), shapeIf (!r.scaled && decide (o.soff ≠ 0))]
  let vecLike (n : Nat) (perRow : Bool) : Check :=
    Check.all [formatIf (!r.isPresent || (perRow && r.scaled)), shapeIf (r.isPresent && r.by32 && decide (n % 32 ≠ 0)),
      shapeIf (decide (o.stride ≠ 0)), shapeIf (!r.scaled && decide (o.soff ≠ 0))]
  let addrs : Check := { Check.good with addr := (o.ranges r role).filterMap (fun x => checkLocal t field x.1 x.2) }
  let body := match role with
    | .unused => shapeIf (decide (w ≠ 0))
    | .tensor m n => (shapeIf (decide (o.form ≠ 1))).and (tensorLike m n)
    | .perRow m => (shapeIf (decide (o.form ≠ 2))).and (vecLike m true)
    | .perCol n => (shapeIf (decide (o.form ≠ 3))).and (vecLike n false)
    | .flexible m n =>
      match o.form with
      | 1 => tensorLike m n
      | 2 => vecLike m true
      | 3 => vecLike n false
      | 4 => shapeIf (decide (bits w 20 12 ≠ 0 ∨ bits w 0 17 ≠ 0))
      | _ => shapeIf true
    | .records m => Check.all [shapeIf (decide (o.form ≠ 1)), formatIf (decide (o.row ≠ 0)), shapeIf (decide (1 < m ∧ o.stride = 0)), shapeIf (decide (o.soff ≠ 0))]
    | .bitmap _ => Check.all [shapeIf (decide (o.form ≠ 1)), formatIf (decide (o.row ≠ 0)), shapeIf (decide (o.stride ≠ 0 ∨ o.soff ≠ 0))]
  body.and addrs

/-- Whether an ELEMENT operation uses N (R190). -/
def usesN (op : Nat) : Bool := op == 0x0C || op == 0x0D || op == 0x0F
/-- Whether an ELEMENT operation uses K (R190). -/
def usesK (op : Nat) : Bool := op != 0x0D

/-- The roles of OP0 to OP4 of an ARRAY or ELEMENT command with `m` rows (R191). ARRAY is taken as OP 0x0F. -/
def roles (ws : List Word) (op m : Nat) : List Role :=
  let k := tK ws
  let n := tN ws
  match op with
  | 0x01 => [.tensor m k, .unused, .tensor m k, .unused, .unused, .unused]
  | 0x02 => [.tensor m k, .flexible m k, .tensor m k, .unused, .unused, .unused]
  | 0x03 => [.tensor m k, .flexible m k, .tensor m k, .unused, .unused, .unused]
  | 0x04 => [.tensor m k, .flexible m k, .tensor m k, .flexible m k, .unused, .unused]
  | 0x05 => [.tensor m k, .flexible m k, .tensor m k, .unused, .unused, .unused]
  | 0x06 => [.tensor m k, .flexible m k, .tensor m k, .unused, .unused, .unused]
  | 0x07 => [.tensor m k, .unused, .tensor m k, .unused, .unused, .unused]
  | 0x08 => [.tensor m k, .unused, .perRow m, .unused, .unused, .unused]
  | 0x09 => [.tensor m k, .perCol k, .tensor m k, .unused, .unused, .unused]
  | 0x0A => [.tensor m k, .perCol k, .tensor m k, .perCol k, .unused, .unused]
  | 0x0B => [.tensor m k, .unused, .tensor m k, .unused, .unused, .unused]
  | 0x0C => [.tensor m k, .records m, .tensor m k, .tensor m n, if tMask ws = 3 then .bitmap (m * k) else .unused, .unused]
  | 0x0D => [.tensor m n, .records m, .tensor m n, .unused, .unused, .unused]
  | 0x0E => [.tensor m k, .tensor m k, .tensor m k, .unused, .unused, .unused]
  | 0x0F => [.tensor m k, .tensor n k, .tensor m n, if tInit ws then .tensor m n else .unused, .unused, .unused]
  | _ => [.unused, .unused, .unused, .unused, .unused, .unused]

/-- Which operands an operation writes, by index (R191): ATTN_ONLINE the state, P and O, RESID the residual and v. -/
def writtenOps (op : Nat) : List Nat :=
  match op with
  | 0x0C => [1, 2, 3]
  | 0x0E => [1, 2]
  | _ => [2]

/-- Which operands an operation reads. -/
def readOps (op : Nat) : List Nat :=
  match op with
  | 0x0C => [0, 1, 3, 4]
  | 0x0D => [0, 1]
  | 0x0E => [0, 1]
  | _ => [0, 1, 3]

/-- Whether two lists of ranges share a byte. -/
def rangesOverlap (a b : List (Nat × Nat)) : Bool := a.any (fun x => b.any (fun y => overlaps x.1 x.2 y.1 y.2))

/-- Effect classes an ELEMENT operation admits (R149): may be PURE, may be IN_PLACE. -/
def elementEc (op : Nat) : Bool × Bool :=
  if op = 0x0C ∨ op = 0x0E then (false, true)
  else if 2 ≤ op ∧ op ≤ 6 then (true, true)
  else (true, false)

/-- Whether an immediate is a positive finite value (R156). -/
def positiveFinite (x : F32) : Bool := finite32 x && fvLt (.fin false 0 0) (ofF32 x)

/-- Whether the slot words of a tile command break R177 or R185. -/
def tileSlotsBad (ws : List Word) : Bool :=
  waitsBad (wget ws 2) || sigsBad (wget ws 3) || slotBad (poolSlot (wget ws 3) 32) || slotBad (poolSlot (wget ws 3) 48)

/-- Output bytes of one commit block of 64 rows, the written operands together (R510). -/
def blockBytes (fm : Nat → FmtRow) (ws : List Word) (op : Nat) : Nat :=
  let b := min 64 (tMmax ws)
  let rs := roles ws op b
  ((writtenOps op).map (fun i =>
    let r := fm (opN ws i).row
    match rs.getD i .unused with
    | .tensor m n => m * (r.rowBytes n + if r.scaled then scaleRowBytes n else 0)
    | .records m => 16 * m
    | .perRow m => r.rowBytes m
    | _ => 0)).foldl (· + ·) 0

/-- The acceptance checks of an ARRAY (as OP 0x0F) or ELEMENT command of logical tile `t` (R91, R92, R115, R120, R124, R130, R149, R156, R158, R161, R187 to R192, R195, R510). -/
def State.computeCheck (s : State) (t : Nat) (ws : List Word) (array : Bool) : Check :=
  let op := if array then 0x0F else tOp ws
  let m := tMmax ws
  let matrix := op == 0x0F
  let rs := roles ws op m
  let zero := decide (m = 0) || (usesK op && decide (tK ws = 0)) || (usesN op && decide (tN ws = 0))
  let refs := (numsFrom 0 6).map (opN ws)
  let fm (i : Nat) : FmtRow := s.fmt (opN ws i).row
  let ec := tEc ws
  let ecOk := if array then ec == 0 || ec == 1 else (ec == 0 && (elementEc op).1) || (ec == 1 && (elementEc op).2)
  let rng (i : Nat) : List (Nat × Nat) := (opN ws i).ranges (fm i) (rs.getD i .unused)
  let ins := ((readOps op).map rng).flatten ++ (if tMindir ws then [(tMind ws, 4)] else []) ++ (if tTagged ws ∧ 0 < m then [(tTbase ws, 8 * m)] else [])
  let outs := ((writtenOps op).map rng).flatten
  let onArray := array || (matrix && tPath ws != 2)
  let rowsOfA := if (fm 0).scaled then m * (fm 0).rowBytes (tK ws) + m * scaleRowBytes (tK ws) else m * (fm 0).rowBytes (tK ws)
  let operandChecks := Check.all (refs.zipIdx.map (fun p =>
    operandCheck (s.fmt p.1.row) t (0x30 + 8 * p.2) p.1 (wget ws (6 + p.2)) (rs.getD p.2 .unused)))
  let immUsed := op == 0x09 || op == 0x0A || op == 0x0B || op == 0x0C
  Check.all [
    operandChecks,
    zeroIf zero,
    shapeIf (!array && (decide (op = 0) || decide (0x0F < op))),
    shapeIf (!ecOk),
    shapeIf (tileSlotsBad ws || bits (wget ws 0) 0 40 != 0 || bits (wget ws 4) 0 16 != 0 || bits (wget ws 5) 0 20 != 0 || bits (wget ws 14) 0 44 != 0 || bits (wget ws 15) 0 8 != 0),
    shapeIf (!matrix && tShape ws != 0),
    shapeIf (matrix && (tShape ws != 0) && !s.shapeOn (tShape ws - 1)),
    shapeIf (if matrix ∧ ¬ array then tPath ws == 3 else tPath ws != 0),
    shapeIf (!usesK op && tK ws != 0), shapeIf (!usesN op && tN ws != 0),
    shapeIf (!tMindir ws && tMind ws != 0), shapeIf (!tTagged ws && tTbase ws != 0),
    shapeIf (bits (wget ws 12) 32 32 != 0 || wget ws 13 != 0 || (!immUsed && tImm0 ws != 0)),
    shapeIf ((op == 0x0B || op == 0x0C) && !positiveFinite (tImm0 ws)),
    shapeIf (op != 0x08 && tRed ws != 0), shapeIf (op != 0x07 && tCurve ws != 0), shapeIf (!matrix && tInit ws),
    shapeIf (op != 0x0C && (tMask ws != 0 || tQbase ws != 0 || tKbase ws != 0)),
    shapeIf (op == 0x0C && (decide (3 < tMask ws) || (tMask ws == 2 && !tTagged ws) || (tMask ws != 1 && tQbase ws != 0) || (tMask ws != 1 && tMask ws != 2 && tKbase ws != 0))),
    shapeIf (matrix && decide (tK ws % 32 ≠ 0)),
    formatIf (matrix && (!(fm 0).arrayOperand || !(fm 1).arrayOperand || ((fm 0).isInt8 != (fm 1).isInt8))),
    formatIf (matrix && tInit ws && (opN ws 3).row != 0),
    formatIf (op == 0x0E && decide (1 < (opN ws 1).row)),
    formatIf (op == 0x08 && (opN ws 2).row != 0),
    formatIf (op == 0x07 && (s.curve (tCurve ws)).kind == 2 && (opN ws 0).row != (s.curve (tCurve ws)).row),
    shapeIf (matrix && !array && tPath ws == 2 && !zero && (decide (8 < m) || decide (65536 < rowsOfA) || !s.hflag 4)),
    shapeIf (onArray && (s.yokeLead t != t || nmem s.dissolved t)),
    shapeIf (ec == 1 && decide (16384 < m)),
    shapeIf (ec == 1 && decide (0x100000 < blockBytes s.fmt ws op)),
    shapeIf (ec == 0 && !zero && rangesOverlap ins outs),
    { Check.good with addr := (if tMindir ws then (checkLocal t 0x28 (tMind ws) 4).toList else []) ++ (if tTagged ws then (checkLocal t 0x70 (tTbase ws) (8 * m)).toList else []) }]

/-- The acceptance checks of a CONTROL command (R193, R194). -/
def controlCheck (ws : List Word) : Check :=
  let op := tOp ws
  let body := numsFrom 4 12
  let entryBad (w : Word) : Bool :=
    if !bit w 63 then w != 0
    else bits w 0 40 != 0 || (op == 3 && bits w 61 2 != 0)
  Check.all [
    shapeIf (decide (op = 0) || decide (4 < op)),
    shapeIf (tEc ws != 0 || tShape ws != 0 || tPath ws != 0 || tMindir ws || tTagged ws || bits (wget ws 0) 0 40 != 0),
    shapeIf (tileSlotsBad ws),
    shapeIf ((op == 1 || op == 4) && body.any (fun i => wget ws i != 0)),
    shapeIf ((op == 2 || op == 3) && body.any (fun i => entryBad (wget ws i)))]

end Sys2Proof.Machine
end

