-- ==== Sys2Proof/Machine/StreamGeo.lean ====
section
/-! DEFINITION. The STREAM command (R202 to R211, R229, R272): its fields, its traversal, its ranges and its acceptance checks. -/

set_option Elab.async false

namespace Sys2Proof.Machine

/-! Fields (R203). -/

/-- FAR_KIND. -/
def sFar (ws : List Word) : Nat := bits (wget ws 4) 60 4
/-- ESIZE. -/
def sEsize (ws : List Word) : Nat := bits (wget ws 4) 57 3
/-- SCALED. -/
def sScaled (ws : List Word) : Bool := bit (wget ws 4) 56
/-- XPOSE. -/
def sXpose (ws : List Word) : Bool := bit (wget ws 4) 55
/-- CODEC. -/
def sCodec (ws : List Word) : Nat := bits (wget ws 4) 53 2
/-- EARLY. -/
def sEarly (ws : List Word) : Bool := bit (wget ws 4) 52
/-- NORM (R272). -/
def sNorm (ws : List Word) : Bool := bit (wget ws 4) 51
/-- Byte stride of dimension `d`. -/
def sStride (ws : List Word) (d : Nat) : Int := signed 40 (bits (wget ws (4 + d)) 0 40)
/-- COUNT of dimension `d`. -/
def sCount (ws : List Word) (d : Nat) : Nat := bits (wget ws (10 + d / 2)) (if d % 2 = 0 then 39 else 14) 25
/-- SEGROWS. -/
def sSegrows (ws : List Word) : Nat := bits (wget ws 5) 48 16
/-- SPOOL. -/
def sSpool (ws : List Word) : Nat := bits (wget ws 6) 49 5
/-- SPEN. -/
def sSpen (ws : List Word) : Bool := bit (wget ws 6) 48
/-- FAR_ADDR as held. -/
def sFarAddr (ws : List Word) : Word := wget ws 13
/-- The far base in bytes: UDA for far kinds 0x1 and 0x2, a PCIe address for far kind 0x3 (R204). -/
def sFarBase (ws : List Word) : Nat := if sFar ws = 3 then 16 * bits (sFarAddr ws) 0 60 else 16 * bits (sFarAddr ws) 0 48
/-- Herd address of a far kind 0x2 target. -/
def sHerd (ws : List Word) : Nat := bits (sFarAddr ws) 48 16
/-- LBASE in bytes. -/
def sLbase (ws : List Word) : Nat := 16 * bits (wget ws 14) 44 20
/-- LPITCH in bytes. -/
def sLpitch (ws : List Word) : Nat := 16 * bits (wget ws 14) 24 20
/-- LSOFF in bytes. -/
def sLsoff (ws : List Word) : Nat := 16 * bits (wget ws 14) 7 17
/-- FSBASE in bytes. -/
def sFsbase (ws : List Word) : Nat := 16 * bits (wget ws 15) 16 48
/-- LCOUNT in bytes (R213). -/
def sLcount (ws : List Word) : Nat := 16 * bits (wget ws 15) 44 20

/-- Bits of a local element (R205). -/
def sBits (ws : List Word) : Nat :=
  match sEsize ws with
  | 0 => 4
  | 1 => 6
  | 2 => 8
  | 3 => 16
  | 4 => 32
  | 5 => 64
  | _ => 128

/-- Bits of a far element: an ACCUM's contributions of 32 bits lie over value bytes (R272). -/
def sFarBits (ws : List Word) : Nat := if tOp ws = 3 then 8 else sBits ws

/-- Whether the elements are packed (R205). -/
def sPacked (ws : List Word) : Bool := decide (sEsize ws ≤ 1)

/-- Elements that move together: a block of a codec stream, a group of 32 where elements are packed, scaled or accumulated, else one. -/
def sAtom (ws : List Word) : Nat :=
  if sCodec ws = 1 then 512 * 8 / sBits ws else if sPacked ws ∨ sScaled ws ∨ tOp ws = 3 then 32 else 1

/-- Elements of a local row (R206, R210). -/
def sRowElts (ws : List Word) : Nat := if sXpose ws then sCount ws 1 else sCount ws 0

/-- Product of the counts of dimensions 2 to 5. -/
def sOuter (ws : List Word) : Nat := sCount ws 2 * sCount ws 3 * sCount ws 4 * sCount ws 5

/-- Local rows (R206, R210). -/
def sRows (ws : List Word) : Nat := (if sXpose ws then sCount ws 0 else sCount ws 1) * sOuter ws

/-- Atoms of a local row. -/
def sRowAtoms (ws : List Word) : Nat := sRowElts ws / sAtom ws

/-- Bytes of a local row. -/
def sRowBytes (ws : List Word) : Nat := sRowElts ws * sBits ws / 8

/-- Bytes of an atom on the local side. -/
def sAtomBytes (ws : List Word) : Nat := sAtom ws * sBits ws / 8

/-- Bytes of an atom on the far side. -/
def sFarAtomBytes (ws : List Word) : Nat := sAtom ws * sFarBits ws / 8

/-- Whether the stream names no bytes (R36). -/
def sZero (ws : List Word) : Bool := (numsFrom 0 6).any (fun d => decide (sCount ws d = 0))

/-- Rows of a segment (R212). -/
def sSegLen (ws : List Word) : Nat := if sSegrows ws = 0 then max 1 (sRows ws) else sSegrows ws

/-- Segments of the stream. -/
def sSegments (ws : List Word) : Nat := ceilDiv (sRows ws) (sSegLen ws)

/-- The six indices of the element at position `k` of local row `r` (R206, R210). -/
def sIndices (ws : List Word) (r k : Nat) : List Nat :=
  let inner := if sXpose ws then sCount ws 0 else sCount ws 1
  let a := r % inner
  let q := r / inner
  let i2 := q % sCount ws 2
  let i3 := q / sCount ws 2 % sCount ws 3
  let i4 := q / sCount ws 2 / sCount ws 3 % sCount ws 4
  let i5 := q / sCount ws 2 / sCount ws 3 / sCount ws 4
  if sXpose ws then [a, k, i2, i3, i4, i5] else [k, a, i2, i3, i4, i5]

/-- Byte offset from the far base of atom `k` of local row `r`. -/
def sFarOff (ws : List Word) (r k : Nat) : Int :=
  let e := k * sAtom ws
  let is_ := sIndices ws r (if sAtom ws = 1 then e else 0)
  (if sAtom ws = 1 then (0 : Int) else ((k * sFarAtomBytes ws : Nat) : Int)) +
    (is_.zipIdx.map (fun p => (p.1 : Int) * sStride ws p.2)).foldl (· + ·) 0

/-- Far address of atom `k` of local row `r` (R206). -/
def sFarAt (ws : List Word) (r k : Nat) : Nat := ((sFarBase ws : Int) + sFarOff ws r k).toNat

/-- Local offset of atom `k` of local row `r` (R206). -/
def sLocalAt (ws : List Word) (r k : Nat) : Nat := sLbase ws + r * sLpitch ws + k * sAtomBytes ws

/-- Far address of the scale of atom `k` of row `r` (R209). -/
def sFarScaleAt (ws : List Word) (r k : Nat) : Nat :=
  let is_ := sIndices ws r 0
  let off := ((is_.zipIdx.drop 1).map (fun p => (p.1 : Int) * sStride ws p.2)).foldl (· + ·) 0
  ((sFsbase ws : Int) + off / ((4 * sBits ws : Nat) : Int) + (k : Int)).toNat

/-- Local offset of the scale of atom `k` of row `r` (R209). -/
def sLocalScaleAt (ws : List Word) (r k : Nat) : Nat := sLbase ws + sLsoff ws + r * scaleRowBytes (sRowElts ws) + k

/-- Index of the codec block that is atom `k` of row `r` (R230). -/
def sBlock (ws : List Word) (r k : Nat) : Nat := r * sRowAtoms ws + k

/-- Byte address of a block's header (R234). -/
def sHeaderAt (ws : List Word) (b : Nat) : Nat := sFsbase ws + 2 * b

/-- Bytes of the header plane (R234). -/
def sPlaneBytes (ws : List Word) : Nat := roundUp 16 (2 * (sRows ws * sRowAtoms ws))

/-! Ranges. -/

/-- The bounding extent of a far layout from base `b` with elements or runs of `e` bytes, over dimensions from `d0` with strides divided by `q` (R36, R203, R209). -/
def sExtent (ws : List Word) (b : Nat) (e : Nat) (d0 : Nat) (q : Int) : Int × Int :=
  let spans := (numsFrom d0 (6 - d0)).map (fun d => (((sCount ws d : Nat) : Int) - 1) * (sStride ws d / q))
  ((b : Int) + (spans.filter (fun x => decide (x < 0))).foldl (· + ·) 0,
   (b : Int) + (spans.filter (fun x => decide (0 ≤ x))).foldl (· + ·) 0 + (e : Int) - 1)

/-- The bounding extent of the far side (R36, R203). -/
def sFarExtent (ws : List Word) : Int × Int :=
  if sPacked ws then sExtent ws (sFarBase ws) (sCount ws 0 * sBits ws / 8) 1 1
  else sExtent ws (sFarBase ws) (sFarBits ws / 8) 0 1

/-- The extent of the far scale plane (R209). -/
def sScaleExtent (ws : List Word) : Int × Int := sExtent ws (sFsbase ws) (sCount ws 0 / 32) 1 ((4 * sBits ws : Nat) : Int)

/-- The local byte ranges of a stream: its rows, its scales, and a RECEIVE's row count (R203, R209, R213). -/
def sLocalRanges (ws : List Word) : List (Nat × Nat) :=
  if sZero ws ∨ tOp ws = 4 then []
  else
    [(sLbase ws, (sRows ws - 1) * sLpitch ws + sRowBytes ws)] ++
    (if sScaled ws then [(sLbase ws + sLsoff ws, (sRows ws - 1) * scaleRowBytes (sRowElts ws) + ceilDiv (sRowElts ws) 32)] else []) ++
    (if tOp ws = 5 then [(sLcount ws, 4)] else [])

/-! Acceptance (R202 to R211, R223, R229, R272). -/

/-- Far kinds that an operation admits (R202). -/
def streamFars (op : Nat) : List Nat :=
  match op with
  | 1 => [1, 2, 3]
  | 2 => [1, 2, 3]
  | 3 => [1]
  | 4 => [1]
  | 5 => [4]
  | _ => []

/-- The effect class of an operation with a far kind (R202). -/
def streamEc (op far : Nat) : Nat := if op = 3 then 1 else if op = 2 ∧ far ≠ 1 then 2 else 0

/-- How a stream's far side is accessed (R39). -/
def streamUda (op : Nat) : UdaOp := if op = 2 then .write else if op = 3 then .accum else .read

/-- Reserved and unused fields of a STREAM (R202 to R204, R209). -/
def streamFieldsBad (ws : List Word) : Bool :=
  let op := tOp ws
  (bits (wget ws 0) 40 6 != 0) || bits (wget ws 0) 0 40 != 0 || tileSlotsBad ws ||
  bits (wget ws 4) 40 11 != 0 || (op != 3 && sNorm ws) || bits (wget ws 5) 40 2 != 0 || bits (wget ws 6) 40 8 != 0 ||
  (numsFrom 7 3).any (fun i => bits (wget ws i) 40 8 != 0) || (numsFrom 10 3).any (fun i => bits (wget ws i) 0 14 != 0) ||
  bits (wget ws 14) 0 7 != 0 || bits (wget ws 15) 0 16 != 0 || (op == 5 && bits (wget ws 15) 16 28 != 0) ||
  (bits (wget ws 6) 54 10 == 0 && bits (wget ws 5) 42 6 != 0) || (!sSpen ws && sSpool ws != 0) ||
  (op == 4 && (sLbase ws != 0 || sLpitch ws != 0 || sLsoff ws != 0 || sSegrows ws != 0 || bits (wget ws 6) 48 16 != 0)) ||
  (match sFar ws with
    | 1 => bits (sFarAddr ws) 48 16 != 0
    | 3 => bits (sFarAddr ws) 60 4 != 0
    | 4 => bits (sFarAddr ws) 14 50 != 0
    | _ => false)

/-- The stride rule of an ACCUM (R272): the extent so far, and whether the rule holds. -/
def accumStrides (ws : List Word) : Bool :=
  ((numsFrom 1 5).foldl (fun (a : Int × Bool) d =>
    if 1 < sCount ws d then
      (a.1 + sStride ws d * (((sCount ws d : Nat) : Int) - 1), a.2 && decide (0 ≤ sStride ws d) && decide (sStride ws d % 32 = 0) && decide (a.1 ≤ sStride ws d))
    else a) (((sCount ws 0 : Nat) : Int), true)).2

/-- Whether [lo, hi] lies wholly in DRAM set A or wholly in DRAM set B. -/
def inDram (lo hi : Int) : Bool :=
  (decide (0 ≤ lo) && decide (hi < (dramBBase : Int))) || (decide ((dramBBase : Int) ≤ lo) && decide (hi < (dramBEnd : Int)))

/-- Whether a herd address lies in the herd of the active image (R395). -/
def State.inHerd (s : State) (a : Nat) : Bool :=
  match s.image with
  | some h => decide (a / 2048 ≤ h.xdim) && decide (a / 64 % 32 ≤ h.ydim) && decide (a % 64 ≤ h.zdim)
  | none => false

/-- Reservation entries of a STREAM of tile `t` (R223). -/
def State.resvCheck (s : State) (t : Nat) (ws : List Word) : Check :=
  let fs := resvFields ws
  let used := resvTaken ws
  let cover := used.filterMap (fun n => (s.record t n).map (fun r => (1024 * r.off, 1024 * (r.off + r.len))))
  Check.all [
    shapeIf (fs.any (fun e => if e < 32768 then e != 0 else e / 8192 % 4 == 3 || e / 256 % 32 != 0 || (s.record t (e % 256)).isNone)),
    shapeIf (!used.isEmpty && (sLocalRanges ws).any (fun r => !coveredBy cover 8 r.1 (r.1 + r.2 - 1)))]

/-- The conditions of R229 on a codec stream. -/
def State.codecCheck (s : State) (ws : List Word) : Check :=
  let op := tOp ws
  let far := sFar ws
  let e := sBits ws / 8
  let fx := sFarExtent ws
  let pl : Int := (sFsbase ws : Int)
  let pe : Int := pl + (sPlaneBytes ws : Int) - 1
  let z := sZero ws
  Check.all [
    shapeIf (op != 1 && op != 2),
    shapeIf (!((far == 1 && (z || inDram fx.1 fx.2)) || (far == 2 && op == 2))),
    shapeIf (!s.hflag (if far = 2 then 2 else 1)),
    shapeIf (decide (sEsize ws < 2 ∨ 4 < sEsize ws)),
    formatIf (sScaled ws),
    shapeIf (decide (sStride ws 0 ≠ (e : Int)) || decide (sCount ws 0 * e % 512 ≠ 0)),
    shapeIf ((numsFrom 1 5).any (fun d => decide (sStride ws d % 16 ≠ 0))),
    shapeIf (far == 1 && !z && !inDram pl pe),
    shapeIf (far == 1 && op == 2 && !z && decide (pl ≤ fx.2) && decide (fx.1 ≤ pe)),
    shapeIf (far == 2 && sFsbase ws != 0)]

/-- The acceptance checks of a STREAM command of logical tile `t`. -/
def State.streamCheck (s : State) (t : Nat) (ws : List Word) : Check :=
  let op := tOp ws
  let far := sFar ws
  let z := sZero ws
  let packed := sPacked ws
  let x := sXpose ws
  let uop := streamUda op
  let rng (field : Nat) (p : Int × Int) : Check := { Check.good with addr := (s.checkRange uop field p.1 p.2).toList }
  let fx := sFarExtent ws
  let own : Int := ((scratchBase + t * 0x1000000 : Nat) : Int)
  let planeEnd : Int := (sFsbase ws : Int) + (sPlaneBytes ws : Int) - 1
  let farRanges : List (Int × Int) := if far = 1 ∧ ¬ z then
      fx :: (if sScaled ws then [sScaleExtent ws] else []) ++ (if sCodec ws = 1 then [((sFsbase ws : Int), planeEnd)] else []) else []
  Check.all [
    shapeIf (streamFieldsBad ws),
    shapeIf (!(streamFars op).contains far),
    shapeIf (decide (tEc ws ≠ streamEc op far)),
    shapeIf (decide (1 < sCodec ws) || decide (sEsize ws = 7)),
    shapeIf ((numsFrom 0 6).any (fun d => decide (16777216 < sCount ws d))),
    shapeIf (far == 4 && (numsFrom 0 6).any (fun d => decide (sStride ws d ≠ 0))),
    shapeIf (packed && (decide (sStride ws 0 ≠ 0) || decide (sCount ws 0 % 32 ≠ 0))),
    shapeIf (op == 5 && sCodec ws != 0),
    shapeIf (x && op != 1), formatIf (x && sEsize ws != 2 && sEsize ws != 3), formatIf (x && sScaled ws), shapeIf (x && sCodec ws != 0),
    shapeIf (x && (decide (sCount ws 0 % 32 ≠ 0) || decide (sCount ws 1 % 32 ≠ 0))),
    shapeIf (sScaled ws && (decide (2 < sEsize ws) || decide (sCount ws 0 % 32 ≠ 0) || decide (sStride ws 0 ≠ if packed then 0 else 1) ||
      (numsFrom 1 5).any (fun d => decide (sStride ws d % ((4 * sBits ws : Nat) : Int) ≠ 0)))),
    shapeIf (!sScaled ws && (sLsoff ws != 0 || (op != 5 && op != 3 && !(sCodec ws == 1 && far == 1) && sFsbase ws != 0))),
    shapeIf (op != 4 && !(if sLpitch ws = 0 then decide (sRows ws ≤ 1) else decide (sRowBytes ws ≤ sLpitch ws))),
    shapeIf (op == 3 && (sEsize ws != 4 || sScaled ws || x || sCodec ws != 0 || decide (sStride ws 0 ≠ 1) || decide (sCount ws 0 % 32 ≠ 0) ||
      !accumStrides ws || !s.hflag 6)),
    shapeIf (op == 3 && !z && (decide (65536 < min (sSegLen ws) (sRows ws) * sRowBytes ws) || decide (256 < sSegments ws))),
    if sCodec ws = 1 then s.codecCheck ws else Check.good,
    shapeIf ((far == 2 || far == 4) && !s.herdValid),
    shapeIf (far == 2 && (!s.inHerd (sHerd ws) || (!z && (decide (fx.1 < (inboundBase : Int)) || decide ((inboundEnd : Int) ≤ fx.2))))),
    shapeIf (far == 3 && !z && (decide (fx.1 < 0) || decide ((2 : Int) ^ 64 ≤ fx.2))),
    shapeIf (far == 4 && s.get (Fld.RING_CFG_ROLE (bits (sFarAddr ws) 0 14)) != 3),
    s.resvCheck t ws,
    zeroIf z,
    shapeIf (tEc ws == 0 && (op == 1 || op == 2) && farRanges.any (fun p => (sLocalRanges ws).any (fun l =>
      decide (p.1 ≤ own + ((l.1 + l.2 : Nat) : Int) - 1) && decide (own + (l.1 : Int) ≤ p.2)))),
    (if far = 1 ∧ ¬ z then
      (if op = 4 ∧ regionOf fx.1.toNat ≠ .flash then { Check.good with addr := [⟨0x68, 4, fx.1.toNat⟩] } else rng 0x68 fx) else Check.good),
    { Check.good with addr := ((sLocalRanges ws).zipIdx.filterMap (fun l => checkLocal t (if op = 5 ∧ l.2 + 1 = (sLocalRanges ws).length then 0x78 else 0x70) l.1.1 l.1.2)) },
    (if far = 1 ∧ ¬ z ∧ sScaled ws then rng 0x78 (sScaleExtent ws) else Check.good),
    (if far = 1 ∧ ¬ z ∧ sCodec ws = 1 then rng 0x78 ((sFsbase ws : Int), planeEnd) else Check.good),
    (if op = 3 ∧ ¬ z then { Check.good with addr := (s.checkRange .read 0x78 (sFsbase ws : Int) ((sFsbase ws : Int) + 63)).toList } else Check.good)]

end Sys2Proof.Machine
end

