-- ==== Sys2Proof/Machine/Wheel.lean ====
section
/-! DEFINITION. The Wheel (R424 to R436), the calendar's entries and when they fire (R437 to R444). -/

set_option Elab.async false

namespace Sys2Proof.Machine

/-- The Wheel's state changed. -/
def State.wmod (s : State) (f : WheelState → WheelState) : State := { s with wheel := f s.wheel }

/-- FREE_RUN (R429). -/
def whlFreeRun : Nat := 0
/-- ACQUIRE. -/
def whlAcquire : Nat := 1
/-- LOCKED. -/
def whlLocked : Nat := 2
/-- HOLDOVER. -/
def whlHoldover : Nat := 3

/-- STATE of the Wheel. -/
def State.whlState (s : State) : Nat := s.get Fld.WHL_STAT_STATE

/-- The Wheel time in spokes (R19). -/
def State.nowSpokes (s : State) : Nat := 4096 * s.get Fld.WHL_NOW_REV + s.get Fld.WHL_NOW_SPOKE

/-- The reference cycle within the revolution. -/
def State.revCycle (s : State) : Nat := 16 * s.get Fld.WHL_NOW_SPOKE + s.get Fld.WHL_NOW_CYCLE

/-! The calendar section (R437, R438). -/

/-- A calendar entry (R437). -/
structure CalEntry where
  kind : Nat
  spoke : Nat
  period : Nat
  phase : Nat
  holdok : Bool
  freeok : Bool
  /-- GRANT: port mask. MARK: logical tile. -/
  ports : Nat
  dur : Nat
  markno : Nat
  inc : Nat
  deriving DecidableEq, Repr

/-- An entry from its two words. -/
def calEntryOf (a b : Word) : CalEntry :=
  ⟨bits a 60 4, bits a 48 12, bits a 36 12, bits a 24 12, bit a 23, bit a 22, bits b 58 6, bits b 45 13, bits b 52 6, bits b 42 10⟩

/-- COUNT of a calendar section. -/
def calCount (bs : List Byte) : Nat := bits (wordAt bs 0) 0 14

/-- Layout length of a calendar section (R600). -/
def calLength (bs : List Byte) : Nat := 64 + 16 * calCount bs

/-- Entry `n` of a calendar section. -/
def calEntryAt (bs : List Byte) (n : Nat) : CalEntry := calEntryOf (wordAt bs (64 + 16 * n)) (wordAt bs (72 + 16 * n))

/-- The word 1 bits an entry of a KIND uses (R437). -/
def calUsed (kind : Nat) : Word :=
  match kind with
  | 1 => mask64 58 6 ||| mask64 45 13
  | 3 => mask64 58 6 ||| mask64 52 6 ||| mask64 42 10
  | _ => 0

/-- Reserved bits of a calendar section (R437, R438); COUNT beyond 8,192 is left to phase 9. -/
def calReserved (bs : List Byte) : List SecFault :=
  reservedIn bs 0 0 0x3FFF ++ zeroFrom bs .reservedNonzero 8 56 0 ++
  ((numsFrom 0 (min 8192 (calCount bs))).map (fun n =>
    let e := calEntryAt bs n
    reservedIn bs (64 + 16 * n) n (~~~(0x3FFFFF : Word)) ++
    (if 1 ≤ e.kind ∧ e.kind ≤ 3 then reservedIn bs (72 + 16 * n) n (calUsed e.kind) else []))).flatten

/-- Phase 9 of a calendar section (R438). -/
def calFaults (bs : List Byte) : List SecFault :=
  faultIf (decide (8192 < calCount bs)) .calendar 0 0 ++
  ((numsFrom 0 (min 8192 (calCount bs))).map (fun n =>
    let e := calEntryAt bs n
    let o := 64 + 16 * n
    faultIf (decide (e.kind = 0 ∨ 3 < e.kind)) .calendar (o + 7) n ++
    (if e.kind = 0 ∨ 3 < e.kind then [] else
      faultIf (decide (e.period = 0 ∨ e.period ≤ e.phase)) .calendar (o + 3) n ++
      faultIf (decide (e.kind = 1) && decide (e.ports = 0)) .calendar (o + 15) n ++
      faultIf (decide (e.kind = 1) && decide (e.dur = 0 ∨ 4096 < e.dur)) .calendar (o + 13) n ++
      faultIf (decide (e.kind = 2) && (e.holdok || e.freeok)) .calendar (o + 2) n ++
      faultIf (decide (e.kind = 1) && e.freeok) .calendar (o + 2) n ++
      faultIf (decide (e.kind = 3) && decide (e.inc = 0)) .calendar (o + 13) n))).flatten

/-- Whether a port's dimension has extent 1, from the extents − 1. -/
def portUnused (xd yd zd p : Nat) : Bool := decide ((if p < 2 then xd else if p < 4 then yd else zd) = 0)

/-- Phase 10 of a calendar section (R438). -/
def calCross (xd yd zd : Nat) (mapped : Nat → Bool) (bs : List Byte) : List SecFault :=
  ((numsFrom 0 (min 8192 (calCount bs))).map (fun n =>
    let e := calEntryAt bs n
    faultIf ((decide (e.kind = 1) && (numsFrom 0 6).any (fun p => decide (e.ports / 2 ^ p % 2 = 1) && portUnused xd yd zd p)) ||
      (decide (e.kind = 3) && !mapped e.ports)) .calendar (64 + 16 * n + 15) n)).flatten

/-- CAL entry `n` in force (R448). -/
def State.calEntry (s : State) (n : Nat) : CalEntry := calEntryOf (s.reg (Reg.CAL_ENT n)) (s.reg (Reg.CAL_ENT_8 n))

/-- Entries of the active calendar. -/
def State.calSize (s : State) : Nat := min 8192 (calCount (s.section_ 8))

/-- The entries in force, with their numbers. -/
def State.calEntries (s : State) : List (Nat × CalEntry) := (numsFrom 0 s.calSize).map (fun n => (n, s.calEntry n))

/-- Whether an entry is due in revolution `r` at spoke `p` (R439). -/
def CalEntry.dueAt (e : CalEntry) (r p : Nat) : Bool := decide (e.kind ≠ 0) && decide (e.spoke = p) && decide (0 < e.period) && decide (r % e.period = e.phase)

/-- Whether an entry is due at the spoke the Wheel stands in. -/
def State.calDue (s : State) (e : CalEntry) : Bool := e.dueAt (s.get Fld.WHL_NOW_REV) (s.get Fld.WHL_NOW_SPOKE)

/-- Whether the state lets an entry fire (R444). -/
def State.calAllowed (s : State) (e : CalEntry) : Bool :=
  let st := s.whlState
  if e.kind = 2 then (st == whlLocked || st == whlHoldover) && s.get Fld.WHL_STAT_COUNTSRC == 2
  else if st = whlLocked then true
  else if st = whlHoldover then e.holdok
  else e.kind == 3 && e.freeok

/-- Ports whose grant the state holds open (R444). -/
def State.heldByState (s : State) : List Nat :=
  let st := s.whlState
  if st = whlLocked then []
  else if st = whlHoldover then
    (numsFrom 0 6).filter (fun p => s.calEntries.any (fun e => e.2.kind == 1 && !e.2.holdok && decide (e.2.ports / 2 ^ p % 2 = 1)))
  else numsFrom 0 6

/-- Whether a port's VC 0 grant is open (R440, R444). -/
def State.grantOpen (s : State) (p : Nat) : Bool := s.wheel.grants.any (fun g => g.port == p) || s.wheel.heldOpen.contains p

/-- The grants held by the state brought up to date at a spoke's start (R444). -/
def State.spokeStart (s : State) : State :=
  let h := s.heldByState
  s.wmod (fun w => { w with heldOpen := h, fired := [] })

/-! States. -/

/-- The WHEEL event, with detail word 1 (R480). -/
def State.wheelEvent (s : State) (d1 : Word) : State :=
  s.raise .wheelState 0 (wordOf [(32, 32, bits (s.reg Reg.WHL_STAT) 0 32), (0, 32, bits (s.reg Reg.WHL_HOLDSTAT) 0 32)]) d1

/-- A change of the Wheel's state, with the reason and the ERR it begins with (R429, R430). -/
def State.whlEnter (s : State) (st reason err : Nat) : State :=
  if s.whlState = st then s
  else
    let s := (s.set Fld.WHL_STAT_STATE st).set Fld.WHL_HOLDSTAT_ERR (if st = whlHoldover then err else 0)
    let s := s.wmod (fun w => { w with grow := 0, relock := 0, missRun := 0, held := (w.held && st != whlFreeRun), acq := (if st = whlFreeRun then 0 else w.acq) })
    let s := if st = whlHoldover ∨ st = whlFreeRun then
        (s.set Fld.WHL_HOLDSTAT_ENTRYREV (s.get Fld.WHL_NOW_REV % 2 ^ 32)).set Fld.WHL_HOLDSTAT_REASON reason
      else s
    let h := s.heldByState
    (s.wmod (fun w => { w with heldOpen := w.heldOpen ++ h.filter (fun p => !w.heldOpen.contains p) })).wheelEvent 0

/-- ACQUIRE ends in LOCKED once the phase is held and the count is the herd's (R429). -/
def State.checkLock (s : State) : State :=
  if s.whlState = whlAcquire ∧ s.wheel.held ∧ s.get Fld.WHL_STAT_COUNTSRC = 2 then s.whlEnter whlLocked 0 0 else s

/-- A mark fault (R427): STUCK is 1, FAST is 2. -/
def State.markFault (s : State) (k : Nat) : State :=
  let s := (if k = 1 then s.count Fld.WHL_FAULT_STUCK 1 else s.count Fld.WHL_FAULT_FAST 1).set Fld.WHL_FAULT_LAST k
  let s := s.wmod (fun w => { w with fault := true, clean := 0, acq := 0, relock := 0, held := (w.held && s.whlState != whlAcquire) })
  if s.whlState = whlLocked then s.whlEnter whlHoldover 2 2 else s

/-! Marks (R426, R428, R432, R433). -/

/-- A mark's offset from the predicted instant (R426). -/
def State.markOffset (s : State) : Int :=
  let c : Int := s.revCycle
  if s.revCycle < 32768 then c else c - (65536 + s.wheel.slew)

/-- A slew by one cycle toward a mark (R428, R432): spoke 4095 lengthened when the mark is late, shortened when it is early. -/
def State.slewTo (s : State) (off : Int) : State :=
  let d : Int := if off = 0 then 0 else if 0 < off then 1 else -1
  let s := if s.get Fld.WHL_NOW_SPOKE = 4095 then s.wmod (fun w => { w with slewNext := if d = 0 then w.slewNext else d })
    else s.wmod (fun w => { w with slew := if w.slew = 0 then d else w.slew })
  s.setFlag Fld.WHL_STAT_SLEWING (s.wheel.slew != 0 || s.wheel.slewNext != 0)

/-- A mark accepted: counted, and put to the revolution whose boundary is nearest. -/
def State.acceptMark (s : State) (off : Int) : State :=
  (s.count Fld.WHL_MARKCNT_ACCEPTED 1).wmod (fun w => if off < 0 then { w with markedNext := true } else { w with marked := true })

/-- The phase held (R433). -/
def State.holdPhase (s : State) : State := (s.wmod (fun w => { w with held := true, acq := 0, heldRevs := 0, missRun := 0 })).checkLock

/-- The Wheel set to the start of a revolution, the grants that should have closed by then closed. -/
def State.setRev (s : State) (r : Nat) : State :=
  let s := ((s.set Fld.WHL_NOW_REV (r % 2 ^ 48)).set Fld.WHL_NOW_SPOKE 0).set Fld.WHL_NOW_CYCLE 0
  s.wmod (fun w => { w with top := max w.top r })

/-- Entries due in the spokes from `a` to the revolution's end: those a step forward passes over (R433). -/
def State.entriesAfter (s : State) (a : Nat) : Nat :=
  (s.calEntries.filter (fun e => decide (0 < e.2.kind) && decide (a < e.2.spoke) && e.2.dueAt (s.get Fld.WHL_NOW_REV) e.2.spoke)).length

/-- A mark in ACQUIRE without a held phase (R433): the count of marks 65,536 ± 2 cycles apart; `boundary` is what a revolution boundary passed over does. -/
def State.acquireMark (s : State) (boundary : State → State) (off : Int) : State :=
  let w := s.wheel
  let d : Int := (w.cycles : Int) - w.lastMark
  let n := if w.acq = 0 ∨ (65534 ≤ d ∧ d ≤ 65538) then w.acq + 1 else 1
  let s := s.wmod (fun w => { w with acq := n, lastMark := w.cycles })
  if n < 4 then s
  else if -2 ≤ off ∧ off ≤ 2 then s.holdPhase
  else if n < 5 then s
  else if off < 0 then
    let s := s.count Fld.WHL_CALCNT_SKIPPED (s.entriesAfter (s.get Fld.WHL_NOW_SPOKE))
    ((boundary s).wmod (fun w => { w with marked := true })).holdPhase
  else (s.setFlag Fld.WHL_STAT_PAUSED true).holdPhase

/-- A mark in HOLDOVER with the reference present (R432). -/
def State.holdoverMark (s : State) (off : Int) : State :=
  let w := s.wheel
  let e : Int := s.get Fld.WHL_HOLDSTAT_ERR
  if -2 ≤ off ∧ off ≤ 2 then
    let s := (s.acceptMark off).whlEnter (if s.get Fld.WHL_STAT_COUNTSRC = 2 then whlLocked else whlAcquire) 0 0
    (s.wmod (fun w => { w with held := true })).slewTo off
  else if off < -(e + 2) ∨ e + 2 < off then (s.count Fld.WHL_MARKCNT_OUTSIDE 1).wmod (fun w => { w with relock := 0 })
  else
    let fits := w.relock != 0 && decide (w.relockOff - 1 ≤ off) && decide (off ≤ w.relockOff + 1)
    let n := if fits then w.relock + 1 else 1
    let s := s.acceptMark off
    let step : Int := if n < 4 then 0 else if 0 < off then 1 else -1
    let s := s.wmod (fun w => { w with relock := n, relockOff := off - step })
    if n < 4 then s else s.slewTo off

/-- A rising edge of WHEEL_MARK that stays high for `high` reference cycles (R426 to R433). -/
def State.markEdge (s : State) (boundary : State → State) (high : Nat) : State :=
  if s.flag Fld.WHL_CTL_NOMARK then s
  else
    let s := s.wmod (fun w => { w with edges := w.edges + 1, long := w.long || decide (64 < high) })
    if s.wheel.fault then s
    else if 4 < s.wheel.edges then s.markFault 2
    else if high < 2 then s.count Fld.WHL_MARKCNT_GLITCH 1
    else
      let off := s.markOffset
      let s := (s.set Fld.WHL_MARKLAST_REV (s.get Fld.WHL_NOW_REV % 2 ^ 32)).set Fld.WHL_MARKLAST_OFFSET (off % 65536).toNat
      if ¬ s.wheel.refIn then s.acceptMark off
      else if s.whlState = whlFreeRun then ((s.whlEnter whlAcquire 0 0).acceptMark off).acquireMark boundary off
      else if s.whlState = whlAcquire ∧ ¬ s.wheel.held then (s.acceptMark off).acquireMark boundary off
      else if s.whlState = whlHoldover then s.holdoverMark off
      else if -2 ≤ off ∧ off ≤ 2 then (s.acceptMark off).slewTo off
      else s.count Fld.WHL_MARKCNT_OUTSIDE 1

/-! Revolutions. -/

/-- The count that a package takes by itself after 16 revolutions with the phase held (R434 cases 2 and 3). -/
def State.takeCount (s : State) : State :=
  let w := s.wheel
  let origin : Bool := match s.image with
    | some h => decide (h.herdAddr = 0)
    | none => true
  let s :=
    if w.held ∧ (s.whlState = whlAcquire ∨ s.whlState = whlLocked) ∧ s.get Fld.WHL_STAT_COUNTSRC = 0 then
      let s := s.wmod (fun w => { w with heldRevs := w.heldRevs + 1 })
      if 16 ≤ s.wheel.heldRevs ∧ origin then
        (s.wmod (fun w => { w with nextRev := some (s.get Fld.WHL_REVSET_COUNT) })).set Fld.WHL_STAT_COUNTSRC (if s.image.isSome then 2 else 1)
      else s
    else s
  if s.image.isSome then
    let s := s.wmod (fun w => { w with sinceApply := w.sinceApply + 1 })
    if s.get Fld.WHL_STAT_COUNTSRC = 1 ∧ origin ∧ 16 ≤ s.wheel.sinceApply then s.set Fld.WHL_STAT_COUNTSRC 2 else s
  else s

/-- The end of a revolution as the marks see it: MISSING, and the clearing of a mark fault (R426, R427). -/
def State.closeRev (s : State) : State :=
  let w := s.wheel
  let s := if w.marked then s.wmod (fun w => { w with missRun := 0 })
    else (s.count Fld.WHL_MARKCNT_MISSING 1).wmod (fun w => { w with missRun := w.missRun + 1 })
  let s :=
    if s.wheel.fault then
      let c := if s.wheel.edges = 1 ∧ ¬ s.wheel.long then s.wheel.clean + 1 else 0
      s.wmod (fun w => { w with clean := c, fault := decide (c < 2) })
    else s
  s.wmod (fun w => { w with marked := w.markedNext, markedNext := false, edges := 0, long := false })

/-- The states' changes at a boundary (R429, R430, R445). -/
def State.boundaryStates (s : State) (was : Nat) : State :=
  let s := if s.wheel.lossDue then (s.wmod (fun w => { w with lossDue := false })).whlEnter whlHoldover 3 3 else s
  let s :=
    if s.whlState = whlHoldover ∧ was = whlHoldover then
      let per := if s.wheel.refIn then max 1 (s.get Fld.WHL_HOLDCFG_REFREVS) else 30
      let g := s.wheel.grow + 1
      let s := if per ≤ g then (s.count Fld.WHL_HOLDSTAT_ERR 1).wmod (fun w => { w with grow := 0 }) else s.wmod (fun w => { w with grow := g })
      if max 3 (s.get Fld.WHL_HOLDCFG_LIMIT) < s.get Fld.WHL_HOLDSTAT_ERR then s.whlEnter whlFreeRun 4 0 else s
    else if s.whlState = whlLocked ∧ 3 ≤ s.wheel.missRun then s.whlEnter whlHoldover 1 2
    else s
  s.checkLock

/-- A count that moves backwards to revolution `r` (R434): no sender flow record is created until the count exceeds the highest revolution in a FLOWID that exists. -/
def State.holdFlows (s : State) (r : Nat) : State :=
  if s.get Fld.WHL_NOW_REV < r ∨ s.net.txFlows = [] then s
  else { s with net := { s.net with flowRev := s.net.txFlows.foldl (fun m f => max m (f.2.flow / 256)) 0, flowsInRev := 256 } }

/-- The Wheel's own part of a revolution boundary (R424 to R434): the start of spoke 0000 of the next revolution. -/
def State.wheelBoundary (s : State) : State :=
  let was := s.whlState
  let s := s.closeRev.takeCount
  let r := s.get Fld.WHL_NOW_REV
  let r' := s.wheel.nextRev.getD (r + 1)
  let s := s.holdFlows r'
  let move (g : Grant) : Grant := ⟨g.port, g.close + 4096 * r' - 4096 * (r + 1)⟩
  let s := s.wmod (fun w => { w with nextRev := none, slew := w.slewNext, slewNext := 0 })
  let s := s.wmod (fun w => { w with grants := (w.grants.map move).filter (fun g => decide (4096 * r' ≤ g.close)) })
  let s := (s.setFlag Fld.WHL_STAT_SLEWING (s.wheel.slew != 0)).setFlag Fld.WHL_STAT_PAUSED false
  ((s.setRev r').boundaryStates was).spokeStart

/-- One reference cycle of the Wheel (R424, R432): a paused Wheel stands; at the end of spoke 4095 comes the boundary. -/
def State.wheelTick (s : State) (boundary : State → State) : State :=
  let s := s.wmod (fun w => { w with cycles := w.cycles + 1 })
  if s.flag Fld.WHL_STAT_PAUSED then s
  else
    let sp := s.get Fld.WHL_NOW_SPOKE
    let c := s.get Fld.WHL_NOW_CYCLE + 1
    let len : Int := if sp = 4095 then 16 + s.wheel.slew else 16
    if (c : Int) < len then s.set Fld.WHL_NOW_CYCLE (min 15 c)
    else if sp = 4095 then boundary s
    else ((s.set Fld.WHL_NOW_SPOKE (sp + 1)).set Fld.WHL_NOW_CYCLE 0).spokeStart

/-! The herd's revolution count (R434 to R436). -/

/-- The revolution count adopted from a neighbour (R434); the closing times of open grants move with it. -/
def State.adoptRev (s : State) (r : Nat) : State :=
  let old := s.get Fld.WHL_NOW_REV
  let s := if r < old then s.holdFlows r else s
  let s := s.set Fld.WHL_NOW_REV (r % 2 ^ 48)
  let move (g : Grant) : Grant := ⟨g.port, g.close + 4096 * r - 4096 * old⟩
  let s := s.wmod (fun w => { w with top := max w.top r, grants := w.grants.map move })
  ((s.count Fld.WHL_POSCNT_ADOPTED 1).set Fld.WHL_STAT_COUNTSRC 2).checkLock

/-- The WHEELPOS message a port sends now (R436). -/
def State.wheelposMsg (s : State) : List Word :=
  [wordOf [(56, 8, 7), (54, 2, s.whlState), (52, 2, s.get Fld.WHL_STAT_COUNTSRC), (51, 1, s.get Fld.WHL_STAT_OSC),
    (32, 16, s.get Fld.WHL_HOLDSTAT_ERR)], s.reg Reg.WHL_NOW, 0, 0]

/-- A Wheel time word in reference cycles. -/
def timeCycles (w : Word) : Int := 65536 * (bits w 16 48 : Int) + bits w 0 16

/-- A WHEELPOS received on port `p` (R434, R436, R447). -/
def State.recvWheelpos (s : State) (p : Nat) (m : List Word) : State :=
  let w0 := wget m 0
  let rtt := s.get (Fld.LNK_RTT_RTT_PS p)
  let skew : Int := timeCycles (s.reg Reg.WHL_NOW) - timeCycles (wget m 1) - (rtt / 12800 : Nat)
  let s := s.count Fld.WHL_POSCNT_RECEIVED 1
  let s := s.setReg (Reg.WHL_NBR p) (wordOf [(62, 2, bits w0 54 2), (60, 2, bits w0 52 2), (59, 1, 1), (32, 16, bits w0 32 16),
    (0, 16, if rtt = 0 then 0x8000 else (skew % 65536).toNat)])
  if bits w0 52 2 ≠ 2 then s
  else
    let s := s.wmod (fun w => { w with sinceApply := 0 })
    let r := bits (wget m 1) 16 48
    if s.get Fld.WHL_STAT_COUNTSRC = 2 then
      if r = s.get Fld.WHL_NOW_REV then s else (s.count Fld.WHL_POSCNT_DISAGREE 1).wheelEvent 1
    else if (s.whlState = whlAcquire ∨ s.whlState = whlLocked) ∧ 8 ≤ s.get Fld.WHL_NOW_SPOKE ∧ s.get Fld.WHL_NOW_SPOKE ≤ 2047 ∧ s.get (Fld.LNK_STAT_STATE p) = 2 then s.adoptRev r
    else s

/-- CLRCOUNT (R434): a LOCKED Wheel has no herd count any more and goes back to ACQUIRE. -/
def State.clearCount (s : State) : State :=
  let s := (s.set Fld.WHL_STAT_COUNTSRC 0).wmod (fun w => { w with heldRevs := 0 })
  if s.whlState = whlLocked then s.whlEnter whlAcquire 0 0 else s

/-- NOMARK set: the Wheel ignores marks and stays in FREE_RUN (R429). -/
def State.setNomark (s : State) : State := s.whlEnter whlFreeRun 0 0

/-! Entries that fire (R439 to R442). -/

/-- Whether an entry shares a key with another that is due at this spoke; `lower` keeps to lower-numbered ones. -/
def State.keyShared (s : State) (n : Nat) (lower : Bool) (shares : CalEntry → Bool) : Bool :=
  s.calEntries.any (fun f => (if lower then decide (f.1 < n) else f.1 != n) && s.calDue f.2 && shares f.2)

/-- Whether an entry has acted at this spoke. -/
def State.hasFired (s : State) (k : Nat) : Bool := s.wheel.fired.contains k

/-- An entry noted as having acted. -/
def State.noteFired (s : State) (k : Nat) : State := s.wmod (fun w => { w with fired := k :: w.fired })

/-- A lookup with several matches counted (R77, R439). -/
def State.calMatch (s : State) (b : Bool) : State := if b then s.count (Fld.HRN_MMATCH_COUNT 8) 1 else s

/-- A grant opened on a port: the union with one that is open (R440). -/
def State.openGrant (s : State) (p until_ : Nat) : State :=
  let old := s.wheel.grants
  let join (g : Grant) : Grant := if g.port = p then ⟨p, max g.close until_⟩ else g
  s.wmod (fun w => { w with grants := if old.any (fun g => g.port == p) then old.map join else old ++ [⟨p, until_⟩] })

/-- GRANT: a GRANT entry falls due and opens the VC 0 grant of those of its ports that are UP (R393, R440). -/
def execGrant (entry : Nat) (s : State) : Host.Outcome State Fault Refusal :=
  let e := s.calEntry entry
  if e.kind ≠ 1 ∨ s.calSize ≤ entry ∨ ¬ s.calDue e ∨ s.hasFired (2 * entry) then .next s
  else
    let sharesPort (p : Nat) (f : CalEntry) : Bool := f.kind == 1 && decide (f.ports / 2 ^ p % 2 = 1)
    let ps := (numsFrom 0 6).filter (fun p => decide (e.ports / 2 ^ p % 2 = 1) && !s.keyShared entry true (sharesPort p))
    let s := s.noteFired (2 * entry)
    if ps = [] then .next s
    else
      let s := ps.foldl (fun (s : State) p => s.calMatch (s.keyShared entry false (sharesPort p))) s
      if ¬ s.calAllowed e then .next (s.count Fld.WHL_CALCNT_SUPPRESSED 1)
      else .next (ps.foldl (fun (s : State) p => if s.get (Fld.LNK_STAT_STATE p) = 2 then s.openGrant p (s.nowSpokes + e.dur) else s) (s.count Fld.WHL_CALCNT_FIRED 1))

/-- GRANT_CLOSE: DUR spokes after it opened, a grant closes (R440). -/
def execGrantClose (port : Nat) (s : State) : Host.Outcome State Fault Refusal :=
  if 6 ≤ port then .next s else
  .next (s.wmod (fun w => { w with grants := w.grants.filter (fun g => !(g.port == port && decide (g.close ≤ s.nowSpokes))) }))

/-- MARK: a calendar MARK entry adds INC to a tile's ready mark (R442). -/
def execMark (entry : Nat) (s : State) : Host.Outcome State Fault Refusal :=
  let e := s.calEntry entry
  let shares (f : CalEntry) : Bool := f.kind == 3 && f.ports == e.ports && f.markno == e.markno
  if e.kind ≠ 3 ∨ s.calSize ≤ entry ∨ ¬ s.calDue e ∨ s.hasFired (2 * entry) then .next s
  else
    let s := s.noteFired (2 * entry)
    if s.keyShared entry true shares then .next s
    else
      let s := s.calMatch (s.keyShared entry false shares)
      if ¬ s.calAllowed e ∨ s.power.wrst ∨ s.unitDown 3 e.ports ∨ ¬ s.mapped e.ports then .next (s.count Fld.WHL_CALCNT_SUPPRESSED 1)
      else .next ((s.raiseMark e.ports e.markno e.inc).count Fld.WHL_CALCNT_FIRED 1)

/-- STUCK: WHEEL_MARK stays high for more than 64 cycles (R427). -/
def execStuck (s : State) : Host.Outcome State Fault Refusal :=
  if s.flag Fld.WHL_CTL_NOMARK ∨ s.wheel.fault then .next s else .next ((s.wmod (fun w => { w with long := true })).markFault 1)

/-- REFERENCE_LOSS: WHEEL_REF is lost, and the Wheel counts on its oscillator (R425, R429). -/
def execReferenceLoss (s : State) : Host.Outcome State Fault Refusal :=
  if ¬ s.wheel.refIn then .next s
  else
    let s := (s.wmod (fun w => { w with refIn := false, grow := 0 })).set Fld.WHL_STAT_OSC 1
    let disc := s.flag Fld.WHL_STAT_DISCIPLINED
    if s.whlState = whlLocked ∧ disc then
      if s.flag Fld.WHL_STAT_SLEWING then .next (s.wmod (fun w => { w with lossDue := true })) else .next (s.whlEnter whlHoldover 3 3)
    else if s.whlState = whlFreeRun ∨ (s.whlState = whlHoldover ∧ disc) then .next s
    else .next (s.whlEnter whlFreeRun (if disc then 3 else 5) 0)

/-- REFERENCE_RESTORE: after one good revolution counting returns to the reference (R425). -/
def execReferenceRestore (s : State) : Host.Outcome State Fault Refusal :=
  if s.wheel.refIn then .next s
  else .next (((s.wmod (fun w => { w with refIn := true, grow := 0 })).set Fld.WHL_STAT_OSC 0).setFlag Fld.WHL_STAT_DISCIPLINED false)

/-- DISCIPLINED: the oscillator becomes disciplined after 600 s of uninterrupted reference (R425). -/
def execDisciplined (s : State) : Host.Outcome State Fault Refusal :=
  if s.wheel.refIn then .next (s.setFlag Fld.WHL_STAT_DISCIPLINED true) else .next s

end Sys2Proof.Machine
end

