-- ==== Sys2Proof/Machine/NetOps.lean ====
section
/-! DEFINITION. The exchange path below its messages' meaning: herd addresses and routes (R395, R396), messages and their fragments (R399, R400), the queues of the ports (R397), and assembly at the destination. -/

set_option Elab.async false

namespace Sys2Proof.Machine

/-- The network state changed. -/
def State.nmod (s : State) (f : NetState → NetState) : State := { s with net := f s.net }

/-- Link port `p`. -/
def State.port (s : State) (p : Nat) : Port := sget Port.reset s.net.ports p

/-- A link port changed. -/
def State.pmod (s : State) (p : Nat) (f : Port → Port) : State := s.nmod (fun n => { n with ports := sput Port.reset n.ports p (f (s.port p)) })

/-- DOWN (R378). -/
def lnkDown : Nat := 0
/-- TRAINING. -/
def lnkTraining : Nat := 1
/-- UP. -/
def lnkUp : Nat := 2
/-- ABSENT. -/
def lnkAbsent : Nat := 3
/-- RETIRED. -/
def lnkRetired : Nat := 4
/-- LOW_POWER. -/
def lnkLow : Nat := 5

/-- STATE of a port. -/
def State.lnkState (s : State) (p : Nat) : Nat := s.get (Fld.LNK_STAT_STATE p)

/-- The transmit credit field of a class (LNK_CREDIT). -/
def creditFld (p v : Nat) : Fld := ⟨Reg.LNK_CREDIT p, 16 * v, 16⟩

/-- Receive buffer of a class in flits (R371). -/
def vcBuffer (v : Nat) : Nat :=
  match v with
  | 1 => 64
  | 3 => 256
  | _ => 768

/-! Herd addresses and routes. -/

/-- This package's herd address (R395). -/
def State.herdAddr (s : State) : Nat :=
  match s.image with
  | some h => h.herdAddr
  | none => 0

/-- A herd address from its coordinates: X in [15:11], Y in [10:6], Z in [5:0] (R61). -/
def herdOf (x y z : Nat) : Nat := 2048 * x + 64 * y + z

/-- X, Y and Z of a herd address. -/
def herdX (a : Nat) : Nat := a / 2048
/-- Y. -/
def herdY (a : Nat) : Nat := a / 64 % 32
/-- Z. -/
def herdZ (a : Nat) : Nat := a % 64

/-- The herd extents along X, Y and Z (R395). -/
def State.extents (s : State) : Nat × Nat × Nat :=
  match s.image with
  | some h => (h.xdim + 1, h.ydim + 1, h.zdim + 1)
  | none => (1, 1, 1)

/-- The port that a message takes in one dimension, from coordinate `a` to `b` of `n`; `plus` is the dimension's + port (R396). -/
def dimHop (a b n plus : Nat) : Option Nat :=
  let up := (b + n - a) % n
  if up = 0 then none else if up ≤ n - up then some plus else some (plus + 1)

/-- The port on which this package sends a message on to `dst`; none when it is its own (R396). -/
def State.nextHop (s : State) (dst : Nat) : Option Nat :=
  let o := s.herdAddr
  let e := s.extents
  (dimHop (herdX o) (herdX dst) e.1 0).orElse (fun _ => (dimHop (herdY o) (herdY dst) e.2.1 2).orElse (fun _ => dimHop (herdZ o) (herdZ dst) e.2.2 4))

/-- The herd address of the neighbour across a port (R395). -/
def State.neighbour (s : State) (p : Nat) : Nat :=
  let o := s.herdAddr
  let e := s.extents
  let mv (c n : Nat) : Nat := if p % 2 = 0 then (c + 1) % n else (c + n - 1) % n
  if p / 2 = 0 then herdOf (mv (herdX o) e.1) (herdY o) (herdZ o)
  else if p / 2 = 1 then herdOf (herdX o) (mv (herdY o) e.2.1) (herdZ o)
  else herdOf (herdX o) (herdY o) (mv (herdZ o) e.2.2)

/-- Whether an EXTERNAL command with this JSEQ that needs port `p` completes LINK_LOST at its dispatch (R388, R389, R393). -/
def State.portLost (s : State) (p j : Nat) : Bool :=
  s.isRetired 2 p || (s.lnkState p == lnkDown && s.flag (Fld.LNK_CTL_HOLDDOWN p)) || decide (j < (s.port p).fromJseq)

/-! Messages and fragments. -/

/-- The traffic class of a message (R398). -/
def Msg.vc (m : Msg) : Nat :=
  match m.mtype with
  | 1 => if m.slot < 16 then 0 else 2
  | 2 => if m.slot < 16 then 0 else 2
  | 3 => if m.slot < 16 then 0 else 2
  | 4 => 3
  | 5 => 3
  | _ => 1

/-- Whether a message is one of the collective unit's: its fields stand from +0x08 on, or 26 values would not fit a flit (log entry 21). -/
def collectiveType (mtype : Nat) : Bool := decide (6 ≤ mtype)

/-- The header fragment's bytes (R400; log entries 20 and 21). -/
def Msg.header (m : Msg) : List Byte :=
  let w0 := wordOf [(56, 8, m.mtype), (48, 8, m.slot), (47, 1, b2n m.last), (46, 1, b2n m.codec), (34, 12, m.rtag), (30, 4, m.reason), (28, 2, m.esz)]
  bytesOfWords (if collectiveType m.mtype then w0 :: m.extra
    else [w0, wordOf [(16, 48, m.flow)], BitVec.ofNat 64 m.eseq, wordOf [(34, 30, m.off / 16), (17, 17, m.len / 16)], BitVec.ofNat 64 m.alen, BitVec.ofNat 64 m.jseq])

/-- A message without its body from a header fragment. -/
def Msg.ofHeader (dst src tag : Nat) (opened : Nat → Bool) (bs : List Byte) : Msg :=
  let w0 := wordAt bs 0
  let w3 := wordAt bs 24
  let m : Msg := { (Msg.blank dst src (bits w0 56 8)) with tag := tag }
  if collectiveType m.mtype then { m with extra := wordsOfBytes ((bs.length - 8) / 8) (bs.drop 8) }
  else { m with slot := bits w0 48 8, last := bit w0 47, codec := bit w0 46, esz := bits w0 28 2, rtag := bits w0 34 12, reason := bits w0 30 4,
                flow := bits (wordAt bs 8) 16 48, eseq := (wordAt bs 16).toNat, off := 16 * bits w3 34 30, len := 16 * bits w3 17 17,
                alen := (wordAt bs 32).toNat, jseq := (wordAt bs 40).toNat, opened := opened (bits w0 48 8) }

/-- The exchange word of a fragment (R399). -/
def exchWord (m : Msg) (frag : Nat) (last : Bool) : Word :=
  wordOf [(48, 16, m.dst), (32, 16, m.src), (20, 12, m.tag), (8, 12, frag), (7, 1, b2n last)]

/-- Data bytes cut into fragments of 232, with their numbers; `fuel` fragments at most. -/
def cutFragments : Nat → Nat → List Byte → List (Nat × List Byte)
  | 0, _, _ => []
  | fuel + 1, k, bs => if bs.isEmpty then [] else (k, bs.take 232) :: cutFragments fuel (k + 1) (bs.drop 232)

/-- The flits of a message: exchange word and payload bytes, header first (R399). -/
def Msg.flits (m : Msg) : List (Word × List Byte) :=
  let ds := cutFragments (m.body.length / 232 + 1) 1 m.body
  (exchWord m 0 ds.isEmpty, m.header) :: ds.map (fun f => (exchWord m f.1 (f.1 == ds.length), f.2))

/-- Element bytes of a codec message. -/
def Msg.eltBytes (m : Msg) : Nat := 2 ^ m.esz

/-- Compressed blocks expanded, one after another: the bytes, and the kind and rest of the first block that does not decode (R236, R237); `fuel` blocks at most. -/
def expandBlocks (e : Nat) : Nat → List Byte → List Byte × Option (Nat × List Byte)
  | 0, bs => ([], if bs.isEmpty then none else some (2, bs))
  | fuel + 1, bs =>
    if bs.isEmpty then ([], none)
    else
      let h := leNat (bs.take 2)
      let n := 16 * headerUnits h
      match decodeBlock512 e h ((bs.drop 2).take n) with
      | .error k => ([], some (k, bs))
      | .ok out =>
        if bs.length < 2 + n then ([], some (2, bs))
        else
          let r := expandBlocks e fuel (bs.drop (2 + n))
          (out ++ r.1, r.2)

/-- The bytes of a codec body as RAW blocks (R381). -/
def rawBlocks (bs : List Byte) : List Byte :=
  ((chunksOf 512 bs.length bs).map (fun b => leBytes 2 (CodecBlock.header ⟨1, b⟩) ++ b)).flatten

/-- A message whose compressed blocks are expanded to RAW blocks for a port below version 1.2 (R381); a block that does not decode stays as it is, with what follows it. -/
def Msg.expanded (m : Msg) : Msg :=
  let r := expandBlocks m.eltBytes (m.body.length / 2 + 1) m.body
  { m with body := rawBlocks r.1 ++ (match r.2 with
    | some x => x.2
    | none => []) }

/-! Queues. -/

/-- The flits queued on a port in one class. -/
def Port.queueOf (q : Port) (v : Nat) : List DFlit := sget [] q.queue v

/-- A flit put at the end of its queue. -/
def State.enqueue (s : State) (p : Nat) (f : DFlit) : State :=
  s.pmod p (fun q => { q with queue := sput [] q.queue f.vc (q.queueOf f.vc ++ [f]) })

/-- A receive buffer entry of a class freed on a port: a credit to return (R373). -/
def State.freeEntry (s : State) (p v : Nat) : State := s.pmod p (fun q => { q with freed := sput 0 q.freed v (sget 0 q.freed v + 1) })

/-- Whether a window slot is OPEN (R403). -/
def State.slotOpen (s : State) (w : Nat) : Bool := s.get (Fld.WIN_CTL_STATE w) == 1

/-- A whole message that has arrived: it waits for its meaning. -/
def State.arrive (s : State) (m : Msg) : State := s.nmod (fun n => { n with inbox := n.inbox ++ [m] })

/-- The flits of a message queued on port `p`, sent by command `j` (0 for none); expanded below version 1.2. -/
def State.queueMsg (s : State) (p : Nat) (m : Msg) (turn : Bool) (j : Nat) : State :=
  let m := if m.codec ∧ s.get (Fld.LNK_STAT_USE_MIN p) < 2 then m.expanded else m
  m.flits.foldl (fun (s : State) f => s.enqueue p ⟨m.vc, f.1, f.2, turn, none, j⟩) s

/-- A message sent by this package (R396, R397): to its own inbox, or into the queue of the route's first port; nothing is queued on a retired port. -/
def State.sendMsg (s : State) (m : Msg) (j : Nat) : State :=
  let m := { m with src := s.herdAddr, tag := s.net.nextTag }
  let s := s.nmod (fun n => { n with nextTag := (n.nextTag + 1) % 4096 })
  match s.nextHop m.dst with
  | none => s.arrive { m with opened := s.slotOpen m.slot }
  | some p => if s.isRetired 2 p then s else s.queueMsg p m true j

/-! Arrival of flits. -/

/-- The key of a message under assembly. -/
def msgKey (exch : Word) : Nat := bits exch 32 16 * 4096 + bits exch 20 12

/-- A flit for this package (R399, R400): a header begins a message, a data fragment continues it, the last one completes it. -/
def State.assemble (s : State) (exch : Word) (payload : List Byte) : State :=
  let k := msgKey exch
  let last := bit exch 7
  if bits exch 8 12 = 0 then
    let m := Msg.ofHeader (bits exch 48 16) (bits exch 32 16) (bits exch 20 12) s.slotOpen payload
    if m.mtype = 0 ∨ 10 < m.mtype then s.count Fld.COL_E2ECNT_ORPHAN 1
    else if last then s.arrive m
    else s.nmod (fun n => { n with partials := sinsert n.partials k m })
  else
    match sfind s.net.partials k with
    | none => s.count Fld.COL_E2ECNT_ORPHAN 1
    | some m =>
      let m := { m with body := m.body ++ payload }
      if last then (s.nmod (fun n => { n with partials := serase n.partials k })).arrive m
      else s.nmod (fun n => { n with partials := sinsert n.partials k m })

/-- A transit flit (R397): queued on the route's next port, dropped when that port is retired; a compressed message for a port below version 1.2 is collected and expanded (R381). -/
def State.forwardFlit (s : State) (inp out v : Nat) (exch : Word) (payload : List Byte) : State :=
  let turn : Bool := inp / 2 != out / 2
  let k := msgKey exch
  let last := bit exch 7
  let head : Bool := bits exch 8 12 == 0
  let s := s.count Fld.COL_FWDCNT_COUNT 1
  if s.isRetired 2 out then s.freeEntry inp v
  else if head ∧ ¬ last ∧ bit (wordAt payload 0) 46 ∧ s.get (Fld.LNK_STAT_USE_MIN out) < 2 then
    (s.nmod (fun n => { n with transit := sinsert n.transit k (Msg.ofHeader (bits exch 48 16) (bits exch 32 16) (bits exch 20 12) (fun _ => false) payload) })).freeEntry inp v
  else
    match (if head then none else sfind s.net.transit k) with
    | some m =>
      let m := { m with body := m.body ++ payload }
      let s := s.freeEntry inp v
      if last then (s.nmod (fun n => { n with transit := serase n.transit k })).queueMsg out m turn 0
      else s.nmod (fun n => { n with transit := sinsert n.transit k m })
    | none => s.enqueue out ⟨v, exch, payload, turn, some inp, 0⟩

/-- An accepted DATA flit delivered to the exchange path (R374, R397). -/
def State.deliverFlit (s : State) (inp v : Nat) (exch : Word) (payload : List Byte) : State :=
  match s.nextHop (bits exch 48 16) with
  | none => (s.assemble exch payload).freeEntry inp v
  | some out => s.forwardFlit inp out v exch payload

end Sys2Proof.Machine
end

