-- ==== Sys2Proof/Machine/Link.lean ====
section
/-! DEFINITION. The Ebzo link ports (file 15): flits, credits, replay, training, lanes, loss and retirement. -/

set_option Elab.async false

namespace Sys2Proof.Machine

/-! The flit (R366, R367). -/

/-- One bit step of the CRC-64 of ECMA-182, most significant bit first. -/
def crc64Bit (c : Nat) : Nat := if 2 ^ 63 ≤ c then ((c * 2) % 2 ^ 64) ^^^ 0x42F0E1EBA9EA3693 else c * 2

/-- The CRC-64 register after one more byte. -/
def crc64Byte (c : Nat) (b : Byte) : Nat :=
  crc64Bit (crc64Bit (crc64Bit (crc64Bit (crc64Bit (crc64Bit (crc64Bit (crc64Bit (c ^^^ (b.toNat * 2 ^ 56)))))))))

/-- FCRC over a flit's link word, exchange word and payload (R366). -/
def fcrcOf (link exch : Word) (payload : List Byte) : Word :=
  BitVec.ofNat 64 ((leBytes 8 link.toNat ++ leBytes 8 exch.toNat ++ payload).foldl crc64Byte 0)

/-- FTYPE of a flit. -/
def flitType (f : Flit) : Nat := bits f.link 32 4

/-- MTYPE of a control message: [63:56] of its word 0, where R370 and R436 lay it out (R369; log entry 22). -/
def ctlType (m : List Word) : Nat := bits (wget m 0) 56 8

/-- The 32-byte control messages of a CONTROL flit up to the first with MTYPE 0x00 (R369). -/
def ctlMessages : Nat → List Byte → List (List Word)
  | 0, _ => []
  | n + 1, bs =>
    let m := wordsOfBytes 4 (bs.take 32)
    if ctlType m = 0 then [] else m :: ctlMessages n (bs.drop 32)

/-- The control messages of a flit. -/
def flitMessages (f : Flit) : List (List Word) := ctlMessages 7 f.payload

/-! A port's own view. -/

/-- The numbers of the bits set below `n` in a mask. -/
def maskBits (n m : Nat) : List Nat := (numsFrom 0 n).filter (fun i => decide (m / 2 ^ i % 2 = 1))

/-- The mask of a list of bit numbers. -/
def bitsMask (l : List Nat) : Nat := l.foldl (fun a i => a + 2 ^ i) 0

/-- The width that `n` good lanes fill at a minor version, encoded as R58; 0 below four lanes (R381, R386). -/
def widthOf (n minor : Nat) : Nat := if 8 ≤ n then 5 else if 6 ≤ n ∧ 1 ≤ minor then 4 else if 4 ≤ n then 3 else 0

/-- Lanes of a width. -/
def widthLanes (w : Nat) : Nat :=
  match w with
  | 5 => 8
  | 4 => 6
  | 3 => 4
  | _ => 0

/-- The minor versions a port offers: lowest and highest (LNK_VERCFG). -/
def State.offers (s : State) (p : Nat) : Nat × Nat :=
  let hi := min 3 (s.get (Fld.LNK_VERCFG_HI_MIN p))
  (min hi (s.get (Fld.LNK_VERCFG_LO_MIN p)), hi)

/-- Lanes a port judges good in this attempt: not retired and locked. -/
def State.goodLanes (s : State) (p : Nat) : Nat := s.get (Fld.LNK_STAT_GOOD p) &&& (s.port p).locked

/-- The IDENT message a port sends (R370). -/
def State.identMsg (s : State) (p : Nat) : List Word :=
  let o := s.offers p
  let e := s.extents
  let q := s.port p
  let key : Word := match s.image with
    | some h => h.herdKey
    | none => 0
  [wordOf [(56, 8, 1), (55, 1, b2n q.ident.isSome), (52, 3, p), (44, 4, 1), (40, 4, o.2), (36, 4, 1), (32, 4, o.1), (16, 16, s.herdAddr),
    (10, 6, e.2.2 - 1), (5, 5, e.2.1 - 1), (0, 5, e.1 - 1)], Config.serial, key,
   wordOf [(32, 32, s.get (Fld.LNK_SESSION_SESSION p)), (20, 12, if q.rxAny then (q.rxNext + 4095) % 4096 else 0), (19, 1, b2n q.rxAny), (11, 8, s.goodLanes p)]]

/-! States (R378, R379, R382, R387). -/

/-- The link event of a port, with the change of the capability list (R378, R480). -/
def State.linkEvent (s : State) (p : Nat) : State := s.capChange.raise .linkState p (s.reg (Reg.LNK_STAT p)) 0

/-- A port's STATE and PHASE set; a change of STATE raises the link event. -/
def State.lnkEnter (s : State) (p st phase : Nat) : State :=
  let was := s.lnkState p
  let s := (s.set (Fld.LNK_STAT_STATE p) st).set (Fld.LNK_STAT_PHASE p) phase
  if was = st then s else s.linkEvent p

/-- What a port has learnt in an attempt forgotten. -/
def Port.forget (q : Port) : Port := { q with ident := none, identSeen := false, sentSeen := false, locked := 255 }

/-- A full attempt begun (R379). -/
def State.startAttempt (s : State) (p : Nat) : State :=
  (((s.pmod p (fun q => { q.forget with fast := false })).count (Fld.LNK_STAT_ATTEMPTS p) 1)).lnkEnter p lnkTraining 1

/-- A series of full attempts begun. -/
def State.startSeries (s : State) (p : Nat) (k : Series) : State :=
  ((s.set (Fld.LNK_STAT_ATTEMPTS p) 0).pmod p (fun q => { q with series := k })).startAttempt p

/-- A port started by the start order, or by the end of HOLDDOWN (R378): full attempts. -/
def State.startPort (s : State) (p : Nat) : State :=
  if s.lnkState p = lnkDown ∧ ¬ s.flag (Fld.LNK_CTL_HOLDDOWN p) then
    (s.pmod p (fun q => { q with beenUp := false })).startSeries p .start
  else s

/-- A fast retrain begun (R379): the 16 slots of DOWN come first when the port leaves UP on its own initiative (R369). -/
def State.startFast (s : State) (p reason : Nat) (own : Bool) : State :=
  let s := (s.count (Fld.LNK_REPLAYCNT_RETRAINS p) 1).set (Fld.LNK_STAT_REASON p) reason
  let s := (s.set (Fld.LNK_STAT_ATTEMPTS p) 0).pmod p (fun q => { q.forget with
    fast := true, series := .lost, waking := false, pmEnter := false, replayAt := none,
    downSlots := if own then 16 else 0, downReason := reason })
  s.lnkEnter p lnkTraining 0

/-- An UP port suspects loss (R387). -/
def State.suspectLoss (s : State) (p reason : Nat) (own : Bool) : State :=
  if s.lnkState p = lnkUp ∧ ¬ (s.port p).dying then s.startFast p reason own else s

/-- A port that is to retire at once (R387); PORT_RETIRED retires it. -/
def State.doom (s : State) (p reason : Nat) : State :=
  (s.set (Fld.LNK_STAT_REASON p) reason).pmod p (fun q => { q with dying := true })

/-- A training attempt fails (R379, R382, R387). -/
def State.attemptFail (s : State) (p reason : Nat) : State :=
  let s := s.set (Fld.LNK_STAT_REASON p) reason
  let q := s.port p
  if q.fast then s.startSeries p .lost
  else
    let n := s.get (Fld.LNK_STAT_ATTEMPTS p)
    match q.series with
    | .lost => if max 1 (s.get (Fld.LNK_TRAINCFG_LOSTATTEMPTS p)) ≤ n then (s.doom p reason).set (Fld.LNK_STAT_PHASE p) 0 else s.startAttempt p
    | .gap => s.lnkEnter p lnkAbsent 0
    | _ => if max 1 (s.get (Fld.LNK_TRAINCFG_ATTEMPTS p)) ≤ n then s.lnkEnter p lnkAbsent 0 else s.startAttempt p

/-! Acknowledgement and replay (R375, R376). -/

/-- A replay started by NAK or by timeout, or restarted if one runs; an exhausted budget starts a fast retrain. -/
def State.startReplay (s : State) (p : Nat) (tmo : Bool) : State :=
  let q := s.port p
  if q.unacked.isEmpty then s
  else if q.replayAt.isSome then s.pmod p (fun q => { q with replayAt := some 0 })
  else
    let s := (s.count (Fld.LNK_REPLAYCNT_REPLAYS p) 1).count (Fld.LNK_REPLAYCNT_TIMEOUTS p) (b2n tmo)
    let s := s.pmod p (fun q => { q with replayAt := some 0, replays := q.replays + 1 })
    if max 1 (s.get (Fld.LNK_REPLAYCFG_BUDGET p)) ≤ (s.port p).replays then s.suspectLoss p 4 true else s

/-- The oldest `k` unacknowledged flits released. -/
def Port.release (q : Port) (k : Nat) : Port :=
  let rest := q.unacked.drop k
  { q with unacked := rest, oldest := (q.oldest + k) % 4096, replays := 0,
           replayAt := if rest.isEmpty then none else q.replayAt.map (fun i => i - k) }

/-- ACK `a` received (R375). -/
def State.takeAck (s : State) (p a : Nat) : State :=
  let q := s.port p
  let d := (a + 4096 - q.oldest) % 4096
  if d < q.unacked.length then s.pmod p (fun q => q.release (d + 1)) else s.count (Fld.LNK_FLITERR_STALE p) 1

/-- What every flit that passes the checks carries for the transmitter: credits, acknowledgement and NAK (R373, R375, R376). -/
def State.takeReturn (s : State) (p : Nat) (w : Word) : State :=
  let s := s.count (creditFld p (bits w 30 2)) (bits w 20 10)
  let s := if bit w 39 then s.takeAck p (bits w 40 12) else s
  if bit w 38 then s.startReplay p false else s

/-- NAK set from now on (R376). -/
def State.setNak (s : State) (p : Nat) : State :=
  if (s.port p).nak then s else (s.count (Fld.LNK_REPLAYCNT_NAKS p) 1).pmod p (fun q => { q with nak := true })

/-- A DATA flit that passes the checks (R374). -/
def State.recvData (s : State) (p : Nat) (f : Flit) : State :=
  let d := (bits f.link 52 12 + 4096 - (s.port p).rxNext) % 4096
  if d = 0 then
    (s.pmod p (fun q => { q with rxNext := (q.rxNext + 1) % 4096, rxAny := true, nak := false, pmEnter := false })).deliverFlit p (bits f.link 36 2) f.exch (f.payload.take (bits f.link 12 8))
  else if d < 2048 then (s.count (Fld.LNK_FLITERR_AHEAD p) 1).setNak p
  else s.count (Fld.LNK_FLITERR_DUP p) 1

/-! The end of training (R370, R379 to R383, R386). -/

/-- Whether the partner of an IDENT is the one on record (R383). -/
def State.samePartner (s : State) (p : Nat) (m : List Word) : Bool :=
  s.reg (Reg.LNK_PARTNER p) == wget m 1 && s.reg (Reg.LNK_PARTNER_8 p) == wget m 2 &&
  s.get (Fld.LNK_PARTNER_10_HERD_ADDR p) == bits (wget m 0) 16 16 && bits (s.reg (Reg.LNK_PARTNER_10 p)) 32 16 == bits (wget m 0) 0 16

/-- The partner recorded from its IDENT (LNK_PARTNER). -/
def State.recordPartner (s : State) (p : Nat) (m : List Word) : State :=
  let w := wget m 0
  ((s.setReg (Reg.LNK_PARTNER p) (wget m 1)).setReg (Reg.LNK_PARTNER_8 p) (wget m 2)).setReg (Reg.LNK_PARTNER_10 p)
    (wordOf [(48, 16, bits w 16 16), (32, 16, bits w 0 16), (28, 4, bits w 40 4), (24, 4, bits w 32 4), (21, 3, bits w 52 3), (0, 1, 1)])

/-- The lanes' STATE fields: active, spare or retired (LNK_LANEi). -/
def State.markLanes (s : State) (p : Nat) : State :=
  let act := s.get (Fld.LNK_STAT_LANES p)
  let good := s.get (Fld.LNK_STAT_GOOD p)
  (numsFrom 0 8).foldl (fun (s : State) i =>
    s.set (Fld.LNK_LANE_STATE p i) (if good / 2 ^ i % 2 = 0 then 2 else if act / 2 ^ i % 2 = 1 then 0 else 1)) s

/-- Entries of a port's receive buffers that other queues still hold are forgotten: the session has fresh credits (R373). -/
def State.forgetOrigins (s : State) (p : Nat) : State :=
  let fix (f : DFlit) : DFlit := if f.origin = some p then { f with origin := none } else f
  s.nmod (fun n => { n with ports := smap (fun _ (q : Port) => { q with queue := smap (fun _ (l : List DFlit) => l.map fix) q.queue }) n.ports })

/-- RESUME (R380): the session opened, flits trimmed and renumbered, credits set, the port UP. -/
def State.resume (s : State) (p : Nat) (m : List Word) (minor lanes width : Nat) : State :=
  let w3 := wget m 3
  let last := s.get (Fld.LNK_SESSION_SESSION p)
  let top := (max last (bits w3 32 32) + 1) % 2 ^ 32
  let s := s.recordPartner p m
  let q := s.port p
  let d := (bits w3 20 12 + 4096 - q.oldest) % 4096
  let k := if bits w3 32 32 = last ∧ bit w3 19 ∧ d < q.unacked.length then d + 1 else 0
  let s := s.forgetOrigins p
  let s := s.pmod p (fun q =>
    let q := q.release k
    { q with oldest := 0, replayAt := if q.unacked.isEmpty then none else some 0, replays := 0, rxNext := 0, rxAny := false, nak := false,
             freed := [], urgent := [], control := [], sinceControl := 64, waited2 := 0, downSlots := 0, beenUp := true, skipIdentity := false,
             waking := false, fast := false, series := .lost })
  let s := (numsFrom 0 4).foldl (fun (s : State) v => s.set (creditFld p v) (vcBuffer v)) s
  let s := s.set (Fld.LNK_SESSION_SESSION p) (if top = 0 then 1 else top)
  let s := ((s.set (Fld.LNK_STAT_USE_MIN p) minor).set (Fld.LNK_STAT_LANES p) lanes).set (Fld.LNK_STAT_WIDTH p) width
  (s.markLanes p).lnkEnter p lnkUp 0

/-- IDENT ends once both sides have shown SEEN (R379): version, identity and width are settled, or the attempt fails. -/
def State.completeIdent (s : State) (p : Nat) : State :=
  let q := s.port p
  match q.ident with
  | none => s
  | some m =>
    if ¬ q.identSeen ∨ ¬ q.sentSeen ∨ s.lnkState p ≠ lnkTraining ∨ s.get (Fld.LNK_STAT_PHASE p) ≠ 3 then s
    else
      let w0 := wget m 0
      let o := s.offers p
      let lo := max (16 + o.1) (bits w0 32 8)
      let hi := min (16 + o.2) (bits w0 40 8)
      let minor := hi % 16
      let good := maskBits 8 (s.goodLanes p &&& bits (wget m 3) 11 8)
      let width := widthOf good.length minor
      if q.beenUp ∧ ¬ q.skipIdentity ∧ s.flag (Fld.LNK_PARTNER_10_VALID p) ∧ ¬ s.samePartner p m then
        (s.doom p 6).set (Fld.LNK_STAT_PHASE p) 0
      else if hi < lo then s.attemptFail p 3
      else if width = 0 then s.attemptFail p 8
      else s.resume p m minor (bitsMask (good.take (widthLanes width))) width

/-! Control messages (R369, R390). -/

/-- Whether a port may accept or complete a request for LOW_POWER (R390). -/
def State.mayLowPower (s : State) (p : Nat) : Bool :=
  s.lnkState p == lnkUp && decide (3 ≤ s.get (Fld.LNK_STAT_USE_MIN p)) && s.flag (Fld.LNK_CTL_LPALLOW p) &&
  (s.port p).unacked.isEmpty && (s.port p).queue.all (fun e => e.2.isEmpty)

/-- LOW_POWER entered (R390). -/
def State.enterLow (s : State) (p : Nat) : State := (s.count (Fld.LNK_LPCNT_ENTRIES p) 1).lnkEnter p lnkLow 0

/-- LOW_POWER left: every active lane has locked again (R390); a parked device wakes with it (R547). -/
def State.leaveLow (s : State) (p : Nat) : State :=
  (((s.count (Fld.LNK_LPCNT_WAKES p) 1).pmod p (fun q => { q with waking := false })).lnkEnter p lnkUp 0).wake

/-- A control message due ahead of every flit. -/
def State.urgentMsg (s : State) (p : Nat) (m : List Word) : State := s.pmod p (fun q => { q with urgent := q.urgent ++ [m] })

/-- One control message received on a port; `rtt` is the round trip an ECHO_RSP ends. -/
def State.recvControl (s : State) (p : Nat) (rtt : Option Nat) (m : List Word) : State :=
  match ctlType m with
  | 1 =>
    if s.lnkState p = lnkTraining ∧ s.get (Fld.LNK_STAT_PHASE p) = 3 then
      (s.pmod p (fun q => { q with ident := some m, identSeen := q.identSeen || bit (wget m 0) 55 })).completeIdent p
    else s
  | 2 => if s.mayLowPower p then (s.urgentMsg p [wordOf [(56, 8, 3)], 0, 0, 0]).enterLow p else s
  | 3 =>
    if (s.port p).pmEnter then
      let s := s.pmod p (fun q => { q with pmEnter := false })
      if s.mayLowPower p then s.enterLow p else s
    else s
  | 4 => if s.lnkState p = lnkLow then s.leaveLow p else s
  | 5 => s.urgentMsg p [wordOf [(56, 8, 6)], wget m 1, 0, 0]
  | 6 =>
    match rtt with
    | some r => s.set (Fld.LNK_RTT_RTT_PS p) (min r (2 ^ 32 - 1))
    | none => s
  | 7 => s.recvWheelpos p m
  | 8 => s.suspectLoss p 9 false
  | _ => s.count (Fld.LNK_FLITERR_BADMSG p) 1

/-! Reception (R368). -/

/-- Whether a flit fails FCRC, FTYPE or a reserved field. -/
def flitBroken (f : Flit) : Bool :=
  f.fcrc != fcrcOf f.link f.exch f.payload || decide (f.payload.length ≠ 232) || decide (2 < flitType f) || bits f.link 8 4 != 0

/-- Whether a port receives flits at all: UP, in low power, or exchanging IDENTs. -/
def State.receives (s : State) (p : Nat) : Bool :=
  s.lnkState p == lnkUp || s.lnkState p == lnkLow || (s.lnkState p == lnkTraining && s.get (Fld.LNK_STAT_PHASE p) == 3)

/-- A flit received on a port (R368, R374, R375). -/
def State.recvFlit (s : State) (p : Nat) (rtt : Option Nat) (f : Flit) : State :=
  let isData : Bool := flitType f == 1
  if ¬ s.receives p then s
  else if flitBroken f then
    let s := s.count (Fld.LNK_FLITERR_CRC p) 1
    if isData then s.setNak p else s
  else if s.lnkState p = lnkTraining then
    if flitType f = 2 then (flitMessages f).foldl (fun (s : State) m => s.recvControl p rtt m) s else s
  else if bits f.link 0 8 ≠ s.get (Fld.LNK_SESSION_SESSION p) % 256 then
    let s := s.count (Fld.LNK_FLITERR_STALE p) 1
    if isData then s.setNak p else s
  else
    let s := s.takeReturn p f.link
    if isData then s.recvData p f
    else if flitType f = 2 then (flitMessages f).foldl (fun (s : State) m => s.recvControl p rtt m) s
    else s

/-- Whether a flit is a CONTROL flit with a message of one type, as far as its bits go. -/
def flitCarries (f : Flit) (t : Nat) : Bool := flitType f == 2 && (flitMessages f).any (fun m => ctlType m == t)

/-- A CONTROL flit received for the sake of one message type. -/
def State.recvMsg (s : State) (p t : Nat) (rtt : Option Nat) (f : Flit) : State := if flitCarries f t then s.recvFlit p rtt f else s

/-! Transmission (R365, R369, R372). -/

/-- A flit put on the lanes: link word with the receiver's state and the credits due, FCRC (R367, R373, R375). -/
def State.emit (s : State) (p ftype seq vc len : Nat) (exch : Word) (payload : List Byte) : State :=
  let q := s.port p
  let cv := (q.freed.headD (0, 0)).1
  let cn := min 1023 (q.freed.headD (0, 0)).2
  let link := wordOf [(52, 12, seq), (40, 12, if q.rxAny then (q.rxNext + 4095) % 4096 else 0), (39, 1, b2n q.rxAny), (38, 1, b2n q.nak), (36, 2, vc),
    (32, 4, ftype), (30, 2, cv), (20, 10, cn), (12, 8, len), (0, 8, s.get (Fld.LNK_SESSION_SESSION p) % 256)]
  let pl := payload ++ List.replicate (232 - payload.length) 0
  s.pmod p (fun q => { q with freed := sput 0 q.freed cv (sget 0 q.freed cv - cn), sent := some ⟨link, exch, pl, fcrcOf link exch pl⟩ })

/-- A CONTROL flit of up to seven messages. -/
def State.emitControl (s : State) (p : Nat) (ms : List (List Word)) : State :=
  (s.pmod p (fun q => { q with sinceControl := 0 })).emit p 2 0 0 0 0 (bytesOfWords (ms.take 7).flatten)

/-- The due control messages sent in one CONTROL flit, `own` first, then the urgent ones and the others. -/
def State.sendControl (s : State) (p : Nat) (own : List (List Word)) : State :=
  let q := s.port p
  let u := q.urgent.take (7 - own.length)
  let c := q.control.take (7 - own.length - u.length)
  (s.pmod p (fun q => { q with urgent := q.urgent.drop u.length, control := q.control.drop c.length })).emitControl p (own ++ u ++ c)

/-- Whether the head of a class's queue may be sent: credits by R397, fewer than 2,048 flits unacknowledged (R372). -/
def State.sendable (s : State) (p v : Nat) : Bool :=
  let q := s.port p
  match q.queueOf v with
  | f :: _ => decide ((if f.turn then 2 else 1) ≤ s.get (creditFld p v)) && decide (q.unacked.length < 2048)
  | [] => false

/-- The head of a class's queue sent for the first time (R372 to R374). -/
def State.sendNew (s : State) (p v : Nat) : State :=
  let q := s.port p
  match q.queueOf v with
  | [] => s
  | f :: r =>
    let seq := (q.oldest + q.unacked.length) % 4096
    let s := (s.lower (creditFld p v) 1).count (Fld.LNK_VCFLITS_COUNT p v) 1
    let s := s.pmod p (fun q => { q with queue := sput [] q.queue v r, unacked := q.unacked ++ [{ f with origin := none }] })
    let s := match f.origin with
      | some o => s.freeEntry o v
      | none => s
    s.emit p 1 seq v f.payload.length f.exch f.payload

/-- The next flit of a replay sent again (R376). -/
def State.sendReplay (s : State) (p i : Nat) : State :=
  let q := s.port p
  match q.unacked.drop i with
  | [] => s.pmod p (fun q => { q with replayAt := none })
  | f :: r => (s.pmod p (fun q => { q with replayAt := if r.isEmpty then none else some (i + 1) })).emit p 1 ((q.oldest + i) % 4096) f.vc f.payload.length f.exch f.payload

/-- The choice of R372 in one slot of an UP port. -/
def State.sendSlot (s : State) (p : Nat) (repeats : Bool) : State :=
  let q := s.port p
  let own : List (List Word) := if q.pmEnter ∧ repeats then [[wordOf [(56, 8, 2)], 0, 0, 0]] else []
  let due : Bool := !q.urgent.isEmpty || (decide (64 ≤ q.sinceControl) && (!q.control.isEmpty || !own.isEmpty))
  let vc2 := s.sendable p 2
  if due then s.sendControl p own
  else
    match q.replayAt with
    | some i => s.sendReplay p i
    | none =>
      if s.sendable p 1 then s.sendNew p 1
      else if s.grantOpen p ∧ s.sendable p 0 then s.sendNew p 0
      else if vc2 ∧ 15 ≤ q.waited2 ∧ ¬ s.grantOpen p then s.sendNew p 2
      else if s.sendable p 3 then s.sendNew p 3
      else if vc2 then s.sendNew p 2
      else s.emit p 0 0 0 0 0 []

/-- Slots counted for R369 and R372 after a slot of an UP port. -/
def State.countSlot (s : State) (p : Nat) (was2 : Nat) : State :=
  let still : Bool := !((s.port p).queueOf 2).isEmpty && ((s.port p).queueOf 2).length == was2
  s.pmod p (fun q => { q with sinceControl := min 64 (q.sinceControl + 1), waited2 := if still then q.waited2 + 1 else 0 })

/-- FLIT_SLOT: a port sends one flit (R365, R369, R372, R390). -/
def execFlitSlot (port : Nat) (repeats : Bool) (s : State) : Host.Outcome State Fault Refusal :=
  if 6 ≤ port then .next s else
  let q := s.port port
  let st := s.lnkState port
  if 0 < q.downSlots ∧ (st = lnkUp ∨ st = lnkTraining) then
    .next ((s.pmod port (fun q => { q with downSlots := q.downSlots - 1 })).sendControl port [[wordOf [(56, 8, 8), (48, 8, q.downReason)], 0, 0, 0]])
  else if st = lnkTraining ∧ s.get (Fld.LNK_STAT_PHASE port) = 3 then
    if repeats then
      let m := s.identMsg port
      .next (((s.emitControl port [m]).pmod port (fun q => { q with sentSeen := q.sentSeen || bit (wget m 0) 55 })).completeIdent port)
    else .next (s.pmod port (fun q => { q with sent := none }))
  else if st = lnkUp then .next ((s.sendSlot port repeats).countSlot port (q.queueOf 2).length)
  else if st = lnkLow then
    let wants : Bool := q.waking || q.queue.any (fun e => !e.2.isEmpty)
    if wants ∧ (repeats ∨ ¬ q.waking) then
      .next (((s.pmod port (fun q => { q with waking := true })).set (Fld.LNK_STAT_PHASE port) 5).sendControl port [[wordOf [(56, 8, 4)], 0, 0, 0]])
    else if ¬ q.urgent.isEmpty ∨ (64 ≤ q.sinceControl ∧ ¬ q.control.isEmpty) then .next ((s.sendControl port []).countSlot port 0)
    else .next ((s.emit port 0 0 0 0 0 []).countSlot port 0)
  else .next (s.pmod port (fun q => { q with sent := none }))

/-! Rows of reception. -/

/-- DATA: a DATA flit arrives (R368, R374). -/
def execData (port : Nat) (flit : Flit) (s : State) : Host.Outcome State Fault Refusal :=
  if 6 ≤ port then .next s else
  .next (if flitType flit = 0 ∨ flitType flit = 2 then s else s.recvFlit port none flit)

/-- IDLE: an IDLE flit arrives (R375). -/
def execIdle (port : Nat) (flit : Flit) (s : State) : Host.Outcome State Fault Refusal :=
  if 6 ≤ port then .next s else
  .next (if flitType flit = 0 then s.recvFlit port none flit else s)

/-- IDENT: the partner's IDENT arrives (R370, R379). -/
def execIdent (port : Nat) (flit : Flit) (s : State) : Host.Outcome State Fault Refusal := if 6 ≤ port then .next s else .next (s.recvMsg port 1 none flit)

/-- PM_ENTER: the partner asks to enter LOW_POWER (R390). -/
def execPmEnter (port : Nat) (flit : Flit) (s : State) : Host.Outcome State Fault Refusal := if 6 ≤ port then .next s else .next (s.recvMsg port 2 none flit)

/-- PM_ACK: the partner accepts PM_ENTER (R390). -/
def execPmAck (port : Nat) (flit : Flit) (s : State) : Host.Outcome State Fault Refusal := if 6 ≤ port then .next s else .next (s.recvMsg port 3 none flit)

/-- PM_WAKE: the partner wakes the link (R390). -/
def execPmWake (port : Nat) (flit : Flit) (s : State) : Host.Outcome State Fault Refusal := if 6 ≤ port then .next s else .next (s.recvMsg port 4 none flit)

/-- ECHO_REQ: an echo request arrives (R369). -/
def execEchoReq (port : Nat) (flit : Flit) (s : State) : Host.Outcome State Fault Refusal := if 6 ≤ port then .next s else .next (s.recvMsg port 5 none flit)

/-- ECHO_RSP: an echo response arrives, `rtt` picoseconds after its request (R369). -/
def execEchoRsp (port : Nat) (flit : Flit) (rtt : Nat) (s : State) : Host.Outcome State Fault Refusal := if 6 ≤ port then .next s else .next (s.recvMsg port 6 (some rtt) flit)

/-- WHEELPOS: a neighbour's WHEELPOS arrives (R434, R436). -/
def execWheelpos (port : Nat) (flit : Flit) (s : State) : Host.Outcome State Fault Refusal := if 6 ≤ port then .next s else .next (s.recvMsg port 7 none flit)

/-- DOWN: a DOWN message arrives (R387). -/
def execDown (port : Nat) (flit : Flit) (s : State) : Host.Outcome State Fault Refusal := if 6 ≤ port then .next s else .next (s.recvMsg port 8 none flit)

/-- WHEELPOS_INSTANT: at spoke 0008.0 each UP or LOW_POWER port is to send a WHEELPOS in its next slot (R369, R436). -/
def execWheelposInstant (s : State) : Host.Outcome State Fault Refusal :=
  let m := s.wheelposMsg
  .next ((numsFrom 0 6).foldl (fun (s : State) p => if s.lnkState p = lnkUp ∨ s.lnkState p = lnkLow then s.urgentMsg p m else s) s)

/-! Rows of training and loss. -/

/-- REPLAY_TIMEOUT: TMO_NS passes without ACK progress (R376). -/
def execReplayTimeout (port : Nat) (s : State) : Host.Outcome State Fault Refusal :=
  if 6 ≤ port then .next s else
  .next (if s.lnkState port = lnkUp then s.startReplay port true else s)

/-- FAST_RETRAIN: a fast retrain goes on to LOCK (R379). -/
def execFastRetrain (port : Nat) (s : State) : Host.Outcome State Fault Refusal :=
  if 6 ≤ port then .next s else
  let q := s.port port
  .next (if s.lnkState port = lnkTraining ∧ q.fast ∧ s.get (Fld.LNK_STAT_PHASE port) = 0 ∧ q.downSlots = 0 ∧ ¬ q.dying then
    s.set (Fld.LNK_STAT_PHASE port) 2 else s)

/-- PMD: PMD start-up and equalization training end (R379). -/
def execPmd (port : Nat) (s : State) : Host.Outcome State Fault Refusal :=
  if 6 ≤ port then .next s else
  .next (if s.lnkState port = lnkTraining ∧ s.get (Fld.LNK_STAT_PHASE port) = 1 then s.set (Fld.LNK_STAT_PHASE port) 2 else s)

/-- The lanes' consecutive failures to lock, after a LOCK phase in which those of `locked` locked (R385). -/
def lockCounts (good locked : Nat) (l : SMap Nat) : SMap Nat :=
  (numsFrom 0 8).foldl (fun l i =>
    if good / 2 ^ i % 2 = 0 ∨ locked / 2 ^ i % 2 = 1 then sput 0 l i 0 else sput 0 l i (sget 0 l i + 1)) l

/-- LOCK: FEC lock and deskew end, with the lanes of `locked` locked (R379); in a wake, every active lane must be among them (R390). -/
def execLock (port : Nat) (locked : Nat) (s : State) : Host.Outcome State Fault Refusal :=
  if 6 ≤ port then .next s else
  let good := s.get (Fld.LNK_STAT_GOOD port)
  if s.lnkState port = lnkTraining ∧ s.get (Fld.LNK_STAT_PHASE port) = 2 then
    let s := s.pmod port (fun q => { q with locked := locked, lockFails := lockCounts good locked q.lockFails })
    if (maskBits 8 (good &&& locked)).length < 4 then .next (s.attemptFail port 8) else .next (s.set (Fld.LNK_STAT_PHASE port) 3)
  else if s.lnkState port = lnkLow ∧ (s.port port).waking then
    let act := s.get (Fld.LNK_STAT_LANES port)
    if act &&& locked = act then .next (s.leaveLow port) else .next (s.startFast port 1 false)
  else .next s

/-- ATTEMPT_TIMEOUT: a training attempt misses its limit (R379); a wake that misses its own is a suspected loss (R390). -/
def execAttemptTimeout (port : Nat) (s : State) : Host.Outcome State Fault Refusal :=
  if 6 ≤ port then .next s else
  if s.lnkState port = lnkTraining ∧ s.get (Fld.LNK_STAT_PHASE port) ≠ 6 ∧ ¬ (s.port port).dying then .next (s.attemptFail port 2)
  else if s.lnkState port = lnkLow ∧ (s.port port).waking then .next (s.startFast port 2 false)
  else .next s

/-- GAP_S: an ABSENT port makes a further attempt (R382). -/
def execGapS (port : Nat) (s : State) : Host.Outcome State Fault Refusal :=
  if 6 ≤ port then .next s else
  .next (if s.lnkState port = lnkAbsent ∧ s.get (Fld.LNK_TRAINCFG_GAP_S port) ≠ 0 then
    (s.pmod port (fun q => { q with series := .gap })).startAttempt port else s)

/-- FLIT_SILENCE: no valid flit for 100 µs (R387). -/
def execFlitSilence (port : Nat) (s : State) : Host.Outcome State Fault Refusal := if 6 ≤ port then .next s else .next (s.suspectLoss port 0xA false)

/-- NO_SIGNAL: every active lane loses signal (R387). -/
def execNoSignal (port : Nat) (s : State) : Host.Outcome State Fault Refusal := if 6 ≤ port then .next s else .next (s.suspectLoss port 1 false)

/-- LANE_RETIRED: a lane exceeds its threshold in STRIKES windows, with `symbols` corrected in the last one, or has failed LOCK twice (R385, R386). -/
def execLaneRetired (port : Nat) (lane : Nat) (symbols : Nat) (s : State) : Host.Outcome State Fault Refusal :=
  if 6 ≤ port ∨ 8 ≤ lane then .next s else
  let beyond : Bool := decide (65536 * s.get (Fld.LNK_LANECFG_THRESH port) < symbols)
  let fails : Bool := decide (2 ≤ sget 0 (s.port port).lockFails lane)
  if s.get (Fld.LNK_STAT_GOOD port) / 2 ^ lane % 2 = 0 ∨ (¬ beyond ∧ ¬ fails) then .next s
  else
    let good := s.get (Fld.LNK_STAT_GOOD port) - 2 ^ lane
    let s := s.count (Fld.LNK_LANE_SYMBOLS port lane) symbols
    let s := if beyond then s.set (Fld.LNK_LANE_STRIKES port lane) (max 1 (s.get (Fld.LNK_LANECFG_STRIKES port))) else s
    let s := ((s.retireUnit 7 (8 * port + lane)).set (Fld.LNK_STAT_GOOD port) good).set (Fld.LNK_LANE_STATE port lane) 2
    let s := s.pmod port (fun q => { q with lockFails := serase q.lockFails lane })
    let n := (maskBits 8 good).length
    let s := s.raise .laneRetired (8 * port + lane) (BitVec.ofNat 64 (widthOf n (s.get (Fld.LNK_STAT_USE_MIN port)))) 0
    let st := s.lnkState port
    if st = lnkUp ∨ st = lnkLow then
      if n < 4 then .next (s.doom port 8)
      else if s.get (Fld.LNK_STAT_LANES port) / 2 ^ lane % 2 = 1 then .next (s.startFast port 5 (st == lnkUp))
      else .next s.capChange
    else if st = lnkTraining ∧ (s.port port).fast then
      if n < 4 then .next (s.doom port 8)
      else .next ((s.pmod port (fun q => q.forget)).set (Fld.LNK_STAT_PHASE port) 0)
    else .next s

/-! Retirement (R388). -/

/-- Whether a journalled command is a dispatched, unfinished RECEIVE on a link channel ring bound to port `p` (R71, R413). -/
def State.receivesOn (s : State) (p : Nat) (e : JEntry) : Bool :=
  e.isStream && tOp e.words == 5 && e.st == .dispatched && e.fin.isNone && s.get (Fld.RING_CFG_BIND (bits (sFarAddr e.words) 0 14)) == p

/-- The commands a port's retirement completes LINK_LOST (R388, R409): EXTERNAL ones with flits queued or unacknowledged there, or with messages unacknowledged on a flow whose first hop it is, and RECEIVEs on its rings. -/
def State.lostWith (s : State) (p : Nat) : List Nat :=
  let q := s.port p
  let flits := ((q.queue.map (fun e => e.2)).flatten ++ q.unacked).map (·.jseq)
  let flows := ((s.net.txFlows.filter (fun e => s.nextHop (e.1 / 256) == some p)).map (fun e => e.2.sent.map (·.jseq))).flatten
  let recvs := (s.journal.filter (fun e => s.receivesOn p e.2)).map (·.1)
  ((flits ++ flows ++ recvs).foldl nadd []).filter (fun j => s.cmdIs j (fun e => e.st == .dispatched && e.fin.isNone))

/-- Messages of a command that no longer holds them dropped from the sender's flow records. -/
def State.dropSent (s : State) (j : Nat) : State :=
  s.nmod (fun n => { n with txFlows := smap (fun _ (f : TxFlow) => { f with sent := f.sent.filter (fun m => m.jseq != j) }) n.txFlows })

/-- PORT_RETIRED: a port that is to retire does (R387, R388). -/
def execPortRetired (port : Nat) (s : State) : Host.Outcome State Fault Refusal :=
  if 6 ≤ port then .next s else
  let q := s.port port
  if ¬ q.dying ∨ 0 < q.downSlots then .next s
  else
    let lost := s.lostWith port
    let held := ((q.queue.map (fun e => e.2)).flatten).filterMap (fun f => f.origin.map (fun o => (o, f.vc)))
    let s := s.retireUnit 2 port
    let rings := s.hostRingsOf lost
    let s := if lost.isEmpty then s else s.beginRecovery 4 rings
    let s := held.foldl (fun (s : State) e => s.freeEntry e.1 e.2) s
    let s := s.pmod port (fun q => { Port.reset with lockFails := q.lockFails, fromJseq := q.fromJseq })
    let s := (s.set (Fld.LNK_STAT_LANES port) 0).set (Fld.LNK_STAT_WIDTH port) 0
    let s := s.lnkEnter port lnkRetired 0
    let s := lost.foldl (fun (s : State) j => (s.dropSent j).finish j .linkLost 0 0) s
    let s := s.raise .portRetired port (BitVec.ofNat 64 (s.get (Fld.LNK_STAT_REASON port))) 0
    .next (if lost.isEmpty then s else s.recoveryEvent.barriersOf rings)

/-! Register-driven rows (R387, R389, R393): the effects of fields of LNK_CTL; `none` where the write is ignored. -/

/-- RETRAIN written 1. -/
def State.lnkRetrain (s : State) (p : Nat) : Option State :=
  if s.lnkState p = lnkUp ∧ ¬ (s.port p).dying then some (s.startFast p 0 true) else none

/-- READMIT written 1 (R389); a port retired three times is not re-admitted (R531). -/
def State.lnkReadmit (s : State) (p : Nat) : Option State :=
  if s.lnkState p = lnkRetired ∧ s.timesRetired 2 p < 3 then some (s.lnkEnter p lnkTraining 6) else none

/-- HOLDDOWN written from 0 to 1 (R387, R393); a port whose re-admission it interrupts still rejoins service at a boundary (R389). -/
def State.lnkHold (s : State) (p : Nat) : State :=
  let st := s.lnkState p
  if st = lnkUp then (s.doom p 7).pmod p (fun q => { q with downSlots := 16, downReason := 7 })
  else if st = lnkLow then s.doom p 7
  else if st = lnkTraining ∨ st = lnkAbsent then
    let s := if s.isRetired 2 p then s.pmod p (fun q => { q with joining := true }) else s
    (s.set (Fld.LNK_STAT_REASON p) 7).lnkEnter p lnkDown 0
  else s

/-- SELFTEST: a re-admitted port's self-test ends, with the lanes of `passed` good (R389). -/
def execSelftest (port : Nat) (passed : Nat) (s : State) : Host.Outcome State Fault Refusal :=
  if 6 ≤ port then .next s else
  if s.lnkState port ≠ lnkTraining ∨ s.get (Fld.LNK_STAT_PHASE port) ≠ 6 then .next s
  else
    let good := passed % 256
    let s := (s.set (Fld.LNK_STAT_GOOD port) good).pmod port (fun q => { q with lockFails := [] })
    let s := (numsFrom 0 8).foldl (fun (s : State) i =>
      if good / 2 ^ i % 2 = 1 then (s.readmitUnit 7 (8 * port + i)).set (Fld.LNK_LANE_STATE port i) 1
      else (if s.isRetired 7 (8 * port + i) then s else s.retireUnit 7 (8 * port + i)).set (Fld.LNK_LANE_STATE port i) 2) s
    if (maskBits 8 good).length < 4 then .next (((s.set (Fld.LNK_STAT_REASON port) 8).setRastat 2 port 5).lnkEnter port lnkRetired 0)
    else
      let s := s.setReg (Reg.LNK_PARTNER_10 port) 0
      .next (((s.pmod port (fun q => { q with joining := true, beenUp := false })).setRastat 2 port 2).startSeries port .readmit)

/-- At a revolution boundary a re-admitted port that is UP rejoins service (R389). -/
def State.joinPort (s : State) (p : Nat) : State :=
  if (s.port p).joining ∧ s.lnkState p = lnkUp then
    let s := (s.readmitUnit 2 p).pmod p (fun q => { q with joining := false, fromJseq := s.get Fld.JRN_NEXT_JSEQ })
    ((s.setRastat 2 p 4).capChange).raise .readmitted (0x200 + p) 0 0
  else s

end Sys2Proof.Machine
end

