-- ==== Sys2Proof/Machine/Compute.lean ====
section
/-! DEFINITION. What a dispatched compute command does (files 05 to 07): operands read from the scratchpad, rows computed and encoded, commit blocks, the array's passes with their checks, and the counters. -/

set_option Elab.async false

namespace Sys2Proof.Machine

/-! Non-finite latch and format events (R107, R112, R279). -/

/-- A source of the non-finite latch raised, if COL_VOTECFG.NFSRC enables it (R279): 0 G8R, 1 LOSS, 2 ROUTE, 3 TILE. -/
def State.raiseLatch (s : State) (b : Nat) : State :=
  if s.get Fld.COL_VOTECFG_NFSRC / 2 ^ b % 2 = 1 then s.set Fld.COL_VOTESTEP_LATCH (s.get Fld.COL_VOTESTEP_LATCH ||| 2 ^ b) else s

/-- One encode event at physical tile `p`, of a command's TID, for format `target` (0 a format table row, 1 G8R, 2 M8S, 3 M8U) and row (R107, R112). -/
def State.encEvent (s : State) (p : Nat) (tid : Word) (target row : Nat) (e : EncEvent) : State :=
  if e.kind = 0 then s.count (Fld.TILE_FMTSAT_COUNT p) 1
  else
    let s := (s.count (Fld.TILE_FMTNF_COUNT p) 1).setReg (Reg.TILE_FMTLAST p) tid
    let s := ((s.set (Fld.TILE_FMTKIND_TARGET p) target).set (Fld.TILE_FMTKIND_ROW p) row).set (Fld.TILE_FMTKIND_KIND p) e.kind
    s.raiseLatch 3

/-! Operands in the scratchpad (R189). -/

/-- Local offset of row `i` of an operand. -/
def OpRef.rowOff (o : OpRef) (i : Nat) : Nat := 16 * (o.base + i * o.stride)

/-- Local offset of the scales of row `i` of `n` elements. -/
def OpRef.scaleOff (o : OpRef) (n i : Nat) : Nat := 16 * (o.base + o.soff) + i * scaleRowBytes n

/-- Row `i` of a tensor of `n` columns in physical tile `p`. -/
def State.readRow (s : State) (p : Nat) (r : FmtRow) (o : OpRef) (n i : Nat) : CodeVec :=
  ⟨unpackCodes r.bitsOf n (s.rbs (spKey p (o.rowOff i)) (r.rowBytes n)),
   if r.scaled then (s.rbs (spKey p (o.scaleOff n i)) (ceilDiv n 32)).map (·.toNat) else []⟩

/-- Element `i` of a per-row vector, read with its group of 32 (R91). -/
def State.readElt (s : State) (p : Nat) (r : FmtRow) (o : OpRef) (i : Nat) : F32 :=
  let g := unpackCodes r.bitsOf 32 (s.rbs (spKey p (16 * o.base + i / 32 * 4 * r.bitsOf)) (4 * r.bitsOf))
  toF32 (toEU (r.decode (g.getD (i % 32) 0)))

/-- Operand b or c of an elementwise operation at row `i`: a tensor, a vector of either kind, or an immediate (R149). -/
def State.readFlex (s : State) (p : Nat) (r : FmtRow) (o : OpRef) (n i : Nat) : List F32 :=
  match o.form with
  | 1 => (s.readRow p r o n i).euValues r
  | 2 => List.replicate n (s.readElt p r o i)
  | 3 => (s.readRow p r o n 0).euValues r
  | _ => List.replicate n o.imm

/-- What one output row comes to: local writes, encode events with their format rows, and what its curve did. -/
structure RowOut where
  writes : List (Nat × List Byte)
  events : List (Nat × EncEvent)
  misses : Nat
  multis : Nat
  deriving DecidableEq, Repr

/-- Two parts of a row's outcome together. -/
def RowOut.and (a b : RowOut) : RowOut := ⟨a.writes ++ b.writes, a.events ++ b.events, a.misses + b.misses, a.multis + b.multis⟩

/-- The writes of an encoded row `i` of `n` columns of an operand. -/
def OpRef.store (o : OpRef) (r : FmtRow) (n i : Nat) (e : EncodedRow) : RowOut :=
  ⟨(o.rowOff i, packCodes r.bitsOf e.codes) :: (if r.scaled then [(o.scaleOff n i, e.scales.map (BitVec.ofNat 8))] else []),
   e.events.map (fun x => (o.row, x)), 0, 0⟩

/-- FP32 values encoded into row `i` of an operand (R98 to R107). -/
def OpRef.put (o : OpRef) (r : FmtRow) (k : DrawKey) (i : Nat) (xs : List F32) : RowOut :=
  o.store r xs.length i (encodeRow r k 0 xs)

/-- The generator key of output row `i` of `n` columns of a command (R103). -/
def State.rowKey (s : State) (p : Nat) (ws : List Word) (n i : Nat) : DrawKey :=
  ⟨s.seed, tTid ws, if tTagged ws then some (wordAt (s.rbs (spKey p (tTbase ws + 8 * i)) 8) 0) else none, i * n⟩

/-! Element operations (R149 to R160). -/

/-- Whether key `j` of row `i` is visible to ATTN_ONLINE (R158). -/
def State.visible (s : State) (p : Nat) (ws : List Word) (i : Nat) : List Bool :=
  let b := tK ws
  let keys (q : Nat) : List Bool := (numsFrom 0 b).map (fun j => decide (tKbase ws + j ≤ q))
  match tMask ws with
  | 1 => keys (tQbase ws + i)
  | 2 => keys (bits (wordAt (s.rbs (spKey p (tTbase ws + 8 * i)) 8) 0) 22 22)
  | 3 => (numsFrom 0 b).map (fun j => (s.rb (spKey p (16 * (opN ws 4).base + (i * b + j) / 8))).getLsbD ((i * b + j) % 8))
  | _ => List.replicate b true

/-- The state record of row `i` (R157). -/
def State.attnState (s : State) (p : Nat) (o : OpRef) (i : Nat) : AttnState :=
  let bs := s.rbs (spKey p (o.rowOff i)) 16
  ⟨BitVec.ofNat 32 (word32At bs 0), BitVec.ofNat 32 (word32At bs 4), word32At bs 8⟩

/-- The first twelve bytes of a state record; the four reserved ones stay as they are (R157). -/
def AttnState.bytes (a : AttnState) : List Byte := leBytes 4 a.m.toNat ++ leBytes 4 a.l.toNat ++ leBytes 4 a.count

/-- A curve over one row: a lookup by code, or a polynomial by value (R153). -/
def Curve.evalRow (c : Curve) (r : FmtRow) (v : CodeVec) : List CurveOut :=
  if c.kind = 2 then v.codes.map (fun x => ⟨c.table.getD x 0, false, false⟩) else (v.euValues r).map c.evalPoly

/-- Output row `i` of an element operation on physical tile `p` (R149). -/
def State.eltRow (s : State) (p : Nat) (ws : List Word) (op i : Nat) : RowOut :=
  let o (k : Nat) : OpRef := opN ws k
  let fm (k : Nat) : FmtRow := s.fmt (o k).row
  let n := if op = 0x0D then tN ws else tK ws
  let v := s.readRow p (fm 0) (o 0) n i
  let x := v.euValues (fm 0)
  let b (_ : Unit) : List F32 := s.readFlex p (fm 1) (o 1) n i
  let y (xs : List F32) : RowOut := (o 2).put (fm 2) (s.rowKey p ws n i) i xs
  match op with
  | 0x02 => y (List.zipWith f32Add x (b ()))
  | 0x03 => y (List.zipWith f32Mul x (b ()))
  | 0x04 => y (List.zipWith (fun ab c => f32Fma ab.1 ab.2 c) (List.zip x (b ())) (s.readFlex p (fm 3) (o 3) n i))
  | 0x05 => y (List.zipWith f32Max x (b ()))
  | 0x06 => y (List.zipWith f32Min x (b ()))
  | 0x07 =>
    let cs := (s.curve (tCurve ws)).evalRow (fm 0) v
    (y (cs.map (·.y))).and ⟨[], [], (cs.filter (·.missed)).length, (cs.filter (·.multi)).length⟩
  | 0x08 =>
    let e := encodeRow (fm 2) (s.rowKey p ws 1 i) 0 [euReduce (tRed ws) x]
    ⟨[(16 * (o 2).base + 4 * i, packCodes 32 e.codes)], e.events.map (fun z => ((o 2).row, z)), 0, 0⟩
  | 0x09 => y (rmsNormRow (tImm0 ws) x ((s.readRow p (fm 1) (o 1) n 0).euValues (fm 1)))
  | 0x0A => y (layerNormRow (tImm0 ws) x ((s.readRow p (fm 1) (o 1) n 0).euValues (fm 1)) ((s.readRow p (fm 3) (o 3) n 0).euValues (fm 3)))
  | 0x0B => y (softmaxRow (tImm0 ws) x)
  | 0x0C =>
    let dv := tN ws
    let out := attnOnlineRow (tImm0 ws) (s.attnState p (o 1) i) (s.visible p ws i) x ((s.readRow p (fm 3) (o 3) dv i).euValues (fm 3))
    ((y out.2.1).and ((o 3).put (fm 3) (s.rowKey p ws dv i) i out.2.2)).and ⟨[((o 1).rowOff i, out.1.bytes)], [], 0, 0⟩
  | 0x0D => y (attnFinalRow (s.attnState p (o 1) i) x)
  | 0x0E =>
    let out := residRow (fm 2) (s.rowKey p ws n i) x ((s.readRow p (fm 1) (o 1) n i).euValues (fm 1))
    ((o 2).store (fm 2) n i out.1).and ((o 1).put (fm 1) (s.rowKey p ws n i) i out.2)
  | _ => y x

/-! Byte ranges a block of output rows reads, for poison (R174). -/

/-- Ranges of rows [a, b) of an operand in its role. -/
def OpRef.blockRanges (r : FmtRow) (o : OpRef) (role : Role) (a b : Nat) : List (Nat × Nat) :=
  let tensor (n : Nat) : List (Nat × Nat) :=
    ((numsFrom a (b - a)).map (fun i => (o.rowOff i, r.rowBytes n))) ++
    (if r.scaled then [(o.scaleOff n a, (b - a) * scaleRowBytes n)] else [])
  match role, o.form with
  | .tensor _ n, _ => tensor n
  | .flexible _ n, 1 => tensor n
  | .perRow _, _ => [(16 * o.base + a * r.bitsOf / 8, ceilDiv ((b - a) * r.bitsOf) 8)]
  | .flexible _ _, 2 => [(16 * o.base + a * r.bitsOf / 8, ceilDiv ((b - a) * r.bitsOf) 8)]
  | .records _, _ => (numsFrom a (b - a)).map (fun i => (o.rowOff i, 16))
  | .bitmap n, _ => [(16 * o.base, ceilDiv n 8)]
  | x, _ => o.ranges r x

/-- Ranges that rows [a, b) of an element operation read in its tile. -/
def State.eltReads (s : State) (ws : List Word) (op a b : Nat) : List (Nat × Nat) :=
  ((readOps op).map (fun k => (opN ws k).blockRanges (s.fmt (opN ws k).row) ((roles ws op (tMmax ws)).getD k .unused) a b)).flatten ++
  (if tTagged ws then [(tTbase ws + 8 * a, 8 * (b - a))] else [])

/-- Whether any of a tile's local ranges is poisoned. -/
def State.spPoisoned (s : State) (p : Nat) (l : List (Nat × Nat)) : Bool := l.any (fun x => s.poisonedIn (spKey p x.1) x.2)

/-! Committing rows. -/

/-- The outcome of a row put into the scratchpad of physical tile `p`. -/
def State.putRow (s : State) (p : Nat) (tid : Word) (curve : Nat) (o : RowOut) : State :=
  let s := o.writes.foldl (fun s w => (s.wbs (spKey p w.1) w.2).cleanse (spKey p w.1) w.2.length) s
  let s := o.events.foldl (fun s e => s.encEvent p tid 0 e.1 e.2) s
  let s := if o.misses = 0 then s else (s.count (Fld.TILE_CURVEMISS_COUNT p) o.misses).set (Fld.TILE_CURVEMISS_CURVE p) curve
  if o.multis = 0 then s else s.count (Fld.HRN_MMATCH_COUNT 5) o.multis

/-- The commit blocks of a command of `m` rows: 64 rows each when it is IN_PLACE, all rows at once when it is PURE (R187). -/
def commitBlocks (inPlace : Bool) (m : Nat) : List (Nat × Nat × Nat) :=
  if inPlace then (numsFrom 0 (ceilDiv m 64)).map (fun b => (b, 64 * b, min m (64 * b + 64))) else [(0, 0, m)]

/-- Errors a command's scratchpad reads met at physical tile `p` (R174): counted, the uncorrectable granules poisoned. -/
def State.spErrors (s : State) (p : Nat) (e : EccObs) : State :=
  let s := e.corrected.foldl (fun s o => ((s.count (Fld.TILE_SPCE_COUNT p) 1).set (Fld.TILE_SPCE_BANK p) (o / 32 % 32)).set (Fld.TILE_SPCE_BROW p) (o / 1024)) s
  e.uncorrectable.foldl (fun s o =>
    (((s.count (Fld.TILE_SPUE_COUNT p) 1).set (Fld.TILE_SPUE_BANK p) (o / 32 % 32)).set (Fld.TILE_SPUE_BROW p) (o / 1024)).poisonGranule (spKey p o / 32)) s

/-- The blocks of an element operation run in order: an unset block whose reads are clean commits, a poisoned one ends the command (R174, R187). `stop` is the first row that a permanent fault keeps from committing. -/
def State.runBlocks (s : State) (j p : Nat) (ws : List Word) (op : Nat) (stop : Option Nat) : List (Nat × Nat × Nat) → State
  | [] => s.finish j .ok 0 0
  | (b, lo, hi) :: r =>
    if s.cmdIs j (fun e => nmem e.blocks b) then s.runBlocks j p ws op stop r
    else if s.spPoisoned p (s.eltReads ws op lo hi) then s.finish j .memError 0 0
    else if (stop.map (fun q => decide (q < hi))).getD false then s
    else
      let outs := (numsFrom lo (hi - lo)).map (s.eltRow p ws op)
      let s := outs.foldl (fun s o => s.putRow p (tTid ws) (tCurve ws) o) s
      (s.jmod j (fun e => { e with blocks := nadd e.blocks b })).runBlocks j p ws op stop r

/-- A retry budget of JRN_BUDGET: a field written as 0 acts as 1. -/
def State.budget (s : State) (f : Fld) : Nat := max 1 (s.get f)

/-- Comparisons of the element unit that failed, up to and with the first that is permanent (R166): counted, and the row of the permanent one. -/
def State.euFaults (s : State) (p : Nat) : List GroupFault → State × Option Nat
  | [] => (s, none)
  | f :: r =>
    if f.fails = 0 then s.euFaults p r
    else
      let b := s.budget Fld.JRN_BUDGET_EU
      let s := s.count (Fld.TILE_EUCHK_MISMATCH p) (min f.fails (b + 1))
      if b < f.fails then (s, some f.row) else (s.count (Fld.TILE_EUCHK_RECOVERED p) 1).euFaults p r

/-- Rows of a dispatched command: the count recorded at its first dispatch, or MMAX (R196). -/
def JEntry.rowCount (e : JEntry) : Nat := e.rows.getD (tMmax e.words)

/-- A dispatched element operation run on its tile (R149). -/
def State.runElement (s : State) (j p : Nat) (e : JEntry) (op : Nat) (obs : EltObs) : State :=
  let s := s.spErrors p obs.ecc
  let s := ((s.count (Fld.TILE_EUCYC_COUNT p) obs.cycles).count (Fld.TILE_EUPAUSE_COUNT p) obs.paused).count (Fld.TILE_SPCONF_COUNT p) obs.waited
  let f := s.euFaults p obs.faults
  f.1.runBlocks j p e.words op f.2 (commitBlocks (tEc e.words == 1) e.rowCount)

/-! The array (R116 to R143). -/

/-- Whether both operands make a 4-bit row (R117). -/
def FmtRow.is4 (r : FmtRow) : Bool := (r.kind == 1 && r.builtin == 10) || (r.kind == 2 && decide (r.width ≤ 4))

/-- Whether a row is of 16 bits (R117). -/
def FmtRow.is16 (r : FmtRow) : Bool := r.kind == 1 && (r.builtin == 1 || r.builtin == 2)

/-- Columns of a tile's array in a shape for two operand rows (R117, R118). -/
def arrayCols (shape : Nat) (a w : FmtRow) : Nat :=
  if a.is16 || w.is16 then 64 * 2 ^ shape else if a.is4 && w.is4 then 256 * 2 ^ shape else 128 * 2 ^ shape

/-- Depth of a shape (R118). -/
def arrayDepth (shape : Nat) : Nat := 128 / 2 ^ shape

/-- Rows per accumulator bank (R118, R121). -/
def arrayRows (c : Nat) : Nat := 32768 / c

/-- A pass: its rows, its columns in each member and its depth (R120). -/
structure Pass where
  rows : Nat
  cols : Nat
  depth : Nat
  deriving DecidableEq, Repr

/-- Pieces of at most `d` that make up `n`, in order. -/
def pieces (n d : Nat) : List Nat := (numsFrom 0 (ceilDiv n d)).map (fun i => min d (n - i * d))

/-- Passes of an array command of `g` members, in the order of R120; a column block is `g` times `c` wide, and its first member holds the most. -/
def passesOf (g c d m k n : Nat) : List Pass :=
  ((pieces m (arrayRows c)).map (fun r => ((pieces n (g * c)).map (fun w => (pieces k d).map (fun z => ⟨r, min c w, z⟩))).flatten)).flatten

/-- Cycles to load a pass's stationary block (R122). -/
def Pass.load (p : Pass) (wbits shape : Nat) : Nat := ceilDiv (p.cols * p.depth * wbits) (8 * 128 * 2 ^ shape)

/-- Cycles a pass keeps the feeder busy (R122, R142). -/
def Pass.busy (p : Pass) (rowchk : Bool) : Nat := p.rows + if 2 ≤ p.rows ∧ rowchk then 4 else 0

/-- The passes' cycles of R122. -/
def passCycles (wbits shape : Nat) (rowchk : Bool) : List Pass → Nat
  | [] => 0
  | [p] => p.busy rowchk + 1
  | p :: q :: r => max (q.load wbits shape) (p.busy rowchk) + 1 + passCycles wbits shape rowchk (q :: r)

/-- Tile cycles of an array command without stall or re-run (R122, R131). -/
def arrayCycles (g shape : Nat) (a w y : FmtRow) (rowchk : Bool) (m k n : Nat) : Nat :=
  let c := arrayCols shape a w
  let ps : List Pass := passesOf g c (arrayDepth shape) m k n
  match ps with
  | [] => 0
  | p :: _ =>
    let last := ps.getLastD p
    let fill := (if shape = 0 then 11 else 10) + (if 1 < g then 6 else 0)
    7 + fill + p.load w.bitsOf shape + passCycles w.bitsOf shape rowchk ps + ceilDiv (last.rows * last.cols * y.bitsOf) (8 * 512)

/-- Weight elements of one column that the fallback reads in a cycle (R162). -/
def fallbackRate (w : FmtRow) : Nat := if w.bitsOf ≤ 4 then 2048 else if w.bitsOf ≤ 8 then 1024 else 512

/-- Tile cycles of a MATVEC on the fallback (R163). -/
def fallbackCycles (w y : FmtRow) (o : OpRef) (m k n : Nat) : Nat :=
  let e := fallbackRate w
  let cols := ((numsFrom 0 n).map (fun j => ceilDiv k e + if o.rowOff j % 64 = 0 then 0 else 1)).foldl (· + ·) 0
  let scale := if w.scaled then ceilDiv (n * k) (32 * 1024) else 0
  16 + m * (cols + scale) + ceilDiv (m * n * y.bitsOf) (8 * 512)

/-- The runs of consecutive columns that member `i` of `g` holds of `n` columns, each with its first logical column (R129). -/
def memberRuns (g c i n : Nat) : List (Nat × Nat) :=
  ((numsFrom 0 (ceilDiv n (g * c))).map (fun b => (b * g * c + i * c, min c (n - (b * g * c + i * c))))).filter (fun x => x.2 != 0)

/-- Columns that a member holds. -/
def memberCols (g c i n : Nat) : Nat := ((memberRuns g c i n).map (·.2)).foldl (· + ·) 0

/-- Result row `i` of an array command at one member: physical tile `p` holds the runs, the lead `pl` the activations and the tags (R95, R129). -/
def State.arrayRow (s : State) (pl p : Nat) (ws : List Word) (runs : List (Nat × Nat)) (i : Nat) : RowOut :=
  let o (k : Nat) : OpRef := opN ws k
  let fm (k : Nat) : FmtRow := s.fmt (o k).row
  let nl := (runs.map (·.2)).foldl (· + ·) 0
  let a := s.readRow pl (fm 0) (o 0) (tK ws) i
  let init := if tInit ws then (s.readRow p (fm 3) (o 3) nl i).euValues (fm 3) else []
  let elt (l : Nat) : F32 := dotProduct (fm 0) (fm 1) (init.getD l 0) a (s.readRow p (fm 1) (o 1) (tK ws) l)
  let key := s.rowKey pl ws (tN ws) i
  let parts := (runs.foldl (fun (acc : List EncodedRow × Nat) r =>
    (acc.1 ++ [encodeRow (fm 2) key r.1 ((numsFrom acc.2 r.2).map elt)], acc.2 + r.2)) ([], 0)).1
  (o 2).store (fm 2) nl i ⟨(parts.map (·.codes)).flatten, (parts.map (·.scales)).flatten, (parts.map (·.events)).flatten⟩

/-- Ranges that rows [a, b) of an array command read at one member holding `nl` columns: the weights and initial values, and at the lead the activations and tags. -/
def State.arrayReads (s : State) (ws : List Word) (lead : Bool) (nl a b : Nat) : List (Nat × Nat) :=
  let o (k : Nat) : OpRef := opN ws k
  let fm (k : Nat) : FmtRow := s.fmt (o k).row
  (o 1).blockRanges (fm 1) (.tensor nl (tK ws)) 0 nl ++
  (if tInit ws then (o 3).blockRanges (fm 3) (.tensor 0 nl) a b else []) ++
  (if lead then (o 0).blockRanges (fm 0) (.tensor 0 (tK ws)) a b ++ (if tTagged ws then [(tTbase ws + 8 * a, 8 * (b - a))] else []) else [])

/-- A member of the array that runs a command: its physical tile and its runs of columns. -/
structure Member where
  p : Nat
  runs : List (Nat × Nat)
  deriving DecidableEq, Repr

/-- Columns of a member. -/
def Member.cols (m : Member) : Nat := (m.runs.map (·.2)).foldl (· + ·) 0

/-- The blocks of an array command run in order over its members (R129, R174, R187). `stop` is the first row that a permanent fault keeps from committing. -/
def State.runArrayBlocks (s : State) (j pl : Nat) (ws : List Word) (ms : List Member) (stop : Option Nat) : List (Nat × Nat × Nat) → State
  | [] => s.finish j .ok 0 0
  | (b, lo, hi) :: r =>
    if s.cmdIs j (fun e => nmem e.blocks b) then s.runArrayBlocks j pl ws ms stop r
    else if ms.any (fun m => s.spPoisoned m.p (s.arrayReads ws (m.p == pl) m.cols lo hi)) then s.finish j .memError 0 0
    else if (stop.map (fun q => decide (q < hi))).getD false then s
    else
      let outs := ms.map (fun m => (m.p, (numsFrom lo (hi - lo)).map (s.arrayRow pl m.p ws m.runs)))
      let s := outs.foldl (fun s x => x.2.foldl (fun s o => s.putRow x.1 (tTid ws) 0 o) s) s
      (s.jmod j (fun e => { e with blocks := nadd e.blocks b })).runArrayBlocks j pl ws ms stop r

/-- The encoding of a failing check (TILE_ARRCHKLOC.KIND). -/
def chkNum : ChkKind → Nat
  | .column => 1
  | .row => 2
  | .both => 3
  | .adder => 4

/-- A mismatch recorded at physical tile `p` (R141, R145): `n` failing runs of it. -/
def State.noteMismatch (s : State) (p : Nat) (tid : Word) (kind : ChkKind) (slice row column n retries : Nat) : State :=
  let s := match kind with
    | .column => s.count (Fld.TILE_ARRCHKCNT_COLMIS p) n
    | .row => s.count (Fld.TILE_ARRCHKCNT_ROWMIS p) n
    | .both => (s.count (Fld.TILE_ARRCHKCNT_COLMIS p) n).count (Fld.TILE_ARRCHKCNT_ROWMIS p) n
    | .adder => s.count (Fld.TILE_ARRCHKCNT_ADDMIS p) n
  let rowv := kind == .column || kind == .both
  let colv := kind == .row || kind == .both
  let w := wordOf [(32, 4, chkNum kind), (30, 2, s.get (Fld.TILE_ARRSTAT_SHAPE p)), (28, 2, slice), (24, 4, min 15 retries),
    (23, 1, b2n rowv), (13, 10, if rowv then row else 0), (12, 1, b2n colv), (0, 10, if colv then column else 0)]
  (s.setReg (Reg.TILE_ARRCHKLOC p) w).setReg (Reg.TILE_ARRCHKTID p) tid

/-- What failing passes come to: the state, the re-runs made, and the pass at which a fault was found permanent (R141). -/
def State.arrayFaults (s : State) (ms : List Member) (tid : Word) : List PassFault → State × List Nat × Option Nat
  | [] => (s, [], none)
  | f :: r =>
    match ms.drop f.member with
    | [] => s.arrayFaults ms tid r
    | m :: _ =>
      if f.fails = 0 then s.arrayFaults ms tid r
      else
        let b := s.budget Fld.JRN_BUDGET_ARRAY
        let n := min f.fails (b + 1)
        let s := s.noteMismatch m.p tid f.kind f.slice f.row f.column n (min f.fails b)
        if b < f.fails then (s, List.replicate b f.pass, some f.pass)
        else
          let t := (s.count (Fld.TILE_ARRCHKCNT_RECOVERED m.p) 1).arrayFaults ms tid r
          (t.1, List.replicate f.fails f.pass ++ t.2.1, t.2.2)

/-- An armed fault of R143 used up at physical tile `p` by the first pass: one transient error, its slice a free value. -/
def State.useInjection (s : State) (p : Nat) (tid : Word) (first : Pass) : State :=
  match sfind s.arrInj p with
  | none => s
  | some rc =>
    let row := if first.rows ≤ rc.1 then 0 else rc.1
    let col := if first.cols ≤ rc.2 then 0 else rc.2
    let kind := if 2 ≤ first.rows ∧ s.flag (Fld.TILE_ARRCTL_ROWCHK p) then ChkKind.both else ChkKind.column
    let f := s.freshWord
    let s := { f.2 with arrInj := serase f.2.arrInj p }
    (s.noteMismatch p tid kind (bits f.1 0 2) row col 1 1).count (Fld.TILE_ARRCHKCNT_RECOVERED p) 1

/-- Whether the block values of block `b` of row `i` and local column `l` are finite (R139). -/
def blockFinite (ra rw : FmtRow) (a w : CodeVec) (b : Nat) : Bool :=
  fvFinite (ofF32 (blockValue ((a.blockScales ra).getD b 127) ((w.blockScales rw).getD b 127) ((a.blocks ra).getD b []) ((w.blocks rw).getD b [])))

/-- Check sets not compared at one member because a block value is not finite (R136, R137, R139): rows against the columns that a slice covers, and columns against the rows of a pass. -/
def State.skippedSets (s : State) (pl : Nat) (m : Member) (ws : List Word) (shape rows : Nat) : Nat :=
  let ra := s.fmt (opN ws 0).row
  let rw := s.fmt (opN ws 1).row
  let k := tK ws
  let c := arrayCols shape ra rw
  let as := (numsFrom 0 rows).map (s.readRow pl ra (opN ws 0) k)
  let wsC := (numsFrom 0 m.cols).map (s.readRow m.p rw (opN ws 1) k)
  let blocksK := numsFrom 0 (k / 32)
  let slices := chunksOf (c / 2 ^ shape) wsC.length wsC
  let colSets := (as.map (fun a => (slices.map (fun g => (blocksK.filter (fun b => g.any (fun w => !blockFinite ra rw a w b))).length)).foldl (· + ·) 0)).foldl (· + ·) 0
  let tiles := (chunksOf (arrayRows c) as.length as).filter (fun t => decide (2 ≤ t.length) && s.flag (Fld.TILE_ARRCTL_ROWCHK m.p))
  let rowSets := (tiles.map (fun t => (wsC.map (fun w => (blocksK.filter (fun b => t.any (fun a => !blockFinite ra rw a w b))).length)).foldl (· + ·) 0)).foldl (· + ·) 0
  colSets + rowSets

/-- The members that run a command of tile `t` on the array: the yoke's tiles with their columns (R128, R129). -/
def State.arrayMembers (s : State) (t : Nat) (ws : List Word) (shape : Nat) : List Member :=
  let ts := s.yokeMembers t
  let c := arrayCols shape (s.fmt (opN ws 0).row) (s.fmt (opN ws 1).row)
  ts.zipIdx.filterMap (fun x => (s.phys x.1).map (fun p => ⟨p, memberRuns ts.length c x.2 (tN ws)⟩))

/-- A dispatched array command of logical tile `t` run on the array (R120 to R143). -/
def State.runArray (s : State) (j t p : Nat) (e : JEntry) (obs : ArrayObs) : State :=
  let ws := e.words
  let m := e.rowCount
  let shape := s.get (Fld.TILE_ARRSTAT_SHAPE p)
  let fm (k : Nat) : FmtRow := s.fmt (opN ws k).row
  let ms := s.arrayMembers t ws shape
  let g := ms.length
  let c := arrayCols shape (fm 0) (fm 1)
  let ps : List Pass := passesOf g c (arrayDepth shape) m (tK ws) (tN ws)
  let rowchk := s.flag (Fld.TILE_ARRCTL_ROWCHK p)
  let cyc := arrayCycles g shape (fm 0) (fm 1) (fm 2) rowchk m (tK ws) (tN ws)
  let s := s.spErrors p obs.ecc
  let s := match ps with
    | q :: _ => ms.foldl (fun (s : State) (x : Member) => s.useInjection x.p (tTid ws) q) s
    | [] => s
  let f := s.arrayFaults ms (tTid ws) obs.faults
  let perTile := max 1 (ps.length / max 1 (ceilDiv m (arrayRows c)))
  let stop := f.2.2.map (fun q => q / perTile * arrayRows c)
  let reruns : List Pass := f.2.1.map (fun q => ps.getD q ⟨0, 0, 0⟩)
  let extra := (reruns.map (fun q => q.busy rowchk + 1)).foldl (· + ·) 0
  let s := f.1
  let s := ms.foldl (fun (s : State) (x : Member) =>
    let s := s.count (Fld.TILE_ARRCYC_COUNT x.p) (cyc + extra + obs.starved + obs.backed)
    let s := s.count (Fld.TILE_ARRMAC_COUNT x.p) (m * tK ws * x.cols + (reruns.map (fun q => q.rows * q.cols * q.depth)).foldl (· + ·) 0)
    let s := (s.count (Fld.TILE_ARRSTV_COUNT x.p) obs.starved).count (Fld.TILE_ARRBKP_COUNT x.p) obs.backed
    (s.count (Fld.TILE_SPCONF_COUNT x.p) obs.waited).count (Fld.TILE_ARRCHKSKIP_COUNT x.p) (s.skippedSets p x ws shape m)) s
  s.runArrayBlocks j p ws ms stop (commitBlocks (tEc ws == 1) m)

/-- A dispatched MATVEC run on the fallback of one tile (R161 to R166). -/
def State.runFallback (s : State) (j p : Nat) (e : JEntry) (obs : EltObs) : State :=
  let ws := e.words
  let m := e.rowCount
  let s := s.spErrors p obs.ecc
  let cyc := fallbackCycles (s.fmt (opN ws 1).row) (s.fmt (opN ws 2).row) (opN ws 1) m (tK ws) (tN ws) + obs.paused
  let s := ((s.count (Fld.TILE_EUCYC_COUNT p) cyc).count (Fld.TILE_MVCYC_COUNT p) cyc).count (Fld.TILE_EUPAUSE_COUNT p) obs.paused
  let f := (s.count (Fld.TILE_SPCONF_COUNT p) obs.waited).euFaults p obs.faults
  f.1.runArrayBlocks j p ws [⟨p, [(0, tN ws)]⟩] f.2 (commitBlocks (tEc ws == 1) m)

end Sys2Proof.Machine
end

