-- ==== Sys2Proof/Machine/HostOps.lean ====
section
/-! DEFINITION. Device-initiated reads of host memory and writes to it (R452, R460, R476, R477). -/

set_option Elab.async false

namespace Sys2Proof.Machine

/-- Reads awaiting completion that the device allows (HIF_TAGS.LIMIT). -/
def State.readLimit (s : State) : Nat := min 4096 (max 1 (s.get Fld.HIF_TAGS_LIMIT))

/-- The lowest tag of the width in use that is neither held nor in quarantine (R477). -/
def State.freeTag (s : State) : Option Nat :=
  firstFrom (fun t => (sfind s.host.reads t).isNone && !nmem s.host.quarantined t) 0 (2 ^ s.host.tagBits)

/-- A read of host memory issued; none while it must wait (R452, R477). -/
def State.issueRead (s : State) (kind : ReadKind) (addr len : Nat) : Option State :=
  if ¬ s.hostOpen ∨ ¬ s.live ∨ s.readLimit ≤ s.host.reads.length then none
  else s.freeTag.map (fun t => ({ s with host := { s.host with reads := sinsert s.host.reads t ⟨kind, addr, len⟩ } }).tx (.read t addr len))

/-- A write to host memory issued, which is its durable point (R459); none while host memory cannot be written (R452). -/
def State.hostWrite (s : State) (addr : Nat) (bs : List Byte) : Option State := if s.hostOpen ∧ s.live then some (s.tx (.write addr bs)) else none

end Sys2Proof.Machine
end

