-- ==== Sys2Proof/Machine/Mem.lean ====
section
/-! DEFINITION. One access of an engine to the unified device address space: served, failed with a status, or waiting for the tier controller or for a relocation chunk (R40, R314, R321, R324, R337, R338, R513, R517). -/

set_option Elab.async false

namespace Sys2Proof.Machine

/-- Where the bytes of an access lie: in a row of memory keys, or in a tier cache slot at an offset. -/
inductive Loc where
  | plain (key : Nat)
  | slot (n off : Nat)
  deriving DecidableEq, Repr

/-- The pieces of `n` bytes of a location that have consecutive keys: key and length; `fuel` pieces at most. -/
def State.locPieces (s : State) : Nat → Loc → Nat → List (Nat × Nat)
  | 0, _, _ => []
  | _ + 1, .plain k, n => [(k, n)]
  | fuel + 1, .slot m o, n =>
    if n = 0 then []
    else
      let k := min n (256 - o % 256)
      (s.slotByte m o, k) :: s.locPieces fuel (.slot m (o + k)) (n - k)

/-- The pieces of a location. -/
def State.pieces (s : State) (l : Loc) (n : Nat) : List (Nat × Nat) := s.locPieces (n / 256 + 2) l n

/-- The bytes of a location. -/
def State.locRead (s : State) (l : Loc) (n : Nat) : List Byte := ((s.pieces l n).map (fun p => s.rbs p.1 p.2)).flatten

/-- Whether a granule of a location is poisoned. -/
def State.locPoisoned (s : State) (l : Loc) (n : Nat) : Bool := (s.pieces l n).any (fun p => s.poisonedIn p.1 p.2)

/-- Bytes written over pieces, whole granules losing their poison. -/
def State.putPieces (s : State) : List (Nat × Nat) → List Byte → State
  | [], _ => s
  | p :: r, bs => ((s.wbs p.1 (bs.take p.2)).cleanse p.1 (min p.2 bs.length)).putPieces r (bs.drop p.2)

/-- Bytes written at a location. -/
def State.locWrite (s : State) (l : Loc) (bs : List Byte) : State := s.putPieces (s.pieces l bs.length) bs

/-- Whether a waiting request can go on: its object is resident and serves it, or a lookup may be made afresh. -/
def State.tierReady (s : State) (w : TierWait) : Bool :=
  match s.dirOf (s.objectOf w.frame).1 with
  | some (_, e) => e.st != .promoting && !(w.write && e.st == .evicting)
  | none =>
    match w.evict with
    | some n => !(s.dirEnt n).any (fun e => e.st == .evicting)
    | none => s.freeSlot.isSome || s.victim.isSome

/-- How one access stands. -/
inductive Acc where
  | serve (l : Loc)
  | fail (st : Status)
  | tier (w : TierWait)
  /-- A relocation chunk whose copy has not committed (R337). -/
  | chunk (a : Nat)
  deriving DecidableEq, Repr

/-- The length of the first piece of [a, a + n) that one access takes: a flash access stays in one frame. -/
def accessLen (a n : Nat) : Nat := if regionOf a = .flash then min n (65536 - a % 65536) else n

/-- A lookup of the flash tier for bytes [a, a + n) of one frame, by command `j` (R324). -/
def State.accessFlash (s : State) (j : Nat) (write : Bool) (a : Nat) : Acc × State :=
  let fr := frameOf a
  let ob := s.objectOf fr
  let ev := if (s.dirOf ob.1).isNone && s.freeSlot.isNone then (match s.victim with
    | some (n, e) => if e.st = .dirty then some n else none
    | none => none) else none
  match s.lookup j fr write with
  | (.serve n, s) => (.serve (.slot n (a - frameKey ob.1 0)), s)
  | (.halt, s) => (.tier ⟨fr, write, ev⟩, s)

/-- One access to bytes [a, a + n) that `accessLen` admits, by command `j`. -/
def State.access (s : State) (j : Nat) (write : Bool) (a n : Nat) : Acc × State :=
  match regionOf a with
  | .flash => s.accessFlash j write a
  | .scratch =>
    match s.phys (slotTile a).1 with
    | some p => (.serve (.plain (spKey p (slotTile a).2)), s)
    | none => (.fail .memError, s)
  | .dramA =>
    match s.dramRange a n with
    | .served => (.serve (.plain a), s)
    | .waits => (.chunk a, s)
    | .lost => (.fail .memError, s)
  | .dramB =>
    match s.dramRange a n with
    | .served => (.serve (.plain a), s)
    | .waits => (.chunk a, s)
    | .lost => (.fail .memError, s)
  | _ => (.fail .memError, s)

/-- The outcome of a read or write of a range: done (with the bytes read), failed, or stopped at byte `a` until something else happens. -/
inductive Moved where
  | done (bs : List Byte)
  | fail (st : Status)
  | tier (w : TierWait)
  | chunk (a : Nat)
  deriving DecidableEq, Repr

/-- A read of [a, a + n) by command `j`, piece by piece; `fuel` pieces at most. A poisoned granule fails it (R314). -/
def State.readFrom (s : State) (j : Nat) : Nat → Nat → Nat → List Byte → Moved × State
  | 0, _, _, acc => (.done acc, s)
  | fuel + 1, a, n, acc =>
    if n = 0 then (.done acc, s)
    else
      let k := accessLen a n
      match s.access j false a k with
      | (.serve l, s) =>
        let s := s.unpinAll j
        if s.locPoisoned l k then (.fail .memError, s) else s.readFrom j fuel (a + k) (n - k) (acc ++ s.locRead l k)
      | (.fail st, s) => (.fail st, s)
      | (.tier w, s) => (.tier w, s)
      | (.chunk x, s) => (.chunk x, s)

/-- A read of [a, a + n) by command `j`. -/
def State.readUda (s : State) (j a n : Nat) : Moved × State := s.readFrom j (n / 65536 + 2) a n []

/-- The directory's part in a served write to the flash tier: none when the object cannot be allocated (R321). -/
def State.noteLoc (s : State) (l : Loc) (k : Nat) : Option State :=
  match l with
  | .plain _ => some s
  | .slot n o => s.noteWrite n o k

/-- A write from `a` on by command `j`, piece by piece; `fuel` pieces at most. -/
def State.writeFrom (s : State) (j : Nat) : Nat → Nat → List Byte → Moved × State
  | 0, _, _ => (.done [], s)
  | fuel + 1, a, bs =>
    if bs.isEmpty then (.done [], s)
    else
      let k := accessLen a bs.length
      match s.access j true a k with
      | (.serve l, s) =>
        match s.noteLoc l k with
        | none => (.fail .flashError, s.unpinAll j)
        | some s => ((s.locWrite l (bs.take k)).unpinAll j).writeFrom j fuel (a + k) (bs.drop k)
      | (.fail st, s) => (.fail st, s)
      | (.tier w, s) => (.tier w, s)
      | (.chunk x, s) => (.chunk x, s)

/-- A write of bytes from `a` on by command `j`. -/
def State.writeUda (s : State) (j a : Nat) (bs : List Byte) : Moved × State := s.writeFrom j (bs.length / 65536 + 2) a bs

/-- A read of DRAM that has no command to fail: the bytes as they stand, and whether the read is clean. -/
def State.peekUda (s : State) (a n : Nat) : Bool × List Byte :=
  (!(s.poisonedIn a n) && s.dramRange a n != .lost, s.rbs a n)

end Sys2Proof.Machine
end

