-- ==== Sys2Proof/Machine/StreamOps.lean ====
section
/-! DEFINITION. What the stream operations share (R206 to R221): the record of a stream's progress, local and far atoms, segments, credits and the end of an arrival. -/

set_option Elab.async false

namespace Sys2Proof.Machine

/-- What a stream has done so far. -/
def State.run (s : State) (j : Nat) : StreamRun := sget StreamRun.start s.streams j

/-- A stream's progress changed. -/
def State.rmod (s : State) (j : Nat) (f : StreamRun → StreamRun) : State := { s with streams := sinsert s.streams j (f (s.run j)) }

/-- A dispatched stream on a channel: its entry, its physical tile and the channel. -/
def State.onChannel (s : State) (j : Nat) : Option (JEntry × Nat × Nat) :=
  match s.cmd j with
  | some e =>
    match e.unit, s.phys e.tile with
    | .channel c, some p => if e.isStream ∧ e.st = .dispatched ∧ e.fin.isNone ∧ s.live ∧ s.targetUp e then some (e, p, c) else none
    | _, _ => none
  | none => none

/-- Bytes written to the scratchpad of a physical tile by a channel, and counted (R174, STR_CHBYTES). -/
def State.spPut (s : State) (p c o : Nat) (bs : List Byte) : State :=
  ((s.wbs (spKey p o) bs).cleanse (spKey p o) bs.length).count (Fld.STR_CHBYTES_COUNT p c) bs.length

/-- Scratchpad bytes read by a channel; none when poison is among them (R174). -/
def State.spGet (s : State) (p o n : Nat) : Option (List Byte) := if s.poisonedIn (spKey p o) n then none else some (s.rbs (spKey p o) n)

/-- DRAM errors that far reads met (R314): counted at the granule's stack, an uncorrectable granule poisoned. -/
def State.farErrors (s : State) (o : EccObs) : State :=
  let inRam (a : Nat) : Bool := regionOf a == .dramA || regionOf a == .dramB
  let s := (o.corrected.filter inRam).foldl (fun (s : State) a => (s.count (Fld.DRM_CE_COUNT (s.stackOf a)) 1).set (Fld.DRM_CE_ADDR (s.stackOf a)) (a / 16)) s
  (o.uncorrectable.filter inRam).foldl (fun (s : State) a =>
    ((s.count (Fld.DRM_UE_COUNT (s.stackOf a)) 1).set (Fld.DRM_UE_ADDR (s.stackOf a)) (a / 16)).poisonGranule (a / 32)) s

/-- Errors that one run of a stream's channel met, far and local. -/
def State.streamErrors (s : State) (p : Nat) (o : StreamObs) : State := (s.farErrors o.far).spErrors p o.loc

/-! Positions. -/

/-- Atoms of the whole stream. -/
def sTotal (ws : List Word) : Nat := sRows ws * sRowAtoms ws

/-- The position after the last atom of segment `n`. -/
def sSegEnd (ws : List Word) (n : Nat) : Nat := min (sTotal ws) ((n + 1) * (sSegLen ws * sRowAtoms ws))

/-- The local row of a position. -/
def posRow (ws : List Word) (pos : Nat) : Nat := pos / sRowAtoms ws

/-- The atom within its row of a position. -/
def posAtom (ws : List Word) (pos : Nat) : Nat := pos % sRowAtoms ws

/-- Whether the far bytes of a row form one run. -/
def sContiguous (ws : List Word) : Bool := !sXpose ws && (sPacked ws || sStride ws 0 == ((sFarBits ws / 8 : Nat) : Int))

/-- Atoms from position `pos` that form one far run of at most `top` bytes, inside the row and below `lim`. -/
def runAtoms (ws : List Word) (pos lim top : Nat) : Nat :=
  let left := min (sRowAtoms ws - posAtom ws pos) (lim - pos)
  if sContiguous ws then max 1 (min left (top / max 1 (sFarAtomBytes ws))) else min left 1

/-! Segments (R212, R214). -/

/-- The credit of the segment in hand taken, if the stream asks for one; none while the pool is 0 (R214). -/
def State.segmentCredit (s : State) (j : Nat) (e : JEntry) : Option State :=
  if (s.run j).credited ∨ ¬ sSpen e.words then some s
  else if s.pool e.tile (sSpool e.words) = 0 then none
  else some ((s.takeCredit e.tile (sSpool e.words) 1).rmod j (fun r => { r with credited := true, blocked := false }))

/-- One segment delivered: PINC on the progress mark; the last one ends the command (R212). -/
def State.deliverSegment (s : State) (j : Nat) (e : JEntry) : State :=
  let s := if e.pmark.n = 0 then s else s.raiseMark e.tile e.pmark.idx e.pmark.n
  let s := (s.jmod j (fun e => { e with segs := e.segs + 1 })).rmod j (fun r => { r with credited := false, staged := false })
  if sSegments e.words ≤ e.segs + 1 then s.finish j .ok 0 0 else s

/-! Atoms. -/

/-- What became of one atom, or of one access. -/
inductive Moving where
  | moved
  | waits (w : StreamWait)
  | failed (st : Status)
  deriving DecidableEq, Repr

/-- What a read or write of memory means to the stream that made it. -/
def movingOf : Moved → Moving
  | .done _ => .moved
  | .fail st => .failed st
  | .tier w => .waits (.tier w)
  | .chunk a => .waits (.chunk a)

/-- The bytes of a completed read. -/
def movedBytes : Moved → List Byte
  | .done bs => bs
  | _ => []

/-- A block encoding counted (CDC_MODECNT, CDC_RAWBYTES, CDC_FARBYTES). -/
def State.countBlock (s : State) (p len : Nat) (stored : Option Nat) : State :=
  let s := (s.count (Fld.CDC_RAWBYTES_COUNT p) 512).count (Fld.CDC_FARBYTES_COUNT p) (2 + 16 * len)
  match stored with
  | some 1 => s.count (Fld.CDC_MODECNT_RAW p) 1
  | some 2 => s.count (Fld.CDC_MODECNT_ZERO p) 1
  | some 3 => s.count (Fld.CDC_MODECNT_BITMAP p) 1
  | some 4 => s.count (Fld.CDC_MODECNT_ZRUN p) 1
  | _ => s

/-- A LOAD's codec block read, expanded and written (R236). -/
def State.loadBlock (s : State) (j : Nat) (e : JEntry) (p c pos : Nat) : Moving × State :=
  let ws := e.words
  let r := posRow ws pos
  let k := posAtom ws pos
  let b := sBlock ws r k
  match s.readUda j (sHeaderAt ws b) 2 with
  | (.done hs, s) =>
    let h := leNat hs
    match s.readUda j (sFarAt ws r k) (16 * headerUnits h) with
    | (.done pl, s) =>
      match decodeBlock512 (sBits ws / 8) h pl with
      | .ok bs => (.moved, (s.countBlock p (headerUnits h) none).spPut p c (sLocalAt ws r k) bs)
      | .error kind =>
        (.failed .memError, (((s.count (Fld.CDC_ERR_COUNT p) 1).set (Fld.CDC_ERR_RING p) e.tileRing).set (Fld.CDC_ERR_KIND p) kind).set (Fld.CDC_ERR_BLOCK p) b)
    | (m, s) => (movingOf m, s)
  | (m, s) => (movingOf m, s)

/-- One atom of a LOAD with far kind 0x1 moved to the local rows, with its scale (R206, R209). -/
def State.loadAtom (s : State) (j : Nat) (e : JEntry) (p c pos : Nat) : Moving × State :=
  let ws := e.words
  let r := posRow ws pos
  let k := posAtom ws pos
  if sCodec ws = 1 then s.loadBlock j e p c pos
  else
    match s.readUda j (sFarAt ws r k) (sFarAtomBytes ws) with
    | (.done bs, s) =>
      if sScaled ws then
        match s.readUda j (sFarScaleAt ws r k) 1 with
        | (.done sc, s) => (.moved, (s.spPut p c (sLocalAt ws r k) bs).spPut p c (sLocalScaleAt ws r k) sc)
        | (m, s) => (movingOf m, s)
      else (.moved, s.spPut p c (sLocalAt ws r k) bs)
    | (m, s) => (movingOf m, s)

/-- A STORE's codec block encoded and written, with its header and, after the last block, the plane's padding (R230, R233, R234). -/
def State.storeBlock (s : State) (j p c pos : Nat) (ws : List Word) (bs : List Byte) : Moving × State :=
  let r := posRow ws pos
  let k := posAtom ws pos
  let b := sBlock ws r k
  let blk := encodeBlock512 (sBits ws / 8) bs
  let pad := if b + 1 = sRows ws * sRowAtoms ws then sPlaneBytes ws - 2 * (b + 1) else 0
  match s.writeUda j (sFarAt ws r k) blk.payload with
  | (.done _, s) =>
    match s.writeUda j (sHeaderAt ws b) (leBytes 2 blk.header ++ List.replicate pad 0) with
    | (.done _, s) => (.moved, (s.countBlock p blk.len (some blk.mode)).count (Fld.STR_CHBYTES_COUNT p c) 512)
    | (m, s) => (movingOf m, s)
  | (m, s) => (movingOf m, s)

/-- One atom of a STORE with far kind 0x1 moved to the far side, with its scale. -/
def State.storeAtom (s : State) (j : Nat) (e : JEntry) (p c pos : Nat) : Moving × State :=
  let ws := e.words
  let r := posRow ws pos
  let k := posAtom ws pos
  match s.spGet p (sLocalAt ws r k) (sAtomBytes ws) with
  | none => (.failed .memError, s)
  | some bs =>
    if sCodec ws = 1 then s.storeBlock j p c pos ws bs
    else
      match s.writeUda j (sFarAt ws r k) bs with
      | (.done _, s) =>
        let s := s.count (Fld.STR_CHBYTES_COUNT p c) bs.length
        if sScaled ws then
          match s.spGet p (sLocalScaleAt ws r k) 1 with
          | none => (.failed .memError, s)
          | some sc =>
            let m := s.writeUda j (sFarScaleAt ws r k) sc
            (movingOf m.1, m.2.count (Fld.STR_CHBYTES_COUNT p c) 1)
        else (.moved, s)
      | (m, s) => (movingOf m, s)

/-- One atom of a PREFETCH found resident, or its promotion begun (R202, R324). -/
def State.prefetchAtom (s : State) (j : Nat) (e : JEntry) (pos : Nat) : Moving × State :=
  let ws := e.words
  match s.access j false (sFarAt ws (posRow ws pos) (posAtom ws pos)) 1 with
  | (.serve _, s) => (.moved, s.unpinAll j)
  | (.fail st, s) => (.failed st, s)
  | (.tier w, s) => (.waits (.tier w), s)
  | (.chunk a, s) => (.waits (.chunk a), s)

/-- Atoms moved one by one from the stream's position up to `lim`, until one waits or fails; `fuel` atoms at most. -/
def State.moveAtoms (s : State) (j : Nat) (one : State → Nat → Moving × State) (lim : Nat) : Nat → State
  | 0 => s
  | fuel + 1 =>
    let pos := (s.run j).pos
    if lim ≤ pos then s.rmod j (fun r => { r with wait := .ready })
    else
      match one s pos with
      | (.moved, s) => (s.rmod j (fun r => { r with pos := pos + 1, wait := .ready })).moveAtoms j one lim fuel
      | (.waits w, s) => s.rmod j (fun r => { r with wait := w })
      | (.failed st, s) => s.finish j st 0 0

/-! Arrivals (R213, R413). -/

/-- Bytes of an arrival's row: the row's codes, then its scales where the RECEIVE is SCALED (log entry 23). -/
def arrRowBytes (ws : List Word) : Nat := sRowBytes ws + if sScaled ws then ceilDiv (sRowElts ws) 32 else 0

/-- Bytes of an arrival from its byte `b` on, written as local rows; `fuel` pieces at most. -/
def State.arrWrite (s : State) (p c : Nat) (ws : List Word) : Nat → Nat → List Byte → State
  | 0, _, _ => s
  | fuel + 1, b, bs =>
    if bs.isEmpty then s
    else
      let r := b / arrRowBytes ws
      let o := b % arrRowBytes ws
      if o < sRowBytes ws then
        let n := min bs.length (sRowBytes ws - o)
        (s.spPut p c (sLbase ws + r * sLpitch ws + o) (bs.take n)).arrWrite p c ws fuel (b + n) (bs.drop n)
      else
        let n := min bs.length (arrRowBytes ws - o)
        (s.spPut p c (sLocalScaleAt ws r (o - sRowBytes ws)) (bs.take n)).arrWrite p c ws fuel (b + n) (bs.drop n)

/-- The ring of a RECEIVE. -/
def recvRing (ws : List Word) : Nat := bits (sFarAddr ws) 0 14

/-- The oldest dispatched RECEIVE of a link channel ring (R413). -/
def State.ringHead (s : State) (r : Nat) : Option (Nat × JEntry) :=
  s.journal.find? (fun e => e.2.isStream && tOp e.2.words == 5 && e.2.st == .dispatched && e.2.fin.isNone && recvRing e.2.words == r)

end Sys2Proof.Machine
end

