-- ==== Sys2Proof/Machine/Exchange.lean ====
section
/-! DEFINITION. The exchange path (file 16): windows (R402 to R405), flows and their acknowledgement (R406 to R409), remote reads (R410) and arrivals (R413). -/

set_option Elab.async false

namespace Sys2Proof.Machine

/-! Windows (R402, R403). -/

/-- The slot of an inbound address (R42). -/
def slotOfUda (a : Nat) : Nat := (a - inboundBase) / 2 ^ 34 % 256

/-- The offset within its slot of an inbound address (R42). -/
def offOfUda (a : Nat) : Nat := (a - inboundBase) % 2 ^ 34

/-- TYPE of a slot's target. -/
def State.winType (s : State) (w : Nat) : Nat := s.get (Fld.WIN_TGT_TYPE w)

/-- First byte of a slot's target. -/
def State.winBase (s : State) (w : Nat) : Nat := 16 * s.get (Fld.WIN_TGT_TARGET w)

/-- Length of a slot in bytes. -/
def State.winLen (s : State) (w : Nat) : Nat := 4096 * (s.get (Fld.WIN_CFG_LEN4K w) + 1)

/-- The link channel ring of a slot with a ring target. -/
def State.winRing (s : State) (w : Nat) : Nat := s.get (Fld.WIN_TGT_TARGET w) % 2 ^ 14

/-- Whether a slot's entry passes the checks of OPEN (R402). -/
def State.winEntryOk (s : State) (w : Nat) : Bool :=
  let a := s.winBase w
  let e := a + s.winLen w
  match s.winType w with
  | 1 => (decide (e ≤ dramBBase) && decide (e ≤ s.cacheBase)) || (decide (dramBBase ≤ a) && decide (e ≤ dramBEnd))
  | 2 => regionOf a == .scratch && decide (a % 0x1000000 + s.winLen w ≤ spSize)
  | 3 => regionOf a == .registers && decide (e ≤ udaEnd) && !s.flag (Fld.WIN_CFG_PERMR w)
  | 4 => decide (s.get (Fld.WIN_TGT_TARGET w) < 2 ^ 14) && s.get (Fld.RING_CFG_ROLE (s.winRing w)) == 3 && !s.flag (Fld.WIN_CFG_PERMR w) && s.get (Fld.WIN_CFG_NINC w) == 0
  | _ => false

/-- OPEN written 1 (R402): whether the slot opened, and the state; none where the write is ignored. -/
def State.winOpen (s : State) (w : Nat) : Option State :=
  if s.get (Fld.WIN_CTL_STATE w) ≠ 0 then none
  else if s.winEntryOk w then some (s.set (Fld.WIN_CTL_STATE w) 1).capChange
  else some ((s.set Fld.WIN_STAT_ERR 1).set Fld.WIN_STAT_ERRSLOT w)

/-- Messages being written into a slot: headers that arrived while it was OPEN (WIN_CTL.INFLIGHT). -/
def State.inflight (s : State) (w : Nat) : Nat :=
  ((s.net.inbox ++ s.net.partials.map (fun e => e.2)).filter (fun m => m.mtype == 1 && m.slot == w && m.opened)).length

/-- A CLOSING slot becomes CLOSED once no message is being written: its flow records are freed (R403). -/
def State.winSettle (s : State) (w : Nat) : State :=
  if s.get (Fld.WIN_CTL_STATE w) = 2 ∧ s.inflight w = 0 then
    ((s.set (Fld.WIN_CTL_STATE w) 0).nmod (fun n => { n with rxFlows := n.rxFlows.filter (fun e => e.1 % 256 != w) })).capChange
  else s

/-- CLOSE written 1 (R403); none where the write is ignored. -/
def State.winClose (s : State) (w : Nat) : Option State :=
  if s.get (Fld.WIN_CTL_STATE w) ≠ 1 then none else some (((s.set (Fld.WIN_CTL_STATE w) 2).capChange).winSettle w)

/-! Flows (R406 to R408). -/

/-- The key of a flow record. -/
def flowKey (addr slot : Nat) : Nat := 256 * addr + slot

/-- CREDLIM of a receiver flow (R408). -/
def State.credLim (s : State) (f : RxFlow) (slot : Nat) : Nat :=
  if s.winType slot = 4 then f.limit else f.pos + 65536 * max 1 (s.get Fld.COL_XCHCFG_CREDIT)

/-- ACK of a flow sent to its source (R408). -/
def State.sendAck (s : State) (src slot : Nat) (f : RxFlow) : State :=
  s.sendMsg { (Msg.blank src 0 4) with slot := slot, flow := f.flow, eseq := f.pos, alen := s.credLim f slot } 0

/-- A receiver flow record written. -/
def State.putRx (s : State) (src slot : Nat) (f : RxFlow) : State := s.nmod (fun n => { n with rxFlows := sinsert n.rxFlows (flowKey src slot) f })

/-- A RECEIVE dispatched at the head of its ring opens 65,536 bytes of credit on the flows of its ring (R408). -/
def State.openArrival (s : State) (ring : Nat) : State :=
  (s.net.rxFlows.filter (fun e => s.winType (e.1 % 256) == 4 && s.winRing (e.1 % 256) == ring)).foldl (fun (s : State) e =>
    let f : RxFlow := { e.2 with limit := e.2.pos + 65536 }
    (s.putRx (e.1 / 256) (e.1 % 256) f).sendAck (e.1 / 256) (e.1 % 256) f) s

/-- A message refused (R405). -/
def State.refuse (s : State) (m : Msg) (reason : Nat) : State :=
  let s := (s.count (Fld.WIN_CNT_REFUSED m.slot) 1).count Fld.WIN_REFUSE_COUNT 1
  let s := ((s.set Fld.WIN_REFUSE_REASON reason).set Fld.WIN_REFUSE_SLOT m.slot).set Fld.WIN_REFUSE_SRC m.src
  (s.sendMsg { (Msg.blank m.src 0 5) with slot := m.slot, reason := reason, flow := m.flow, eseq := m.eseq, rtag := m.rtag, jseq := m.jseq } 0).winSettle m.slot

/-- Bytes that the RECEIVE at the head of a ring can take; 0 without one. -/
def State.ringCapacity (s : State) (r : Nat) : Nat :=
  match s.ringHead r with
  | some (_, e) => sRows e.words * arrRowBytes e.words
  | none => 0

/-- Checks 0x1 to 0x5 of a header, in order (R405): the first that fails. -/
def State.headerFault (s : State) (m : Msg) (write : Bool) : Option Nat :=
  let w := m.slot
  let ring : Bool := s.winType w == 4
  let r := s.winRing w
  if ¬ m.opened then some 1
  else if ring ∧ m.src ≠ s.neighbour (s.get (Fld.RING_CFG_BIND r)) then some 2
  else if ¬ s.flag (Fld.WIN_CFG_SRCANY w) ∧ m.src ≠ s.get (Fld.WIN_CFG_SRC w) then some 2
  else if ¬ (if write then s.flag (Fld.WIN_CFG_PERMW w) else s.flag (Fld.WIN_CFG_PERMR w)) then some 3
  else if (if ring then s.ringCapacity r else s.winLen w) < m.off + m.len then some 4
  else if ring ∧ s.get (Fld.RING_CFG_ROLE r) ≠ 3 then some 5
  else if s.winType w = 2 ∧ ¬ s.mapped (slotTile (s.winBase w)).1 then some 5
  else none

/-- What the flow record makes of a WRITE (R405, R407). -/
inductive FlowCase where
  | expected (f : RxFlow)
  | duplicate (f : RxFlow)
  | ahead
  | refused (reason : Nat)
  deriving DecidableEq, Repr

/-- The case of a WRITE (R407). -/
def State.flowCase (s : State) (m : Msg) : FlowCase :=
  let old := sfind s.net.rxFlows (flowKey m.src m.slot)
  let fresh : FlowCase :=
    if m.eseq ≠ 0 then .refused 6
    else if old.isNone ∧ 16384 ≤ s.net.rxFlows.length then .refused 7
    else .expected ⟨m.flow, 0, 65536⟩
  match old with
  | none => fresh
  | some f =>
    if f.flow ≠ m.flow then fresh
    else if m.eseq + m.len ≤ f.pos then .duplicate f
    else if m.eseq = f.pos then .expected f
    else .ahead

/-- A WRITE committed (R404, R407, R408): the position advances, ACK goes out, the notification mark rises. -/
def State.commitWrite (s : State) (m : Msg) (f : RxFlow) : State :=
  let s := (s.putRx m.src m.slot f).count (Fld.WIN_CNT_MSGS m.slot) 1
  let t := s.winType m.slot
  let n := s.get (Fld.WIN_CFG_NINC m.slot)
  let s := if m.last ∧ (t = 1 ∨ t = 2) ∧ n ≠ 0 then s.raiseMark (s.get (Fld.WIN_CFG_NTILE m.slot)) (s.get (Fld.WIN_CFG_NMARK m.slot)) n else s
  (s.sendAck m.src m.slot f).winSettle m.slot

/-! Writing (R404, R405). -/

/-- The first byte of a partly covered granule of [a, a + n) whose merge is uncorrectable: the granule is poisoned, or in `bad`, a list of UDAs. -/
def State.badMerge (s : State) (key : Nat → Nat) (bad : List Nat) (a n : Nat) : Option Nat :=
  if n = 0 then none
  else
    let isBad (x : Nat) : Bool := s.poisonedAt (key x) || bad.any (fun b => b / 32 == x / 32)
    if a % 32 ≠ 0 ∧ isBad a then some a
    else if (a + n) % 32 ≠ 0 ∧ isBad (a + n - 1) then some (max a ((a + n - 1) / 32 * 32))
    else none

/-- The memory key of a byte of a DRAM or scratchpad target. -/
def State.targetKey (s : State) (a : Nat) : Nat :=
  if regionOf a = .scratch then
    match s.phys (slotTile a).1 with
    | some p => spKey p (slotTile a).2
    | none => a
  else a

/-- Bytes of a message written to a DRAM or scratchpad target (R404): whether all of them were written. -/
def State.writeTarget (s : State) (bad : List Nat) (a : Nat) (bs : List Byte) : Bool × State :=
  match s.badMerge s.targetKey bad a bs.length with
  | some x => (false, (s.writeUda 0 a (bs.take (x - a))).2)
  | none =>
    match s.writeUda 0 a bs with
    | (.done _, s) => (true, s)
    | (_, s) => (false, s)

/-- Words of a message written to a register target, one serialized 64-bit write each, in ascending offset (R404). -/
def writeRegs (regWrite : State → Nat → Word → Nat → State) (src : Nat) : State → Nat → List Word → State
  | s, _, [] => s
  | s, off, w :: r => writeRegs regWrite src (regWrite s off w src) (off + 8) r

/-- The bytes a WRITE carries, expanded; and whether a block does not decode (R237). -/
def Msg.data (m : Msg) : List Byte × Bool :=
  if m.codec then
    let r := expandBlocks m.eltBytes (m.body.length / 2 + 1) m.body
    (r.1.take m.len, r.2.isSome)
  else (m.body.take m.len, false)

/-- Arrival bytes moved into the rows of a RECEIVE segment by segment, each segment's first byte after its credit (R214); `fuel` segments at most. The bytes left over. -/
def State.arrMove (s : State) (j : Nat) (e : JEntry) (p c : Nat) : Nat → List Byte → List Byte × State
  | 0, bs => (bs, s)
  | fuel + 1, bs =>
    if bs.isEmpty then ([], s)
    else
      let b := (s.run j).got
      let seg := max 1 (sSegLen e.words * arrRowBytes e.words)
      let n := min bs.length (seg - b % seg)
      let go (s : State) : List Byte × State :=
        ((s.arrWrite p c e.words (2 * n + 2) b (bs.take n)).rmod j (fun r => { r with got := b + n })).arrMove j e p c fuel (bs.drop n)
      if b % seg = 0 then
        match (s.rmod j (fun r => { r with credited := false })).segmentCredit j e with
        | none => (bs, s)
        | some s => go s
      else go s

/-- A WRITE to a ring target delivered to the RECEIVE at the head (R413). -/
def State.writeRing (s : State) (m : Msg) (f : RxFlow) : State :=
  match s.ringHead (s.winRing m.slot) with
  | none => s
  | some (j, _) =>
    match s.onChannel j with
    | none => s
    | some (e, p, c) =>
      let r := s.run j
      let total := r.arrival.getD m.alen
      let row := max 1 (arrRowBytes e.words)
      let top := min total (sRows e.words * row) / row * row
      let d := m.data
      let rest := d.1.drop r.asked
      let fits := rest.take (top - r.got)
      let s := s.rmod j (fun r => { r with arrival := some total, wait := .ready })
      let mv := s.arrMove j e p c (fits.length + 1) fits
      let s := mv.2
      if ¬ mv.1.isEmpty then
        (s.rmod j (fun q => { q with asked := q.asked + (fits.length - mv.1.length), wait := .credit })).nmod (fun n => { n with inbox := m :: n.inbox })
      else
        let s := s.rmod j (fun q => { q with asked := 0 })
        if fits.length < rest.length then (s.refuse m 4).finish j .memError 0 0
        else if d.2 then (s.refuse m 8).finish j .memError 0 0
        else
          let next := (s.journal.filter (fun x => x.2.isStream && tOp x.2.words == 5 && x.2.st == .dispatched && x.2.fin.isNone && x.1 != j && recvRing x.2.words == s.winRing m.slot)).length
          let pos := f.pos + m.len
          let lim := if m.last then (if 0 < next then pos + 65536 else pos) else if r.arrival.isNone then f.pos + total else f.limit
          (s.rmod j (fun q => { q with staged := m.last })).commitWrite m ⟨f.flow, pos, lim⟩

/-- Whether a WRITE cannot be served yet: its RECEIVE is not on a channel (R408), or a relocation chunk's copy is awaited (R337). -/
def State.writeWaits (s : State) (m : Msg) : Bool :=
  if s.winType m.slot = 4 ∧ m.opened then
    match s.ringHead (s.winRing m.slot) with
    | none => true
    | some (j, _) => (s.onChannel j).isNone || (s.run j).staged
  else if s.winType m.slot = 1 then s.dramRange (s.winBase m.slot + m.off) m.len == .waits
  else s.winType m.slot == 2 && s.unitDown 3 (slotTile (s.winBase m.slot + m.off)).1

/-- A remote message whose window target lies in DRAM or scratchpad ends park (R547). -/
def State.wakeByMsg (s : State) : State :=
  if s.net.inbox.any (fun m => (m.mtype == 1 || m.mtype == 2) && (s.winType m.slot == 1 || s.winType m.slot == 2)) then s.wake else s

/-- The first whole WRITE that can be served: no earlier one of its flow waits. -/
def State.nextWrite (s : State) : Option Msg :=
  let ws := s.net.inbox.filter (fun m => m.mtype == 1)
  (ws.zipIdx.find? (fun x => !(ws.take (x.2 + 1)).any (fun y => y.src == x.1.src && y.slot == x.1.slot && s.writeWaits y))).map (fun x => x.1)

/-- A message taken out of the inbox. -/
def State.dropMsg (s : State) (m : Msg) : State := s.nmod (fun n => { n with inbox := n.inbox.erase m })

/-- A WRITE at an inbound window (R404 to R408, R413); `bad` lists granules whose partial merge is uncorrectable, by UDA, and `regWrite` is the serialized write of a register target. -/
def State.recvWrite (s : State) (regWrite : State → Nat → Word → Nat → State) (bad : List Nat) : State :=
  let s := s.wakeByMsg
  match s.nextWrite with
  | none => s
  | some m =>
    let s := s.dropMsg m
    match s.headerFault m true with
    | some r => s.refuse m r
    | none =>
      match s.flowCase m with
      | .refused r => s.refuse m r
      | .ahead => (s.count Fld.COL_E2ECNT_AHEAD 1).winSettle m.slot
      | .duplicate f => ((s.count Fld.COL_E2ECNT_DUP 1).sendAck m.src m.slot f).winSettle m.slot
      | .expected f =>
        let s := s.putRx m.src m.slot f
        let d := m.data
        let a := s.winBase m.slot + m.off
        match s.winType m.slot with
        | 3 => ((writeRegs regWrite m.src s (a - registerBase) (wordsOfBytes (d.1.length / 8) d.1))).commitWrite m ⟨f.flow, f.pos + m.len, f.limit⟩
        | 4 => s.writeRing m f
        | _ =>
          match s.writeTarget bad a d.1 with
          | (true, s) => if d.2 then s.refuse m 8 else s.commitWrite m ⟨f.flow, f.pos + m.len, f.limit⟩
          | (false, s) => s.refuse m 9

/-! Sending (R401, R406, R408, R409). -/

/-- Positions of a row in the order of sending: its atoms, then its scales where the stream is SCALED. -/
def sUnits (ws : List Word) : Nat := sRowAtoms ws + b2n (sScaled ws)

/-- The unit after the last of segment `n`. -/
def sUnitEnd (ws : List Word) (n : Nat) : Nat := min (sRows ws) ((n + 1) * sSegLen ws) * sUnits ws

/-- The run of units that one message carries from unit `u` on: row, first atom, and atoms; no atoms for a row's scales (R401). -/
def sMessage (ws : List Word) (u : Nat) : Nat × Nat × Nat :=
  let r := u / sUnits ws
  let k := u % sUnits ws
  if sRowAtoms ws ≤ k then (r, k, 0) else (r, k, runAtoms ws (r * sRowAtoms ws + k) ((r + 1) * sRowAtoms ws) 65536)

/-- Expanded bytes of a message's run. -/
def sMsgBytes (ws : List Word) (n : Nat) : Nat := if n = 0 then ceilDiv (sRowElts ws) 32 else n * sFarAtomBytes ws

/-- Far address of a message's run. -/
def sMsgFar (ws : List Word) (r k n : Nat) : Nat := if n = 0 then sFarScaleAt ws r 0 else sFarAt ws r k

/-- The local bytes of a message's run, compressed where the stream asks for it; none when poison is among them. -/
def State.msgBody (s : State) (p : Nat) (ws : List Word) (r k n : Nat) : Option (List Byte) :=
  if n = 0 then s.spGet p (sLocalScaleAt ws r 0) (ceilDiv (sRowElts ws) 32)
  else
    (s.spGet p (sLocalAt ws r k) (n * sAtomBytes ws)).map (fun bs =>
      if sCodec ws = 1 then
        ((chunksOf 512 bs.length bs).map (fun b => let x := encodeBlock512 (sBits ws / 8) b; leBytes 2 x.header ++ x.payload)).flatten
      else bs)

/-- Blocks of a run counted as encoded (R239). -/
def State.countRun (s : State) (p : Nat) (ws : List Word) (r k n : Nat) : State :=
  if sCodec ws = 1 then
    (chunksOf 512 (n * 512) (s.rbs (spKey p (sLocalAt ws r k)) (n * sAtomBytes ws))).foldl (fun (s : State) b =>
      let x := encodeBlock512 (sBits ws / 8) b
      s.countBlock p x.len (some x.mode)) s
  else s

/-- The sender's flow to a slot; a new record is made for a flow that has none (R406), unless the count stands at or behind a revolution of a FLOWID in use after it moved backwards (R434). None while a creation must wait. -/
def State.txFlow (s : State) (dst slot : Nat) : Option (TxFlow × State) :=
  match sfind s.net.txFlows (flowKey dst slot) with
  | some f => some (f, s)
  | none =>
    let rev := s.get Fld.WHL_NOW_REV
    let n := if s.net.flowRev = rev then s.net.flowsInRev else 0
    let behind : Bool := s.net.txFlows.any (fun e => decide (rev % 2 ^ 40 < e.2.flow / 256) || (decide (rev % 2 ^ 40 = e.2.flow / 256) && s.net.flowRev != rev))
    if behind ∨ 256 ≤ n ∨ 16384 ≤ s.net.txFlows.length then none
    else
      let f : TxFlow := ⟨rev % 2 ^ 40 * 256 + n, 0, 0, 65536, [], 0⟩
      some (f, s.nmod (fun t => { t with flowRev := rev, flowsInRev := n + 1, txFlows := sinsert t.txFlows (flowKey dst slot) f }))

/-- A sender flow record changed. -/
def State.txMod (s : State) (dst slot : Nat) (f : TxFlow → TxFlow) : State := s.nmod (fun n => { n with txFlows := smodify n.txFlows (flowKey dst slot) f })

/-- A flow record freed once every message of it is acknowledged and no command that sends to that slot is uncompleted (R406). -/
def State.txSettle (s : State) (dst slot : Nat) : State :=
  match sfind s.net.txFlows (flowKey dst slot) with
  | none => s
  | some f =>
    let busy := s.journal.any (fun e => e.2.isStream && tOp e.2.words == 2 && sFar e.2.words == 2 && e.2.fin.isNone && e.2.refusal.isNone && sHerd e.2.words == dst && slotOfUda (sFarBase e.2.words) == slot)
    if f.sent.isEmpty ∧ ¬ busy then s.nmod (fun n => { n with txFlows := serase n.txFlows (flowKey dst slot) }) else s

/-- A WRITE message sent for the first time or again. -/
def State.sendWrite (s : State) (dst slot : Nat) (f : TxFlow) (x : SentMsg) (ws : List Word) (body : List Byte) : State :=
  s.sendMsg { (Msg.blank dst 0 1) with
    slot := slot, last := x.last, codec := sCodec ws == 1 && x.atoms != 0, esz := sEsize ws - 2, flow := f.flow, eseq := x.pos,
    off := x.off, len := x.len, alen := x.alen, jseq := x.jseq, body := body } x.jseq

/-- One message of a STORE with far kind 0x2 sent from unit `u` (R401, R408): moved, waiting for credit, or failed. -/
def State.storeRemote (s : State) (j : Nat) (e : JEntry) (p c : Nat) (u : Nat) : Moving × State :=
  let ws := e.words
  let dst := sHerd ws
  let m := sMessage ws u
  let far := sMsgFar ws m.1 m.2.1 m.2.2
  let slot := slotOfUda far
  let len := sMsgBytes ws m.2.2
  match s.txFlow dst slot with
  | none => (.waits .remote, s)
  | some (f, s) =>
    if f.credLim < f.next + len then (.waits .remote, s)
    else
      match s.msgBody p ws m.1 m.2.1 m.2.2 with
      | none => (.failed .memError, s)
      | some body =>
        let step := if m.2.2 = 0 then 1 else m.2.2
        let x : SentMsg := ⟨f.next, len, j, offOfUda far, decide (sRows ws * sUnits ws ≤ u + step), if u = 0 then sRows ws * arrRowBytes ws else 0, m.1, m.2.1, m.2.2⟩
        let s := (s.countRun p ws m.1 m.2.1 m.2.2).txMod dst slot (fun f => { f with next := f.next + len, sent := f.sent ++ [x] })
        let s := (s.sendWrite dst slot f x ws body).count (Fld.STR_CHBYTES_COUNT p c) len
        (.moved, s.rmod j (fun r => { r with asked := u + step, pos := min (sTotal ws) ((u + step) / sUnits ws * sRowAtoms ws + (u + step) % sUnits ws), flowPos := f.next + len, flow := flowKey dst slot, blocked := false }))

/-- A zero-length arrival of an EMPTY STORE with far kind 0x2: one WRITE with LEN 0 and END 1 (R401). -/
def State.sendEmpty (s : State) (j : Nat) (ws : List Word) : State :=
  let dst := sHerd ws
  let slot := slotOfUda (sFarBase ws)
  match s.txFlow dst slot with
  | none => s
  | some (f, s) => s.sendWrite dst slot f ⟨f.next, 0, j, offOfUda (sFarBase ws), true, 0, 0, 0, 0⟩ ws []

/-- Messages of a STORE sent until the segment in hand is out, or one waits or fails; `fuel` messages at most. -/
def State.sendSegment (s : State) (j : Nat) (e : JEntry) (p c : Nat) : Nat → State
  | 0 => s
  | fuel + 1 =>
    let u := (s.run j).asked
    if sUnitEnd e.words e.segs ≤ u then s.rmod j (fun r => { r with wait := .answers })
    else
      match s.segmentCredit j e with
      | none => s.rmod j (fun r => { r with wait := .credit })
      | some s =>
        match s.storeRemote j e p c u with
        | (.moved, s) => s.sendSegment j e p c fuel
        | (.waits w, s) => s.rmod j (fun r => { r with wait := w })
        | (.failed st, s) => (s.dropSent j).finish j st 0 0

/-- Whether every byte that a stream has sent is acknowledged end to end. -/
def State.sentAcked (s : State) (j : Nat) : Bool :=
  match sfind s.net.txFlows (s.run j).flow with
  | some f => decide ((s.run j).flowPos ≤ f.ackPos)
  | none => true

/-! Remote reads (R410). -/

/-- The lowest read tag that is neither outstanding nor in quarantine. -/
def State.freeRtag (s : State) : Option Nat := firstFrom (fun t => (sfind s.net.reads t).isNone && !nmem s.net.readQuar t) 0 4096

/-- READ_REQ messages of a LOAD sent for the segment in hand; `fuel` messages at most. -/
def State.askRemote (s : State) (j : Nat) (e : JEntry) : Nat → State
  | 0 => s
  | fuel + 1 =>
    let ws := e.words
    let u := (s.run j).asked
    if sUnitEnd ws e.segs ≤ u then s.rmod j (fun r => { r with wait := .answers })
    else
      match s.segmentCredit j e with
      | none => s.rmod j (fun r => { r with wait := .credit })
      | some s =>
        match s.freeRtag with
        | none => s.rmod j (fun r => { r with wait := .answers })
        | some t =>
          let m := sMessage ws u
          let far := sMsgFar ws m.1 m.2.1 m.2.2
          let step := if m.2.2 = 0 then 1 else m.2.2
          let s := s.nmod (fun n => { n with reads := sinsert n.reads t ⟨j, m.1, m.2.1, m.2.2, m.2.2 == 0⟩ })
          let s := s.rmod j (fun r => { r with asked := u + step, awaiting := r.awaiting + 1, pos := min (sTotal ws) ((u + step) / sUnits ws * sRowAtoms ws + (u + step) % sUnits ws) })
          let s := s.sendMsg { (Msg.blank (sHerd ws) 0 2) with slot := slotOfUda far, rtag := t, off := offOfUda far, len := sMsgBytes ws m.2.2, jseq := j } 0
          s.askRemote j e fuel

/-! Rows. -/

/-- The first message of a type in the inbox, taken out. -/
def State.takeMsg (s : State) (t : Nat) : Option (Msg × State) := (s.net.inbox.find? (fun m => m.mtype == t)).map (fun m => (m, s.dropMsg m))

/-- READ_REQ: a remote read request arrives and is answered (R405, R410); `bad` lists granules that the read finds uncorrectable, by UDA. -/
def execReadReq (bad : List Nat) (s : State) : Host.Outcome State Fault Refusal :=
  let s := s.wakeByMsg
  let waits (m : Msg) : Bool := (s.winType m.slot == 1 && s.dramRange (s.winBase m.slot + m.off) m.len == .waits) ||
    (s.winType m.slot == 2 && s.unitDown 3 (slotTile (s.winBase m.slot + m.off)).1)
  match s.net.inbox.find? (fun m => m.mtype == 2 && !waits m) with
  | none => .next s
  | some m =>
    let s := s.dropMsg m
    let a := s.winBase m.slot + m.off
    match s.headerFault m false with
    | some r => .next (s.refuse m r)
    | none =>
      let hit := bad.filter (fun b => decide (a / 32 ≤ b / 32) && decide (b / 32 ≤ (a + m.len - 1) / 32))
      if ¬ hit.isEmpty then .next ((s.farErrors ⟨[], hit⟩).refuse m 9)
      else
        match s.readUda 0 a m.len with
        | (.done bs, s) => .next (s.sendMsg { (Msg.blank m.src 0 3) with slot := m.slot, rtag := m.rtag, off := m.off, len := m.len, jseq := m.jseq, body := bs } 0)
        | (_, s) => .next (s.refuse m 9)

/-- READ_DATA: remote read data arrives for a LOAD (R410). -/
def execReadData (s : State) : Host.Outcome State Fault Refusal :=
  match s.takeMsg 3 with
  | none => .next s
  | some (m, s) =>
    match sfind s.net.reads m.rtag with
    | none => .next (s.count Fld.COL_LATE_COUNT 1)
    | some q =>
      let s := s.nmod (fun n => { n with reads := serase n.reads m.rtag })
      match s.cmd q.jseq with
      | none => .next (s.count Fld.COL_LATE_COUNT 1)
      | some e =>
        match s.phys e.tile with
        | none => .next (s.count Fld.COL_LATE_COUNT 1)
        | some p =>
          if e.fin.isSome ∨ e.st ≠ .dispatched then .next (s.count Fld.COL_LATE_COUNT 1)
          else
            let c := match e.unit with
              | .channel c => c
              | _ => 0
            let o := if q.scale then sLocalScaleAt e.words q.row 0 else sLocalAt e.words q.row q.atom
            .next ((s.spPut p c o (m.body.take m.len)).rmod q.jseq (fun r => { r with awaiting := r.awaiting - 1 }))

/-- ACK: an end-to-end ACK arrives (R408). -/
def execAck (s : State) : Host.Outcome State Fault Refusal :=
  match s.takeMsg 4 with
  | none => .next s
  | some (m, s) =>
    match sfind s.net.txFlows (flowKey m.src m.slot) with
    | none => .next s
    | some f =>
      if f.flow ≠ m.flow then .next s
      else
        let up (f : TxFlow) : TxFlow := { f with
          ackPos := max f.ackPos m.eseq, credLim := max f.credLim m.alen, resends := if f.ackPos < m.eseq then 0 else f.resends,
          sent := f.sent.filter (fun x => decide (m.eseq < x.pos + x.len)) }
        .next ((s.txMod m.src m.slot up).txSettle m.src m.slot)

/-- REFUSE: a REFUSE arrives, and the sending command completes MEM_ERROR (R405, R409). -/
def execRefuse (s : State) : Host.Outcome State Fault Refusal :=
  match s.takeMsg 5 with
  | none => .next s
  | some (m, s) =>
    let mine : Bool := match sfind s.net.txFlows (flowKey m.src m.slot) with
      | some f => f.flow == m.flow && f.sent.any (fun x => x.jseq == m.jseq && x.pos == m.eseq)
      | none => false
    if mine then
      let s := (s.dropSent m.jseq).finish m.jseq .memError 0 0
      let s := s.nmod (fun n => { n with txFlows := n.txFlows.filter (fun e => e.1 != flowKey m.src m.slot || !e.2.sent.isEmpty) })
      .next s
    else
      match sfind s.net.reads m.rtag with
      | some q =>
        if q.jseq = m.jseq ∧ m.flow = 0 then .next ((s.nmod (fun n => { n with reads := serase n.reads m.rtag })).finish q.jseq .memError 0 0)
        else .next (s.count Fld.COL_E2ECNT_ORPHAN 1)
      | none => .next (s.count Fld.COL_E2ECNT_ORPHAN 1)

/-- Whether the first port of a route is UP; a route without a port always is (R409). -/
def State.firstHopUp (s : State) (dst : Nat) : Bool :=
  match s.nextHop dst with
  | some p => s.lnkState p == lnkUp
  | none => true

/-- One unacknowledged message sent again, its local rows read anew (R409). -/
def State.resendOne (s : State) (dst slot : Nat) (f : TxFlow) (x : SentMsg) : State :=
  match s.cmd x.jseq with
  | none => s
  | some e =>
    match s.phys e.tile with
    | none => s
    | some p =>
      match s.msgBody p e.words x.row x.atom x.atoms with
      | none => (s.dropSent x.jseq).finish x.jseq .memError 0 0
      | some body => (s.countRun p e.words x.row x.atom x.atoms).sendWrite dst slot f x e.words body

/-- RESEND: no ACK progress for E2ETMO_US (R409). -/
def execResend (dst : Nat) (slot : Nat) (s : State) : Host.Outcome State Fault Refusal :=
  match sfind s.net.txFlows (flowKey dst slot) with
  | none => .next s
  | some f =>
    if f.sent.isEmpty ∨ ¬ s.firstHopUp dst then .next s
    else if max 1 (s.get Fld.COL_XCHCFG_BUDGET) ≤ f.resends then
      let js := (f.sent.map (·.jseq)).foldl nadd []
      let s := js.foldl (fun (s : State) j => (s.dropSent j).finish j .timeout 0 0) s
      .next (s.nmod (fun n => { n with txFlows := serase n.txFlows (flowKey dst slot) }))
    else
      let s := (s.count Fld.COL_E2ECNT_RESENDS 1).txMod dst slot (fun f => { f with resends := f.resends + 1 })
      .next (f.sent.foldl (fun (s : State) x => s.resendOne dst slot f x) s)

/-- REMOTE_READ_TIMEOUT: a remote read has no answer within COL_RDTMO (R410). -/
def execRemoteReadTimeout (rtag : Nat) (s : State) : Host.Outcome State Fault Refusal :=
  match sfind s.net.reads rtag with
  | none => .next s
  | some q => .next ((s.nmod (fun n => { n with reads := serase n.reads rtag, readQuar := nadd n.readQuar rtag })).finish q.jseq .timeout 0 0)

/-- RTAG_QUARANTINE: the quarantine of a timed-out RTAG ends (R410). -/
def execRtagQuarantine (rtag : Nat) (s : State) : Host.Outcome State Fault Refusal :=
  .next (s.nmod (fun n => { n with readQuar := ndel n.readQuar rtag }))

end Sys2Proof.Machine
end

