-- ==== Sys2Proof/Machine/Stream.lean ====
section
/-! DEFINITION. The STREAM commands as they move (files 08 and 16): LOAD, STORE, PREFETCH and RECEIVE, segments, halts and resumes, and the credit watchdog. -/

set_option Elab.async false

namespace Sys2Proof.Machine

/-! Far kind 0x3 (R204, R460, R476). -/

/-- The run of units that one access of host memory carries from unit `u` on: as a message's, of at most 4,096 bytes. -/
def hMessage (ws : List Word) (u : Nat) : Nat × Nat × Nat :=
  let r := u / sUnits ws
  let k := u % sUnits ws
  if sRowAtoms ws ≤ k then (r, k, 0) else (r, k, runAtoms ws (r * sRowAtoms ws + k) ((r + 1) * sRowAtoms ws) 4096)

/-- The stream has gone through the units before `u`. -/
def StreamRun.reach (r : StreamRun) (ws : List Word) (u : Nat) : StreamRun :=
  { r with asked := u, pos := min (sTotal ws) (u / sUnits ws * sRowAtoms ws + u % sUnits ws) }

/-- Host reads of a LOAD issued for the segment in hand; `fuel` reads at most. -/
def State.askHost (s : State) (j : Nat) (e : JEntry) : Nat → State
  | 0 => s
  | fuel + 1 =>
    let ws := e.words
    let u := (s.run j).asked
    if sUnitEnd ws e.segs ≤ u then s.rmod j (fun r => { r with wait := .answers })
    else
      match s.segmentCredit j e with
      | none => s.rmod j (fun r => { r with wait := .credit })
      | some s =>
        let m := hMessage ws u
        match s.issueRead (.load j u m.2.2) (sMsgFar ws m.1 m.2.1 m.2.2) (sMsgBytes ws m.2.2) with
        | none => s.rmod j (fun r => { r with wait := .answers })
        | some s => (s.rmod j (fun r => { (r.reach ws (u + max 1 m.2.2)) with awaiting := r.awaiting + 1 })).askHost j e fuel

/-- Data of a host read of a LOAD written to its local rows. -/
def State.hostLoaded (s : State) (j u n : Nat) (bs : List Byte) : State :=
  match s.cmd j with
  | none => s
  | some e =>
    match s.phys e.tile with
    | none => s
    | some p =>
      if e.fin.isSome ∨ e.st ≠ .dispatched then s
      else
        let r := u / sUnits e.words
        let k := u % sUnits e.words
        let c := match e.unit with
          | .channel c => c
          | _ => 0
        (s.spPut p c (if n = 0 then sLocalScaleAt e.words r 0 else sLocalAt e.words r k) bs).rmod j (fun r => { r with awaiting := r.awaiting - 1 })

/-- Host writes of a STORE issued for the segment in hand; `fuel` writes at most. -/
def State.storeHost (s : State) (j : Nat) (e : JEntry) (p c : Nat) : Nat → State
  | 0 => s
  | fuel + 1 =>
    let ws := e.words
    let u := (s.run j).asked
    if sUnitEnd ws e.segs ≤ u then s.rmod j (fun r => { r with wait := .ready })
    else
      match s.segmentCredit j e with
      | none => s.rmod j (fun r => { r with wait := .credit })
      | some s =>
        let m := hMessage ws u
        match s.msgBody p ws m.1 m.2.1 m.2.2 with
        | none => s.finish j .memError 0 0
        | some body =>
          match s.hostWrite (sMsgFar ws m.1 m.2.1 m.2.2) body with
          | none => s.rmod j (fun r => { r with wait := .answers })
          | some s => ((s.count (Fld.STR_CHBYTES_COUNT p c) body.length).rmod j (fun r => r.reach ws (u + max 1 m.2.2))).storeHost j e p c fuel

/-! The moving rows. -/

/-- A stream of one operation that is on a channel and not held by the credit of its segment: the state with the segment's credit taken. -/
def State.withCredit (s : State) (j op : Nat) (obs : StreamObs) (f : State → JEntry → Nat → Nat → State) : State :=
  match s.onChannel j with
  | none => s
  | some (e, p, c) =>
    if tOp e.words ≠ op then s
    else
      let s := s.streamErrors p obs
      match s.segmentCredit j e with
      | none => s.rmod j (fun r => { r with wait := .credit })
      | some s => f s e p c

/-- LOAD: atoms of the segment in hand moved from the far side to the local rows, or asked for (R202, R206, R410). -/
def execLoad (jseq : Nat) (obs : StreamObs) (s : State) : Host.Outcome State Fault Refusal :=
  .next (s.withCredit jseq 1 obs (fun s e p c =>
    let n := sUnitEnd e.words e.segs + 1
    match sFar e.words with
    | 2 => s.askRemote jseq e n
    | 3 => s.askHost jseq e n
    | _ => s.moveAtoms jseq (fun s pos => s.loadAtom jseq e p c pos) (sSegEnd e.words e.segs) n))

/-- STORE: atoms of the segment in hand moved from the local rows to the far side (R202, R401, R460). -/
def execStore (jseq : Nat) (obs : StreamObs) (s : State) : Host.Outcome State Fault Refusal :=
  .next (s.withCredit jseq 2 obs (fun s e p c =>
    let n := sUnitEnd e.words e.segs + 1
    match sFar e.words with
    | 2 => s.sendSegment jseq e p c n
    | 3 => s.storeHost jseq e p c n
    | _ => s.moveAtoms jseq (fun s pos => s.storeAtom jseq e p c pos) (sSegEnd e.words e.segs) n))

/-- PREFETCH: the far range's objects made resident; the command commits when all of them are (R202, R212). -/
def execPrefetch (jseq : Nat) (obs : StreamObs) (s : State) : Host.Outcome State Fault Refusal :=
  match s.onChannel jseq with
  | none => .next s
  | some (e, p, _) =>
    if tOp e.words ≠ 4 then .next s
    else
      let n := sTotal e.words
      let s := (s.streamErrors p obs).moveAtoms jseq (fun s pos => s.prefetchAtom jseq e pos) n (n + 1)
      .next (if n ≤ (s.run jseq).pos then s.finish jseq .ok 0 0 else s)

/-- Segments of a RECEIVE that its arrival has filled, or begun when it has ended (R212, R213). -/
def recvSegments (ws : List Word) (got : Nat) (ended : Bool) : Nat :=
  let rows := got / max 1 (arrRowBytes ws)
  if ended then ceilDiv rows (sSegLen ws) else rows / sSegLen ws

/-- One segment of a RECEIVE delivered, which never ends it. -/
def State.deliverArrived (s : State) (j : Nat) (e : JEntry) : State :=
  let s := if e.pmark.n = 0 then s else s.raiseMark e.tile e.pmark.idx e.pmark.n
  s.jmod j (fun e => { e with segs := e.segs + 1 })

/-- RECEIVE: an arrival that has ended delivers its last segments and its row count, and the command commits (R213, R413); one that has not begun waits. -/
def execReceive (jseq : Nat) (s : State) : Host.Outcome State Fault Refusal :=
  match s.onChannel jseq with
  | none => .next s
  | some (e, p, c) =>
    let r := s.run jseq
    if tOp e.words ≠ 5 then .next s
    else if ¬ r.staged then .next (if r.arrival.isNone then s.rmod jseq (fun r => { r with wait := .arrival }) else s)
    else
      let left := recvSegments e.words r.got true - e.segs
      let s := (numsFrom 0 left).foldl (fun (s : State) _ => s.deliverArrived jseq e) s
      let s := s.spPut p c (sLcount e.words) (leBytes 4 (r.got / max 1 (arrRowBytes e.words)))
      .next (s.finish jseq .ok 0 0)

/-- Whether the segment in hand of a stream can be delivered: its bytes are all moved and durable (R212). -/
def State.segmentDone (s : State) (j : Nat) (e : JEntry) : Bool :=
  let r := s.run j
  let ws := e.words
  match tOp ws, sFar ws with
  | 1, 1 => decide (sSegEnd ws e.segs ≤ r.pos)
  | 1, _ => decide (sUnitEnd ws e.segs ≤ r.asked) && r.awaiting == 0
  | 2, 1 => decide (sSegEnd ws e.segs ≤ r.pos)
  | 2, 2 => decide (sUnitEnd ws e.segs ≤ r.asked) && s.sentAcked j
  | 2, _ => decide (sUnitEnd ws e.segs ≤ r.asked)
  | 3, _ => decide (sSegEnd ws e.segs ≤ r.pos) && !r.staged
  | _, _ => false

/-- SEGMENT_DELIVERED: a segment is durable, PINC is added to the progress mark, and the last segment commits the stream (R212). -/
def execSegmentDelivered (jseq : Nat) (s : State) : Host.Outcome State Fault Refusal :=
  match s.cmd jseq with
  | none => .next s
  | some e =>
    if ¬ e.isStream ∨ e.st ≠ .dispatched ∨ e.fin.isSome ∨ ¬ s.live ∨ ¬ s.targetUp e then .next s
    else if tOp e.words = 5 then
      .next (if e.segs < recvSegments e.words (s.run jseq).got false then s.deliverArrived jseq e else s)
    else .next (if s.segmentDone jseq e then s.deliverSegment jseq e else s)

/-! Halts and resumes (R219 to R221). -/

/-- The streams of a logical tile that are dispatched and unfinished, oldest first. -/
def State.streamsOf (s : State) (t : Nat) : List (Nat × JEntry) :=
  s.journal.filter (fun e => e.2.isStream && e.2.tile == t && e.2.st == .dispatched && e.2.fin.isNone)

/-- The lowest channel of a tile that no stream holds. -/
def State.freeChannel (s : State) (t : Nat) : Option Nat :=
  firstFrom (fun c => !s.journal.any (fun e => e.2.onTile && e.2.tile == t && e.2.fin.isNone && e.2.unit == .channel c)) 0 4

/-- The lowest entry of a tile's halt table that is free (R220). -/
def State.freeHalt (s : State) (t : Nat) : Option Nat :=
  firstFrom (fun n => !(s.streamsOf t).any (fun e => match (s.run e.1).halt with
    | some (m, _) => m == n
    | none => false)) 0 16

/-- Whether the end-to-end credit admits the next message of a STORE (R408). -/
def State.remoteReady (s : State) (e : JEntry) (r : StreamRun) : Bool :=
  let m := sMessage e.words r.asked
  let slot := slotOfUda (sMsgFar e.words m.1 m.2.1 m.2.2)
  match s.txFlow (sHerd e.words) slot with
  | some (f, _) => decide (f.next + sMsgBytes e.words m.2.2 ≤ f.credLim)
  | none => false

/-- Whether an arrival waits for the RECEIVE of a ring. -/
def State.arrivalWaits (s : State) (r : Nat) : Bool := s.net.inbox.any (fun m => m.mtype == 1 && m.opened && s.winType m.slot == 4 && s.winRing m.slot == r)

/-- Whether what a stream waits for has come (R219). -/
def State.waitOver (s : State) (e : JEntry) (r : StreamRun) : Bool :=
  match r.wait with
  | .tier w => s.tierReady w
  | .credit => decide (0 < s.pool e.tile (sSpool e.words))
  | .remote => s.remoteReady e r
  | .arrival => s.arrivalWaits (recvRing e.words)
  | _ => true

/-- The reason code of a wait that halts (STR_HALTn.REASON); 0 for one that does not. -/
def haltReason : StreamWait → Nat
  | .tier _ => 1
  | .credit => 2
  | .remote => 3
  | .arrival => 4
  | _ => 0

/-- A halt counted by its reason (STR_HALTCNT). -/
def State.countHalt (s : State) (p reason : Nat) : State :=
  match reason with
  | 1 => s.count (Fld.STR_HALTCNT_TIER p) 1
  | 2 => s.count (Fld.STR_HALTCNT_CREDIT p) 1
  | 3 => s.count (Fld.STR_HALTCNT_CREDIT p) 1
  | 4 => s.count (Fld.STR_HALTCNT_ARRIVAL p) 1
  | _ => s

/-- HALT: a stream that waits for the tier, a credit or an arrival gives its channel up and saves its position (R219, R220). -/
def execHalt (jseq : Nat) (s : State) : Host.Outcome State Fault Refusal :=
  match s.onChannel jseq with
  | none => .next s
  | some (e, p, _) =>
    let r := s.run jseq
    let reason := haltReason r.wait
    if reason = 0 ∨ s.waitOver e r then .next s
    else
      match s.freeHalt e.tile with
      | none => .next (if r.full then s else (s.count (Fld.STR_HALTCNT_FULL p) 1).rmod jseq (fun r => { r with full := true }))
      | some n => .next (((s.jmod jseq (fun e => { e with unit := .none })).rmod jseq (fun r => { r with halt := some (n, reason), full := false })).countHalt p reason)

/-- Whether a halted stream may resume (R219, R221). -/
def State.resumable (s : State) (e : JEntry) (r : StreamRun) : Bool :=
  match r.halt with
  | some (_, 5) => s.grantableAll e.tile r.released
  | some _ => s.waitOver e r
  | none => false

/-- STREAM_RESUME: the oldest halted stream of a logical tile whose resume condition holds takes the lowest-numbered free channel (R221). -/
def execStreamResume (tile : Nat) (s : State) : Host.Outcome State Fault Refusal :=
  if 64 ≤ tile then .next s else
  match s.freeChannel tile, (s.streamsOf tile).find? (fun e => s.resumable e.2 (s.run e.1)) with
  | some c, some (j, _) =>
    if s.live ∧ ¬ s.unitDown 3 tile ∧ s.mapped tile then
      .next (((s.takeResv tile j (s.run j).released).jmod j (fun x => { x with unit := .channel c, resv := x.resv ++ (s.run j).released })).rmod j
        (fun r => { r with halt := none, released := [], wait := .ready }))
    else .next s
  | _, _ => .next s

/-! The credit watchdog (R225, R226). -/

/-- Whether a dispatched stream is blocked: it waits for a segment credit or for end-to-end credit while it holds a contended record IN_USE. -/
def State.isBlocked (s : State) (j : Nat) (e : JEntry) : Bool :=
  let r := s.run j
  (r.wait == .credit || r.wait == .remote) && !s.waitOver e r && e.resv.any (fun n => s.contended e.tile n)

/-- The records that heads and halted streams of a tile wait for (R225). -/
def State.wantedRecords (s : State) (t : Nat) : List Nat :=
  let heads := s.journal.filter (fun e => e.2.isStream && e.2.tile == t && e.2.st == .accepted && e.2.fin.isNone && e.2.refusal.isNone &&
    !s.journal.any (fun f => decide (f.1 < e.1) && f.2.onTile && f.2.tileRing == e.2.tileRing && f.2.st == .accepted && f.2.fin.isNone && f.2.refusal.isNone))
  (heads.map (fun e => resvTaken e.2.words)).flatten ++ ((s.streamsOf t).map (fun e => (s.run e.1).released)).flatten

/-- Whether a record that some head or halted stream waits for conflicts with one that a stream holds. -/
def State.conflicts (s : State) (e : JEntry) : Bool :=
  (s.wantedRecords e.tile).any (fun w => e.resv.any (fun h => match s.record e.tile w, s.record e.tile h with
    | some a, some b => a.contends b
    | _, _ => false))

/-- Whether a blocked stream may be halted: no segment in its records has raised its progress mark (R225). -/
def watchdogEligible (e : JEntry) : Bool := e.segs == 0 || e.pmark.n == 0

/-- The first position whose local bytes lie in one of a list of records (R225). -/
def State.firstIn (s : State) (t : Nat) (ws : List Word) (rs : List Nat) : Nat :=
  let inside (o n : Nat) : Bool := rs.any (fun r => match s.record t r with
    | some q => overlaps (1024 * q.off) (1024 * q.len) o n
    | none => false)
  (firstFrom (fun pos => inside (sLocalAt ws (posRow ws pos) (posAtom ws pos)) (sAtomBytes ws) ||
    (sScaled ws && inside (sLocalScaleAt ws (posRow ws pos) (posAtom ws pos)) 1)) 0 (sTotal ws)).getD 0

/-- A blocked stream halted by the watchdog: its records released, its position moved back (R225). A remote STORE keeps what it has sent. -/
def State.watchdogHalt (s : State) (j : Nat) (e : JEntry) (p n : Nat) : State :=
  let held := e.resv
  let back := s.firstIn e.tile e.words held
  let keep : Bool := sFar e.words != 1
  let s := held.foldl (fun (s : State) r => s.freeResv e.tile r) s
  let s := s.jmod j (fun e => { e with unit := .none, resv := [] })
  (s.rmod j (fun r => { r with halt := some (n, 5), released := held, blocked := false, full := false, pos := if keep then r.pos else min r.pos back })).count (Fld.STR_WDOGCNT_HALTS p) 1

/-- CREDIT_WATCHDOG: one examination of a logical tile (R225, R226). -/
def execCreditWatchdog (tile : Nat) (s : State) : Host.Outcome State Fault Refusal :=
  if 64 ≤ tile then .next s else
  match s.phys tile with
  | none => .next s
  | some p =>
    let all := s.streamsOf tile
    let cands := all.filter (fun e => (s.run e.1).blocked && s.isBlocked e.1 e.2 && s.conflicts e.2)
    let note (s : State) : State := all.foldl (fun (s : State) e => s.rmod e.1 (fun r => { r with blocked := s.isBlocked e.1 e.2 && r.halt.all (fun h => h.2 != 5) })) s
    match (cands.filter (fun e => watchdogEligible e.2)).getLast? with
    | some (j, e) =>
      let at_ := ((s.run j).halt.map (fun h => h.1)).orElse (fun _ => s.freeHalt tile)
      match at_ with
      | some n => .next (note (s.watchdogHalt j e p n))
      | none => .next (note (s.count (Fld.STR_HALTCNT_FULL p) 1))
    | none =>
      match cands.getLast? with
      | some (j, _) => .next (note ((s.count (Fld.STR_WDOGCNT_STUCK p) 1).raise .streamStuck tile (BitVec.ofNat 64 j) 0))
      | none => .next (note s)

end Sys2Proof.Machine
end

