-- ==== Sys2Proof/Machine/Grad.lean ====
section
/-! DEFINITION. Gradient accumulation (R271 to R279): the ACCUM stream, the commit of its segments and the accumulate-on-write rule. -/

set_option Elab.async false

namespace Sys2Proof.Machine

/-! The buffer header (R271). -/

/-- Elements of a G8R buffer, from its header's words. -/
def gN (h : List Word) : Nat := (wget h 0).toNat
/-- VPLANE in bytes. -/
def gValue (h : List Word) : Nat := 16 * bits (wget h 1) 16 48
/-- RPLANE in bytes. -/
def gResid (h : List Word) : Nat := 16 * bits (wget h 2) 16 48
/-- SPLANE in bytes. -/
def gScale (h : List Word) : Nat := 16 * bits (wget h 3) 16 48

/-- The DRAM interleave period of a set, in bytes: 256 bytes on each of its pseudo-channels (R312). -/
def interleave (a : Nat) : Nat := if a < dramBBase then 131072 else 32768

/-- Whether a header in DRAM at byte `at_` meets R271. -/
def gHeaderOk (h : List Word) (at_ : Nat) : Bool :=
  let n := gN h
  let areas := [(at_, 64), (gValue h, n), (gResid h, n), (gScale h, n / 32)]
  decide (n ≠ 0) && decide (n % 32 = 0) && decide (at_ % 64 = 0) &&
  [1, 2, 3].all (fun i => decide (bits (wget h i) 0 16 = 0)) && [4, 5, 6, 7].all (fun i => wget h i == 0) &&
  decide (gValue h % 32 = 0) && decide (gResid h % 32 = 0) &&
  areas.all (fun a => inDram (a.1 : Int) ((a.1 + a.2 - 1 : Nat) : Int)) &&
  decide (((gResid h : Int) - gValue h) % (interleave (gValue h) : Int) = 0) && decide (regionOf (gValue h) = regionOf (gResid h)) &&
  (areas.zipIdx.all (fun a => areas.zipIdx.all (fun b => decide (b.2 ≤ a.2) || !overlaps a.1.1 a.1.2 b.1.1 b.1.2)))

/-- Whether the far extent of an ACCUM lies in the buffer's value plane (R273). -/
def gCovers (h : List Word) (ws : List Word) : Bool :=
  let x := sFarExtent ws
  decide ((gValue h : Int) ≤ x.1) && decide (x.2 < ((gValue h + gN h : Nat) : Int)) && decide ((x.1 - gValue h) % 32 = 0)

/-! Blocks. -/

/-- The 32 values of a stored block in the full reading. -/
def State.gBlock (s : State) (b : StagedBlock) : List FV :=
  let x := (s.rb b.scale).toNat
  List.zipWith (fun v q => decodeG8R x v.toNat q.toNat) (s.rbs b.value 32) (s.rbs b.resid 32)

/-- The updated values u_k of a block, rounded to FP32; none when the block becomes 0xFF (R274). -/
def State.gSum (s : State) (b : StagedBlock) : Option (List FV) :=
  if s.rb b.scale = 0xFF ∨ b.contrib.any (fun c => !fvFinite (ofF32 (BitVec.ofNat 32 c))) then none
  else
    let us := List.zipWith (fun v c => ofF32 (toF32 (fvAdd v (ofF32 (BitVec.ofNat 32 c))))) (s.gBlock b) b.contrib
    if us.any (fun u => !fvFinite u) then none else some us

/-- A block's three planes written. -/
def State.gPut (s : State) (b : StagedBlock) (x : Nat) (vs qs : List Nat) : State :=
  let by8 (l : List Nat) : List Byte := l.map (BitVec.ofNat 8)
  let s := (s.wbs b.value (by8 vs)).cleanse b.value 32
  let s := (s.wbs b.resid (by8 qs)).cleanse b.resid 32
  s.wbs b.scale [BitVec.ofNat 8 x]

/-- The largest magnitude that scale exponent +127 holds without clamping (R98). -/
def g8rTop : Dy := ⟨448, 127⟩

/-- The accumulate-on-write rule on one block (R274), with its counts (R277). -/
def State.gApply (s : State) (b : StagedBlock) : State :=
  if s.poisonedIn b.value 32 ∨ s.poisonedIn b.resid 32 ∨ s.poisonedIn b.scale 1 ∨ s.dramHeld b.value 32 = .lost ∨ s.dramHeld b.resid 32 = .lost ∨ s.dramHeld b.scale 1 = .lost then s
  else
    let k := s.stackOf b.value
    let s0 := s.count (Fld.DRM_ACCCNT_COUNT k) 1
    match s.gSum b with
    | none =>
      let was := s.rb b.scale
      let s := ((s0.gPut b 255 (List.replicate 32 0) (List.replicate 32 0)).count (Fld.DRM_ACCNF_COUNT k) 1).set (Fld.DRM_ACCNF_ADDR k) (b.value / 16)
      if was = 0xFF then s else s.raiseLatch 0
    | some us =>
      let e := encodeG8R us
      let s := s0.gPut b e.1 e.2.1 e.2.2.1
      if dyLt g8rTop (amaxOf us) then (s.count (Fld.DRM_ACCSAT_COUNT k) 1).set (Fld.DRM_ACCSAT_ADDR k) (b.value / 16) else s

/-- The sum of squares of a block's updated values, in units of 2^−300 (R279); a block that becomes 0xFF adds nothing. -/
def State.gSquares (s : State) (b : StagedBlock) : Nat :=
  match s.gSum b with
  | none => 0
  | some us => us.foldl (fun a u =>
    match fvMul u u with
    | .fin _ m e => a + m * 2 ^ (e + 300).toNat
    | _ => a) 0

/-- Staging bytes in use at a stack's base die: each staged block takes 128 bytes there and at the partner (R275, R515). -/
def State.stagingUsed (s : State) (k : Nat) : Nat :=
  let mine (b : StagedBlock) : Bool := s.stackOf b.value / 2 == k / 2
  let n := (s.streams.map (fun r => (r.2.held.filter mine).length)).sum + (s.applying.map (fun g => (g.2.filter mine).length)).sum
  128 * n

/-! The stream. -/

/-- The block of an ACCUM's atom at a position, without its contributions. -/
def gBlockAt (h : List Word) (ws : List Word) (pos : Nat) : StagedBlock :=
  let k := (sFarAt ws (posRow ws pos) (posAtom ws pos) - gValue h) / 32
  ⟨gValue h + 32 * k, gResid h + 32 * k, gScale h + k, []⟩

/-- The segment's blocks with the contributions read from the local rows; none when poison is among them (R174). -/
def State.gStage (s : State) (p : Nat) (e : JEntry) : List Nat → Option (List StagedBlock)
  | [] => some []
  | pos :: r =>
    match s.spGet p (sLocalAt e.words (posRow e.words pos) (posAtom e.words pos)) 128, s.gStage p e r with
    | some bs, some l => some ({ gBlockAt e.header e.words pos with contrib := unpackNat 32 32 (leNat bs) } :: l)
    | _, _ => none

/-- Whether the staging buffers of every base die involved have room for more blocks. -/
def State.stagingRoom (s : State) (bs : List StagedBlock) : Bool :=
  (numsFrom 0 20).all (fun k =>
    let n := (bs.filter (fun b => s.stackOf b.value / 2 == k / 2)).length
    decide (n = 0) || decide (s.stagingUsed k + 128 * n ≤ 262144))

/-- ACCUM: the contributions of the segment in hand staged on the base dies (R272, R275); a segment committed before is skipped (R8). -/
def execAccum (jseq : Nat) (obs : StreamObs) (s : State) : Host.Outcome State Fault Refusal :=
  .next (s.withCredit jseq 3 obs (fun s e p c =>
    let a := (s.run jseq).pos
    let b := sSegEnd e.words e.segs
    if nmem e.blocks e.segs then s.rmod jseq (fun r => { r with pos := b, wait := .ready })
    else if (s.run jseq).staged ∨ b ≤ a then s
    else
      match s.gStage p e (numsFrom a (b - a)) with
      | none => s.finish jseq .memError 0 0
      | some bs =>
        if ¬ s.stagingRoom bs then s
        else (s.rmod jseq (fun r => { r with pos := b, wait := .ready, staged := true, held := bs })).count (Fld.STR_CHBYTES_COUNT p c) (128 * bs.length)))

/-- How the three planes of a list of blocks stand: lost or poisoned, waiting, or served (R314, R337). -/
def State.blocksStand (s : State) (bs : List StagedBlock) (waiting : State → Nat → Nat → DramAccess) : DramAccess :=
  let at_ (a n : Nat) : DramAccess := if s.poisonedIn a n then .lost else waiting s a n
  let l := (bs.map (fun b => [at_ b.value 32, at_ b.resid 32, at_ b.scale 1])).flatten
  if l.any (· == .lost) then .lost else if l.any (· == .waits) then .waits else .served

/-- SEGMENT_COMMIT: a staged segment, its norm partial and its bit commit as one durable change (R275, R279). One that reaches an unapplied block waits for its turn (R276). -/
def execSegmentCommit (jseq : Nat) (s : State) : Host.Outcome State Fault Refusal :=
  match s.onChannel jseq with
  | none => .next s
  | some (e, _, _) =>
    let r := s.run jseq
    if tOp e.words ≠ 3 ∨ ¬ r.staged then .next s
    else
      match s.blocksStand r.held State.dramRange with
      | .waits => .next s
      | .lost => .next (s.finish jseq .memError 0 0)
      | .served =>
        let sum := if sNorm e.words then (r.held.map (fun b => s.gSquares b)).sum else 0
        let s := { s with applying := s.applying ++ [(jseq, r.held)] }
        let s := s.nmod (fun n => { n with vote := { n.vote with norm := (n.vote.norm + sum) % 2 ^ 640 } })
        .next ((s.jmod jseq (fun e => { e with blocks := nadd e.blocks e.segs })).rmod jseq (fun r => { r with staged := false, held := [] }))

/-- The blocks of one committed segment applied (R274). -/
def State.applySegment (s : State) (g : Nat × List StagedBlock) : State :=
  g.2.foldl State.gApply { s with applying := s.applying.erase g }

/-- Every committed segment applied, in commit order. -/
def State.applyAll (s : State) : State := s.applying.foldl State.applySegment s

/-- ACCUMULATE_ON_WRITE: the base dies apply the oldest committed segment of a stream (R274, R275, R277). -/
def execAccumulateOnWrite (jseq : Nat) (s : State) : Host.Outcome State Fault Refusal :=
  match s.applying.find? (fun g => g.1 == jseq) with
  | none => .next s
  | some g => if s.blocksStand g.2 State.dramHeld = .waits then .next s else .next (s.applySegment g)

end Sys2Proof.Machine
end

