-- ==== Sys2Proof/Machine/Vote.lean ====
section
/-! DEFINITION. The step vote (R280 to R286, R416 to R418, R441): seals, contributions up the tree, the decision at the herd root, and verdicts. -/

set_option Elab.async false

namespace Sys2Proof.Machine

/-! The detector thresholds section (R286). -/

/-- A detector entry. -/
structure Detector where
  from_ : Nat
  upTo : Nat
  gnmax : F64
  ratio : F32
  beta : F32
  warmup : Nat
  skipAlert : Nat
  actions : Nat
  deriving DecidableEq, Repr

/-- The default entry. BETA is the FP32 nearest 0.99. -/
def Detector.default : Detector := ⟨0, 0xFFFFFFFF, 0x7FF0000000000000, 0x7F800000, 0x3F7D70A4, 0, 4, 1⟩

/-- COUNT of a detector section. -/
def detCount (bs : List Byte) : Nat := bits (wordAt bs 0) 0 5

/-- Layout length of a detector section (R600). -/
def detLength (bs : List Byte) : Nat := 64 + 32 * detCount bs

/-- Entry `n` of a detector section. -/
def detEntry (bs : List Byte) (n : Nat) : Detector :=
  let w (i : Nat) : Word := wordAt bs (64 + 32 * n + 8 * i)
  ⟨bits (w 0) 32 32, bits (w 0) 0 32, w 1, BitVec.ofNat 32 (bits (w 2) 32 32), BitVec.ofNat 32 (bits (w 2) 0 32), bits (w 3) 48 16, bits (w 3) 40 8, bits (w 3) 32 3⟩

/-- Reserved bits of a detector section. -/
def detReserved (bs : List Byte) : List SecFault :=
  reservedIn bs 0 0 0x1F ++ zeroFrom bs .reservedNonzero 8 56 0 ++
  ((numsFrom 0 (min 16 (detCount bs))).map (fun n => reservedIn bs (64 + 32 * n + 24) n (mask64 40 24 ||| mask64 32 3))).flatten

/-- Phase 9 of a detector section. -/
def detFaults (bs : List Byte) : List SecFault :=
  faultIf (decide (detCount bs = 0 ∨ 16 < detCount bs)) .detector 0 0 ++
  ((numsFrom 0 (min 16 (detCount bs))).map (fun n =>
    let d := detEntry bs n
    let o := 64 + 32 * n
    let pos (v : FV) : Bool := fvLt (.fin false 0 0) v
    faultIf (decide (d.upTo ≤ d.from_)) .detector o n ++
    faultIf (!pos (ofF64 d.gnmax)) .detector (o + 8) n ++
    faultIf (fvNegative (ofF32 d.beta) && !fvIsZero (ofF32 d.beta) || !fvLt (ofF32 d.beta) (ofF32 one32) || ofF32 d.beta == .nan) .detector (o + 16) n ++
    faultIf (!fvLe (ofF32 one32) (ofF32 d.ratio)) .detector (o + 20) n)).flatten

/-- The entries of the active image that cover a step, lowest first. -/
def State.detectorsOf (s : State) (step : Nat) : List Detector :=
  ((numsFrom 0 (detCount (s.section_ 0xE))).map (detEntry (s.section_ 0xE))).filter (fun d => decide (d.from_ ≤ step) && decide (step < d.upTo))

/-- The entry for a step (R77, R283), a lookup with several matches counted. -/
def State.detector (s : State) (step : Nat) : Detector × State :=
  match (if s.hasSection 0xE then s.detectorsOf step else []) with
  | [] => (.default, s)
  | [d] => (d, s)
  | d :: _ => (d, s.count (Fld.HRN_MMATCH_COUNT 0xE) 1)

/-! Seals. -/

/-- The vote's state changed. -/
def State.vmod (s : State) (f : VoteState → VoteState) : State := s.nmod (fun n => { n with vote := f n.vote })

/-- The open vote step. -/
def State.openStep (s : State) : Nat := s.get Fld.COL_VOTESTEP_OPEN

/-- OP of a command for the collective unit: 1 SEAL, 2 REDUCE (R280). -/
def colOp (ws : List Word) : Nat := bits (wget ws 0) 56 8

/-- STEP or RID of a command for the collective unit. -/
def colKey (ws : List Word) : Nat := bits (wget ws 0) 0 32

/-- LOSS of a VOTE_SEAL, or SRC of a REDUCE, in bytes. -/
def colSrc (ws : List Word) : Nat := 16 * bits (wget ws 4) 16 48

/-- The norm partial rounded to binary64 (R279, COL_NORMACC). -/
def State.normRounded (s : State) : F64 := toF64 (.fin false s.net.vote.norm (-300))

/-- A command of the collective unit dispatched if it may be: none when it may not, or has been cancelled instead (R180, R281). -/
def State.colDispatch (s : State) (j op : Nat) : State × Option JEntry :=
  match s.cmd j with
  | none => (s, none)
  | some e =>
    if e.target ≠ .collective ∨ colOp e.words ≠ op ∨ e.refusal.isSome ∨ e.fin.isSome ∨ ¬ s.live then (s, none)
    else if e.st = .dispatched then (s, some e)
    else if ¬ s.gate j e then (s, none)
    else if s.waitPoisoned e then ((s.jmod j (fun e => { e with st := .dispatched, disp := 1 })).finish j .cancelled 0 0, none)
    else if ¬ s.waitsOk e then (s, none)
    else
      let s := (s.consumeWaits e.srcTile e.waits).jmod j (fun e => { e with st := .dispatched, disp := e.disp + 1 })
      (s, some { e with st := .dispatched, disp := e.disp + 1 })

/-- The seal itself: latch and partial sampled and cleared, the record written, the entry marked SEALED (R281). -/
def State.sealStep (s : State) (j step : Nat) (loss : F64) (count : Word) : State :=
  let s := if fvFinite (ofF64 loss) then s else s.raiseLatch 1
  let gn2 := s.normRounded
  let s := ((s.setReg Reg.COL_VOTEREC gn2).setReg Reg.COL_VOTEREC_8 loss).setReg Reg.COL_VOTEREC_10 count
  let s := (s.set Fld.COL_VOTEREC_18_NFBITS (s.get Fld.COL_VOTESTEP_LATCH)).set Fld.COL_VOTEREC_18_STEP step
  let s := (s.set Fld.COL_VOTESTEP_LATCH 0).set Fld.COL_VOTESTEP_STATE 1
  (s.vmod (fun v => { v with norm := 0, sealed_ := true })).jmod j (fun e => { e with sent := true })

/-- VOTE_SEAL: seals the step's contribution; the seal completes when the verdict arrives (R281). A replayed SEALED seal reads nothing. -/
def execVoteSeal (jseq : Nat) (s : State) : Host.Outcome State Fault Refusal :=
  match s.colDispatch jseq 1 with
  | (s, none) => .next s
  | (s, some e) =>
    if e.sent then .next s
    else if colSrc e.words = 0 then .next (s.sealStep jseq (colKey e.words) 0 0)
    else
      match s.readUda jseq (colSrc e.words) 16 with
      | (.done bs, s) => .next (s.sealStep jseq (colKey e.words) (wordAt bs 0) (wordAt bs 8))
      | (.fail _, s) => .next (s.finish jseq .memError 0 0)
      | (_, s) => .next s

/-! Contributions and the tree (R416, R417). -/

/-- A vote's contribution: NF, UNSEALED, GN2, LOSS and COUNT. -/
structure Contrib where
  nf : Bool
  uns : Bool
  gn2 : F64
  loss : F64
  count : Word
  deriving DecidableEq, Repr

/-- Two contributions combined, in order (R282, R416). -/
def Contrib.and (a b : Contrib) : Contrib := ⟨a.nf || b.nf, a.uns || b.uns, f64Add a.gn2 b.gn2, f64Add a.loss b.loss, a.count + b.count⟩

/-- A contribution's words: flags, GN2, LOSS, COUNT. -/
def Contrib.words (c : Contrib) : List Word := [wordOf [(0, 1, b2n c.nf), (1, 1, b2n c.uns)], c.gn2, c.loss, c.count]

/-- A contribution from its words. -/
def Contrib.ofWords (ws : List Word) : Contrib := ⟨bit (wget ws 0) 0, bit (wget ws 0) 1, wget ws 1, wget ws 2, wget ws 3⟩

/-- A package's own contribution to the open step (R281, R282). -/
def State.ownContrib (s : State) : Contrib :=
  if s.net.vote.sealed_ then ⟨s.get Fld.COL_VOTEREC_18_NFBITS != 0, false, s.reg Reg.COL_VOTEREC, s.reg Reg.COL_VOTEREC_8, s.reg Reg.COL_VOTEREC_10⟩
  else ⟨false, true, 0, 0, 0⟩

/-- The level root that a level's input goes to from a package at `a` (R416): level 0 row, 1 column, 2 herd. -/
def levelRoot (a level : Nat) : Nat := if level = 0 then herdOf 0 (herdY a) (herdZ a) else if level = 1 then herdOf 0 0 (herdZ a) else 0

/-- The place of a package's input in a level's order. -/
def levelPlace (a level : Nat) : Nat := if level = 0 then herdX a else if level = 1 then herdY a else herdZ a

/-- The number of inputs of a level. -/
def State.levelSize (s : State) (level : Nat) : Nat := if level = 0 then s.extents.1 else if level = 1 then s.extents.2.1 else s.extents.2.2

/-- The level of an input that comes from package `src`, if this package is the root of one. -/
def State.levelOf (s : State) (src : Nat) : Option Nat :=
  let me := s.herdAddr
  if herdX me ≠ 0 then none
  else if herdY src = herdY me ∧ herdZ src = herdZ me then some 0
  else if herdY me = 0 ∧ herdX src = 0 ∧ herdZ src = herdZ me then some 1
  else if me = 0 ∧ herdX src = 0 ∧ herdY src = 0 then some 2
  else none

/-- The reduction of a key at a level under way here, if there is one. -/
def State.partialOf (s : State) (vote : Bool) (key spoke level : Nat) : Option Partial :=
  s.net.reductions.find? (fun p => p.vote == vote && p.key == key && p.spoke == spoke && p.level == level)

/-- A reduction put in place of the one of its key and level. -/
def State.putPartial (s : State) (p : Partial) : State :=
  s.nmod (fun n => { n with reductions := n.reductions.filter (fun q => !(q.vote == p.vote && q.key == p.key && q.spoke == p.spoke && q.level == p.level)) ++ [p] })

/-- A Wheel time in spokes as a Wheel time word (R19). -/
def spokeWord (v : Nat) : Word := BitVec.ofNat 64 (16 * v)

/-- The inputs of a vote combined in ascending order. -/
def combineVotes : List (List Word) → Option Contrib
  | [] => none
  | w :: r => some (r.foldl (fun a x => a.and (Contrib.ofWords x)) (Contrib.ofWords w))

/-- One input of a vote at a level root here; a complete level goes on to the next root (R416); `fuel` levels at most. -/
def State.voteInput (s : State) (step v : Nat) : Nat → Nat → Nat → Contrib → State
  | 0, _, _, _ => s
  | fuel + 1, level, place, c =>
    let p := (s.partialOf true step v level).getD ⟨step, true, level, v, 0, 0, false, []⟩
    if (sfind p.inputs place).isSome then s
    else
      let p := { p with inputs := sinsert p.inputs place c.words }
      let s := s.putPartial p
      if level = 2 ∨ p.inputs.length < s.levelSize level then s
      else
        match combineVotes (p.inputs.map (fun x => x.2)) with
        | none => s
        | some t =>
          let up := levelRoot s.herdAddr (level + 1)
          if up = s.herdAddr then s.voteInput step v fuel (level + 1) (levelPlace s.herdAddr (level + 1)) t
          else s.sendMsg { (Msg.blank up 0 6) with extra := [BitVec.ofNat 64 step, spokeWord v] ++ t.words } 0

/-- A package's contribution launched for vote spoke `v` (R282, R441). -/
def State.launchVote (s : State) (v : Nat) : State :=
  let c := s.ownContrib
  let s := (s.set Fld.COL_VOTESTEP_STATE 2).vmod (fun x => { x with launched := some v })
  let up := levelRoot s.herdAddr 0
  if up = s.herdAddr then s.voteInput s.openStep v 3 0 (levelPlace s.herdAddr 0) c
  else s.sendMsg { (Msg.blank up 0 6) with extra := [BitVec.ofNat 64 s.openStep, spokeWord v] ++ c.words } 0

/-- Spokes between launch and vote spoke (COL_VOTECFG.LEAD). -/
def State.voteLead (s : State) : Nat := max 1 (s.get Fld.COL_VOTECFG_LEAD)

/-- Whether a VOTE entry with a lower number, or any other, is due at a Wheel time in spokes. -/
def State.voteShared (s : State) (n v : Nat) (lower : Bool) : Bool :=
  s.calEntries.any (fun e => e.2.kind == 2 && e.2.dueAt (v / 4096) (v % 4096) && (if lower then decide (e.1 < n) else e.1 != n))

/-- VOTE: at V − LEAD of a VOTE entry, the package launches its contribution (R282, R441, R444); in a pause the launch waits for the pause's end (R445). -/
def execVote (entry : Nat) (s : State) : Host.Outcome State Fault Refusal :=
  let e := s.calEntry entry
  let v := s.nowSpokes + s.voteLead
  if e.kind ≠ 2 ∨ s.calSize ≤ entry ∨ ¬ e.dueAt (v / 4096) (v % 4096) ∨ s.hasFired (2 * entry + 1) then .next s
  else
    let s := s.noteFired (2 * entry + 1)
    if s.voteShared entry v true then .next s
    else if ¬ s.calAllowed e then .next (s.count Fld.WHL_CALCNT_SUPPRESSED 1)
    else if s.flag Fld.WHL_STAT_PAUSED then .next (s.wmod (fun w => { w with owedLaunch := some v }))
    else .next (s.launchVote v)

/-- CONTRIB: a vote contribution arrives at a level root and is combined (R417); at the herd root one that comes after V is counted late. -/
def execContrib (s : State) : Host.Outcome State Fault Refusal :=
  match s.takeMsg 6 with
  | none => .next s
  | some (m, s) =>
    let v := (wget m.extra 1).toNat / 16
    let step := (wget m.extra 0).toNat
    match s.levelOf m.src with
    | none => .next s
    | some level =>
      if v < s.nowSpokes ∨ (v = s.nowSpokes ∧ s.calEntries.any (fun e => e.2.kind == 2 && s.calDue e.2 && s.hasFired (2 * e.1))) then
        .next (if level = 2 then s.count Fld.COL_REDCNT_LATE 1 else s)
      else .next (s.voteInput step v 3 level (levelPlace m.src level) (Contrib.ofWords (m.extra.drop 2)))

/-! The decision (R283). -/

/-- A verdict record as a VERDICT message carries it: COL_VERDICT's word 0, G, mean, E, A, consecutive skips, and V (log entry 24). -/
structure Verdict where
  step : Nat
  /-- 1 apply, 2 skip, 3 defer. -/
  verdict : Nat
  reason : Nat
  g : F64
  mean : F64
  e : F64
  a : Word
  skips : Nat
  spoke : Nat
  deriving DecidableEq, Repr

/-- A record's words. -/
def Verdict.words (r : Verdict) : List Word :=
  [wordOf [(32, 32, r.step), (30, 2, r.verdict), (26, 4, r.reason)], r.g, r.mean, r.e, r.a, BitVec.ofNat 64 r.skips, spokeWord r.spoke]

/-- A record from its words. -/
def Verdict.ofWords (ws : List Word) : Verdict :=
  ⟨bits (wget ws 0) 32 32, bits (wget ws 0) 30 2, bits (wget ws 0) 26 4, wget ws 1, wget ws 2, wget ws 3, wget ws 4, (wget ws 5).toNat, (wget ws 6).toNat / 16⟩

/-- The verdict on a complete herd record (R283), with detector `t`, the averages `e` and `a` and `skips` consecutive skips before it. -/
def decide_ (t : Detector) (c : Contrib) (e : F64) (a : Word) (skips step v : Nat) : Verdict :=
  let g := f64Sqrt c.gn2
  let has : Bool := c.count != 0
  let mean := if has then f64Div c.loss (toF64 (fvNat c.count.toNat)) else nan64
  let wide (x : F32) : F64 := toF64 (ofF32 x)
  let act (i : Nat) : Bool := decide (t.actions / 2 ^ i % 2 = 1)
  let reason : Nat :=
    if c.nf ∧ act 0 then 1
    else if fvLt (ofF64 t.gnmax) (ofF64 g) ∧ act 1 then 2
    else if has ∧ t.warmup ≤ a.toNat ∧ a ≠ 0 ∧ fvLt (ofF64 (f64Mul (wide t.ratio) e)) (ofF64 mean) ∧ act 2 then 3
    else 0
  let applied : Bool := reason == 0
  let upd : Bool := applied && has
  let e1 := if a = 0 then mean else toF64 (fvAdd (fvMul (ofF32 t.beta) (ofF64 (f64Sub e mean))) (ofF64 mean))
  ⟨step, if applied then 1 else 2, reason, g, mean, if upd then e1 else e, if upd then a + 1 else a, if applied then 0 else min 255 (skips + 1), v⟩

/-- Whether the vote log holds a record of a step and vote spoke. -/
def State.hasVerdict (s : State) (step v : Nat) : Bool :=
  s.net.vote.log.any (fun w => (Verdict.ofWords w).step == step && (Verdict.ofWords w).spoke == v)

/-- A record stored in the vote log, which keeps the last 64 (R418). -/
def State.logVerdict (s : State) (r : Verdict) : State :=
  s.vmod (fun x => { x with log := (x.log ++ [r.words]).drop (x.log.length + 1 - 64) })

/-- The result words of a seal (R284). -/
def sealResult (r : Verdict) (defers : Nat) : Word × Word := (r.g, wordOf [(32, 32, (toF32 (ofF64 r.mean)).toNat), (4, 4, r.reason), (0, 4, min 15 defers)])

/-- The sealed VOTE_SEAL of a step completed (R284). -/
def State.completeSeal (s : State) (r : Verdict) : State :=
  let w := sealResult r (s.get Fld.COL_VOTESTEP_DEFERS)
  (s.journal.filter (fun e => e.2.target == .collective && colOp e.2.words == 1 && colKey e.2.words == r.step && e.2.sent && e.2.fin.isNone)).foldl
    (fun (s : State) e => s.finish e.1 (if r.verdict = 2 then .skippedStep else .ok) w.1 w.2) s

/-- A VOTE event with its detail word 1 (R480). -/
def State.voteEvent (s : State) (d1 : Word) : State := s.raise .vote 0 (s.reg Reg.COL_VOTESTEP) d1

/-- A skip counted by its reason. -/
def State.countSkip (s : State) (reason : Nat) : State :=
  match reason with
  | 1 => s.count Fld.COL_VOTECNT_NONFINITE 1
  | 2 => s.count Fld.COL_VOTECNT_NORM 1
  | _ => s.count Fld.COL_VOTECNT_SPIKE 1

/-- A verdict of the open step acted on (R284): delivered, and the open step advanced. -/
def State.closeVote (s : State) (r : Verdict) : State :=
  let s := s.completeSeal r
  let s := (((s.set Fld.COL_VOTESTEP_OPEN ((r.step + 1) % 2 ^ 32)).set Fld.COL_VOTESTEP_STATE 0).set Fld.COL_VOTESTEP_LAST r.verdict).set Fld.COL_VOTESTEP_DEFERS 0
  let s := (s.set Fld.COL_VOTESTEP_SKIPS r.skips).vmod (fun x => { x with sealed_ := false, launched := none, delivered := sinsert x.delivered r.step r.verdict })
  if r.verdict = 1 then s.count Fld.COL_VOTECNT_APPLY 1
  else
    let s := s.countSkip r.reason
    let d := s.detector r.step
    if d.1.skipAlert ≠ 0 ∧ r.skips = d.1.skipAlert then (d.2.count Fld.COL_VOTECNT_ALERT 1).voteEvent 2 else d.2

/-- A DEFER acted on: counted, its event raised; the step stays open and the record sealed (R283, R284). -/
def State.deferVote (s : State) : State :=
  let s := ((s.count Fld.COL_VOTECNT_DEFER 1).count Fld.COL_VOTESTEP_DEFERS 1).set Fld.COL_VOTESTEP_LAST 3
  (s.set Fld.COL_VOTESTEP_STATE (b2n s.net.vote.sealed_)).voteEvent 1

/-- A verdict record received: stored, and acted on once (R284, R418). -/
def State.actVerdict (s : State) (r : Verdict) : State :=
  if s.hasVerdict r.step r.spoke then s
  else
    let s := s.logVerdict r
    let stale : Bool := s.net.vote.opened && decide (r.step < s.openStep)
    if stale then s
    else
      let s := ((s.setReg Reg.COL_VERDICT (wget r.words 0)).setReg Reg.COL_VERDICT_8 r.g).setReg Reg.COL_VERDICT_10 r.e
      let s := s.setReg Reg.COL_VERDICT_18 r.a
      if s.net.vote.opened ∧ r.step ≠ s.openStep then s else if r.verdict = 3 then s.deferVote else s.closeVote r

/-- A level root's share of a broadcast: the roots and packages below it (R416). -/
def State.childrenOf (s : State) : List Nat :=
  let me := s.herdAddr
  let x := s.extents
  (if me = 0 then (numsFrom 1 (x.2.2 - 1)).map (fun z => herdOf 0 0 z) else []) ++
  (if herdX me = 0 ∧ herdY me = 0 then (numsFrom 1 (x.2.1 - 1)).map (fun y => herdOf 0 y (herdZ me)) else []) ++
  (if herdX me = 0 then (numsFrom 1 (x.1 - 1)).map (fun k => herdOf k (herdY me) (herdZ me)) else [])

/-- The package that a broadcast reaches this one from (R416). -/
def State.parentOf (s : State) : Option Nat :=
  let me := s.herdAddr
  if herdX me ≠ 0 then some (herdOf 0 (herdY me) (herdZ me)) else if herdY me ≠ 0 then some (herdOf 0 0 (herdZ me)) else if me ≠ 0 then some 0 else none

/-- A collective message sent down the tree. -/
def State.broadcast (s : State) (mtype : Nat) (ws : List Word) : State :=
  s.childrenOf.foldl (fun (s : State) a => s.sendMsg { (Msg.blank a 0 mtype) with extra := ws } 0) s

/-- Rounds whose vote spoke has come dropped from the reductions of a level root (R417). -/
def State.endRound (s : State) (v : Nat) : State := s.nmod (fun n => { n with reductions := n.reductions.filter (fun p => !(p.vote && decide (p.spoke ≤ v))) })

/-- The record of a DEFER: the manual gives it no G and no mean, which are free values (log entry 6). -/
def State.deferRecord (s : State) (e : F64) (a : Word) (skips v : Nat) : Verdict × State :=
  let f1 := s.freshWord
  let f2 := f1.2.freshWord
  (⟨s.openStep, 3, 0, f1.1, f2.1, e, a, skips, v⟩, f2.2)

/-- VOTE_DECISION: at V the herd root decides the open step from what has reached it, and broadcasts the verdict (R282, R283, R441, R444). -/
def execVoteDecision (entry : Nat) (s : State) : Host.Outcome State Fault Refusal :=
  let e := s.calEntry entry
  let v := s.nowSpokes
  if e.kind ≠ 2 ∨ s.calSize ≤ entry ∨ ¬ s.calDue e ∨ s.hasFired (2 * entry) then .next s
  else
    let s := s.noteFired (2 * entry)
    if s.voteShared entry v true then .next s
    else
      let s := s.calMatch (s.voteShared entry v false)
      if ¬ s.calAllowed e then .next ((s.count Fld.WHL_CALCNT_SUPPRESSED 1).endRound v)
      else
        let s := s.count Fld.WHL_CALCNT_FIRED 1
        if s.herdAddr ≠ 0 ∨ ¬ s.live then .next (s.endRound v)
        else
          let whole := (s.partialOf true s.openStep v 2).bind (fun p => if p.inputs.length < s.levelSize 2 then none else combineVotes (p.inputs.map (fun x => x.2)))
          let ea := (s.reg Reg.COL_VERDICT_10, s.reg Reg.COL_VERDICT_18)
          let skips := s.get Fld.COL_VOTESTEP_SKIPS
          let defer : Verdict × State := s.deferRecord ea.1 ea.2 skips v
          let rs : Verdict × State := match whole with
            | none => defer
            | some c => if c.uns then defer else
              let d := s.detector s.openStep
              (decide_ d.1 c ea.1 ea.2 skips s.openStep v, d.2)
          let s := rs.2.endRound v
          .next ((s.broadcast 7 rs.1.words).actVerdict rs.1)

/-- VERDICT: a verdict record arrives; a copy from the tree goes on down it, and the record is acted on once (R284, R416). -/
def execVerdict (s : State) : Host.Outcome State Fault Refusal :=
  match s.takeMsg 7 with
  | none => .next s
  | some (m, s) =>
    let s := if s.parentOf = some m.src then s.broadcast 7 m.extra else s
    .next (s.actVerdict (Verdict.ofWords m.extra))

/-- VERDICT_REQ: a neighbour asks for a verdict and gets the newest record of that step, of that vote spoke or later (R418). -/
def execVerdictReq (s : State) : Host.Outcome State Fault Refusal :=
  match s.takeMsg 8 with
  | none => .next s
  | some (m, s) =>
    let step := (wget m.extra 0).toNat
    let v := (wget m.extra 1).toNat / 16
    match (s.net.vote.log.filter (fun w => (Verdict.ofWords w).step == step && decide (v ≤ (Verdict.ofWords w).spoke))).getLast? with
    | some w => .next (s.sendMsg { (Msg.blank m.src 0 7) with extra := w } 0)
    | none => .next s

/-- VERDICT_REQ_REPEAT: from V + 256 spokes a package that has launched and holds no verdict asks every neighbour whose port is UP (R418). -/
def execVerdictReqRepeat (s : State) : Host.Outcome State Fault Refusal :=
  match s.net.vote.launched with
  | none => .next s
  | some v =>
    if s.nowSpokes < v + 256 ∨ s.hasVerdict s.openStep v ∨ ¬ s.live then .next s
    else
      .next (((numsFrom 0 6).filter (fun p => s.lnkState p == lnkUp)).foldl
        (fun (s : State) p => s.sendMsg { (Msg.blank (s.neighbour p) 0 8) with extra := [BitVec.ofNat 64 s.openStep, spokeWord v] } 0) s)

end Sys2Proof.Machine
end

