-- ==== Sys2Proof/Machine/Collective.lean ====
section
/-! DEFINITION. Herd reductions (R416, R419, R420): REDUCE commands, contributions, results and timeouts. -/

set_option Elab.async false

namespace Sys2Proof.Machine

/-- DST of a REDUCE in bytes. -/
def redDst (ws : List Word) : Nat := 16 * bits (wget ws 5) 16 48
/-- COUNT of a REDUCE. -/
def redCount (ws : List Word) : Nat := bits (wget ws 6) 59 5
/-- ROP of a REDUCE. -/
def redRop (ws : List Word) : Nat := bits (wget ws 6) 56 3

/-- The maximum or minimum of two binary64 values: a NaN gives NaN, and −0 lies below +0 (R149, R419). -/
def f64Pick (max_ : Bool) (a b : F64) : F64 :=
  let x := ofF64 a
  let y := ofF64 b
  if x = .nan ∨ y = .nan then nan64
  else
    let below := fvLt x y || (!fvLt y x && fvNegative x && !fvNegative y)
    if below = max_ then b else a

/-- One operation of a reduction (R419). -/
def reduceOp (rop : Nat) (a b : Word) : Word :=
  match rop with
  | 0 => f64Add a b
  | 1 => f64Pick true a b
  | 2 => f64Pick false a b
  | 3 => a ||| b
  | _ => a + b

/-- The inputs of a reduction combined in ascending order. -/
def combineInputs (rop : Nat) : List (List Word) → List Word
  | [] => []
  | w :: r => r.foldl (List.zipWith (reduceOp rop)) w

/-- First word of a reduction's message: RID, COUNT, ROP and the mismatch mark (log entry 21). -/
def redWord (rid count rop : Nat) (bad : Bool) : Word := wordOf [(0, 32, rid), (32, 5, count), (40, 3, rop), (48, 1, b2n bad)]

/-- The result of a reduction recorded: the last 64 are kept (R420). -/
def State.keepResult (s : State) (rid : Nat) (bad : Bool) (ws : List Word) : State :=
  s.nmod (fun n => { n with results := (n.results ++ [(rid, bad, ws)]).drop (n.results.length + 1 - 64),
                            reductions := n.reductions.filter (fun p => p.vote || p.key != rid) })

/-- The REDUCE of a RID that has been sent and has no result yet. -/
def State.redWaiting (s : State) (rid : Nat) : Option (Nat × JEntry) :=
  s.journal.find? (fun e => e.2.target == .collective && colOp e.2.words == 2 && colKey e.2.words == rid && e.2.st == .dispatched && e.2.sent && e.2.fin.isNone)

/-- A result at this package: its REDUCE completes, the values written to DST (R420); false while the write must wait. -/
def State.redComplete (s : State) (cmd : Option (Nat × JEntry)) (rid : Nat) (bad : Bool) (ws : List Word) : Bool × State :=
  match cmd with
  | none => (true, s.keepResult rid bad ws)
  | some (j, e) =>
    if bad then (true, (s.keepResult rid bad ws).finish j .rejectedShape 0 0)
    else
      match s.writeUda j (redDst e.words) (bytesOfWords (ws.take (redCount e.words))) with
      | (.done _, s) => (true, ((s.keepResult rid bad ws).count Fld.COL_REDCNT_DONE 1).finish j .ok 0 0)
      | (.fail st, s) => (true, (s.keepResult rid bad ws).finish j st 0 0)
      | (_, s) => (false, s)

/-- A result put into this package's own inbox, to be acted on as one that arrives. -/
def State.ownResult (s : State) (ws : List Word) : State := s.arrive { (Msg.blank s.herdAddr s.herdAddr 10) with extra := ws }

/-- A mismatch found at a level root: every package is told (R420). -/
def State.redMismatch (s : State) (rid count rop : Nat) (except_ : Option Nat) : State :=
  let w := [redWord rid count rop true]
  let targets := (s.childrenOf ++ s.parentOf.toList).filter (fun a => some a != except_)
  targets.foldl (fun (s : State) a => s.sendMsg { (Msg.blank a 0 10) with extra := w } 0) s

/-- One input of a REDUCE at a level root here (R416, R420); `fuel` levels at most. -/
def State.redInput (s : State) (rid count rop : Nat) : Nat → Nat → Nat → List Word → State
  | 0, _, _, _ => s
  | fuel + 1, level, place, ws =>
    let p := (s.partialOf false rid 0 level).getD ⟨rid, false, level, 0, count, rop, false, []⟩
    if (sfind p.inputs place).isSome then s.count Fld.COL_REDCNT_DUP 1
    else if p.mismatch then s.putPartial { p with inputs := sinsert p.inputs place ws }
    else if p.count ≠ count ∨ p.rop ≠ rop then
      ((s.putPartial { p with mismatch := true, inputs := sinsert p.inputs place ws }).redMismatch rid count rop none).ownResult [redWord rid count rop true]
    else
      let p := { p with inputs := sinsert p.inputs place ws }
      let s := s.putPartial p
      if p.inputs.length < s.levelSize level then s
      else
        let t := combineInputs rop (p.inputs.map (fun x => x.2))
        if level = 2 then (s.broadcast 10 (redWord rid count rop false :: t)).ownResult (redWord rid count rop false :: t)
        else
          let up := levelRoot s.herdAddr (level + 1)
          if up = s.herdAddr then s.redInput rid count rop fuel (level + 1) (levelPlace s.herdAddr (level + 1)) t
          else s.sendMsg { (Msg.blank up 0 9) with extra := redWord rid count rop false :: t } 0

/-- COLLECTIVE_REDUCE: reads SRC and sends one contribution; a replayed REDUCE whose result is held completes from it (R419, R420). -/
def execCollectiveReduce (jseq : Nat) (s : State) : Host.Outcome State Fault Refusal :=
  match s.colDispatch jseq 2 with
  | (s, none) => .next s
  | (s, some e) =>
    let rid := colKey e.words
    let n := redCount e.words
    let up := levelRoot s.herdAddr 0
    if e.sent then .next s
    else
      match (if 1 < e.disp then s.net.results.find? (fun r => r.1 == rid) else none) with
      | some (_, bad, ws) =>
        .next (s.redComplete (some (jseq, e)) rid bad ws).2
      | none =>
        if (s.nextHop up).any (fun p => s.portLost p jseq) then .next (s.finish jseq .linkLost 0 0)
        else
          match s.readUda jseq (colSrc e.words) (8 * n) with
          | (.fail st, s) => .next (s.finish jseq st 0 0)
          | (.done bs, s) =>
            let ws := wordsOfBytes n bs
            let s := s.jmod jseq (fun e => { e with sent := true })
            if up = s.herdAddr then .next (s.redInput rid n (redRop e.words) 3 0 (levelPlace s.herdAddr 0) ws)
            else .next (s.sendMsg { (Msg.blank up 0 9) with extra := redWord rid n (redRop e.words) false :: ws } jseq)
          | (_, s) => .next s

/-- RCONTRIB: a contribution arrives at a level root and is combined (R420). -/
def execRcontrib (s : State) : Host.Outcome State Fault Refusal :=
  match s.takeMsg 9 with
  | none => .next s
  | some (m, s) =>
    let w := wget m.extra 0
    match s.levelOf m.src with
    | none => .next s
    | some level => .next (s.redInput (bits w 0 32) (bits w 32 5) (bits w 40 3) 3 level (levelPlace m.src level) (m.extra.drop 1))

/-- RRESULT: a result arrives, is written to DST, and goes on down the tree (R416, R420). -/
def execRresult (s : State) : Host.Outcome State Fault Refusal :=
  match s.net.inbox.find? (fun m => m.mtype == 10) with
  | none => .next s
  | some m =>
    let w := wget m.extra 0
    let rid := bits w 0 32
    let bad := bit w 48
    let known := s.net.results.any (fun r => r.1 == rid && r.2.1)
    match s.redComplete (s.redWaiting rid) rid bad (m.extra.drop 1) with
    | (false, s) => .next s
    | (true, s) =>
      let s := s.dropMsg m
      if m.src = s.herdAddr then .next s
      else if s.parentOf = some m.src then .next (s.broadcast 10 m.extra)
      else if bad ∧ ¬ known then .next (s.redMismatch rid (bits w 32 5) (bits w 40 3) (some m.src))
      else .next s

/-- REDUCE_TIMEOUT: no result has come within COL_REDCFG.TMO_US; the REDUCE completes TIMEOUT, and this package's level roots drop what they hold of it (R420). -/
def execReduceTimeout (jseq : Nat) (s : State) : Host.Outcome State Fault Refusal :=
  match s.cmd jseq with
  | none => .next s
  | some e =>
    if e.target ≠ .collective ∨ colOp e.words ≠ 2 ∨ e.st ≠ .dispatched ∨ ¬ e.sent ∨ e.fin.isSome then .next s
    else
      let s := s.nmod (fun n => { n with reductions := n.reductions.filter (fun p => p.vote || p.key != colKey e.words) })
      .next ((s.count Fld.COL_REDCNT_TIMEOUT 1).finish jseq .timeout 0 0)

end Sys2Proof.Machine
end

