-- ==== Sys2Proof/Machine/Enter.lean ====
section
/-! DEFINITION. Entry of commands into the journal (R464, R508): JSEQ, the entry's first contents, and room. -/

set_option Elab.async false

namespace Sys2Proof.Machine

/-- A journal entry just made. -/
def JEntry.fresh (ring idx : Nat) (target : Target) (tile : Nat) (words : List Word) : JEntry where
  ring := ring
  idx := idx
  sub := 0
  irq := false
  user := 0
  task := 0
  target := target
  tile := tile
  words := words
  parent := 0
  st := .accepted
  disp := 0
  empty := false
  refusal := none
  mute := false
  fin := none
  status := 0
  settled := false
  reported := false
  res0 := 0
  res1 := 0
  unit := .none
  rows := none
  blocks := []
  segs := 0
  header := []
  resv := []
  cancelled := false
  sent := false
  payload := []

/-- Whether the journal is full (R464). -/
def State.journalFull (s : State) : Bool := decide (65536 ≤ s.journal.length)

/-- Whether a tile work ring has a free entry of its 64 (R453, R462). -/
def State.ringRoom (s : State) (r : Nat) : Bool := decide ((s.ringQueue r).length < 64)

/-- The JSEQ the next command receives. -/
def State.nextJseq (s : State) : Nat := s.get Fld.JRN_NEXT_JSEQ

/-- A command journalled: it takes the next JSEQ (R464), and an internal ring counts it (RING_IDX). -/
def State.enter (s : State) (e : JEntry) : State :=
  let j := s.nextJseq
  let s := ({ s with journal := sinsert s.journal j e }).wrap Fld.JRN_NEXT_JSEQ 1
  match e.target with
  | .tileRing r => s.wrap (Fld.RING_IDX_IDX r) 1
  | _ => s

end Sys2Proof.Machine
end

