-- ==== Sys2Proof/Machine/RoutePlan.lean ====
section
/-! DEFINITION. The route plans section (R268, R269) and the instances that a Drover builds from its templates (R255, R256). -/

set_option Elab.async false

namespace Sys2Proof.Machine

/-- A route plan record (R268). Table offsets are in bytes from the section's first byte; row sizes are in bytes. -/
structure RoutePlan where
  cluster : Nat
  lslot : Nat
  e : Nat
  k : Nat
  gatefn : Nat
  gnorm : Bool
  packmax : Nat
  mmax : Nat
  inBytes : Nat
  outBytes : Nat
  outFmt : Nat
  gatec : F32
  passRow : Nat
  bmin : F32
  bmax : F32
  place : Nat
  ctl : Nat
  ctln : Nat
  fwd : Nat
  fwdN : Nat
  bwd : Nat
  bwdN : Nat
  visit : Nat
  deriving DecidableEq, Repr

/-- COUNT of a route plans section. -/
def planCount (bs : List Byte) : Nat := bits (wordAt bs 0) 0 7

/-- Plan `n` of a route plans section (R268). -/
def routePlan (bs : List Byte) (n : Nat) : RoutePlan :=
  let w (i : Nat) : Word := wordAt bs (64 + 64 * n + 8 * i)
  { cluster := bits (w 0) 62 2
    lslot := bits (w 0) 56 6
    e := bits (w 0) 45 11
    k := bits (w 0) 40 5
    gatefn := bits (w 0) 38 2
    gnorm := bit (w 0) 37
    packmax := bits (w 0) 26 11
    mmax := bits (w 1) 49 15
    inBytes := 16 * bits (w 1) 33 16
    outBytes := 16 * bits (w 1) 17 16
    outFmt := bits (w 1) 13 4
    gatec := BitVec.ofNat 32 (bits (w 2) 32 32)
    passRow := 16 * bits (w 2) 12 20
    bmin := BitVec.ofNat 32 (bits (w 3) 32 32)
    bmax := BitVec.ofNat 32 (bits (w 3) 0 32)
    place := 16 * bits (w 4) 40 24
    ctl := 16 * bits (w 4) 16 24
    ctln := bits (w 4) 11 5
    fwd := 16 * bits (w 5) 40 24
    fwdN := bits (w 5) 35 5
    bwd := 16 * bits (w 6) 40 24
    bwdN := bits (w 6) 35 5
    visit := 16 * bits (w 7) 16 48 }

/-- The plans of a section in order. -/
def routePlans (bs : List Byte) : List RoutePlan := (numsFrom 0 (planCount bs)).map (routePlan bs)

/-- A placement entry (R268). -/
structure Placement where
  tile : Nat
  prec0 : Nat
  wrec0 : Nat
  prec1 : Nat
  wrec1 : Nat
  fillmark : Nat
  bpool : Nat
  ring : Nat
  wbase : Nat
  gbase : Nat
  deriving DecidableEq, Repr

/-- The placement of expert `e` under a plan. -/
def placement (bs : List Byte) (p : RoutePlan) (e : Nat) : Placement :=
  let w (i : Nat) : Word := wordAt bs (p.place + 32 * e + 8 * i)
  ⟨bits (w 0) 58 6, bits (w 0) 50 8, bits (w 0) 42 8, bits (w 0) 34 8, bits (w 0) 26 8, bits (w 0) 20 6, bits (w 0) 15 5, bits (w 0) 1 14, bits (w 1) 16 48, bits (w 2) 16 48⟩

/-- Buffer sets of a home tile (R254). -/
def Placement.sets (p : Placement) : Nat := if p.prec1 = 0xFF then 1 else 2

/-- The pass record of a buffer set. -/
def Placement.prec (p : Placement) (b : Nat) : Nat := if b = 0 then p.prec0 else p.prec1

/-- The weight record of a buffer set. -/
def Placement.wrec (p : Placement) (b : Nat) : Nat := if b = 0 then p.wrec0 else p.wrec1

/-- A controller entry (R267, R268). -/
structure CtlEntry where
  lo : F32
  hi : F32
  c0 : F32
  c1 : F32
  deriving DecidableEq, Repr

/-- Controller entry `i` of a plan. -/
def ctlEntry (bs : List Byte) (p : RoutePlan) (i : Nat) : CtlEntry :=
  let w (k : Nat) : Word := wordAt bs (p.ctl + 16 * i + 8 * k)
  ⟨BitVec.ofNat 32 (bits (w 0) 32 32), BitVec.ofNat 32 (bits (w 0) 0 32), BitVec.ofNat 32 (bits (w 1) 32 32), BitVec.ofNat 32 (bits (w 1) 0 32)⟩

/-- A template step: its two control words and its command image (R255). -/
structure TplStep where
  ctrl : Word
  ctrl1 : Word
  image : List Word
  deriving DecidableEq, Repr

/-- Step `i` of a template that begins at byte `off`. -/
def tplStep (bs : List Byte) (off i : Nat) : TplStep :=
  let o := off + 144 * i
  ⟨wordAt bs o, wordAt bs (o + 8), (numsFrom 0 16).map (fun k => wordAt bs (o + 16 + 8 * k))⟩

/-- The template of a direction: forward unless the job is backward. -/
def RoutePlan.template (p : RoutePlan) (bs : List Byte) (backward : Bool) : List TplStep :=
  if backward then (numsFrom 0 p.bwdN).map (tplStep bs p.bwd) else (numsFrom 0 p.fwdN).map (tplStep bs p.fwd)

/-! Instances (R255). -/

/-- Where an instance stands: the start of its buffer and of its weight record in bytes, the weight record's number, the capacity, the segment's expert placement, its first row, its rows, and the pass, step and segment numbers. -/
structure Inst where
  start : Nat
  wstart : Nat
  wrec : Nat
  cap : Nat
  pl : Placement
  first : Nat
  rows : Nat
  pass : Nat
  step : Nat
  seg : Nat
  deriving DecidableEq, Repr

/-- The increase of an operand's BASE (R255). -/
def Inst.shift (x : Inst) (ctrl : Word) (n : Nat) (o : OpRef) : Nat :=
  (if bit ctrl (58 + n) then x.start / 16 + (if o.form = 2 then x.first / 4 else x.first * o.stride) else 0) +
  (if bit ctrl (52 + n) then x.wstart / 16 else 0) +
  (if bit ctrl (46 + n) then x.start / 16 + (if o.base < x.cap / 2 then x.first / 2 else x.first / 4) else 0)

/-- One word of a command replaced. -/
def setWord (ws : List Word) (i : Nat) (w : Word) : List Word := setAt ws i w

/-- The words of an instance (R255, R256); `tid` is the job's TID. -/
def Inst.words (x : Inst) (st : TplStep) (tid : Word) : List Word :=
  let ws := st.image
  let ws := if bit st.ctrl 45 ∧ x.seg ≠ 0 then setWord ws 2 (putBits (wget ws 2) 0 16 0) else ws
  if tKind ws = 2 then
    let ws := (numsFrom 0 6).foldl (fun (a : List Word) n =>
      setWord a (6 + n) (putBits (wget a (6 + n)) 44 20 (((opN a n).base + x.shift st.ctrl n (opN a n)) % 2 ^ 20))) ws
    let ws := if bit st.ctrl 42 then setWord ws 4 (putBits (wget ws 4) 40 24 x.rows) else ws
    let ws := setWord ws 0 (putBits (wget ws 0) 40 1 1)
    let ws := setWord ws 14 (putBits (wget ws 14) 44 20 ((x.start / 16 + x.first / 2) % 2 ^ 20))
    let ws := setWord ws 1 (tid + wget ws 1)
    let ws := setWord ws 4 (putBits (wget ws 4) 4 12 x.pass)
    let ws := setWord ws 4 (putBits (wget ws 4) 0 4 x.step)
    setWord ws 5 (putBits (wget ws 5) 17 3 x.seg)
  else
    let ws := if bit st.ctrl 44 then
        let ws := setWord ws 13 (putBits (wget ws 13) 0 48 ((bits (wget ws 13) 0 48 + x.pl.wbase) % 2 ^ 48))
        let ws := setWord ws 14 (putBits (wget ws 14) 44 20 ((bits (wget ws 14) 44 20 + x.wstart / 16) % 2 ^ 20))
        setWord ws 7 (putBits (wget ws 7) 48 16 (0x8000 + x.wrec))
      else ws
    let ws := if bit st.ctrl 43 then setWord ws 13 (putBits (wget ws 13) 0 48 ((bits (wget ws 13) 0 48 + x.pl.gbase) % 2 ^ 48)) else ws
    if bit st.ctrl 42 then setWord ws 10 (putBits (wget ws 10) 14 25 x.rows) else ws

/-- The acceptance checks of an EXPERT_PASS of logical tile `t` (R256). -/
def State.expertCheck (s : State) (t : Nat) (ws : List Word) : Check :=
  let plain := setWord (setWord ws 4 (putBits (wget ws 4) 0 16 0)) 5 (putBits (wget ws 5) 17 3 0)
  Check.all [shapeIf (decide (0x0F < tOp ws)), shapeIf (tMindir ws), s.computeCheck t plain (tOp ws == 0)]

/-- The acceptance checks of an instance. -/
def State.instCheck (s : State) (t : Nat) (ws : List Word) : Check := if tKind ws = 2 then s.expertCheck t ws else s.streamCheck t ws

/-! The loader's checks (R269, R600). -/

/-- Layout length of a route plans section (R600): the end of the last of its parts. -/
def planLength (bs : List Byte) : Nat :=
  (routePlans bs).foldl (fun m p =>
    max (max (max m (p.place + 32 * p.e)) (if p.ctln = 0 then 0 else p.ctl + 16 * p.ctln))
      (max (p.fwd + 144 * p.fwdN) (if p.bwdN = 0 then 0 else p.bwd + 144 * p.bwdN))) (64 + 64 * planCount bs)

/-- Whether COUNT is in its range (R268, R600). -/
def planCountOk (bs : List Byte) : Bool := decide (1 ≤ planCount bs) && decide (planCount bs ≤ 64)

/-- Reserved bits of a route plans section outside its templates (phase 8). -/
def planReserved (bs : List Byte) : List SecFault :=
  reservedIn bs 0 0 0x7F ++ zeroFrom bs .reservedNonzero 8 56 0 ++
  ((numsFrom 0 (planCount bs)).map (fun n =>
    let o := 64 + 64 * n
    let p := routePlan bs n
    reservedIn bs o n (mask64 26 38) ++ reservedIn bs (o + 8) n (mask64 13 51) ++ reservedIn bs (o + 16) n (mask64 12 52) ++
    reservedIn bs (o + 32) n (mask64 11 53) ++ reservedIn bs (o + 40) n (mask64 35 29) ++ reservedIn bs (o + 48) n (mask64 35 29) ++
    reservedIn bs (o + 56) n (mask64 16 48) ++
    ((numsFrom 0 p.e).map (fun e =>
      let q := p.place + 32 * e
      reservedIn bs q n (mask64 1 63) ++ reservedIn bs (q + 8) n (mask64 16 48) ++ reservedIn bs (q + 16) n (mask64 16 48) ++ reservedIn bs (q + 24) n 0)).flatten)).flatten

/-- Whether a STREAM image is one that a template may hold: LOAD, STORE or ACCUM with FAR_KIND 0x1 (R269). -/
def tplStreamOk (ws : List Word) : Bool := decide (1 ≤ tOp ws) && decide (tOp ws ≤ 3) && sFar ws == 1

/-- Faults of one template step by itself (R269). -/
def tplFaults (bs : List Byte) (n off i : Nat) : List SecFault :=
  let st := tplStep bs off i
  let o := off + 144 * i
  let k := tKind st.image
  faultIf (st.ctrl &&& ~~~(mask64 42 22) != 0) .routePlan o n ++
  faultIf (st.ctrl1 != 0) .routePlan (o + 8) n ++
  faultIf (k != 2 && k != 4) .routePlan (o + 16 + 7) n ++
  faultIf (k == 2 && tMindir st.image) .routePlan (o + 16 + 5) n ++
  faultIf (k == 4 && !tplStreamOk st.image) .routePlan (o + 16 + 6) n

/-- Phase 9 of the route plans (R269): the rules that look at the section alone. -/
def planFaults (bs : List Byte) : List SecFault :=
  ((numsFrom 0 (planCount bs)).map (fun n =>
    let p := routePlan bs n
    let o := 64 + 64 * n
    faultIf (decide (p.e = 0 ∨ 1024 < p.e)) .routePlan (o + 5) n ++
    faultIf (decide (p.k = 0 ∨ 16 < p.k ∨ p.e < p.k)) .routePlan (o + 5) n ++
    faultIf ((routePlans bs).take n |>.any (fun q => q.cluster == p.cluster && q.lslot == p.lslot)) .routePlan (o + 7) n ++
    faultIf (decide (p.mmax = 0 ∨ 16384 < p.mmax)) .routePlan (o + 14) n ++
    faultIf (decide (1 < p.outFmt)) .routePlan (o + 9) n ++
    faultIf (!positiveFinite p.gatec) .routePlan (o + 20) n ++
    faultIf (!fvFinite (ofF32 p.bmin) || !fvFinite (ofF32 p.bmax) || !fvLe (ofF32 p.bmin) (ofF32 p.bmax)) .routePlan (o + 24) n ++
    faultIf (decide (16 < p.ctln)) .routePlan (o + 33) n ++
    faultIf (decide (p.fwdN = 0 ∨ 16 < p.fwdN)) .routePlan (o + 44) n ++
    faultIf (decide (16 < p.bwdN)) .routePlan (o + 52) n ++
    ((numsFrom 0 (min 16 p.ctln)).map (fun i =>
      let c := ctlEntry bs p i
      let q := p.ctl + 16 * i
      faultIf (!fvLt (ofF32 c.lo) (ofF32 c.hi)) .routePlan q n ++ faultIf (!fvFinite (ofF32 c.c0) || !fvFinite (ofF32 c.c1)) .routePlan (q + 8) n)).flatten ++
    ((numsFrom 0 p.fwdN).map (tplFaults bs n p.fwd)).flatten ++ ((numsFrom 0 p.bwdN).map (tplFaults bs n p.bwd)).flatten ++
    ((numsFrom 0 p.e).map (fun i =>
      let a := placement bs p i
      faultIf ((numsFrom 0 i).any (fun j => let b := placement bs p j; b.tile == a.tile && { b with wbase := 0, gbase := 0 } != { a with wbase := 0, gbase := 0 })) .routePlan (p.place + 32 * i) n ++
      faultIf (a.prec1 == 0xFF && a.wrec1 != 0) .routePlan (p.place + 32 * i + 3) n)).flatten ++
    faultIf (!inDram (p.visit : Int) ((p.visit + 16 * ceilDiv p.e 128 + 8 * p.e : Nat) - 1 : Int)) .routePlan (o + 56) n)).flatten

/-- Capacity of a pass record under the sections of `c` (R222). -/
def State.capOf (c : State) (tile rec_ : Nat) : Nat := ((c.record tile rec_).map (·.cap)).getD 0

/-- Whether a record is a pass buffer of plan `n` (R269). -/
def State.passRecord (c : State) (tile rec_ n : Nat) : Bool :=
  match c.record tile rec_ with
  | some r => r.expert && r.plan == n
  | none => false

/-- The instance of a template step for a segment at row `first` in buffer set `b` at capacity rows (R269). -/
def State.trialInst (c : State) (pl : Placement) (b first step : Nat) : Inst :=
  let cap := c.capOf pl.tile pl.prec0
  let at_ (r : Nat) : Nat := ((c.record pl.tile r).map (fun x => 1024 * x.off)).getD 0
  ⟨at_ (pl.prec b), at_ (pl.wrec b), pl.wrec b, cap, pl, first, cap - first, 0, step, 0⟩

/-- Whether an operand's ranges lie in [lo, hi). -/
def rangesIn (l : List (Nat × Nat)) (lo hi : Nat) : Bool := l.all (fun r => r.2 == 0 || (decide (lo ≤ r.1) && decide (r.1 + r.2 ≤ hi)))

/-- Whether a trial instance's relocated operands stay in their records (R269). -/
def State.trialFits (c : State) (p : RoutePlan) (x : Inst) (st : TplStep) (ws : List Word) : Bool :=
  let wlen := ((c.record x.pl.tile x.wrec).map (fun r => 1024 * r.len)).getD 0
  if tKind ws = 2 then
    let op := if tOp ws = 0 then 0x0F else tOp ws
    let rs := roles ws op (tMmax ws)
    (numsFrom 0 6).all (fun n =>
      let l := (opN ws n).ranges (c.fmt (opN ws n).row) (rs.getD n .unused)
      (!(bit st.ctrl (58 + n) || bit st.ctrl (46 + n)) || rangesIn l x.start (x.start + x.cap * p.passRow)) &&
      (!bit st.ctrl (52 + n) || rangesIn l x.wstart (x.wstart + wlen)))
  else !bit st.ctrl 44 || rangesIn (sLocalRanges ws) x.wstart (x.wstart + wlen)

/-- Whether a template step is sound for one placement, in each buffer set, at row 0 and at row C − 4 (R256, R269). -/
def State.stepSound (c : State) (p : RoutePlan) (pl : Placement) (i : Nat) (st : TplStep) : Bool :=
  let cap := c.capOf pl.tile pl.prec0
  (numsFrom 0 pl.sets).all (fun b => [0, cap - 4].all (fun first =>
    let x := c.trialInst pl b first i
    let ws := x.words st 0
    c.trialFits p x st ws && (match (c.instCheck pl.tile ws).verdict with
      | none => true
      | some .empty => true
      | some _ => false)))

/-- Phase 10 of the route plans: the rules that look at other sections (R269). `c` holds the sections and the tile map in force after the load. -/
def State.planCross (c : State) (bs : List Byte) : List SecFault :=
  let rings := ringRanges (c.section_ 9)
  ((numsFrom 0 (planCount bs)).map (fun n =>
    let p := routePlan bs n
    let pls := (numsFrom 0 p.e).map (placement bs p)
    let caps := pls.map (fun a => c.capOf a.tile a.prec0)
    let minCap := caps.foldl min (caps.headD 0)
    (pls.zipIdx.map (fun a =>
      let q := p.place + 32 * a.2
      let pl := a.1
      let cap := c.capOf pl.tile pl.prec0
      faultIf (!c.mapped pl.tile || pl.tile / 16 != p.cluster || c.yokeLead pl.tile != pl.tile) .routePlan (q + 7) n ++
      faultIf (!c.passRecord pl.tile pl.prec0 n || (pl.prec1 != 0xFF && (!c.passRecord pl.tile pl.prec1 n || c.capOf pl.tile pl.prec1 != cap))) .routePlan (q + 6) n ++
      faultIf (decide (cap % 4 ≠ 0 ∨ cap = 0)) .routePlan (q + 6) n ++
      faultIf (match ringRole rings pl.ring with
        | some r => !(r.role == 4 && r.bind == pl.tile)
        | none => true) .routePlan q n)).flatten ++
    faultIf (decide (4096 < ceilDiv (p.mmax * p.k) (max 1 minCap) + p.e)) .routePlan (64 + 64 * n) n ++
    ([(p.fwd, p.fwdN), (p.bwd, p.bwdN)].map (fun t =>
      ((numsFrom 0 t.2).map (fun i => faultIf (!pls.all (fun pl => c.stepSound p pl i (tplStep bs t.1 i))) .routePlan (t.1 + 144 * i) n)).flatten)).flatten)).flatten

/-! The plans in force. -/

/-- Plan `n` of the active image, if it is defined. -/
def State.plan (s : State) (n : Nat) : Option RoutePlan :=
  let bs := s.section_ 6
  if s.hasSection 6 ∧ n < planCount bs then some (routePlan bs n) else none

/-- The plan of a cluster's layer slot (R269: at most one), by number. -/
def State.slotPlan (s : State) (cluster slot : Nat) : Option (Nat × RoutePlan) :=
  if s.hasSection 6 then
    ((routePlans (s.section_ 6)).zipIdx.find? (fun p => p.1.cluster == cluster && p.1.lslot == slot)).map (fun p => (p.2, p.1))
  else none

end Sys2Proof.Machine
end

