-- ==== Sys2Proof/Machine/RowEng.lean ====
section
/-! DEFINITION. Row engines (file 14): the row command's checks (R355) and its steps (R356 to R360). -/

set_option Elab.async false

namespace Sys2Proof.Machine

/-- Bytes of a wide row (R348). -/
def wideRow : Nat := 0x20000

/-- OP of a row command (R353). -/
def rowOp (ws : List Word) : Nat := bits (wget ws 0) 56 8
/-- CHECK of a row command. -/
def rowCheckBit (ws : List Word) : Bool := bit (wget ws 0) 55
/-- NROWS of a row command. -/
def rowCount (ws : List Word) : Nat := bits (wget ws 0) 0 10
/-- The UDA of the operand field in word `i` of a command: UDA[51:4] in [63:16]. -/
def udaField (ws : List Word) (i : Nat) : Nat := 16 * bits (wget ws i) 16 48
/-- The UDA of DST. -/
def rowDst (ws : List Word) : Nat := udaField ws 4
/-- Number of sources an operation uses (R354). -/
def rowSources (op : Nat) : Nat :=
  match op with
  | 3 => 1
  | 4 => 1
  | 5 => 2
  | 6 => 2
  | 7 => 2
  | 8 => 2
  | 9 => 3
  | _ => 0
/-- The UDAs of the sources used. -/
def rowSrcs (ws : List Word) : List Nat := (numsFrom 5 (rowSources (rowOp ws))).map (udaField ws)

/-- The accepted class at a byte of DRAM set B: 0 outside every region (R355). -/
def State.acceptedClass (s : State) (a : Nat) : Nat :=
  match s.rowRegionAt a with
  | some (_, r) => r.acls
  | none => 0

/-- The address fault of one row operand of `n` wide rows (R39, R350): its range, and the class of its region. -/
def State.rowRange (s : State) (field a n : Nat) : Option AddrFault :=
  match s.checkRange .row field a ((a + n * wideRow : Nat) - 1) with
  | some f => some f
  | none =>
    ((numsFrom 0 n).find? (fun i => s.acceptedClass (a + i * wideRow) != 1)).map (fun i => ⟨field, 4, a + i * wideRow⟩)

/-- Whether the row engines capability entry has ENABLED at 1 (R54, R359): a Harness is loaded and a stack has its row engines. -/
def State.rowEnabled (s : State) : Bool := s.image.isSome && (numsFrom 8 4).any (fun u => !s.isRetired 5 u)

/-- Reserved and unused fields of a row command (R353, R354). -/
def rowFieldsBad (ws : List Word) : Bool :=
  let op := rowOp ws
  (wget ws 0 &&& 0x0040_00FF_FFFF_FC00) != 0 || wget ws 1 != 0 || bits (wget ws 3) 32 32 != 0 ||
  (numsFrom 4 4).any (fun i => bits (wget ws i) 0 16 != 0) || (numsFrom 8 8).any (fun i => wget ws i != 0) ||
  (numsFrom (5 + rowSources op) (3 - rowSources op)).any (fun i => wget ws i != 0)

/-- Tiles named by slots in use, and the slots' own rules (R177, R185, R355): the refusal, and whether it lies in the signal slots. -/
def State.slotRules (s : State) (src dst : Nat) (waits sigs : Word) : Bool × Bool :=
  let sigBad := sigsBad sigs || (!(usedSlots (sigSlots sigs)).isEmpty && !s.mapped dst)
  (sigBad || waitsBad waits || (!(usedSlots (waitSlots waits)).isEmpty && !s.mapped src), sigBad)

/-- The acceptance checks of a row command (R355), and whether the refusal lies in its signal slots. -/
def State.rowCheck (s : State) (ws : List Word) : Check × Bool :=
  let op := rowOp ws
  let n := rowCount ws
  let ec := bits (wget ws 0) 52 2
  let src := bits (wget ws 0) 46 6
  let dst := bits (wget ws 0) 40 6
  let sl := s.slotRules src dst (wget ws 2) (wget ws 3)
  let d := rowDst ws
  let srcs := rowSrcs ws
  let step := decide (1 ≤ op) && decide (op ≤ 9)
  let inGroup (a : Nat) : Bool := decide ((a - dramBBase) / 0x4000000 = (a + n * wideRow - 1 - dramBBase) / 0x4000000)
  let ranged := step && decide (0 < n)
  let ov := srcs.any (fun a => overlaps a (n * wideRow) d (n * wideRow))
  let base := Check.all [
    shapeIf (rowFieldsBad ws || sl.1 || decide (512 < n)),
    shapeIf (!s.mapped src || !s.mapped dst),
    shapeIf (!s.rowEnabled),
    shapeIf (decide (op = 0) || decide (0x0B < op)),
    shapeIf (step && (d :: srcs).any (fun a => decide (a % wideRow ≠ 0))),
    shapeIf (ranged && (d :: srcs).any (fun a => !inGroup a)),
    shapeIf (ranged && srcs.any (fun a => decide ((a - dramBBase) / 0x4000000 ≠ (d - dramBBase) / 0x4000000))),
    shapeIf (ranged && srcs.any (fun a => overlaps a (n * wideRow) d (n * wideRow) && decide (a ≠ d))),
    shapeIf (decide (ec ≠ (if ranged && ov then 1 else 0))),
    zeroIf (step && decide (n = 0))]
  let isSeal := op == 10 || op == 11
  let sealC := shapeIf (isSeal && (decide (n ≠ 0) || rowCheckBit ws || !s.tier.rowRegions.any (fun r => decide (d = dramBBase + r.base * 0x4000000))))
  let addrs : Check := if ranged then
      { Check.good with addr := ((s.rowRange 0x20 d n).toList ++ (srcs.zipIdx.map (fun p => (s.rowRange (0x28 + 8 * p.2) p.1 n).toList)).flatten) }
    else Check.good
  ((base.and sealC).and addrs, sl.2)

/-- The region a row command names, by index. -/
def State.rowRegionOf (s : State) (ws : List Word) : Option Nat := (s.rowRegionAt (rowDst ws)).map (·.1)

/-- The accepted class set at the acceptance of a SEAL or an UNSEAL (R355). -/
def State.acceptSeal (s : State) (ws : List Word) : State :=
  match s.rowRegionOf ws with
  | none => s
  | some i =>
    if rowOp ws = 10 then s.tmod (fun t => { t with rowRegions := setAt t.rowRegions i { (t.rowRegions.getD i ⟨0, 0, 0, 0⟩) with acls := 2 } })
    else if rowOp ws = 11 then s.tmod (fun t => { t with rowRegions := setAt t.rowRegions i { (t.rowRegions.getD i ⟨0, 0, 0, 0⟩) with acls := 1 } })
    else s

/-- Bank of a row command's group (R357). -/
def rowBank (ws : List Word) : Nat := (rowDst ws - dramBBase) / 0x4000000 % 16

/-- Row commands accepted and not ended, with JSEQ. -/
def State.rowCmds (s : State) : List (Nat × JEntry) := s.journal.filter (fun e => e.2.target == .rowEngines && e.2.fin.isNone && e.2.refusal.isNone)

/-- Whether an earlier row command keeps `j` from being dispatched (R357, R358). -/
def State.rowBehind (s : State) (j : Nat) (e : JEntry) : Bool :=
  let mySeal := rowOp e.words == 10 || rowOp e.words == 11
  s.rowCmds.any (fun f => decide (f.1 < j) &&
    ((rowBank f.2.words == rowBank e.words && !mySeal && !(rowOp f.2.words == 10 || rowOp f.2.words == 11)) ||
     ((mySeal || rowOp f.2.words == 10 || rowOp f.2.words == 11) && s.rowRegionOf f.2.words == s.rowRegionOf e.words)))

/-- Whether a stack's row engines hold new steps (DRM_RECTL.HOLD of any of S16 to S19). -/
def State.rowHeld (s : State) : Bool := (numsFrom 16 4).any (fun k => s.flag (Fld.DRM_RECTL_HOLD k))

/-- Whether a pseudo-channel of S16 to S19 is lost (R359). -/
def State.rowLost (s : State) : Bool := s.tier.pchs.any (fun p => decide (512 ≤ p.1) && p.2 == .lost)

/-- A row command dispatched if it may be; none when it may not, or when it has ended instead (R180, R357, R358). -/
def State.rowDispatch (s : State) (j op : Nat) : State × Option JEntry :=
  match s.cmd j with
  | none => (s, none)
  | some e =>
    if e.target ≠ .rowEngines ∨ rowOp e.words ≠ op ∨ e.refusal.isSome ∨ e.fin.isSome ∨ ¬ s.live then (s, none)
    else if e.st = .dispatched then (s, some e)
    else if ¬ s.gate j e then (s, none)
    else if s.waitPoisoned e then ((s.jmod j (fun e => { e with st := .dispatched, disp := 1 })).finish j .cancelled 0 0, none)
    else if ¬ s.waitsOk e ∨ s.rowBehind j e then (s, none)
    else
      let s := (s.consumeWaits e.srcTile e.waits).jmod j (fun e => { e with st := .dispatched, disp := e.disp + 1 })
      if e.empty then (s.finish j .empty 0 0, none) else (s, some { e with st := .dispatched, disp := e.disp + 1 })

/-- Number of 1 bits of a byte. -/
def byteOnes (b : Byte) : Nat := (numsFrom 0 8).foldl (fun n i => n + b2n (b.getLsbD i)) 0

/-- Number of 1 bits of a byte string. -/
def onesOf (bs : List Byte) : Nat := bs.foldl (fun n b => n + byteOnes b) 0

/-- Bytes combined position by position: the three sources of an operation. -/
def combine3 (f : Byte → Byte → Byte → Byte) : List Byte → List Byte → List Byte → List Byte
  | a :: as, b :: bs, c :: cs => f a b c :: combine3 f as bs cs
  | _, _, _ => []

/-- The bytes of a list that lie in one of some ranges of `n` bytes. -/
def withinRanges (as : List Nat) (n : Nat) (l : List Nat) : List Nat := l.filter (fun b => as.any (fun a => decide (a ≤ b) && decide (b < a + n)))

/-- Corrected granules of the ranges read counted at their stacks, uncorrectable ones poisoned (R351). -/
def State.rowEcc (s : State) (as : List Nat) (n : Nat) (obs : RowObs) : State :=
  let s := (withinRanges as n obs.corrected).foldl (fun s a => s.count (Fld.DRM_REVFY_CORRECTED (s.stackOf a)) 1) s
  (withinRanges as n obs.uncorrectable).foldl (fun s a => s.poisonGranule (a / 32)) s

/-- Poisoned granules of a range counted as uncorrectable at their stacks (DRM_REVFY). -/
def State.countPoison (s : State) (a n : Nat) : State :=
  (s.poison.filter (fun g => decide (a / 32 ≤ g) && decide (g ≤ (a + n - 1) / 32))).foldl
    (fun s g => s.count (Fld.DRM_REVFY_UNCORRECTABLE (s.stackOf (32 * g))) 1) s

/-- The result word 1 of a row command: STEPS and re-runs (R360). -/
def rowResult (steps reruns : Nat) : Word := wordOf [(32, 32, steps), (16, 16, reruns)]

/-- One step of a row command: wide row `i` of its operands verified, combined, encoded and committed (R351, R352, R356). It waits while a chunk of an operand's pseudo-channel is still to be copied (R337); the retirement that a mismatch beyond the budget calls for is UNIT_RETIRED. -/
def State.rowStep (s : State) (j : Nat) (e : JEntry) (f : Byte → Byte → Byte → Byte) (obs : RowObs) : State :=
  let n := rowCount e.words
  let i := e.segs
  let d := rowDst e.words + i * wideRow
  let srcs := (rowSrcs e.words).map (· + i * wideRow)
  let s := s.rowEcc srcs wideRow obs
  if ¬ s.rowLost ∧ (d :: srcs).any (fun a => s.dramRange a wideRow == .waits) then s
  else if s.rowLost ∨ srcs.any (fun a => s.poisonedIn a wideRow) then
    (srcs.foldl (fun s a => s.countPoison a wideRow) s).finish j .memError e.res0 e.res1
  else
    let rd (k : Nat) : List Byte := s.rbs (srcs.getD k d) wideRow
    let out := combine3 f (rd 0) (rd 1) (rd 2)
    let s := (s.wbs d out).cleanse d wideRow
    let budget := max 1 (s.get Fld.JRN_BUDGET_ROWENG)
    let mism := if rowCheckBit e.words ∧ 16 ≤ obs.stack ∧ obs.stack < 20 then min obs.mismatches (budget + 1) else 0
    let reruns := min mism budget
    let s := (numsFrom 16 4).foldl (fun s k => s.count (Fld.DRM_RESTEPS_COUNT k) (1 + reruns)) s
    let s := if mism = 0 then s else
      let s := s.count (Fld.DRM_RECHK_MISMATCH obs.stack) mism
      if mism ≤ budget then s.count (Fld.DRM_RECHK_RECOVERED obs.stack) 1 else s
    let r0 := e.res0 + BitVec.ofNat 64 (onesOf out)
    let r1 := rowResult (i + 1) (bits e.res1 16 16 + reruns)
    let s := s.jmod j (fun e => { e with segs := i + 1, blocks := nadd e.blocks i, res0 := r0, res1 := r1 })
    if n ≤ i + 1 then s.finish j .ok r0 r1 else s

/-- A row operation's command dispatched if need be, and its next step run (R356). -/
def State.rowRun (s : State) (j op : Nat) (f : Byte → Byte → Byte → Byte) (obs : RowObs) : State :=
  match s.rowDispatch j op with
  | (s, none) => s
  | (s, some e) => if s.rowHeld then s else s.rowStep j e f obs

/-- The current class of a region set (R358). -/
def State.setRegionClass (s : State) (i c : Nat) : State :=
  s.tmod (fun t => { t with rowRegions := setAt t.rowRegions i { (t.rowRegions.getD i ⟨0, 0, 0, 0⟩) with cls := c } })

/-- SET0: clears destination wide rows (R354). -/
def execSet0 (jseq : Nat) (obs : RowObs) (s : State) : Host.Outcome State Fault Refusal := .next (s.rowRun jseq 1 (fun _ _ _ => 0) obs)
/-- SET1: sets destination wide rows to all ones (R354). -/
def execSet1 (jseq : Nat) (obs : RowObs) (s : State) : Host.Outcome State Fault Refusal := .next (s.rowRun jseq 2 (fun _ _ _ => 0xFF) obs)
/-- COPY: D = A (R354). -/
def execRowCopy (jseq : Nat) (obs : RowObs) (s : State) : Host.Outcome State Fault Refusal := .next (s.rowRun jseq 3 (fun a _ _ => a) obs)
/-- NOT: D = NOT A (R354). -/
def execRowNot (jseq : Nat) (obs : RowObs) (s : State) : Host.Outcome State Fault Refusal := .next (s.rowRun jseq 4 (fun a _ _ => ~~~a) obs)
/-- AND: D = A AND B (R354). -/
def execRowAnd (jseq : Nat) (obs : RowObs) (s : State) : Host.Outcome State Fault Refusal := .next (s.rowRun jseq 5 (fun a b _ => a &&& b) obs)
/-- OR: D = A OR B (R354). -/
def execRowOr (jseq : Nat) (obs : RowObs) (s : State) : Host.Outcome State Fault Refusal := .next (s.rowRun jseq 6 (fun a b _ => a ||| b) obs)
/-- XOR: D = A XOR B (R354). -/
def execRowXor (jseq : Nat) (obs : RowObs) (s : State) : Host.Outcome State Fault Refusal := .next (s.rowRun jseq 7 (fun a b _ => a ^^^ b) obs)
/-- ANDN: D = A AND NOT B (R354). -/
def execRowAndn (jseq : Nat) (obs : RowObs) (s : State) : Host.Outcome State Fault Refusal := .next (s.rowRun jseq 8 (fun a b _ => a &&& ~~~b) obs)
/-- MAJ: D = the majority of A, B and C (R354). -/
def execRowMaj (jseq : Nat) (obs : RowObs) (s : State) : Host.Outcome State Fault Refusal :=
  .next (s.rowRun jseq 9 (fun a b c => (a &&& b) ||| (a &&& c) ||| (b &&& c)) obs)

/-- SEAL: sweeps a region through the decoder and makes it SEALED (R358, R360). -/
def execRowSeal (jseq : Nat) (obs : RowObs) (s : State) : Host.Outcome State Fault Refusal :=
  match s.rowDispatch jseq 10 with
  | (s, none) => .next s
  | (s, some e) =>
    if s.rowHeld then .next s
    else
      match s.rowRegionAt (rowDst e.words) with
      | none => .next s
      | some (i, r) =>
        let a := dramBBase + r.base * 0x4000000
        let n := r.len * 0x4000000
        let s := (s.rowEcc [a] n obs).countPoison a n
        let bad := (s.poison.filter (fun g => decide (a / 32 ≤ g) && decide (g ≤ (a + n - 1) / 32))).length
        .next (((s.setRegionClass i 2).finish jseq .ok (BitVec.ofNat 64 bad) 0).capChange)

/-- UNSEAL: returns a region to BITMAP (R358). -/
def execRowUnseal (jseq : Nat) (s : State) : Host.Outcome State Fault Refusal :=
  match s.rowDispatch jseq 11 with
  | (s, none) => .next s
  | (s, some e) =>
    match s.rowRegionOf e.words with
    | none => .next s
    | some i => .next (((s.setRegionClass i 1).finish jseq .ok 0 0).capChange)

end Sys2Proof.Machine
end

