-- ==== Sys2Proof/Machine/Drover.lean ====
section
/-! DEFINITION. The Drover (file 10): route jobs from selection to combine, and the close of a step with its bias controller. -/

set_option Elab.async false

namespace Sys2Proof.Machine

/-! Many accesses at once. -/

/-- What several reads of the address space come to. -/
inductive Got where
  | data (l : List (List Byte))
  | bad
  | waits
  deriving DecidableEq, Repr

/-- Ranges read in order by command `j`. -/
def State.readAll (s : State) (j : Nat) : List (Nat × Nat) → List (List Byte) → Got × State
  | [], acc => (.data acc.reverse, s)
  | (a, n) :: r, acc =>
    match s.readUda j a n with
    | (.done bs, s) => s.readAll j r (bs :: acc)
    | (.fail _, s) => (.bad, s)
    | (.tier _, s) => (.waits, s)
    | (.chunk _, s) => (.waits, s)

/-- What several writes come to. -/
inductive Put where
  | done | bad | waits
  deriving DecidableEq, Repr

/-- Bytes written at several places in order by command `j`. -/
def State.writeAll (s : State) (j : Nat) : List (Nat × List Byte) → Put × State
  | [] => (.done, s)
  | (a, bs) :: r =>
    match s.writeUda j a bs with
    | (.done _, s) => s.writeAll j r
    | (.fail _, s) => (.bad, s)
    | (.tier _, s) => (.waits, s)
    | (.chunk _, s) => (.waits, s)

/-! The command (R241). -/

/-- PLAN. -/
def rjPlan (ws : List Word) : Nat := bits (wget ws 0) 56 8
/-- DIR. -/
def rjDir (ws : List Word) : Nat := bits (wget ws 0) 54 2
/-- MB. -/
def rjMb (ws : List Word) : Nat := bits (wget ws 0) 44 8
/-- STEP. -/
def rjStep (ws : List Word) : Nat := bits (wget ws 0) 0 32
/-- MMAX. -/
def rjMmax (ws : List Word) : Nat := bits (wget ws 4) 49 15
/-- MINDIR. -/
def rjMindir (ws : List Word) : Bool := bit (wget ws 4) 48
/-- MIND as a byte offset. -/
def rjMind (ws : List Word) : Nat := 16 * bits (wget ws 4) 28 20
/-- SCORES. -/
def rjScores (ws : List Word) : Nat := udaField ws 5
/-- TOKENS. -/
def rjTokens (ws : List Word) : Nat := udaField ws 6
/-- TAGS. -/
def rjTags (ws : List Word) : Nat := udaField ws 7
/-- SELECT. -/
def rjSelect (ws : List Word) : Nat := udaField ws 8
/-- STAGE. -/
def rjStage (ws : List Word) : Nat := udaField ws 9
/-- OUT. -/
def rjOut (ws : List Word) : Nat := udaField ws 10
/-- MASK; 0 for none. -/
def rjMask (ws : List Word) : Nat := udaField ws 11

/-- Whether a job counts and holds layer state: a forward training job or a backward job (R242, R260). -/
def rjTrains (ws : List Word) : Bool := rjDir ws != 2

/-- Bytes of a score row (R244). -/
def RoutePlan.scoreRow (p : RoutePlan) : Nat := 16 * ceilDiv p.e 4

/-- Offset of the gate plane from SELECT (R247). -/
def RoutePlan.gatePlane (p : RoutePlan) (ws : List Word) : Nat := 16 * ceilDiv (p.k * rjMmax ws) 8

/-! Layer state. -/

/-- A layer slot of a cluster. -/
def State.layer (s : State) (d slot : Nat) : LayerSlot := sget LayerSlot.fresh s.drover.layers (64 * d + slot)

/-- A layer slot set. -/
def State.setLayer (s : State) (d slot : Nat) (l : LayerSlot) : State :=
  { s with drover := { s.drover with layers := sput LayerSlot.fresh s.drover.layers (64 * d + slot) l } }

/-- Layer state of an expert. -/
def LayerSlot.expert (l : LayerSlot) (e : Nat) : ExpertSt := sget ExpertSt.fresh l.experts e

/-- Layer state of an expert changed. -/
def LayerSlot.modExpert (l : LayerSlot) (e : Nat) (f : ExpertSt → ExpertSt) : LayerSlot :=
  { l with experts := sput ExpertSt.fresh l.experts e (f (l.expert e)) }

/-- The verdict that has reached the Drover clusters for a step: 1 apply, 2 skip (R264). -/
def State.reached (s : State) (step : Nat) : Option Nat := sfind s.net.vote.delivered step

/-- Whether a cluster is in service with a route plans section applied (DRV_STAT.ENABLED). -/
def State.clusterOn (s : State) (d : Nat) : Bool := decide (d < 4) && !s.isRetired 5 d && s.hasSection 6

/-- Route jobs of a cluster, with JSEQ. -/
def State.clusterJobs (s : State) (d : Nat) : List (Nat × RouteRun) := s.drover.jobs.filter (fun r => r.2.cluster == d)

/-- The lowest free job slot of a cluster (R261). -/
def State.freeJobSlot (s : State) (d : Nat) : Option Nat := firstFrom (fun n => !(s.clusterJobs d).any (fun r => r.2.slot == n)) 0 8

/-! Acceptance (R242). -/

/-- The ranges a job names at MMAX rows: operation, field, first byte, bytes (R242). -/
def rjRanges (p : RoutePlan) (ws : List Word) : List (UdaOp × Nat × Nat × Nat) :=
  let m := rjMmax ws
  let back := rjDir ws == 1
  (if back then [] else [(.read, 0x28, rjScores ws, m * p.scoreRow)] ++ (if rjMask ws = 0 then [] else [(.read, 0x58, rjMask ws, ceilDiv p.e 8)])) ++
  [(.read, 0x30, rjTokens ws, m * p.inBytes), (.read, 0x38, rjTags ws, 8 * m),
   (if back then .read else .write, 0x40, rjSelect ws, p.gatePlane ws + 4 * p.k * m),
   (.write, 0x48, rjStage ws, m * p.k * p.outBytes), (.write, 0x50, rjOut ws, m * p.outBytes)]

/-- Reserved bits of a route job (R241). -/
def rjReservedBad (ws : List Word) : Bool :=
  bits (wget ws 3) 32 32 != 0 || bits (wget ws 4) 0 28 != 0 || (numsFrom 5 7).any (fun i => bits (wget ws i) 0 16 != 0) || (numsFrom 12 4).any (fun i => wget ws i != 0)

/-- The acceptance checks of a route job sent to cluster `d` (R242), and whether the refusal lies in its signal slots. -/
def State.routeCheck (s : State) (d : Nat) (ws : List Word) : Check × Bool :=
  let src := bits (wget ws 0) 38 6
  let dst := bits (wget ws 0) 32 6
  let sl := s.slotRules src dst (wget ws 2) (wget ws 3)
  let base := Check.all [
    shapeIf (rjReservedBad ws || rjDir ws == 3 || bits (wget ws 0) 52 2 != 1 || sl.1 || !s.mapped src || !s.mapped dst),
    { Check.good with addr := if rjMindir ws then (checkLocal src 0x20 (rjMind ws) 4).toList else [] }, zeroIf (rjMmax ws == 0)]
  match s.plan (rjPlan ws) with
  | none => (base.and (shapeIf true), sl.2)
  | some p =>
    let l := s.layer d p.lslot
    let stepBad : Bool := match l.step with
      | some o => (rjStep ws != o && rjStep ws != o + 1) || (rjStep ws == o && (s.reached o).isSome)
      | none => false
    let addrs : Check := { Check.good with addr := (rjRanges p ws).filterMap (fun r =>
      if r.2.2.2 = 0 then none else s.checkRange r.1 r.2.1 (r.2.2.1 : Int) ((r.2.2.1 + r.2.2.2 : Nat) - 1 : Int)) }
    (Check.all [base, shapeIf (p.cluster != d || !s.clusterOn d), shapeIf (rjDir ws == 1 && p.bwdN == 0), shapeIf (decide (p.mmax < rjMmax ws)),
      shapeIf (rjTrains ws && stepBad), addrs], sl.2)

/-- A route job admitted to its cluster: a job slot, WAIT or HELD, and the open step it may set (R248, R261). -/
def State.acceptRoute (s : State) (j d : Nat) (ws : List Word) : State :=
  match s.plan (rjPlan ws), s.freeJobSlot d with
  | some p, some n =>
    let l := s.layer d p.lslot
    let held := rjTrains ws && (match l.step with
      | some o => rjStep ws == o + 1
      | none => false)
    let s := if rjTrains ws ∧ l.step.isNone then s.setLayer d p.lslot { l with step := some (rjStep ws) } else s
    { s with drover := { s.drover with jobs := sinsert s.drover.jobs j (RouteRun.start d n (if held then .held else .wait)) } }
  | _, _ => s

/-! Selection (R244 to R247). -/

/-- Whether biased score `a` ranks strictly above `b`: NaN lowest of all (R245). -/
def ranksAbove (a b : F32) : Bool :=
  match ofF32 a, ofF32 b with
  | .nan, _ => false
  | _, .nan => true
  | x, y => fvLt y x

/-- An expert put into a ranking after all that do not rank below it. -/
def rankInsert (x : Nat × F32) : List (Nat × F32) → List (Nat × F32)
  | [] => [x]
  | y :: r => if ranksAbove x.2 y.2 then x :: y :: r else y :: rankInsert x r

/-- The `k` highest-ranked experts of those allowed, by biased score (R245). -/
def selectTop (k : Nat) (biased : List (Nat × F32)) : List Nat :=
  (biased.foldl (fun r x => (rankInsert x r).take k) []).map (·.1)

/-- The sum of values in ascending order. -/
def ascSum : List F32 → F32
  | [] => 0
  | x :: r => r.foldl f32Add x

/-- The gates of one token's selected experts from its raw scores (R246). -/
def gatesOf (p : RoutePlan) (raw : List F32) (es : List Nat) : List F32 :=
  let xs := es.map (fun e => raw.getD e 0)
  let norm (g : List F32) : List F32 := if p.gnorm then g.map (fun x => f32Div x (ascSum g)) else g
  match p.gatefn with
  | 0 =>
    let m := match xs with
      | [] => nan32
      | x :: r => r.foldl f32Max x
    let ps := xs.map (fun x => exp2F (f32Mul p.gatec (f32Sub x m)))
    ps.map (fun x => f32Div x (ascSum ps))
  | 1 => norm (xs.map (fun x => f32Div one32 (f32Add one32 (exp2F (f32Mul (f32Neg p.gatec) x)))))
  | 2 => norm xs
  | _ => let a := softmaxRow p.gatec raw; norm (es.map (fun e => a.getD e 0))

/-- `n` FP32 values from a byte string. -/
def f32sOf (n : Nat) (bs : List Byte) : List F32 := (numsFrom 0 n).map (fun i => BitVec.ofNat 32 (word32At bs (4 * i)))

/-- The experts that a mask allows, ascending (R245). -/
def allowedBy (e : Nat) (mask : Option (List Byte)) : List Nat :=
  (numsFrom 0 e).filter (fun i => match mask with
    | some bs => (bs.getD (i / 8) 0).getLsbD (i % 8)
    | none => true)

/-- Whether an input tag breaks R244. -/
def tagBad (mb : Nat) (t : Word) : Bool := bits t 18 4 != 0 || bits t 0 10 != 0 || bits t 10 8 != mb

/-- The tag of a routed copy (R247). -/
def copyTag (t : Word) (slot e : Nat) : Word := putBits (putBits t 18 4 slot) 0 10 e

/-- One token routed: its copies in slot order (R245, R246). -/
def routeToken (p : RoutePlan) (biases : List F32) (allowed : List Nat) (raw : List F32) : List (Nat × F32) :=
  let es := selectTop p.k (allowed.map (fun e => (e, f32Add (raw.getD e 0) (biases.getD e 0))))
  es.zip (gatesOf p raw es)

/-- The selection planes as writes (R247): one run of the expert plane and one of the gate plane for each slot. -/
def planeWrites (p : RoutePlan) (ws : List Word) (sel : List (List (Nat × F32))) : List (Nat × List Byte) :=
  (numsFrom 0 p.k).map (fun k => (rjSelect ws + 2 * (k * rjMmax ws), (sel.map (fun c => leBytes 2 (c.getD k (0, 0)).1)).flatten)) ++
  (numsFrom 0 p.k).map (fun k => (rjSelect ws + p.gatePlane ws + 4 * (k * rjMmax ws), (sel.map (fun c => leBytes 4 (c.getD k (0, 0)).2.toNat)).flatten))

/-- The routed copies that a forward job left in the planes (R259). -/
def planeCopies (k m : Nat) (planes : List (List Byte)) : List (List (Nat × F32)) :=
  (numsFrom 0 m).map (fun i => (numsFrom 0 k).map (fun q =>
    (leNat (((planes.getD q []).drop (2 * i)).take 2) % 1024, BitVec.ofNat 32 (word32At (planes.getD (k + q) []) (4 * i)))))

/-- Non-finite scores counted and the vote's latch raised (R246, R279). -/
def State.countScores (s : State) (d lslot : Nat) (raws : List (List F32)) : State :=
  raws.zipIdx.foldl (fun (s : State) r =>
    let n := (r.1.filter (fun x => !fvFinite (ofF32 x))).length
    if n = 0 then s
    else (((s.count (Fld.DRV_SCORENF_COUNT d) n).set (Fld.DRV_SCORENF_LSLOT d) lslot).set (Fld.DRV_SCORENF_ROW d) r.2).raiseLatch 2) s

/-! Counting and passes (R249 to R252). -/

/-- Routed copies of expert `e` in ascending token row: row, slot and gate (R250). -/
def copiesOf (sel : List (List (Nat × F32))) (e : Nat) : List (Nat × Nat × F32) :=
  (sel.zipIdx.map (fun t => (t.1.zipIdx.filter (fun c => c.1.1 == e)).map (fun c => (t.2, c.2, c.1.2)))).flatten

/-- Routed copies of expert `e`. -/
def countOf (sel : List (List (Nat × F32))) (e : Nat) : Nat := (copiesOf sel e).length

/-- Light experts of one home tile packed into passes (R251). -/
def packLight (cap : Nat) : List (Nat × Nat) → List PassSeg → List (List PassSeg)
  | [], cur => if cur = [] then [] else [cur]
  | (e, c) :: r, cur =>
    match cur.getLast? with
    | none => packLight cap r [⟨e, 0, c, 0⟩]
    | some g =>
      let at_ := roundUp 4 (g.first + g.rows)
      if cap < at_ + c ∨ 8 ≤ cur.length then cur :: packLight cap r [⟨e, 0, c, 0⟩] else packLight cap r (cur ++ [⟨e, at_, c, 0⟩])

/-- The passes of a job in number order (R250 to R252); `home` gives an expert's tile and capacity. -/
def buildPasses (e packmax : Nat) (home : Nat → Nat × Nat) (count : Nat → Nat) : List DPass :=
  let light (x : Nat) : Bool := decide (1 ≤ count x) && decide (count x ≤ packmax) && decide (count x ≤ (home x).2)
  let tiles := ((numsFrom 0 e).map (fun x => (home x).1)).foldl nadd []
  let packed := (tiles.map (fun t =>
    let ls := (numsFrom 0 e).filter (fun x => (home x).1 == t && light x)
    (packLight (home (ls.headD 0)).2 (ls.map (fun x => (x, count x))) []).map (fun g => (⟨t, g⟩ : DPass)))).flatten
  ((numsFrom 0 e).map (fun x =>
    if light x then packed.filter (fun p => p.segs.head?.map (·.expert) == some x)
    else
      let c := (home x).2
      (numsFrom 0 (ceilDiv (count x) c)).map (fun p => (⟨(home x).1, [⟨x, 0, min c (count x - p * c), p * c⟩]⟩ : DPass)))).flatten

/-- The home of an expert under a plan: tile and pass capacity (R250). -/
def State.homeOf (s : State) (p : RoutePlan) (e : Nat) : Nat × Nat :=
  let pl := placement (s.section_ 6) p e
  (pl.tile, s.capOf pl.tile pl.prec0)

/-- One expert's copies added to CUR; past 32 bits the manual states no result, and the value is free. -/
def State.addCur (s : State) (d slot e c : Nat) : State :=
  let l := s.layer d slot
  let v := (l.expert e).cur + c
  let r : Nat × State := if v < 2 ^ 32 then (v, s) else let f := s.freshWord; (f.1.toNat % 2 ^ 32, f.2)
  r.2.setLayer d slot (l.modExpert e (fun x => { x with cur := r.1 }))

/-- The COUNT commit of a forward training job (R249): once. -/
def State.commitCounts (s : State) (j d : Nat) (p : RoutePlan) (r : RouteRun) (ws : List Word) (sel : List (List (Nat × F32))) : State :=
  if r.counted then s
  else
    let s := if rjDir ws = 0 then (numsFrom 0 p.e).foldl (fun (s : State) e => if countOf sel e = 0 then s else s.addCur d p.lslot e (countOf sel e)) s else s
    (s.count (Fld.DRV_COPYCNT_COUNT d) ((sel.map List.length).foldl (· + ·) 0)).routeMod j (fun r => { r with counted := true })

/-- BUILD: the passes are made and counted (R250 to R252, DRV_PASSCNT, DRV_LASTSPLIT). -/
def State.buildRoute (s : State) (j d : Nat) (p : RoutePlan) (tags : List Word) (sel : List (List (Nat × F32))) : State :=
  let ps := buildPasses p.e p.packmax (s.homeOf p) (countOf sel)
  let s := s.routeMod j (fun r => { r with st := .build, tags := tags, sel := sel, passes := ps })
  match sfind s.drover.jobs j with
  | none => s
  | some r =>
    let extra := (r.visited.map (fun e => r.passesOf e - 1)).foldl (· + ·) 0
    let s := s.count (Fld.DRV_PASSCNT_PASSES d) ps.length
    let s := s.count (Fld.DRV_PASSCNT_EXTRA d) extra
    let s := s.count (Fld.DRV_PASSCNT_PACKED d) (ps.filter (fun x => decide (1 < x.segs.length))).length
    match (r.visited.filter (fun e => decide (1 < r.passesOf e))).getLast? with
    | none => s
    | some e => s.setReg (Reg.DRV_LASTSPLIT d) (wordOf [(58, 6, p.lslot), (48, 10, e), (32, 16, r.passesOf e), (0, 32, countOf sel e)])

/-- A route job's error noted; it ends when nothing of it is outstanding (R263). -/
def State.routeError (s : State) (j : Nat) : State := (s.routeMod j (fun r => { r with err := true })).failRoute j

/-- The end of a route job. -/
def State.finishRoute (s : State) (j : Nat) (st : Status) (r0 r1 : Word) : State := (s.finish j st r0 r1).routeMod j (fun r => { r with st := .done })

/-- SELECT, COUNT and BUILD of a job that has left WAIT (R244 to R252, R259); it stays in SELECT while an access waits. -/
def State.routeSelect (s : State) (j d : Nat) (e : JEntry) (r : RouteRun) (p : RoutePlan) : State :=
  let ws := e.words
  let m := r.rows
  let back := rjDir ws == 1
  let tagsAt : Nat × Nat := (rjTags ws, 8 * m)
  let planes := (numsFrom 0 p.k).map (fun q => (rjSelect ws + 2 * (q * rjMmax ws), 2 * m)) ++
    (numsFrom 0 p.k).map (fun q => (rjSelect ws + p.gatePlane ws + 4 * (q * rjMmax ws), 4 * m))
  let reads := tagsAt :: (if back then planes else
    (numsFrom 0 m).map (fun i => (rjScores ws + i * p.scoreRow, 4 * p.e)) ++ (if rjMask ws = 0 then [] else [(rjMask ws, ceilDiv p.e 8)]))
  match s.readAll j reads [] with
  | (.bad, s) => s.finishRoute j .memError 0 0
  | (.waits, s) => s
  | (.data bss, s) =>
    let tags := wordsOfBytes m (bss.headD [])
    if back then
      let sel := planeCopies p.k m (bss.drop 1)
      (s.commitCounts j d p r ws sel).buildRoute j d p tags sel
    else
      let raws := ((bss.drop 1).take m).map (f32sOf p.e)
      let allowed := allowedBy p.e (if rjMask ws = 0 then none else (bss.drop (m + 1)).head?)
      if tags.any (tagBad (rjMb ws)) ∨ allowed.length < p.k then s.finishRoute j .rejectedShape 0 0
      else
        let l := s.layer d p.lslot
        let biases := (numsFrom 0 p.e).map (fun x => (l.expert x).bias)
        let sel := raws.map (routeToken p biases allowed)
        match s.writeAll j (planeWrites p ws sel) with
        | (.bad, s) => s.finishRoute j .memError 0 0
        | (.waits, s) => s
        | (.done, s) => ((s.countScores d p.lslot raws).commitCounts j d p r ws sel).buildRoute j d p tags sel

/-- A route job leaves WAIT (R177, R196, R243): its slots are consumed and its row count is settled. -/
def State.routeLeave (s : State) (j : Nat) (e : JEntry) : State :=
  let ws := e.words
  let s := s.jmod j (fun e => { e with st := .dispatched, disp := e.disp + 1 })
  let s := (s.consumeWaits e.srcTile e.waits).routeMod j (fun r => { r with st := .select, rows := rjMmax ws })
  if e.empty then s.finishRoute j .empty 0 0
  else if rjMindir ws then
    match s.phys e.srcTile with
    | none => s.finishRoute j .memError 0 0
    | some p =>
      let n := leNat (s.rbs (spKey p (rjMind ws)) 4)
      if s.poisonedIn (spKey p (rjMind ws)) 4 then s.finishRoute j .memError 0 0
      else if n = 0 then s.finishRoute j .empty 0 0
      else if rjMmax ws < n then s.finishRoute j .rejectedShape 0 0
      else (s.jmod j (fun e => { e with rows := some n })).routeMod j (fun r => { r with rows := n })
  else s

/-- Whether a held or waiting job may leave for SELECT as far as its cluster is concerned (R261, R266, DRV_CTL.HOLD). -/
def State.routeFree (s : State) (j : Nat) (e : JEntry) (r : RouteRun) (p : RoutePlan) : Bool :=
  !s.flag (Fld.DRV_CTL_HOLD r.cluster) && s.gate j e && s.clusterOn r.cluster &&
  !(s.clusterJobs r.cluster).any (fun x => x.2.st == .select || x.2.st == .count || x.2.st == .build) &&
  (r.st == .wait || (r.st == .held && (s.layer r.cluster p.lslot).step == some (rjStep e.words)))

/-- A route job's entry, record and plan, while it is unfinished and the device runs. -/
def State.routeOf (s : State) (j : Nat) : Option (JEntry × RouteRun × RoutePlan) :=
  match s.cmd j, sfind s.drover.jobs j with
  | some e, some r => (s.plan (rjPlan e.words)).bind (fun p => if s.live ∧ s.targetUp e ∧ e.fin.isNone ∧ e.refusal.isNone then some (e, r, p) else none)
  | _, _ => none

/-- ROUTE_JOB: a job leaves WAIT and runs selection, counting and pass building (R243 to R252, R261). -/
def execRouteJob (jseq : Nat) (s : State) : Host.Outcome State Fault Refusal :=
  match s.routeOf jseq with
  | none => .next s
  | some (e, r, p) =>
    if r.st = .select then .next (s.routeSelect jseq r.cluster e r p)
    else if ¬ s.routeFree jseq e r p then .next s
    else if s.waitPoisoned e then .next ((s.jmod jseq (fun e => { e with st := .dispatched, disp := e.disp + 1 })).finishRoute jseq .cancelled 0 0)
    else if ¬ s.waitsOk e then .next s
    else
      let s := s.routeLeave jseq e
      match s.routeOf jseq with
      | some (e, r, p) => .next (s.routeSelect jseq r.cluster e r p)
      | none => .next s

/-! Filling a pass and issuing its instances (R253 to R256). -/

/-- The buffer of a pass on its home tile: first byte of the record in the scratchpad. -/
def State.bufStart (s : State) (tile rec_ : Nat) : Nat := ((s.record tile rec_).map (fun r => 1024 * r.off)).getD 0

/-- The copies of a segment: row, slot and gate (R250). -/
def RouteRun.segCopies (r : RouteRun) (g : PassSeg) : List (Nat × Nat × F32) := ((copiesOf r.sel g.expert).drop g.copy).take g.rows

/-- The planes and rows of a pass as local writes (R253, R254); `rows` gives the token rows of its copies in order. -/
def RouteRun.fillWrites (r : RouteRun) (ps : DPass) (start cap pitch : Nat) (rows : List (List Byte)) : List (Nat × List Byte) :=
  let gaps := (ps.segs.zip (ps.segs.drop 1)).map (fun g => (g.1.first + g.1.rows, g.2.first - (g.1.first + g.1.rows)))
  let segs := (ps.segs.map (fun g => (r.segCopies g).zipIdx.map (fun c => (g.first + c.2, g.expert, c.1)))).flatten
  (segs.map (fun c => [(start + 8 * c.1, leBytes 8 (copyTag (r.tags.getD c.2.2.1 0) c.2.2.2.1 c.2.1).toNat),
    (start + 8 * cap + 4 * c.1, leBytes 4 c.2.2.1), (start + 12 * cap + 4 * c.1, leBytes 4 c.2.2.2.2.toNat)])).flatten ++
  (gaps.map (fun g => (start + 8 * cap + 4 * g.1, List.replicate (4 * g.2) 0xFF))) ++
  List.zipWith (fun c bs => (start + 16 * cap + c.1 * pitch, bs)) segs rows

/-- The pitch of a pass buffer's rows: the STRIDE of the first relocated tensor operand of the template (R253); the token row's bytes where there is none. -/
def rowPitch (p : RoutePlan) (tpl : List TplStep) : Nat :=
  let hits := (tpl.map (fun st => (numsFrom 0 6).filterMap (fun n =>
    if tKind st.image = 2 ∧ bit st.ctrl (58 + n) ∧ (opN st.image n).form = 1 then some (16 * (opN st.image n).stride) else none))).flatten
  hits.headD p.inBytes

/-- A pass filled: a credit taken, its record HELD, its planes and rows written, FILLMARK raised (R253, R254). Nothing happens while a credit, the record or a token row is wanting. -/
def State.fillPass (s : State) (j n : Nat) (e : JEntry) (r : RouteRun) (p : RoutePlan) (ps : DPass) : State :=
  let bs := s.section_ 6
  let pl := placement bs p ((ps.segs.head?.map (·.expert)).getD 0)
  let t := pl.tile
  let key := 32 * t + pl.bpool
  let b := if pl.sets = 1 then 0 else sget 0 s.drover.turns key
  let rec_ := pl.prec b
  match s.phys t with
  | none => s.routeError j
  | some q =>
    if s.pool t pl.bpool = 0 ∨ ¬ s.grantable t rec_ then s
    else
      let copies := (ps.segs.map r.segCopies).flatten
      match s.readAll j (copies.map (fun c => (rjTokens e.words + c.1 * p.inBytes, p.inBytes))) [] with
      | (.bad, s) => s.routeError j
      | (.waits, s) => s
      | (.data rows, s) =>
        let ws := r.fillWrites ps (s.bufStart t rec_) (s.capOf t pl.prec0) (rowPitch p (p.template bs (rjDir e.words == 1))) rows
        let s := (s.takeCredit t pl.bpool 1).setResv t rec_ .held
        let s := ws.foldl (fun (s : State) w => (s.wbs (spKey q w.1) w.2).cleanse (spKey q w.1) w.2.length) s
        let s := s.raiseMark t pl.fillmark 1
        let s := { s with drover := { s.drover with turns := sput 0 s.drover.turns key (1 - b) } }
        s.routeMod j (fun r => { r with sets := r.sets ++ [b], held := r.held ++ [⟨n, t, rec_, pl.bpool⟩] })

/-- The instance of template step `i` for segment `g` of pass `n` (R255). -/
def State.instance_ (s : State) (e : JEntry) (r : RouteRun) (p : RoutePlan) (n g i : Nat) : List Word :=
  let bs := s.section_ 6
  let sg := ((r.passes.getD n ⟨0, []⟩).segs).getD g ⟨0, 0, 0, 0⟩
  let pl := placement bs p sg.expert
  let b := r.sets.getD n 0
  let st := (p.template bs (rjDir e.words == 1)).getD i ⟨0, 0, []⟩
  let x : Inst := ⟨s.bufStart pl.tile (pl.prec b), s.bufStart pl.tile (pl.wrec b), pl.wrec b, s.capOf pl.tile pl.prec0, pl, sg.first, sg.rows, n, i, g⟩
  x.words st (wget e.words 1)

/-- Instances of a filled pass accepted, as far as its ring and the journal have room; `fuel` of them at most (R255, R464). -/
def State.issuePass (s : State) (j n : Nat) (e : JEntry) (p : RoutePlan) : Nat → State
  | 0 => s
  | fuel + 1 =>
    match sfind s.drover.jobs j with
    | none => s
    | some r =>
      let steps := (p.template (s.section_ 6) (rjDir e.words == 1)).length
      let segs := (r.passes.getD n ⟨0, []⟩).segs
      let g := r.sent / steps
      let pl := placement (s.section_ 6) p ((segs.getD g ⟨0, 0, 0, 0⟩).expert)
      if segs.length * steps ≤ r.sent then
        s.routeMod j (fun r => { r with sent := 0, issued := n + 1, st := if n + 1 = r.passes.length then .run else r.st })
      else if ¬ s.ringRoom pl.ring ∨ s.journalFull then s
      else
        let ws := s.instance_ e r p n g (r.sent % steps)
        let c := { JEntry.fresh pl.ring (8 * n + g) (.tileRing pl.ring) pl.tile ws with parent := j, sub := r.sent % steps }
        ((s.enter c).routeMod j (fun r => { r with sent := r.sent + 1 })).issuePass j n e p fuel

/-- PASS_FILL: the next pass of a job is filled when a buffer credit is there, and its instances are accepted (R253 to R256, R261). -/
def execPassFill (jseq pass : Nat) (s : State) : Host.Outcome State Fault Refusal :=
  match s.routeOf jseq with
  | none => .next s
  | some (e, r, p) =>
    if r.st ≠ .build ∨ r.err ∨ r.issued ≠ pass then .next s
    else
      let s := if r.sets.length ≤ pass then s.fillPass jseq pass e r p (r.passes.getD pass ⟨0, []⟩) else s
      match sfind s.drover.jobs jseq with
      | some r => if r.err ∨ r.sets.length ≤ pass then .next s else .next (s.issuePass jseq pass e p 129)
      | none => .next s

/-! Scatter and combine (R257, R258). -/

/-- Whether every instance of a segment has been accepted and has completed. -/
def State.segmentOver (s : State) (j n g steps : Nat) (r : RouteRun) : Bool :=
  (decide (n < r.issued) || (n == r.issued && decide (n < r.sets.length) && decide (steps * (g + 1) ≤ r.sent))) &&
  !s.journal.any (fun f => f.2.parent == j && f.2.idx == 8 * n + g)

/-- What follows the scatter of a segment: after the pass's last, its record is free and its credit back; after the job's last pass, the combine (R254, R261). -/
def State.segScattered (s : State) (j n g : Nat) : State :=
  let s := s.routeMod j (fun r => { r with segsDone := nadd r.segsDone (8 * n + g) })
  match sfind s.drover.jobs j with
  | none => s
  | some r =>
    let segs := (r.passes.getD n ⟨0, []⟩).segs.length
    if (numsFrom 0 segs).all (fun k => nmem r.segsDone (8 * n + k)) then
      let s := (s.releaseBufs j (fun h => h.pass == n)).routeMod j (fun r => { r with scattered := nadd r.scattered n })
      s.routeMod j (fun r => { r with st := if r.st = .run ∧ r.scattered.length = r.passes.length then .combine else r.st })
    else s

/-- SCATTER: a finished segment's output rows are written to STAGE (R257). -/
def execScatter (jseq pass seg : Nat) (s : State) : Host.Outcome State Fault Refusal :=
  match s.routeOf jseq with
  | none => .next s
  | some (e, r, p) =>
    let tpl := p.template (s.section_ 6) (rjDir e.words == 1)
    let segs := (r.passes.getD pass ⟨0, []⟩).segs
    if r.err ∨ ¬ (r.st = .build ∨ r.st = .run) ∨ segs.length ≤ seg ∨ nmem r.segsDone (8 * pass + seg) ∨ ¬ s.segmentOver jseq pass seg tpl.length r then .next s
    else
      let g := segs.getD seg ⟨0, 0, 0, 0⟩
      let pl := placement (s.section_ 6) p g.expert
      let cap := s.capOf pl.tile pl.prec0
      let start := s.bufStart pl.tile (pl.prec (r.sets.getD pass 0))
      let o := opN (s.instance_ e r p pass seg (tpl.length - 1)) 2
      match s.phys pl.tile with
      | none => .next (s.routeError jseq)
      | some q =>
        let rows := numsFrom 0 g.rows
        let parts := rows.map (fun i => [(o.rowOff i, p.outBytes), (start + 8 * (g.first + i), 8), (start + 8 * cap + 4 * (g.first + i), 4)])
        if s.spPoisoned q parts.flatten then .next (s.routeError jseq)
        else
          let writes := rows.map (fun i =>
            let idx := leNat (s.rbs (spKey q (start + 8 * cap + 4 * (g.first + i))) 4)
            let slot := bits (wordAt (s.rbs (spKey q (start + 8 * (g.first + i))) 8) 0) 18 4
            (rjStage e.words + (idx * p.k + slot) * p.outBytes, s.rbs (spKey q (o.rowOff i)) p.outBytes))
          match s.writeAll jseq writes with
          | (.bad, s) => .next (s.routeError jseq)
          | (.waits, s) => .next s
          | (.done, s) => .next (s.segScattered jseq pass seg)

/-- One combined row (R258): the staged rows of a token added in slot order, or the one row as it is. -/
def combineRow (r : FmtRow) (bytes k : Nat) (bs : List Byte) : List Byte :=
  if k = 1 then bs
  else
    let n := bytes * 8 / r.bitsOf
    let row (q : Nat) : List F32 := CodeVec.euValues r ⟨unpackCodes r.bitsOf n ((bs.drop (q * bytes)).take bytes), []⟩
    let y := (numsFrom 1 (k - 1)).foldl (fun a q => List.zipWith f32Add a (row q)) (row 0)
    packCodes r.bitsOf (encodeRow { r with encode := 0 } ⟨0, 0, none, 0⟩ 0 y).codes

/-- The combine blocks of a job from block `b` on, `n` of them (R258, R262). -/
def State.combineFrom (s : State) (j : Nat) (e : JEntry) (p : RoutePlan) (rows : Nat) : Nat → Nat → State
  | _, 0 => s
  | b, n + 1 =>
    match sfind s.drover.jobs j with
    | none => s
    | some r =>
      if nmem r.blocks b then s.combineFrom j e p rows (b + 1) n
      else
        let is_ := numsFrom (64 * b) (min 64 (rows - 64 * b))
        match s.readAll j (is_.map (fun i => (rjStage e.words + i * p.k * p.outBytes, p.k * p.outBytes))) [] with
        | (.bad, s) => s.routeError j
        | (.waits, s) => s
        | (.data bss, s) =>
          match s.writeAll j (List.zipWith (fun i bs => (rjOut e.words + i * p.outBytes, combineRow (s.fmt p.outFmt) p.outBytes p.k bs)) is_ bss) with
          | (.bad, s) => s.routeError j
          | (.waits, s) => s
          | (.done, s) => (s.routeMod j (fun r => { r with blocks := nadd r.blocks b })).combineFrom j e p rows (b + 1) n

/-- COMBINE: the staged rows of each token are summed in slot order into OUT, and the job commits (R258, R263). -/
def execCombine (jseq : Nat) (s : State) : Host.Outcome State Fault Refusal :=
  match s.routeOf jseq with
  | none => .next s
  | some (e, r, p) =>
    if r.st ≠ .combine ∨ r.err then .next s
    else
      let n := ceilDiv r.rows 64
      let s := s.combineFrom jseq e p r.rows 0 n
      match sfind s.drover.jobs jseq with
      | none => .next s
      | some r =>
        if r.err ∨ ¬ (numsFrom 0 n).all (nmem r.blocks) then .next s
        else .next (s.finishRoute jseq (if r.visited.any (fun x => decide (1 < r.passesOf x)) then .split else .ok) r.result.1 r.result.2)

/-! Step close (R264 to R267). -/

/-- Whether a job of step `S` on the slot is uncompleted (R264). -/
def State.stepBusy (s : State) (d slot step : Nat) : Bool :=
  s.drover.jobs.any (fun r => r.2.cluster == d && (match s.cmd r.1 with
    | some e => rjTrains e.words && rjStep e.words == step && ((s.plan (rjPlan e.words)).map (·.lslot)) == some slot
    | none => false))

/-- The visit area of a slot as bytes (R265). -/
def visitBytes (e : Nat) (l : LayerSlot) : List Byte :=
  let n := ceilDiv e 128 * 16
  (numsFrom 0 n).map (fun i => BitVec.ofNat 8 (packNat 1 ((numsFrom 0 8).map (fun b => b2n (decide (8 * i + b < e) && decide (0 < (l.expert (8 * i + b)).cur)))))) ++
  ((numsFrom 0 e).map (fun x => leBytes 4 (l.expert x).last)).flatten ++ ((numsFrom 0 e).map (fun x => leBytes 4 (l.expert x).cur)).flatten

/-- One expert's new bias (R267), with whether the lookup missed and whether a second entry matched. -/
def controlBias (cs : List CtlEntry) (p : RoutePlan) (cur t : Nat) (bias : F32) : F32 × Bool × Bool :=
  let r := toF32 (fvDiv (fvNat (cur * p.e)) (fvNat t))
  let hits := cs.filter (fun c => fvLe (ofF32 c.lo) (ofF32 r) && fvLt (ofF32 r) (ofF32 c.hi))
  let delta := match hits with
    | c :: _ => f32Fma c.c1 r c.c0
    | [] => 0
  (f32Min (f32Max (f32Add bias delta) p.bmin) p.bmax, hits.isEmpty, decide (1 < hits.length))

/-- A controller miss counted (DRV_CTLMISS). -/
def State.countMiss (s : State) (d slot e : Nat) : State :=
  ((s.count (Fld.DRV_CTLMISS_COUNT d) 1).set (Fld.DRV_CTLMISS_LSLOT d) slot).set (Fld.DRV_CTLMISS_EXPERT d) e

/-- The bias controller of a close with verdict apply (R267). -/
def State.runController (s : State) (d slot : Nat) (p : RoutePlan) : State :=
  let l := s.layer d slot
  let t := ((numsFrom 0 p.e).map (fun e => (l.expert e).cur)).foldl (· + ·) 0
  let cs := (numsFrom 0 p.ctln).map (ctlEntry (s.section_ 6) p)
  if p.ctln = 0 ∨ s.flag (Fld.DRV_CTL_FREEZE d) then s
  else if t = 0 then s.countMiss d slot 0
  else (numsFrom 0 p.e).foldl (fun (s : State) e =>
    let l := s.layer d slot
    let x := l.expert e
    let c := controlBias cs p x.cur t x.bias
    let s := s.setLayer d slot (l.modExpert e (fun x => { x with bias := c.1 }))
    let s := if c.2.1 then s.countMiss d slot e else s
    if c.2.2 then s.count (Fld.HRN_MMATCH_COUNT 6) 1 else s) s

/-- Steps (4) and (5) of a close for one expert: the pending bias applied, CUR handed to PREV (R264). -/
def ExpertSt.roll (x : ExpertSt) : ExpertSt := { x with bias := x.pend.getD x.bias, pend := none, prev := x.cur, cur := 0 }

/-- Steps (3) to (6) of a close (R264): LAST on an apply, then pending biases, counts, and the next open step. -/
def LayerSlot.roll (l : LayerSlot) (step : Nat) (apply_ : Bool) : LayerSlot :=
  let touch (x : ExpertSt) : ExpertSt := if apply_ ∧ 0 < x.cur then { x with last := step } else x
  { l with experts := (smap (fun _ x => (touch x).roll) l.experts).filter (fun x => x.2 != ExpertSt.fresh),
           step := some (step + 1), verdict := if apply_ then 1 else 2 }

/-- HELD jobs of a slot leave for WAIT at its close (R266), unless DRV_CTL.HOLD keeps them. -/
def State.freeHeld (s : State) (d slot step : Nat) : State :=
  if s.flag (Fld.DRV_CTL_HOLD d) then s
  else { s with drover := { s.drover with jobs := smap (fun j r =>
    if r.cluster = d ∧ r.st = .held ∧ s.cmdIs j (fun e => rjStep e.words == step && ((s.plan (rjPlan e.words)).map (·.lslot)) == some slot) then { r with st := .wait } else r) s.drover.jobs } }

/-- STEP_CLOSE: a layer slot closes its open step once the verdict has arrived and the step's jobs have completed (R264 to R267). -/
def execStepClose (cluster slot : Nat) (s : State) : Host.Outcome State Fault Refusal :=
  if 4 ≤ cluster ∨ 64 ≤ slot then .next s else
  let l := s.layer cluster slot
  match l.step with
  | none => .next s
  | some step =>
    match s.reached step with
    | none => .next s
    | some v =>
      if ¬ s.live ∨ s.unitDown 2 cluster ∨ ¬ s.clusterOn cluster ∨ s.stepBusy cluster slot step then .next s
      else if v = 2 then .next ((s.setLayer cluster slot (l.roll step false)).freeHeld cluster slot (step + 1))
      else
        let done (s : State) : State := (s.setLayer cluster slot ((s.layer cluster slot).roll step true)).freeHeld cluster slot (step + 1)
        match s.slotPlan cluster slot with
        | none => .next (done s)
        | some (_, p) =>
          match s.writeAll 0 [(p.visit, visitBytes p.e l)] with
          | (.waits, s) => .next s
          | (_, s) => .next (done (s.runController cluster slot p))

end Sys2Proof.Machine
end

