-- ==== Sys2Proof/Machine/HostIf.lean ====
section
/-! DEFINITION. The host interface (file 18): the PCIe link, doorbells, entry fetches and their retries, interrupts' hold-off, and completions. -/

set_option Elab.async false

namespace Sys2Proof.Machine

/-- The host interface's state changed. -/
def State.hmod (s : State) (f : HostState → HostState) : State := { s with host := f s.host }

/-! Rings. -/

/-- ROLE of a ring: 0 unassigned, 1 host submission, 2 host completion, 3 link channel, 4 tile work (R71). -/
def State.role (s : State) (r : Nat) : Nat := s.get (Fld.RING_CFG_ROLE r)

/-- Whether a ring is a host ring. -/
def State.isHostRing (s : State) (r : Nat) : Bool := s.role r == 1 || s.role r == 2

/-- Whether a ring is an enabled host ring. -/
def State.hostRingOn (s : State) (r : Nat) : Bool := s.isHostRing r && s.flag (Fld.RING_CTL_ENABLE r)

/-- Entries of a host ring. -/
def State.ringSize (s : State) (r : Nat) : Nat := 2 ^ s.get (Fld.RING_CFG_LOG2SIZE r)

/-- ACCEPT of a submission ring, or WRITE of a completion ring. -/
def State.ringIdx (s : State) (r : Nat) : Nat := s.get (Fld.RING_IDX_IDX r)

/-- PROD of a ring. -/
def State.prod (s : State) (r : Nat) : Nat := s.get (Fld.RING_PROD_PROD r)

/-- The difference of two free-running indices (R454). -/
def idxSub (a b : Nat) : Nat := (a + 2 ^ 32 - b) % 2 ^ 32

/-- The rings whose ENABLE is 1, rising: every such ring's control register is listed. -/
def State.enabledRings (s : State) : List Nat :=
  s.regs.filterMap (fun e => if Reg.RING_CTL 0 ≤ e.1 ∧ e.1 < Reg.RING_CTL 16384 ∧ (e.1 - Reg.RING_CTL 0) % 64 = 0 ∧ bit e.2 0 then some ((e.1 - Reg.RING_CTL 0) / 64) else none)

/-- The enabled submission rings of the round robin, those after ring `k` first (R463). -/
def State.servedFrom (s : State) (k : Nat) : List Nat :=
  let l := s.enabledRings.filter (fun r => s.role r == 1 && !s.isRetired 6 r)
  l.filter (fun r => decide (k < r)) ++ l.filter (fun r => decide (r ≤ k))

/-! Doorbells (R456). -/

/-- A doorbell discarded: counted, with its kind and ring (R456, HIF_DBERR). -/
def State.dbError (s : State) (kind ring : Nat) : State :=
  let s := ((s.count Fld.HIF_DBERR_COUNT 1).set Fld.HIF_DBERR_KIND kind).set Fld.HIF_DBERR_RING ring
  if s.hostRingOn ring then s.count (Fld.RING_STAT_DBERR ring) 1 else s

/-- Whether a new PROD is within a ring's range (R456). -/
def State.prodOk (s : State) (r v : Nat) : Bool :=
  decide (idxSub v (s.prod r) < 2 ^ 31) &&
    (if s.role r = 1 then decide (idxSub v (s.ringIdx r) ≤ s.ringSize r) else decide (idxSub (s.ringIdx r) v ≤ s.ringSize r))

/-- DOORBELL: a write to page `page` of BAR2 at an offset in the page (R451, R456). -/
def execDoorbell (page offset size : Nat) (data : Word) (s : State) : Host.Outcome State Fault Refusal :=
  let v := bits data 0 32
  if ¬ s.flag Fld.HIF_STAT_LINKUP ∨ s.flag Fld.HIF_STAT_D3 ∨ 16384 ≤ page then .next s
  else if offset ≠ 0 ∨ ¬ (size = 4 ∨ size = 8) then .next (s.dbError 1 page)
  else if ¬ s.hostRingOn page then .next (s.dbError 2 page)
  else if ¬ s.prodOk page v then .next (s.dbError 3 page)
  else .next (s.set (Fld.RING_PROD_PROD page) v)

/-! Entry fetches (R463, R465). -/

/-- The index after the last entry fetched on a ring. -/
def State.fetchedTo (s : State) (r : Nat) : Nat := (s.ringIdx r + (sget [] s.host.fetched r).length) % 2 ^ 32

/-- Whether a ring has entries to fetch and no fetch of it is outstanding. -/
def State.wantsFetch (s : State) (r : Nat) : Bool :=
  (sfind s.host.fetching r).isNone && (sfind s.host.failed r).isNone && s.get (Fld.RING_STAT_ERR r) == 0 && s.prod r != s.fetchedTo r

/-- One fetch read issued: up to 32 entries, not past the ring's last slot (R463). -/
def State.fetchRing (s : State) (r : Nat) : State :=
  let i := s.fetchedTo r
  let n := min 32 (min (idxSub (s.prod r) i) (s.ringSize r - i % s.ringSize r))
  match s.issueRead (.fetch r i n (sget 0 s.host.retries r)) (s.slotAddr r i 128) (128 * n) with
  | some s => s.hmod (fun h => { h with fetching := sinsert h.fetching r ((i + n) % 2 ^ 32), rrFetch := r })
  | none => s

/-- FETCH: the next ring of the round robin that has entries to fetch is read (R463). -/
def execFetch (s : State) : Host.Outcome State Fault Refusal :=
  match (s.servedFrom s.host.rrFetch).find? s.wantsFetch with
  | some r => .next (s.fetchRing r)
  | none => .next s

/-- Bytes of entries cut into commands of sixteen words. -/
def entriesOf : Nat → List Byte → List (List Word)
  | 0, _ => []
  | n + 1, bs => wordsOfBytes 16 (bs.take 128) :: entriesOf n (bs.drop 128)

/-- A fetch read is still the ring's own: the ring has not been disabled since. -/
def State.fetchLive (s : State) (r start n : Nat) : Bool := sfind s.host.fetching r == some ((start + n) % 2 ^ 32) && s.fetchedTo r == start

/-- Entries arrived (R463). -/
def State.fetchData (s : State) (r start n : Nat) (bs : List Byte) : State :=
  if ¬ s.fetchLive r start n then s
  else s.hmod (fun h => { h with fetched := sput [] h.fetched r (sget [] h.fetched r ++ entriesOf n bs), fetching := serase h.fetching r, retries := serase h.retries r })

/-- A fetch read failed: it is retried, and after FETCHRETRY retries the ring has failed; cause 1 timeout, 2 error completion (R465). -/
def State.fetchFailed (s : State) (r start n fails cause : Nat) : State :=
  if ¬ s.fetchLive r start n then s
  else
    let s := s.hmod (fun h => { h with fetching := serase h.fetching r })
    if s.get Fld.HIF_CTL_FETCHRETRY ≤ fails then s.hmod (fun h => { h with failed := sinsert h.failed r cause, retries := serase h.retries r })
    else (s.hmod (fun h => { h with retries := sinsert h.retries r (fails + 1) })).fetchRing r

/-- Everything a submission ring has fetched and not accepted forgotten (R455, R465). -/
def State.dropFetched (s : State) (r : Nat) : State :=
  s.hmod (fun h => { h with fetched := serase h.fetched r, fetching := serase h.fetching r, failed := serase h.failed r, retries := serase h.retries r, groups := serase h.groups r })

/-! Tags (R477). -/

/-- A read no longer awaits its completion. -/
def State.endRead (s : State) (tag : Nat) : State := s.hmod (fun h => { h with reads := serase h.reads tag })

/-- A timed-out read's tag quarantined (R477). -/
def State.quarantine (s : State) (tag : Nat) : State := (s.endRead tag).hmod (fun h => { h with quarantined := nadd h.quarantined tag })

/-- LATE_COMPLETION: a completion for a read that has failed by timeout is discarded and counted (R477). -/
def execLateCompletion (tag : Nat) (s : State) : Host.Outcome State Fault Refusal :=
  if nmem s.host.quarantined tag ∧ s.flag Fld.HIF_STAT_LINKUP then .next (s.count Fld.HIF_LATE_COUNT 1) else .next s

/-! The PCIe link (R449, R452). -/

/-- WIDTH of a number of lanes (R58). -/
def widthCode (n : Nat) : Nat := if 16 ≤ n then 6 else if 8 ≤ n then 5 else if 4 ≤ n then 3 else if 2 ≤ n then 2 else n

/-- The PCIe link and the configuration space reset (R452, R551). -/
def State.pcieReset (s : State) : State :=
  let s := (s.setReg Reg.HIF_STAT 0).hmod (fun h => { h with msixEnable := false, tagBits := 8 })
  s.capChange

/-- PERST: PERST# or a link retrain (R452). -/
def execPerst (s : State) : Host.Outcome State Fault Refusal := .next s.pcieReset

/-- SPEED of HIF_STAT. -/
def speedCode : PcieSpeed → Nat
  | .gt16 => 4
  | .gt32 => 5
  | .gt64 => 6

/-- The tag width in use of what the two sides enable (R449): 14 bits in FLIT mode only. -/
def tagWidth (flit : Bool) (n : Nat) : Nat := if flit && decide (14 ≤ n) then 14 else if 10 ≤ n then 10 else 8

/-- MSI_X_ENABLE: software sets MSI-X Enable, and held interrupts are sent (R452). -/
def execMsiXEnable (s : State) : Host.Outcome State Fault Refusal :=
  if ¬ s.flag Fld.HIF_STAT_LINKUP then .next s else .next ((s.hmod (fun h => { h with msixEnable := true })).release)

/-! Interrupts and completions (R470, R474, R478). -/

/-- HOLDOFF: HOLDOFF_US has passed since the first entry not signalled, and the completion ring signals (R478). -/
def execHoldoff (ring : Nat) (s : State) : Host.Outcome State Fault Refusal :=
  if 16384 ≤ ring then .next s else
  if s.role ring = 2 ∧ s.get (Fld.RING_MOD_HOLDOFF_US ring) ≠ 0 ∧ 0 < s.unsignalled ring then .next (s.signalRing ring) else .next s

/-- COMPLETION: barriers owed to the ring are written, and the completion of its oldest command, if it is ready (R470, R474). -/
def execCompletion (ring : Nat) (s : State) : Host.Outcome State Fault Refusal := if 16384 ≤ ring then .next s else .next ((s.writeBarriers ring 8).completeOldest ring)

/-! The mailbox (R481, R570). -/

/-- A host-to-management message sent; none when one is unacknowledged (R481). -/
def State.h2mSend (s : State) : Option State := if s.flag Fld.HIF_MBCTL_H2MFULL then none else some (s.setFlag Fld.HIF_MBCTL_H2MFULL true)

/-- A management-to-host message sent: M2HFULL, the MAILBOX event and the vector; none when one waits (R481, R570). -/
def State.m2hSend (s : State) : Option State :=
  if s.flag Fld.HIF_MBCTL_M2HFULL then none
  else
    let s := (s.setFlag Fld.HIF_MBCTL_M2HFULL true).set Fld.HIF_MBSTAT_M2HLEN (s.get Fld.MGT_MBCTL_LEN)
    some ((s.raise .mailbox 0 (s.reg Reg.HIF_MBSTAT) 0).signal (s.get Fld.HIF_MBCTL_VECTOR))

end Sys2Proof.Machine
end

