-- ==== Sys2Proof/Machine/UpdRules.lean ====
section
/-! DEFINITION. The update rules section (R294 to R297), the layout of a rule's areas and of the commit bitmap (R295, R302, R304, R305). -/

set_option Elab.async false

namespace Sys2Proof.Machine

/-- An update rule record (R294). UDA fields are in bytes. -/
structure Rule where
  kind : Nat
  seq : Nat
  firstTile : Nat
  nTiles : Nat
  full : Bool
  restore : Nat
  wdcatch : Bool
  iter : Nat
  period : Nat
  experts : Nat
  rowA : Nat
  rowB : Nat
  copyA : Bool
  copyB : Bool
  donemark : Nat
  n : Nat
  k : Nat
  bmoff : Nat
  w : Nat
  g : Nat
  m1 : Nat
  m2 : Nat
  ccopy : Nat
  state : Nat
  work : Nat
  ca : Nat
  cb : Nat
  visit : Nat
  lr : F32
  wd : F32
  b1 : F32
  b2 : F32
  eps : F32
  oscale : F32
  nsa : F32
  nsb : F32
  nsc : F32
  sring : Nat
  donetile : Nat
  tidbase : Word
  deriving DecidableEq, Repr

/-- COUNT of an update rules section. -/
def ruleCount (bs : List Byte) : Nat := bits (wordAt bs 0) 0 11

/-- ACTAB of sequencer `d`, in bytes (R294). -/
def actabOf (bs : List Byte) (d : Nat) : Nat := 16 * bits (wordAt bs (8 + 8 * d)) 16 48

/-- Offset of rule record `i`. -/
def ruleOff (i : Nat) : Nat := 64 + 160 * i

/-- Rule `i` of an update rules section (R294). -/
def ruleOf (bs : List Byte) (i : Nat) : Rule :=
  let w (k : Nat) : Word := wordAt bs (ruleOff i + 8 * k)
  let uda (k : Nat) : Nat := 16 * bits (w k) 16 48
  let hi (k : Nat) : F32 := BitVec.ofNat 32 (bits (w k) 32 32)
  let lo (k : Nat) : F32 := BitVec.ofNat 32 (bits (w k) 0 32)
  { kind := bits (w 0) 60 4
    seq := bits (w 0) 58 2
    firstTile := bits (w 0) 52 6
    nTiles := bits (w 0) 47 5
    full := bit (w 0) 46
    restore := bits (w 0) 44 2
    wdcatch := bit (w 0) 43
    iter := bits (w 0) 39 4
    period := bits (w 0) 27 12
    experts := bits (w 0) 16 11
    rowA := bits (w 0) 12 4
    rowB := bits (w 0) 8 4
    copyA := bit (w 0) 7
    copyB := bit (w 0) 6
    donemark := bits (w 0) 0 6
    n := bits (w 1) 47 17
    k := bits (w 1) 30 17
    bmoff := bits (w 1) 0 30
    w := uda 2
    g := uda 3
    m1 := uda 4
    m2 := uda 5
    ccopy := uda 6
    state := uda 7
    work := uda 8
    ca := uda 9
    cb := uda 10
    visit := uda 11
    lr := hi 12
    wd := lo 12
    b1 := hi 13
    b2 := lo 13
    eps := hi 14
    oscale := lo 14
    nsa := hi 15
    nsb := lo 15
    nsc := hi 16
    sring := bits (w 16) 18 14
    donetile := bits (w 16) 12 6
    tidbase := w 17 }

/-- The rules of a section in order. -/
def rulesOf (bs : List Byte) : List Rule := (numsFrom 0 (ruleCount bs)).map (ruleOf bs)

/-- Whether COUNT is in its range (R297, R600). -/
def ruleCountOk (bs : List Byte) : Bool := decide (1 ≤ ruleCount bs) && decide (ruleCount bs ≤ 1024)

/-- Layout length of an update rules section (R600). -/
def ruleLength (bs : List Byte) : Nat := 64 + 160 * ruleCount bs

/-! Geometry (R295, R302, R304, R305). -/

/-- Whether the rule is a matrix rule (R296). -/
def Rule.matrix (r : Rule) : Bool := r.kind == 3 || r.kind == 4
/-- Matrices of the rule. -/
def Rule.mats (r : Rule) : Nat := max 1 r.experts
/-- Elements of one matrix. -/
def Rule.matLen (r : Rule) : Nat := r.n * r.k
/-- Elements of the rule. -/
def Rule.ne (r : Rule) : Nat := r.mats * r.matLen
/-- Where the scale plane begins behind a value plane of `n` bytes (R295). -/
def scaleAfter (n : Nat) : Nat := roundUp 16 n
/-- Bytes of an area of one byte an element with its scales. -/
def Rule.momentBytes (r : Rule) : Nat := scaleAfter r.ne + r.ne / 32
/-- Bytes of a copy in format row `f`. -/
def Rule.copyBytes (r : Rule) (f : FmtRow) : Nat :=
  let v := r.ne * f.bitsOf / 8
  if f.scaled then scaleAfter v + r.ne / 32 else v

/-- Parts of an area, each beginning on a 4 KiB boundary: offsets of the parts, and the end. -/
def partOffsets : Nat → List Nat → List Nat
  | o, [] => [o]
  | o, n :: r => o :: partOffsets (roundUp 4096 (o + n)) r

/-- The parts of a matrix rule's work area in order: codes of m' with their scales, then the buffers (R302, R304). -/
def Rule.workParts (r : Rule) : List Nat :=
  let l := r.matLen
  let codes := scaleAfter l + l / 32
  if r.kind = 3 then let p := min r.n r.k; [codes, 2 * l, 2 * l, 2 * p * p, 2 * p * p]
  else
    let side (x : Nat) : List Nat := [4 * x * x, 4 * x * x, 2 * x * x, 2 * x * x, 2 * x * x, 2 * x * x]
    [codes, 2 * l, 2 * l, 2 * l, 2 * l] ++ side r.n ++ side r.k

/-- First byte of part `i` of the work area. -/
def Rule.workAt (r : Rule) (i : Nat) : Nat := r.work + (partOffsets 0 r.workParts).getD i 0

/-- Bytes of the work area. -/
def Rule.workBytes (r : Rule) : Nat := ((partOffsets 0 (r.workParts.dropLast)).getLastD 0) + r.workParts.getLastD 0

/-- The four items of one matrix in STATE: L, R, PL, PR (R304). -/
def Rule.stateParts (r : Rule) : List Nat := [4 * r.n * r.n, 4 * r.k * r.k, 2 * r.n * r.n, 2 * r.k * r.k]

/-- Bytes of STATE for one matrix, up to the next matrix's first 4 KiB boundary. -/
def Rule.stateStride (r : Rule) : Nat := (partOffsets 0 r.stateParts).getLastD 0

/-- First byte of item `i` of matrix `e` in STATE. -/
def Rule.stateAt (r : Rule) (e i : Nat) : Nat := r.state + e * r.stateStride + (partOffsets 0 r.stateParts).getD i 0

/-- Bytes of STATE. -/
def Rule.stateBytes (r : Rule) : Nat := r.mats * r.stateStride

/-- Bytes of a visit area of `e` experts (R265). -/
def visitLen (e : Nat) : Nat := 16 * ceilDiv e 128 + 8 * e

/-- Commit blocks of the rule (R305). -/
def Rule.blocks (r : Rule) : Nat := ceilDiv r.ne 4096
/-- Commit blocks of one matrix. -/
def Rule.matBlocks (r : Rule) : Nat := ceilDiv r.matLen 4096
/-- State blocks of one matrix of a PRECOND rule. -/
def Rule.stateBlocks (r : Rule) : Nat := if r.kind = 4 then ceilDiv (2 * (r.n * r.n + r.k * r.k)) 4096 else 0
/-- PREPARED bits of the rule. -/
def Rule.prepBits (r : Rule) : Nat := if r.matrix then r.mats else 0
/-- Bits of the rule in the commit bitmap. -/
def Rule.bits_ (r : Rule) : Nat := r.prepBits + r.blocks + r.mats * r.stateBlocks

/-- Whether the rule writes copies. -/
def Rule.copies (r : Rule) : Bool := r.copyA || r.copyB

/-! The loader's checks (R297). -/

/-- Reserved bits of an update rules section (phase 8). -/
def ruleReserved (bs : List Byte) : List SecFault :=
  reservedIn bs 0 0 0x7FF ++ ((numsFrom 1 4).map (fun i => reservedIn bs (8 * i) 0 (mask64 16 48))).flatten ++ zeroFrom bs .reservedNonzero 40 24 0 ++
  ((numsFrom 0 (ruleCount bs)).map (fun i =>
    ((numsFrom 2 10).map (fun k => reservedIn bs (ruleOff i + 8 * k) i (mask64 16 48))).flatten ++
    reservedIn bs (ruleOff i + 128) i (mask64 12 52) ++ zeroFrom bs .reservedNonzero (ruleOff i + 144) 16 i)).flatten

/-- Whether a BETA lies in [0, 1). -/
def betaOk (x : F32) : Bool := fvLe (.fin false 0 0) (ofF32 x) && fvLt (ofF32 x) (ofF32 one32)

/-- Byte of a rule record in which a field of word `k` begins at bit `lo`. -/
def ruleByte (i k lo : Nat) : Nat := ruleOff i + 8 * k + lo / 8

/-- Phase 9 of one update rule (R294, R296, R297). -/
def ruleFaults (bs : List Byte) (i : Nat) : List SecFault :=
  let r := ruleOf bs i
  let bad (b : Bool) (k lo : Nat) : List SecFault := faultIf b .updateRule (ruleByte i k lo) i
  let tiles := r.matrix || r.copies
  let unused (used : Bool) (v k lo : Nat) : List SecFault := bad (!used && v != 0) k lo
  let moving := r.kind != 5
  bad (decide (r.kind = 0 ∨ 5 < r.kind)) 0 60 ++ bad (decide (1 < r.restore)) 0 44 ++
  bad (tiles && decide (r.nTiles = 0 ∨ 16 < r.nTiles)) 0 47 ++ unused tiles r.nTiles 0 47 ++ unused tiles r.firstTile 0 52 ++ unused tiles r.sring 16 18 ++
  bad (r.matrix && r.iter == 0) 0 39 ++ unused r.matrix r.iter 0 39 ++
  bad (r.kind == 4 && r.period == 0) 0 27 ++ unused (r.kind == 4) r.period 0 27 ++
  bad (decide (1024 < r.experts)) 0 16 ++ bad (!moving && (r.copyA || r.copyB)) 0 6 ++
  unused r.copyA r.rowA 0 12 ++ unused r.copyB r.rowB 0 8 ++ unused moving (b2n r.wdcatch) 0 43 ++
  bad (decide (r.n = 0 ∨ 65536 < r.n)) 1 47 ++ bad (decide (r.k = 0 ∨ 65536 < r.k ∨ r.k % 32 ≠ 0)) 1 30 ++
  bad (decide (r.experts ≠ 0 ∧ r.matLen % 4096 ≠ 0)) 1 30 ++ bad (r.copyB && decide (r.n % 32 ≠ 0)) 1 47 ++
  unused moving r.m1 4 16 ++ unused (r.kind == 2) r.m2 5 16 ++ unused (r.restore == 1) r.ccopy 6 16 ++ unused (r.kind == 4) r.state 7 16 ++
  unused r.matrix r.work 8 16 ++ unused r.copyA r.ca 9 16 ++ unused r.copyB r.cb 10 16 ++ unused (r.experts != 0) r.visit 11 16 ++
  bad (!fvFinite (ofF32 r.lr)) 12 32 ++ bad (!fvFinite (ofF32 r.wd)) 12 0 ++ unused moving r.lr.toNat 12 32 ++ unused moving r.wd.toNat 12 0 ++
  bad (!betaOk r.b1) 13 32 ++ bad (!betaOk r.b2) 13 0 ++ unused moving r.b1.toNat 13 32 ++ unused (r.kind == 2 || r.kind == 4) r.b2.toNat 13 0 ++
  bad (!fvFinite (ofF32 r.eps) || (fvNegative (ofF32 r.eps) && !fvIsZero (ofF32 r.eps))) 14 32 ++ unused (r.kind == 2 || r.matrix) r.eps.toNat 14 32 ++
  bad (!fvFinite (ofF32 r.oscale)) 14 0 ++ unused r.matrix r.oscale.toNat 14 0 ++
  bad (!fvFinite (ofF32 r.nsa)) 15 32 ++ bad (!fvFinite (ofF32 r.nsb)) 15 0 ++ bad (!fvFinite (ofF32 r.nsc)) 16 32 ++
  unused (r.kind == 3) r.nsa.toNat 15 32 ++ unused (r.kind == 3) r.nsb.toNat 15 0 ++ unused (r.kind == 3) r.nsc.toNat 16 32 ++
  unused moving r.tidbase.toNat 17 0 ++
  bad (r.kind == 3 && decide (16384 < min r.n r.k)) 1 47 ++ bad (r.kind == 4 && decide (8192 < r.n ∨ 8192 < r.k)) 1 47 ++
  bad ((numsFrom 0 i).any (fun j => let q := ruleOf bs j; q.seq == r.seq && overlaps q.bmoff q.bits_ r.bmoff r.bits_)) 1 0

/-- Phase 9 of the update rules. -/
def rulesFaults (bs : List Byte) : List SecFault :=
  ((numsFrom 0 (ruleCount bs)).map (ruleFaults bs)).flatten ++
  ((numsFrom 0 4).map (fun d => faultIf (actabOf bs d != 0 && !(rulesOf bs).any (fun r => r.seq == d)) .updateRule (10 + 8 * d) 0)).flatten

/-- Words of a G8R buffer header in DRAM. -/
def State.gHeader (s : State) (a : Nat) : List Word := wordsOfBytes 8 (s.rbs a 64)

/-- The areas of a G8R buffer: header and planes (R271). -/
def State.gAreas (s : State) (a : Nat) : List (Nat × Nat) :=
  let h := s.gHeader a
  [(a, 64), (gValue h, gN h), (gResid h, gN h), (gScale h, gN h / 32)]

/-- The areas of a rule but for its work area: first byte and bytes (R295, R296). -/
def State.ruleAreas (c : State) (r : Rule) : List (Nat × Nat) :=
  [(r.w, 2 * r.ne)] ++ c.gAreas r.g ++ (if r.kind = 5 then [] else [(r.m1, r.momentBytes)]) ++ (if r.kind = 2 then [(r.m2, r.momentBytes)] else []) ++
  (if r.restore = 1 then c.gAreas r.ccopy else []) ++ (if r.kind = 4 then [(r.state, r.stateBytes)] else []) ++
  (if r.copyA then [(r.ca, r.copyBytes (c.fmt r.rowA))] else []) ++ (if r.copyB then [(r.cb, r.copyBytes (c.fmt r.rowB))] else [])

/-- The work area of a rule, if it has one. -/
def Rule.workArea (r : Rule) : List (Nat × Nat) := if r.matrix then [(r.work, r.workBytes)] else []

/-- Whether a G8R buffer of a rule meets R271 and covers its elements (R297). -/
def State.gBufferOk (c : State) (a ne : Nat) : Bool := gHeaderOk (c.gHeader a) a && gN (c.gHeader a) == ne

/-- Whether ranges of one list share a byte among themselves. -/
def selfOverlap : List (Nat × Nat) → Bool
  | [] => false
  | x :: r => r.any (fun y => overlaps x.1 x.2 y.1 y.2) || selfOverlap r

/-- Phase 10 of the update rules: the rules that look at other sections, at the extents they give, and at the buffers' headers (R297). -/
def State.rulesCross (c : State) (bs : List Byte) : List SecFault :=
  let rings := ringRanges (c.section_ 9)
  let actabs := ((numsFrom 0 4).filter (fun d => (rulesOf bs).any (fun r => r.seq == d))).map (fun d => (actabOf bs d, 262208))
  ((numsFrom 0 (ruleCount bs)).map (fun i =>
    let r := ruleOf bs i
    let bad (b : Bool) (k lo : Nat) : List SecFault := faultIf b .updateRule (ruleByte i k lo) i
    let mine := c.ruleAreas r
    let work := r.workArea
    let inside (l : List (Nat × Nat)) : Bool := l.all (fun a => a.2 == 0 || inDram (a.1 : Int) ((a.1 + a.2 - 1 : Nat) : Int))
    bad (r.copyA && !((c.fmt r.rowA).isPresent && (c.fmt r.rowA).arrayOperand)) 0 12 ++
    bad (r.copyB && !((c.fmt r.rowB).isPresent && (c.fmt r.rowB).arrayOperand)) 0 8 ++
    bad (r.matrix && (numsFrom 0 r.nTiles).any (fun t => decide (64 ≤ r.firstTile + t) || !c.mapped (r.firstTile + t) || decide ((r.firstTile + t) / 16 ≠ r.seq))) 0 52 ++
    bad (r.matrix && (numsFrom 0 r.nTiles).any (fun t => match ringRole rings (r.sring + t) with
      | some q => !(q.role == 4 && q.bind == r.firstTile + t)
      | none => true)) 16 18 ++
    bad (!c.gBufferOk r.g r.ne) 3 16 ++ bad (r.restore == 1 && !c.gBufferOk r.ccopy r.ne) 6 16 ++
    bad (r.experts != 0 && !(c.hasSection 6 && (routePlans (c.section_ 6)).any (fun p => p.visit == r.visit && p.e == r.experts))) 11 16 ++
    bad (!(inside (mine ++ work)) || selfOverlap (mine ++ work)) 2 16 ++
    bad ((mine ++ work).any (fun a => actabs.any (fun b => overlaps a.1 a.2 b.1 b.2))) 2 16 ++
    bad ((numsFrom 0 i).any (fun j =>
      let q := ruleOf bs j
      rangesOverlap mine (c.ruleAreas q ++ q.workArea) || rangesOverlap work (c.ruleAreas q) || (q.seq != r.seq && rangesOverlap work q.workArea))) 2 16)).flatten ++
  ((numsFrom 0 4).map (fun d => faultIf ((rulesOf bs).any (fun r => r.seq == d) && !inDram (actabOf bs d : Int) ((actabOf bs d + 262207 : Nat) : Int)) .updateRule (10 + 8 * d) 0)).flatten ++
  faultIf (selfOverlap actabs) .updateRule 10 0

/-! The rules in force. -/

/-- Rule `n` of the active image, if it is defined. -/
def State.rule (s : State) (n : Nat) : Option Rule :=
  let bs := s.section_ 0xD
  if s.hasSection 0xD ∧ n < ruleCount bs then some (ruleOf bs n) else none

/-- Whether a sequencer is in service with an update rules section applied (UPD_STAT.ENABLED). -/
def State.sequencerOn (s : State) (d : Nat) : Bool := decide (d < 4) && !s.isRetired 5 (4 + d) && s.hasSection 0xD

/-- First byte of a sequencer's ACTAB. -/
def State.actab (s : State) (d : Nat) : Nat := actabOf (s.section_ 0xD) d

/-- LASTSTEP, AC and LASTV of a sequencer's ACTAB (R293). -/
def State.actabHead (s : State) (d : Nat) : Nat × Nat × Bool :=
  let w := wordAt (s.rbs (s.actab d) 16) 0
  (bits w 32 32, bits w 0 32, bit (wordAt (s.rbs (s.actab d) 16) 8) 0)

/-- The open sweep step of a sequencer (R293). -/
def State.openSweep (s : State) (d : Nat) : Option Nat :=
  let h := s.actabHead d
  if h.2.2 then some ((h.1 + 1) % 2 ^ 32) else sfind s.sweep.opened d

/-- AC of a sequencer: 0 while LASTV is 0 (R293). -/
def State.acOf (s : State) (d : Nat) : Nat := let h := s.actabHead d; if h.2.2 then h.2.1 else 0

/-- a(S): the applied steps up to and including step `step` (R293). -/
def State.appliedAt (s : State) (d step : Nat) : Nat := leNat (s.rbs (s.actab d + 64 + 4 * (step % 65536)) 4)

end Sys2Proof.Machine
end

