-- ==== Sys2Proof/Machine/Diff.lean ====
section
/-! DEFINITION. The difference stream (R486 to R496): its chunks, their staging and their delivery. -/

set_option Elab.async false

namespace Sys2Proof.Machine

/-- The difference stream's state changed. -/
def State.dmod (s : State) (f : DiffState → DiffState) : State := { s with diff := f s.diff }

/-- Whether the stream runs (R487). -/
def State.difOn (s : State) : Bool := s.hflag 3 && s.flag Fld.DIF_CTL_ENABLE

/-- Bytes of the staging buffer. -/
def State.stgBytes (s : State) : Nat := 4096 * s.get Fld.DIF_STGLEN_LEN

/-- First byte of the staging buffer. -/
def State.stgBase (s : State) : Nat := 16 * s.get Fld.DIF_STGBASE_BASE

/-- Whether the staging buffer has room for `n` more bytes (R493). -/
def State.stgRoom (s : State) (n : Nat) : Bool := decide (s.get Fld.DIF_WRITE_POS + n ≤ s.get Fld.DIF_DELIV_POS + s.stgBytes)

/-- Bytes put into a ring of `size` bytes at `base`, from position `pos` on: the pieces with their addresses. -/
def ringPieces (base size pos : Nat) (bs : List Byte) : List (Nat × List Byte) :=
  let o := pos % max 1 size
  let n := size - o
  if bs.length ≤ n then [(base + o, bs)] else [(base + o, bs.take n), (base, bs.drop n)]

/-- A chunk's header fields (R488). -/
structure Chunk where
  type : Nat
  seqr : Nat
  hmode : Nat
  lmode : Nat
  rule : Nat
  step : Nat
  block : Nat
  hlen : Nat
  llen : Nat
  nelem : Nat
  newcrc : Nat
  count : Nat
  payload : List Byte
  deriving DecidableEq, Repr

/-- A chunk with only a type, a sequencer and a payload. -/
def Chunk.plain (type seqr : Nat) (payload : List Byte) : Chunk := ⟨type, seqr, 0, 0, 0, 0, 0, 0, 0, 0, 0, 0, payload⟩

/-- The bytes of a chunk with a sequence number and a value in its CRC field (R488). -/
def Chunk.bytesWith (c : Chunk) (seq : Word) (crc : Nat) : List Byte :=
  bytesOfWords [wordOf [(32, 32, 48 + c.payload.length), (28, 4, c.type), (26, 2, c.seqr), (24, 2, c.hmode), (22, 2, c.lmode), (12, 10, c.rule)],
    seq, wordOf [(32, 32, c.step), (0, 32, c.block)], wordOf [(51, 13, c.hlen), (38, 13, c.llen), (25, 13, c.nelem)],
    wordOf [(32, 32, c.newcrc), (0, 32, crc)], BitVec.ofNat 64 c.count] ++ c.payload

/-- The bytes of a chunk (R488). -/
def Chunk.bytes (c : Chunk) (seq : Word) : List Byte := c.bytesWith seq (crc32c (c.bytesWith seq 0))

/-- A chunk staged: written at WRITE, counted, and given the next SEQ (R488, R491). -/
def State.stage (s : State) (c : Chunk) : State :=
  let bs := c.bytes (s.reg Reg.DIF_SEQ)
  let s := (ringPieces s.stgBase s.stgBytes (s.get Fld.DIF_WRITE_POS) bs).foldl (fun (s : State) p => (s.wbs p.1 p.2).cleanse p.1 p.2.length) s
  let s := ((s.wrap Fld.DIF_WRITE_POS bs.length).wrap Fld.DIF_SEQ_SEQ 1).count Fld.DIF_CNT_CHUNKS 1
  s.dmod (fun d => { d with queue := d.queue ++ [⟨bs.length, c.type == 2⟩] })

/-- The phase a sequencer runs (UPD_STAT.PHASE). -/
def State.updPhase (s : State) (d : Nat) : Nat :=
  let run := s.sweep.jobs.find? (fun r => r.2.seq == d && (r.2.st == .sweep || r.2.st == .restore))
  match run with
  | none => 0
  | some r => if r.2.st = .restore then 4 else match r.2.phase with
    | .start => 0
    | .prep => 1
    | .commit => 2
    | .copy => 3

/-- A BASE_MARK chunk (R489). -/
def State.baseMark (s : State) (reason : Nat) : Chunk :=
  Chunk.plain 4 0 (bytesOfWords ([wordOf [(0, 4, reason)], s.reg Reg.HRN_ACTID, wordOf [(32, 32, s.get Fld.HRN_ACTIVE_GENERATION)]] ++
    (numsFrom 0 4).map (fun d =>
      let h := if s.hasSection 0xD ∧ s.actab d ≠ 0 then s.actabHead d else (0, 0, false)
      wordOf [(32, 32, h.1), (4, 28, h.2.1), (0, 4, s.updPhase d)]) ++ [0, 0, 0, 0, 0]))

/-- The GAP chunk owed, written once there is room for it (R493). -/
def State.flushGap (s : State) : State :=
  match s.diff.gap with
  | none => s
  | some (step, n) =>
    if s.stgRoom 48 then (s.stage { Chunk.plain 3 0 [] with step := step, count := n }).dmod (fun d => { d with gap := none }) else s

/-- BASE_MARK chunks that waited, written as far as there is room (R493). -/
def State.flushMarks (s : State) : List Nat → State
  | [] => s
  | m :: r => if s.stgRoom 144 then ((s.stage (s.baseMark m)).dmod (fun d => { d with marks := r })).flushMarks r else s

/-- Everything owed to the stream written as far as there is room: the GAP first, then the marks. -/
def State.flushDiff (s : State) : State :=
  if ¬ s.difOn then s
  else
    let s := s.flushGap
    if s.diff.gap.isSome then s else s.flushMarks s.diff.marks

/-- A BASE_MARK owed (R489, R493). -/
def State.markDiff (s : State) (reason : Nat) : State := if s.difOn then (s.dmod (fun d => { d with marks := d.marks ++ [reason] })).flushDiff else s

/-! DELTA chunks (R486, R490, R491). -/

/-- A plane's encoding: mode and bytes, the shortest, a tie going to the lower mode (R490). -/
def encodePlane (bs : List Byte) : Nat × List Byte :=
  let z := zrunPayload bs.length (bs.map (fun b => [b]))
  if bs.all (fun b => b == 0) then (0, []) else if z.length < bs.length then (2, z) else (1, bs)

/-- The DELTA chunk of a commit block, from its old and new codes as bytes (R486, R490). -/
def deltaChunk (seqr rule step block : Nat) (old new : List Byte) : Chunk :=
  let x := List.zipWith (fun a b => a ^^^ b) old new
  let lo := (elementsOf 2 x).map (fun e => e.getD 0 0)
  let hi := (elementsOf 2 x).map (fun e => e.getD 1 0)
  let h := encodePlane hi
  let l := encodePlane lo
  ⟨1, seqr, h.1, l.1, rule, step, block, h.2.length, l.2.length, new.length / 2, crc32c new, 0, padTo16 (h.2 ++ l.2)⟩

/-- Whether a commit group has the staging it reserves: 8,240 bytes, with nothing owed before it (R493). -/
def State.groupRoom (s : State) : Bool := !s.difOn || (s.stgRoom 8240 && s.diff.marks.isEmpty && s.diff.gap.isNone)

/-- The chunk of a commit group staged with it, or dropped under GAP (R486, R491, R493); unchanged blocks have none. -/
def State.stageDelta (s : State) (room : Bool) (seqr rule step block : Nat) (old new : List Byte) : State :=
  if ¬ s.difOn ∨ old = new then s
  else if room then (s.stage (deltaChunk seqr rule step block old new)).dmod (fun d => { d with deltas := sput 0 d.deltas seqr (sget 0 d.deltas seqr + 1) })
  else (s.count Fld.DIF_CNT_DROPPED 1).dmod (fun d => { d with gap := some (match d.gap with
    | some g => (g.1, g.2 + 1)
    | none => (step, 1)) })

/-- Whether a STEP_END has room: 64 bytes, with nothing owed before it (R493). -/
def State.stepEndRoom (s : State) : Bool := !s.difOn || (s.stgRoom 64 && s.diff.marks.isEmpty && s.diff.gap.isNone)

/-- The STEP_END of a FINAL job staged (R489, R492): verdict 1 apply or 2 skip, and AC after the step. -/
def State.stageStepEnd (s : State) (seqr step verdict ac : Nat) : State :=
  let n := sget 0 s.diff.deltas seqr
  let s := s.dmod (fun d => { d with deltas := sput 0 d.deltas seqr 0 })
  if s.difOn then s.stage { Chunk.plain 2 seqr (bytesOfWords [wordOf [(62, 2, verdict)], wordOf [(0, 32, ac)]]) with step := step, count := n } else s

/-! Enabling, disabling and delivery (R487, R494, R495). -/

/-- Whether ENABLE 1 is ignored (R487). -/
def State.difEnableBad (s : State) : Bool :=
  let b := s.stgBase
  let e := b + s.stgBytes - 1
  let h := s.get Fld.DIF_CFG_HLOG2
  let n := s.get Fld.DIF_STGLEN_LEN
  !s.hflag 3 || decide (h < 20 ∨ 36 < h) || decide (b % 4096 ≠ 0) || !inDram (b : Int) (e : Int) || (decide (b < dramBBase) && decide (s.cacheBase ≤ e)) || decide (n < 256 ∨ 16777216 < n)

/-- The stream enabled: positions and SEQ at 0, and a BASE_MARK first (R487). -/
def State.difEnable (s : State) : State :=
  let s := (((s.setReg Reg.DIF_WRITE 0).setReg Reg.DIF_DELIV 0).setReg Reg.DIF_CONS 0).setReg Reg.DIF_SEQ 0
  let s := ((s.setFlag Fld.DIF_CTL_ENABLE true).set Fld.DIF_STAT_STATE 1).set Fld.DIF_STAT_ERR 0
  (s.dmod (fun d => { d with queue := [], marks := [], gap := none, draining := false, deltas := [] })).markDiff 1

/-- A draining stream stops when everything staged is delivered (R495). -/
def State.difDrained (s : State) : State :=
  if s.diff.draining ∧ s.get Fld.DIF_DELIV_POS = s.get Fld.DIF_WRITE_POS then (s.set Fld.DIF_STAT_STATE 0).dmod (fun d => { d with draining := false }) else s

/-- The stream disabled: production stops at once, and what is staged drains (R495); a stream in error stays stopped. -/
def State.difDisable (s : State) : State :=
  let s := (s.setFlag Fld.DIF_CTL_ENABLE false).dmod (fun d => { d with marks := [], gap := none })
  if s.get Fld.DIF_STAT_STATE = 1 then ((s.set Fld.DIF_STAT_STATE 2).dmod (fun d => { d with draining := true })).difDrained
  else if s.get Fld.DIF_STAT_STATE = 3 then (s.set Fld.DIF_STAT_STATE 0).dmod (fun d => { d with queue := [] }) else s

/-- Multiples of IRQKIB KiB up to position `p`; none are counted when IRQKIB is 0 (R494). -/
def State.difTicks (s : State) (p : Nat) : Nat := let k := s.get Fld.DIF_CFG_IRQKIB; if k = 0 then 0 else p / (1024 * k)

/-- DELIVERY: the engine copies the next staged chunk to the host buffer while room allows, and advances DELIV (R494). -/
def execDelivery (s : State) : Host.Outcome State Fault Refusal :=
  let st := s.get Fld.DIF_STAT_STATE
  let size := 2 ^ s.get Fld.DIF_CFG_HLOG2
  match s.diff.queue with
  | [] => .next s.difDrained.flushDiff
  | c :: r =>
    if ¬ (st = 1 ∨ st = 2) ∨ ¬ s.hostOpen ∨ ¬ s.live ∨ s.get Fld.DIF_CONS_POS + size ≤ s.get Fld.DIF_WRITE_POS then .next s
    else
      let pos := s.get Fld.DIF_DELIV_POS
      let src := ringPieces s.stgBase s.stgBytes pos (List.replicate c.len 0)
      if src.any (fun p => s.poisonedIn p.1 p.2.length || s.dramHeld p.1 p.2.length == .lost) then
        .next ((s.set Fld.DIF_STAT_STATE 3).set Fld.DIF_STAT_ERR 1)
      else if src.any (fun p => s.dramHeld p.1 p.2.length == .waits) then .next s
      else
        let bs := (src.map (fun p => s.rbs p.1 p.2.length)).flatten
        let base := 4096 * s.get Fld.DIF_HOSTBASE_ADDR
        let s := (ringPieces base size pos bs).foldl (fun (s : State) p => s.tx (.write p.1 p.2)) s
        let s := (s.wrap Fld.DIF_DELIV_POS c.len).dmod (fun d => { d with queue := r })
        let s := if c.stepEnd ∨ s.difTicks pos ≠ s.difTicks (pos + c.len) then s.signal (s.get Fld.DIF_CFG_VECTOR) else s
        .next s.difDrained.flushDiff

end Sys2Proof.Machine
end

