-- ==== Sys2Proof/Machine/Sweep.lean ====
section
/-! DEFINITION. The update sweep (file 12): SWEEP jobs, the element-wise arithmetic, matrix rules, commit groups, copies, restores and the applied-step table. -/

set_option Elab.async false

namespace Sys2Proof.Machine

/-! The command (R290). -/

/-- OP. -/
def swOp (ws : List Word) : Nat := bits (wget ws 0) 56 8
/-- FINAL. -/
def swFinal (ws : List Word) : Bool := bit (wget ws 0) 55
/-- RESUME. -/
def swResume (ws : List Word) : Bool := bit (wget ws 0) 54
/-- STEP. -/
def swStep (ws : List Word) : Nat := bits (wget ws 0) 0 32
/-- FIRST. -/
def swFirst (ws : List Word) : Nat := bits (wget ws 4) 54 10
/-- NRULES. -/
def swRules (ws : List Word) : Nat := bits (wget ws 4) 43 11
/-- BITMAP. -/
def swBitmap (ws : List Word) : Nat := udaField ws 5
/-- LRSCALE. -/
def swLr (ws : List Word) : F32 := BitVec.ofNat 32 (bits (wget ws 6) 32 32)
/-- WDSCALE. -/
def swWd (ws : List Word) : F32 := BitVec.ofNat 32 (bits (wget ws 6) 0 32)

/-- Reserved bits of a SWEEP job (R290). -/
def swReservedBad (ws : List Word) : Bool :=
  bits (wget ws 0) 32 8 != 0 || wget ws 1 != 0 || bits (wget ws 3) 32 32 != 0 || bits (wget ws 4) 0 43 != 0 || bits (wget ws 5) 0 16 != 0 ||
  (numsFrom 7 9).any (fun i => wget ws i != 0)

/-- The effective rates lr and wd of a rule under a job (R297). -/
def ratesOf (r : Rule) (ws : List Word) : F32 × F32 := (f32Mul r.lr (swLr ws), f32Mul r.wd (swWd ws))

/-- SWEEP jobs of a sequencer that are accepted and not completed, with JSEQ. -/
def State.seqJobs (s : State) (d : Nat) : List (Nat × SweepRun) := s.sweep.jobs.filter (fun r => r.2.seq == d)

/-- The lowest free job slot of a sequencer; none while import holds them (R291, R497). -/
def State.freeSweepSlot (s : State) (d : Nat) : Option Nat :=
  if s.flag Fld.DIF_IMPCTL_ENABLE then none else firstFrom (fun n => !(s.seqJobs d).any (fun r => r.2.slot == n)) 0 4

/-- The acceptance checks of a SWEEP job sent to sequencer `d` (R291), and whether the refusal lies in its signal slots. -/
def State.sweepCheck (s : State) (d : Nat) (ws : List Word) : Check × Bool :=
  let src := bits (wget ws 0) 46 6
  let dst := bits (wget ws 0) 40 6
  let sl := s.slotRules src dst (wget ws 2) (wget ws 3)
  let rules := (numsFrom (swFirst ws) (swRules ws)).map s.rule
  let others := (s.seqJobs d).filterMap (fun r => (s.cmd r.1).map (·.words))
  let same := others.filter (fun o => swStep o == swStep ws)
  (Check.all [
    shapeIf (swOp ws != 1 || swReservedBad ws || bits (wget ws 0) 52 2 != 1 || sl.1 || !s.mapped src || !s.mapped dst),
    shapeIf (!s.sequencerOn d),
    shapeIf (decide (swRules ws = 0 ∨ 1024 < swRules ws) || rules.any (fun r => match r with
      | some r => r.seq != d
      | none => true)),
    shapeIf (same.any (fun o => overlaps (swFirst o) (swRules o) (swFirst ws) (swRules ws))),
    shapeIf (match s.openSweep d with
      | some o => o != swStep ws
      | none => false),
    shapeIf (same.any swFinal),
    shapeIf (!positiveFinite (swLr ws) || !fvFinite (ofF32 (swWd ws)) || (fvNegative (ofF32 (swWd ws)) && !fvIsZero (ofF32 (swWd ws)))),
    shapeIf (rules.any (fun r => match r with
      | some r => let x := ratesOf r ws; fvLe (.fin false 1 0) (fvMul (ofF32 x.1) (ofF32 x.2))
      | none => false)),
    Check.all (rules.map (fun r => match r with
      | some r =>
        let lo := swBitmap ws + r.bmoff / 8
        let hi := swBitmap ws + (r.bmoff + r.bits_ - 1) / 8
        (shapeIf (!inDram (lo : Int) (hi : Int))).and { Check.good with addr := (s.checkRange .write 0x28 (lo : Int) (hi : Int)).toList }
      | none => Check.good))], sl.2)

/-- A SWEEP job admitted to its sequencer: a job slot, and the open sweep step it may set (R291, R293). -/
def State.acceptSweep (s : State) (j d : Nat) (ws : List Word) : State :=
  match s.freeSweepSlot d with
  | none => s
  | some n =>
    let o := if (s.openSweep d).isNone then sinsert s.sweep.opened d (swStep ws) else s.sweep.opened
    { s with sweep := { s.sweep with jobs := sinsert s.sweep.jobs j (SweepRun.start d n), opened := o } }

/-! Records. -/

/-- A SWEEP job's record changed. -/
def State.sweepMod (s : State) (j : Nat) (f : SweepRun → SweepRun) : State := { s with sweep := { s.sweep with jobs := smodify s.sweep.jobs j f } }

/-- What UPD_RULESTAT reports of a rule changed. -/
def State.ruleMod (s : State) (n : Nat) (f : RuleStat → RuleStat) : State :=
  { s with sweep := { s.sweep with stats := sinsert s.sweep.stats n (f ((sfind s.sweep.stats n).getD ⟨0, 0, 0⟩)) } }

/-- A job's entry and record, while it is unfinished and the device runs. -/
def State.sweepOf (s : State) (j : Nat) : Option (JEntry × SweepRun) :=
  match s.cmd j, sfind s.sweep.jobs j with
  | some e, some r => if s.live ∧ s.targetUp e ∧ e.fin.isNone ∧ e.refusal.isNone ∧ s.sequencerOn r.seq then some (e, r) else none
  | _, _ => none

/-- The rule a job has in hand: number and record. -/
def State.ruleInHand (s : State) (e : JEntry) (r : SweepRun) : Option (Nat × Rule) :=
  let n := swFirst e.words + r.ended
  (s.rule n).map (fun x => (n, x))

/-- The result words of a job (R310). -/
def SweepRun.result (r : SweepRun) : Word × Word :=
  (wordOf [(32, 32, r.committed), (0, 32, r.skipped)], wordOf [(32, 32, r.caught), (16, 16, r.ended)])

/-- The end of a SWEEP job with a status (R310). -/
def State.finishSweep (s : State) (j : Nat) (st : Status) : State :=
  match sfind s.sweep.jobs j with
  | some r => (s.finish j st r.result.1 r.result.2).sweepMod j (fun r => { r with st := .done })
  | none => s

/-- The status of a job that has ended well (R310). -/
def SweepRun.goodEnd (r : SweepRun) : Status := if r.skip then .skippedStep else if r.skipped = 0 then .ok else .replayedOk

/-! Memory. -/

/-- How a list of DRAM ranges stands for writes: served, waiting or lost. -/
def State.rangesHeld (s : State) (l : List (Nat × Nat)) : DramAccess :=
  let h := l.map (fun r => s.dramRange r.1 r.2)
  if h.any (· == .lost) then .lost else if h.any (· == .waits) then .waits else .served

/-- Bytes written at several places of DRAM that serve them. -/
def State.putAll (s : State) (l : List (Nat × List Byte)) : State := l.foldl (fun (s : State) w => (s.wbs w.1 w.2).cleanse w.1 w.2.length) s

/-- Bytes written to DRAM as one change, if every place serves them. -/
def State.putDurable (s : State) (l : List (Nat × List Byte)) : Put × State :=
  match s.rangesHeld (l.map (fun w => (w.1, w.2.length))) with
  | .lost => (.bad, s)
  | .waits => (.waits, s)
  | .served => (.done, s.putAll l)

/-- Byte and bit of bit `i` of a rule in a job's commit bitmap (R305). -/
def bitAt (ws : List Word) (r : Rule) (i : Nat) : Nat × Nat := (swBitmap ws + (r.bmoff + i) / 8, (r.bmoff + i) % 8)

/-- A commit bit. -/
def State.commitBit (s : State) (ws : List Word) (r : Rule) (i : Nat) : Bool := (s.rb (bitAt ws r i).1).getLsbD (bitAt ws r i).2

/-- The write that sets a commit bit. -/
def State.bitWrite (s : State) (ws : List Word) (r : Rule) (i : Nat) : Nat × List Byte :=
  let p := bitAt ws r i
  (p.1, [s.rb p.1 ||| BitVec.ofNat 8 (2 ^ p.2)])

/-- The bits of a rule cleared (R305). -/
def State.clearBits (s : State) (ws : List Word) (r : Rule) : State :=
  (numsFrom 0 r.bits_).foldl (fun (s : State) i =>
    let p := bitAt ws r i
    s.wbs p.1 [s.rb p.1 &&& ~~~(BitVec.ofNat 8 (2 ^ p.2))]) s

/-! Arithmetic (R289, R298, R299). -/

/-- pow(b, n) of R289. -/
def powF (b : F32) (n : Nat) : F32 := exp2F (f32Mul (toF32 (fvNat n)) (log2F b))

/-- A bfloat16 code as FP32. -/
def bfVal (c : Nat) : F32 := BitVec.ofNat 32 (c * 65536)

/-- An FP32 value as a bfloat16 code, to nearest with ties to even. -/
def toBf (x : F32) : Nat := ((FmtRow.ofBuiltin 2 0).encodeElt 0 (ofF32 x)).1

/-- The draw of element `i` of a rule in a role (R299). -/
def State.sweepDraw (s : State) (r : Rule) (step role i : Nat) : Nat := draw16 s.seed (r.tidbase + BitVec.ofNat 64 (16 * step + role)) (BitVec.ofNat 64 i)

/-- What the lanes hold of one element: weight, gradient and moments. -/
structure Lane where
  w : F32
  g : F32
  m1 : F32
  m2 : F32
  deriving DecidableEq, Repr

/-- The weight before the update proper: decayed for missed steps when WDCATCH is 1 (R299, R300). -/
def laneCatch (r : Rule) (lr wd : F32) (d : Nat) (w : F32) : F32 := if r.wdcatch ∧ 0 < d then f32Mul w (powF (f32Sub one32 (f32Mul lr wd)) d) else w

/-- The element-wise update of one element (R299); `x` is the direction a matrix rule prepared. -/
def laneStep (r : Rule) (lr wd : F32) (d t : Nat) (x : F32) (l : Lane) : Lane :=
  let w := laneCatch r lr wd d l.w
  let m1 := if 0 < d then f32Mul l.m1 (powF r.b1 d) else l.m1
  match r.kind with
  | 1 =>
    let m := f32Fma r.b1 m1 l.g
    ⟨f32Sub w (f32Mul lr (f32Fma wd w m)), l.g, m, l.m2⟩
  | 2 =>
    let m2 := if 0 < d then f32Mul l.m2 (powF r.b2 d) else l.m2
    let m := f32Fma r.b1 m1 (f32Mul (f32Sub one32 r.b1) l.g)
    let v := f32Fma r.b2 m2 (f32Mul (f32Mul (f32Sub one32 r.b2) l.g) l.g)
    let u := f32Div (f32Div m (f32Sub one32 (powF r.b1 t))) (f32Add (f32Sqrt (f32Div v (f32Sub one32 (powF r.b2 t)))) r.eps)
    ⟨f32Sub w (f32Mul lr (f32Fma wd w u)), l.g, m, v⟩
  | _ => ⟨f32Sub w (f32Mul lr (f32Fma wd w (f32Mul r.oscale x))), l.g, l.m1, l.m2⟩

/-- The gradient reading of one element (R298). -/
def gradOf (full : Bool) (x v q : Nat) : F32 := toF32 (toEU (if full then decodeG8R x v q else decodeG8RValue x v))

/-- The carry of one block of 32: scale code, value codes and residual codes (R298). -/
def carryOf (full : Bool) (x : Nat) (qs : List Nat) : Nat × List Nat × List Nat :=
  let zeros := qs.map (fun _ => 0)
  if full ∨ x = 255 then (0, zeros, zeros)
  else
    let e := encodeG8R (qs.map (fun q => match applyScale x (decE4M3 q) with
      | .fin n m k => .fin n m (k - 4)
      | y => y))
    (e.1, e.2.1, e.2.2.1)

/-- Nat codes of a byte string. -/
def codesOf (bs : List Byte) : List Nat := bs.map (·.toNat)

/-- Bytes of Nat codes. -/
def bytesOfCodes (l : List Nat) : List Byte := l.map (BitVec.ofNat 8)

/-- Moment values of a block of elements from codes and scales. -/
def momentVals (f : Nat → Nat → FV) (codes scales : List Nat) : List F32 := codes.zipIdx.map (fun c => toF32 (toEU (f (scales.getD (c.2 / 32) 0) c.1)))

/-- Groups of 32 of a list. -/
def by32 {α : Type} (l : List α) : List (List α) := chunksOf 32 l.length l

/-! Matrices (R302 to R304), as lists of rows. -/

/-- A matrix transposed; `n` is its number of columns. -/
def transposeM {α : Type} (d : α) (n : Nat) (m : List (List α)) : List (List α) := (numsFrom 0 n).map (fun j => m.map (fun r => r.getD j d))

/-- The product of a matrix of bfloat16 rows with the transpose of another, in FP32: rows against rows (R95, R144). -/
def mulT (a b : List (List Nat)) : List (List F32) :=
  a.map (fun x => b.map (fun y => dotProduct (FmtRow.ofBuiltin 2 0) (FmtRow.ofBuiltin 2 0) 0 ⟨x, []⟩ ⟨y, []⟩))

/-- A matrix in FP32 stored as bfloat16. -/
def bfM (m : List (List F32)) : List (List Nat) := m.map (fun r => r.map toBf)

/-- Two matrices combined element by element. -/
def zipM {α β γ : Type} (f : α → β → γ) (a : List (List α)) (b : List (List β)) : List (List γ) := List.zipWith (fun x y => List.zipWith f x y) a b

/-- frob (R302): each row summed under R148, the row sums added in ascending row order. -/
def frob (m : List (List F32)) : F32 := f32Sqrt (ascSum (m.map euSumSq))

/-- One iteration of ORTHO (R302). -/
def orthoStep (r : Rule) (q : Nat) (x : List (List Nat)) : List (List Nat) :=
  let a := bfM (mulT x x)
  let b := bfM (zipM (fun p v => f32Fma r.nsc p (f32Mul r.nsb (bfVal v))) (mulT a a) a)
  bfM (zipM (fun v p => f32Fma r.nsa (bfVal v) p) x (mulT b (transposeM 0 q x)))

/-- A function applied `n` times. -/
def iterate {α : Type} (f : α → α) : Nat → α → α
  | 0, x => x
  | n + 1, x => iterate f n (f x)

/-- The direction of ORTHO from the decoded momentum, in W's orientation (R302). -/
def orthoDirection (r : Rule) (m : List (List F32)) : List (List Nat) :=
  let turn := decide (r.k < r.n)
  let m := if turn then transposeM 0 r.k m else m
  let q := max r.n r.k
  let f := f32Add (frob m) r.eps
  let x := iterate (orthoStep r q) r.iter (bfM (m.map (fun row => row.map (fun v => f32Div v f))))
  if turn then transposeM 0 r.n x else x

/-- The `n` × `n` matrix with `d` on its diagonal and `o` elsewhere. -/
def diagM {α : Type} (n : Nat) (d o : α) : List (List α) := (numsFrom 0 n).map (fun i => (numsFrom 0 n).map (fun j => if i = j then d else o))

/-- invroot4 of a symmetric matrix of `n` rows (R304). -/
def invroot4 (iter n : Nat) (a : List (List F32)) : List (List Nat) :=
  let s := f32Mul 0x3ECCCCCD (frob a)
  let y0 := bfM (diagM n (exp2F (f32Mul 0xBE800000 (log2F s))) 0)
  let z0 := bfM (a.map (fun r => r.map (fun v => f32Div v s)))
  (iterate (fun (yz : List (List Nat) × List (List Nat)) =>
    let v := bfM (zipM (fun i z => f32Div (f32Sub i (bfVal z)) 0x40800000) (diagM n 0x40A00000 0) yz.2)
    let v2 := bfM (mulT v v)
    let v3 := bfM (mulT v2 v)
    let v4 := bfM (mulT v3 v)
    (bfM (mulT yz.1 v), bfM (mulT v4 yz.2))) iter (y0, z0)).1

/-- What PREP computes of PRECOND: L', R', PL', PR' and the direction (R304). -/
structure Precond where
  l : List (List F32)
  r : List (List F32)
  pl : List (List Nat)
  pr : List (List Nat)
  x : List (List Nat)
  deriving DecidableEq, Repr

/-- PREP of PRECOND from the decoded momentum, the gradient and the four items of STATE (R304). -/
def precondStep (r : Rule) (d t : Nat) (m g : List (List F32)) (l rr : List (List F32)) (pl pr : List (List Nat)) : Precond :=
  let gb := bfM g
  let gt := transposeM 0 r.k gb
  let decay (v : F32) : F32 := if 0 < d then f32Mul v (powF r.b2 d) else v
  let l1 := zipM (fun a p => f32Fma r.b2 (decay a) p) l (mulT gb gb)
  let r1 := zipM (fun a p => f32Fma r.b2 (decay a) p) rr (mulT gt gt)
  let fresh := decide ((t - 1) % max 1 r.period = 0)
  let pl1 := if fresh then invroot4 r.iter r.n (zipM f32Add l1 (diagM r.n r.eps 0)) else pl
  let pr1 := if fresh then invroot4 r.iter r.k (zipM f32Add r1 (diagM r.k r.eps 0)) else pr
  let tm := bfM (mulT pl1 (transposeM 0 r.k (bfM m)))
  ⟨l1, r1, pl1, pr1, bfM (mulT tm pr1)⟩

/-! PREP (R301 to R304). -/

/-- Rows of a matrix from a flat list. -/
def rowsOf {α : Type} (n : Nat) (l : List α) : List (List α) := chunksOf n l.length l

/-- FP32 values from bytes. -/
def f32List (bs : List Byte) : List F32 := (elementsOf 4 bs).map (fun b => BitVec.ofNat 32 (leNat b))

/-- bfloat16 codes from bytes. -/
def bfList (bs : List Byte) : List Nat := (elementsOf 2 bs).map leNat

/-- Bytes of bfloat16 codes. -/
def bfBytes (l : List Nat) : List Byte := (l.map (leBytes 2)).flatten

/-- Bytes of FP32 values. -/
def f32Bytes (l : List F32) : List Byte := (l.map (fun x => leBytes 4 x.toNat)).flatten

/-- The reads of PREP: the G8R planes, M1 with its scales, and STATE (R301). -/
def State.prepReads (s : State) (r : Rule) (e : Nat) : List (Nat × Nat) :=
  let h := s.gHeader r.g
  let i0 := e * r.matLen
  let l := r.matLen
  [(gValue h + i0, l), (gResid h + i0, l), (gScale h + i0 / 32, l / 32), (r.m1 + i0, l), (r.m1 + scaleAfter r.ne + i0 / 32, l / 32)] ++
  (if r.kind = 4 then (numsFrom 0 4).map (fun i => (r.stateAt e i, r.stateParts.getD i 0)) else [])

/-- What PREP writes to WORK (R302, R304): the codes of m' with their scales, the direction X, and for PRECOND the new items of STATE. -/
def State.prepWrites (s : State) (r : Rule) (step t : Nat) (mat : SweepMat) (bss : List (List Byte)) : List (Nat × List Byte) :=
  let b (i : Nat) : List Byte := bss.getD i []
  let i0 := mat.e * r.matLen
  let xs := codesOf (b 2)
  let g := (List.zip (codesOf (b 0)) (codesOf (b 1))).zipIdx.map (fun p => gradOf r.full (xs.getD (p.2 / 32) 0) p.1.1 p.1.2)
  let m := (momentVals decodeM8S (codesOf (b 3)) (codesOf (b 4))).map (fun v => if 0 < mat.d then f32Mul v (powF r.b1 mat.d) else v)
  let m1 := List.zipWith (fun a v => f32Fma r.b1 a v) m g
  let enc := (by32 m1).zipIdx.map (fun p => encodeM8S ((numsFrom 0 32).map (fun k => s.sweepDraw r step 1 (i0 + 32 * p.2 + k))) (p.1.map ofF32))
  let codes := (enc.map (fun c => c.2.1)).flatten
  let scales := enc.map (fun c => c.1)
  let dec := rowsOf r.k (momentVals decodeM8S codes scales)
  let head := [(r.workAt 0, bytesOfCodes codes), (r.workAt 0 + scaleAfter r.matLen, bytesOfCodes scales)]
  if r.kind = 3 then head ++ [(r.workAt 1, bfBytes (orthoDirection r dec).flatten)]
  else
    let p := precondStep r mat.d t dec (rowsOf r.k g) (rowsOf r.n (f32List (b 5))) (rowsOf r.k (f32List (b 6))) (rowsOf r.n (bfList (b 7))) (rowsOf r.k (bfList (b 8)))
    head ++ [(r.workAt 1, bfBytes p.x.flatten), (r.workAt 5, f32Bytes p.l.flatten), (r.workAt 7, bfBytes p.pl.flatten), (r.workAt 11, f32Bytes p.r.flatten), (r.workAt 13, bfBytes p.pr.flatten)]

/-! Commit groups (R298, R299, R305, R306). -/

/-- First element and number of elements of block `b` of matrix `e` of a rule. -/
def Rule.blockSpan (r : Rule) (e b : Nat) : Nat × Nat := (e * r.matLen + 4096 * b, min 4096 (r.matLen - 4096 * b))

/-- The reads of a commit group: weights, G8R planes, moments, and for a matrix rule X and the codes of m' in WORK. -/
def State.groupReads (s : State) (r : Rule) (e b : Nat) : List (Nat × Nat) :=
  let sp := r.blockSpan e b
  let i := sp.1
  let n := sp.2
  let h := s.gHeader r.g
  let moment (a : Nat) : List (Nat × Nat) := [(a + i, n), (a + scaleAfter r.ne + i / 32, n / 32)]
  let loc := 4096 * b
  [(r.w + 2 * i, 2 * n), (gValue h + i, n), (gResid h + i, n), (gScale h + i / 32, n / 32)] ++
  (match r.kind with
    | 1 => moment r.m1
    | 2 => moment r.m1 ++ moment r.m2
    | 5 => []
    | _ => [(r.workAt 0 + loc, n), (r.workAt 0 + scaleAfter r.matLen + loc / 32, n / 32), (r.workAt 1 + 2 * loc, 2 * n)])

/-- The new weights and moments of a commit group: weight codes, and the writes of the moments (R299). -/
def State.groupUpdate (s : State) (r : Rule) (ws : List Word) (t : Nat) (mat : SweepMat) (i : Nat) (bss : List (List Byte)) : List Nat × List (Nat × List Byte) :=
  let b (k : Nat) : List Byte := bss.getD k []
  let step := swStep ws
  let rates := ratesOf r ws
  let xs := codesOf (b 3)
  let w := bfList (b 0)
  let g := (List.zip (codesOf (b 1)) (codesOf (b 2))).zipIdx.map (fun p => gradOf r.full (xs.getD (p.2 / 32) 0) p.1.1 p.1.2)
  let m1 := if r.kind = 1 ∨ r.kind = 2 then momentVals decodeM8S (codesOf (b 4)) (codesOf (b 5)) else []
  let m2 := if r.kind = 2 then momentVals decodeM8U (codesOf (b 6)) (codesOf (b 7)) else []
  let dir := if r.matrix then bfList (b 6) else []
  let out := w.zipIdx.map (fun c => laneStep r rates.1 rates.2 mat.d t (bfVal (dir.getD c.2 0)) ⟨bfVal c.1, g.getD c.2 0, m1.getD c.2 0, m2.getD c.2 0⟩)
  let newW := out.zipIdx.map (fun o => ((FmtRow.ofBuiltin 2 1).encodeElt (s.sweepDraw r step 0 (i + o.2)) (ofF32 o.1.w)).1)
  let draws (role k : Nat) : List Nat := (numsFrom 0 32).map (fun q => s.sweepDraw r step role (i + 32 * k + q))
  let put (a : Nat) (enc : List (Nat × List Nat × List EncEvent)) : List (Nat × List Byte) :=
    [(a + i, bytesOfCodes (enc.map (fun c => c.2.1)).flatten), (a + scaleAfter r.ne + i / 32, bytesOfCodes (enc.map (fun c => c.1)))]
  let e1 := (by32 (out.map (·.m1))).zipIdx.map (fun p => encodeM8S (draws 1 p.2) (p.1.map ofF32))
  let e2 := (by32 (out.map (·.m2))).zipIdx.map (fun p => encodeM8U (draws 2 p.2) (p.1.map ofF32))
  match r.kind with
  | 1 => (newW, put r.m1 e1)
  | 2 => (newW, put r.m1 e1 ++ put r.m2 e2)
  | 5 => (w, [])
  | _ => (newW, [(r.m1 + i, b 4), (r.m1 + scaleAfter r.ne + i / 32, b 5)])

/-- The carry writes of a commit group: the G8R buffer, and its copy when RESTORE is COPY (R298, R306). -/
def State.carryWrites (s : State) (r : Rule) (i : Nat) (bss : List (List Byte)) : List (Nat × List Byte) :=
  let qs := by32 (codesOf (bss.getD 2 []))
  let xs := codesOf (bss.getD 3 [])
  let cs := qs.zipIdx.map (fun q => carryOf r.full (xs.getD q.2 0) q.1)
  let put (h : List Word) : List (Nat × List Byte) :=
    [(gValue h + i, bytesOfCodes (cs.map (fun c => c.2.1)).flatten), (gResid h + i, bytesOfCodes (cs.map (fun c => c.2.2)).flatten), (gScale h + i / 32, bytesOfCodes (cs.map (fun c => c.1)))]
  put (s.gHeader r.g) ++ (if r.restore = 1 then put (s.gHeader r.ccopy) else [])

/-- The copy from WORK to STATE of state block `b` of matrix `e` (R304): source, destination and bytes of each item's part. -/
def Rule.stateMoves (r : Rule) (e b : Nat) : List (Nat × Nat × Nat) :=
  let counts := [r.n * r.n, r.k * r.k, r.n * r.n, r.k * r.k]
  let src := [r.workAt 5, r.workAt 11, r.workAt 7, r.workAt 13]
  let width (i : Nat) : Nat := if i < 2 then 4 else 2
  (numsFrom 0 4).filterMap (fun i =>
    let before := (counts.take i).foldl (· + ·) 0
    let lo := max before (4096 * b)
    let hi := min (before + counts.getD i 0) (4096 * b + 4096)
    if lo < hi then some (src.getD i 0 + width i * (lo - before), r.stateAt e i + width i * (lo - before), width i * (hi - lo)) else none)

/-- The place in the bitmap of block `b` of matrix `e`: a weight block, or a state block behind them (R305). -/
def Rule.bitOf (r : Rule) (e b : Nat) : Nat :=
  if b < r.matBlocks then r.prepBits + e * r.matBlocks + b else r.prepBits + r.blocks + e * r.stateBlocks + (b - r.matBlocks)

/-! The course of a job (R292, R301, R305 to R308, R310). -/

/-- The matrices a rule's sweep touches, from its visit area as read (R300): bitmap, then LAST. -/
def State.touched (s : State) (d : Nat) (r : Rule) (step : Nat) (bs : List Byte) : List (SweepMat × Nat) :=
  let ac := s.acOf d
  let base := 16 * ceilDiv r.experts 128
  ((numsFrom 0 r.experts).filter (fun e => (bs.getD (e / 8) 0).getLsbD (e % 8))).map (fun e =>
    let last := word32At bs (base + 4 * e)
    (⟨e, if last = 0xFFFFFFFF then 0 else if step - last ≤ 65535 then ac - s.appliedAt d last else step - last - 1⟩, last))

/-- Catch-up counters of the touched experts (UPD_CATCH). -/
def State.countCatch (s : State) (d step : Nat) (ms : List (SweepMat × Nat)) : State :=
  ms.foldl (fun (s : State) m =>
    let s := if 0 < m.1.d then s.count (Fld.UPD_CATCH_EXPERTS d) 1 else s
    if m.2 = 0xFFFFFFFF then s.count (Fld.UPD_CATCH_NEVER d) 1 else if 65535 < step - m.2 then s.count (Fld.UPD_CATCH_WIDE d) 1 else s) s

/-- A rule ended: DONEMARK raised, and the next rule to begin (R307, R308). -/
def State.endRule (s : State) (j n : Nat) (r : Rule) : State :=
  ((s.raiseMark r.donetile r.donemark 1).ruleMod n (fun x => { x with phase := 0 })).sweepMod j (fun x => { x with ended := x.ended + 1, phase := .start, mats := [], block := 0 })

/-- The phase in which a matrix begins: PREP unless it is prepared or its rule has none (R301, R305). -/
def State.firstPhase (s : State) (ws : List Word) (r : Rule) (mats : List SweepMat) : SweepPhase :=
  match mats with
  | m :: _ => if r.matrix ∧ ¬ s.commitBit ws r m.e then .prep else .commit
  | [] => .commit

/-- A job whose last rule has ended: DONE and waiting for FINAL, or completed (R293, R310). -/
def State.sweepEnd (s : State) (j : Nat) (e : JEntry) : State :=
  match sfind s.sweep.jobs j with
  | none => s
  | some r =>
    if r.ended < swRules e.words then s
    else if swFinal e.words then s.sweepMod j (fun r => { r with st := .done })
    else s.finishSweep j r.goodEnd

/-- Rules begun as long as they have nothing to sweep; `fuel` of them at most (R300, R307). -/
def State.beginRules (s : State) (j d : Nat) (e : JEntry) : Nat → State
  | 0 => s
  | fuel + 1 =>
    match sfind s.sweep.jobs j with
    | none => s
    | some r =>
      if swRules e.words ≤ r.ended then s.sweepEnd j e
      else
        match s.ruleInHand e r with
        | none => s.finishSweep j .memError
        | some (n, u) =>
          let step := swStep e.words
          match s.readAll j (if u.experts = 0 then [] else [(u.visit, visitLen u.experts)]) [] with
          | (.bad, s) => s.finishSweep j .memError
          | (.waits, s) => s
          | (.data bss, s) =>
            let ms := if u.experts = 0 then [((⟨0, 0⟩ : SweepMat), 0)] else s.touched d u step (bss.headD [])
            let s := if u.experts = 0 then s else s.countCatch d step ms
            let mats := ms.map (·.1)
            let s := s.ruleMod n (fun _ => ⟨step, 0, 0⟩)
            let s := s.sweepMod j (fun r => { r with mats := mats, block := 0, phase := s.firstPhase e.words u mats, caught := r.caught + (mats.filter (fun m => decide (0 < m.d))).length })
            if mats.isEmpty then (s.endRule j n u).beginRules j d e fuel else s

/-- The matrix in hand finished: the next one begins, or the rule ends and the next rules begin (R301, R307). -/
def State.nextMatrix (s : State) (j d n : Nat) (e : JEntry) (u : Rule) : State :=
  match sfind s.sweep.jobs j with
  | none => s
  | some r =>
    match r.mats.drop 1 with
    | [] => (s.endRule j n u).beginRules j d e (swRules e.words + 1)
    | l => s.sweepMod j (fun r => { r with mats := l, block := 0, phase := s.firstPhase e.words u l })

/-- Blocks of the matrix in hand whose bits are set, skipped (R306). -/
def State.skipBlocks (s : State) (j d : Nat) (e : JEntry) (u : Rule) (m : SweepMat) : Nat → State
  | 0 => s
  | fuel + 1 =>
    match sfind s.sweep.jobs j with
    | none => s
    | some r =>
      if r.block < u.matBlocks + u.stateBlocks ∧ s.commitBit e.words u (u.bitOf m.e r.block) then
        let again := decide (1 < e.disp)
        let s := if again then s.count (Fld.UPD_BLKCNT_REPLAYSKIP d) 1 else s
        (s.sweepMod j (fun r => { r with block := r.block + 1, skipped := r.skipped + b2n again })).skipBlocks j d e u m fuel
      else s

/-- After the last block of a matrix: its copies, or the next matrix (R301, R307). -/
def State.afterBlocks (s : State) (j d n : Nat) (e : JEntry) (u : Rule) : State :=
  match sfind s.sweep.jobs j with
  | none => s
  | some r =>
    if r.block < u.matBlocks + u.stateBlocks then s
    else if u.copies then s.sweepMod j (fun r => { r with phase := .copy })
    else s.nextMatrix j d n e u

/-- Whether every layer slot of every cluster in service has closed a step (R292). -/
def State.allClosed (s : State) (step : Nat) : Bool :=
  !(s.drover.layers.any (fun l => s.clusterOn (l.1 / 64) && l.2.step == some step))

/-- The verdict that the vote log holds for a step: 1 apply, 2 skip (R284, R292). -/
def State.sweepVerdict (s : State) (step : Nat) : Option Nat :=
  ((s.net.vote.log.map Verdict.ofWords).find? (fun r => r.step == step && (r.verdict == 1 || r.verdict == 2))).map (·.verdict)

/-- The restore of one rule's G8R buffer (R308). -/
def State.restoreRule (s : State) (j : Nat) (r : Rule) : Put × State :=
  let h := s.gHeader r.g
  let n := gN h
  let dests := [(gValue h, n), (gResid h, n), (gScale h, n / 32)]
  let c := s.gHeader r.ccopy
  match s.readAll j ((r.g, 64) :: (if r.restore = 1 then [(r.ccopy, 64), (gValue c, n), (gResid c, n), (gScale c, n / 32)] else [])) [] with
  | (.bad, s) => (.bad, s)
  | (.waits, s) => (.waits, s)
  | (.data bss, s) =>
    s.putDurable (if r.restore = 1 then List.zipWith (fun a bs => (a.1, bs)) dests (bss.drop 2) else dests.map (fun a => (a.1, List.replicate a.2 0)))

/-- The rules of a job restored one after the other, from the first not restored; `fuel` of them at most (R308). -/
def State.restoreRules (s : State) (j d : Nat) (e : JEntry) : Nat → State
  | 0 => s
  | fuel + 1 =>
    match sfind s.sweep.jobs j with
    | none => s
    | some r =>
      match s.ruleInHand e r with
      | none => s.finishSweep j .memError
      | some (n, u) =>
        match s.restoreRule j u with
        | (.bad, s) => s.finishSweep j .memError
        | (.waits, s) => s
        | (.done, s) =>
          let s := ((s.count (Fld.UPD_RESTORE_RULES d) 1).ruleMod n (fun _ => ⟨swStep e.words, 0, 0⟩)).endRule j n u
          match sfind s.sweep.jobs j with
          | some r => if swRules e.words ≤ r.ended then s.sweepEnd j e else s.restoreRules j d e fuel
          | none => s

/-- A job that holds its verdict and its closes begins its sweep or its restore (R292, R305); nothing while another job of the sequencer is at work. -/
def State.startSweep (s : State) (j d : Nat) (e : JEntry) : State :=
  let step := swStep e.words
  match s.sweepVerdict step with
  | none => s
  | some v =>
    if ¬ s.allClosed step ∨ (s.seqJobs d).any (fun r => r.2.st == .sweep || r.2.st == .restore) then s
    else if v = 2 then (s.sweepMod j (fun r => { r with st := .restore, skip := true, ended := 0 })).restoreRules j d e (swRules e.words)
    else
      let fresh := !swResume e.words && !((sfind s.sweep.jobs j).map (·.cleared)).getD true
      let s := if fresh then ((numsFrom (swFirst e.words) (swRules e.words)).filterMap s.rule).foldl (fun (s : State) u => s.clearBits e.words u) s else s
      (s.sweepMod j (fun r => { r with st := .sweep, cleared := r.cleared || fresh, ended := 0, phase := .start, mats := [], block := 0 })).beginRules j d e (swRules e.words + 1)

/-- SWEEP: a job leaves WAIT once its slots are satisfied, and once it holds its verdict and the closes it sweeps its rules on APPLY or restores their buffers on SKIP (R291, R292, R308). -/
def execSweep (jseq : Nat) (s : State) : Host.Outcome State Fault Refusal :=
  match s.sweepOf jseq with
  | none => .next s
  | some (e, r) =>
    match r.st with
    | .wait =>
      if s.flag (Fld.UPD_CTL_HOLD r.seq) ∨ ¬ s.gate jseq e then .next s
      else if s.waitPoisoned e then .next ((s.jmod jseq (fun e => { e with st := .dispatched, disp := e.disp + 1 })).finishSweep jseq .cancelled)
      else if ¬ s.waitsOk e then .next s
      else
        let s := (s.consumeWaits e.srcTile e.waits).jmod jseq (fun e => { e with st := .dispatched, disp := e.disp + 1 })
        let s := s.sweepMod jseq (fun r => { r with st := .verdict })
        .next (s.startSweep jseq r.seq { e with st := .dispatched, disp := e.disp + 1 })
    | .verdict => .next (s.startSweep jseq r.seq e)
    | .sweep => if r.phase = .start then .next (s.beginRules jseq r.seq e (swRules e.words + 1)) else .next s
    | .restore => .next (s.restoreRules jseq r.seq e (swRules e.words))
    | .done => .next s

/-- The rule and the matrix that a sweeping job has in hand, in a phase. -/
def State.inHand (s : State) (j : Nat) (p : SweepPhase) : Option (JEntry × SweepRun × Nat × Rule × SweepMat) :=
  match s.sweepOf j with
  | none => none
  | some (e, r) =>
    match s.ruleInHand e r, r.mats with
    | some (n, u), m :: _ => if r.st = .sweep ∧ r.phase = p then some (e, r, n, u, m) else none
    | _, _ => none

/-- PREP: the momentum and the direction of a matrix rule's matrix are computed into WORK, and its PREPARED bit is set (R301 to R305). -/
def execPrep (jseq : Nat) (s : State) : Host.Outcome State Fault Refusal :=
  match s.inHand jseq .prep with
  | none => .next s
  | some (e, r, n, u, m) =>
    match s.readAll jseq ((u.g, 64) :: s.prepReads u m.e) [] with
    | (.bad, s) => .next (s.finishSweep jseq .memError)
    | (.waits, s) => .next s
    | (.data bss, s) =>
      match s.putDurable (s.prepWrites u (swStep e.words) (s.acOf r.seq + 1) m (bss.drop 1) ++ [s.bitWrite e.words u m.e]) with
      | (.bad, s) => .next (s.finishSweep jseq .memError)
      | (.waits, s) => .next s
      | (.done, s) => .next ((s.ruleMod n (fun x => { x with phase := 1 })).sweepMod jseq (fun r => { r with phase := .commit }))

/-- A commit group's writes made as one durable change, and what follows it (R306, R491). -/
def State.commitGroup (s : State) (j d n : Nat) (e : JEntry) (u : Rule) (m : SweepMat) (b : Nat) (ws : List (Nat × List Byte)) (delta : State → State) : State :=
  match s.putDurable (ws ++ [s.bitWrite e.words u (u.bitOf m.e b)]) with
  | (.bad, s) => s.finishSweep j .memError
  | (.waits, s) => s
  | (.done, s) =>
    let s := (delta s).count (Fld.UPD_BLKCNT_COMMITTED d) 1
    let s := s.ruleMod n (fun x => { x with phase := 2, blocks := min (2 ^ 28 - 1) (x.blocks + 1) })
    (s.sweepMod j (fun r => { r with block := b + 1, committed := r.committed + 1, stalled := false })).afterBlocks j d n e u

/-- COMMIT_GROUP: the next block of the matrix in hand is computed and committed with its difference-stream chunk (R298, R299, R306, R491, R493). -/
def execCommitGroup (jseq : Nat) (s : State) : Host.Outcome State Fault Refusal :=
  match s.inHand jseq .commit with
  | none => .next s
  | some (e, r, n, u, m) =>
    let d := r.seq
    let s := s.skipBlocks jseq d e u m (u.matBlocks + u.stateBlocks)
    let b := ((sfind s.sweep.jobs jseq).map (·.block)).getD 0
    if u.matBlocks + u.stateBlocks ≤ b then .next (s.afterBlocks jseq d n e u)
    else if u.matBlocks ≤ b then
      let mv := u.stateMoves m.e (b - u.matBlocks)
      match s.readAll jseq (mv.map (fun x => (x.1, x.2.2))) [] with
      | (.bad, s) => .next (s.finishSweep jseq .memError)
      | (.waits, s) => .next s
      | (.data bss, s) => .next (s.commitGroup jseq d n e u m b (List.zipWith (fun x bs => (x.2.1, bs)) mv bss) id)
    else
      let s := s.flushDiff
      let room := s.groupRoom
      if ¬ room ∧ ¬ s.flag Fld.DIF_CTL_OVFL then
        .next ((if r.stalled then s else s.count Fld.DIF_STALL_COUNT 1).sweepMod jseq (fun r => { r with stalled := true }))
      else
        match s.readAll jseq ((u.g, 64) :: s.groupReads u m.e b) [] with
        | (.bad, s) => .next (s.finishSweep jseq .memError)
        | (.waits, s) => .next s
        | (.data bss, s) =>
          let i := (u.blockSpan m.e b).1
          let bss := bss.drop 1
          let up := s.groupUpdate u e.words (s.acOf d + 1) m i bss
          let newW := bfBytes up.1
          .next (s.commitGroup jseq d n e u m b ([(u.w + 2 * i, newW)] ++ up.2 ++ s.carryWrites u i bss)
            (fun s => s.stageDelta room d n (swStep e.words) (i / 4096) (bss.headD []) newW))

/-- The codes and scale codes of one copy row: `js` are the rule's element indices in the row's order (R299, R307). -/
def State.copyRow (s : State) (r : Rule) (f : FmtRow) (step role : Nat) (js ws : List Nat) : List Nat × List Nat :=
  let vs := ws.map (fun c => ofF32 (bfVal c))
  let ds := js.map (fun j => if f.encode = 1 then s.sweepDraw r step role j else 0)
  if f.scaled then
    let bs := List.zipWith (fun d v => f.encodeBlock d v) (by32 ds) (by32 vs)
    ((bs.map (·.2.1)).flatten, bs.map (·.1))
  else ((List.zipWith f.encodeElt ds vs).map (·.1), [])

/-- The writes of one copy of a matrix (R295, R307): `turned` for copy B. -/
def State.copyWrites (s : State) (r : Rule) (step e : Nat) (turned : Bool) (w : List Nat) : List (Nat × List Byte) :=
  let f := s.fmt (if turned then r.rowB else r.rowA)
  let base := if turned then r.cb else r.ca
  let i0 := e * r.matLen
  let idx := rowsOf r.k (numsFrom i0 r.matLen)
  let rows := rowsOf r.k w
  let js := if turned then transposeM 0 r.k idx else idx
  let vs := if turned then transposeM 0 r.k rows else rows
  let out := List.zipWith (fun j v => s.copyRow r f step (if turned then 4 else 3) j v) js vs
  [(base + i0 * f.bitsOf / 8, packCodes f.bitsOf (out.map (·.1)).flatten)] ++
  (if f.scaled then [(base + scaleAfter (r.ne * f.bitsOf / 8) + i0 / 32, bytesOfCodes (out.map (·.2)).flatten)] else [])

/-- The copies of a matrix made from its committed weights (R307). -/
def State.copyMatrix (s : State) (j : Nat) (r : Rule) (step e : Nat) : Put × State :=
  match s.readAll j [(r.w + 2 * e * r.matLen, 2 * r.matLen)] [] with
  | (.bad, s) => (.bad, s)
  | (.waits, s) => (.waits, s)
  | (.data bss, s) =>
    let w := bfList (bss.headD [])
    s.putDurable ((if r.copyA then s.copyWrites r step e false w else []) ++ (if r.copyB then s.copyWrites r step e true w else []))

/-- SWEEP_COPY: copies A and B of the matrix in hand are written from its committed weights; at the rule's end DONEMARK rises (R301, R307). -/
def execSweepCopy (jseq : Nat) (s : State) : Host.Outcome State Fault Refusal :=
  match s.inHand jseq .copy with
  | none => .next s
  | some (e, r, n, u, m) =>
    match s.copyMatrix jseq u (swStep e.words) m.e with
    | (.bad, s) => .next (s.finishSweep jseq .memError)
    | (.waits, s) => .next s
    | (.done, s) => .next ((s.ruleMod n (fun x => { x with phase := 3 })).nextMatrix jseq r.seq n e u)

/-- ACTAB written after a step (R293): the step's entry, LASTSTEP, AC and LASTV. -/
def State.actabWrites (s : State) (d step ac : Nat) : List (Nat × List Byte) :=
  [(s.actab d, bytesOfWords [wordOf [(32, 32, step), (0, 32, ac)], 1]), (s.actab d + 64 + 4 * (step % 65536), leBytes 4 ac)]

/-- FINAL: when every other job of the step has completed, ACTAB is updated, the open sweep step advances, the STEP_END is staged and the job commits (R293, R492). -/
def execFinal (jseq : Nat) (s : State) : Host.Outcome State Fault Refusal :=
  match s.sweepOf jseq with
  | none => .next s
  | some (e, r) =>
    let step := swStep e.words
    if ¬ swFinal e.words ∨ r.st ≠ .done ∨ (s.seqJobs r.seq).any (fun x => decide (x.1 ≠ jseq) && s.cmdIs x.1 (fun f => swStep f.words == step)) then .next s
    else
      let s := s.flushDiff
      if ¬ s.stepEndRoom then .next s
      else
        let ac := s.acOf r.seq + (if r.skip then 0 else 1)
        match s.putDurable (s.actabWrites r.seq step (ac % 2 ^ 32)) with
        | (.bad, s) => .next (s.finishSweep jseq .memError)
        | (.waits, s) => .next s
        | (.done, s) =>
          let s := s.stageStepEnd r.seq step (if r.skip then 2 else 1) (ac % 2 ^ 32)
          .next (s.finishSweep jseq r.goodEnd)

end Sys2Proof.Machine
end

