-- ==== Sys2Proof/Machine/Accept.lean ====
section
/-! DEFINITION. Acceptance of submission entries (R456 to R464): envelopes and FORWARD groups, targets, the acceptance checks of host operations and of the collective unit, and RING_STAT. -/

set_option Elab.async false

namespace Sys2Proof.Machine

/-! The envelope (R457). -/

/-- TKIND of a FORWARD. -/
def envKind (ws : List Word) : Nat := bits (wget ws 0) 53 3
/-- TINDEX of a FORWARD. -/
def envIndex (ws : List Word) : Nat := bits (wget ws 0) 39 14
/-- COUNT of a FORWARD. -/
def envCount (ws : List Word) : Nat := bits (wget ws 0) 34 5
/-- EC of an entry. -/
def envEc (ws : List Word) : Nat := bits (wget ws 0) 32 2
/-- TASK of an entry. -/
def envTask (ws : List Word) : Nat := bits (wget ws 0) 16 16
/-- FSCOPE of an entry. -/
def envScope (ws : List Word) : Nat := bits (wget ws 0) 14 2
/-- IRQ of an entry. -/
def envIrq (ws : List Word) : Bool := bit (wget ws 0) 13

/-- Whether a FORWARD envelope with commands is malformed (R461): a field it does not use is not zero. -/
def envMalformed (ws : List Word) : Bool :=
  envEc ws != 0 || envScope ws != 0 || bits (wget ws 0) 0 13 != 0 || (numsFrom 2 14).any (fun i => wget ws i != 0)

/-! Host operations (R458). -/

/-- The effect class of a host operation (R458). -/
def hostEc (op : Nat) : Nat := if op = 5 then 2 else 0

/-- LEN16 of a WRITE_INLINE. -/
def inlineLen (ws : List Word) : Nat := bits (wget ws 2) 0 3
/-- DST of a WRITE_INLINE. -/
def inlineDst (ws : List Word) : Nat := udaField ws 2
/-- HOST of an HCOPY. -/
def copyHost (ws : List Word) : Nat := (wget ws 4).toNat
/-- The UDA of an HCOPY. -/
def copyUda (ws : List Word) : Nat := udaField ws 5
/-- LEN of an HCOPY. -/
def copyLen (ws : List Word) : Nat := (wget ws 6).toNat

/-- Whether a host operation's body breaks a rule of R458. -/
def hostBodyBad (op : Nat) (ws : List Word) : Bool :=
  let zeroOn (a : Nat) : Bool := (numsFrom a (16 - a)).any (fun i => wget ws i != 0)
  if op = 3 then decide (inlineLen ws = 0 ∨ 6 < inlineLen ws) || bits (wget ws 2) 3 13 != 0 || zeroOn (4 + 2 * inlineLen ws)
  else if op = 4 ∨ op = 5 then
    decide (copyHost ws % 16 ≠ 0) || bits (wget ws 5) 0 16 != 0 || decide (copyLen ws % 16 ≠ 0 ∨ 2 ^ 40 ≤ copyLen ws) || zeroOn 7
  else zeroOn 4

/-- The acceptance checks of a host operation other than FORWARD, and whether the refusal lies in its signal slots (R15, R457, R458). -/
def State.hostCheck (s : State) (ws : List Word) : Check × Bool :=
  let op := hostOp ws
  let src := bits (wget ws 3) 58 6
  let dst := bits (wget ws 3) 52 6
  let waits := if op = 3 then 0 else wget ws 2
  let sl := s.slotRules src dst waits (wget ws 3)
  let fence := decide (op = 6 ∨ op = 7)
  let n := if op = 3 then 16 * inlineLen ws else copyLen ws
  let a := if op = 3 then inlineDst ws else copyUda ws
  let addr : List AddrFault :=
    if (op = 3 ∨ op = 4 ∨ op = 5) ∧ 0 < n then
      (s.checkRange (if op = 5 then .read else .write) (if op = 3 then 0x10 else 0x28) (a : Int) ((a + n - 1 : Nat) : Int)).toList
    else []
  (Check.all [
    shapeIf (decide (op = 0 ∨ 7 < op) || envEc ws != hostEc op),
    shapeIf (bits (wget ws 0) 34 22 != 0 || bits (wget ws 0) 0 13 != 0 || bits (wget ws 3) 32 20 != 0),
    shapeIf (if fence then envScope ws == 3 else envScope ws != 0),
    shapeIf (hostBodyBad op ws || sl.1),
    shapeIf (((usedSlots (waitSlots waits)).isEmpty && src != 0) || ((usedSlots (sigSlots (wget ws 3))).isEmpty && dst != 0)),
    zeroIf ((op == 4 || op == 5) && copyLen ws == 0),
    { Check.good with addr := addr }], sl.2)

/-! The collective unit (R280, R419). -/

/-- Whether the collective and exchange unit's entry has ENABLED at 1 (R54, R87). -/
def State.collectiveOn (s : State) : Bool := s.herdValid

/-- Commands of the collective unit in the journal with an operation and a key. -/
def State.colPending (s : State) (op : Nat) (key : Option Nat) : Nat :=
  (s.journal.filter (fun e => e.2.target == .collective && colOp e.2.words == op && (match key with
    | some k => colKey e.2.words == k
    | none => true))).length

/-- The fields that VOTE_SEAL and REDUCE share: whether they break a rule, and whether the break lies in the signal slots (R280). -/
def State.colCommon (s : State) (ws : List Word) (used : Nat) : Bool × Bool :=
  let sl := s.slotRules (bits (wget ws 0) 46 6) (bits (wget ws 0) 40 6) (wget ws 2) (wget ws 3)
  (sl.1 || bits (wget ws 0) 54 2 != 0 || bits (wget ws 0) 52 2 != 2 || bits (wget ws 0) 32 8 != 0 || wget ws 1 != 0 || bits (wget ws 3) 32 32 != 0 ||
    bits (wget ws 4) 0 16 != 0 || (numsFrom used (16 - used)).any (fun i => wget ws i != 0), sl.2)

/-- The acceptance checks of a VOTE_SEAL (R280). -/
def State.sealCheck (s : State) (ws : List Word) : Check × Bool :=
  let c := s.colCommon ws 5
  let loss := colSrc ws
  (Check.all [
    shapeIf (c.1 || !s.collectiveOn),
    shapeIf (s.net.vote.opened && colKey ws != s.openStep),
    shapeIf (decide (0 < s.colPending 1 (some (colKey ws))) || (s.net.vote.opened && colKey ws == s.openStep && s.net.vote.sealed_)),
    { Check.good with addr := if loss = 0 then [] else (s.checkRange .read 0x20 (loss : Int) ((loss + 15 : Nat) : Int)).toList }], c.2)

/-- The acceptance checks of a REDUCE (R419). -/
def State.reduceCheck (s : State) (ws : List Word) : Check × Bool :=
  let c := s.colCommon ws 7
  let n := redCount ws
  let rng (o : UdaOp) (field a : Nat) : List AddrFault := if n = 0 then [] else (s.checkRange o field (a : Int) ((a + 8 * n - 1 : Nat) : Int)).toList
  (Check.all [
    shapeIf (c.1 || !s.collectiveOn || bits (wget ws 5) 0 16 != 0 || bits (wget ws 6) 0 56 != 0),
    shapeIf (decide (n = 0 ∨ 26 < n) || decide (4 < redRop ws)),
    shapeIf (decide (0 < s.colPending 2 (some (colKey ws)))),
    { Check.good with addr := rng .read 0x20 (colSrc ws) ++ rng .write 0x28 (redDst ws) }], c.2)

/-- The acceptance checks of a command sent to the collective unit. -/
def State.collectiveCheck (s : State) (ws : List Word) : Check × Bool :=
  if colOp ws = 1 then s.sealCheck ws
  else if colOp ws = 2 then s.reduceCheck ws
  else (shapeIf true, (s.colCommon ws 16).2)

/-! Targets (R462). -/

/-- The target of a FORWARD's commands, and the logical tile of a tile work ring. -/
def State.fwdTarget (s : State) (env : List Word) : Target × Nat :=
  let i := envIndex env
  if envMalformed env then (.invalid, 0)
  else match envKind env with
    | 1 => if s.role i = 4 ∧ ¬ s.isRetired 6 i ∧ s.mapped (s.get (Fld.RING_CFG_BIND i)) then (.tileRing i, s.get (Fld.RING_CFG_BIND i)) else (.invalid, 0)
    | 2 => if s.clusterOn i then (.drover i, 0) else (.invalid, 0)
    | 3 => if s.sequencerOn i then (.sequencer i, 0) else (.invalid, 0)
    | 4 => if i = 0 then (.collective, 0) else (.invalid, 0)
    | 5 => if i = 0 then (.rowEngines, 0) else (.invalid, 0)
    | _ => (.invalid, 0)

/-- The acceptance checks of a tile command (R186 to R195); an EXPERT_PASS comes from a Drover only. -/
def State.tileCheck (s : State) (t : Nat) (ws : List Word) : Check :=
  match tKind ws with
  | 1 => (s.computeCheck t ws true).and (shapeIf (tOp ws != 0))
  | 3 => s.computeCheck t ws false
  | 4 => s.streamCheck t ws
  | 5 => controlCheck ws
  | _ => shapeIf true

/-- The acceptance checks of a command, and whether its refusal poisons no mark (R180, R462). -/
def State.targetCheck (s : State) (t : Target) (tile : Nat) (ws : List Word) : Check × Bool :=
  match t with
  | .host => s.hostCheck ws
  | .tileRing _ => (s.tileCheck tile ws, sigsBad (wget ws 3))
  | .drover d => s.routeCheck d ws
  | .sequencer d => s.sweepCheck d ws
  | .collective => s.collectiveCheck ws
  | .rowEngines => s.rowCheck ws
  | .invalid => (shapeIf true, true)

/-- Whether a target has room for a command (R462), and its tile has started (R550). -/
def State.targetRoom (s : State) (t : Target) (tile : Nat) (ws : List Word) : Bool :=
  match t with
  | .tileRing r => s.ringRoom r && !s.unitDown 3 tile
  | .drover d => (s.freeJobSlot d).isSome
  | .sequencer d => (s.freeSweepSlot d).isSome
  | .collective => colOp ws != 2 || decide (s.colPending 2 none < 64)
  | .rowEngines => decide (s.rowCmds.length < 64)
  | _ => true

/-! The head of a ring. -/

/-- What stands at ACCEPT of a ring. -/
inductive Head where
  /-- Nothing fetched. -/
  | none
  /-- A FORWARD envelope whose next command has not been fetched. -/
  | partial_
  /-- An envelope with COUNT 0. -/
  | bare (env : List Word)
  /-- A host operation. -/
  | host (ws : List Word)
  /-- The next command of a group. -/
  | command (g : Group) (ws : List Word) (first : Bool)
  deriving DecidableEq, Repr

/-- What stands at ACCEPT of ring `r` (R461). -/
def State.ringHeadOf (s : State) (r : Nat) : Head :=
  let l := sget [] s.host.fetched r
  match sfind s.host.groups r, l with
  | some _, [] => .partial_
  | some g, ws :: _ => .command g ws false
  | none, [] => .none
  | none, env :: rest =>
    if hostOp env ≠ 2 then .host env
    else if envCount env = 0 then .bare env
    else match rest with
      | [] => .partial_
      | ws :: _ => .command ⟨env, 0, envCount env, envMalformed env⟩ ws true

/-- The target, tile and command of a head that is a command. -/
def State.headTarget (s : State) (h : Head) : Target × Nat × List Word :=
  match h with
  | .host ws => (.host, 0, ws)
  | .command g ws _ => ((s.fwdTarget g.envelope).1, (s.fwdTarget g.envelope).2, ws)
  | _ => (.invalid, 0, [])

/-- Whether acceptance is open on a ring (R455, R463, R465, R474): enabled, not in error, nothing held. -/
def State.acceptOpen (s : State) (r : Nat) : Bool :=
  s.role r == 1 && s.flag (Fld.RING_CTL_ENABLE r) && s.get (Fld.RING_STAT_ERR r) == 0 && s.live && !s.flag Fld.HIF_CTL_HOLD && !s.acceptStop &&
    !s.barrierOwed r && s.reserveFree (s.pairOf r) && !s.isRetired 6 r

/-- Commands of a ring accepted and not completed, zero-count envelopes among them: U of R463. -/
def State.uncompleted (s : State) (r : Nat) : Nat := (s.hostCmds r).length + (sget [] s.host.bare r).length

/-- Whether the paired completion ring has room (R463). -/
def State.completionRoom (s : State) (r : Nat) : Bool :=
  let c := s.pairOf r
  decide (idxSub (s.ringIdx c) (s.prod c) + s.uncompleted r + 2 ≤ s.ringSize c)

/-- Whether the head's target has room. -/
def State.headRoom (s : State) (h : Head) : Bool := let t := s.headTarget h; s.targetRoom t.1 t.2.1 t.2.2

/-- Whether all of an entry that one acceptance needs is there. -/
def Head.whole : Head → Bool
  | .none => false
  | .partial_ => false
  | _ => true

/-! RING_STAT (R483). -/

/-- BLOCK of RING_STAT: the lowest code that holds. -/
def State.ringBlock (s : State) (r : Nat) : Nat :=
  let h := s.ringHeadOf r
  if s.role r ≠ 1 ∨ ¬ s.flag (Fld.RING_CTL_ENABLE r) then 0
  else if h.whole then
    (if h matches .bare _ then (if ¬ s.completionRoom r then 4 else if ¬ s.acceptOpen r then 6 else 0)
    else if s.journalFull then 3
    else if ¬ s.completionRoom r then 4
    else if ¬ s.headRoom h then 5
    else if ¬ s.acceptOpen r then 6
    else 0)
  else if s.prod r = s.fetchedTo r then (if h matches .partial_ then 7 else 1)
  else 2

/-- STATE of RING_STAT: 0 disabled, 1 enabled, 2 error. A retired context reads 0 (R505). -/
def State.ringState (s : State) (r : Nat) : Nat :=
  if ¬ s.hostRingOn r ∨ s.isRetired 6 r then 0 else if s.get (Fld.RING_STAT_ERR r) ≠ 0 then 2 else 1

/-- Commands of an internal ring accepted and not completed. -/
def State.ringUncomp (s : State) (r : Nat) : Nat := if s.role r = 1 then s.uncompleted r else if s.role r = 4 then (s.ringQueue r).length else 0

/-- RING_STATn as it reads. -/
def State.ringStat (s : State) (r : Nat) : Word :=
  putBits (putBits (putBits (s.reg (Reg.RING_STAT r)) 47 17 (s.ringUncomp r)) 44 3 (s.ringState r)) 40 4 (s.ringBlock r)

/-- RING_ERROR: after FETCHRETRY retries of a read have failed, the ring enters the error state (R465). -/
def execRingError (ring : Nat) (s : State) : Host.Outcome State Fault Refusal :=
  if 16384 ≤ ring then .next s else
  match sfind s.host.failed ring with
  | none => .next s
  | some c =>
    let s := (s.set (Fld.RING_STAT_ERR ring) c).hmod (fun h => { h with failed := serase h.failed ring })
    .next (s.raise .ringError (ring % 2 ^ 16) (s.ringStat ring) 0)

/-! Acceptance (R463, R464). -/

/-- ACCEPT moved past `n` entries, which leave the fetched ones. -/
def State.passEntries (s : State) (r n : Nat) : State :=
  (s.wrap (Fld.RING_IDX_IDX r) n).hmod (fun h => { h with fetched := sput [] h.fetched r ((sget [] h.fetched r).drop n) })

/-- What acceptance does for a command's target beside the journal (R248, R261, R291, R355, R280). -/
def State.takeIn (s : State) (j : Nat) (t : Target) (ws : List Word) : State :=
  match t with
  | .drover d => s.acceptRoute j d ws
  | .sequencer d => s.acceptSweep j d ws
  | .rowEngines => s.acceptSeal ws
  | .collective =>
    if colOp ws = 1 ∧ ¬ s.net.vote.opened then (s.set Fld.COL_VOTESTEP_OPEN (colKey ws)).vmod (fun v => { v with opened := true }) else s
  | _ => s

/-- One command accepted (R464): journalled under the next JSEQ, checked, and handed to its target. -/
def State.acceptCommand (s : State) (r idx sub : Nat) (env ws : List Word) (irq : Bool) (t : Target) (tile : Nat) : State :=
  let j := s.nextJseq
  let c := s.targetCheck t tile ws
  let v := c.1.verdict
  let e := JEntry.fresh r idx t tile ws
  let e := { e with sub := sub, irq := irq, user := wget env 1, task := envTask env, empty := v == some Status.empty, mute := c.2 }
  let e := { e with refusal := match v with
    | none => none
    | some .empty => none
    | some x => some x.num }
  let s := (s.enter e).recordUda c.1
  let s := if e.refusal.isSome then s else s.takeIn j t ws
  (s.settleOldest r).wake

/-- The entry at ACCEPT accepted (R461, R463); a full journal is counted. -/
def State.acceptHead (s : State) (r : Nat) : State :=
  let h := s.ringHeadOf r
  if ¬ s.acceptOpen r ∨ ¬ h.whole ∨ ¬ s.completionRoom r then s
  else
    let i := s.ringIdx r
    match h with
    | .bare env =>
      let b : BareDone := ⟨i, wget env 1, envIrq env, s.nextJseq⟩
      (s.passEntries r 1).hmod (fun h => { h with bare := sput [] h.bare r (sget [] h.bare r ++ [b]) })
    | .host ws =>
      if ¬ s.headRoom h then s
      else if s.journalFull then s.count Fld.JRN_STAT_FULLWAIT 1
      else (s.passEntries r 1).acceptCommand r i 0 ws ws (envIrq ws) .host 0
    | .command g ws first =>
      if ¬ s.headRoom h then s
      else if s.journalFull then s.count Fld.JRN_STAT_FULLWAIT 1
      else
        let t := s.fwdTarget g.envelope
        let last := decide (g.count ≤ g.next + 1)
        let n := if first then 2 else 1
        let s := (s.passEntries r n).hmod (fun h => { h with groups := if last then serase h.groups r else sinsert h.groups r { g with next := g.next + 1 } })
        s.acceptCommand r ((i + n - 1) % 2 ^ 32) g.next g.envelope ws (last && envIrq g.envelope) t.1 t.2
    | _ => s

/-- ACCEPTANCE: the entry at ACCEPT of a submission ring is accepted, once all conditions hold (R463). -/
def execAcceptance (ring : Nat) (s : State) : Host.Outcome State Fault Refusal := if 16384 ≤ ring then .next s else .next (s.acceptHead ring)

/-- The commands of one FORWARD group accepted, as long as the conditions hold; `fuel` of them at most (R461). -/
def State.acceptGroup (s : State) (r : Nat) : Nat → State
  | 0 => s
  | fuel + 1 =>
    match s.ringHeadOf r with
    | .command g _ _ =>
      let t := s.acceptHead r
      if t.nextJseq = s.nextJseq ∨ g.count ≤ g.next + 1 then t else t.acceptGroup r fuel
    | _ => s

/-- FORWARD: a FORWARD envelope at ACCEPT passes its commands to their target, each accepted in slot order; an envelope with COUNT 0 is accepted by itself (R461). -/
def execForward (ring : Nat) (s : State) : Host.Outcome State Fault Refusal :=
  if 16384 ≤ ring then .next s else
  match s.ringHeadOf ring with
  | .bare _ => .next (s.acceptHead ring)
  | _ => .next (s.acceptGroup ring 31)

end Sys2Proof.Machine
end

