-- ==== Sys2Proof/Machine/Areas.lean ====
section
/-! DEFINITION. Whole memory areas moved and cleared: scratchpads and flash store areas (R80, R512, R550). -/

set_option Elab.async false

namespace Sys2Proof.Machine

/-- Whether key `k` lies in [a, a + n). -/
def inArea (a n k : Nat) : Bool := decide (a ≤ k) && decide (k < a + n)

/-- An area of `n` bytes, a whole number of granules, reads as zero and is free of poison. -/
def State.clearArea (s : State) (a n : Nat) : State :=
  { s with mem := s.mem.filter (fun c => !inArea a n c.1), poison := s.poison.filter (fun g => !inArea a n (32 * g)) }

/-- An area's content and poison copied to another that does not share a byte with it. -/
def State.copyArea (s : State) (src dst n : Nat) : State :=
  let bs := s.mem.filter (fun c => inArea src n c.1)
  let gs := s.poison.filter (fun g => inArea src n (32 * g))
  let s := s.clearArea dst n
  { s with mem := bs.foldl (fun m c => memPut m (dst + (c.1 - src)) c.2) s.mem,
           poison := gs.foldl (fun l g => nadd l ((dst + (32 * g - src)) / 32)) s.poison }

end Sys2Proof.Machine
end

