-- ==== Sys2Proof/Machine/ChangeJournal.lean ====
section
/-! DEFINITION. The change journal (R564, R565) and the device's tile-map edits (R47, R599). -/

set_option Elab.async false

namespace Sys2Proof.Machine

/-- What an entry of the change journal records beside its sequence number and its time (R565). -/
structure Change where
  src : Nat
  srcid : Nat
  offset : Nat
  outcome : Nat
  w64 : Bool
  old : Word
  new : Word
  data : Word
  jseq : Nat
  dcls : Nat
  didx : Nat
  deriving DecidableEq, Repr

/-- The words of an entry but for its CRC (R565). -/
def Change.words (c : Change) (seq : Nat) (time : Word) : List Word :=
  [BitVec.ofNat 64 seq, time,
   wordOf [(48, 16, c.srcid), (23, 25, c.offset), (20, 3, c.src), (16, 4, c.outcome), (15, 1, b2n c.w64)],
   c.old, c.new, c.data, BitVec.ofNat 64 c.jseq, wordOf [(60, 4, c.dcls), (46, 14, c.didx)]]

/-- The CRC of an entry: over its first 56 bytes and its last four (R565). -/
def chjCrc (ws : List Word) : Nat :=
  let bs := bytesOfWords ws
  crc32c (bs.take 56 ++ bs.drop 60)

/-- The words of an entry. -/
def Change.entry (c : Change) (seq : Nat) (time : Word) : List Word :=
  let ws := c.words seq time
  setAt ws 7 (putBits (wget ws 7) 0 32 (chjCrc ws))

/-- One serialized write recorded; the 4,096 latest are kept (R564). -/
def State.record_ (s : State) (c : Change) : State :=
  let n := s.get Fld.MGT_CHJNEXT_SEQ
  ({ s with chj := sinsert s.chj (n % 4096) (c.entry n (s.reg Reg.WHL_NOW)) }).wrap Fld.MGT_CHJNEXT_SEQ 1

/-- The code of a physical tile as a tile-map edit records it; 0xFF for none (R599). -/
def physOr (p : Option Nat) : Word := BitVec.ofNat 64 (p.getD 0xFF)

/-- A tile-map edit for the tile of code `unit` (R512, R513, R530), recorded in the change journal (R599). -/
def State.editTileMap (s : State) (t : Nat) (dest : Option Nat) (unit : Nat) : State :=
  let old := s.phys t
  ({ s with tileMap := setAt s.tileMap t dest }).record_
    ⟨0, 0, 0x1000000 + t * 0x10000, 0, false, physOr old, physOr dest, physOr dest, 0, 1, unit⟩

end Sys2Proof.Machine
end

