-- ==== Sys2Proof/Machine/HostCopy.lean ====
section
/-! DEFINITION. The host interface's own operations (R458 to R460, R466, R467) and cancelling (R475). -/

set_option Elab.async false

namespace Sys2Proof.Machine

/-- Copies that hold a place in the copy engine (R459). -/
def State.copiesRunning (s : State) : Nat :=
  (s.journal.filter (fun e => e.2.target == .host && (hostOp e.2.words == 4 || hostOp e.2.words == 5) && e.2.st == .dispatched && e.2.fin.isNone)).length

/-- A host operation dispatched if it may be, `room` holding: none when it may not, or has been cancelled instead (R177, R180, R466). -/
def State.hostDispatch (s : State) (j op : Nat) (room : Bool) : State × Option JEntry :=
  match s.cmd j with
  | none => (s, none)
  | some e =>
    if e.target ≠ .host ∨ hostOp e.words ≠ op ∨ e.refusal.isSome ∨ e.fin.isSome ∨ ¬ s.live then (s, none)
    else if e.st = .dispatched then (s, some e)
    else if ¬ s.gate j e then (s, none)
    else if s.waitPoisoned e then ((s.jmod j (fun e => { e with st := .dispatched, disp := 1 })).finish j .cancelled 0 0, none)
    else if ¬ s.waitsOk e ∨ ¬ room then (s, none)
    else
      let s := (s.consumeWaits e.srcTile e.waits).jmod j (fun e => { e with st := .dispatched, disp := e.disp + 1 })
      (s, some { e with st := .dispatched, disp := e.disp + 1 })

/-- NOP: waits on its slots, signals and completes (R458). -/
def execNop (jseq : Nat) (s : State) : Host.Outcome State Fault Refusal :=
  match s.hostDispatch jseq 1 true with
  | (s, none) => .next s
  | (s, some _) => .next (s.finish jseq .ok 0 0)

/-- The data of a WRITE_INLINE (R458). -/
def inlineData (ws : List Word) : List Byte := (bytesOfWords (ws.drop 4)).take (16 * inlineLen ws)

/-- WRITE_INLINE: the inline data written at DST (R458). -/
def execWriteInline (jseq : Nat) (s : State) : Host.Outcome State Fault Refusal :=
  match s.hostDispatch jseq 3 true with
  | (s, none) => .next s
  | (s, some e) =>
    match s.writeUda jseq (inlineDst e.words) (inlineData e.words) with
    | (.done _, s) => .next (s.finish jseq .ok 0 0)
    | (.fail st, s) => .next (s.finish jseq st 0 0)
    | (_, s) => .next s

/-! Copies (R459, R460). -/

/-- Bytes of the committed pieces of a copy: word 0 of its result. -/
def JEntry.copied (e : JEntry) : Nat := min (4096 * e.segs) (copyLen e.words)

/-- A copy ended with a status (R459, R472). -/
def State.copyEnd (s : State) (j : Nat) (e : JEntry) (st : Status) : State := s.finish j st (BitVec.ofNat 64 e.copied) 0

/-- Offset and bytes of a copy's next piece. -/
def JEntry.nextPiece (e : JEntry) : Nat × Nat := (4096 * e.segs, min 4096 (copyLen e.words - 4096 * e.segs))

/-- Whether a piece of a copy is in flight. -/
def State.pieceInFlight (s : State) (j : Nat) : Bool := s.host.reads.any (fun r => match r.2.kind with
  | .hcopy k _ _ => k == j
  | _ => false)

/-- The next piece of an HCOPY_IN asked for, or the copy ended (R459, R475). -/
def State.copyAsk (s : State) (j : Nat) : State :=
  match s.cmd j with
  | none => s
  | some e =>
    if e.fin.isSome ∨ s.pieceInFlight j then s
    else if e.cancelled then s.copyEnd j e .cancelled
    else if copyLen e.words ≤ 4096 * e.segs then s.copyEnd j e .ok
    else
      let p := e.nextPiece
      (s.issueRead (.hcopy j p.1 p.2) (copyHost e.words + p.1) p.2).getD s

/-- A piece of an HCOPY_IN that has arrived written, once it can be; then the next one is asked for (R459). -/
def State.copyStep (s : State) (j : Nat) : State :=
  match s.cmd j with
  | none => s
  | some e =>
    if e.payload.isEmpty then s.copyAsk j
    else
      match s.writeUda j (copyUda e.words + 4096 * e.segs) e.payload with
      | (.done _, s) => (s.jmod j (fun e => { e with payload := [], segs := e.segs + 1 })).copyAsk j
      | (.fail st, s) => s.copyEnd j e st
      | (_, s) => s

/-- HCOPY_IN: host memory copied into a UDA range in pieces of 4 KiB (R459). -/
def execHcopyIn (jseq : Nat) (s : State) : Host.Outcome State Fault Refusal :=
  match s.hostDispatch jseq 4 (decide (s.copiesRunning < 8)) with
  | (s, none) => .next s
  | (s, some e) => if e.empty then .next (s.copyEnd jseq e .empty) else .next (s.copyStep jseq)

/-- A command's copy that is under way at byte `off` and has asked for it. -/
def State.copyWaiting (s : State) (j off : Nat) : Bool := s.cmdIs j (fun e => e.target == .host && e.st == .dispatched && e.fin.isNone && decide (4096 * e.segs = off) && e.payload.isEmpty)

/-- A piece of an HCOPY_IN arrived. -/
def State.copyData (s : State) (j off : Nat) (bs : List Byte) : State := if s.copyWaiting j off then (s.jmod j (fun e => { e with payload := bs })).copyStep j else s

/-- A piece of an HCOPY_IN failed (R476). -/
def State.copyFailed (s : State) (j off : Nat) (st : Status) : State :=
  match s.cmd j with
  | some e => if s.copyWaiting j off then s.copyEnd j e st else s
  | none => s

/-- Pieces of an HCOPY_OUT moved, as long as nothing waits; `fuel` of them at most (R459). -/
def State.copyOut (s : State) (j : Nat) : Nat → State
  | 0 => s
  | fuel + 1 =>
    match s.cmd j with
    | none => s
    | some e =>
      if copyLen e.words ≤ 4096 * e.segs then s.copyEnd j e .ok
      else if ¬ s.hostOpen then s
      else
        let p := e.nextPiece
        match s.readUda j (copyUda e.words + p.1) p.2 with
        | (.done bs, s) => ((s.tx (.write (copyHost e.words + p.1) bs)).jmod j (fun e => { e with segs := e.segs + 1 })).copyOut j fuel
        | (.fail st, s) => s.copyEnd j e st
        | (_, s) => s

/-- HCOPY_OUT: a UDA range copied to host memory in pieces of 4 KiB (R459). -/
def execHcopyOut (jseq : Nat) (s : State) : Host.Outcome State Fault Refusal :=
  match s.hostDispatch jseq 5 (decide (s.copiesRunning < 8)) with
  | (s, none) => .next s
  | (s, some e) => if e.empty then .next (s.copyEnd jseq e .empty) else .next (s.copyOut jseq (copyLen e.words / 4096 + 2))

/-! Fences and flushes (R466, R467). -/

/-- Whether every command of a FENCE's or FLUSH's scope that was accepted before it has completed (R466). -/
def State.scopeDone (s : State) (j : Nat) (e : JEntry) : Bool :=
  !s.journal.any (fun f => decide (f.1 < j) && f.2.parent == 0 && (match envScope e.words with
    | 0 => f.2.ring == e.ring
    | 1 => f.2.task == e.task
    | _ => true))

/-- FENCE: completes when the commands of its scope accepted before it have completed (R466). -/
def execFence (jseq : Nat) (s : State) : Host.Outcome State Fault Refusal :=
  match s.cmd jseq with
  | none => .next s
  | some e =>
    match s.hostDispatch jseq 6 (s.scopeDone jseq e) with
    | (s, none) => .next s
    | (s, some _) => .next (s.finish jseq .ok 0 0)

/-- Whether the difference stream has delivered every chunk staged before position `p`, or no longer delivers any (R467). -/
def State.streamDelivered (s : State) (p : Nat) : Bool := s.get Fld.DIF_STAT_STATE == 0 || decide (p ≤ s.get Fld.DIF_DELIV_POS)

/-- FLUSH: the fence condition, then the difference stream's delivery, then a zero-length read (R467). -/
def execFlush (jseq : Nat) (s : State) : Host.Outcome State Fault Refusal :=
  match s.cmd jseq with
  | none => .next s
  | some e =>
    match s.hostDispatch jseq 7 (s.scopeDone jseq e) with
    | (s, none) => .next s
    | (s, some e) =>
      let s := if e.header.isEmpty then s.jmod jseq (fun e => { e with header := [s.reg Reg.DIF_WRITE] }) else s
      let p := if e.header.isEmpty then s.get Fld.DIF_WRITE_POS else (wget e.header 0).toNat
      if e.sent ∨ ¬ s.streamDelivered p then .next s
      else
        match s.issueRead (.flush jseq) (s.slotAddr (s.pairOf e.ring) 0 32) 0 with
        | some s => .next (s.jmod jseq (fun e => { e with sent := true }))
        | none => .next s

/-- A FLUSH's zero-length read has returned, or has failed with a status (R467). -/
def State.flushEnd (s : State) (j : Nat) (st : Status) : State :=
  if s.cmdIs j (fun e => e.target == .host && e.sent && e.fin.isNone) then s.finish j st (if st = .ok then s.reg Reg.DIF_DELIV else 0) 0 else s

/-! Cancelling (R475). -/

/-- Whether a command counts as not dispatched for a cancel (R475). -/
def State.cancellable (s : State) (j : Nat) (e : JEntry) : Bool :=
  match e.target with
  | .host => e.st == .accepted || hostOp e.words == 6 || hostOp e.words == 7
  | .drover _ => e.st == .accepted || (sfind s.drover.jobs j).any (fun r => r.st == .wait || r.st == .held)
  | .sequencer _ => e.st == .accepted || (sfind s.sweep.jobs j).any (fun r => r.st == .wait || r.st == .verdict)
  | .collective => e.st == .accepted || (colOp e.words == 1 && !e.sent)
  | _ => e.st == .accepted

/-- A command not dispatched ends CANCELLED. -/
def State.cancelEnd (s : State) (j : Nat) (e : JEntry) : State :=
  match e.target with
  | .drover _ => s.finishRoute j .cancelled 0 0
  | .sequencer _ => s.finishSweep j .cancelled
  | _ => s.finish j .cancelled 0 0

/-- One command cancelled, according to its state (R475). -/
def State.cancelOne (s : State) (j : Nat) : State :=
  match s.cmd j with
  | none => s
  | some e =>
    if e.refusal.isSome ∨ e.fin.isSome then s
    else if s.cancellable j e then s.cancelEnd j e
    else if e.isStream then (s.dropSent j).finish j .cancelled 0 0
    else if e.target = .host then
      if s.pieceInFlight j ∨ ¬ e.payload.isEmpty then s.jmod j (fun e => { e with cancelled := true }) else s.copyEnd j e .cancelled
    else s

/-- Every uncompleted command of a submission ring cancelled, in acceptance order (R475). -/
def State.cancelRing (s : State) (r : Nat) : State := ((s.hostCmds r).map (·.1)).foldl (fun (s : State) j => s.cancelOne j) s

/-- HIF_CANCEL: one command of a host submission ring cancelled; none where the JSEQ names no such command (R475). -/
def State.cancelJseq (s : State) (j : Nat) : Option State := if s.cmdIs j (fun e => e.parent == 0) then some (s.cancelOne j) else none

end Sys2Proof.Machine
end

