-- ==== Sys2Proof/Machine/Tier.lean ====
section
/-! DEFINITION. The tier controller's rows (R314, R321 to R342): promotions, write-backs, requested operations, and the retirement of pseudo-channels and stacks. -/

set_option Elab.async false

namespace Sys2Proof.Machine

/-! Copies of whole granules. -/

/-- Granules copied, one by one from `i` on: bytes and poison (R314, R335). -/
def State.copyGranules (s : State) (src dst : Nat → Nat) (i : Nat) : Nat → State
  | 0 => s
  | n + 1 =>
    let d := dst i
    let bad := s.poisonedAt (src i)
    let s := (s.wbs d (s.rbs (src i) 32)).cleanse d 32
    (if bad then s.poisonGranule (d / 32) else s).copyGranules src dst (i + 1) n

/-- Key of granule `i` of a slot. -/
def State.slotGranule (s : State) (n i : Nat) : Nat := s.slotByte n (32 * i)

/-- Frame `k` of an object copied from its flash content into a slot. -/
def State.frameIn (s : State) (n fr k : Nat) : State := s.copyGranules (fun i => frameKey fr (32 * i)) (s.slotGranule n) (2048 * k) 2048

/-- Frame `k` of an object copied from its slot to its flash content. -/
def State.frameOut (s : State) (n fr k : Nat) : State := s.copyGranules (s.slotGranule n) (fun i => frameKey fr (32 * i)) (2048 * k) 2048

/-- The frames of a mask. -/
def maskFrames (m : Nat) : List Nat := (numsFrom 0 32).filter (fun k => decide (m / 2 ^ k % 2 = 1))

/-! Promotions (R326, R333, R334). -/

/-- A promotion given up: the entry becomes FREE, and the commands pinned on it end (R333). -/
def State.failPromotion (s : State) (n : Nat) (e : DirEnt) (st : Status) : State :=
  ((e.pins.eraseDups).foldl (fun (s : State) j => if s.cmdIs j (fun c => c.st == .dispatched) then s.finish j st 0 0 else s) (s.dirFree n)).opFinished n

/-- A promotion failed by an uncorrectable read (R333, R339). -/
def State.promotionLost (s : State) (n : Nat) (e : DirEnt) : State :=
  let f := (sfind s.tier.homes e.frame).getD 0
  ((s.count Fld.TIER_PROMCNT_FAILED 1).count (Fld.FLS_ERR_UNCORRECTABLE f) 1).failPromotion n e .flashError

/-- PROMOTION: the object's frames, or zeros for an unallocated object, are in the slot; the entry becomes CLEAN (R326). -/
def execPromotion (slot : Nat) (s : State) : Host.Outcome State Fault Refusal :=
  match s.dirEnt slot with
  | none => .next s
  | some e =>
    if e.st ≠ .promoting then .next s
    else if nmem s.tier.lostObjs e.frame then .next (s.promotionLost slot e)
    else
      let s := if (sfind s.tier.homes e.frame).isSome then (numsFrom 0 e.size).foldl (fun (s : State) k => s.frameIn slot e.frame k) s
        else (numsFrom 0 (2048 * e.size)).foldl (fun (s : State) i => (s.zero (s.slotGranule slot i) 32).cleanse (s.slotGranule slot i) 32) s
      .next (((s.dirMod slot (fun e => { e with st := .clean, mask := 0, rewritten := 0 })).count Fld.TIER_PROMCNT_PROMOTIONS 1).evalRequest slot)

/-- PROMOTION_FAILED: an uncorrectable flash read (R333). -/
def execPromotionFailed (slot : Nat) (s : State) : Host.Outcome State Fault Refusal :=
  match s.dirEnt slot with
  | none => .next s
  | some e => if e.st = .promoting ∧ (sfind s.tier.homes e.frame).isSome then .next (s.promotionLost slot e) else .next s

/-- FLASH_READ_TIMEOUT: a flash read has not returned within TIER_FTMO (R334). -/
def execFlashReadTimeout (slot : Nat) (s : State) : Host.Outcome State Fault Refusal :=
  match s.dirEnt slot with
  | none => .next s
  | some e =>
    if e.st ≠ .promoting ∨ (sfind s.tier.homes e.frame).isNone then .next s
    else
      let s := s.tmod (fun t => { t with quarantine := nadd t.quarantine e.tag })
      .next ((s.count Fld.TIER_PROMCNT_TIMEOUTS 1).failPromotion slot e .timeout)

/-- LATE_FLASH_DATA: data of a timed-out flash read is discarded (R334); `tag` is 65,536 × stack + tag. -/
def execLateFlashData (tag : Nat) (s : State) : Host.Outcome State Fault Refusal :=
  if nmem s.tier.quarantine tag then .next ((s.count Fld.TIER_LATE_COUNT 1).set Fld.TIER_LATE_STACK (tag / 65536)) else .next s

/-- FLASH_TAG_QUARANTINE: a timed-out request tag may be used again (R334). -/
def execFlashTagQuarantine (tag : Nat) (s : State) : Host.Outcome State Fault Refusal := .next (s.tmod (fun t => { t with quarantine := ndel t.quarantine tag }))

/-! Programs and wear (R328, R341). -/

/-- A flash stack's record changed. -/
def State.fmod (s : State) (f : Nat) (g : FlashStack → FlashStack) : State := s.tmod (fun t => { t with fstacks := sinsert t.fstacks f (g (s.flashStack f)) })

/-- LIFE from an average erase count (R341). -/
def lifeOf (avg rating : Nat) : Nat := min 65535 (avg * 10000 / max 1 rating)

/-- A program committed on a flash stack: `bytes` logical bytes; the wear it leaves (R341). -/
def State.programmed (s : State) (f bytes : Nat) (w : WearObs) : State :=
  let rating := if s.get Fld.TIER_STAT_TIERCFG = 1 then 3000 else 30000
  let life := lifeOf w.avgPe rating
  let s := (s.count (Fld.FLS_HOSTBYTES_COUNT f) bytes).count (Fld.FLS_PGMBYTES_COUNT f) w.pgm
  let s := (((s.set (Fld.FLS_WEAR_MAXPE f) w.maxPe).set (Fld.FLS_WEAR_AVGPE f) w.avgPe).set (Fld.FLS_WEAR_RATING f) rating).set (Fld.FLS_WEAR_LIFE f) life
  let s := s.set (Fld.FLS_STAT_SPARE f) w.spare
  let s := if s.get (Fld.FLS_WEARCFG_WARN f) ≤ life ∧ ¬ (s.flashStack f).warned then
      (s.fmod f (fun x => { x with warned := true })).raise .wear f (s.reg (Reg.FLS_WEAR f)) 0
    else s
  if 10000 ≤ life ∨ w.spare < 2 then (s.fmod f (fun x => { x with worn := true })).setFlag (Fld.FLS_STAT_WORN f) true else s

/-- The requested FLUSH meets the commit of a write-back of a slot (R331). -/
def State.flushCommit (s : State) (n : Nat) : State :=
  match s.tier.op with
  | none => s
  | some o =>
    if o.op ≠ 1 then s
    else
      match sfind o.slots n, s.dirEnt n with
      | some true, _ => s.opFinished n
      | some false, some e =>
        if e.st = .dirty then
          match s.startWriteBack n .cleaning with
          | some s => s.tmod (fun t => { t with op := t.op.map (fun o => { o with slots := sinsert o.slots n true }) })
          | none => s.opFailed n
        else s.opFinished n
      | _, _ => s

/-- WRITE_BACK: the program of a slot's dirty frames commits (R328, R329, R335). -/
def execWriteBack (slot : Nat) (wear : WearObs) (s : State) : Host.Outcome State Fault Refusal :=
  match s.dirEnt slot with
  | none => .next s
  | some e =>
    if e.st ≠ .cleaning ∧ e.st ≠ .evicting then .next s
    else
      match s.fitHome e.frame e.size with
      | none => .next ((s.dirMod slot (fun e => { e with st := .dirty, evreq := false })).opFailed slot)
      | some s =>
        let f := (sfind s.tier.homes e.frame).getD 0
        let fs := (maskFrames e.mask).filter (fun k => decide (k < e.size))
        let s := fs.foldl (fun (s : State) k => s.frameOut slot e.frame k) s
        let s := (s.programmed f (65536 * fs.length) wear).count Fld.TIER_WBBYTES_COUNT (65536 * fs.length)
        if e.st = .cleaning then
          let s := if e.redirty then s.count Fld.TIER_XCNT_REDIRTY 1 else s
          let s := s.dirMod slot (fun e => { e with st := if e.redirty then .dirty else .clean, mask := e.rewritten, rewritten := 0, redirty := false })
          .next ((s.flushCommit slot).evalRequest slot)
        else if e.pins.isEmpty then .next (((s.dirFree slot).count Fld.TIER_EVCNT_WRITTEN 1).opFinished slot)
        else .next ((s.dirMod slot (fun e => { e with st := .clean, mask := 0, rewritten := 0, redirty := false })).count Fld.TIER_EVCNT_KEPT 1)

/-- DIRTY entries that can be written back, oldest first by slot order among equals. -/
def State.dirtyOldest (s : State) : List (Nat × DirEnt) :=
  (s.tier.dir.filter (fun e => e.2.st == .dirty && s.canWriteBack e.2)).mergeSort (fun a b => decide (a.2.age < b.2.age) || (decide (a.2.age = b.2.age) && decide (a.1 ≤ b.1)))

/-- How many entries the watermark rule cleans now (R328). -/
def State.overWatermark (s : State) : Nat :=
  let hi := s.get Fld.TIER_DIRCTL_WMHIGH
  let lo := s.get Fld.TIER_DIRCTL_WMLOW
  let d := s.dirCount .dirty
  if hi ≤ lo ∨ 100 < hi ∨ 100 * d ≤ hi * s.slotsIn then 0 else d - lo * s.slotsIn / 100

/-- CLEANING: background write-back starts, by the watermark and by CLEANAGE (R328). -/
def execCleaning (s : State) : Host.Outcome State Fault Refusal :=
  if s.get Fld.TIER_STAT_TIERCFG ≠ 2 ∨ s.flag Fld.TIER_DIRCTL_NOCLEAN then .next s
  else
    let old (e : Nat × DirEnt) : Bool := decide (max 1 (s.get Fld.TIER_DIRCTL_CLEANAGE) ≤ s.revNow - e.2.wrote)
    let l := s.dirtyOldest
    let todo := l.take s.overWatermark ++ (l.drop s.overWatermark).filter old
    .next (todo.foldl (fun (s : State) e => (s.startWriteBack e.1 .cleaning).getD s) s)

/-! Requested operations (R330, R331). -/

/-- The objects of a range of frames, as first frames in order; `fuel` objects at most. -/
def State.objectsIn (s : State) (hi : Nat) : Nat → Nat → List Nat
  | 0, _ => []
  | fuel + 1, fr => if hi ≤ fr then [] else (s.objectOf fr).1 :: s.objectsIn hi fuel ((s.objectOf fr).1 + max 1 (s.objectOf fr).2)

/-- Frames of the usable prefix of the active configuration. -/
def State.frameTop (s : State) : Nat := usableFrames (s.get Fld.TIER_STAT_TIERCFG)

/-- Whether a frame begins an object, or ends the usable prefix. -/
def State.onBoundary (s : State) (fr : Nat) : Bool := fr == s.frameTop || decide ((s.objectOf fr).1 = fr)

/-- A tier operation that ends as it is written: its code and event. -/
def State.refuseTierOp (s : State) (op code : Nat) : State :=
  let s := (s.set Fld.TIER_OPSTAT_LAST op).set Fld.TIER_OPSTAT_CODE code
  s.raise .tierDone 0 (s.reg Reg.TIER_OPSTAT) 0

/-- The next object of a FILL asked for: a piece of at most 4 KiB, if no read of it is outstanding (R81, R331). -/
def State.pumpFill (s : State) : State :=
  match s.tier.op with
  | none => s
  | some o =>
    match o.todo with
    | [] => s
    | fr :: _ =>
      let busy := s.host.reads.any (fun r => match r.2.kind with
        | .fill _ _ _ => true
        | _ => false)
      if busy ∨ o.programming.isSome then s
      else
        let off := o.staged.length
        let n := min 4096 (65536 * (s.objectOf fr).2 - off)
        (s.issueRead (.fill fr off n) (4096 * s.get Fld.TIER_FILLSRC_ADDR + 65536 * (fr - o.frame) + off) n).getD s

/-- Data of a FILL's read taken: an object read whole is programmed next (R331). -/
def State.fillData (s : State) (fr : Nat) (bs : List Byte) : State :=
  match s.tier.op with
  | none => s
  | some o =>
    if o.todo.head? ≠ some fr then s
    else
      let st := o.staged ++ bs
      let o := if 65536 * (s.objectOf fr).2 ≤ st.length then { o with todo := o.todo.drop 1, programming := some fr, staged := st } else { o with staged := st }
      (s.tmod (fun t => { t with op := some o })).pumpFill

/-- A FILL ended by a read that fails (R331): the object under way is dropped. -/
def State.fillFailed (s : State) (fr : Nat) : State :=
  match s.tier.op with
  | none => s
  | some o => if o.todo.head? = some fr then s.endTierOp 4 else s

/-- Whether a request on a slot is deferred (R329). -/
def State.cmdDeferred (s : State) (n : Nat) : Bool := (s.dirEnt n).any (fun e => !e.pins.isEmpty || e.st == .promoting)

/-- An eviction or invalidation requested of the resident entries of a range (R329, R331). -/
def State.requestRange (s : State) (inv : Bool) (ns : List Nat) : State :=
  let s := ns.foldl (fun (s : State) n =>
    let s := if s.cmdDeferred n then s.count Fld.TIER_XCNT_DEFERRED 1 else s
    s.dirMod n (fun e => if inv then { e with invreq := true } else { e with evreq := true })) s
  (ns.foldl (fun (s : State) n => s.evalRequest n) s).checkTierOp
/-- A FLUSH begun on a slot. -/
def State.flushSlot (s : State) (n : Nat) : State :=
  match s.dirEnt n with
  | none => s
  | some e =>
    if e.st ≠ .dirty then s
    else
      match s.startWriteBack n .cleaning with
      | some s => s
      | none => s.opFailed n

/-- A tier operation written while none runs. -/
def State.startTierOp (s : State) (op : Nat) : State :=
  let cfg := s.get Fld.TIER_STAT_TIERCFG
  let whole : Bool := s.get Fld.TIER_OPBASE_NFRAMES == 0
  let lo := if whole then 0 else s.get Fld.TIER_OPBASE_FRAME
  let hi := if whole then s.frameTop else lo + s.get Fld.TIER_OPBASE_NFRAMES
  if cfg = 0 ∨ (op = 4 ∧ cfg ≠ 1) ∨ (op = 1 ∧ cfg ≠ 2) then s.refuseTierOp op 3
  else if s.frameTop < hi ∨ ¬ s.onBoundary lo ∨ ¬ s.onBoundary hi then s.refuseTierOp op 2
  else
    let s := ((s.set Fld.TIER_OPSTAT_LAST op).set Fld.TIER_OPSTAT_CODE 7).set Fld.TIER_OPSTAT_OBJECTS 0
    let here := s.tier.dir.filter (fun e => e.2.st != .relocated && decide (lo ≤ e.2.frame) && decide (e.2.frame < hi))
    let mine := if op = 1 then here.filter (fun e => e.2.st == .dirty || e.2.st == .cleaning) else if op = 4 then [] else here
    let o : TierOp := ⟨op, lo, hi - lo, mine.map (fun e => (e.1, e.2.st == .dirty)), if op = 4 then s.objectsIn hi (hi - lo) lo else [], none, [], false, false⟩
    let s := s.tmod (fun t => { t with op := some o })
    let ns := mine.map (fun e => e.1)
    if op = 1 then (ns.foldl (fun (s : State) n => s.flushSlot n) s).checkTierOp
    else if op = 4 then s.pumpFill.checkTierOp
    else s.requestRange (op == 3) ns

/-- ABORT (R331): the running operation stops after the objects under way. -/
def State.abortTierOp (s : State) (o : TierOp) : State :=
  let under (n : Nat) : Bool := (s.dirEnt n).any (fun e => e.st == .cleaning || e.st == .evicting)
  let s := o.slots.foldl (fun (s : State) x => if under x.1 then s else s.dirMod x.1 (fun e => { e with evreq := false, invreq := false })) s
  (s.tmod (fun t => { t with op := some { o with slots := o.slots.filter (fun x => under x.1), todo := [], aborted := true } })).checkTierOp

/-- TIER_OPCTL.OP written (R330, R331). -/
def State.tierOp (s : State) (op : Nat) : State :=
  match op, s.tier.op with
  | 0, _ => s
  | 5, some o => s.abortTierOp o
  | 5, none => s.refuseTierOp 5 0
  | op, some _ => if op ≤ 4 then s.refuseTierOp op 1 else s
  | op, none => if op ≤ 4 then s.startTierOp op else s

/-- FILL_PROGRAMMED: the object of a FILL that has been read is programmed; it is allocated first, and a resident copy is freed (R321, R329, R331, R342). -/
def execFillProgrammed (wear : WearObs) (s : State) : Host.Outcome State Fault Refusal :=
  match s.tier.op with
  | none => .next s
  | some o =>
    match o.programming with
    | none => .next s
    | some fr =>
      let n := (s.objectOf fr).2
      let rest : TierOp := { o with programming := none, staged := [] }
      if (s.dirOf fr).any (fun x => !x.2.pins.isEmpty || x.2.st == .promoting) then .next s
      else
        let s := match s.dirOf fr with
          | some x => s.dirFree x.1
          | none => s
        match s.fitHome fr n with
        | none => .next ((s.tmod (fun t => { t with op := some { rest with failed := true } })).pumpFill.checkTierOp)
        | some s =>
          let f := (sfind s.tier.homes fr).getD 0
          let s := (s.wbs (frameKey fr 0) o.staged).cleanse (frameKey fr 0) (65536 * n)
          let s := (s.programmed f (65536 * n) wear).count Fld.TIER_OPSTAT_OBJECTS 1
          .next ((s.tmod (fun t => { t with op := some rest, lostObjs := ndel t.lostObjs fr })).pumpFill.checkTierOp)

/-- PATROL_SCRUB: a base die has read every location of its stack, with the errors it found (R314). -/
def execPatrolScrub (stack : Nat) (obs : EccObs) (s : State) : Host.Outcome State Fault Refusal :=
  if 20 ≤ stack then .next s else
  if ¬ s.hflag 5 ∨ ¬ s.live ∨ s.unitDown 1 stack ∨ s.isRetired 4 stack then .next s
  else
    let mine (l : List Nat) : List Nat := l.filter (fun a => (regionOf a == .dramA || regionOf a == .dramB) && s.stackOf a == stack)
    .next ((s.farErrors ⟨mine obs.corrected, mine obs.uncorrectable⟩).count (Fld.DRM_SCRUBSTAT_PASSES stack) 1)

/-! Retirement of DRAM (R336 to R340, R516, R517). -/

/-- The UDA of 256-byte location `loc` of a pseudo-channel: the inverse of R312 and R348. -/
def State.pchUda (s : State) (p loc : Nat) : Nat :=
  if p < 512 then (loc * 512 + p % 32 * 16 + p / 32) * 256
  else
    let i := p / 32 - 16
    let c := p % 32
    let g := loc / 2048
    if (s.rowRegionAt (dramBBase + g * 0x4000000)).isSome then dramBBase + g * 0x4000000 + loc % 2048 / 4 * 131072 + (c * 4 + i) * 1024 + loc % 4 * 256
    else dramBBase + (loc * 128 + c * 4 + i) * 256

/-- Every granule of a pseudo-channel outside the tier cache poisoned: what a lost one holds when its addresses come back (R338). -/
def State.poisonPch (s : State) (p : Nat) : State :=
  (numsFrom 0 (8192 * s.chunksOfPch p)).foldl (fun (s : State) loc =>
    (numsFrom 0 8).foldl (fun (s : State) k => s.poisonGranule (s.pchUda p loc / 32 + k)) s) s

/-- Slots that relocation may still take: those in service less those RELOCATED and those kept for the directory (R317, R338). -/
def State.relocRoom (s : State) : Nat := s.slotsIn - s.dirCount .relocated - tierKeep (s.get Fld.TIER_STAT_TIERCFG)

/-- Slots that relocations under way have still to take. -/
def State.relocOwed (s : State) : Nat :=
  (s.tier.pchs.map (fun e => if e.2 = .relocating then s.chunksOfPch e.1 - (s.tier.dir.filter (fun d => d.2.st == .relocated && d.2.pch == e.1)).length else 0)).foldl (· + ·) 0

/-- A slot for an entry that must move: a FREE one, or that of the oldest unpinned CLEAN entry (R325, R337). -/
def State.takeSlot (s : State) : Option (Nat × State) :=
  match s.freeSlot with
  | some n => some (n, s)
  | none => (s.oldestWhere (fun e => e.2.pins.isEmpty && s.slotIn e.1 && e.2.st == .clean)).map (fun e => (e.1, s.freeClean e.1))

/-- One entry of a withdrawn slot freed or moved (R337). -/
def State.withdrawEntry (s : State) (n : Nat) (e : DirEnt) : State :=
  if e.st = .clean then s.freeClean n
  else
    match s.takeSlot with
    | none => s
    | some (m, s) =>
      let s := if e.st = .promoting ∨ e.st = .relocated then s else s.copyGranules (s.slotGranule n) (s.slotGranule m) 0 (2048 * e.size)
      let s := (s.dirFree n).dirPut m e
      s.tmod (fun t => { t with op := t.op.map (fun o => match sfind o.slots n with
        | some b => { o with slots := sinsert (serase o.slots n) m b }
        | none => o) })

/-- The slots of a stack withdrawn (R337). -/
def State.withdraw (s : State) (k : Nat) : State :=
  if 16 ≤ k ∨ nmem s.tier.withdrawn k then s
  else
    let mine := s.tier.dir.filter (fun e => e.1 % 16 == k)
    mine.foldl (fun (s : State) e => s.withdrawEntry e.1 e.2) (s.tmod (fun t => { t with withdrawn := nadd t.withdrawn k }))

/-- Dispatched streams whose next far access lies on pseudo-channel `p`: the commands that its loss makes fail at once (R517). -/
def State.failsOn (s : State) (p : Nat) : List Nat :=
  (s.journal.filter (fun e => e.2.isStream && e.2.st == .dispatched && e.2.fin.isNone && sFar e.2.words == 1 && decide (tOp e.2.words ≤ 3) &&
    decide ((s.run e.1).pos < sTotal e.2.words) &&
    (let a := sFarAt e.2.words (posRow e.2.words (s.run e.1).pos) (posAtom e.2.words (s.run e.1).pos)
     (regionOf a == .dramA || regionOf a == .dramB) && decide ((s.dramPlace a).1 = p)))).map (fun e => e.1)

/-- The loss of a pseudo-channel (R338, R517): the commands it makes fail complete MEM_ERROR, which is a recovery (R520). -/
def State.losePch (s : State) (p : Nat) : State :=
  let s := s.tmod (fun t => { t with pchs := sinsert t.pchs p .lost })
  let fs := s.failsOn p
  if fs.isEmpty then s
  else
    let rings := s.hostRingsOf fs
    let s := s.beginRecovery 3 rings
    (fs.foldl (fun (s : State) j => s.finish j .memError 0 0) s).recoveryEvent.barriersOf rings

/-- One pseudo-channel retired (R337, R338); `bad` lists granules the Dray cannot read, by UDA. -/
def State.retirePch (s : State) (p : Nat) (bad : List Nat) : State :=
  if (sfind s.tier.pchs p).isSome then s
  else
    let s := bad.foldl (fun (s : State) a => if (s.dramPlace a).1 = p then s.poisonGranule (a / 32) else s) s
    let s := (s.withdraw (p / 32)).set (Fld.DRM_STAT_PCHRET (p / 32)) (s.get (Fld.DRM_STAT_PCHRET (p / 32)) ||| 2 ^ (p % 32))
    if s.relocRoom < s.relocOwed + s.chunksOfPch p then s.losePch p else s.tmod (fun t => { t with pchs := sinsert t.pchs p .relocating })

/-- TIER_PCHSTAT of a pseudo-channel. -/
def State.pchStat (s : State) (p : Nat) : Word :=
  match sfind s.tier.pchs p with
  | none => 0
  | some st => wordOf [(61, 3, st.num), (50, 11, (s.tier.dir.filter (fun e => e.2.st == .relocated && e.2.pch == p)).length)]

/-- PCH_RETIRED: a pseudo-channel retires; its locations are relocated, or lost (R337, R338). -/
def execPchRetired (pch : Nat) (bad : List Nat) (s : State) : Host.Outcome State Fault Refusal :=
  if 640 ≤ pch then .next s else
  if (sfind s.tier.pchs pch).isSome ∨ s.isRetired 3 pch ∨ s.isRetired 4 (pch / 32) ∨ ¬ s.live then .next s
  else
    let s := (s.retireUnit 3 pch).retirePch pch bad
    .next ((s.raise .pchRetired pch (s.pchStat pch) 0).capChange)

/-- The lowest chunk of a pseudo-channel without a slot. -/
def State.nextChunk (s : State) (p : Nat) : Option Nat :=
  firstFrom (fun c => !s.tier.dir.any (fun e => e.2.st == .relocated && e.2.pch == p && e.2.chunk == c)) 0 (s.chunksOfPch p)

/-- CHUNK_COPY: the Dray commits the copy of the next chunk of a relocating pseudo-channel (R337); `bad` lists granules it cannot read. -/
def execChunkCopy (pch : Nat) (bad : List Nat) (s : State) : Host.Outcome State Fault Refusal :=
  if 640 ≤ pch then .next s else
  if sfind s.tier.pchs pch ≠ some .relocating then .next s
  else
    match s.nextChunk pch with
    | none => .next s
    | some c =>
      match s.takeSlot with
      | some (n, s) =>
        let s := bad.foldl (fun (s : State) a => if s.dramPlace a = (pch, (s.dramPlace a).2) ∧ (s.dramPlace a).2 / 8192 = c then s.poisonGranule (a / 32) else s) s
        let s := s.dirPut n { DirEnt.blank with st := .relocated, pch := pch, chunk := c, copied := true, age := s.revNow }
        .next (if (s.nextChunk pch).isNone then s.tmod (fun t => { t with pchs := sinsert t.pchs pch .relocated }) else s)
      | none =>
        match s.oldestWhere (fun e => e.2.pins.isEmpty && s.slotIn e.1 && e.2.st == .dirty && s.canWriteBack e.2) with
        | some (n, _) => .next ((s.startWriteBack n .evicting).getD s)
        | none => .next s

/-- COPY_BACK: the lowest relocated chunk of a re-admitted pseudo-channel is copied back and its slot freed; after the last one the stack's slots return to service (R340). -/
def execCopyBack (pch : Nat) (s : State) : Host.Outcome State Fault Refusal :=
  if 640 ≤ pch then .next s else
  if sfind s.tier.pchs pch ≠ some .copyingBack then .next s
  else
    let held := s.tier.dir.filter (fun e => e.2.st == .relocated && e.2.pch == pch)
    let first := held.foldl (fun (m : Option (Nat × Nat)) e => match m with
      | none => some (e.2.chunk, e.1)
      | some x => some (if e.2.chunk < x.1 then (e.2.chunk, e.1) else x)) none
    let s := match first with
      | some (_, n) => s.dirFree n
      | none => s
    if s.tier.dir.any (fun e => e.2.st == .relocated && e.2.pch == pch) then .next s
    else
      let k := pch / 32
      let s := (s.tmod (fun t => { t with pchs := serase t.pchs pch })).set (Fld.DRM_STAT_PCHRET k) (s.get (Fld.DRM_STAT_PCHRET k) &&& (0xFFFFFFFF - 2 ^ (pch % 32)))
      let s := s.setRastat 3 pch 4
      let s := if s.tier.pchs.any (fun e => decide (e.1 / 32 = k)) then s else s.setRastat 4 k 4
      .next (if s.tier.pchs.any (fun e => decide (e.1 / 32 = k)) then s else s.tmod (fun t => { t with withdrawn := ndel t.withdrawn k }))

/-- STACK_RETIRED: a DRAM stack retires; its pseudo-channels are relocated or lost in ascending order (R516). -/
def execStackRetired (stack : Nat) (bad : List Nat) (s : State) : Host.Outcome State Fault Refusal :=
  if 20 ≤ stack then .next s else
  if s.isRetired 4 stack ∨ ¬ s.live then .next s
  else
    let s := (s.retireUnit 4 stack).setFlag (Fld.DRM_STAT_INSERVICE stack) false
    let s := (numsFrom (32 * stack) 32).foldl (fun (s : State) p => s.retirePch p bad) s
    .next ((s.raise .stackRetired stack 0 0).capChange)

/-- FLASH_STACK_RETIRED: a flash stack retires; the Dray is to evacuate its objects (R339). -/
def execFlashStackRetired (stack : Nat) (s : State) : Host.Outcome State Fault Refusal :=
  if 4 ≤ stack then .next s else
  if s.isRetired 4 (32 + stack) ∨ ¬ s.live then .next s
  else
    let s := ((s.retireUnit 4 (32 + stack)).fmod stack (fun x => { x with eligible := false })).setFlag (Fld.FLS_STAT_INSERVICE stack) false
    let objs := (s.tier.homes.filter (fun h => h.2 == stack)).map (fun h => h.1)
    .next (((s.tmod (fun t => { t with evac := objs.foldl nadd t.evac })).raise .stackRetired (32 + stack) 0 0).capChange)

/-- EVACUATION: the Dray's program of an evacuated object to its new home commits (R339); an unreadable object, or one for which no stack has room, is lost. -/
def execEvacuation (frame : Nat) (unreadable : Bool) (wear : WearObs) (s : State) : Host.Outcome State Fault Refusal :=
  if ¬ nmem s.tier.evac frame then .next s
  else
    let n := (s.objectOf frame).2
    let s := s.tmod (fun t => { t with evac := ndel t.evac frame })
    let lose (s : State) : State := s.tmod (fun t => { t with homes := serase t.homes frame, lostObjs := nadd t.lostObjs frame })
    if (sfind s.tier.homes frame).all (fun f => s.flashIn f) then .next s
    else if unreadable then .next (lose s)
    else
      match s.chooseHome n with
      | none => .next (lose s)
      | some f => .next ((s.tmod (fun t => { t with homes := sinsert t.homes frame f })).programmed f 0 wear)

end Sys2Proof.Machine
end

