-- ==== Sys2Proof/Machine/Tile.lean ====
section
/-! DEFINITION. Tile control (R181 to R184, R193 to R197): dispatch, the array, the element unit, re-forming, and CONTROL commands. -/

set_option Elab.async false

namespace Sys2Proof.Machine

/-! Ring heads. -/

/-- The oldest command of a tile work ring that has not been dispatched (R183). -/
def State.headOf (s : State) (r : Nat) : Option (Nat × JEntry) :=
  s.journal.find? (fun e => e.2.onTile && e.2.tileRing == r && e.2.st == .accepted && e.2.fin.isNone)

/-- The rings bound to a logical tile: entry and ring (R182). -/
def State.boundRings (s : State) (t : Nat) : List (Nat × Nat) :=
  ((numsFrom 0 16).filter (fun i => s.flag (Fld.TILE_RINGBIND_VALID t i))).map (fun i => (i, s.get (Fld.TILE_RINGBIND_RING t i)))

/-- OP under which a command's operation runs: an EXPERT_PASS of OP 0 is a matrix product (R256). -/
def JEntry.isMatrix (e : JEntry) : Bool := e.kind == 1 || (e.kind == 2 && e.op == 0)

/-- Whether a command is a MATVEC of the element unit's table (R149). -/
def JEntry.isMatvec (e : JEntry) : Bool := e.kind == 3 && e.op == 0x0F

/-- Whether the array of a logical tile runs nothing and is not re-forming (R125, R183). -/
def State.arrayFree (s : State) (t p : Nat) : Bool :=
  !s.flag (Fld.TILE_ARRSTAT_RESHAPING p) && !s.journal.any (fun e => e.2.onTile && e.2.tile == t && e.2.fin.isNone && e.2.unit == .array)

/-- Whether the element unit of a logical tile runs nothing. -/
def State.elementFree (s : State) (t : Nat) : Bool := !s.journal.any (fun e => e.2.onTile && e.2.tile == t && e.2.fin.isNone && e.2.unit == .element)

/-- The row count a command runs with, as its scratchpad shows it before its dispatch (R196). -/
def State.rowsAhead (s : State) (p : Nat) (e : JEntry) : Nat :=
  if tMindir e.words then min (tMmax e.words) (leNat (s.rbs (spKey p (tMind e.words)) 4)) else tMmax e.words

/-- Whether the limits of R161 admit a MATVEC to the fallback. -/
def State.fallbackFits (s : State) (m : Nat) (ws : List Word) : Bool :=
  let ra := s.fmt (opN ws 0).row
  decide (m ≤ 8) && decide (m * (ra.rowBytes (tK ws) + if ra.scaled then ceilDiv (tK ws) 32 else 0) ≤ 65536)

/-- The array shape a command takes: the current one, or the one it names if it is enabled (R127, R188). -/
def State.shapeFor (s : State) (p : Nat) (ws : List Word) : Nat :=
  let cur := s.get (Fld.TILE_ARRSTAT_SHAPE p)
  if tShape ws = 0 ∨ ¬ s.shapeOn (tShape ws - 1) then cur else tShape ws - 1

/-- Whether a MATVEC runs on the fallback (R164, R165). -/
def State.onFallback (s : State) (t p : Nat) (e : JEntry) : Bool :=
  let ws := e.words
  if tPath ws = 2 then true
  else if tPath ws = 1 ∨ ¬ s.hflag 4 ∨ 1 < (s.yokeMembers t).length then false
  else
    let m := s.rowsAhead p e
    let fits := s.fallbackFits m ws
    if s.get (Fld.TILE_EUCTL_MVFORCE p) = 1 then false
    else if s.get (Fld.TILE_EUCTL_MVFORCE p) = 2 then fits
    else
      let fm (k : Nat) : FmtRow := s.fmt (opN ws k).row
      let shape := s.shapeFor p ws
      let a := arrayCycles 1 shape (fm 0) (fm 1) (fm 2) (s.flag (Fld.TILE_ARRCTL_ROWCHK p)) m (tK ws) (tN ws) +
        (if shape = s.get (Fld.TILE_ARRSTAT_SHAPE p) then 0 else 64)
      fits && decide (fallbackCycles (fm 1) (fm 2) (opN ws 1) m (tK ws) (tN ws) < a)

/-- Early occupants of a tile's channels, youngest first (R217). -/
def State.earlyOnes (s : State) (t : Nat) : List (Nat × JEntry) :=
  (s.journal.filter (fun e => e.2.isStream && e.2.tile == t && e.2.st == .accepted && e.2.fin.isNone && e.2.unit != .none)).reverse

/-- The channel a STREAM head may take: its own as an early occupant, a free one, or the youngest early occupant's; halted streams that can resume go first (R217, R221). -/
def State.channelFor (s : State) (t : Nat) (e : JEntry) : Option TileUnit :=
  match e.unit with
  | .channel c => some (.channel c)
  | _ =>
    if (s.streamsOf t).any (fun x => s.resumable x.2 (s.run x.1)) then none
    else
      match s.freeChannel t with
      | some c => some (.channel c)
      | none => (s.earlyOnes t).head?.map (fun x => x.2.unit)

/-- The unit that a head would take; none while it is busy (R183). -/
def State.unitFor (s : State) (t p : Nat) (e : JEntry) : Option TileUnit :=
  if e.isMatrix ∨ e.kind = 2 then (if s.arrayFree t p then some .array else none)
  else if e.isMatvec then
    if s.onFallback t p e then (if s.elementFree t then some .element else none) else (if s.arrayFree t p then some .array else none)
  else if e.kind = 3 then (if s.elementFree t then some .element else none)
  else if e.kind = 4 then s.channelFor t e
  else some .none

/-- Whether a CONTROL FENCE must wait: an earlier command of its ring has not completed (R193). -/
def State.fenceWaits (s : State) (j : Nat) (e : JEntry) : Bool :=
  e.kind == 5 && e.op == 4 && s.journal.any (fun f => decide (f.1 < j) && f.2.onTile && f.2.tileRing == e.tileRing && !f.2.reported)

/-- The state of a ring's head (TILE_RINGSTAT.BLOCK): the lowest code that applies. -/
def State.headBlock (s : State) (t p j : Nat) (e : JEntry) : Nat :=
  if e.refusal.isSome ∨ s.waitPoisoned e then 1
  else if ¬ s.waitsOk e then 2
  else if e.take.n ≠ 0 ∧ s.pool t e.take.idx < e.take.n then 3
  else if (s.unitFor t p e).isNone then 4
  else if e.isStream ∧ ¬ s.grantableAll t (resvTaken e.words) then 5
  else if s.flag (Fld.TILE_CTL_HOLD p) ∨ ¬ s.gate j e then 6
  else if s.fenceWaits j e then 7
  else 1

/-! Dispatch. -/

/-- An accepted command's status of refusal as a status. -/
def refusalStatus (n : Nat) : Status := if n = Status.rejectedFormat.num then .rejectedFormat else .rejectedShape

/-- Whether an accepted array command stands on the ring of a yoke member that is not its lead (R130, R165). -/
def State.strayMember (s : State) (t : Nat) (e : JEntry) : Bool :=
  (e.isMatrix || (e.isMatvec && tPath e.words != 2)) && s.yokeLead t != t

/-- Refused heads of a ring completed, up to the first head that is not (R197); `fuel` heads at most. -/
def State.passRefused (s : State) (t r : Nat) : Nat → State
  | 0 => s
  | fuel + 1 =>
    match s.headOf r with
    | none => s
    | some (j, e) =>
      match e.refusal with
      | some n => (s.finish j (refusalStatus n) 0 0).passRefused t r fuel
      | none => if s.strayMember t e then (s.finish j .rejectedShape 0 0).passRefused t r fuel else s

/-- The refused heads of every ring of a tile completed. -/
def State.passAllRefused (s : State) (t : Nat) : State :=
  (s.boundRings t).foldl (fun (s : State) b => s.passRefused t b.2 (s.journal.length + 1)) s

/-- The credit taken at a dispatch given back (R196, R273). -/
def State.refund (s : State) (e : JEntry) : State := if e.take.n = 0 then s else s.giveCredit e.tile e.take.idx e.take.n

/-- The row count read at first dispatch and what it leads to (R196). -/
def State.readRows (s : State) (j p : Nat) (e : JEntry) : State :=
  if s.poisonedIn (spKey p (tMind e.words)) 4 then s.finish j .memError 0 0
  else
    let n := leNat (s.rbs (spKey p (tMind e.words)) 4)
    let s := s.jmod j (fun e => { e with rows := some n })
    if n = 0 then s.finish j .empty 0 0
    else if tMmax e.words < n then (s.refund e).finish j .rejectedShape 0 0
    else s

/-- An array command's re-forming begun, on every member, if its shape is not the current one (R125, R126). -/
def State.startReform (s : State) (t p : Nat) (e : JEntry) : State :=
  if s.shapeFor p e.words = s.get (Fld.TILE_ARRSTAT_SHAPE p) then s
  else ((s.yokeMembers t).filterMap s.phys).foldl (fun (s : State) q => s.setFlag (Fld.TILE_ARRSTAT_RESHAPING q) true) s

/-- What the dispatch of an ACCUM reads: its buffer's header (R273). -/
def State.readHeader (s : State) (j : Nat) (e : JEntry) : State :=
  let a := sFsbase e.words
  let r := s.peekUda a 64
  let h := wordsOfBytes 8 r.2
  if ¬ r.1 then s.finish j .memError 0 0
  else if gHeaderOk h a ∧ gCovers h e.words then s.jmod j (fun e => { e with header := h })
  else (s.refund e).finish j .rejectedShape 0 0

/-- What a STREAM's dispatch does beside taking its channel (R213, R224, R273, R388). -/
def State.startStream (s : State) (j t : Nat) (e : JEntry) : State :=
  let rs := resvTaken e.words
  let s := (s.takeResv t j rs).jmod j (fun e => { e with resv := rs })
  let s := s.rmod j (fun _ => StreamRun.start)
  if tOp e.words = 5 then
    if (numsFrom 0 6).any (fun q => s.receivesOn q { e with st := .dispatched } && s.portLost q j) then s.finish j .linkLost 0 0
    else s.openArrival (recvRing e.words)
  else if sFar e.words = 2 ∧ (s.nextHop (sHerd e.words)).any (fun q => s.portLost q j) then s.finish j .linkLost 0 0
  else if tOp e.words = 3 then s.readHeader j e
  else s

/-- Bytes that an early occupant of a channel has read ahead, when it gives the channel up (R217, R218). -/
def earlyBytes (ws : List Word) : Nat := min 65536 (sTotal ws * sFarAtomBytes ws)

/-- An early occupant of a channel turned out (R217). -/
def State.dropEarly (s : State) (p : Nat) (x : Nat × JEntry) : State :=
  match x.2.unit with
  | .channel c => (s.jmod x.1 (fun e => { e with unit := .none })).count (Fld.STR_CHRA_DISCARDED p c) (earlyBytes x.2.words)
  | _ => s

/-- The path of a MATVEC counted (TILE_MVCNT, TILE_EUSTAT.LASTPATH). -/
def State.countPath (s : State) (p : Nat) (e : JEntry) (u : TileUnit) : State :=
  if ¬ e.isMatvec then s
  else if u = .array then (s.count (Fld.TILE_MVCNT_ARRAY p) 1).set (Fld.TILE_EUSTAT_LASTPATH p) 1
  else (s.count (Fld.TILE_MVCNT_FALLBACK p) 1).set (Fld.TILE_EUSTAT_LASTPATH p) 2

/-- A head dispatched (R177, R178, R180, R183, R195, R196). -/
def State.dispatchHead (s : State) (t p j : Nat) (e : JEntry) : State :=
  let s := (s.count (Fld.TILE_DISPCNT_COUNT p) 1).jmod j (fun e => { e with st := .dispatched, disp := e.disp + 1 })
  let s := { s with lastDisp := sinsert s.lastDisp t e.tileRing }
  if s.waitPoisoned e then (s.count (Fld.TILE_CANCELCNT_COUNT p) 1).finish j .cancelled 0 0
  else
    match s.unitFor t p e with
    | none => s
    | some u =>
      let s := match e.unit with
        | .channel _ => s
        | _ => if e.isStream ∧ (s.freeChannel t).isNone then (match s.earlyOnes t with
          | x :: _ => s.dropEarly p x
          | [] => s) else s
      let s := s.consumeWaits t e.waits
      let s := if e.take.n = 0 then s else s.takeCredit t e.take.idx e.take.n
      if e.empty then
        let s := if e.isStream ∧ tOp e.words = 2 ∧ sFar e.words = 2 then s.sendEmpty j e.words else s
        s.finish j .empty 0 0
      else
        let s := (s.jmod j (fun e => { e with unit := u })).countPath p e u
        let s := if u = .array ∧ (e.isMatrix ∨ e.op = 0x0F) then s.startReform t p e else s
        if e.isStream then s.startStream j t e
        else if tMindir e.words ∧ (e.kind = 1 ∨ e.kind = 3) then s.readRows j p e
        else s

/-- Whether ring `a` comes before ring `b` in the round robin after ring `last` (R183). -/
def rrBefore (last a b : Nat) : Bool := if last < a ∧ b ≤ last then true else if last < b ∧ a ≤ last then false else decide (a < b)

/-- The head that a tile dispatches: of the dispatchable ones, that of the highest PRIO, then the next in the round robin (R183). -/
def State.pickHead (s : State) (t p : Nat) : Option (Nat × JEntry) :=
  let last := sget 0 s.lastDisp t
  let cands := (s.boundRings t).filterMap (fun b => (s.headOf b.2).bind (fun h => if s.headBlock t p h.1 h.2 = 1 then some (s.get (Fld.TILE_RINGBIND_PRIO t b.1), b.2, h) else none))
  (cands.foldl (fun (m : Option (Nat × Nat × (Nat × JEntry))) x => match m with
    | none => some x
    | some y => if y.1 < x.1 ∨ (x.1 = y.1 ∧ rrBefore last x.2.1 y.2.1) then some x else some y) none).map (fun x => x.2.2)

/-- The flash tier's part of the read-ahead of an early occupant: lookups of the objects in its first 64 KiB (R216, R217). -/
def State.readAhead (s : State) (j : Nat) (ws : List Word) : State :=
  if (tOp ws ≠ 1 ∧ tOp ws ≠ 4) ∨ sFar ws ≠ 1 then s
  else
    let n := min (sTotal ws) (ceilDiv 65536 (max 1 (sFarAtomBytes ws)))
    let frames := ((numsFrom 0 n).map (fun pos => sFarAt ws (posRow ws pos) (posAtom ws pos))).filter (fun a => regionOf a == .flash)
    ((frames.map frameOf).eraseDups.foldl (fun (s : State) f => (s.lookup j f false).2) s).unpinAll j

/-- An EARLY head whose only unmet conditions are its wait slots takes a free channel (R217). -/
def State.takeEarly (s : State) (t p : Nat) : State :=
  let ok (h : Nat × JEntry) : Bool :=
    h.2.isStream && sEarly h.2.words && h.2.unit == .none && !h.2.empty && s.headBlock t p h.1 h.2 == 2 &&
    (h.2.take.n == 0 || decide (h.2.take.n ≤ s.pool t h.2.take.idx)) && s.grantableAll t (resvTaken h.2.words) && !s.flag (Fld.TILE_CTL_HOLD p) && s.gate h.1 h.2 &&
    !(s.streamsOf t).any (fun x => s.resumable x.2 (s.run x.1))
  match ((s.boundRings t).filterMap (fun b => s.headOf b.2)).find? ok, s.freeChannel t with
  | some (j, e), some c => (s.jmod j (fun e => { e with unit := .channel c })).readAhead j e.words
  | _, _ => s

/-- TILE_DISPATCH: tile control completes refused heads and dispatches the highest-priority dispatchable head (R183, R197). -/
def execTileDispatch (tile : Nat) (s : State) : Host.Outcome State Fault Refusal :=
  if 64 ≤ tile then .next s else
  match s.phys tile with
  | none => .next s
  | some p =>
    if ¬ s.live ∨ s.unitDown 3 tile then .next s
    else
      let s := s.passAllRefused tile
      match s.pickHead tile p with
      | some (j, e) => .next ((s.dispatchHead tile p j e).passAllRefused tile)
      | none => .next (s.takeEarly tile p)

/-- RE_FORMING: the array, with every member of its yoke, takes the shape its dispatched command names (R125). -/
def execReForming (tile : Nat) (s : State) : Host.Outcome State Fault Refusal :=
  if 64 ≤ tile then .next s else
  match s.phys tile, s.journal.find? (fun e => e.2.onTile && e.2.tile == tile && e.2.fin.isNone && e.2.unit == .array) with
  | some p, some (_, e) =>
    if ¬ s.flag (Fld.TILE_ARRSTAT_RESHAPING p) then .next s
    else
      let v := s.shapeFor p e.words
      .next (((s.yokeMembers tile).filterMap s.phys).foldl (fun (s : State) q =>
        ((s.setFlag (Fld.TILE_ARRSTAT_RESHAPING q) false).set (Fld.TILE_ARRSTAT_SHAPE q) v).count (Fld.TILE_ARRSHP_COUNT q) 1) s)
  | _, _ => .next s

/-! Execution. -/

/-- A dispatched command of a KIND and OP on its unit: its entry and physical tile. -/
def State.runsOn (s : State) (j : Nat) (p : JEntry → Bool) : Option (JEntry × Nat) :=
  match s.cmd j with
  | some e => match s.phys e.tile with
    | some q => if e.onTile ∧ e.st = .dispatched ∧ e.fin.isNone ∧ s.live ∧ s.targetUp e ∧ p e then some (e, q) else none
    | none => none
  | none => none

/-- A command run on the array, once the array has its shape (R120, R125). -/
def State.arrayRun (s : State) (j : Nat) (obs : ArrayObs) (k : JEntry → Bool) : State :=
  match s.runsOn j (fun e => e.unit == .array && k e) with
  | some (e, p) => if s.flag (Fld.TILE_ARRSTAT_RESHAPING p) then s else s.runArray j e.tile p e obs
  | none => s

/-- An element operation run (R149). -/
def State.elementRun (s : State) (j op : Nat) (obs : EltObs) : State :=
  match s.runsOn j (fun e => e.kind == 3 && e.op == op) with
  | some (e, p) => s.runElement j p e op obs
  | none => s

/-- ARRAY: a dispatched matrix product runs in its passes (R95, R120). -/
def execArray (jseq : Nat) (obs : ArrayObs) (s : State) : Host.Outcome State Fault Refusal := .next (s.arrayRun jseq obs (fun e => e.kind == 1))

/-- EXPERT_PASS: a Drover's command: a matrix product, or the element operation of the same code (R256). -/
def execExpertPass (jseq : Nat) (arr : ArrayObs) (elt : EltObs) (s : State) : Host.Outcome State Fault Refusal :=
  match s.runsOn jseq (fun e => e.kind == 2) with
  | none => .next s
  | some (e, p) =>
    if e.op = 0 then .next (s.arrayRun jseq arr (fun e => e.kind == 2))
    else if e.op = 0x0F then .next (s.arrayRun jseq arr (fun e => e.kind == 2))
    else .next (s.runElement jseq p e e.op elt)

/-- CONVERT (R149). -/
def execEltConvert (jseq : Nat) (obs : EltObs) (s : State) : Host.Outcome State Fault Refusal := .next (s.elementRun jseq 0x01 obs)
/-- ADD (R149). -/
def execEltAdd (jseq : Nat) (obs : EltObs) (s : State) : Host.Outcome State Fault Refusal := .next (s.elementRun jseq 0x02 obs)
/-- MUL (R149). -/
def execEltMul (jseq : Nat) (obs : EltObs) (s : State) : Host.Outcome State Fault Refusal := .next (s.elementRun jseq 0x03 obs)
/-- FMA (R149). -/
def execEltFma (jseq : Nat) (obs : EltObs) (s : State) : Host.Outcome State Fault Refusal := .next (s.elementRun jseq 0x04 obs)
/-- MAX (R149). -/
def execEltMax (jseq : Nat) (obs : EltObs) (s : State) : Host.Outcome State Fault Refusal := .next (s.elementRun jseq 0x05 obs)
/-- MIN (R149). -/
def execEltMin (jseq : Nat) (obs : EltObs) (s : State) : Host.Outcome State Fault Refusal := .next (s.elementRun jseq 0x06 obs)
/-- CURVE (R149, R153). -/
def execEltCurve (jseq : Nat) (obs : EltObs) (s : State) : Host.Outcome State Fault Refusal := .next (s.elementRun jseq 0x07 obs)
/-- REDUCE (R148, R149). -/
def execEltReduce (jseq : Nat) (obs : EltObs) (s : State) : Host.Outcome State Fault Refusal := .next (s.elementRun jseq 0x08 obs)
/-- RMSNORM (R155). -/
def execRmsNorm (jseq : Nat) (obs : EltObs) (s : State) : Host.Outcome State Fault Refusal := .next (s.elementRun jseq 0x09 obs)
/-- LAYERNORM (R155). -/
def execLayerNorm (jseq : Nat) (obs : EltObs) (s : State) : Host.Outcome State Fault Refusal := .next (s.elementRun jseq 0x0A obs)
/-- SOFTMAX (R156). -/
def execSoftmax (jseq : Nat) (obs : EltObs) (s : State) : Host.Outcome State Fault Refusal := .next (s.elementRun jseq 0x0B obs)
/-- ATTN_ONLINE (R157, R158). -/
def execAttnOnline (jseq : Nat) (obs : EltObs) (s : State) : Host.Outcome State Fault Refusal := .next (s.elementRun jseq 0x0C obs)
/-- ATTN_FINAL (R159). -/
def execAttnFinal (jseq : Nat) (obs : EltObs) (s : State) : Host.Outcome State Fault Refusal := .next (s.elementRun jseq 0x0D obs)
/-- RESID (R160). -/
def execResid (jseq : Nat) (obs : EltObs) (s : State) : Host.Outcome State Fault Refusal := .next (s.elementRun jseq 0x0E obs)

/-- MATVEC: runs on the fallback or the array, as its dispatch chose (R161 to R165). -/
def execMatvec (jseq : Nat) (arr : ArrayObs) (elt : EltObs) (s : State) : Host.Outcome State Fault Refusal :=
  match s.runsOn jseq (fun e => e.isMatvec) with
  | none => .next s
  | some (e, p) => if e.unit = .element then .next (s.runFallback jseq p e elt) else .next (s.arrayRun jseq arr (fun e => e.isMatvec))

/-- A dispatched CONTROL command of an OP commits (R193, R194). -/
def State.controlRun (s : State) (j op : Nat) : State :=
  match s.runsOn j (fun e => e.kind == 5 && e.op == op) with
  | some _ => s.finish j .ok 0 0
  | none => s

/-- CONTROL_NOP (R193). -/
def execControlNop (jseq : Nat) (s : State) : Host.Outcome State Fault Refusal := .next (s.controlRun jseq 1)
/-- MARK_SET: its entries are applied at its commit, before its signals (R193, R194). -/
def execMarkSet (jseq : Nat) (s : State) : Host.Outcome State Fault Refusal := .next (s.controlRun jseq 2)
/-- CREDIT_SET: its entries are applied at its commit, before its signals (R193, R194). -/
def execCreditSet (jseq : Nat) (s : State) : Host.Outcome State Fault Refusal := .next (s.controlRun jseq 3)
/-- CONTROL_FENCE: dispatched once every earlier command of its ring has completed (R193). -/
def execControlFence (jseq : Nat) (s : State) : Host.Outcome State Fault Refusal := .next (s.controlRun jseq 4)

/-- SCRUB: the scrubber of a physical tile reads its next bank row across the banks (R175). -/
def execScrub (phys : Nat) (obs : EccObs) (s : State) : Host.Outcome State Fault Refusal :=
  if 68 ≤ phys then .next s else
  if ¬ s.flag (Fld.TILE_SPCTL_SCRUB phys) ∨ ¬ s.live then .next s
  else
    let row := s.get (Fld.TILE_SPSCRUB_NEXT phys)
    let mine (l : List Nat) : List Nat := l.filter (fun o => o / 1024 == row)
    let s := s.spErrors phys ⟨mine obs.corrected, mine obs.uncorrectable⟩
    if 15360 ≤ row + 1 then .next ((s.set (Fld.TILE_SPSCRUB_NEXT phys) 0).count (Fld.TILE_SPSCRUB_PASSES phys) 1) else .next (s.set (Fld.TILE_SPSCRUB_NEXT phys) (row + 1))

/-- The effect of a write to TILE_ARRINJ (R143): one fault armed, or an unused one disarmed. -/
def State.armInjection (s : State) (p : Nat) (v : Word) : State :=
  if bit v 21 then { s with arrInj := sinsert s.arrInj p (bits v 10 10, bits v 0 10) } else { s with arrInj := serase s.arrInj p }

end Sys2Proof.Machine
end

