-- ==== Sys2Proof/Machine/Fault.lean ====
section
/-! DEFINITION. Retirements and their replays (R503 to R522), fatal faults (R519), power warnings (R526 to R528, R537, R544) and re-admission (R529 to R531). -/

set_option Elab.async false

namespace Sys2Proof.Machine

/-! Replays (R509). -/

/-- First position of the segment in hand of a stream. -/
def segStart (ws : List Word) (n : Nat) : Nat := if n = 0 then 0 else sSegEnd ws (n - 1)

/-- First unit of the segment in hand of a stream that goes by messages. -/
def unitStart (ws : List Word) (n : Nat) : Nat := if n = 0 then 0 else sUnitEnd ws (n - 1)

/-- Where a stream goes on at its replay: at its first undelivered segment, or at its halt position (R509); reads outstanding and messages sent stay with the exchange unit and the host interface (log entry 31). -/
def StreamRun.replayed (r : StreamRun) (e : JEntry) : StreamRun :=
  let ws := e.words
  let p := segStart ws e.segs
  if r.halt.isSome then r
  else match tOp ws, sFar ws with
  | 3, _ => if ¬ r.staged ∧ sSegEnd ws e.segs ≤ r.pos then r else { r with pos := p, staged := false, held := [], wait := .ready }
  | 1, 1 => { r with pos := p, wait := .ready }
  | 2, 1 => { r with pos := p, wait := .ready }
  | 2, 3 => { (r.reach ws (unitStart ws e.segs)) with wait := .ready }
  | 4, _ => { r with pos := 0, wait := .ready }
  | _, _ => r

/-- The unacknowledged messages of a command sent again (R509). -/
def State.resendFor (s : State) (j : Nat) : State :=
  s.net.txFlows.foldl (fun (s : State) f =>
    if s.firstHopUp (f.1 / 256) then (f.2.sent.filter (fun x => x.jseq == j)).foldl (fun (s : State) x => s.resendOne (f.1 / 256) (f.1 % 256) f.2 x) s else s) s

/-- A replay counted as a dispatch of the physical tile that executes it (TILE_DISPCNT). -/
def State.countReplay (s : State) (t : Nat) : State :=
  match s.phys t with
  | some p => s.count (Fld.TILE_DISPCNT_COUNT p) 1
  | none => s

/-- A tile command dispatched again (R508, R509): its waits, credits and reservations stay as they are recorded. A command whose commit was held (R184) runs again with the same result. -/
def State.replayTile (s : State) (j : Nat) : State :=
  match s.cmd j with
  | none => s
  | some e =>
    let s := (s.jmod j (fun e => { e with disp := e.disp + 1 })).countReplay e.tile
    if e.isStream then (s.rmod j (fun r => r.replayed e)).resendFor j else s

/-! Retiring a tile (R512 to R514). -/

/-- The logical tile of a physical tile. -/
def State.logicalOf (s : State) (p : Nat) : Option Nat := (numsFrom 0 64).find? (fun t => s.phys t == some p)

/-- Whether a physical tile is free: in service and not mapped. -/
def State.tileFree (s : State) (p : Nat) : Bool := !s.isRetired 1 p && (s.logicalOf p).isNone

/-- The replacement on die `d`: the spare if it is free, else the lowest-numbered free tile (R512). -/
def State.replacement (s : State) (d : Nat) : Option Nat :=
  if s.tileFree (physCode d 16) then some (physCode d 16) else (firstFrom (fun i => s.tileFree (physCode d i)) 0 16).map (physCode d)

/-- Commands of logical tile `t` that are dispatched and not committed (R509). -/
def State.runningOn (s : State) (t : Nat) : List Nat :=
  (s.journal.filter (fun e => e.2.onTile && e.2.tile == t && e.2.st == .dispatched && e.2.refusal.isNone)).map (·.1)

/-- Array commands of the lead of `t`'s yoke that the other member `t` takes part in (R131, R132). -/
def State.yokeRunning (s : State) (t : Nat) : List Nat :=
  let l := s.yokeLead t
  if l = t then []
  else (s.journal.filter (fun e => e.2.onTile && e.2.tile == l && e.2.isMatrix && e.2.st == .dispatched && e.2.refusal.isNone)).map (·.1)

/-- Commands that end with a tile whose logical tile can no longer be mapped (R132, R513): all of it that have not committed, and the array commands of its yoke. -/
def State.endWith (s : State) (t : Nat) : List Nat :=
  let l := s.yokeLead t
  (s.journal.filter (fun e => e.2.onTile && !e.2.settled && e.2.refusal.isNone && (e.2.tile == t || (e.2.tile == l && e.2.isMatrix)))).map (·.1)

/-- A scratchpad copied to the replacement, the granules at the local offsets `bad` unreadable (R512). -/
def State.copyPad (s : State) (p q : Nat) (bad : List Nat) : State :=
  bad.foldl (fun (s : State) o => if o < spSize then s.poisonGranule (spKey q o / 32) else s) (s.copyArea (spKey p 0) (spKey q 0) spSize)

/-- The array of a replacement: the shape of its yoke, or the Harness shape, and a re-form begun again where one was under way (R118, R132). -/
def State.replaceArray (s : State) (t p q : Nat) : State :=
  let ms := (s.yokeMembers t).filterMap s.phys
  let shape := match ms.find? (fun x => x != q) with
    | some x => s.get (Fld.TILE_ARRSTAT_SHAPE x)
    | none => s.harnessShape t
  let s := { (s.set (Fld.TILE_ARRSTAT_SHAPE q) shape) with arrInj := serase s.arrInj p }
  let s := ms.foldl (fun (s : State) x => s.setFlag (Fld.TILE_ARRSTAT_RESHAPING x) false) s
  match s.journal.find? (fun e => e.2.onTile && e.2.tile == s.yokeLead t && e.2.fin.isNone && e.2.unit == .array), s.phys (s.yokeLead t) with
  | some (_, e), some l => s.startReform (s.yokeLead t) l e
  | _, _ => s

/-- A mapped tile retired with a replacement (R512, R514). -/
def State.moveTile (s : State) (t p q : Nat) (bad : List Nat) : State :=
  let work := (s.runningOn t ++ s.yokeRunning t).foldl nadd []
  let rings := s.hostRingsOf work
  let s := (s.beginRecovery 1 rings).raise .tileRetired p (BitVec.ofNat 64 t) 0
  let s := (s.earlyOnes t).foldl (fun (s : State) x => s.dropEarly p x) s
  let s := ((s.copyPad p q bad).editTileMap t (some q) p).replaceArray t p q
  let s := work.foldl (fun (s : State) j => s.replayTile j) s
  s.recoveryEvent.barriersOf rings

/-- A mapped tile retired without a replacement (R132, R513): the logical tile becomes unmapped and its yoke is dissolved. -/
def State.unmapTile (s : State) (t p : Nat) : State :=
  let work := s.endWith t
  let rings := s.hostRingsOf work
  let s := (s.beginRecovery 1 rings).raise .tileRetired p (BitVec.ofNat 64 t) 0
  let s := (s.earlyOnes t).foldl (fun (s : State) x => s.dropEarly p x) s
  let s := work.foldl (fun (s : State) j => s.jmod j (fun e => { e with fin := none })) s
  let s := work.foldl (fun (s : State) j => (s.dropSent j).finish j .memError 0 0) s
  let s := if 1 < (s.yokeMembers t).length then { s with dissolved := nadd s.dissolved (s.yokeLead t) } else s
  (s.editTileMap t none p).recoveryEvent.barriersOf rings

/-- TILE_RETIRED: a permanent fault retires a physical tile (R512, R513); `bad` lists the granules of its scratchpad that cannot be read, by local offset. -/
def execTileRetired (phys : Nat) (bad : List Nat) (s : State) : Host.Outcome State Fault Refusal :=
  if 68 ≤ phys then .next s else
  if s.isRetired 1 phys ∨ ¬ s.live then .next s
  else
    let s := s.retireUnit 1 phys
    match s.logicalOf phys with
    | none => .next (((s.beginRecovery 1 []).raise .tileRetired phys 0xFF 0).recoveryEvent).capChange
    | some t =>
      match s.replacement (phys / 17) with
      | some q => .next (s.moveTile t phys q bad).capChange
      | none => .next (s.unmapTile t phys).capChange

/-! Units, ring contexts (R505, R518). -/

/-- A command ended MEM_ERROR whatever executes it. -/
def State.failOne (s : State) (j : Nat) : State :=
  match s.cmd j with
  | none => s
  | some e =>
    if e.settled ∨ e.fin.isSome ∨ e.refusal.isSome then s
    else match e.target with
      | .drover _ => s.routeError j
      | .sequencer _ => s.finishSweep j .memError
      | _ => (s.dropSent j).finish j .memError 0 0

/-- The jobs that a Drover cluster or update sequencer has accepted and not ended (R518). -/
def State.jobsOf (s : State) (t : Target) : List Nat := (s.journal.filter (fun e => e.2.target == t && e.2.fin.isNone && e.2.refusal.isNone)).map (·.1)

/-- UNIT_RETIRED: a Drover cluster (0 to 3), an update sequencer (4 to 7) or the row engines of S16 to S19 (8 to 11) retire (R359, R505, R518). -/
def execUnitRetired (unit : Nat) (s : State) : Host.Outcome State Fault Refusal :=
  if 12 ≤ unit then .next s else
  if s.isRetired 5 unit ∨ ¬ s.live then .next s
  else
    let s := s.retireUnit 5 unit
    let jobs := if unit < 4 then s.jobsOf (.drover unit) else if unit < 8 then s.jobsOf (.sequencer (unit - 4)) else []
    let rings := s.hostRingsOf jobs
    let s := if unit < 8 then s.beginRecovery 5 rings else s
    let s := jobs.foldl (fun (s : State) j => s.failOne j) s
    let s := (s.raise .unitRetired unit 0 0).capChange
    .next (if unit < 8 then s.recoveryEvent.barriersOf rings else s)

/-- RING_RETIRED: both copies of a ring context have failed (R505): whatever it has accepted and not completed completes MEM_ERROR, a committed command with the effects it has committed (R472). -/
def execRingRetired (ring : Nat) (s : State) : Host.Outcome State Fault Refusal :=
  if 16384 ≤ ring then .next s else
  if s.isRetired 6 ring ∨ ¬ s.live then .next s
  else
    let s := s.retireUnit 6 ring
    let work := (s.journal.filter (fun e => e.2.ring == ring || (e.2.onTile && e.2.tileRing == ring))).filter (fun e => e.2.refusal.isNone)
    let js := work.map (·.1)
    let rings := s.hostRingsOf js
    let s := (s.dropFetched ring).beginRecovery 6 rings
    let s := js.foldl (fun (s : State) j => s.jmod j (fun e => if e.settled then { e with status := Status.memError.num } else { e with fin := none })) s
    let s := js.foldl (fun (s : State) j => s.failOne j) s
    .next ((s.raise .ringRetired ring (BitVec.ofNat 64 js.length) 0).recoveryEvent.barriersOf rings)

/-! The journal mirror and the halts (R519, R527, R528). -/

/-- STATE of JRN_ENT. -/
def CmdState.num : CmdState → Nat
  | .accepted => 1
  | .dispatched => 2
  | .committed => 3

/-- Whether any flash stack is in service. -/
def State.anyFlash (s : State) : Bool := (numsFrom 0 4).any s.flashIn

/-- The used entries as the mirror lists them (R528). -/
def State.listed (s : State) : List Listed :=
  s.journal.map (fun e => ⟨e.1, e.2.ring, if e.2.parent = 0 then e.2.idx % 2 ^ 16 else 0, e.2.st.num⟩)

/-- The journal written to the mirror area, where a flash stack is in service (R527). -/
def State.writeMirror (s : State) : State :=
  if s.anyFlash then { s with mirror := some ⟨s.nextJseq, s.listed⟩ } else s.setFlag Fld.JRN_MIRROR_NOFLASH true

/-- What the first falling edge of PWR_WARN_N does (R527). -/
def State.powerWarn (s : State) : State :=
  if s.power.warned then s
  else
    let s := s.pwmod (fun p => { p with warned := true })
    if s.halt = .running then { (s.writeMirror) with halt := .powerWarning } else s

/-- The POWER event (R556). -/
def State.powerEvent (s : State) (reason : Nat) : State := s.raise .power 0 (BitVec.ofNat 64 reason) (BitVec.ofNat 64 (s.get Fld.PWR_MEAS_REV_W))

/-- PWR_WARN_N: a filtered falling edge; the first of a power cycle halts the device (R527, R552). -/
def execPwrWarnN (s : State) : Host.Outcome State Fault Refusal :=
  if s.power.porst then .next s
  else if s.power.warned then .next (s.count Fld.CLK_RSTCNT_WARNEXTRA 1)
  else .next s.powerWarn

/-- RAIL_FAULT: a rail but VAON (rail 0) stays below its range (R537). -/
def execRailFault (rail : Nat) (s : State) : Host.Outcome State Fault Refusal :=
  if 7 ≤ rail then .next s else
  if s.power.porst ∨ rail = 0 then .next s else .next (s.powerWarn.powerEvent 7)

/-- The trip temperature of the junction sensors, in °C (R544). -/
def State.tripLimit (s : State) : Nat := if s.hasSection 0xB then bits (wordAt (s.section_ 0xB) 8) 8 8 else 110

/-- The trip temperature of a sensor, in °C: a stack's is fixed (R589). -/
def State.tripOf (s : State) (sensor : Nat) : Nat := if sensor < 40 then s.tripLimit else if sensor < 60 then 100 else 95

/-- THERM_N: a sensor exceeds its trip temperature; `temp` in units of 0.125 °C (R544, R589). -/
def execThermN (sensor temp : Nat) (s : State) : Host.Outcome State Fault Refusal :=
  if 64 ≤ sensor then .next s else
  if s.power.porst ∨ s.flag Fld.PWR_THERM_TRIPPED ∨ signed 16 (temp % 2 ^ 16) ≤ 8 * (s.tripOf sensor : Int) then .next s
  else .next ((s.setFlag Fld.PWR_THERM_TRIPPED true).powerWarn.powerEvent 4)

/-- FATAL: a fault that no redundancy covers halts the device (R519); causes 1 to 5 as JRN_FATAL encodes them. -/
def execFatal (cause : Nat) (s : State) : Host.Outcome State Fault Refusal :=
  if s.halt ≠ .running ∨ s.power.porst then .next s
  else
    let s := (s.set Fld.JRN_FATAL_CAUSE cause).setFlag Fld.JRN_FATAL_FATAL true
    let s := if cause = 1 then s else s.writeMirror
    let s := if s.flag Fld.HIF_STAT_LINKUP then s.tx .aerUncorrectable else s
    .next { s with halt := .fatal }

/-! Re-admission (R529 to R531). -/

/-- Units of each class of JRN_READMIT. -/
def readmitRange (cls idx : Nat) : Bool :=
  match cls with
  | 1 => decide (idx < 68)
  | 2 => decide (idx < 6)
  | 3 => decide (idx < 640)
  | 4 => decide (idx < 20) || (decide (32 ≤ idx) && decide (idx < 36))
  | 5 => decide (idx < 12)
  | 6 => decide (idx < 16384)
  | _ => false

/-- The re-admissions changed. -/
def State.rdmod (s : State) (f : ReadmitState → ReadmitState) : State := { s with readmit := f s.readmit }

/-- A write of JRN_READMIT (R529, R531): the state after it, and whether it started a re-admission. -/
def State.readmitReq (s : State) (cls idx : Nat) : State × Bool :=
  let k := 65536 * cls + idx
  if cls = 0 ∨ 6 < cls then (s, false)
  else
    let rep (st : Nat) : State := (((s.set Fld.JRN_RASTAT_CLASS cls).set Fld.JRN_RASTAT_INDEX idx).set Fld.JRN_RASTAT_STATE st).set Fld.JRN_RASTAT_TIMES (s.timesRetired cls idx)
    if ¬ readmitRange cls idx ∨ ¬ s.isRetired cls idx then (rep 7, false)
    else if 3 ≤ s.timesRetired cls idx then (rep 6, false)
    else if cls = 2 then
      match (rep 1).lnkReadmit idx with
      | some s => (s, true)
      | none => (s, false)
    else if nmem s.readmit.tests k ∨ nmem s.readmit.joining k then (s, false)
    else ((rep 1).rdmod (fun r => { r with tests := nadd r.tests k }), true)

/-- SELF_TEST: a unit's self-test ends; it waits to join, or stays retired (R529, R531). -/
def execSelfTest (cls idx : Nat) (pass : Bool) (s : State) : Host.Outcome State Fault Refusal :=
  let k := 65536 * cls + idx
  if ¬ nmem s.readmit.tests k ∨ ¬ s.live then .next s
  else
    let s := s.rdmod (fun r => { r with tests := ndel r.tests k })
    if ¬ pass then .next (s.setRastat cls idx 5)
    else
      let s := if cls = 1 then s.clearArea (spKey idx 0) spSize else s
      .next ((s.rdmod (fun r => { r with joining := nadd r.joining k })).setRastat cls idx 3)

/-- A unit taken back into service, with its event (R480, R529). -/
def State.rejoin (s : State) (cls idx inst st : Nat) : State :=
  (((s.readmitUnit cls idx).rdmod (fun r => { r with joining := ndel r.joining (65536 * cls + idx) })).setRastat cls idx st).raise .readmitted inst 0 0

/-- A pseudo-channel joins: its chunks are copied back from here on; a lost one's granules are poisoned until written (R338, R340). -/
def State.joinPch (s : State) (p : Nat) : State :=
  let s := if sfind s.tier.pchs p = some .lost then s.poisonPch p else s
  (s.readmitUnit 3 p).tmod (fun t => { t with pchs := sinsert t.pchs p .copyingBack })

/-- A free physical tile joins, and takes the lowest unmapped logical tile of its die (R530). -/
def State.joinTile (s : State) (p : Nat) : State :=
  let s := s.rejoin 1 p (0x100 + p) 4
  match (numsFrom (16 * (p / 17)) 16).find? (fun t => !s.mapped t), s.image with
  | some t, some _ => ((s.clearArea (spKey p 0) spSize).editTileMap t (some p) p).set (Fld.TILE_ARRSTAT_SHAPE p) (s.harnessShape t)
  | _, _ => s

/-- One waiting unit joins at a revolution boundary, if its class does (R529). -/
def State.joinUnit (s : State) (k : Nat) : State :=
  let cls := k / 65536
  let idx := k % 65536
  match cls with
  | 1 => (s.joinTile idx).capChange
  | 3 => ((s.rejoin 3 idx (0x800 + idx) 2).joinPch idx).capChange
  | 4 =>
    if idx < 20 then
      let s := (s.rejoin 4 idx (0x400 + idx) 2).setFlag (Fld.DRM_STAT_INSERVICE idx) true
      ((numsFrom (32 * idx) 32).foldl (fun (s : State) p => s.joinPch p) s).capChange
    else
      let f := idx - 32
      (((s.rejoin 4 idx (0x400 + idx) 4).fmod f (fun x => { x with eligible := true })).setFlag (Fld.FLS_STAT_INSERVICE f) true).capChange
  | _ => s

/-- The units that join at a revolution boundary (R529). -/
def State.joinAtBoundary (s : State) : State := s.readmit.joining.foldl (fun (s : State) k => s.joinUnit k) s

/-- The units and ring contexts that join at the application of a full load (R529). -/
def State.joinAtLoad (s : State) : State :=
  s.readmit.joining.foldl (fun (s : State) k =>
    let idx := k % 65536
    match k / 65536 with
    | 5 => if (idx < 4 ∧ ¬ s.hasSection 6) ∨ (4 ≤ idx ∧ idx < 8 ∧ ¬ s.hasSection 0xD) then s else s.rejoin 5 idx (0x500 + idx) 4
    | 6 => s.rejoin 6 idx (0x4000 + idx) 4
    | _ => s) s

end Sys2Proof.Machine
end

