-- ==== Sys2Proof/Machine/Import.lean ====
section
/-! DEFINITION. Import of a difference stream (R497 to R499, R502). -/

set_option Elab.async false

namespace Sys2Proof.Machine

/-- DIF_IMPSTAT.STATE, a live field (R497, R502): 0 disabled, 1 waiting for the job slots, 2 running, 3 stopped. -/
def State.importState (s : State) : Nat :=
  if ¬ s.flag Fld.DIF_IMPCTL_ENABLE then 0
  else if s.get Fld.DIF_IMPSTAT_ERR ≠ 0 then 3
  else if s.sweep.jobs.isEmpty then 2
  else 1

/-- What has been read ahead forgotten: a read outstanding no longer counts. -/
def State.importForget (s : State) : State := s.dmod (fun d => { d with buf := [], reading := false })

/-- Import stopped with an error, and DIF_CFG.VECTOR signalled (R498). -/
def State.importStop (s : State) (err : Nat) : State := ((s.set Fld.DIF_IMPSTAT_ERR err).importForget).signal (s.get Fld.DIF_CFG_VECTOR)

/-- LEN of the chunk whose first bytes are `bs`. -/
def chunkLen (bs : List Byte) : Nat := bits (wordAt bs 0) 32 32

/-- The header and payload of a chunk read (R488). -/
def chunkOf (bs : List Byte) : Chunk :=
  let f := fun k lo n => bits (wordAt bs (8 * k)) lo n
  ⟨f 0 28 4, f 0 26 2, f 0 24 2, f 0 22 2, f 0 12 10, f 2 32 32, f 2 0 32, f 3 51 13, f 3 38 13, f 3 25 13, f 4 32 32, (wordAt bs 40).toNat, bs.drop 48⟩

/-- Bytes that ZRUN entries take until `n` bytes are covered. -/
def zrunUsed : Nat → Nat → List Byte → Nat
  | 0, _, _ => 0
  | fuel + 1, n, bs =>
    if n = 0 then 0
    else
      match bs with
      | l :: z :: rest => 2 + l.toNat + zrunUsed fuel (n - l.toNat - z.toNat) (rest.drop l.toNat)
      | _ => 0

/-- A plane of `n` bytes from its mode and its encoding; none when the length contradicts the mode (R490, R498). -/
def decodePlane (mode n : Nat) (bs : List Byte) : Option (List Byte) :=
  match mode with
  | 0 => if bs.isEmpty then some (List.replicate n 0) else none
  | 1 => if bs.length = n then some bs else none
  | 2 => if zrunUsed n n bs = bs.length then expandZrun 1 n n bs else none
  | _ => none

/-- The planes of a DELTA chunk, high bytes and low bytes (R490). -/
def Chunk.planes (c : Chunk) : Option (List Byte × List Byte) :=
  if c.payload.length < c.hlen + c.llen then none
  else
    match decodePlane c.hmode c.nelem (c.payload.take c.hlen), decodePlane c.lmode c.nelem ((c.payload.drop c.hlen).take c.llen) with
    | some h, some l => some (h, l)
    | _, _ => none

/-- Payload bytes a chunk of a type must have at least (R489). -/
def payloadMin (type : Nat) : Nat := if type = 2 then 16 else if type = 4 then 96 else 0

/-- Whether a chunk fails the checks of ERR 0x1: its CRC, its TYPE, its modes and its lengths (R498). -/
def chunkBad (bs : List Byte) : Bool :=
  let c := chunkOf bs
  decide (bs.length < 48 ∨ chunkLen bs < 48) || bits (wordAt bs 32) 0 32 != crc32c (bs.take 32 ++ leBytes 4 0 ++ bs.drop 36) ||
    !(decide (1 ≤ c.type) && decide (c.type ≤ 4)) || decide (c.payload.length < payloadMin c.type) || (c.type == 1 && c.planes.isNone)

/-- The chunk's place in the rule's W, in bytes, when BLOCK and NELEM lie within the rule (R498). -/
def Rule.chunkAt (r : Rule) (c : Chunk) : Option Nat :=
  if 1 ≤ c.nelem ∧ c.nelem ≤ 4096 ∧ 4096 * c.block + c.nelem ≤ r.ne then some (r.w + 8192 * c.block) else none

/-- A chunk applied: the positions move past it (R497). -/
def State.importDone (s : State) (len : Nat) : State :=
  (((s.wrap Fld.DIF_IMPPOS_POS len).wrap Fld.DIF_IMPSEQ_SEQ 1).count Fld.DIF_IMPSTAT_APPLIED 1).importForget

/-- A DELTA chunk applied: the block's W read, changed by the planes, checked and written (R497, R498). -/
def State.importDelta (s : State) (c : Chunk) (len : Nat) : State :=
  match s.rule c.rule with
  | none => s.importStop 4
  | some r =>
    match r.chunkAt c, c.planes with
    | some a, some (h, l) =>
      match s.readAll 0 [(a, 2 * c.nelem)] [] with
      | (.bad, s) => s.importStop 8
      | (.waits, s) => s
      | (.data bss, s) =>
        let x := (List.zipWith (fun lo hi => [lo, hi]) l h).flatten
        let new := List.zipWith (fun a b => a ^^^ b) (bss.headD []) x
        if crc32c new ≠ c.newcrc then s.importStop 5
        else
          match s.putDurable [(a, new)] with
          | (.bad, s) => s.importStop 8
          | (.waits, s) => s
          | (.done, s) =>
            let m := max 1 r.matLen
            let e0 := 4096 * c.block / m
            let es := numsFrom e0 ((4096 * c.block + c.nelem - 1) / m - e0 + 1)
            let ts := (es.map (fun e => Touched.mk c.seqr c.step c.rule e)).filter (fun t => !(s.diff.touched.any (fun u => u == t)))
            (s.dmod (fun d => { d with touched := d.touched ++ ts })).importDone len
    | _, _ => s.importStop 4

/-- The copies of the matrices that received chunks, made one after the other (R499). -/
def State.importCopies (s : State) (step : Nat) : List Touched → Put × State
  | [] => (.done, s)
  | t :: l =>
    match s.rule t.rule with
    | none => s.importCopies step l
    | some r =>
      if ¬ r.copies then s.importCopies step l
      else
        match s.copyMatrix 0 r step t.e with
        | (.done, s) => s.importCopies step l
        | x => x

/-- A STEP_END chunk applied: the copies rebuilt, and ACTAB advanced (R499); on a failed read nothing of it takes effect. -/
def State.importStepEnd (s : State) (c : Chunk) (len : Nat) : State :=
  match s.importCopies c.step (s.diff.touched.filter (fun t => t.seq == c.seqr && t.step == c.step)) with
  | (.bad, _) => s.importStop 8
  | (.waits, _) => s
  | (.done, t) =>
    match (if t.actab c.seqr = 0 then (.done, t) else t.putDurable (t.actabWrites c.seqr c.step (bits (wordAt c.payload 8) 0 32)) : Put × State) with
    | (.bad, _) => s.importStop 8
    | (.waits, _) => s
    | (.done, t) => (t.dmod (fun d => { d with touched := d.touched.filter (fun x => x.seq != c.seqr) })).importDone len

/-- The next chunk applied once all its bytes have been read: the checks of R498 in order, then its effect (R497). -/
def State.importApply (s : State) (bs : List Byte) : State :=
  let c := chunkOf bs
  if chunkBad bs then s.importStop 1
  else if wordAt bs 8 ≠ s.reg Reg.DIF_IMPSEQ then s.importStop 2
  else
    match c.type with
    | 3 => s.importStop 3
    | 1 => s.importDelta c bs.length
    | 2 => s.importStepEnd c bs.length
    | _ => if wordAt c.payload 8 = s.reg Reg.HRN_ACTID ∧ bits (wordAt c.payload 16) 32 32 = s.get Fld.HRN_ACTIVE_GENERATION then s.importDone bs.length else s.importStop 6

/-- Bytes of the next chunk still to be read: first its header, then the rest. -/
def State.importNeed (s : State) : Nat := let n := s.diff.buf.length; if n < 48 then 48 - n else chunkLen s.diff.buf - n

/-- The next read of the import buffer issued, when import runs and the host has placed the bytes (R476, R497): at most 4 KiB, not past the buffer's end. -/
def State.importPump (s : State) : State :=
  let need := s.importNeed
  let have_ := s.diff.buf.length
  let pos := s.get Fld.DIF_IMPPOS_POS + have_
  if s.importState ≠ 2 ∨ s.diff.reading ∨ need = 0 ∨ s.get Fld.DIF_IMPPROD_POS < pos + need then s
  else
    let size := 2 ^ s.get Fld.DIF_IMPCFG_ILOG2
    let off := pos % size
    let n := min need (min (size - off) (4096 - off % 4096))
    match s.issueRead (.importChunk pos n) (4096 * s.get Fld.DIF_IMPBASE_ADDR + off) n with
    | some s => s.dmod (fun d => { d with reading := true })
    | none => s

/-- Bytes of the import buffer arrived (R497). -/
def State.importData (s : State) (pos : Nat) (bs : List Byte) : State :=
  if ¬ s.diff.reading ∨ pos ≠ s.get Fld.DIF_IMPPOS_POS + s.diff.buf.length then s
  else (s.dmod (fun d => { d with buf := d.buf ++ bs, reading := false })).importPump

/-- A read of the import buffer timed out or failed (R498). -/
def State.importFailed (s : State) (pos : Nat) : State :=
  if ¬ s.diff.reading ∨ pos ≠ s.get Fld.DIF_IMPPOS_POS + s.diff.buf.length then s else s.importStop 7

/-- IMPORT: the next chunk is read, and applied once all of it is there (R497). -/
def execImportNext (s : State) : Host.Outcome State Fault Refusal :=
  if ¬ s.live ∨ s.importState ≠ 2 then .next s
  else if 48 ≤ s.diff.buf.length ∧ s.importNeed = 0 then .next (s.importApply s.diff.buf).importPump
  else .next s.importPump

/-- Import enabled by a write of DIF_IMPCTL (R497). -/
def State.importEnable (s : State) : State := ((s.setFlag Fld.DIF_IMPCTL_ENABLE true).set Fld.DIF_IMPSTAT_ERR 0).importForget.importPump

/-- Import disabled. -/
def State.importDisable (s : State) : State := ((s.setFlag Fld.DIF_IMPCTL_ENABLE false).set Fld.DIF_IMPSTAT_ERR 0).importForget

/-- Import resumed after ERR 0x6 or 0x7 (R498). -/
def State.importResume (s : State) : State :=
  let e := s.get Fld.DIF_IMPSTAT_ERR
  if e = 6 ∨ e = 7 then (s.set Fld.DIF_IMPSTAT_ERR 0).importPump else s

end Sys2Proof.Machine
end

