-- ==== Sys2Proof/Machine/Sections.lean ====
section
/-! DEFINITION. The start order and power curves sections (R538, R539, R548, R549, R601), and the plans' part of the reservation fit (R72). -/

set_option Elab.async false

namespace Sys2Proof.Machine

/-! The start order (R548, R549). -/

/-- An entry of the start order. -/
structure StartEntry where
  cls : Nat
  idx : Nat
  barrier : Bool
  delay : Nat
  deriving DecidableEq, Repr

/-- COUNT of a start order section. -/
def startCount (bs : List Byte) : Nat := bits (wordAt bs 0) 0 7

/-- Entry `i`. -/
def startEntry (bs : List Byte) (i : Nat) : StartEntry :=
  let w := wordAt bs (64 + 8 * i)
  ⟨bits w 60 4, bits w 52 8, bit w 51, bits w 0 20⟩

/-- The entries in order. -/
def startEntries (bs : List Byte) : List StartEntry := (numsFrom 0 (startCount bs)).map (startEntry bs)

/-- Reserved bits of a start order section. -/
def startReserved (bs : List Byte) : List SecFault :=
  reservedIn bs 0 0 0x7F ++ zeroFrom bs .reservedNonzero 8 56 0 ++
  ((numsFrom 0 (startCount bs)).map (fun i => reservedIn bs (64 + 8 * i) i 0xFFF80000000FFFFF)).flatten

/-- Units of a class, and its least DELAY_US (R549). -/
def startClass (cls : Nat) : Nat × Nat :=
  match cls with
  | 1 => (20, 200)
  | 2 => (4, 10)
  | 3 => (64, 2)
  | 4 => (6, 100)
  | _ => (0, 0)

/-- Whether a list of entries names a unit. -/
def startNames (l : List StartEntry) (cls idx : Nat) : Bool := l.any (fun e => e.cls == cls && e.idx == idx)

/-- Phase 9 of the start order: its entries by themselves (R549). -/
def startFaults (bs : List Byte) : List SecFault :=
  let es := startEntries bs
  (es.zipIdx.map (fun x =>
    let e := x.1
    let i := x.2
    let o := 64 + 8 * i
    let before := es.take i
    let since := (before.dropWhile (fun y => !(y.cls == 2 && y.idx == e.idx / 16)))
    faultIf (decide (e.cls = 0 ∨ 4 < e.cls)) .startOrder (o + 7) i ++
    (if e.cls = 0 ∨ 4 < e.cls then [] else
      faultIf (decide ((startClass e.cls).1 ≤ e.idx) || startNames before e.cls e.idx) .startOrder (o + 6) i ++
      faultIf (decide (e.delay < (startClass e.cls).2)) .startOrder o i ++
      faultIf (decide (e.cls = 3) && (since.isEmpty || !since.any (·.barrier))) .startOrder (o + 6) i))).flatten

/-- Phase 9 of the start order: in-service DRAM stacks it does not name (R549). -/
def startStacks (stackIn : Nat → Bool) (bs : List Byte) : List SecFault :=
  ((numsFrom 0 20).map (fun k => faultIf (stackIn k && !startNames (startEntries bs) 1 k) .startOrder 0 k)).flatten

/-- Phase 10 of the start order: mapped tiles, their dies and bound ports that it does not name (R549). -/
def startCross (mapped : Nat → Bool) (rings : List RingRange) (bs : List Byte) : List SecFault :=
  let es := startEntries bs
  ((numsFrom 0 64).map (fun t => faultIf (mapped t && !(startNames es 3 t && startNames es 2 (t / 16))) .startOrder 0 t)).flatten ++
  ((numsFrom 0 6).map (fun p => faultIf (rings.any (fun r => r.role == 3 && r.bind == p) && !startNames es 4 p) .startOrder 0 p)).flatten

/-! The power curves (R538, R539, R601). -/

/-- The header of a power curves section. -/
structure PowerHdr where
  hyst : Nat
  window : Nat
  limit : Nat
  ttrip : Nat
  tthrot : Nat
  target : Nat
  npts : Nat
  deriving DecidableEq, Repr

/-- The header of a power curves section (R538). -/
def powerHdr (bs : List Byte) : PowerHdr :=
  let w0 := wordAt bs 0
  let w1 := wordAt bs 8
  let w2 := wordAt bs 16
  ⟨bits w0 32 12, bits w0 16 12, bits w0 0 12, bits w1 8 8, bits w1 0 8, bits w2 8 4, bits w2 0 5⟩

/-- FREQ_MHZ and MV of point `i`. -/
def powerPoint (bs : List Byte) (i : Nat) : Nat × Nat :=
  let w := wordAt bs (64 + 8 * i)
  (bits w 16 16, bits w 0 16)

/-- The throttle class of a logical tile. -/
def powerClass (bs : List Byte) (t : Nat) : Nat := (bs.getD (192 + t) 0).toNat

/-- Reserved bits of a power curves section. -/
def powerReserved (bs : List Byte) : List SecFault :=
  reservedIn bs 0 0 0xFFF0FFF0FFF ++ reservedIn bs 8 0 0xFFFF ++ reservedIn bs 16 0 0xF1F ++ zeroFrom bs .reservedNonzero 24 40 0 ++
  ((numsFrom 0 16).map (fun i => reservedIn bs (64 + 8 * i) i 0xFFFFFFFF)).flatten

/-- The knots of R601 in MHz. -/
def vminKnots : List Nat := [400, 600, 800, 1000, 1200, 1400, 1500, 1650]

/-- The bounds of R601 at the knots, in mV. -/
def vminBounds : List Nat := [600, 600, 620, 650, 690, 730, 750, 800]

/-- The fused minimum voltage at knot `k`, at or below its bound (R601; log entry 5). -/
def vminKnot (k : Nat) : Nat := min (Config.vmin k).toNat (vminBounds.getD k 0)

/-- The value at a frequency from 400 to 1,650 MHz of the straight lines through values at the knots, rounded up (R601). -/
def lineAt (v : Nat → Nat) (f : Nat) : Nat :=
  let a (k : Nat) : Nat := vminKnots.getD k 0
  match (numsFrom 0 7).find? (fun k => decide (a k ≤ f) && decide (f < a (k + 1))) with
  | some k => ceilDiv (v k * (a (k + 1) - f) + v (k + 1) * (f - a k)) (a (k + 1) - a k)
  | none => v 7

/-- Whether a voltage lies below the fused minimum at a frequency: never when it is at or above the bounds' line (R601). -/
def belowVmin (f mv : Nat) : Bool := decide (mv < lineAt (fun k => vminBounds.getD k 0) f) && decide (mv < lineAt vminKnot f)

/-- Phase 9 of the power curves (R539). -/
def powerFaults (bs : List Byte) : List SecFault :=
  let h := powerHdr bs
  let f (bad : Bool) (o i : Nat) : List SecFault := faultIf bad .powerCurve o i
  f (decide (h.limit < 600 ∨ 2000 < h.limit)) 0 0 ++
  f (decide (h.window = 0)) 2 0 ++
  f (decide (h.hyst = 0 ∨ 400 < h.hyst)) 4 0 ++
  f (decide (h.tthrot < 70 ∨ h.ttrip < h.tthrot + 5)) 8 0 ++
  f (decide (h.ttrip < 90 ∨ 110 < h.ttrip)) 9 0 ++
  f (decide (h.npts < 2 ∨ 16 < h.npts)) 16 0 ++
  f (decide (h.npts ≤ h.target)) 17 0 ++
  ((numsFrom 0 16).map (fun i =>
    let p := powerPoint bs i
    let q := powerPoint bs (i - 1)
    let o := 64 + 8 * i
    if i < h.npts then
      f (decide (p.2 < 600 ∨ 800 < p.2) || decide (0 < i ∧ p.2 < q.2) || (decide (400 ≤ p.1 ∧ p.1 ≤ 1650) && belowVmin p.1 p.2)) o i ++
      f (decide (p.1 < 400 ∨ 1650 < p.1) || decide (0 < i ∧ p.1 ≤ q.1)) (o + 2) i
    else (zeroFrom bs .powerCurve o 4 i))).flatten ++
  ((numsFrom 0 64).map (fun t => f (decide (3 < powerClass bs t)) (192 + t) t)).flatten

/-- Phase 10 of the power curves: members of one yoke carry one class (R539). -/
def powerCross (yokes : List Byte) (bs : List Byte) : List SecFault :=
  ((numsFrom 0 64).map (fun t =>
    let m := (yokeMembersOf (yokeByte yokes t) t).headD t
    faultIf (powerClass bs t != powerClass bs m) .powerCurve (192 + t) t)).flatten

/-! Reservation plans against the route plans (R72, R222). -/

/-- Pass buffers too small for their plan's rows, and those that name no plan (R72). -/
def State.resvPlans (c : State) (bs : List Byte) : List SecFault :=
  ((resvRecs bs).zipIdx.map (fun x =>
    let r := x.1
    let o := resvOff x.2
    if ¬ r.expert then []
    else match c.plan r.plan with
      | none => faultIf true .reservationFit (o + 15) x.2
      | some p => faultIf (decide (1024 * r.len < r.cap * p.passRow)) .reservationFit (o + 12) x.2)).flatten

end Sys2Proof.Machine
end

