-- ==== Sys2Proof/Machine/Verify.lean ====
section
/-! DEFINITION. The verification of a Harness image (R73): phases 2 to 12, and what locates a refusal (R604). Where R604 gives no place or order, log entry 10 does. -/

set_option Elab.async false

namespace Sys2Proof.Machine

/-! Section lengths (R600). -/

/-- The header length of a section, whether its counts are within their ranges, and its layout length (R600). -/
def layoutOf (t : Nat) (bs : List Byte) : Nat × Bool × Nat :=
  match t with
  | 1 => (576, true, 576)
  | 2 => (64, true, 64)
  | 3 => (72, true, 72)
  | 4 => (17472, true, 17472)
  | 5 => (576, decide (1 ≤ (curveCounts bs).1) && decide ((curveCounts bs).1 ≤ 32) && decide ((curveCounts bs).2 ≤ 1024), curveLength bs)
  | 6 => (64, planCountOk bs, planLength bs)
  | 7 => (64, tierCounts bs, tierLength bs)
  | 8 => (64, decide (calCount bs ≤ 8192), calLength bs)
  | 9 => (16, true, 16 + 16 * ringCount bs)
  | 10 => (64, decide (1 ≤ startCount bs) && decide (startCount bs ≤ 96), 64 + 8 * startCount bs)
  | 11 => (256, true, 256)
  | 12 => (64, resvCountOk bs, resvLength bs)
  | 13 => (64, ruleCountOk bs, ruleLength bs)
  | _ => (64, decide (1 ≤ detCount bs) && decide (detCount bs ≤ 16), detLength bs)

/-- The code of a section's checks (R74, R600). -/
def sectionCode (t : Nat) : LoadCode :=
  match t with
  | 1 => .tileMap
  | 2 => .yoke
  | 3 => .shape
  | 4 => .formatRow
  | 5 => .curve
  | 6 => .routePlan
  | 7 => .tier
  | 8 => .calendar
  | 9 => .ring
  | 10 => .startOrder
  | 11 => .powerCurve
  | 12 => .reservationFit
  | 13 => .updateRule
  | _ => .detector

/-- Phase 6 of one section's length (R600). -/
def lengthFault (x : Section) : Option LoadErr :=
  let l := layoutOf x.type x.body
  let n := x.body.length
  if n < l.1 then some ⟨sectionCode x.type, x.type, x.off + n, 0, false⟩
  else if ¬ l.2.1 ∨ n ≠ l.2.2 then some ⟨sectionCode x.type, x.type, x.off + min n l.2.2, 0, false⟩
  else none

/-! Phase 8. -/

/-- Whether a byte lies in one of some ranges. -/
def inRanges (l : List (Nat × Nat)) (i : Nat) : Bool := l.any (fun r => decide (r.1 ≤ i) && decide (i < r.1 + r.2))

/-- The lowest byte that is not zero and lies in none of some ranges. -/
def gapByte (l : List (Nat × Nat)) (bs : List Byte) : Option Nat :=
  (bs.zipIdx.find? (fun x => decide (x.1 ≠ 0) && !inRanges l x.2)).map (·.2)

/-- The parts of a route plans section (R268, R600). -/
def planParts (bs : List Byte) : List (Nat × Nat) :=
  (0, 64 + 64 * planCount bs) :: ((routePlans bs).map (fun p =>
    [(p.place, 32 * p.e), (p.ctl, 16 * p.ctln), (p.fwd, 144 * p.fwdN), (p.bwd, 144 * p.bwdN)])).flatten

/-- The reserved bits and zero bytes of a section. -/
def sectionReserved (t : Nat) (bs : List Byte) : List SecFault :=
  match t with
  | 1 => tileMapReserved bs
  | 3 => shapeReserved bs
  | 4 => formatReserved bs
  | 5 => curveReserved bs
  | 6 => planReserved bs ++ (match gapByte (planParts bs) bs with
    | some i => [⟨.reservedNonzero, i, 0⟩]
    | none => [])
  | 7 => tierReserved bs
  | 8 => calReserved bs
  | 9 => ringReserved bs
  | 10 => startReserved bs
  | 11 => powerReserved bs
  | 12 => resvReserved bs
  | 13 => ruleReserved bs
  | 14 => detReserved bs
  | _ => []

/-- Reserved bits of the header (R61, R62). -/
def headerReserved (bs : List Byte) : List SecFault :=
  reservedIn bs 24 0 0xFFFFFFFFFFFF01FE ++ reservedIn bs 40 0 0xFFFF0000 ++ reservedIn bs 48 0 0 ++ reservedIn bs 56 0 0xFFFFFFFF

/-- Reserved bits of the directory (R63). -/
def dirReserved (bs : List Byte) : Option LoadErr :=
  ((directory bs).zipIdx.filterMap (fun d => (badByte (wordAt bs (0x48 + 16 * d.2)) 0xFFFFFFFF000000FF).map (fun k =>
    (⟨.reservedNonzero, d.1.type, 0x48 + 16 * d.2 + k, d.2, false⟩ : LoadErr)))).head?

/-- A section's fault as R604 locates it. -/
def Section.err (x : Section) (active : Bool) (f : SecFault) : LoadErr := ⟨f.code, x.type, x.off + f.off, f.entry, active⟩

/-- Sections in ascending TYPE. -/
def byType (l : List Section) : List Section := (numsFrom 1 14).filterMap (fun t => l.find? (fun x => x.type == t))

/-- The first fault of sections in ascending TYPE. -/
def firstErr (l : List Section) (f : Section → Option LoadErr) : Option LoadErr := (byType l).findSome? f

/-- Phase 8 (R73). -/
def reservedPhase (bs : List Byte) (ss : List Section) : Option LoadErr :=
  let h := (firstFault (headerReserved bs)).map (fun f => (⟨f.code, 0, f.off, 0, false⟩ : LoadErr))
  let cover := (0, 0x40 + 16 * ss.length) :: ss.map (fun x => (x.off, x.body.length))
  h.orElse (fun _ => (dirReserved bs).orElse (fun _ =>
    (firstErr ss (fun x => (firstFault (sectionReserved x.type x.body)).map (x.err false))).orElse (fun _ =>
      (gapByte cover bs).map (fun i => ⟨.reservedNonzero, 0, i, 0, false⟩))))

/-! Phases 9 to 11. -/

/-- Whether a physical tile is in service. -/
def State.tileIn (s : State) (p : Nat) : Bool := !s.isRetired 1 p

/-- Phase 9 of one section: its byte faults and the others (R604). -/
def State.ownFaults (s : State) (t : Nat) (bs : List Byte) : List SecFault × List SecFault :=
  match t with
  | 1 => (tileMapFaults s.tileIn bs, [])
  | 2 => (yokeFaults bs, [])
  | 3 => (shapeFaults bs, [])
  | 4 => (formatFaults bs, [])
  | 5 => (curveFaults bs, [])
  | 6 => (planFaults bs, [])
  | 7 => (tierFaults bs, [])
  | 8 => (calFaults bs, [])
  | 9 => (ringFaults bs, ringWhole bs)
  | 10 => (startFaults bs, startStacks (fun k => !s.isRetired 4 k) bs)
  | 11 => (powerFaults bs, [])
  | 13 => (rulesFaults bs, [])
  | 14 => (detFaults bs, [])
  | _ => ([], [])

/-- The extents minus 1 along X, Y and Z of the image in a state. -/
def State.extents1 (c : State) : Nat × Nat × Nat :=
  match c.image with
  | some h => (h.xdim, h.ydim, h.zdim)
  | none => (0, 0, 0)

/-- Phase 10 of one section against the others: `c` holds the sections, the extents and the tile map that the load would bring. -/
def State.crossFaults (c : State) (t : Nat) (bs : List Byte) : List SecFault × List SecFault :=
  let e := c.extents1
  let yokes := c.section_ 2
  match t with
  | 2 => (yokeMapFaults c.tileMap bs, [])
  | 3 => (shapeYokeFaults yokes bs, [])
  | 5 => (curveRowFaults (c.section_ 4) bs, [])
  | 6 => (c.planCross bs, [])
  | 8 => (calCross e.1 e.2.1 e.2.2 c.mapped bs, [])
  | 9 => ([], ringPortFaults e.1 e.2.1 e.2.2 bs)
  | 10 => ([], startCross c.mapped (ringRanges (c.section_ 9)) bs)
  | 11 => (powerCross yokes bs, [])
  | 13 => (c.rulesCross bs, [])
  | _ => ([], [])

/-- Phase 11 of one section (R72). -/
def State.fitFaults (c : State) (t : Nat) (bs : List Byte) : List SecFault × List SecFault :=
  if t = 12 then (resvAlign bs ++ resvFit bs ++ c.resvPlans bs, resvLimits bs) else ([], [])

/-- The first fault of one phase over sections, those of `kept` lying in the active image (R604). -/
def phaseErr (new kept : List Section) (f : Nat → List Byte → List SecFault × List SecFault) : Option LoadErr :=
  (numsFrom 1 14).findSome? (fun t =>
    match new.find? (fun x => x.type == t), kept.find? (fun x => x.type == t) with
    | some x, _ => let p := f t x.body; (pickFault p.1 p.2).map (x.err false)
    | none, some x => let p := f t x.body; (pickFault p.1 p.2).map (x.err true)
    | none, none => none)

/-- The sections of the active image that an image does not replace. -/
def State.keptSections (s : State) (part : Bool) (new : List Section) : List Section :=
  if part then s.sections.filter (fun x => !new.any (fun y => y.type == x.type)) else []

/-- The state with the sections, the header and the tile map that a load would bring. -/
def State.underImage (s : State) (part : Bool) (h : ImgHeader) (new : List Section) : State :=
  let ss := new ++ s.keptSections part new
  { s with sections := ss, image := if part then s.image else some h,
           tileMap := if part then s.tileMap else tileMapOf s.tileIn ((bodyOf new 1).getD []),
           dissolved := if part ∧ ¬ new.any (fun x => x.type == 2) then s.dissolved else [] }

/-- Phases 9 to 11 of an image. -/
def State.contentPhases (s : State) (part : Bool) (h : ImgHeader) (new : List Section) : Option LoadErr :=
  let kept := s.keptSections part new
  let c := s.underImage part h new
  (phaseErr new [] s.ownFaults).orElse (fun _ => (phaseErr new kept c.crossFaults).orElse (fun _ => phaseErr new kept c.fitFaults))

/-- Phases 9 to 11 repeated for the tile map, the yokes and the reservation plans before application (R79, R602). -/
def State.repeatPhases (s : State) (h : ImgHeader) (ss : List Section) : Option LoadErr :=
  let c := s.underImage false h ss
  let some_ := ss.filter (fun x => x.type == 1 || x.type == 2 || x.type == 12)
  (phaseErr some_ [] s.ownFaults).orElse (fun _ => (phaseErr some_ [] c.crossFaults).orElse (fun _ => phaseErr some_ [] c.fitFaults))

/-! Phases 6, 7 and 12. -/

/-- Phase 6 (R63, R64, R83, R600): `act` is 1 for a full load, 2 for a partial reload, 3 for a STORE. -/
def phase6 (act : Nat) (bs : List Byte) (h : ImgHeader) : Option LoadErr :=
  let ds := directory bs
  let ss := sectionsOf bs
  let part := bit (BitVec.ofNat 64 h.flags) 8
  (checkDir h ds).orElse (fun _ =>
    if (act = 1 ∧ part) ∨ (act = 2 ∧ ¬ part) then some ⟨.prldSection, 0, 25, 0, false⟩
    else
      let missing := if part then [] else requiredTypes.filter (fun t => !ds.any (fun d => d.type == t))
      match missing with
      | t :: _ => some ⟨.sectionMissing, t, 0, 0, false⟩
      | [] => ss.findSome? lengthFault)

/-- Phase 7: each section's CRC, in directory order. -/
def phase7 (bs : List Byte) : Option LoadErr :=
  (sectionsOf bs).findSome? (fun x => if crc32c x.body = x.crc then none else some ⟨.sectionCrc, x.type, x.off, 0, false⟩)

/-- Whether any directory entry is DIRTY, CLEANING or EVICTING (R318). -/
def State.dirDirty (s : State) : Bool := s.tier.dir.any (fun e => e.2.st == .dirty || e.2.st == .cleaning || e.2.st == .evicting)

/-- Phase 12 of a full load (R78, R318). -/
def State.phase12Full (s : State) (ss : List Section) : Option LoadErr :=
  match ss.find? (fun x => x.type == 7) with
  | some x => if s.hasSection 7 ∧ x.body ≠ s.section_ 7 ∧ s.dirDirty then some ⟨.tierDirty, 7, x.off, 0, false⟩ else none
  | none => none

/-- Length of the combined image of R85. -/
def combinedLength (ss : List Section) : Nat := ss.foldl (fun n x => roundUp 64 (n + x.body.length)) (roundUp 64 (0x40 + 16 * ss.length))

/-- Phase 12 of a partial reload (R83, R85). -/
def State.phase12Part (s : State) (bs : List Byte) (h : ImgHeader) : Option LoadErr :=
  let e (c : LoadCode) (sec off entry : Nat) : Option LoadErr := some ⟨c, sec, off, entry, false⟩
  match s.image with
  | none => e .prldSection 0 0 0
  | some a =>
    match (directory bs).zipIdx.find? (fun d => !isTileSection d.1.type) with
    | some d => e .prldSection d.1.type (0x48 + 16 * d.2) d.2
    | none =>
      if h.imageId ≠ a.imageId then e .prldSection 0 16 0
      else if h.herdKey ≠ a.herdKey then e .prldSection 0 32 0
      else if h.generation ≤ a.generation then e .prldSection 0 28 0
      else if h.fmtMaj ≠ a.fmtMaj then e .prldSection 0 3 0
      else if h.fmtMin ≠ a.fmtMin then e .prldSection 0 2 0
      else if maxImage < combinedLength (sectionsOf bs ++ s.keptSections true (sectionsOf bs)) then e .imageLength 0 0 0
      else none

/-- Phases 2 to 12 of an image whose source is `len` bytes long; a STORE ends with phase 8 (R73, R81). -/
def State.verify (s : State) (act len : Nat) (bs : List Byte) : Option LoadErr :=
  let h := ImgHeader.ofBytes bs
  let ss := sectionsOf bs
  (h.check len).orElse (fun _ =>
    if crc32c (crcImage bs) ≠ h.crc then some ⟨.imageCrc, 0, 0, 0, false⟩
    else (phase6 act bs h).orElse (fun _ => (phase7 bs).orElse (fun _ => (reservedPhase bs ss).orElse (fun _ =>
      if act = 3 then none
      else (s.contentPhases (act == 2) h ss).orElse (fun _ => if act = 2 then s.phase12Part bs h else s.phase12Full ss)))))

/-! The combined image of R85. -/

/-- The bytes of an image of a header word list and sections: directory, section CRCs and IMAGE_CRC computed afresh. -/
def buildImage (words : List Word) (ss : List Section) : List Byte :=
  let placed := ss.foldl (fun (a : Nat × List (Nat × Section)) x => (roundUp 64 (a.1 + x.body.length), a.2 ++ [(a.1, x)])) (roundUp 64 (0x40 + 16 * ss.length), [])
  let n := placed.1
  let words := setAt words 1 (putBits (putBits (wget words 1) 32 32 n) 0 8 ss.length)
  let dir := (placed.2.map (fun p => [wordOf [(32, 32, p.1), (0, 32, p.2.body.length)], wordOf [(32, 32, crc32c p.2.body), (0, 8, p.2.type)]])).flatten
  let pad (bs : List Byte) (k : Nat) : List Byte := bs ++ List.replicate (k - bs.length) 0
  let head := bytesOfWords (setAt words 7 0) ++ bytesOfWords dir
  let all := placed.2.foldl (fun bs p => pad bs p.1 ++ p.2.body) head
  let all := pad all n
  all.take 0x38 ++ leBytes 4 (crc32c all) ++ all.drop 0x3C

/-- The combined image of a partial image and the active one (R85). -/
def State.combined (s : State) (active bs : List Byte) : List Byte :=
  let new := sectionsOf bs
  let ws := wordsOfBytes 8 active
  let ws := setAt ws 3 (putBits (putBits (wget ws 3) 32 32 (ImgHeader.ofBytes bs).generation) 8 1 0)
  buildImage ws (byType (new ++ s.keptSections true new))

end Sys2Proof.Machine
end

