-- ==== Sys2Proof/Machine/Apply.lean ====
section
/-! DEFINITION. The application of an image (R79, R85, R86): what each section sets. -/

set_option Elab.async false

namespace Sys2Proof.Machine

/-! Tiers (R318, R337, R338, R349). -/

/-- The DRAM set B bytes of a state, moved to the addresses at which a state with other row-engine regions shows their cells (R349). -/
def State.replaceRows (s new : State) : State :=
  let inB (a : Nat) : Bool := decide (dramBBase ≤ a) && decide (a < dramBEnd)
  let at_ (a : Nat) : Nat :=
    let p := s.dramPlace a
    new.pchUda p.1 p.2 + a % 256
  { new with mem := (s.mem.filter (fun c => inB c.1)).foldl (fun m c => memPut m (at_ c.1) c.2) (s.mem.filter (fun c => !inB c.1)),
             poison := (s.poison.filter (fun g => inB (32 * g))).foldl (fun l g => nadd l (at_ (32 * g) / 32)) (s.poison.filter (fun g => !inB (32 * g))) }

/-- A retired pseudo-channel placed afresh under a new tier cache: relocated if it fits, else lost (R318, R338). -/
def State.replacePch (s : State) (p : Nat) (was : PchSt) : State :=
  match was with
  | .copyingBack => s.set (Fld.DRM_STAT_PCHRET (p / 32)) (s.get (Fld.DRM_STAT_PCHRET (p / 32)) &&& (0xFFFFFFFF - 2 ^ (p % 32)))
  | _ =>
    let fits : Bool := decide (s.relocOwed + s.chunksOfPch p ≤ s.relocRoom)
    let s := if was = .lost ∧ fits then s.poisonPch p else s
    s.tmod (fun t => { t with pchs := sinsert t.pchs p (if fits then .relocating else .lost) })

/-- A tier section that differs from the active one (R318, R349). -/
def State.newTier (s : State) (bs : List Byte) : State :=
  let h := tierHdr bs
  let s := if s.tier.op.isSome then s.endTierOp 6 else s
  let s :=
    if s.tier.format = h.cfg then s
    else
      let n := udaEnd - flashBase
      { s with mem := s.mem.filter (fun c => !(decide (flashBase ≤ c.1) && decide (c.1 < min scratchBase (flashBase + n)))),
               poison := s.poison.filter (fun g => !(decide (flashBase ≤ 32 * g) && decide (32 * g < scratchBase))),
               tier := { s.tier with homes := [], lostObjs := [], evac := [], format := h.cfg } }
  let pchs := s.tier.pchs
  let kept := (pchs.filter (fun p => p.2 != .copyingBack)).map (fun p => p.1 / 32)
  let t := { s.tier with dir := [], reloc := h.reloc, flashRegions := flashRegions bs, rowRegions := rowRegions bs, pchs := [],
                         withdrawn := (kept.filter (fun k => decide (k < 16))).foldl nadd [] }
  let new := (({ s with tier := t }).set Fld.TIER_STAT_TIERCFG h.cfg).set Fld.TIER_STAT_CACHE h.cache
  pchs.foldl (fun (s : State) p => s.replacePch p.1 p.2) (s.replaceRows new)

/-- The tier and DRAM regions section applied; an identical one keeps the directory and the classes (R318, R343, R349). -/
def State.applyTier (s : State) (bs : List Byte) : State :=
  let h := tierHdr bs
  let s := if s.hasSection 7 ∧ s.section_ 7 = bs then s else s.newTier bs
  let s := ((s.set Fld.TIER_DIRCTL_CLEANAGE h.cleanAge).set Fld.TIER_DIRCTL_WMLOW h.wmLow).set Fld.TIER_DIRCTL_WMHIGH h.wmHigh
  let s := s.setFlag Fld.TIER_STAT_ENABLED true
  (numsFrom 0 4).foldl (fun (s : State) f => s.set (Fld.FLS_STAT_MODE f) h.cfg) s

/-! Rings (R71, R79, R182, R453). -/

/-- LOG2SIZE of an internal ring: 16 entries on a link channel, 64 on a tile work ring. -/
def internalSize (role : Nat) : Nat := if role = 3 then 4 else if role = 4 then 6 else 0

/-- One ring context of a range. -/
def State.applyRing (s : State) (g : RingRange) (r : Nat) : State :=
  s.setReg (Reg.RING_CFG r) (putBits (putBits (putBits (putBits (putBits 0
    (Fld.RING_CFG_ROLE r).lo (Fld.RING_CFG_ROLE r).n g.role)
    (Fld.RING_CFG_PAIR r).lo (Fld.RING_CFG_PAIR r).n (if g.role = 1 then g.pair + (r - g.first) else 0))
    (Fld.RING_CFG_VECTOR r).lo (Fld.RING_CFG_VECTOR r).n g.vector)
    (Fld.RING_CFG_BIND r).lo (Fld.RING_CFG_BIND r).n g.bind)
    (Fld.RING_CFG_LOG2SIZE r).lo (Fld.RING_CFG_LOG2SIZE r).n (internalSize g.role))

/-- The work rings of a logical tile, ascending. -/
def workRings (rs : List RingRange) (t : Nat) : List Nat :=
  ((rs.filter (fun r => r.role == 4 && r.bind == t)).map (fun r => numsFrom r.first (r.num + 1))).flatten.foldl nadd []

/-- A logical tile's ring bindings, in ascending ring number (R182). -/
def State.applyBindings (s : State) (rs : List RingRange) (t : Nat) : State :=
  ((workRings rs t).zipIdx).foldl (fun (s : State) x => (s.set (Fld.TILE_RINGBIND_RING t x.2) x.1).setFlag (Fld.TILE_RINGBIND_VALID t x.2) true) s

/-- Every ring context reinitialised under a ring assignment (R79). -/
def State.applyRings (s : State) (bs : List Byte) : State :=
  let rs := ringRanges bs
  let s := s.resetRegs (fun a => (decide (Reg.RING_BASE 0 ≤ a) && decide (a < Reg.RING_BASE 16384)) ||
    (decide (0x1000000 ≤ a) && decide (a < 0x1400000) && decide (0x100 ≤ a % 0x10000) && decide (a % 0x10000 < 0x180)))
  let s := s.hmod (fun h => { h with fetched := [], fetching := [], failed := [], retries := [], groups := [], bare := [], unsignalled := [], barriers := [], reserveUsed := [] })
  let s := rs.foldl (fun (s : State) g => (numsFrom g.first (g.num + 1)).foldl (fun (s : State) r => s.applyRing g r) s) s
  (numsFrom 0 64).foldl (fun (s : State) t => s.applyBindings rs t) s

/-! Tiles (R67, R124, R176, R224). -/

/-- Every mark and credit pool at zero (R176). -/
def State.clearMarks (s : State) : State :=
  s.resetRegs (fun a => decide (0x1000000 ≤ a) && decide (a < 0x1400000) && decide (0x400 ≤ a % 0x10000) && decide (a % 0x10000 < 0x580))

/-- Each mapped tile's array in the shape of its byte; a change counts as a re-forming (R124). -/
def State.applyShapes (s : State) (t : Nat) : State :=
  match s.phys t with
  | none => s
  | some p =>
    let v := s.harnessShape t
    let s := if s.get (Fld.TILE_ARRSTAT_SHAPE p) = v then s else (s.set (Fld.TILE_ARRSTAT_SHAPE p) v).count (Fld.TILE_ARRSHP_COUNT p) 1
    s.setFlag (Fld.TILE_ARRSTAT_RESHAPING p) false

/-- Every tile's array. -/
def State.applyAllShapes (s : State) : State := (numsFrom 0 64).foldl (fun (s : State) t => s.applyShapes t) s

/-! Route plans (R86, R248, R254). -/

/-- The pools of a plan's home tiles set to their buffer counts (R254). -/
def State.applyPools (s : State) (p : RoutePlan) : State :=
  ((numsFrom 0 p.e).map (placement (s.section_ 6) p)).foldl (fun (s : State) a => s.set (Fld.TILE_CREDIT_COUNT a.tile a.bpool) a.sets) s

/-- Layer slots whose plan is new, or has another number of experts than `old` gave the slot, reset (R86, R248). -/
def State.applyLayers (s old : State) : State :=
  (routePlans (s.section_ 6)).foldl (fun (s : State) p =>
    match old.slotPlan p.cluster p.lslot with
    | some (_, q) => if q.e = p.e then s else { s with drover := { s.drover with layers := serase s.drover.layers (64 * p.cluster + p.lslot) } }
    | none => { s with drover := { s.drover with layers := serase s.drover.layers (64 * p.cluster + p.lslot) } }) s

/-- The route plans section in force applied. -/
def State.applyPlans (s old : State) : State :=
  if ¬ s.hasSection 6 then s
  else
    let s := s.applyLayers old
    (routePlans (s.section_ 6)).foldl (fun (s : State) p => s.applyPools p) { s with drover := { s.drover with turns := [] } }

/-! Calendar, power, ports. -/

/-- The calendar applied (R443, R448): open grants close, and the vote launched under the old one is not decided by it. -/
def State.applyCalendar (s : State) : State :=
  let bs := s.section_ 8
  let s := s.resetRegs (fun a => decide (Reg.CAL_ENT 0 ≤ a) && decide (a < Reg.CAL_ENT 8192))
  let s := (numsFrom 0 (min 8192 (calCount bs))).foldl (fun (s : State) n =>
    (s.setReg (Reg.CAL_ENT n) (wordAt bs (64 + 16 * n))).setReg (Reg.CAL_ENT_8 n) (wordAt bs (72 + 16 * n))) s
  let s := s.wmod (fun w => { w with grants := [], heldOpen := [], fired := [], owedLaunch := none, sinceApply := 0 })
  (s.nmod (fun n => { n with reductions := n.reductions.filter (fun p => !p.vote) })).vmod (fun v => { v with launched := none })

/-- The power curves applied (R542, R554): every tile at TARGET, levels at 0. -/
def State.applyPower (s : State) : State :=
  let h := powerHdr (s.section_ 0xB)
  (s.set Fld.PWR_STAT_LIMIT_W h.limit).pwmod (fun p => { p with classes := List.replicate 4 ⟨0, 0, 0, h.target⟩, therm := [0, 0, 0, 0, 0, 0] })

/-- What a package announces of itself (R383, R392). -/
def ImgHeader.identity (h : ImgHeader) : Nat × Word × Nat × Nat × Nat := (h.herdAddr, h.herdKey, h.xdim, h.ydim, h.zdim)

/-- The ports under a new identity and a new start order (R392). -/
def State.applyPorts (s old : State) : State :=
  let es := startEntries (s.section_ 0xA)
  let changed : Bool := old.image.map ImgHeader.identity != s.image.map ImgHeader.identity
  (numsFrom 0 6).foldl (fun (s : State) p =>
    if ¬ startNames es 4 p then
      if s.lnkState p = lnkRetired ∨ s.lnkState p = lnkDown then s
      else (s.pmod p (fun q => { Port.reset with lockFails := q.lockFails, fromJseq := q.fromJseq })).lnkEnter p lnkDown 0
    else if changed ∧ s.lnkState p = lnkUp then (s.startFast p 0 true).pmod p (fun q => { q with skipIdentity := true })
    else s) s

/-! Images. -/

/-- The header, the sections and what HRN reports of them, with the active pointer flipped (R80, R85). -/
def State.activate (s : State) (bs : List Byte) (area : Nat) : State :=
  let h := ImgHeader.ofBytes bs
  let s := { s with image := some h, sections := sectionsOf bs }
  let s := ((s.set Fld.HRN_ACTIVE_GENERATION h.generation).set Fld.HRN_ACTIVE_FMT_MAJ h.fmtMaj).set Fld.HRN_ACTIVE_FMT_MIN h.fmtMin
  (s.set Fld.HRN_ACTIVE_AREA area).setReg Reg.HRN_ACTID h.imageId

/-- The start order begun (R79, R550). -/
def State.beginOrder (s : State) (k : StartKind) : State :=
  (s.set Fld.PWR_STAT_STARTIDX 0).pwmod (fun p => { p with phase := (if k = .parkExit then .waking else .starting), startKind := k, next := 0, ordering := true, begun := [] })

/-- Every window slot closed as CLOSE closes it (R403). -/
def State.closeWindows (s : State) : State := (numsFrom 0 256).foldl (fun (s : State) w => (s.winClose w).getD s) s

/-- A full image applied (R79); `bs` lies in active-copy area `area`. -/
def State.applyFull (s : State) (bs : List Byte) (area : Nat) : State :=
  let tm := tileMapOf s.tileIn ((bodyOf (sectionsOf bs) 1).getD [])
  let old := s
  let s := s.closeWindows.applyTier ((bodyOf (sectionsOf bs) 7).getD [])
  let s := { (s.activate bs area) with tileMap := tm, dissolved := [], resv := [], lastDisp := [], streams := [], applying := [], herdValid := false }
  let s := (s.set Fld.HRN_HERD_PORTS 0).applyRings (s.section_ 9)
  let s := (s.clearMarks.applyAllShapes).applyPlans old
  let s := { s with sweep := { s.sweep with stats := [] } }
  let s := ((s.applyCalendar).applyPower).applyPorts old
  ((s.joinAtLoad).markDiff 3).capChange.beginOrder .cold

/-- A partial image applied (R84 to R86): `bs` is the combined image in area `area`, `types` the TYPEs it replaces. -/
def State.applyPartial (s : State) (bs : List Byte) (types : List Nat) (area : Nat) : State :=
  let old := s
  let has (t : Nat) : Bool := types.contains t
  let s := s.activate bs area
  let s := if has 2 then { s with dissolved := [] } else s
  let s := if has 12 then { s with resv := [] } else s
  let s := if has 3 then s.applyAllShapes else s
  let s := if has 6 then s.applyPlans old else s
  let s := if has 13 then { s with sweep := { s.sweep with stats := [] } } else s
  (s.markDiff 3).capChange

/-- Re-forms begun again for array commands that are to run again (R125, R524). -/
def State.reformAll (s : State) : State :=
  (s.journal.filter (fun e => e.2.onTile && e.2.st == .dispatched && e.2.fin.isNone && e.2.unit == .array)).foldl (fun (s : State) x =>
    match s.phys x.2.tile with
    | some p => s.startReform x.2.tile p x.2
    | none => s) s

/-- The active image applied again after a warm reset (R602): the sections are the same; the map keeps the tiles still in service (log entry 32). -/
def State.applyAgain (s : State) (bs : List Byte) (area : Nat) : State :=
  let s := { ((s.activate bs area).applyAllShapes.reformAll).set Fld.HRN_HERD_PORTS 0 with herdValid := false }
  let h := tierHdr (s.section_ 7)
  let s := (numsFrom 0 4).foldl (fun (s : State) f => s.set (Fld.FLS_STAT_MODE f) h.cfg) s
  (s.markDiff 3).capChange.beginOrder .warm

end Sys2Proof.Machine
end

