-- ==== Sys2Proof/Machine/Loader.lean ====
section
/-! DEFINITION. The loader (R78 to R88, R602): its actions, staging, verification, application, and the herd check; and the start order (R548 to R550). -/

set_option Elab.async false

namespace Sys2Proof.Machine

/-! Phases and ends (R88). -/

/-- PHASE of HRN_STATUS. -/
def State.hrnPhase (s : State) : Nat := s.get Fld.HRN_STATUS_PHASE

/-- PHASE set. -/
def State.toPhase (s : State) (p : Nat) : State := s.set Fld.HRN_STATUS_PHASE p

/-- The loader action changed. -/
def State.ldmod (s : State) (f : LoadAct → LoadAct) : State := { s with load := s.load.map f }

/-- An action begun: BUSY, and its record. -/
def State.beginAct (s : State) (l : LoadAct) : State := { (s.setFlag Fld.HRN_STATUS_BUSY true) with load := some l }

/-- An action ended: HRN_STATUS, HRN_ERRDET and the loader event (R88, R604). A staging read still outstanding is no longer anyone's. -/
def State.hrnEnd (s : State) (e : LoadErr) (stopped : Nat) : State :=
  match s.load with
  | none => s
  | some l =>
    let s := ((s.set Fld.HRN_STATUS_SECTION e.sec).set Fld.HRN_STATUS_CODE e.code.num).set Fld.HRN_STATUS_LAST (if l.origin = .software then l.kind else 0)
    let s := ((s.setFlag Fld.HRN_STATUS_BUSY false).set Fld.HRN_STATUS_STOPPED stopped).toPhase 7
    let s := ((s.set Fld.HRN_ERRDET_ENTRY e.entry).setFlag Fld.HRN_ERRDET_ACTIVE e.active).set Fld.HRN_ERRDET_OFFSET e.off
    let s := s.hmod (fun h => { h with reads := h.reads.map (fun r => match r.2.kind with
      | .stage o _ => (r.1, { r.2 with kind := .stage o 0 })
      | _ => r) })
    { s with load := none }.raise .loaderDone 0 (s.reg Reg.HRN_STATUS) 0

/-- A refusal that concerns the source or the whole image (R604). -/
def LoadCode.whole (c : LoadCode) : LoadErr := ⟨c, 0, 0, 0, false⟩

/-- An action that succeeded ends. -/
def State.hrnOk (s : State) : State := s.hrnEnd (LoadCode.whole .ok) 7

/-! A reload that fails after a warm reset (R602). -/

/-- One journalled command resolved by R602: committed and refused ones keep their status, every other one ends MEM_ERROR. -/
def State.resolveOne (s : State) (j : Nat) : State :=
  match s.cmd j with
  | none => s
  | some e =>
    if e.fin.isSome ∧ e.onTile ∧ ¬ e.settled then (s.jmod j (fun e => { e with fin := some Status.memError.num })).settleRing e.tileRing
    else s.failOne j

/-- Every journalled command resolved (R602). -/
def State.resolveAll (s : State) : State := (s.journal.map (·.1)).foldl (fun (s : State) j => s.resolveOne j) s

/-! Where the image lies (R80). -/

/-- The flash store area that holds the active image: 2 ACTIVE_A, 3 ACTIVE_B. -/
def State.activeArea (s : State) : Nat := 2 + s.get Fld.HRN_ACTIVE_AREA

/-- The active-copy area that does not hold the active image (R80). -/
def State.otherArea (s : State) : Nat := if s.get Fld.HRN_ACTIVE_FMT_MAJ = 0 then 2 else 5 - s.activeArea

/-- The area an action's image is verified in. -/
def State.loadArea (s : State) (l : LoadAct) : Nat := if l.origin = .warmReset then s.activeArea else s.otherArea

/-- An image in a flash store area, as its header gives its length (R61). -/
def State.areaImage (s : State) (a : Nat) : List Byte :=
  let h := ImgHeader.ofBytes (s.rbs (areaKey a 0) 64)
  s.rbs (areaKey a 0) (min maxImage h.imageLen)

/-- VALID, AUTOLOAD and GENERATION of a store slot (HRN_STORE0, HRN_STORE1). -/
def State.slotState (s : State) (k : Nat) : Bool × Bool × Nat :=
  if k = 0 then (s.flag Fld.HRN_STORE0_VALID, s.flag Fld.HRN_STORE0_AUTOLOAD, s.get Fld.HRN_STORE0_GENERATION)
  else (s.flag Fld.HRN_STORE1_VALID, s.flag Fld.HRN_STORE1_AUTOLOAD, s.get Fld.HRN_STORE1_GENERATION)

/-- A store slot's register set. -/
def State.setSlot (s : State) (k : Nat) (valid auto_ : Bool) (gen : Nat) : State :=
  if k = 0 then ((s.setFlag Fld.HRN_STORE0_VALID valid).setFlag Fld.HRN_STORE0_AUTOLOAD auto_).set Fld.HRN_STORE0_GENERATION gen
  else ((s.setFlag Fld.HRN_STORE1_VALID valid).setFlag Fld.HRN_STORE1_AUTOLOAD auto_).set Fld.HRN_STORE1_GENERATION gen

/-! Staging (R81). -/

/-- What happens at the failure of an action, beyond its end: acceptance and the held commands go on (R78, R84), or the package waits for the host (R602). -/
def State.afterFail (s : State) (l : LoadAct) : State :=
  match l.origin with
  | .software =>
    if l.kind = 1 then { s with acceptStop := decide (s.power.phase = .starting) }
    else if l.kind = 2 then { s with holdFrom := none }
    else s
  | .warmReset => s.resolveAll
  | .coldStart => s

/-- The next staging read of a host image, 4 KiB at most; nothing while it must wait. -/
def State.stageMore (s : State) : State :=
  match s.load with
  | some l =>
    if s.hrnPhase = 1 ∧ l.source = 0 ∧ ¬ l.reading ∧ l.staged < l.len then
      let n := min 4096 (l.len - l.staged)
      match s.issueRead (.stage l.staged n) (l.addr + l.staged) n with
      | some s => s.ldmod (fun l => { l with reading := true })
      | none => s
    else s
  | none => s

/-- Staging begun (PHASE 1), or refused by its source; `none` when the action has started. -/
def State.sourceFault (s : State) (l : LoadAct) : Option LoadCode :=
  if l.origin = .software ∧ l.source = 0 ∧ (l.len = 0 ∨ l.len % 64 ≠ 0 ∨ maxImage < l.len) then some .imageLength
  else if ¬ s.anyFlash then some .storeUnavailable
  else if l.origin = .software ∧ l.source ≠ 0 ∧ ¬ (s.slotState (l.source - 1)).1 then some .storeEmpty
  else none

/-- An action's image staged: a store slot is copied, a host image read, and the active image is in place (R80, R81). -/
def State.stageLoad (s : State) (l : LoadAct) : State :=
  if l.origin = .warmReset then s.toPhase 2
  else if l.source = 0 then (s.toPhase 1).stageMore
  else (s.copyArea (areaKey (l.source - 1) 0) (areaKey s.otherArea 0) maxImage).toPhase 2

/-- An action started (R81, R88), with what follows if its source is refused at once. -/
def State.startLoad (s : State) (l : LoadAct) : State :=
  let s := (s.beginAct l).toPhase 1
  match s.sourceFault l with
  | some c => (s.hrnEnd c.whole 1).afterFail l
  | none => s.stageLoad l

/-- The record of an action that reads an image. -/
def LoadAct.mk_ (kind : Nat) (origin : LoadBy) (source slot addr len : Nat) (alt : Option Nat) : LoadAct :=
  ⟨kind, origin, source, slot, addr, len, 0, false, alt, false, []⟩

/-- The cold-start load of a store slot (R82). -/
def State.coldLoad (s : State) (k : Nat) (alt : Option Nat) : State := s.startLoad (LoadAct.mk_ 1 .coldStart (k + 1) 0 0 0 alt)

/-- An action ends with a failure; a cold-start load then tries the other slot (R82). -/
def State.loadFail (s : State) (e : LoadErr) (stopped : Nat) : State :=
  match s.load with
  | none => s
  | some l =>
    let s := (s.hrnEnd e stopped).afterFail l
    match l.origin, l.alt with
    | .coldStart, some k => s.coldLoad k none
    | _, _ => s

/-- Data of a staging read (R81). -/
def State.stageData (s : State) (off n : Nat) (bs : List Byte) : State :=
  match s.load with
  | some l =>
    if n = 0 ∨ ¬ l.reading ∨ off ≠ l.staged ∨ s.hrnPhase ≠ 1 then s
    else
      let s := (s.wbs (areaKey s.otherArea off) bs).ldmod (fun l => { l with reading := false, staged := l.staged + n })
      if l.len ≤ off + n then s.toPhase 2 else s.stageMore
  | none => s

/-- A staging read failed (R81). -/
def State.stageFailed (s : State) (off n : Nat) : State :=
  match s.load with
  | some l => if n = 0 ∨ ¬ l.reading ∨ off ≠ l.staged ∨ s.hrnPhase ≠ 1 then s else s.loadFail (LoadCode.whole .sourceRead) 1
  | none => s

/-! Verification (R73). -/

/-- A STORE's image put into its slot (R81). -/
def State.storeImage (s : State) (l : LoadAct) : State :=
  let a := s.otherArea
  let h := ImgHeader.ofBytes (s.rbs (areaKey a 0) 64)
  ((s.copyArea (areaKey a 0) (areaKey l.slot 0) maxImage).setSlot l.slot true (decide (h.flags / 128 % 2 = 1)) h.generation).capChange.hrnOk

/-- The combined image of a partial reload written into its area (R85). -/
def State.writeCombined (s : State) (bs : List Byte) : State :=
  let a := s.otherArea
  (s.clearArea (areaKey a 0) maxImage).wbs (areaKey a 0) (s.combined (s.areaImage s.activeArea) bs)

/-- VERIFYING: phases 2 to 12 of the staged image; `readable` is false when the source cannot be read (R73, R80 to R85). -/
def execVerifying (readable : Bool) (s : State) : Host.Outcome State Fault Refusal :=
  match s.load with
  | none => .next s
  | some l =>
    if s.hrnPhase ≠ 2 ∨ ¬ s.live then .next s
    else if ¬ readable then .next (s.loadFail (LoadCode.whole .sourceRead) 2)
    else
      let a := s.loadArea l
      let bs := if l.source = 0 ∧ l.origin = .software then s.rbs (areaKey a 0) l.len else s.areaImage a
      match s.verify l.kind bs.length bs with
      | some e => .next (s.loadFail e 2)
      | none =>
        if l.kind = 3 then .next (s.storeImage l)
        else if l.kind = 2 then .next (((s.ldmod (fun l => { l with types := (sectionsOf bs).map (fun x => x.type) })).writeCombined bs).toPhase 3)
        else .next (s.toPhase 3)

/-! Application (R79, R84, R85). -/

/-- Whether sequencer `d` has an update sweep running or due: a job of it is in the journal, or it has swept before and the vote log holds a verdict on its open step (R84; log entry 33). -/
def State.sweepDue (s : State) (k d : Nat) : Bool :=
  s.journal.any (fun e => e.2.target == .sequencer d && decide (e.1 < k)) ||
  (s.sequencerOn d && match s.openSweep d with
    | some st => s.net.vote.log.any (fun w => (Verdict.ofWords w).step == st)
    | none => false)

/-- Whether a partial reload's wait is over: every command accepted before the action has completed, and no sweep is running or due (R84). -/
def State.drained (s : State) : Bool :=
  match s.holdFrom with
  | some k => !s.journal.any (fun e => decide (e.1 < k) || (e.2.parent != 0 && decide (e.2.parent < k))) && !(numsFrom 0 4).any (s.sweepDue k)
  | none => true

/-- At a revolution boundary an image that waits becomes due (R79, R84). -/
def State.loadBoundary (s : State) : State :=
  match s.load with
  | some l => if s.hrnPhase = 3 ∧ (l.kind = 1 ∨ s.drained) then s.ldmod (fun l => { l with due := true }) else s
  | none => s

/-- HARNESS_APPLY: the image that became due at a revolution boundary is applied, with everything a boundary application does (R79, R84, R85, R602). -/
def execHarnessApply (s : State) : Host.Outcome State Fault Refusal :=
  match s.load with
  | none => .next s
  | some l =>
    if ¬ l.due ∨ s.hrnPhase ≠ 3 ∨ ¬ s.live then .next s
    else
      let a := s.loadArea l
      let bs := s.areaImage a
      if l.kind = 2 then
        if ¬ s.drained then .next (s.ldmod (fun l => { l with due := false }))
        else .next { ((s.toPhase 4).applyPartial bs l.types (a - 2)) with holdFrom := none }.hrnOk
      else
        match s.repeatPhases (ImgHeader.ofBytes bs) (sectionsOf bs) with
        | some e => .next (s.loadFail e 3)
        | none =>
          let s := s.toPhase 4
          .next ((if l.origin = .warmReset then s.applyAgain bs (a - 2) else s.applyFull bs (a - 2)).toPhase 5)

/-- PRLD_TIMEOUT: the drain of a partial reload lasts longer than HRN_PRLDTMO (R84). -/
def execPrldTimeout (s : State) : Host.Outcome State Fault Refusal :=
  match s.load with
  | some l => if l.kind = 2 ∧ s.hrnPhase < 4 ∧ ¬ s.drained ∧ s.live then .next (s.loadFail (LoadCode.whole .prldTimeout) s.hrnPhase) else .next s
  | none => .next s

/-! The herd check (R87). -/

/-- The ports that the herd check is about: those of a dimension with extent above 1. -/
def State.herdPorts (s : State) : List Nat :=
  let e := s.extents
  (numsFrom 0 6).filter (fun p => decide (1 < (if p < 2 then e.1 else if p < 4 then e.2.1 else e.2.2)))

/-- A port's herd-check result (HRN_HERD). -/
def State.herdResult (s : State) (p : Nat) : Nat :=
  if s.lnkState p = lnkRetired then 5
  else if s.lnkState p ≠ lnkUp then 2
  else if s.get (Fld.LNK_PARTNER_10_HERD_ADDR p) ≠ s.neighbour p ∨ s.get (Fld.LNK_PARTNER_10_PORT p) ≠ (if p % 2 = 0 then p + 1 else p - 1) then 3
  else
    let own : Option (Word × Nat × Nat × Nat) := s.image.map (fun h => (h.herdKey, h.zdim, h.ydim, h.xdim))
    let part := (s.reg (Reg.LNK_PARTNER_8 p), s.get (Fld.LNK_PARTNER_10_ZDIM p), s.get (Fld.LNK_PARTNER_10_YDIM p), s.get (Fld.LNK_PARTNER_10_XDIM p))
    if own = some part then 1 else 4

/-- The herd check made, once no checked port is in training: HRN_HERD, HERD_VALID, and the end of the action (R87). -/
def State.herdTry (s : State) : State :=
  let ps := s.herdPorts
  if s.hrnPhase ≠ 6 ∨ ps.any (fun p => s.lnkState p == lnkTraining) then s
  else
    let rs := ps.map (fun p => (p, s.herdResult p))
    let ok := rs.all (fun r => r.2 == 1)
    let s := { (s.set Fld.HRN_HERD_PORTS (rs.foldl (fun n r => n + 16 ^ r.1 * r.2) 0)) with herdValid := ok }
    s.capChange.hrnOk

/-! The start order (R548 to R550). -/

/-- The entries of the start order in force. -/
def State.order (s : State) : List StartEntry := startEntries (s.section_ 0xA)

/-- Whether an entry is skipped at run time: a retired unit or an unmapped logical tile (R549). -/
def State.orderSkips (s : State) (e : StartEntry) : Bool :=
  match e.cls with
  | 1 => s.isRetired 4 e.idx
  | 3 => !s.mapped e.idx
  | 4 => s.isRetired 2 e.idx
  | _ => false

/-- Whether an entry's unit has started, or is skipped. -/
def State.entryUp (s : State) (e : StartEntry) : Bool :=
  s.orderSkips e || (!s.unitDown e.cls e.idx && !(e.cls == 4 && s.lnkState e.idx == lnkLow))

/-- Whether entry `n` of the start order may start as far as barriers go (R548). -/
def State.orderMay (s : State) (n : Nat) : Bool :=
  match n with
  | 0 => true
  | k + 1 => if (s.order.drop k).head?.any (fun e => e.barrier) then (s.order.take n).all s.entryUp else true

/-- A unit no longer down. -/
def State.unitStarts (s : State) (cls idx : Nat) : State :=
  s.pwmod (fun p => { p with down := p.down.filter (fun k => k != 65536 * cls + idx), begun := p.begun.filter (fun k => k != 65536 * cls + idx) })

/-- The start of an entry's unit; a port starts at once, or is woken (R550). -/
def State.startUnit (s : State) (e : StartEntry) : State :=
  if s.orderSkips e then s
  else if e.cls = 4 then
    let s := s.unitStarts 4 e.idx
    if s.lnkState e.idx = lnkLow then (s.pmod e.idx (fun q => { q with waking := true })).set (Fld.LNK_STAT_PHASE e.idx) 5 else s.startPort e.idx
  else if s.unitDown e.cls e.idx then s.pwmod (fun p => { p with begun := nadd p.begun (65536 * e.cls + e.idx) })
  else s

/-- The end of the start order: the device runs, a load goes on to the herd check, and park exit is reported (R79, R547). -/
def State.orderDone (s : State) : State :=
  let k := s.power.startKind
  let again : Bool := decide (k = .parkExit) && s.power.again
  let s := s.pwmod (fun p => { p with ordering := false, begun := [], again := false, phase := (if again then .parking else .running) })
  if k = .parkExit then s.powerEvent 6 else if s.hrnPhase = 5 then (s.toPhase 6).herdTry else s

/-- What the starts so far allow: acceptance once the last entry's unit has started, and the end of the order (R550). -/
def State.orderCheck (s : State) : State :=
  if ¬ s.power.ordering ∨ s.power.next < s.order.length then s
  else
    let s := if (s.order.drop (s.order.length - 1)).all s.entryUp then { s with acceptStop := false } else s
    if s.order.all s.entryUp then s.orderDone else s

/-- START_ORDER: after its delay, and its barrier, the next entry of the start order starts its unit (R548, R550). -/
def execStartOrder (s : State) : Host.Outcome State Fault Refusal :=
  let n := s.power.next
  match (s.order.drop n).head? with
  | none => .next s
  | some e =>
    if ¬ s.power.ordering ∨ ¬ s.live ∨ ¬ s.orderMay n then .next s
    else .next ((((s.set Fld.PWR_STAT_STARTIDX n).startUnit e).pwmod (fun p => { p with next := n + 1 })).orderCheck)

/-- UNIT_STARTED: a unit whose start has begun reaches its started state (R550). -/
def execUnitStarted (cls idx : Nat) (s : State) : Host.Outcome State Fault Refusal :=
  if ¬ s.power.ordering ∨ ¬ s.live then .next s
  else
    let s := if s.power.begun.contains (65536 * cls + idx) then
        let s := s.unitStarts cls idx
        if cls = 1 then s.setFlag (Fld.DRM_STAT_INSERVICE idx) true else s
      else if cls = 4 ∧ s.lnkState idx = lnkLow ∧ (s.port idx).waking then s.leaveLow idx
      else s
    .next s.orderCheck

/-! The actions (R78, R81, R87, R88). -/

/-- An action that ends as it begins. -/
def State.endAtOnce (s : State) (kind : Nat) (c : LoadCode) : State :=
  (s.beginAct (LoadAct.mk_ kind .software 0 0 0 0 none)).hrnEnd c.whole (if c = .ok then 7 else 0)

/-- FULL_LOAD, PARTIAL_LOAD or STORE begun. -/
def State.softLoad (s : State) (kind source slot : Nat) : State :=
  s.startLoad (LoadAct.mk_ kind .software source slot (s.reg Reg.HRN_SRCADDR).toNat (s.get Fld.HRN_SRCLEN_LEN) none)

/-- Whether any accepted command is outstanding (R78). -/
def State.anyOutstanding (s : State) : Bool := !s.journal.isEmpty || !s.host.bare.isEmpty

/-- STORE (R81). -/
def State.storeAct (s : State) (source slot : Nat) : State :=
  if 2 ≤ slot then s.endAtOnce 3 .busy
  else if 3 ≤ source then s.endAtOnce 3 .sourceRead
  else if source = slot + 1 then s.endAtOnce 3 .ok
  else s.softLoad 3 source slot

/-- ERASE (R88). -/
def State.eraseAct (s : State) (slot : Nat) : State :=
  if 2 ≤ slot then s.endAtOnce 6 .busy
  else if ¬ s.anyFlash then s.endAtOnce 6 .storeUnavailable
  else ((s.clearArea (areaKey slot 0) maxImage).setSlot slot false false 0).capChange.endAtOnce 6 .ok

/-- An ACTION written while none is in progress. -/
def State.startAction (s : State) (act source slot : Nat) : State :=
  match act with
  | 1 =>
    if s.anyOutstanding then s.endAtOnce 1 .busy
    else if 3 ≤ source then s.endAtOnce 1 .sourceRead
    else { s with acceptStop := true }.softLoad 1 source slot
  | 2 => if 3 ≤ source then s.endAtOnce 2 .sourceRead else { s with holdFrom := some (s.get Fld.JRN_NEXT_JSEQ) }.softLoad 2 source slot
  | 3 => s.storeAct source slot
  | 5 => if s.image.isNone ∨ (s.power.phase = .starting ∧ ¬ s.power.ordering) then s.endAtOnce 5 .noHarness else ((s.beginAct (LoadAct.mk_ 5 .software 0 0 0 0 none)).toPhase 6).herdTry
  | _ => s.eraseAct slot

/-- A write of HRN_CTRL (R88): the state after it, and whether its ACTION was ignored. SLOT and SOURCE always take the values written. -/
def State.hrnWrite (s : State) (v : Word) : State × Bool :=
  let act := bits v 0 4
  let s := (s.set Fld.HRN_CTRL_SLOT (bits v 8 2)).set Fld.HRN_CTRL_SOURCE (bits v 4 4)
  if act = 0 then (s, false)
  else if 7 ≤ act then (s, true)
  else if act = 4 then
    if s.load.isSome ∧ s.hrnPhase < 4 then (s.loadFail (LoadCode.whole .aborted) s.hrnPhase, false) else (s, true)
  else if s.load.isSome then (s, true)
  else (s.startAction act (bits v 4 4) (bits v 8 2), false)

/-! The cold start sequence (R82, R553). -/

/-- The flash controllers started: their stacks' states and formats (R344, R553). -/
def State.startFlash (s : State) : State :=
  (numsFrom 0 4).foldl (fun (s : State) f =>
    ((s.setFlag (Fld.FLS_STAT_INSERVICE f) (s.flashIn f)).setFlag (Fld.FLS_STAT_WORN f) (s.flashStack f).worn).set (Fld.FLS_STAT_MODE f) s.tier.format) s

/-- The store slots that qualify at cold start, the one to try first before the other (R82). -/
def State.autoSlots (s : State) : List Nat :=
  let ok (k : Nat) : Bool := (s.slotState k).1 && (s.slotState k).2.1
  let l := (numsFrom 0 2).filter ok
  if l.length = 2 ∧ (s.slotState 0).2.2 < (s.slotState 1).2.2 then [1, 0] else l

/-- AUTOLOAD: the flash stage of the cold start sequence ends, and the best qualifying store slot is loaded (R82, R553). -/
def execAutoload (s : State) : Host.Outcome State Fault Refusal :=
  if ¬ s.power.flashStage ∨ ¬ s.live ∨ s.load.isSome then .next s
  else
    let s := (s.pwmod (fun p => { p with flashStage := false })).startFlash
    if ¬ s.anyFlash then .next s
    else match s.autoSlots with
      | k :: r => .next (s.coldLoad k r.head?)
      | [] => .next s

end Sys2Proof.Machine
end

