-- ==== Sys2Proof/Machine/Power.lean ====
section
/-! DEFINITION. The power cap and the thermal rules (R540 to R543), their telemetry (R555, R567, R568), and park (R546, R547). -/

set_option Elab.async false

namespace Sys2Proof.Machine

/-! Sensors (R567). -/

/-- A sample in units of 0.125 °C as a number. -/
def tempOf (v : Nat) : Int := signed 16 (v % 2 ^ 16)

/-- The latest sample of a sensor. -/
def State.temp (s : State) (i : Nat) : Int := tempOf (sget 0 s.power.temps i)

/-- Whether a unit is off: named by a start order and not started, unless it is only parked. -/
def State.unitOff (s : State) (cls idx : Nat) : Bool := s.unitDown cls idx && s.power.phase == .starting

/-- Whether a sensor is sampled: its die or stack is not off (MGT_SENSVAL.VALID). -/
def State.sensorOn (s : State) (i : Nat) : Bool :=
  if i < 32 then !s.unitOff 2 (i / 8)
  else if i < 40 then true
  else if i < 60 then !s.unitOff 1 (i - 40) && !s.isRetired 4 (i - 40)
  else s.flag (Fld.FLS_STAT_INSERVICE (i - 60))

/-- The hottest of the sampled ones of `n` sensors from `a` on; 0 °C when none is. -/
def State.hottest (s : State) (a n : Nat) : Int :=
  match (numsFrom a n).filter s.sensorOn with
  | [] => 0
  | i :: r => r.foldl (fun (m : Int) k => max m (s.temp k)) (s.temp i)

/-- Whole degrees of a temperature as PWR_THERM reports them. -/
def degrees (t : Int) : Nat := min 255 (t / 8).toNat

/-- One sample taken: the latest, and the highest since the last read. -/
def State.sample (s : State) (x : Nat × Nat) : State :=
  if 64 ≤ x.1 ∨ ¬ s.sensorOn x.1 then s
  else
    let v := x.2 % 2 ^ 16
    let m := sget 0 s.power.tempMax x.1
    let hi := if (sfind s.power.tempMax x.1).isNone ∨ tempOf m < tempOf v then v else m
    s.pwmod (fun p => { p with temps := sinsert p.temps x.1 v, tempMax := sinsert p.tempMax x.1 hi })

/-- PWR_THERM from the latest samples. -/
def State.reportTherm (s : State) : State :=
  let s := ((s.set Fld.PWR_THERM_CD3 (degrees (s.hottest 24 8))).set Fld.PWR_THERM_CD2 (degrees (s.hottest 16 8))).set Fld.PWR_THERM_CD1 (degrees (s.hottest 8 8))
  let s := ((s.set Fld.PWR_THERM_CD0 (degrees (s.hottest 0 8))).set Fld.PWR_THERM_IOD1 (degrees (s.hottest 36 4))).set Fld.PWR_THERM_IOD0 (degrees (s.hottest 32 4))
  s.set Fld.PWR_THERM_MEM (degrees (s.hottest 40 24))

/-! The cap (R540). -/

/-- Package power of a spoke, in eighths of a milliwatt. -/
def packagePower (o : PowerObs) : Nat := o.rails.foldl (fun n r => n + r.1 * r.2) 0

/-- Watts of a sum of `n` powers. -/
def wattsOf (sum n : Nat) : Nat := if n = 0 then 0 else sum / (8000 * n)

/-- The power curves section's header in force. -/
def State.powerHead (s : State) : PowerHdr := powerHdr (s.section_ 0xB)

/-- The averaging window in spokes: 1 before a Harness is loaded. -/
def State.powerWindow (s : State) : Nat := if s.hasSection 0xB then max 1 s.powerHead.window else 1

/-- A class's level. -/
def State.classLevel (s : State) (k : Nat) : Nat := ((s.power.classes.drop k).head?.map (fun c => c.level)).getD 0

/-- A class changed. -/
def State.classMod (s : State) (k : Nat) (f : ThrotClass → ThrotClass) : State :=
  s.pwmod (fun p => { p with classes := (p.classes.zipIdx).map (fun c => if c.2 = k then f c.1 else c.1) })

/-- The highest-numbered class below level 15. -/
def State.classToRaise (s : State) : Option Nat := [3, 2, 1, 0].find? (fun k => decide (s.classLevel k < 15))

/-- The lowest-numbered class above level 0. -/
def State.classToLower (s : State) : Option Nat := [0, 1, 2, 3].find? (fun k => decide (0 < s.classLevel k))

/-- A level raised, with its event (R540, R556). -/
def State.raiseLevel (s : State) : State :=
  match s.classToRaise with
  | none => s
  | some k =>
    let rising : Bool := s.classLevel k == 0
    let s := s.classMod k (fun c => { c with level := c.level + 1 })
    if rising ∧ ¬ s.power.capEvent then (s.powerEvent 1).pwmod (fun p => { p with capEvent := true }) else s

/-- A level lowered, with its event (R540, R556). -/
def State.lowerLevel (s : State) : State :=
  match s.classToLower with
  | none => s
  | some k =>
    let s := s.classMod k (fun c => { c with level := c.level - 1 })
    if s.classToLower.isNone ∧ ¬ s.power.freeEvent then (s.powerEvent 2).pwmod (fun p => { p with freeEvent := true }) else s

/-- The cap's rule at the end of a spoke (R540). -/
def State.capLevels (s : State) : State :=
  if ¬ s.hasSection 0xB then s
  else
    let h := s.powerHead
    let n := s.power.window.length
    let sum := s.power.window.foldl (· + ·) 0
    if h.limit * 8000 * n < sum then s.raiseLevel
    else if sum < (h.limit - h.hyst) * 8000 * n then s.lowerLevel
    else s

/-! The thermal rules (R541, R589). -/

/-- An extra level at the end of a spoke, from the hottest sample `t` and the throttle temperature `lim`, both in units of 0.125 °C (R541). -/
def thermStep (x : Nat) (t lim : Int) : Nat := if lim < t then min 15 (x + 1) else if t < lim - 40 then x - 1 else x

/-- The throttle temperatures of the DRAM and the flash stacks' sensors, in °C: fixed (R589). -/
def dramThrottle : Nat := 90
@[inherit_doc dramThrottle] def flashThrottle : Nat := 80

/-- The extra levels after a spoke: of the dies 0 to 3 once power curves are loaded, then of the DRAM stacks (4) and of the flash stacks (5) (R541, R589). -/
def State.thermNext (s : State) : List Nat :=
  let lim : Int := 8 * (s.powerHead.tthrot : Int)
  (numsFrom 0 4).map (fun d => if s.hasSection 0xB then thermStep (s.power.therm.getD d 0) (s.hottest (8 * d) 8) lim else 0) ++
    [thermStep (s.power.therm.getD 4 0) (s.hottest 40 20) (8 * dramThrottle), thermStep (s.power.therm.getD 5 0) (s.hottest 60 4) (8 * flashThrottle)]

/-- The thermal levels, with the event of a throttle that begins (R541, R556). -/
def State.thermLevels (s : State) : State :=
  let was := s.power.therm.any (fun x => decide (0 < x))
  let l := s.thermNext
  let s := s.pwmod (fun p => { p with therm := l })
  if ¬ was ∧ l.any (fun x => decide (0 < x)) then s.powerEvent 3 else s

/-- The extra level of a compute die's tiles: its own, or that of a kind of stack, which is every tile's (R541, R589). -/
def State.thermExtra (s : State) (d : Nat) : Nat := max (s.power.therm.getD d 0) (max (s.power.therm.getD 4 0) (s.power.therm.getD 5 0))

/-- The throttle level of logical tile `t`: its class level, and one more for each extra level of its die (R541). -/
def State.tileLevel (s : State) (t : Nat) : Nat :=
  let c := s.classLevel (powerClass (s.section_ 0xB) t)
  match s.phys t with
  | some p => min 15 (c + s.thermExtra (p / 17))
  | none => c

/-! A spoke's end. -/

/-- The readings of a spoke recorded: rails, PEAK, and the sums of the revolution (R540, R568). -/
def State.takeReadings (s : State) (o : PowerObs) : State :=
  let s := (o.rails.zipIdx.take 7).foldl (fun (s : State) r =>
    let s := s.pwmod (fun p => { p with rails := sinsert p.rails r.2 ⟨(sget ⟨0, 0⟩ p.rails r.2).mv + r.1.1, (sget ⟨0, 0⟩ p.rails r.2).amps + r.1.2⟩ })
    s.set (Fld.MGT_RAIL_PEAK r.2) (max (s.get (Fld.MGT_RAIL_PEAK r.2)) (min 65535 r.1.2))) s
  let s := o.temps.foldl (fun (s : State) x => s.sample x) s
  let w := packagePower o
  let s := s.pwmod (fun p => { p with window := (w :: p.window).take s.powerWindow, revSum := p.revSum + w, revSpokes := p.revSpokes + 1 })
  let s := s.set Fld.PWR_MEAS_PEAK_W (max (s.get Fld.PWR_MEAS_PEAK_W) (min 65535 (wattsOf w 1)))
  s.set Fld.PWR_MEAS_AVG_W (min 65535 (wattsOf (s.power.window.foldl (· + ·) 0) s.power.window.length))

/-- The counts of PWR_THROT, and the levels summed for R542, with the levels in force in the spoke that ends. -/
def State.countLevels (s : State) : State :=
  let s := if s.power.classes.any (fun c => decide (0 < c.level)) then s.count Fld.PWR_THROT_SPOKES 1 else s
  let s := if s.power.therm.any (fun x => decide (0 < x)) then s.count Fld.PWR_THROT_THERMAL 1 else s
  s.pwmod (fun p => { p with classes := p.classes.map (fun c => { c with sum := c.sum + c.level }) })

/-- POWER_CAP: the end of a spoke: power is averaged and the throttle levels are set (R540, R541). -/
def execPowerCap (obs : PowerObs) (s : State) : Host.Outcome State Fault Refusal :=
  if s.power.porst then .next s
  else .next ((((s.countLevels).takeReadings obs).reportTherm).capLevels.thermLevels)

/-! The revolution's end (R542, R568). -/

/-- A class at a revolution boundary: its point moves by the levels of the `n` spokes measured (R542). -/
def ThrotClass.revolve (c : ThrotClass) (n target : Nat) : ThrotClass × Bool :=
  let zeros := if c.sum = 0 ∧ 0 < n then c.zeros + 1 else 0
  if 0 < n ∧ 8 * n ≤ c.sum ∧ 0 < c.point then (⟨c.level, 0, 0, c.point - 1⟩, true)
  else if 16 ≤ zeros ∧ c.point < target then (⟨c.level, 0, 0, c.point + 1⟩, false)
  else (⟨c.level, 0, zeros, c.point⟩, false)

/-- The readings averaged over the revolution that ends (R568, PWR_MEAS.REV_W). -/
def State.revReadings (s : State) : State :=
  let n := s.power.revSpokes
  if n = 0 then s
  else
    let s := s.power.rails.foldl (fun (s : State) r => (s.set (Fld.MGT_RAIL_MV r.1) (min 65535 (r.2.mv / n))).set (Fld.MGT_RAIL_AMPS r.1) (min 65535 (r.2.amps / n))) s
    s.set Fld.PWR_MEAS_REV_W (min 65535 (wattsOf s.power.revSum n))

/-- The manager at a revolution boundary (R542, R556, R568). -/
def State.powerBoundary (s : State) : State :=
  let n := s.power.revSpokes
  let s := s.revReadings
  let r := s.power.classes.map (fun c => if s.hasSection 0xB then c.revolve n s.powerHead.target else (⟨c.level, 0, 0, c.point⟩, false))
  let s := s.count Fld.PWR_THROT_POINTDN (r.filter (fun x => x.2)).length
  s.pwmod (fun p => { p with classes := r.map (·.1), revSum := 0, revSpokes := 0, rails := [], capEvent := false, freeEvent := false })

/-! Operating points (R543). -/

/-- The curve point of physical tile `p` when it carries a logical tile: that of its class. -/
def State.physPoint (s : State) (p : Nat) : Option Nat :=
  (s.logicalOf p).map (fun t => ((s.power.classes.drop (powerClass (s.section_ 0xB) t)).head?.map (fun c => c.point)).getD 0)

/-- The lower of two points, where there are two. -/
def lowerPoint (a b : Option Nat) : Option Nat :=
  match a, b with
  | some x, some y => some (min x y)
  | some x, none => some x
  | none, y => y

/-- The point of tile domain `n` by itself: the spare shares the domain of its die's index 15 (R534, R543). -/
def State.domPoint0 (s : State) (n : Nat) : Option Nat :=
  let p := physCode (n / 16) (n % 16)
  if n % 16 = 15 then lowerPoint (s.physPoint p) (s.physPoint (p + 1)) else s.physPoint p

/-- The tile domain of a physical tile (R534). -/
def domainOf (p : Nat) : Nat := 16 * (p / 17) + min 15 (p % 17)

/-- The physical tiles of a tile domain. -/
def domTiles (n : Nat) : List Nat := let p := physCode (n / 16) (n % 16); if n % 16 = 15 then [p, p + 1] else [p]

/-- The point in force in tile domain `n`: the lowest among the domains of its tiles' yokes (R543). -/
def State.domPoint (s : State) (n : Nat) : Option Nat :=
  let ts := (domTiles n).filterMap s.logicalOf
  let ms := ((ts.map s.yokeMembers).flatten.filterMap s.phys).map domainOf
  ms.foldl (fun a m => lowerPoint a (s.domPoint0 m)) (s.domPoint0 n)

/-! Park (R546, R547). -/

/-- A write of PWR_CTL.PARK (R546, R547, R554). -/
def State.parkWrite (s : State) (on : Bool) : State :=
  let s := s.setFlag Fld.PWR_CTL_PARK on
  match s.power.phase, on with
  | .running, true => s.pwmod (fun p => { p with phase := .parking })
  | .waking, _ => s.pwmod (fun p => { p with again := on })
  | .parking, false => s.pwmod (fun p => { p with phase := .running })
  | .parked, false => s.wake
  | _, _ => s

/-- Whether nothing keeps the device from entering park (R546). -/
def State.mayPark (s : State) : Bool :=
  !s.anyOutstanding && s.load.isNone && s.tier.op.isNone && !s.tier.dir.any (fun e => e.2.st == .cleaning || e.2.st == .evicting) &&
    !s.tier.pchs.any (fun p => p.2 == .relocating || p.2 == .copyingBack)

/-- The units that park: mapped tiles, dies, and DRAM stacks in service (R546). -/
def State.parkUnits (s : State) : List Nat :=
  allUnits.filter (fun k =>
    let i := k % 65536
    match k / 65536 with
    | 1 => !s.isRetired 4 i
    | 2 => true
    | 3 => s.mapped i
    | _ => false)

/-- PARK_ENTRY: with no work outstanding the units park, and UP ports are asked into LOW_POWER (R390, R546). -/
def execParkEntry (s : State) : Host.Outcome State Fault Refusal :=
  if s.power.phase ≠ .parking ∨ ¬ s.live ∨ ¬ s.mayPark then .next s
  else
    let s := s.pwmod (fun p => { p with phase := .parked, down := s.parkUnits.foldl nadd p.down, again := false })
    let s := (numsFrom 0 6).foldl (fun (s : State) p => if s.mayLowPower p then s.pmod p (fun q => { q with pmEnter := true }) else s) s
    .next (s.powerEvent 5)

/-- PARK_EXIT: after a waking event the parked units restart in the start order (R547). -/
def execParkExit (s : State) : Host.Outcome State Fault Refusal :=
  if s.power.phase ≠ .waking ∨ s.power.ordering ∨ ¬ s.live then .next s
  else
    let s := (numsFrom 0 6).foldl (fun (s : State) p => s.pmod p (fun q => { q with pmEnter := false })) s
    .next (s.beginOrder .parkExit).orderCheck

end Sys2Proof.Machine
end

