-- ==== Sys2Proof/Machine/Reset.lean ====
section
/-! DEFINITION. The resets: cold (R551 to R553, R528), warm (R523) and its resumption (R524, R525, R602). -/

set_option Elab.async false

namespace Sys2Proof.Machine

/-- Whether a register lies in the always-on domain: every block but DRM, FLS, LNK, DRV, UPD and TILE (R45, R534). -/
def alwaysOn (a : Nat) : Bool :=
  decide (a < 0x140000) || (decide (0x300000 ≤ a) && decide (a < 0x800000)) || decide (0x1000000 ≤ a)

/-- Whether a register is one of the wear registers that a flash controller reloads from its stack's metadata (R344). -/
def wearReg (a : Nat) : Bool := (numsFrom 0 4).any (fun f => a == Reg.FLS_WEAR f || a == Reg.FLS_HOSTBYTES f || a == Reg.FLS_PGMBYTES f)

/-- What the retirement record says of ports, lanes and pseudo-channels shown in their registers (R507). -/
def State.showRecord (s : State) : State :=
  let s := s.retired.foldl (fun (s : State) k =>
    let i := k % 65536
    match k / 65536 with
    | 2 => s.set (Fld.LNK_STAT_STATE i) lnkRetired
    | 7 => (s.set (Fld.LNK_STAT_GOOD (i / 8)) (s.get (Fld.LNK_STAT_GOOD (i / 8)) &&& (255 - 2 ^ (i % 8)))).set (Fld.LNK_LANE_STATE (i / 8) (i % 8)) 2
    | _ => s) s
  s.tier.pchs.foldl (fun (s : State) p => s.set (Fld.DRM_STAT_PCHRET (p.1 / 32)) (s.get (Fld.DRM_STAT_PCHRET (p.1 / 32)) ||| 2 ^ (p.1 % 32))) s

/-! Cold reset (R551, R553). -/

/-- LAST of CLK_RSTSTAT after a cold reset (R557). -/
def State.coldCause (s : State) : Nat := if s.flag Fld.PWR_THERM_TRIPPED then 3 else if s.halt = .powerWarning then 4 else 1

/-- Pseudo-channels that the retirement record names, themselves or by their stack. -/
def pchsOf (retired : List Nat) : List Nat :=
  ((retired.map (fun k => if k / 65536 = 3 then [k % 65536] else if k / 65536 = 4 ∧ k % 65536 < 20 then numsFrom (32 * (k % 65536)) 32 else [])).flatten).foldl nadd []

/-- The tier controller after a cold reset: what the flash metadata hold is kept, and retired pseudo-channels are to be relocated afresh (R321, R337, R551). -/
def TierState.cold (t : TierState) (retired : List Nat) : TierState :=
  { TierState.reset with homes := t.homes, lostObjs := t.lostObjs, evac := t.evac, fstacks := t.fstacks, format := t.format,
                         pchs := (pchsOf retired).map (fun p => (p, .relocating)) }

/-- What a cold reset leaves (R18, R551): flash and its records are kept, everything else starts over. The model's own queue and counter, the record of what went out on the link, and the test access port stay. -/
def State.cold (s : State) : State :=
  let keepRec := s.anyFlash
  let retired := if keepRec then s.retired else []
  let inFlash (a : Nat) : Bool := (decide (flashBase ≤ a) && decide (a < scratchBase)) || decide (2 ^ 53 ≤ a)
  let c := { State.reset with
    pending := s.pending, freeCount := s.freeCount,
    regs := s.regs.filter (fun e => wearReg e.1),
    mem := s.mem.filter (fun c => inFlash c.1), poison := s.poison.filter (fun g => inFlash (32 * g)),
    retired := retired, retireTimes := if keepRec then s.retireTimes else [], tier := s.tier.cold retired, mirror := s.mirror,
    host := { HostState.reset with out := s.host.out }, mgmt := { MgmtState.reset with trst := s.mgmt.trst, tap := s.mgmt.tap, tdo := s.mgmt.tdo } }
  let c := (c.setReg Reg.HRN_STORE0 (s.reg Reg.HRN_STORE0)).setReg Reg.HRN_STORE1 (s.reg Reg.HRN_STORE1)
  let c := match s.mirror with
    | some m => ((c.set Fld.JRN_MIRROR_REC 1).set Fld.JRN_MIRROR_ENTRIES m.entries.length).set Fld.JRN_PLNEXT_JSEQ m.next
    | none => c
  (c.set Fld.CLK_RSTSTAT_LAST s.coldCause).showRecord

/-- PORST_N: low holds the package in cold reset; its release starts the cold start sequence, with the address straps sampled (R552, R553, R558). -/
def execPorstN (low : Bool) (straps : Nat) (s : State) : Host.Outcome State Fault Refusal :=
  if low then
    if s.power.porst then .next s else .next (s.cold.pwmod (fun p => { p with porst := true }))
  else if ¬ s.power.porst then .next s
  else
    let tap := match s.mgmt.tap with
      | .idcode => TapInstr.idcode
      | .samplePreload => .samplePreload
      | _ => .bypass
    .next { (s.pwmod (fun p => { p with porst := false })) with mgmt := { s.mgmt with straps := straps % 4, tap := tap } }

/-! Warm reset (R523). -/

/-- A port at a warm reset: an UP port sends DOWN with reason 9, and every one but a retired one is DOWN (R378, R391). -/
def State.warmPort (s : State) (p : Nat) : State :=
  let st := s.lnkState p
  let sent := if st = lnkUp then ((s.sendControl p [[wordOf [(56, 8, 8), (48, 8, 9)], 0, 0, 0]]).port p).sent else none
  s.pmod p (fun q => { Port.reset with lockFails := q.lockFails, fromJseq := q.fromJseq, sent := sent })

/-- The link events of a warm reset (R378): of the ports that were not DOWN or retired, with the reason of those that were UP. -/
def State.warmEvents (s : State) (was : List (Nat × Nat)) : State :=
  was.foldl (fun (s : State) x =>
    if x.2 = lnkDown ∨ x.2 = lnkRetired then s
    else
      let s := if x.2 = lnkUp ∨ x.2 = lnkLow then s.set (Fld.LNK_STAT_REASON x.1) 9 else s
      s.linkEvent x.1) s

/-- The tier controller at a warm reset (R343). -/
def TierState.warm (t : TierState) : TierState :=
  { t with dir := (t.dir.filter (fun e => e.2.st != .promoting)).map (fun e => (e.1, { e.2 with pins := [] })) }

/-- What WRST_N discards beside registers (R523, R391, R417): pins and promotions, link sessions, messages not committed, vote partials, armed faults, early reads. -/
def State.warmDiscard (s : State) : State :=
  let s := (numsFrom 0 6).foldl (fun (s : State) p => s.warmPort p) s
  let s := s.nmod (fun n => { n with partials := [], transit := [], inbox := [], reductions := n.reductions.filter (fun p => !p.vote) })
  { s with tier := s.tier.warm, arrInj := [], lastDisp := [], sweep := { s.sweep with stats := [] },
           streams := s.streams.filter (fun r => s.cmdIs r.1 (fun e => e.st == .dispatched)) }

/-- The loader at a warm reset (R602): the action in progress ends with RESET. -/
def State.warmLoad (s : State) : State :=
  if s.load.isSome then { (s.hrnEnd (LoadCode.whole .reset) s.hrnPhase) with holdFrom := none } else { s with holdFrom := none }

/-- WRST_N: a low shorter than the filter is counted; a filtered falling edge enters warm reset (R523, R552). -/
def execWrstN (glitch : Bool) (s : State) : Host.Outcome State Fault Refusal :=
  if s.power.porst ∨ s.power.wrst ∨ s.halt ≠ .running then .next s
  else if glitch then .next (s.count Fld.CLK_RSTCNT_GLITCH 1)
  else
    let was := (numsFrom 0 6).map (fun p => (p, s.lnkState p))
    let s := s.warmLoad.warmDiscard
    let s := (s.resetRegs (fun a => !alwaysOn a && !wearReg a)).showRecord.warmEvents was
    let s := (s.wrap Fld.CLK_RSTSTAT_WARMS 1).set Fld.CLK_RSTSTAT_LAST 2
    let s := (s.setFlag Fld.PWR_CTL_PARK false).set Fld.PWR_STAT_STARTIDX 0
    let s := s.pwmod (fun p => { p with phase := .starting, startKind := .warm, next := 0, ordering := false, down := allUnits, begun := [], wrst := true, again := false })
    .next ({ s with acceptStop := true }.capChange)

/-! Resumption (R524, R525). -/

/-- A route job's record at its replay (R262): it goes on from its journalled progress. -/
def RouteRun.resumed (r : RouteRun) : RouteRun :=
  match r.st with
  | .count => { r with st := .select }
  | .build => { r with st := .select }
  | _ => r

/-- A SWEEP job's record at its replay (R305, R306): the rules run again from the first, and committed blocks are skipped. -/
def SweepRun.resumed (r : SweepRun) : SweepRun :=
  match r.st with
  | .wait => r
  | .verdict => r
  | _ => { r with st := .verdict, ended := 0, phase := .start, mats := [], block := 0, stalled := false }

/-- A dispatched command that has not ended, recorded as dispatched once more (R509, R525). -/
def State.resumeOne (s : State) (j : Nat) (e : JEntry) : State :=
  let again (s : State) : State := s.jmod j (fun e => { e with disp := e.disp + 1 })
  match e.target with
  | .tileRing _ => s.replayTile j
  | .drover _ => (again s).routeMod j (fun r => r.resumed)
  | .sequencer _ => { (again s) with sweep := { s.sweep with jobs := smodify s.sweep.jobs j (fun r => r.resumed) } }
  | .collective => (again s).jmod j (fun e => if colOp e.words = 2 then { e with sent := false } else e)
  | .host => (again s).jmod j (fun e => if hostOp e.words = 4 ∨ hostOp e.words = 5 then { e with segs := 0, payload := [] } else { e with sent := false })
  | _ => again s

/-- Every dispatched, uncommitted command replayed (R525). -/
def State.resumeAll (s : State) : State :=
  (s.journal.filter (fun e => e.2.st == .dispatched && e.2.refusal.isNone)).foldl (fun (s : State) x => s.resumeOne x.1 x.2) s

/-- RESUMPTION: WRST_N is released; the journal is resumed as a recovery, and the active image is loaded again (R524, R525, R602). Without an image the cold start sequence goes on from its flash stage (R554). -/
def execResumption (s : State) : Host.Outcome State Fault Refusal :=
  if ¬ s.power.wrst ∨ s.power.porst then .next s
  else
    let s := s.pwmod (fun p => { p with wrst := false })
    if s.halt ≠ .running then .next s
    else if s.image.isNone then .next { (s.pwmod (fun p => { p with flashStage := true })) with acceptStop := false }
    else
      let rings := s.hostRingsOf (s.journal.map (·.1))
      let s := (s.startFlash.resumeAll).beginRecovery 2 rings
      .next (s.recoveryEvent.startLoad (LoadAct.mk_ 1 .warmReset 0 0 0 0 none))

end Sys2Proof.Machine
end

