-- ==== Sys2Proof/Machine/Boundary.lean ====
section
/-! DEFINITION. The revolution boundary with everything that happens at it (R424), the marks that may bring one about (R426 to R433), and the reference cycle that passes when no command waits. -/

set_option Elab.async false

namespace Sys2Proof.Machine

/-- A revolution boundary: the Wheel's own part, the manager's, and, while the device runs, the ports and units that join and the image that becomes due (R79, R389, R424, R529, R542). -/
def State.revBoundary (s : State) : State :=
  let s := s.wheelBoundary.powerBoundary
  if ¬ s.live then s
  else (((numsFrom 0 6).foldl (fun (s : State) p => s.joinPort p) s).loadBoundary.joinAtBoundary).orderCheck

/-- REVOLUTION_BOUNDARY: the Wheel reaches spoke 0000 of the next revolution (R424; log entry 40); a paused Wheel does not. -/
def execRevolutionBoundary (s : State) : Host.Outcome State Fault Refusal :=
  if s.flag Fld.WHL_STAT_PAUSED ∨ s.power.porst then .next s else .next s.revBoundary

/-- WHEEL_MARK: a rising edge that stays high for `high` reference cycles (R426 to R433). -/
def execWheelMark (high : Nat) (s : State) : Host.Outcome State Fault Refusal :=
  if s.power.porst then .next s else .next (s.markEdge State.revBoundary high)

/-- PAUSE_END: the marks' time reaches the paused Wheel; a launch that fell in the pause happens if that is before its vote spoke (R433, R445). -/
def execPauseEnd (s : State) : Host.Outcome State Fault Refusal :=
  if ¬ s.flag Fld.WHL_STAT_PAUSED then .next s
  else
    let owed := s.wheel.owedLaunch
    let s := (s.setFlag Fld.WHL_STAT_PAUSED false).wmod (fun w => { w with owedLaunch := none })
    match owed with
    | some v => if s.nowSpokes < v then .next (s.launchVote v) else .next s
    | none => .next s

/-- What passes while no command waits: one reference cycle of the Wheel (log entry 41); none in cold reset. -/
def State.idle (s : State) : State := if s.power.porst then s else s.wheelTick State.revBoundary

end Sys2Proof.Machine
end

