-- ==== Sys2Proof/Machine/Caps.lean ====
section
/-! DEFINITION. The capability list (R50 to R59), computed from the state. -/

set_option Elab.async false

namespace Sys2Proof.Machine

/-- An entry of the list: ID, DYNAMIC, ENABLED and the words of its body (R51, R52). -/
structure CapEntry where
  id : Nat
  dynamic : Bool
  enabled : Bool
  body : List Word
  deriving DecidableEq, Repr

/-- Numbers below `n` that satisfy `p`, as a mask. -/
def maskOf (n : Nat) (p : Nat → Bool) : Nat := bitsMask ((numsFrom 0 n).filter p)

/-- A negotiation record (R58): supported range, version and width in use, state and instance. -/
def negRecord (loMaj loMin hiMaj hiMin maj min_ st width inst : Nat) : Word :=
  let up : Bool := decide (st = 2)
  wordOf [(56, 8, loMaj), (48, 8, loMin), (40, 8, hiMaj), (32, 8, hiMin), (24, 8, if up then maj else 0), (16, 8, if up then min_ else 0),
    (12, 4, st), (8, 4, if up ∨ st = 5 then width else 0), (0, 8, inst)]

/-- The record of a port. -/
def State.portRecord (s : State) (p : Nat) : Word :=
  negRecord 1 0 1 3 1 (s.get (Fld.LNK_STAT_USE_MIN p)) (s.lnkState p) (s.get (Fld.LNK_STAT_WIDTH p)) p

/-- The record of the PCIe link. -/
def State.pcieRecord (s : State) : Word :=
  negRecord 4 0 6 0 (s.get Fld.HIF_STAT_SPEED) 0 (if s.flag Fld.HIF_STAT_LINKUP then 2 else 0) (s.get Fld.HIF_STAT_WIDTH) 0

/-- The record of the Harness image format. -/
def State.harnessRecord (s : State) : Word :=
  match s.image with
  | some h => negRecord 1 0 1 1 h.fmtMaj h.fmtMin 2 0 0
  | none => negRecord 1 0 1 1 0 0 0 0 0

/-- A region record of the UDA map (R57). -/
def regionRecord (base type len : Nat) : List Word := [wordOf [(16, 48, base / 16), (8, 8, type)], wordOf [(16, 48, len / 16)]]

/-- The UDA map (R57). -/
def State.udaMap (s : State) : List Word :=
  6 :: (regionRecord 0 1 s.cacheBase ++ regionRecord dramBBase 2 (dramBEnd - dramBBase) ++ regionRecord flashBase 3 s.flashUsable ++
    regionRecord scratchBase 4 (scratchEnd - scratchBase) ++ regionRecord inboundBase 5 (inboundEnd - inboundBase) ++
    regionRecord registerBase 6 (udaEnd - registerBase))

/-- Whether a DRAM stack is in service. -/
def State.dramIn (s : State) (k : Nat) : Bool := !s.isRetired 4 k

/-- Whether the row engines of S(16 + k) are in service. -/
def State.rowIn (s : State) (k : Nat) : Bool := !s.isRetired 5 (8 + k)

/-- Whether the Drover of CDd is in service. -/
def State.droverIn (s : State) (d : Nat) : Bool := !s.isRetired 5 d

/-- Whether any logical tile is in service. -/
def State.anyTile (s : State) : Bool := (numsFrom 0 64).any s.mapped

/-- Usable bytes of DRAM: less the tier cache and the contents of lost pseudo-channels (R316, R338). -/
def State.dramUsable (s : State) : Nat :=
  1216 * 2 ^ 30 - s.get Fld.TIER_STAT_CACHE * 2 ^ 30 - (s.tier.pchs.map (fun p => if p.2 = .lost then s.chunksOfPch p.1 * 2 ^ 21 else 0)).foldl (· + ·) 0

/-- Bytes of the regions that are BITMAP now (R347, R358). -/
def State.bitmapBytes (s : State) : Nat := (s.tier.rowRegions.map (fun r => if r.cls = 1 then r.len * 2 ^ 26 else 0)).foldl (· + ·) 0

/-- FEATURES of the tile fabric. -/
def State.tileFeatures (s : State) : Word :=
  wordOf [(16, 3, ((numsFrom 0 4).filter (fun d => s.tileFree (physCode d 16))).length), (8, 7, ((numsFrom 0 64).filter s.mapped).length),
    (4, 1, b2n (s.hflag 4)), (3, 1, b2n ((numsFrom 0 64).any (fun t => s.yoke t == 2))), (2, 1, b2n ((numsFrom 0 64).any (fun t => s.yoke t == 1))),
    (1, 1, b2n (s.shapeOn 2)), (0, 1, b2n (s.shapeOn 1))]

/-- FEATURES of the element formats. -/
def State.formatFeatures (s : State) : Word :=
  wordOf [(17, 1, 1), (16, 1, b2n ((numsFrom 0 16).any (fun r => (s.fmt r).kind == 2))), (0, 16, maskOf 16 (fun r => (s.fmt r).isPresent))]

/-- FEATURES of the Drover. -/
def State.droverFeatures (s : State) : Word :=
  let ps := if s.hasSection 6 then routePlans (s.section_ 6) else []
  wordOf [(16, 11, ps.foldl (fun n p => max n p.e) 0), (8, 5, ps.foldl (fun n p => max n p.k) 0), (0, 4, maskOf 4 s.droverIn)]

/-- The entries present before a Harness load (R52, R54). -/
def State.capAlways (s : State) : List CapEntry :=
  [⟨1, true, true, [wordOf [(48, 16, Config.vendorId.toNat), (32, 16, 0x1216), (24, 8, 0xB0)], Config.serial,
      wordOf [(16, 16, if s.herdValid then s.herdAddr else 0), (0, 1, b2n s.herdValid)]]⟩,
   ⟨2, false, true, s.udaMap⟩,
   ⟨3, true, true, [wordOf [(0, 1, b2n (s.flag Fld.HIF_STAT_FLIT))], s.pcieRecord]⟩,
   ⟨4, true, true, [wordOf [(0, 2, s.mgmt.mode)]]⟩,
   ⟨5, true, true, [wordOf [(1, 1, b2n (s.anyFlash && (s.flag Fld.HRN_STORE0_VALID || s.flag Fld.HRN_STORE1_VALID))), (0, 1, b2n s.image.isSome)], s.harnessRecord]⟩,
   ⟨6, true, true, [wordOf [(0, 12, s.get Fld.PWR_STAT_LIMIT_W)]]⟩]

/-- The entries present once a Harness has loaded (R52, R59). -/
def State.capLoaded (s : State) : List CapEntry :=
  let cfg := s.get Fld.TIER_STAT_TIERCFG
  let e := s.extents
  let wins := ((numsFrom 0 256).filter (fun w => s.get (Fld.WIN_CTL_STATE w) == 1)).length
  [⟨7, true, s.anyTile, [s.tileFeatures]⟩,
   ⟨8, false, true, [s.formatFeatures]⟩,
   ⟨9, true, (numsFrom 0 20).any s.dramIn, [wordOf [(16, 10, 640 - s.tier.pchs.length), (1, 1, b2n (s.hflag 5)), (0, 1, b2n (s.hflag 6))], BitVec.ofNat 64 s.dramUsable]⟩,
   ⟨10, true, cfg != 0 && s.anyFlash, [wordOf [(4, 4, maskOf 4 s.flashIn), (2, 1, b2n (cfg == 2)), (0, 2, cfg)], BitVec.ofNat 64 (((numsFrom 0 4).filter s.flashIn).length * s.framesOfStack * 65536)]⟩,
   ⟨11, true, s.rowEnabled, [wordOf [(4, 4, maskOf 4 s.rowIn)], BitVec.ofNat 64 s.bitmapBytes]⟩,
   ⟨12, true, s.hasSection 6 && (numsFrom 0 4).any s.droverIn, [s.droverFeatures]⟩,
   ⟨13, true, (numsFrom 0 4).any s.sequencerOn, [wordOf [(4, 1, b2n (s.hasSection 0xD && (rulesOf (s.section_ 0xD)).any (fun r => r.matrix))), (0, 4, maskOf 4 s.sequencerOn)]]⟩,
   ⟨14, false, s.hflag 1 || s.hflag 2, [wordOf [(1, 1, b2n (s.hflag 2)), (0, 1, b2n (s.hflag 1))]]⟩,
   ⟨15, true, (numsFrom 0 6).any (fun p => !s.isRetired 2 p), wordOf [(0, 6, maskOf 6 (fun p => !s.isRetired 2 p))] :: (numsFrom 0 6).map s.portRecord⟩,
   ⟨16, true, s.herdValid, [wordOf [(26, 6, e.2.2 - 1), (21, 5, e.2.1 - 1), (16, 5, e.1 - 1), (0, 9, wins)]]⟩,
   ⟨17, false, true, [wordOf [(16, 14, s.calSize), (0, 1, b2n (s.hasSection 8))]]⟩,
   ⟨18, true, s.herdValid, [0]⟩,
   ⟨19, false, s.hflag 3, [wordOf [(0, 1, b2n (s.hflag 3))]]⟩]

/-- The list's entries in order. -/
def State.capEntries (s : State) : List CapEntry := s.capAlways ++ (if s.image.isSome then s.capLoaded else [])

/-- The words of the list from offset `o` on, entry after entry (R50, R51; log entry 42). -/
def capWords : Nat → List CapEntry → List Word
  | _, [] => []
  | o, e :: r =>
    let len := 8 * (1 + e.body.length)
    wordOf [(48, 16, if r.isEmpty then 0 else o + len), (36, 12, e.id), (35, 1, b2n e.dynamic), (34, 1, b2n e.enabled), (24, 8, 1), (0, 16, len)] :: e.body ++ capWords (o + len) r

/-- The word of the capability list at an offset of the CAP block; none past its end. -/
def State.capWord (s : State) (o : Nat) : Option Word :=
  if o < 0x100 ∨ o % 8 ≠ 0 then none else ((capWords 0x100 s.capEntries).drop ((o - 0x100) / 8)).head?

end Sys2Proof.Machine
end

