-- ==== Sys2Proof/Machine/RegRead.lean ====
section
/-! DEFINITION. What a register reads as: its stored fields with those that report the block's state as it stands (the register tables of files 02 to 22). -/

set_option Elab.async false

namespace Sys2Proof.Machine

/-- A word with fields (lo, n, v) put over it. -/
def overlay (w : Word) : List (Nat × Nat × Nat) → Word
  | [] => w
  | (lo, n, v) :: r => overlay (putBits w lo n v) r

/-! Where a field that moves has its home. -/

/-- The register that holds what BAR0 offset `a` shows: the marks, credit pools and bindings of the logical tile that a physical tile carries (R176, R182), and one storage for each mailbox buffer (R572). None where a physical tile carries no logical tile. -/
def State.home (s : State) (a : Nat) : Option Nat :=
  if 0x800000 ≤ a ∧ a < 0xC40000 then
    let o := (a - 0x800000) % 0x10000
    if (0x100 ≤ o ∧ o < 0x180) ∨ (0x400 ≤ o ∧ o < 0x580) then (s.logicalOf ((a - 0x800000) / 0x10000)).map (fun t => tlaBase + 0x10000 * t + o)
    else some a
  else if 0x31000 ≤ a ∧ a < 0x31200 then some (a + 0xA0000)
  else some a

/-! A tile block. -/

/-- The command that occupies a unit of logical tile `t`. -/
def State.unitCmd (s : State) (t : Nat) (u : TileUnit) : Option (Nat × JEntry) :=
  s.journal.find? (fun e => e.2.onTile && e.2.tile == t && e.2.fin.isNone && e.2.unit == u)

/-- TILE_STAT (R198). -/
def State.tileStat (s : State) (p : Nat) : List (Nat × Nat × Nat) :=
  let held (t : Nat) : Bool := s.flag (Fld.TILE_CTL_HOLD p) && !s.journal.any (fun e => e.2.onTile && e.2.tile == t && e.2.st == .dispatched && e.2.fin.isNone)
  match s.logicalOf p with
  | none => [(24, 8, 0xFF), (8, 2, p / 17), (0, 5, p % 17), (32, 1, b2n (s.flag (Fld.TILE_CTL_HOLD p)))]
  | some t => [(32, 1, b2n (held t)), (24, 8, t), (16, 4, (s.boundRings t).length - 1), (8, 2, p / 17), (0, 5, p % 17)]

/-- TILE_ARRSTAT (R145). -/
def State.arrStat (s : State) (p : Nat) : List (Nat × Nat × Nat) :=
  match s.logicalOf p with
  | none => [(24, 8, 0xFF)]
  | some t => [(24, 8, s.yokeLead t), (18, 2, s.yoke t), (16, 2, (s.yokeMembers t).findIdx (· == t)), (8, 1, b2n (s.unitCmd (s.yokeLead t) .array).isSome)]

/-- TILE_EUSTAT (R167). -/
def State.euStat (s : State) (p : Nat) : List (Nat × Nat × Nat) :=
  match (s.logicalOf p).bind (fun t => s.unitCmd t .element) with
  | none => []
  | some (_, e) => [(16, 8, e.op), (8, 1, 1)]

/-- TILE_RINGSTAT of binding entry `i` (R198). -/
def State.tileRingStat (s : State) (p i : Nat) : List (Nat × Nat × Nat) :=
  match s.logicalOf p with
  | none => []
  | some t =>
    if s.flag (Fld.TILE_RINGBIND_VALID t i) then
      let r := s.get (Fld.TILE_RINGBIND_RING t i)
      let b := match s.headOf r with
        | some (j, e) => (s.headBlock t p j e, if s.headBlock t p j e = 2 then s.firstUnmet t e.waits else 0)
        | none => (0, 0)
      [(28, 4, b.1), (26, 2, b.2), (0, 16, ((s.ringQueue r).filter (fun e => e.2.st != .accepted && !e.2.reported)).length)]
    else []

/-- STATE of a stream on its channel (STR_CHSTAT, R228). -/
def StreamRun.chState (r : StreamRun) : Nat :=
  if r.full then 3
  else match r.wait with
    | .credit => 2
    | .remote => 2
    | .arrival => 2
    | _ => 1

/-- STR_CHSTAT and STR_CHJSEQ of channel `c` (R228). -/
def State.chStat (s : State) (p c : Nat) : List (Nat × Nat × Nat) × Nat :=
  match (s.logicalOf p).bind (fun t => s.unitCmd t (.channel c)) with
  | none => ([], 0)
  | some (j, e) =>
    ([(50, 14, e.tileRing), (42, 8, e.op), (38, 4, sFar e.words), (3, 1, b2n (sXpose e.words)), (2, 1, b2n (e.st == .accepted)), (0, 2, (s.run j).chState)], j)

/-- STR_RESVSTAT: the record that STR_RESVSEL selects (R228). -/
def State.resvStat (s : State) (p : Nat) : List (Nat × Nat × Nat) :=
  match s.logicalOf p with
  | none => []
  | some t =>
    let n := s.get (Fld.STR_RESVSEL_RECORD p)
    match s.record t n with
    | none => []
    | some r =>
      let st := match s.resvState t n with
        | none => (0, 0)
        | some .held => (2, 0)
        | some (.inUse j) => (1, ((s.cmd j).map (fun (e : JEntry) => e.tileRing)).getD 0)
      [(50, 14, st.2), (42, 8, r.group), (28, 14, r.off), (13, 15, r.len), (3, 1, 1), (2, 1, b2n (s.contended t n)), (0, 2, st.1)]

/-- The words of STR_HALT entry `n` (R220, R228). -/
def State.haltEntry (s : State) (p n : Nat) : List Word :=
  let found := (s.logicalOf p).bind (fun t => (s.streamsOf t).find? (fun e => match (s.run e.1).halt with
    | some (m, _) => m == n
    | none => false))
  match found with
  | none => [0, 0, 0, 0]
  | some (j, e) =>
    let r := s.run j
    let ws := e.words
    let row := posRow ws r.pos
    let k := posAtom ws r.pos
    let is_ := sIndices ws row (k * sAtom ws)
    let i (n : Nat) : Nat := is_.getD n 0
    [wordOf [(50, 14, e.tileRing), (46, 4, ((r.halt.map (·.2)).getD 0)), (22, 24, sLocalAt ws row k), (0, 1, 1)],
     wordOf [(40, 24, i 0), (16, 24, i 1)], wordOf [(40, 24, i 2), (16, 24, i 3)], wordOf [(40, 24, i 4), (16, 24, i 5)]]

/-- A register at offset `o` of the block of physical tile `p`, whose stored fields are `w`. -/
def State.tileLive (s : State) (p o : Nat) (w : Word) : Word :=
  if o = 0x8 then overlay w (s.tileStat p)
  else if 0x180 ≤ o ∧ o < 0x200 then overlay w (s.tileRingStat p ((o - 0x180) / 8))
  else if o = 0x2008 then overlay w (s.arrStat p)
  else if o = 0x4008 then overlay w (s.euStat p)
  else if 0x6000 ≤ o ∧ o < 0x8000 ∧ o % 0x800 = 0 then overlay w (s.chStat p ((o - 0x6000) / 0x800)).1
  else if 0x6000 ≤ o ∧ o < 0x8000 ∧ o % 0x800 = 8 then BitVec.ofNat 64 (s.chStat p ((o - 0x6000) / 0x800)).2
  else if o = 0x6430 then overlay w (s.resvStat p)
  else if 0x6500 ≤ o ∧ o < 0x6700 then wget (s.haltEntry p ((o - 0x6500) / 32)) ((o - 0x6500) % 32 / 8)
  else w

/-! Drover and update blocks. -/

/-- The expert that DRV_SEL selects (R270). -/
def State.selExpert (s : State) (d : Nat) : ExpertSt := (s.layer d (s.get (Fld.DRV_SEL_LSLOT d))).expert (s.get (Fld.DRV_SEL_EXPERT d))

/-- A register at offset `o` of Drover cluster `d` (R270). -/
def State.drvLive (s : State) (d o : Nat) (w : Word) : Word :=
  let x := s.selExpert d
  let l := s.layer d (s.get (Fld.DRV_SEL_LSLOT d))
  if o = 0x8 then
    overlay w [(16, 4, (s.clusterJobs d).length),
      (8, 8, if s.hasSection 6 then ((routePlans (s.section_ 6)).filter (fun p => p.cluster == d)).length else 0), (0, 1, b2n (s.clusterOn d))]
  else if o = 0x48 then overlay w [(32, 32, x.prev), (0, 32, x.cur)]
  else if o = 0x50 then overlay w [(32, 32, x.bias.toNat), (0, 32, (x.pend.map (·.toNat)).getD 0)]
  else if o = 0x58 then overlay w [(32, 1, b2n x.pend.isSome), (0, 32, x.last)]
  else if o = 0x60 then overlay w [(32, 32, l.step.getD 0), (2, 1, b2n l.step.isSome), (0, 2, l.verdict)]
  else if 0x100 ≤ o ∧ o < 0x180 then
    match (s.clusterJobs d).find? (fun r => r.2.slot == (o - 0x100) / 16) with
    | none => 0
    | some (j, r) =>
      if o % 16 = 8 then BitVec.ofNat 64 j
      else
        let e := s.cmd j
        wordOf [(50, 14, (e.map (·.ring)).getD 0), (46, 4, r.st.num), (40, 6, (e.map (fun e => rjPlan e.words)).getD 0),
          (27, 13, r.issued), (14, 13, r.scattered.length), (0, 1, 1)]
  else w

/-- A register at offset `o` of update sequencer `d` (R311). -/
def State.updLive (s : State) (d o : Nat) (w : Word) : Word :=
  if o = 0x8 then
    overlay w [(32, 32, (s.openSweep d).getD 0), (16, 3, (s.seqJobs d).length), (4, 4, s.updPhase d), (1, 1, b2n (s.openSweep d).isSome), (0, 1, b2n (s.sequencerOn d))]
  else if o = 0x10 then
    let h := s.actabHead d
    if s.sequencerOn d && h.2.2 then overlay w [(32, 32, h.1), (0, 32, h.2.1)] else 0
  else if o = 0x48 then
    let n := s.get (Fld.UPD_RULESEL_RULE d)
    if (s.rule n).any (fun r => r.seq == d) then
      match sfind s.sweep.stats n with
      | some r => wordOf [(32, 32, r.step), (28, 4, r.phase), (0, 28, r.blocks)]
      | none => 0
    else 0
  else if 0x100 ≤ o ∧ o < 0x140 then
    match (s.seqJobs d).find? (fun r => r.2.slot == (o - 0x100) / 16) with
    | none => 0
    | some (j, r) =>
      if o % 16 = 8 then BitVec.ofNat 64 j
      else
        let ws := ((s.cmd j).map (·.words)).getD []
        wordOf [(50, 14, ((s.cmd j).map (·.ring)).getD 0), (46, 4, r.st.num), (36, 10, swFirst ws), (25, 11, swRules ws), (24, 1, b2n (swFinal ws)), (0, 1, 1)]
  else w

/-! Memory tiers. -/

/-- The state of a pseudo-channel counted. -/
def State.pchCount (s : State) (st : PchSt) : Nat := (s.tier.pchs.filter (fun p => p.2 == st)).length

/-- TIER_HOME of flash stack `f` (R343). -/
def State.homeStat (s : State) (f : Nat) : List (Nat × Nat × Nat) :=
  let evac := s.tier.homes.any (fun h => h.2 == f && nmem s.tier.evac h.1)
  let st := if ¬ s.flashIn f then (if evac then 1 else 2) else if (s.flashStack f).worn then 3 else 0
  let used := s.framesUsed f
  [(62, 2, st), (36, 26, used), (10, 26, if s.takesAlloc f then s.framesOfStack - used else 0)]

/-- The words of the directory entry that TIER_DIRSEL selects (R343). -/
def State.dirWords (s : State) : List Word :=
  match s.dirEnt (s.get Fld.TIER_DIRSEL_SLOT) with
  | none => [0, 0, 0]
  | some e =>
    if e.st = .relocated then [wordOf [(61, 3, e.st.num)], 0, wordOf [(54, 10, e.pch), (43, 11, e.chunk)]]
    else [wordOf [(61, 3, e.st.num), (60, 1, b2n e.redirty), (59, 1, b2n e.evreq), (58, 1, b2n e.invreq), (46, 12, e.pins.length), (20, 26, e.frame), (14, 6, e.size)],
      wordOf [(32, 32, e.mask), (0, 32, e.age)], 0]

/-- Whether the Dray has work under way (TIER_RELOC.ACTIVE). -/
def State.drayActive (s : State) : Bool :=
  s.pchCount .relocating != 0 || s.pchCount .copyingBack != 0 || !s.tier.evac.isEmpty || s.tier.dir.any (fun e => !s.slotIn e.1 && e.2.st != .relocated)

/-- A register at offset `o` of the tier controller (R343). -/
def State.tierLive (s : State) (o : Nat) (w : Word) : Word :=
  if o = 0x8 then overlay w [(28, 19, s.slotsIn), (9, 19, s.slotsFree), (1, 1, b2n s.tier.op.isSome)]
  else if o = 0x18 then overlay w [(45, 19, s.dirCount .clean), (26, 19, s.dirCount .dirty), (7, 19, s.dirCount .promoting)]
  else if o = 0x20 then overlay w [(48, 16, s.dirCount .cleaning), (32, 16, s.dirCount .evicting), (16, 16, s.dirCount .relocated)]
  else if o = 0x48 then
    overlay w [(16, 16, match s.tier.op with
      | none => 0
      | some op => (op.slots.filter (fun x => (s.dirEnt x.1).any (fun e => e.evreq || e.invreq))).length)]
  else if o = 0x88 then
    overlay w [(54, 10, s.tier.pchs.length), (44, 10, s.pchCount .relocated), (34, 10, s.pchCount .lost), (15, 19, s.relocRoom), (0, 1, b2n s.drayActive)]
  else if o = 0x98 then s.pchStat (s.get Fld.TIER_PCHSEL_PCH)
  else if 0x108 ≤ o ∧ o < 0x120 then wget s.dirWords ((o - 0x108) / 8)
  else if 0x200 ≤ o ∧ o < 0x220 then overlay w (s.homeStat ((o - 0x200) / 8))
  else w

/-- DRM_RESTAT of stack `k` (R361). -/
def State.restat (s : State) (k : Nat) : List (Nat × Nat × Nat) :=
  let up := s.rowIn (k - 16)
  [(48, 16, maskOf 16 (fun b => s.rowCmds.any (fun e => e.2.st == .dispatched && rowBank e.2.words == b))), (1, 2, if up then 0 else if s.isRetired 4 k then 2 else 1), (0, 1, b2n up)]

/-- DRM_RGNSTAT: the region that DRM_RGNSEL of the same block selects (R361). -/
def State.rgnStat (s : State) (k : Nat) : Word :=
  match (s.tier.rowRegions.drop (s.get (Fld.DRM_RGNSEL_REGION k))).head? with
  | none => 0
  | some r => wordOf [(52, 12, r.base), (40, 12, r.len), (38, 2, r.cls), (36, 2, r.acls), (0, 1, 1)]

/-- A register at offset `o` of the block of DRAM stack `k`. -/
def State.drmLive (s : State) (k o : Nat) (w : Word) : Word :=
  if o = 0x2008 then overlay w (s.restat k)
  else if o = 0x2048 then s.rgnStat k
  else if o = 0x3018 then overlay w [(0, 19, s.stagingUsed k)]
  else w

/-! Links, windows, the Wheel, the host interface, the journal. -/

/-- LNK_SEQ (R394). -/
def State.lnkSeq (s : State) (p : Nat) : List (Nat × Nat × Nat) :=
  let q := s.port p
  [(52, 12, (q.oldest + q.unacked.length) % 4096), (40, 12, q.oldest), (28, 12, q.rxNext), (16, 12, q.unacked.length)]

/-- A register at offset `o` of the exchange and collective unit (R288, R422). -/
def State.colLive (s : State) (o : Nat) (w : Word) : Word :=
  if o = 0x10 then overlay w [(16, 16, s.net.rxFlows.length), (0, 16, s.net.txFlows.length)]
  else if o = 0x20 then overlay w [(0, 12, s.net.readQuar.length)]
  else if o = 0x1058 then s.normRounded
  else w

/-- A register at offset `o` of the window table (R421). -/
def State.winLive (s : State) (o : Nat) (w : Word) : Word :=
  if o < 0x2000 ∧ o % 32 = 0x10 then overlay w [(16, 16, s.inflight (o / 32))]
  else if o = 0x2000 then overlay w [(55, 9, ((numsFrom 0 256).filter (fun i => s.get (Fld.WIN_CTL_STATE i) != 0)).length)]
  else w

/-- OLDEST of RING_JSEQ: the JSEQ of the ring's oldest uncompleted command (R483). -/
def State.oldestOf (s : State) (r : Nat) : Nat :=
  if s.role r = 1 then (((s.ofRing r).head?).map (·.1)).getD 0 else if s.role r = 4 then (((s.ringQueue r).head?).map (·.1)).getD 0 else 0

/-- A register at offset `o` of the context of ring `r` (R483). -/
def State.ringLive (s : State) (r o : Nat) (w : Word) : Word :=
  if o = 0x28 then s.ringStat r else if o = 0x38 then BitVec.ofNat 64 (s.oldestOf r) else w

/-- A register at offset `o` of the host interface (R482). -/
def State.hifLive (s : State) (o : Nat) (w : Word) : Word :=
  if o = 0x18 then overlay w [(0, 14, s.host.quarantined.length)] else if o = 0x20 then overlay w [(0, 13, s.host.reads.length)] else w

/-- Retirements on record of a class. -/
def State.retiredOf (s : State) (cls : Nat) : Nat := (s.retired.filter (fun k => k / 65536 == cls)).length

/-- The command listed in the journal mirror that JRN_PLSEL selects (R528). -/
def State.plEntry (s : State) : Option Listed := s.mirror.bind (fun m => (m.entries.drop (s.get Fld.JRN_PLSEL_INDEX)).head?)

/-- JRN_ENT: the command that JRN_SEL selects (R533). -/
def State.jrnEnt (s : State) : Word :=
  match s.cmd (s.reg Reg.JRN_SEL).toNat with
  | none => 0
  | some e => wordOf [(60, 4, e.st.num), (56, 4, min 15 e.disp), (42, 14, e.ring), (26, 16, if e.parent = 0 then e.idx % 65536 else 0)]

/-- A register at offset `o` of the journal block (R485, R533). -/
def State.jrnLive (s : State) (o : Nat) (w : Word) : Word :=
  if o = 0x0 then overlay w [(47, 17, s.journal.length)]
  else if o = 0x10 then BitVec.ofNat 64 ((s.journal.head?.map (·.1)).getD 0)
  else if o = 0x118 then
    overlay w [(57, 7, s.retiredOf 1), (47, 10, s.retiredOf 3), (42, 5, s.retiredOf 4), (36, 6, s.retiredOf 7), (33, 3, s.retiredOf 2), (29, 4, s.retiredOf 5), (14, 15, s.retiredOf 6)]
  else if o = 0x138 then s.jrnEnt
  else if o = 0x158 then BitVec.ofNat 64 ((s.plEntry.map (·.jseq)).getD 0)
  else if o = 0x160 then
    match s.plEntry with
    | none => 0
    | some x => wordOf [(50, 14, x.ring), (34, 16, x.idx), (30, 4, x.state)]
  else w

/-! Power, clocks, management. -/

/-- STATE of a clock domain whose unit is a unit of the start order (R557): 0 off, 1 starting, 2 running, 4 retained. -/
def State.unitDom (s : State) (cls idx : Nat) : Nat :=
  if ¬ s.unitDown cls idx then 2
  else if s.power.begun.contains (65536 * cls + idx) then 1
  else if s.power.phase = .starting then 0
  else 4

/-- STATE of the domain of a physical tile taken alone: standby where it is free (R548, R557). -/
def State.physDom (s : State) (p : Nat) : Nat :=
  if s.isRetired 1 p then 0
  else match s.logicalOf p with
    | some t => s.unitDom 3 t
    | none => if s.unitDom 2 (p / 17) = 0 then 0 else 3

/-- STATE of domain `n` while WRST_N is not low (R534, R557; log entry 44). -/
def State.domState (s : State) (n : Nat) : Nat :=
  if n < 64 then
    let l := (domTiles n).map s.physDom
    if l.any (· == 2) then 2 else if l.any (· == 1) then 1 else if l.any (· == 4) then 4 else if l.any (· == 3) then 3 else 0
  else if n < 68 then s.unitDom 2 (n - 64)
  else if n < 88 then (if s.isRetired 4 (n - 68) then 0 else s.unitDom 1 (n - 68))
  else if n < 92 then b2n (s.flag (Fld.FLS_STAT_INSERVICE (n - 88))) * 2
  else 2

/-- The clock of a domain that never changes it, in MHz, fractions dropped (R534). -/
def fixedMhz (n : Nat) : Nat :=
  if n < 68 then 1500 else if n < 88 then 1562 else if n < 92 then 800 else if n < 98 then 1562 else if n = 98 then 1000 else 156

/-- CLK_DOM of domain `n` (R543, R557; log entry 44). -/
def State.clkDom (s : State) (n : Nat) : Word :=
  if s.power.wrst ∧ n < 98 then wordOf [(61, 3, 5)]
  else
    let st := s.domState n
    if st ≠ 2 then wordOf [(61, 3, st)]
    else if n < 64 then
      let pt := (s.domPoint n).getD 0
      let c := powerPoint (s.section_ 0xB) pt
      let lv := ((domTiles n).filterMap s.logicalOf).foldl (fun m t => max m (s.tileLevel t)) 0
      wordOf [(61, 3, st), (45, 16, c.1), (35, 10, c.2), (31, 4, pt), (27, 4, lv)]
    else wordOf [(61, 3, st), (45, 16, fixedMhz n)]

/-- The static address of the management port (R558). -/
def State.statAddr (s : State) : Nat := 0x58 + s.mgmt.straps % 4

/-- A register at offset `o` of the management block (R572). -/
def State.mgtLive (s : State) (o : Nat) (w : Word) : Word :=
  if o = 0x8 then wordOf [(16, 7, s.mgmt.dynAddr), (8, 7, s.statAddr), (2, 1, b2n s.alert), (0, 2, s.mgmt.mode)]
  else if o = 0x48 then
    let i := s.get Fld.MGT_SENSSEL_SENSOR
    wordOf [(48, 16, sget 0 s.power.temps i), (32, 16, sget 0 s.power.tempMax i), (0, 1, b2n (s.sensorOn i))]
  else if o = 0x100 then overlay w [(2, 1, s.get Fld.HIF_MBCTL_M2HFULL), (1, 1, s.get Fld.HIF_MBCTL_H2MFULL)]
  else w

/-- A register at offset `o` of the power block (R555, R601). -/
def State.pwrLive (s : State) (o : Nat) (w : Word) : Word :=
  if o = 0x8 then
    overlay w [(28, 4, if s.halt = .powerWarning then 5 else s.power.phase.num), (12, 4, s.classLevel 3), (8, 4, s.classLevel 2), (4, 4, s.classLevel 1), (0, 4, s.classLevel 0)]
  else if o = 0x40 then wordOf ((numsFrom 0 4).map (fun k => (16 * k, 16, vminKnot k)))
  else if o = 0x48 then wordOf ((numsFrom 0 4).map (fun k => (16 * k, 16, vminKnot (4 + k))))
  else w

/-- The register that begins at BAR0 offset `a` (a physical tile block for a tile), as it reads. -/
def State.peek (s : State) (a : Nat) : Word :=
  let w := match s.home a with
    | some h => s.reg h
    | none => 0
  if 0x800000 ≤ a then s.tileLive ((a - 0x800000) / 0x10000) ((a - 0x800000) % 0x10000) w
  else if 0x400000 ≤ a then s.ringLive ((a - 0x400000) / 64) (a % 64) w
  else if 0x300000 ≤ a then wget (sget [] s.chj ((a - 0x300000) / 64)) (a % 64 / 8)
  else if 0x2C0000 ≤ a then s.updLive ((a - 0x2C0000) / 0x10000) (a % 0x10000) w
  else if 0x280000 ≤ a then s.drvLive ((a - 0x280000) / 0x10000) (a % 0x10000) w
  else if 0x200000 ≤ a then (if a % 0x10000 = 0x38 then overlay w (s.lnkSeq ((a - 0x200000) / 0x10000)) else w)
  else if 0x1A0000 ≤ a then w
  else if 0x140000 ≤ a then s.drmLive ((a - 0x140000) / 0x4000) (a % 0x4000) w
  else if 0x100000 ≤ a then s.tierLive (a - 0x100000) w
  else if 0xF0000 ≤ a then w
  else if 0xD0000 ≤ a then s.hifLive (a - 0xD0000) w
  else if 0xC0000 ≤ a then s.jrnLive (a - 0xC0000) w
  else if 0xB0000 ≤ a then (if a = Reg.DIF_IMPSTAT then overlay w [(62, 2, s.importState)] else w)
  else if 0xA0000 ≤ a then s.winLive (a - 0xA0000) w
  else if 0x80000 ≤ a then w
  else if 0x70000 ≤ a then s.colLive (a - 0x70000) w
  else if 0x60000 ≤ a then
    (if a = Reg.WHL_GRANT then overlay w [(8, 6, maskOf 6 (fun p => s.wheel.heldOpen.contains p)), (0, 6, maskOf 6 s.grantOpen)] else w)
  else if 0x51000 ≤ a then s.clkDom ((a - 0x51000) / 8)
  else if 0x50000 ≤ a then w
  else if 0x40000 ≤ a then s.pwrLive (a - 0x40000) w
  else if 0x30000 ≤ a then s.mgtLive (a - 0x30000) w
  else if 0x100 ≤ a ∧ a < 0x10000 then (s.capWord a).getD 0
  else w

/-! Finding the register of an access (R46 to R48, R560). -/

/-- What stands at a BAR0 offset: nothing, a register that cannot be reached, or a register that begins at an offset (of a physical tile block, for a tile). -/
inductive Place where
  | unassigned
  | unavailable
  | at (start : Nat) (spec : RegSpec)
  deriving DecidableEq, Repr

/-- A 64-bit register every field of which is RO: a word of the capability list or of the change journal. -/
def roWord : RegSpec := ⟨0, 64, 0, 1, [⟨0, 64, .ro, 0⟩]⟩

/-- The register that holds BAR0 offset `a` outside the logical aliases, and where it begins (R45 to R51, R361, R564). -/
def State.listedAt (s : State) (a : Nat) : Option (Nat × RegSpec) :=
  if 0x100 ≤ a ∧ a < 0x10000 then (s.capWord (a / 8 * 8)).map (fun _ => (a / 8 * 8, roWord))
  else if 0x300000 ≤ a ∧ a < 0x340000 then some (a / 8 * 8, roWord)
  else if 0x140000 ≤ a ∧ a < 0x180000 ∧ 0x2000 ≤ a % 0x4000 ∧ a % 0x4000 < 0x2100 then none
  else (regSpecAt a).map (fun x => (x.2, x.1))

/-- Whether the register's domain is off, held in reset or retired (R560; log entry 44). -/
def State.unavailable (s : State) (a : Nat) : Bool :=
  if 0x800000 ≤ a then
    let p := (a - 0x800000) / 0x10000
    s.power.wrst || s.physDom p == 0
  else if 0x280000 ≤ a ∧ a < 0x300000 then s.power.wrst || s.unitDom 2 (if a < 0x2C0000 then (a - 0x280000) / 0x10000 else (a - 0x2C0000) / 0x10000) == 0
  else if 0x200000 ≤ a ∧ a < 0x260000 then s.power.wrst
  else if 0x1A0000 ≤ a ∧ a < 0x1E0000 then s.power.wrst || !s.flag (Fld.FLS_STAT_INSERVICE ((a - 0x1A0000) / 0x10000))
  else if 0x140000 ≤ a ∧ a < 0x190000 then
    let k := (a - 0x140000) / 0x4000
    s.power.wrst || s.isRetired 4 k || s.unitDom 1 k == 0
  else false

/-- What stands at BAR0 offset `a`. -/
def State.place (s : State) (a : Nat) : Place :=
  if 0x1000000 ≤ a then
    let t := (a - 0x1000000) / 0x10000
    let o := (a - 0x1000000) % 0x10000
    if 64 ≤ t then .unassigned
    else match s.listedAt (0x800000 + o) with
      | none => .unassigned
      | some (b, r) =>
        match s.phys t with
        | none => .unavailable
        | some p => if s.unavailable (0x800000 + 0x10000 * p) then .unavailable else .at (b + 0x10000 * p) r
  else match s.listedAt a with
    | none => .unassigned
    | some (b, r) => if s.unavailable b then .unavailable else .at b r

/-! Reading (R17, R48, R49, R562). -/

/-- The RC fields of the register at `a` cleared: every one, or only those that lie wholly within its high half (R17, R49). -/
def State.clearRc (s : State) (a : Nat) (r : RegSpec) (highOnly : Bool) : State :=
  let fs := r.fields.filter (fun f => f.acc == .rc && (!highOnly || decide (32 ≤ f.lo)))
  match s.home a with
  | none => s
  | some h =>
    if fs = [] then s
    else if a = Reg.MGT_SENSVAL then s.pwmod (fun p => { p with tempMax := serase p.tempMax (s.get Fld.MGT_SENSSEL_SENSOR) })
    else s.setReg h (overlay (s.reg h) (fs.map (fun f => (f.lo, f.n, 0))))

/-- An access that reaches no register, counted (R560). -/
def State.unavail (s : State) : State := s.count Fld.MGT_ERR_UNAVAIL 1

/-- A misaligned or wrong-size access captured (R48). -/
def State.accErr (s : State) (a size : Nat) : State :=
  ((s.count Fld.CAP_ACCERR_COUNT 1).set Fld.CAP_ACCERR_KIND (if size = 4 ∨ size = 8 then 1 else 2)).set Fld.CAP_ACCERR_OFFSET (a % 2 ^ 25)

/-- The latch of a master discarded (R49). -/
def State.dropLatch (s : State) (m : Nat) : State := { s with mgmt := { s.mgmt with latches := serase s.mgmt.latches m } }

/-- An aligned read of 4 or 8 bytes that touches one register, by master `m` (0 management, 1 host, 2 remote), after its latch `l` has been taken off: the value and the state left. -/
def State.readOne (s : State) (m : Nat) (l : Option HalfLatch) (a size : Nat) : Nat × State :=
  match s.place a with
  | .unassigned => (0, s)
  | .unavailable => (0, s.unavail)
  | .at b r =>
    let v := (s.peek b).toNat
    if r.width = 64 ∧ size = 4 then
      if a % 8 = 4 then
        match l with
        | some x => if x.reg = b then (x.high, s) else (v / 2 ^ 32, s.clearRc b r true)
        | none => (v / 2 ^ 32, s.clearRc b r true)
      else
        let s := s.clearRc b r false
        (v % 2 ^ 32, { s with mgmt := { s.mgmt with latches := sinsert s.mgmt.latches m ⟨b, v / 2 ^ 32⟩ } })
    else (v, s.clearRc b r false)

/-- Whether a 32-bit register begins at an offset. -/
def State.is32 (s : State) (a : Nat) : Bool :=
  match s.listedAt (if 0x1000000 ≤ a then 0x800000 + (a - 0x1000000) % 0x10000 else a) with
  | some (_, r) => r.width == 32 && decide (a < 0x1400000)
  | none => false

/-- A read of `size` bytes at BAR0 offset `a` by master `m` (R48, R49, R560, R562): the bytes returned and the state left. -/
def State.serialRead (s : State) (m a size : Nat) : List Byte × State :=
  let l := sfind s.mgmt.latches m
  let s := s.dropLatch m
  if (size ≠ 4 ∧ size ≠ 8) ∨ a % size ≠ 0 then (List.replicate size 0xFF, s.accErr a size)
  else if size = 8 ∧ (s.is32 a || s.is32 (a + 4)) then
    let x := s.readOne m none a 4
    let y := (x.2.dropLatch m).readOne m none (a + 4) 4
    (leBytes 4 x.1 ++ leBytes 4 y.1, y.2)
  else
    let x := s.readOne m l a size
    (leBytes size x.1, x.2)

end Sys2Proof.Machine
end

