-- ==== Sys2Proof/Machine/RegWrite.lean ====
section
/-! DEFINITION. The configuration write serializer (R17, R48, R49, R561 to R565, R599): what a write of register space does, the effects that registers have of their own, and the entry it leaves in the change journal. -/

set_option Elab.async false

namespace Sys2Proof.Machine

/-! What a write carries. -/

/-- Whether a field can be set by a write (R17). -/
def Access.writable : Access → Bool
  | .rw => true
  | .w1c => true
  | .w1s => true
  | .wo => true
  | .ro => false
  | .rc => false

/-- The bits of a register's fields whose access code satisfies `p`. -/
def RegSpec.maskOf (r : RegSpec) (p : Access → Bool) : Word :=
  (r.fields.filter (fun f => p f.acc)).foldl (fun (m : Word) f => m ||| mask64 f.lo f.n) 0

/-- The bits of reserved fields and RO fields of a register (R15, R565). -/
def RegSpec.fixedMask (r : RegSpec) : Word := mask64 0 r.width &&& ~~~(r.maskOf (fun a => a != .ro))

/-- The stored value after bits `d` are written to the bits `m` of a register whose stored value is `w` (R17). -/
def RegSpec.after (r : RegSpec) (w m d : Word) : Word :=
  let rw := r.maskOf (· == .rw) &&& m
  let c := r.maskOf (· == .w1c) &&& m &&& d
  let x := r.maskOf (· == .w1s) &&& m &&& d
  ((((w &&& ~~~rw) ||| (d &&& rw)) &&& ~~~c) ||| x)

/-! Registers with effects of their own: the state after the write, and whether the write was ignored, in whole or in part, under a rule of the register's chapter. `v` is the register with the written bits put over what it reads, `m` the bits written. -/

/-- Ranges of the ring assignment in force. -/
def State.ringRanges (s : State) : List RingRange :=
  if s.hasSection 9 then Machine.ringRanges (s.section_ 9) else []

/-- Whether a submission ring pairs with completion ring `c` (R71, R479). -/
def State.pairedRing (s : State) (c : Nat) : Bool :=
  s.ringRanges.any (fun g => g.role == 1 && decide (g.pair ≤ c) && decide (c < g.pair + g.num))

/-- Whether ENABLE 1 of a host ring is ignored (R455). -/
def State.enableBad (s : State) (r : Nat) : Bool :=
  let n := s.get (Fld.RING_CFG_LOG2SIZE r)
  decide (n < 4 ∨ 16 < n) || (s.role r == 1 && (!s.flag (Fld.RING_CTL_ENABLE (s.pairOf r)) || decide (0 < s.uncompleted r)))

/-- Whether ENABLE 0 of a host ring is ignored (R455). -/
def State.disableBad (s : State) (r : Nat) : Bool :=
  s.role r == 2 &&
    (s.enabledRings.any (fun x => s.role x == 1 && s.pairOf x == r) ||
      s.journal.any (fun e => e.2.parent == 0 && s.role e.2.ring == 1 && s.pairOf e.2.ring == r) ||
      s.host.bare.any (fun b => !b.2.isEmpty && s.pairOf b.1 == r))

/-- A host ring enabled: every index is 0 (R455). -/
def State.ringOn (s : State) (r : Nat) : State :=
  let s := (((s.setReg (Reg.RING_PROD r) 0).setReg (Reg.RING_IDX r) 0).setFlag (Fld.RING_CTL_ENABLE r) true).setUnsignalled r 0
  (s.dropFetched r).hmod (fun h => { h with reserveUsed := serase h.reserveUsed r })

/-- A host ring disabled: acceptance and fetching stop at once (R455). -/
def State.ringOff (s : State) (r : Nat) : State := (s.setFlag (Fld.RING_CTL_ENABLE r) false).dropFetched r

/-- The ENABLE of a RING_CTL write (R455). -/
def State.ringEnableWrite (s : State) (r : Nat) (on : Bool) : State × Bool :=
  if s.flag (Fld.RING_CTL_ENABLE r) = on then (s, false)
  else if on then (if s.enableBad r then (s, true) else (s.ringOn r, false))
  else if s.disableBad r then (s, true)
  else (s.ringOff r, false)

/-- CLRERR: the ring leaves the error state, and fetching restarts at ACCEPT (R465). -/
def State.ringClrErr (s : State) (r : Nat) : State :=
  if s.get (Fld.RING_STAT_ERR r) = 0 then s else (s.set (Fld.RING_STAT_ERR r) 0).dropFetched r

/-- A write of RING_CTL of a host ring (R455, R465, R475). -/
def State.ringCtlWrite (s : State) (r : Nat) (v : Word) : State × Bool :=
  let x := s.ringEnableWrite r (bit v 0)
  let s := if bit v 1 then x.1.ringClrErr r else x.1
  (if bit v 2 then s.cancelRing r else s, x.2)

/-- A write at offset `o` of the context of ring `r` (R453, R455, R483). -/
def State.ringWrite (s : State) (r o : Nat) (spec : RegSpec) (m v : Word) : State × Bool :=
  if ¬ s.isHostRing r then (s, true)
  else if o = 0x10 then s.ringCtlWrite r v
  else if (o = 0x0 ∨ o = 0x8) ∧ s.flag (Fld.RING_CTL_ENABLE r) then (s, true)
  else (s.setReg (0x400000 + 64 * r + o) (spec.after (s.reg (0x400000 + 64 * r + o)) m v), false)

/-- A write of DIF_CTL (R487, R493, R495, R496). -/
def State.difCtlWrite (s : State) (v : Word) : State × Bool :=
  let on := s.flag Fld.DIF_CTL_ENABLE
  let want := bit v 0
  let mark := bit v 2
  if want ∧ ¬ on ∧ s.difEnableBad then (s, true)
  else
    let s := s.setFlag Fld.DIF_CTL_OVFL (bit v 1)
    let s := if want ∧ ¬ on then s.difEnable else if ¬ want ∧ on then s.difDisable else s
    if mark then (if want then (s.markDiff 2, false) else (s, true)) else (s, false)

/-- A write of DIF_IMPCTL (R497, R498). -/
def State.impCtlWrite (s : State) (v : Word) : State × Bool :=
  let on := s.flag Fld.DIF_IMPCTL_ENABLE
  let want := bit v 0
  let n := s.get Fld.DIF_IMPCFG_ILOG2
  if want ∧ ¬ on ∧ (n < 20 ∨ 36 < n) then (s, true)
  else
    let s := if want ∧ ¬ on then s.importEnable else if ¬ want ∧ on then s.importDisable else s
    (if bit v 1 ∧ want then s.importResume else s, false)

/-- A write at offset `o` of the difference stream block (R487, R494, R497, R501). -/
def State.difWrite (s : State) (o : Nat) (spec : RegSpec) (m v : Word) : State × Bool :=
  let plain : State := s.setReg (0xB0000 + o) (spec.after (s.reg (0xB0000 + o)) m v)
  if o = 0x0 then s.difCtlWrite v
  else if o = 0x8 ∨ o = 0x10 ∨ o = 0x18 ∨ o = 0x20 then (if s.flag Fld.DIF_CTL_ENABLE then (s, true) else (plain, false))
  else if o = 0x40 then (if v.toNat < s.get Fld.DIF_CONS_POS ∨ s.get Fld.DIF_DELIV_POS < v.toNat then (s, true) else (plain, false))
  else if o = 0x100 then s.impCtlWrite v
  else if o = 0x118 then (plain.importPump, false)
  else if o = 0x128 then (if s.flag Fld.DIF_IMPCTL_ENABLE then (s, true) else (plain, false))
  else (plain, false)

/-- The HOLDDOWN of a LNK_CTL write (R378, R387, R393). -/
def State.lnkHoldWrite (s : State) (p : Nat) (want : Bool) : State :=
  let was := s.flag (Fld.LNK_CTL_HOLDDOWN p)
  let s := s.setFlag (Fld.LNK_CTL_HOLDDOWN p) want
  if want ∧ ¬ was then s.lnkHold p
  else if ¬ want ∧ was ∧ ¬ s.unitDown 4 p then s.startPort p
  else s

/-- A bit of LNK_CTL that starts an action, and whether the action was ignored. -/
def State.lnkAct (s : State) (want : Bool) (f : State → Option State) : State × Bool :=
  if want then
    match f s with
    | some s => (s, false)
    | none => (s, true)
  else (s, false)

/-- A write of LNK_CTL of port `p` (R389, R390, R393, R394). -/
def State.lnkCtlWrite (s : State) (p : Nat) (v : Word) : State × Bool :=
  let s := (s.set (Fld.LNK_CTL_LOOP p) (bits v 6 2)).setFlag (Fld.LNK_CTL_LPALLOW p) (bit v 4)
  let s := s.lnkHoldWrite p (bit v 5)
  let x := s.lnkAct (bit v 1) (fun s => s.lnkRetrain p)
  let y := x.1.lnkAct (bit v 0) (fun s => s.lnkReadmit p)
  (y.1, x.2 || y.2)

/-- A write of WIN_CTL of slot `w` (R402, R403). -/
def State.winCtlWrite (s : State) (w : Nat) (v : Word) : State × Bool :=
  let x : State × Bool := if bit v 1 then
      (match s.winOpen w with
      | some s => (s, s.get (Fld.WIN_CTL_STATE w) != 1)
      | none => (s, true))
    else (s, false)
  if bit v 0 then ((x.1.winClose w).getD x.1, x.2) else x

/-- A write at offset `o` of the window table (R402, R421). -/
def State.winWrite (s : State) (o : Nat) (spec : RegSpec) (m v : Word) : State × Bool :=
  let plain : State := s.setReg (0xA0000 + o) (spec.after (s.reg (0xA0000 + o)) m v)
  if o < 0x2000 then
    if o % 32 = 0x10 then s.winCtlWrite (o / 32) v
    else if s.get (Fld.WIN_CTL_STATE (o / 32)) ≠ 0 then (s, true)
    else (plain, false)
  else (plain, false)

/-- A write of WHL_CTL (R429, R434). -/
def State.whlCtlWrite (s : State) (v : Word) : State × Bool :=
  let was := s.flag Fld.WHL_CTL_NOMARK
  let s := s.setFlag Fld.WHL_CTL_NOMARK (bit v 1)
  let s := if bit v 1 ∧ ¬ was then s.setNomark else s
  (if bit v 0 then s.clearCount else s, false)

/-- A write of HIF_EVTCFG (R482). -/
def State.evtCfgWrite (s : State) (v : Word) : State × Bool :=
  let r := bits v 17 14
  if bit v 31 ∧ (s.role r ≠ 2 ∨ s.pairedRing r) then (s, true)
  else ((s.setFlag Fld.HIF_EVTCFG_VALID (bit v 31)).set Fld.HIF_EVTCFG_RING r, false)

/-- A write of HIF_MBCTL (R481, R482): LEN and VECTOR, then M2HACK and H2MSEND. -/
def State.hifMbWrite (s : State) (v : Word) : State × Bool :=
  let s := (s.set Fld.HIF_MBCTL_VECTOR (bits v 21 11)).set Fld.HIF_MBCTL_LEN (bits v 12 9)
  let s := if bit v 3 then (s.setFlag Fld.HIF_MBCTL_M2HFULL false).set Fld.HIF_MBSTAT_M2HLEN 0 else s
  if bit v 0 then
    match s.h2mSend with
    | some s => (s, false)
    | none => (s, true)
  else (s, false)

/-- A write of MGT_MBCTL (R570, R572): LEN, then H2MACK and M2HSEND. -/
def State.mgtMbWrite (s : State) (v : Word) : State × Bool :=
  let s := s.set Fld.MGT_MBCTL_LEN (bits v 12 9)
  let s := if bit v 3 then s.setFlag Fld.HIF_MBCTL_H2MFULL false else s
  if bit v 0 then
    match s.m2hSend with
    | some s => (s, false)
    | none => (s, true)
  else (s, false)

/-- A vector unmasked sends the message that its pending bit stands for (R478; log entry 45). -/
def State.unmask (s : State) (k : Nat) : State :=
  let w := s.reg (Reg.MSIX_PBA (k / 64))
  if bit w (k % 64) ∧ ¬ bit (s.reg (Reg.MSIX_CTRL k)) 0 then (s.setReg (Reg.MSIX_PBA (k / 64)) (putBits w (k % 64) 1 0)).signal k else s

/-- A write of MGT_CTL, MGT_EVTSUM or MGT_EVTMASK after which an in-band interrupt pends that did not before raises it (R569). -/
def State.alertAfter (s was : State) : State := if was.alert then s else s.raiseIbi

/-- A write of DRV_EXPBIAS: PEND of the selected expert takes the value and is valid (R270). -/
def State.pendWrite (s : State) (d : Nat) (v : Word) : State :=
  let k := s.get (Fld.DRV_SEL_LSLOT d)
  s.setLayer d k ((s.layer d k).modExpert (s.get (Fld.DRV_SEL_EXPERT d)) (fun x => { x with pend := some (BitVec.ofNat 32 (bits v 0 32)) }))

/-- A write of TIER_OPCTL (R330, R331, R343): a reserved OP is ignored. -/
def State.opCtlWrite (s : State) (v : Word) : State × Bool := let op := bits v 0 4; if 6 ≤ op then (s, true) else (s.tierOp op, false)

/-- JRN_PLCLR.CLEAR: the mirror is discarded (R528). -/
def State.clearMirror (s : State) : State :=
  { ((s.set Fld.JRN_MIRROR_REC 0).set Fld.JRN_MIRROR_ENTRIES 0) with mirror := none }

/-- A write of the tile blocks' register at offset `o` from the first: TILE_ARRINJ arms a fault (R143); every other register takes the value, giving `plain`, unless it has no home. -/
def State.tileEffect (s : State) (o : Nat) (d : Word) (plain : State) (homeless : Bool) : State × Bool :=
  if o % 0x10000 = 0x2058 then (s.armInjection (o / 0x10000) d, false) else (plain, homeless)

/-- A write of the register that begins at `a`, by its own rules where it has some. `m` are the bits written and `d` what they carry. -/
def State.regEffect (s : State) (a : Nat) (spec : RegSpec) (m d : Word) : State × Bool :=
  let v := (s.peek a &&& ~~~m) ||| (d &&& m)
  let plain (s : State) : State := match s.home a with
    | some h => s.setReg h (spec.after (s.reg h) m d)
    | none => s
  if 0x800000 ≤ a then s.tileEffect (a - 0x800000) d (plain s) (s.home a).isNone
  else if 0x400000 ≤ a then s.ringWrite ((a - 0x400000) / 64) (a % 64) spec m v
  else if a = Reg.HRN_CTRL then s.hrnWrite (d &&& m)
  else if a = Reg.PWR_CTL then (s.parkWrite (bit v 0), false)
  else if a = Reg.JRN_READMIT then (let x := s.readmitReq (bits d 16 4) (bits d 0 14); (x.1, !x.2))
  else if a = Reg.JRN_PLCLR then (if bit d 0 then s.clearMirror else s, false)
  else if 0xB0000 ≤ a ∧ a < 0xC0000 then s.difWrite (a - 0xB0000) spec m (if a = Reg.DIF_CTL ∨ a = Reg.DIF_IMPCTL then d else v)
  else if 0x200000 ≤ a ∧ a < 0x260000 ∧ a % 0x10000 = 0 then s.lnkCtlWrite ((a - 0x200000) / 0x10000) d
  else if 0xA0000 ≤ a ∧ a < 0xB0000 then s.winWrite (a - 0xA0000) spec m (if a % 32 = 0x10 ∧ a < 0xA2000 ∨ a = Reg.WIN_STAT then d else v)
  else if a = Reg.WHL_CTL then s.whlCtlWrite d
  else if a = Reg.HIF_CANCEL then
    (match s.cancelJseq (d &&& m).toNat with
    | some s => (s, false)
    | none => (s, true))
  else if a = Reg.HIF_EVTCFG then s.evtCfgWrite d
  else if a = Reg.HIF_MBCTL then s.hifMbWrite d
  else if a = Reg.MGT_MBCTL then s.mgtMbWrite d
  else if a = Reg.TIER_OPCTL then s.opCtlWrite d
  else if 0x280000 ≤ a ∧ a < 0x2C0000 ∧ a % 0x10000 = 0x50 then (if m &&& 0xFFFFFFFF ≠ 0 then s.pendWrite ((a - 0x280000) / 0x10000) v else s, false)
  else if 0xF0000 ≤ a ∧ a < 0xF8000 ∧ a % 16 = 12 then ((plain s).unmask ((a - 0xF0000) / 16), false)
  else if a = Reg.MGT_CTL ∨ a = Reg.MGT_EVTSUM ∨ a = Reg.MGT_EVTMASK then ((plain s).alertAfter s, false)
  else (plain s, false)

/-! The serializer. -/

/-- SRC and SRCID of a change-journal entry, and the unit and JSEQ of a device edit (R565, R599). -/
def srcFields : RegSrc → Nat × Nat × Nat × Nat × Nat
  | .device cls idx j => (0, 0, j, cls, idx)
  | .mgmt a => (1, a, 0, 0, 0)
  | .host rid => (2, rid, 0, 0, 0)
  | .remote h => (3, h, 0, 0, 0)

/-- The master of a writer: its read latch is discarded by its writes too (R49). -/
def srcMaster : RegSrc → Option Nat
  | .device _ _ _ => none
  | .mgmt _ => some 0
  | .host _ => some 1
  | .remote _ => some 2

/-- The entry of one serialized write (R565). -/
def changeOf (src : RegSrc) (a outcome : Nat) (w64 : Bool) (old new data : Word) : Change :=
  let f := srcFields src
  ⟨f.1, f.2.1, a, outcome, w64, old, new, data, f.2.2.1, f.2.2.2.1, f.2.2.2.2⟩

/-- OUTCOME of a write that reached a register (R565): 0x1 where the register has no field a write can set, 0x3 where a rule ignored it, 0x2 where it carried a bit for a reserved or RO field that differs from what the field reads. -/
def writeOutcome (spec : RegSpec) (old m d : Word) (ignored : Bool) : Nat :=
  if !spec.fields.any (fun f => f.acc.writable) then 1
  else if ignored then 3
  else if (old ^^^ d) &&& m &&& spec.fixedMask ≠ 0 then 2
  else 0

/-- One aligned write of 4 or 8 bytes that touches one register, applied and journalled (R561, R565). -/
def State.writeOne (s : State) (src : RegSrc) (a size : Nat) (data : Word) : State :=
  let w64 := size == 8
  match s.place a with
  | .unassigned => s.record_ (changeOf src a 6 w64 0 0 data)
  | .unavailable => s.unavail.record_ (changeOf src a 5 w64 0 0 data)
  | .at b spec =>
    let sh := if spec.width = 64 ∧ size = 4 ∧ a % 8 = 4 then 32 else 0
    let n := if size = 4 then 32 else spec.width
    let m := mask64 sh n
    let d := (data <<< sh) &&& m
    let old := s.peek b
    let x := if spec.fields.any (fun f => f.acc.writable) then s.regEffect b spec m d else (s, false)
    x.1.record_ (changeOf src a (writeOutcome spec old m d x.2) w64 (BitVec.ofNat 64 (bits old sh n)) (BitVec.ofNat 64 (bits (x.1.peek b) sh n)) data)

/-- A write of `size` bytes at BAR0 offset `a` passes the serializer (R48, R49, R561). -/
def State.serialWrite (s : State) (src : RegSrc) (a size : Nat) (data : Word) : State :=
  let s := match srcMaster src with
    | some m => s.dropLatch m
    | none => s
  if (size ≠ 4 ∧ size ≠ 8) ∨ a % size ≠ 0 then (s.accErr a size).record_ (changeOf src a 4 (size == 8) 0 0 data)
  else if size = 8 ∧ (s.is32 a || s.is32 (a + 4)) then
    (s.writeOne src a 4 (data &&& 0xFFFFFFFF)).writeOne src (a + 4) 4 (data >>> 32)
  else s.writeOne src a size (if size = 4 then data &&& 0xFFFFFFFF else data)

/-- Words of a register-target window written by a remote package, one 64-bit write each (R404). -/
def State.remoteWrite (s : State) (off : Nat) (w : Word) (src : Nat) : State := s.serialWrite (.remote src) off 8 w

/-- A write passed to the serializer; nothing is applied while PORST_N is low (R552). -/
def State.write (s : State) (src : RegSrc) (a size : Nat) (data : Word) : State := if s.power.porst then s else s.serialWrite src a size data

/-- A 32-bit write of a register. -/
def State.write32 (s : State) (src : RegSrc) (a : Nat) (v : BitVec 32) : State := s.write src a 4 (BitVec.ofNat 64 v.toNat)

/-- A 32-bit value with the field of `n` bits at `lo` set to `v`. -/
def withField (w : BitVec 32) (lo n v : Nat) : BitVec 32 := BitVec.ofNat 32 (putBits (BitVec.ofNat 64 w.toNat) lo n v).toNat

end Sys2Proof.Machine
end

