-- ==== Sys2Proof/Machine/HostReads.lean ====
section
/-! DEFINITION. The ends of device-initiated host reads (R476, R477), by what each was for, and the PCIe link's return (R449, R452). -/

set_option Elab.async false

namespace Sys2Proof.Machine

/-- Reads that had to wait tried again: the loader's staging, a FILL's, and the import's (R81, R331, R477, R497). -/
def State.pump (s : State) : State := s.stageMore.pumpFill.importPump

/-- Data of a read taken by what asked for it. -/
def State.readData (s : State) (r : RdReq) (bs : List Byte) : State :=
  match r.kind with
  | .fetch ring start n _ => s.fetchData ring start n bs
  | .hcopy j off _ => s.copyData j off bs
  | .load j u n => s.hostLoaded j u n bs
  | .flush j => s.flushEnd j .ok
  | .stage off n => s.stageData off n bs
  | .fill fr _ _ => s.fillData fr bs
  | .importChunk pos _ => s.importData pos bs

/-- A LOAD of far kind 0x3 one of whose reads has failed (R204, R476). -/
def State.loadReadFailed (s : State) (j : Nat) (st : Status) : State :=
  if s.cmdIs j (fun e => e.isStream && e.st == .dispatched && e.fin.isNone) then s.finish j st 0 0 else s

/-- A failed read ends the request that made it, with TIMEOUT or MEM_ERROR (R476); an entry fetch follows R465 instead. -/
def State.readFailed (s : State) (r : RdReq) (timedOut : Bool) : State :=
  let st : Status := if timedOut then .timeout else .memError
  match r.kind with
  | .fetch ring start n fails => s.fetchFailed ring start n fails (if timedOut then 1 else 2)
  | .hcopy j off _ => s.copyFailed j off st
  | .load j _ _ => s.loadReadFailed j st
  | .flush j => s.flushEnd j st
  | .stage off n => s.stageFailed off n
  | .fill fr _ _ => s.fillFailed fr
  | .importChunk pos _ => s.importFailed pos

/-- READ_COMPLETION: a completion for tag `tag` (R476, R477). One whose data has not the length asked for is no completion of the read; one for a quarantined tag is late. -/
def execReadCompletion (tag : Nat) (status : CplStatus) (data : List Byte) (s : State) : Host.Outcome State Fault Refusal :=
  if ¬ s.flag Fld.HIF_STAT_LINKUP ∨ s.power.porst then .next s
  else match sfind s.host.reads tag with
    | none => if nmem s.host.quarantined tag then .next (s.count Fld.HIF_LATE_COUNT 1) else .next s
    | some r =>
      match status with
      | .data => if data.length ≠ r.len then .next s else .next ((s.endRead tag).readData r data).pump
      | .unsupported => .next ((s.endRead tag).readFailed r false).pump
      | .abort => .next ((s.endRead tag).readFailed r false).pump
      | .poisoned => .next ((s.endRead tag).readFailed r false).pump

/-- READ_TIMEOUT: HIF_RDTMO has passed for tag `tag`: the read fails, and its tag is quarantined (R476, R477). -/
def execReadTimeout (tag : Nat) (s : State) : Host.Outcome State Fault Refusal :=
  match sfind s.host.reads tag with
  | none => .next s
  | some r => .next ((s.quarantine tag).readFailed r true).pump

/-- TAG_QUARANTINE_END: the tag is free for reuse (R477). -/
def execTagQuarantineEnd (tag : Nat) (s : State) : Host.Outcome State Fault Refusal :=
  .next (s.hmod (fun h => { h with quarantined := ndel h.quarantined tag })).pump

/-- PCIE_LINK_UP: the link has trained; what R452 held is released as far as it can be. -/
def execPcieLinkUp (speed : PcieSpeed) (width tagBits : Nat) (s : State) : Host.Outcome State Fault Refusal :=
  if s.flag Fld.HIF_STAT_LINKUP ∨ s.power.porst then .next s
  else
    let flit := speedCode speed == 6
    let s := (((s.set Fld.HIF_STAT_SPEED (speedCode speed)).set Fld.HIF_STAT_WIDTH (widthCode width)).setFlag Fld.HIF_STAT_FLIT flit).setFlag Fld.HIF_STAT_LINKUP true
    .next ((s.hmod (fun h => { h with tagBits := tagWidth flit tagBits })).capChange).release.pump

/-- D3HOT: a write of configuration space sets Bus Master Enable and the power state (R452). -/
def execD3hot (busMaster d3 : Bool) (s : State) : Host.Outcome State Fault Refusal :=
  if ¬ s.flag Fld.HIF_STAT_LINKUP then .next s
  else .next ((s.setFlag Fld.HIF_STAT_BME busMaster).setFlag Fld.HIF_STAT_D3 d3).release.pump

end Sys2Proof.Machine
end

