-- ==== Sys2Proof/Machine/RegRows.lean ====
section
/-! DEFINITION. The commands that are writes of one register (the rows of the table named after a register's field or value): each passes the serializer of R561 like every other write. Where a row names a bit or an action code, the value written carries it. -/

set_option Elab.async false

namespace Sys2Proof.Machine

/-- RING_ENABLE: a write of RING_CTL (R455). -/
def execRingEnable (src : RegSrc) (ring : Nat) (value : BitVec 32) (s : State) : Host.Outcome State Fault Refusal := if 16384 ≤ ring then .next s else .next (s.write32 src (Reg.RING_CTL ring) value)

/-- CANCEL: a write of RING_CTL with CANCEL 1 (R475). -/
def execCancel (src : RegSrc) (ring : Nat) (value : BitVec 32) (s : State) : Host.Outcome State Fault Refusal := if 16384 ≤ ring then .next s else .next (s.write32 src (Reg.RING_CTL ring) (withField value 2 1 1))

/-- CLRERR: a write of RING_CTL with CLRERR 1 (R465). -/
def execClrErr (src : RegSrc) (ring : Nat) (value : BitVec 32) (s : State) : Host.Outcome State Fault Refusal := if 16384 ≤ ring then .next s else .next (s.write32 src (Reg.RING_CTL ring) (withField value 1 1 1))

/-- HIF_CANCEL: a JSEQ written to HIF_CANCEL (R475). -/
def execHifCancel (src : RegSrc) (jseq : Word) (s : State) : Host.Outcome State Fault Refusal := .next (s.write src Reg.HIF_CANCEL 8 jseq)

/-- H2MSEND: a write of HIF_MBCTL with H2MSEND 1 (R481). -/
def execH2mSend (src : RegSrc) (value : BitVec 32) (s : State) : Host.Outcome State Fault Refusal := .next (s.write32 src Reg.HIF_MBCTL (withField value 0 1 1))

/-- M2HACK: a write of HIF_MBCTL with M2HACK 1 (R481). -/
def execM2hAck (src : RegSrc) (value : BitVec 32) (s : State) : Host.Outcome State Fault Refusal := .next (s.write32 src Reg.HIF_MBCTL (withField value 3 1 1))

/-- M2HSEND: a write of MGT_MBCTL with M2HSEND 1 (R570). -/
def execM2hSend (src : RegSrc) (value : BitVec 32) (s : State) : Host.Outcome State Fault Refusal := .next (s.write32 src Reg.MGT_MBCTL (withField value 0 1 1))

/-- H2MACK: a write of MGT_MBCTL with H2MACK 1 (R570). -/
def execH2mAck (src : RegSrc) (value : BitVec 32) (s : State) : Host.Outcome State Fault Refusal := .next (s.write32 src Reg.MGT_MBCTL (withField value 3 1 1))

/-- TILE_ARRINJ: a write that arms or disarms a fault of physical tile `phys` (R143). -/
def execTileArrInj (src : RegSrc) (phys : Nat) (value : BitVec 32) (s : State) : Host.Outcome State Fault Refusal := if 68 ≤ phys then .next s else .next (s.write32 src (Reg.TILE_ARRINJ phys) value)

/-- PEND: a write of DRV_EXPBIAS.PEND (R264, R270). -/
def execPend (src : RegSrc) (cluster : Nat) (value : BitVec 32) (s : State) : Host.Outcome State Fault Refusal := if 4 ≤ cluster then .next s else .next (s.write32 src (Reg.DRV_EXPBIAS cluster) value)

/-- TIER_FLUSH: OP 0x1 written to TIER_OPCTL (R331). -/
def execTierFlush (src : RegSrc) (value : BitVec 32) (s : State) : Host.Outcome State Fault Refusal := .next (s.write32 src Reg.TIER_OPCTL (withField value 0 4 1))

/-- TIER_EVICT: OP 0x2 written to TIER_OPCTL (R331). -/
def execTierEvict (src : RegSrc) (value : BitVec 32) (s : State) : Host.Outcome State Fault Refusal := .next (s.write32 src Reg.TIER_OPCTL (withField value 0 4 2))

/-- TIER_INVALIDATE: OP 0x3 written to TIER_OPCTL (R331). -/
def execTierInvalidate (src : RegSrc) (value : BitVec 32) (s : State) : Host.Outcome State Fault Refusal := .next (s.write32 src Reg.TIER_OPCTL (withField value 0 4 3))

/-- TIER_FILL: OP 0x4 written to TIER_OPCTL (R331). -/
def execTierFill (src : RegSrc) (value : BitVec 32) (s : State) : Host.Outcome State Fault Refusal := .next (s.write32 src Reg.TIER_OPCTL (withField value 0 4 4))

/-- TIER_ABORT: OP 0x5 written to TIER_OPCTL (R331). -/
def execTierAbort (src : RegSrc) (value : BitVec 32) (s : State) : Host.Outcome State Fault Refusal := .next (s.write32 src Reg.TIER_OPCTL (withField value 0 4 5))

/-- RETRAIN: a write of LNK_CTL with RETRAIN 1 (R379, R393). -/
def execRetrain (src : RegSrc) (port : Nat) (value : BitVec 32) (s : State) : Host.Outcome State Fault Refusal := if 6 ≤ port then .next s else .next (s.write32 src (Reg.LNK_CTL port) (withField value 1 1 1))

/-- READMIT: a write of LNK_CTL with READMIT 1 (R389). -/
def execReadmit (src : RegSrc) (port : Nat) (value : BitVec 32) (s : State) : Host.Outcome State Fault Refusal := if 6 ≤ port then .next s else .next (s.write32 src (Reg.LNK_CTL port) (withField value 0 1 1))

/-- HOLDDOWN: a write of LNK_CTL (R387, R393). -/
def execHolddown (src : RegSrc) (port : Nat) (value : BitVec 32) (s : State) : Host.Outcome State Fault Refusal := if 6 ≤ port then .next s else .next (s.write32 src (Reg.LNK_CTL port) value)

/-- OPEN: a write of WIN_CTL with OPEN 1 (R402). -/
def execWinOpen (src : RegSrc) (slot : Nat) (value : BitVec 32) (s : State) : Host.Outcome State Fault Refusal := if 256 ≤ slot then .next s else .next (s.write32 src (Reg.WIN_CTL slot) (withField value 1 1 1))

/-- CLOSE: a write of WIN_CTL with CLOSE 1 (R403). -/
def execWinClose (src : RegSrc) (slot : Nat) (value : BitVec 32) (s : State) : Host.Outcome State Fault Refusal := if 256 ≤ slot then .next s else .next (s.write32 src (Reg.WIN_CTL slot) (withField value 0 1 1))

/-- CLRCOUNT: a write of WHL_CTL with CLRCOUNT 1 (R434). -/
def execClrcount (src : RegSrc) (value : BitVec 32) (s : State) : Host.Outcome State Fault Refusal := .next (s.write32 src Reg.WHL_CTL (withField value 0 1 1))

/-- FULL_LOAD: ACTION 0x1 written to HRN_CTRL (R78, R88). -/
def execFullLoad (src : RegSrc) (value : BitVec 32) (s : State) : Host.Outcome State Fault Refusal := .next (s.write32 src Reg.HRN_CTRL (withField value 0 4 1))

/-- PARTIAL_LOAD: ACTION 0x2 written to HRN_CTRL (R83, R88). -/
def execPartialLoad (src : RegSrc) (value : BitVec 32) (s : State) : Host.Outcome State Fault Refusal := .next (s.write32 src Reg.HRN_CTRL (withField value 0 4 2))

/-- STORE: ACTION 0x3 written to HRN_CTRL (R80, R88). -/
def execStoreAction (src : RegSrc) (value : BitVec 32) (s : State) : Host.Outcome State Fault Refusal := .next (s.write32 src Reg.HRN_CTRL (withField value 0 4 3))

/-- ERASE: ACTION 0x6 written to HRN_CTRL (R88). -/
def execErase (src : RegSrc) (value : BitVec 32) (s : State) : Host.Outcome State Fault Refusal := .next (s.write32 src Reg.HRN_CTRL (withField value 0 4 6))

/-- ABORT: ACTION 0x4 written to HRN_CTRL (R88). -/
def execAbort (src : RegSrc) (value : BitVec 32) (s : State) : Host.Outcome State Fault Refusal := .next (s.write32 src Reg.HRN_CTRL (withField value 0 4 4))

/-- HERD_CHECK: ACTION 0x5 written to HRN_CTRL, or the check of the ports that have left training (R87, R88). -/
def execHerdCheck (req : HerdReq) (s : State) : Host.Outcome State Fault Refusal :=
  match req with
  | .request src value => .next (s.write32 src Reg.HRN_CTRL (withField value 0 4 5))
  | .proceed => .next s.herdTry

/-- PARK: a write of PWR_CTL (R546, R547). -/
def execPark (src : RegSrc) (value : BitVec 32) (s : State) : Host.Outcome State Fault Refusal := .next (s.write32 src Reg.PWR_CTL value)

/-- JRN_READMIT: a write of JRN_READMIT (R529, R531). -/
def execJrnReadmit (src : RegSrc) (value : BitVec 32) (s : State) : Host.Outcome State Fault Refusal := .next (s.write32 src Reg.JRN_READMIT value)

/-- JRN_PLCLR: a write of JRN_PLCLR with CLEAR 1 (R528). -/
def execJrnPlclr (src : RegSrc) (value : BitVec 32) (s : State) : Host.Outcome State Fault Refusal := .next (s.write32 src Reg.JRN_PLCLR (withField value 0 1 1))

/-- DIF_ENABLE: a write of DIF_CTL (R487, R495). -/
def execDifEnable (src : RegSrc) (value : BitVec 32) (s : State) : Host.Outcome State Fault Refusal := .next (s.write32 src Reg.DIF_CTL value)

/-- BASE_MARK: a write of DIF_CTL with MARK 1 (R496). -/
def execBaseMark (src : RegSrc) (value : BitVec 32) (s : State) : Host.Outcome State Fault Refusal := .next (s.write32 src Reg.DIF_CTL (withField value 2 1 1))

/-- DIF_CONS: a write of DIF_CONS (R494). -/
def execDifCons (src : RegSrc) (value : Word) (s : State) : Host.Outcome State Fault Refusal := .next (s.write src Reg.DIF_CONS 8 value)

/-- IMPORT_ENABLE: a write of DIF_IMPCTL (R497). -/
def execImportEnable (src : RegSrc) (value : BitVec 32) (s : State) : Host.Outcome State Fault Refusal := .next (s.write32 src Reg.DIF_IMPCTL value)

/-- IMPORT_RESUME: a write of DIF_IMPCTL with RESUME 1 (R498). -/
def execImportResume (src : RegSrc) (value : BitVec 32) (s : State) : Host.Outcome State Fault Refusal := .next (s.write32 src Reg.DIF_IMPCTL (withField value 1 1 1))

/-- REGISTER_WRITE: a write of `size` bytes at a BAR0 offset (R48, R49, R561). -/
def execRegisterWrite (src : RegSrc) (offset size : Nat) (data : Word) (s : State) : Host.Outcome State Fault Refusal := .next (s.write src offset size data)

/-- WRITE: the oldest WRITE message that can be acted on arrives at its window (R404, R407); `bad` are granules that a merge finds uncorrectable. -/
def execWrite (bad : List Nat) (s : State) : Host.Outcome State Fault Refusal := if s.live then .next (s.recvWrite State.remoteWrite bad) else .next s

end Sys2Proof.Machine
end

