-- ==== Sys2Proof/Machine/Mgmt.lean ====
section
/-! DEFINITION. The management port (R558, R559, R569) and the test access port (R571). -/

set_option Elab.async false

namespace Sys2Proof.Machine

/-- The port's own state changed. -/
def State.mgmod (s : State) (f : MgmtState → MgmtState) : State := { s with mgmt := f s.mgmt }

/-- The mode selected by the first transaction after PORST_N is released; it holds until the next cold reset (R558, R55). -/
def State.selectMode (s : State) (m : Nat) : State := if s.mgmt.mode = 0 then (s.mgmod (fun g => { g with mode := m })).capChange else s

/-- Whether a transaction to an address is the package's: the static address under SMBus, the dynamic address under I3C (R558). -/
def State.addressed (s : State) (a : Nat) : Bool :=
  if s.mgmt.mode = 2 then a == s.statAddr else if s.mgmt.mode = 1 then s.mgmt.dynAddr != 0 && a == s.mgmt.dynAddr else false

/-- A transaction to an address: the mode is selected by one to the static address (R558). -/
def State.mgmtStart (s : State) (a : Nat) : State := if a = s.statAddr then s.selectMode 2 else s

/-- A transaction refused: counted in the field of MGT_ERR that names the reason (R559). -/
inductive MgmtEnd where
  | served
  | refused (f : Fld)
  deriving DecidableEq, Repr

/-- How the port takes a transaction of R559 that is its own. Under SMBus a write needs a PEC that matches, one without PEC passes while MGT_CTL.PECREQ is 0; under I3C a byte with a parity error ends it. -/
def State.mgmtCheck (s : State) (check : MgmtCheck) (offset : Nat) (write : Bool) : MgmtEnd :=
  let opcode : Bool := check == .reservedOpcode || decide (0x2000000 ≤ offset)
  if s.mgmt.mode = 1 ∧ check = .parityBad then .refused Fld.MGT_ERR_PARITY
  else if opcode then .refused Fld.MGT_ERR_OPCODE
  else if s.mgmt.mode = 2 ∧ write ∧ (check = .pecBad ∨ (check = .pecAbsent ∧ s.flag Fld.MGT_CTL_PECREQ)) then .refused Fld.MGT_ERR_PEC
  else .served

/-- The bytes a read returned, kept for its master. -/
def keepReply (r : List Byte × State) : State := r.2.mgmod (fun g => { g with reply := r.1 })

/-- A read of `size` bytes by a management transaction, or by the host (R48, R559). -/
def State.mgmtRead (s : State) (reader : ReadBy) (offset size : Nat) : State :=
  if s.power.porst then s
  else match reader with
    | .host => keepReply (s.serialRead 1 offset size)
    | .mgmt a check =>
      let s := s.mgmtStart a
      if ¬ s.addressed a then s
      else match s.mgmtCheck check offset false with
        | .refused f => s.count f 1
        | .served => keepReply (s.serialRead 0 offset size)

/-- A write of `size` bytes by a management transaction (R559). -/
def State.mgmtWrite (s : State) (a : Nat) (check : MgmtCheck) (offset size : Nat) (data : Word) : State :=
  if s.power.porst then s
  else
    let s := s.mgmtStart a
    if ¬ s.addressed a then s
    else match s.mgmtCheck check offset true with
      | .refused f => s.count f 1
      | .served => s.serialWrite (.mgmt a) offset size data

/-- READ32 (R559). -/
def execRead32 (reader : ReadBy) (offset : Nat) (s : State) : Host.Outcome State Fault Refusal := .next (s.mgmtRead reader offset 4)

/-- READ64 (R559). -/
def execRead64 (reader : ReadBy) (offset : Nat) (s : State) : Host.Outcome State Fault Refusal := .next (s.mgmtRead reader offset 8)

/-- WRITE32 (R559). -/
def execWrite32 (addr : Nat) (check : MgmtCheck) (offset : Nat) (data : BitVec 32) (s : State) : Host.Outcome State Fault Refusal :=
  .next (s.mgmtWrite addr check offset 4 (BitVec.ofNat 64 data.toNat))

/-- WRITE64 (R559). -/
def execWrite64 (addr : Nat) (check : MgmtCheck) (offset : Nat) (data : Word) (s : State) : Host.Outcome State Fault Refusal :=
  .next (s.mgmtWrite addr check offset 8 data)

/-- CCC: an I3C common command code selects I3C as the first transaction; SETDASA to the static address and ENTDAA give the dynamic address (R558). -/
def execCcc (kind : CccKind) (s : State) : Host.Outcome State Fault Refusal :=
  if s.power.porst then .next s
  else
    let s := s.selectMode 1
    if s.mgmt.mode ≠ 1 then .next s
    else match kind with
      | .setdasa stat dyn => if stat = s.statAddr ∧ s.mgmt.dynAddr = 0 then .next (s.mgmod (fun g => { g with dynAddr := dyn % 128 })) else .next s
      | .entdaa dyn => if s.mgmt.dynAddr = 0 then .next (s.mgmod (fun g => { g with dynAddr := dyn % 128 })) else .next s
      | .other => .next s

/-- ALERT_RESPONSE: while MALERT_N is asserted the package answers an alert response with its address (R569; log entry 46). -/
def execAlertResponse (s : State) : Host.Outcome State Fault Refusal :=
  if s.power.porst ∨ s.mgmt.mode ≠ 2 ∨ ¬ s.alert then .next s else .next (s.mgmod (fun g => { g with reply := [BitVec.ofNat 8 (2 * s.statAddr)] }))

/-! The test access port (R571). It runs whenever VAON is in range, PORST_N low or not; the boundary register's cells are the pins', which the model does not hold (log entry 47). -/

/-- The IDCODE (R571). -/
def idcode : Nat := 0xB * 2 ^ 28 + 0x1216 * 2 ^ 12 + Config.jedecId.toNat * 2 + 1

/-- An instruction loaded: one that acts on the pins takes effect only while PORST_N is low, and is BYPASS otherwise; nothing is loaded while TRST_N is low. -/
def State.tapLoad (s : State) (i : TapInstr) (pins : Bool) : State :=
  if s.mgmt.trst then s
  else s.mgmod (fun g => { g with tap := if pins && !s.power.porst then .bypass else i, tdo := if i = .idcode then idcode else 0 })

/-- BYPASS. -/
def execBypass (s : State) : Host.Outcome State Fault Refusal := .next (s.tapLoad .bypass false)

/-- IDCODE: the identification word is shifted out. -/
def execIdcode (s : State) : Host.Outcome State Fault Refusal := .next (s.tapLoad .idcode false)

/-- SAMPLE/PRELOAD. -/
def execSamplePreload (s : State) : Host.Outcome State Fault Refusal := .next (s.tapLoad .samplePreload false)

/-- EXTEST. -/
def execExtest (s : State) : Host.Outcome State Fault Refusal := .next (s.tapLoad .extest true)

/-- EXTEST_PULSE. -/
def execExtestPulse (s : State) : Host.Outcome State Fault Refusal := .next (s.tapLoad .extestPulse true)

/-- EXTEST_TRAIN. -/
def execExtestTrain (s : State) : Host.Outcome State Fault Refusal := .next (s.tapLoad .extestTrain true)

/-- CLAMP. -/
def execClamp (s : State) : Host.Outcome State Fault Refusal := .next (s.tapLoad .clamp true)

/-- HIGHZ. -/
def execHighz (s : State) : Host.Outcome State Fault Refusal := .next (s.tapLoad .highz true)

/-- TRST_N: low holds the port in reset with IDCODE in force; its release lets the port run (log entry 47). -/
def execTrstN (low : Bool) (s : State) : Host.Outcome State Fault Refusal :=
  if low then .next (s.mgmod (fun g => { g with trst := true, tap := .idcode, tdo := 0 })) else .next (s.mgmod (fun g => { g with trst := false }))

end Sys2Proof.Machine
end

