-- ==== Sys2Proof/Machine/Dispatch.lean ====
section
/-! DEFINITION. One arm per command: the meaning it calls (the queue itself is the business of Step.lean). -/

namespace Sys2Proof.Machine

/-- The effect of a command on everything but the queue. -/
def exec (i : Instr) (s : State) : Host.Outcome State Fault Refusal :=
  match i with
  | .doorbell page offset size data => Sys2Proof.Machine.execDoorbell page offset size data s
  | .fetch => Sys2Proof.Machine.execFetch s
  | .readCompletion tag status data => Sys2Proof.Machine.execReadCompletion tag status data s
  | .readTimeout tag => Sys2Proof.Machine.execReadTimeout tag s
  | .lateCompletion tag => Sys2Proof.Machine.execLateCompletion tag s
  | .tagQuarantineEnd tag => Sys2Proof.Machine.execTagQuarantineEnd tag s
  | .ringError ring => Sys2Proof.Machine.execRingError ring s
  | .acceptance ring => Sys2Proof.Machine.execAcceptance ring s
  | .ringEnable src ring value => Sys2Proof.Machine.execRingEnable src ring value s
  | .cancel src ring value => Sys2Proof.Machine.execCancel src ring value s
  | .hifCancel src jseq => Sys2Proof.Machine.execHifCancel src jseq s
  | .clrErr src ring value => Sys2Proof.Machine.execClrErr src ring value s
  | .nop jseq => Sys2Proof.Machine.execNop jseq s
  | .forward ring => Sys2Proof.Machine.execForward ring s
  | .writeInline jseq => Sys2Proof.Machine.execWriteInline jseq s
  | .hcopyIn jseq => Sys2Proof.Machine.execHcopyIn jseq s
  | .hcopyOut jseq => Sys2Proof.Machine.execHcopyOut jseq s
  | .fence jseq => Sys2Proof.Machine.execFence jseq s
  | .flush jseq => Sys2Proof.Machine.execFlush jseq s
  | .completion ring => Sys2Proof.Machine.execCompletion ring s
  | .holdoff ring => Sys2Proof.Machine.execHoldoff ring s
  | .h2mSend src value => Sys2Proof.Machine.execH2mSend src value s
  | .m2hAck src value => Sys2Proof.Machine.execM2hAck src value s
  | .m2hSend src value => Sys2Proof.Machine.execM2hSend src value s
  | .h2mAck src value => Sys2Proof.Machine.execH2mAck src value s
  | .perst => Sys2Proof.Machine.execPerst s
  | .d3hot busMaster d3 => Sys2Proof.Machine.execD3hot busMaster d3 s
  | .tileDispatch tile => Sys2Proof.Machine.execTileDispatch tile s
  | .array jseq obs => Sys2Proof.Machine.execArray jseq obs s
  | .reForming tile => Sys2Proof.Machine.execReForming tile s
  | .expertPass jseq arr elt => Sys2Proof.Machine.execExpertPass jseq arr elt s
  | .eltConvert jseq obs => Sys2Proof.Machine.execEltConvert jseq obs s
  | .eltAdd jseq obs => Sys2Proof.Machine.execEltAdd jseq obs s
  | .eltMul jseq obs => Sys2Proof.Machine.execEltMul jseq obs s
  | .eltFma jseq obs => Sys2Proof.Machine.execEltFma jseq obs s
  | .eltMax jseq obs => Sys2Proof.Machine.execEltMax jseq obs s
  | .eltMin jseq obs => Sys2Proof.Machine.execEltMin jseq obs s
  | .eltCurve jseq obs => Sys2Proof.Machine.execEltCurve jseq obs s
  | .eltReduce jseq obs => Sys2Proof.Machine.execEltReduce jseq obs s
  | .rmsNorm jseq obs => Sys2Proof.Machine.execRmsNorm jseq obs s
  | .layerNorm jseq obs => Sys2Proof.Machine.execLayerNorm jseq obs s
  | .softmax jseq obs => Sys2Proof.Machine.execSoftmax jseq obs s
  | .attnOnline jseq obs => Sys2Proof.Machine.execAttnOnline jseq obs s
  | .attnFinal jseq obs => Sys2Proof.Machine.execAttnFinal jseq obs s
  | .resid jseq obs => Sys2Proof.Machine.execResid jseq obs s
  | .matvec jseq arr elt => Sys2Proof.Machine.execMatvec jseq arr elt s
  | .tileArrInj src phys value => Sys2Proof.Machine.execTileArrInj src phys value s
  | .scrub phys obs => Sys2Proof.Machine.execScrub phys obs s
  | .controlNop jseq => Sys2Proof.Machine.execControlNop jseq s
  | .markSet jseq => Sys2Proof.Machine.execMarkSet jseq s
  | .creditSet jseq => Sys2Proof.Machine.execCreditSet jseq s
  | .controlFence jseq => Sys2Proof.Machine.execControlFence jseq s
  | .load jseq obs => Sys2Proof.Machine.execLoad jseq obs s
  | .store jseq obs => Sys2Proof.Machine.execStore jseq obs s
  | .accum jseq obs => Sys2Proof.Machine.execAccum jseq obs s
  | .prefetch jseq obs => Sys2Proof.Machine.execPrefetch jseq obs s
  | .receive jseq => Sys2Proof.Machine.execReceive jseq s
  | .segmentDelivered jseq => Sys2Proof.Machine.execSegmentDelivered jseq s
  | .halt jseq => Sys2Proof.Machine.execHalt jseq s
  | .streamResume tile => Sys2Proof.Machine.execStreamResume tile s
  | .creditWatchdog tile => Sys2Proof.Machine.execCreditWatchdog tile s
  | .routeJob jseq => Sys2Proof.Machine.execRouteJob jseq s
  | .passFill jseq pass => Sys2Proof.Machine.execPassFill jseq pass s
  | .scatter jseq pass seg => Sys2Proof.Machine.execScatter jseq pass seg s
  | .combine jseq => Sys2Proof.Machine.execCombine jseq s
  | .stepClose cluster slot => Sys2Proof.Machine.execStepClose cluster slot s
  | .pend src cluster value => Sys2Proof.Machine.execPend src cluster value s
  | .segmentCommit jseq => Sys2Proof.Machine.execSegmentCommit jseq s
  | .accumulateOnWrite jseq => Sys2Proof.Machine.execAccumulateOnWrite jseq s
  | .voteSeal jseq => Sys2Proof.Machine.execVoteSeal jseq s
  | .vote entry => Sys2Proof.Machine.execVote entry s
  | .voteDecision entry => Sys2Proof.Machine.execVoteDecision entry s
  | .contrib => Sys2Proof.Machine.execContrib s
  | .verdict => Sys2Proof.Machine.execVerdict s
  | .verdictReq => Sys2Proof.Machine.execVerdictReq s
  | .verdictReqRepeat => Sys2Proof.Machine.execVerdictReqRepeat s
  | .collectiveReduce jseq => Sys2Proof.Machine.execCollectiveReduce jseq s
  | .rcontrib => Sys2Proof.Machine.execRcontrib s
  | .rresult => Sys2Proof.Machine.execRresult s
  | .reduceTimeout jseq => Sys2Proof.Machine.execReduceTimeout jseq s
  | .sweep jseq => Sys2Proof.Machine.execSweep jseq s
  | .prep jseq => Sys2Proof.Machine.execPrep jseq s
  | .commitGroup jseq => Sys2Proof.Machine.execCommitGroup jseq s
  | .sweepCopy jseq => Sys2Proof.Machine.execSweepCopy jseq s
  | .final jseq => Sys2Proof.Machine.execFinal jseq s
  | .promotion slot => Sys2Proof.Machine.execPromotion slot s
  | .promotionFailed slot => Sys2Proof.Machine.execPromotionFailed slot s
  | .flashReadTimeout slot => Sys2Proof.Machine.execFlashReadTimeout slot s
  | .lateFlashData tag => Sys2Proof.Machine.execLateFlashData tag s
  | .flashTagQuarantine tag => Sys2Proof.Machine.execFlashTagQuarantine tag s
  | .writeBack slot wear => Sys2Proof.Machine.execWriteBack slot wear s
  | .cleaning => Sys2Proof.Machine.execCleaning s
  | .tierFlush src value => Sys2Proof.Machine.execTierFlush src value s
  | .tierEvict src value => Sys2Proof.Machine.execTierEvict src value s
  | .tierInvalidate src value => Sys2Proof.Machine.execTierInvalidate src value s
  | .tierFill src value => Sys2Proof.Machine.execTierFill src value s
  | .tierAbort src value => Sys2Proof.Machine.execTierAbort src value s
  | .patrolScrub stack obs => Sys2Proof.Machine.execPatrolScrub stack obs s
  | .pchRetired pch bad => Sys2Proof.Machine.execPchRetired pch bad s
  | .chunkCopy pch bad => Sys2Proof.Machine.execChunkCopy pch bad s
  | .copyBack pch => Sys2Proof.Machine.execCopyBack pch s
  | .stackRetired stack bad => Sys2Proof.Machine.execStackRetired stack bad s
  | .flashStackRetired stack => Sys2Proof.Machine.execFlashStackRetired stack s
  | .set0 jseq obs => Sys2Proof.Machine.execSet0 jseq obs s
  | .set1 jseq obs => Sys2Proof.Machine.execSet1 jseq obs s
  | .rowCopy jseq obs => Sys2Proof.Machine.execRowCopy jseq obs s
  | .rowNot jseq obs => Sys2Proof.Machine.execRowNot jseq obs s
  | .rowAnd jseq obs => Sys2Proof.Machine.execRowAnd jseq obs s
  | .rowOr jseq obs => Sys2Proof.Machine.execRowOr jseq obs s
  | .rowXor jseq obs => Sys2Proof.Machine.execRowXor jseq obs s
  | .rowAndn jseq obs => Sys2Proof.Machine.execRowAndn jseq obs s
  | .rowMaj jseq obs => Sys2Proof.Machine.execRowMaj jseq obs s
  | .rowSeal jseq obs => Sys2Proof.Machine.execRowSeal jseq obs s
  | .rowUnseal jseq => Sys2Proof.Machine.execRowUnseal jseq s
  | .data port flit => Sys2Proof.Machine.execData port flit s
  | .idle port flit => Sys2Proof.Machine.execIdle port flit s
  | .ident port flit => Sys2Proof.Machine.execIdent port flit s
  | .pmEnter port flit => Sys2Proof.Machine.execPmEnter port flit s
  | .pmAck port flit => Sys2Proof.Machine.execPmAck port flit s
  | .pmWake port flit => Sys2Proof.Machine.execPmWake port flit s
  | .echoReq port flit => Sys2Proof.Machine.execEchoReq port flit s
  | .echoRsp port flit rtt => Sys2Proof.Machine.execEchoRsp port flit rtt s
  | .wheelpos port flit => Sys2Proof.Machine.execWheelpos port flit s
  | .wheelposInstant => Sys2Proof.Machine.execWheelposInstant s
  | .down port flit => Sys2Proof.Machine.execDown port flit s
  | .replayTimeout port => Sys2Proof.Machine.execReplayTimeout port s
  | .fastRetrain port => Sys2Proof.Machine.execFastRetrain port s
  | .pmd port => Sys2Proof.Machine.execPmd port s
  | .lock port locked => Sys2Proof.Machine.execLock port locked s
  | .attemptTimeout port => Sys2Proof.Machine.execAttemptTimeout port s
  | .gapS port => Sys2Proof.Machine.execGapS port s
  | .flitSilence port => Sys2Proof.Machine.execFlitSilence port s
  | .noSignal port => Sys2Proof.Machine.execNoSignal port s
  | .laneRetired port lane symbols => Sys2Proof.Machine.execLaneRetired port lane symbols s
  | .portRetired port => Sys2Proof.Machine.execPortRetired port s
  | .retrain src port value => Sys2Proof.Machine.execRetrain src port value s
  | .readmit src port value => Sys2Proof.Machine.execReadmit src port value s
  | .holddown src port value => Sys2Proof.Machine.execHolddown src port value s
  | .selftest port passed => Sys2Proof.Machine.execSelftest port passed s
  | .write bad => Sys2Proof.Machine.execWrite bad s
  | .readReq bad => Sys2Proof.Machine.execReadReq bad s
  | .readData => Sys2Proof.Machine.execReadData s
  | .ack => Sys2Proof.Machine.execAck s
  | .refuse => Sys2Proof.Machine.execRefuse s
  | .winOpen src slot value => Sys2Proof.Machine.execWinOpen src slot value s
  | .winClose src slot value => Sys2Proof.Machine.execWinClose src slot value s
  | .resend dst slot => Sys2Proof.Machine.execResend dst slot s
  | .remoteReadTimeout rtag => Sys2Proof.Machine.execRemoteReadTimeout rtag s
  | .rtagQuarantine rtag => Sys2Proof.Machine.execRtagQuarantine rtag s
  | .wheelMark high => Sys2Proof.Machine.execWheelMark high s
  | .stuck => Sys2Proof.Machine.execStuck s
  | .revolutionBoundary => Sys2Proof.Machine.execRevolutionBoundary s
  | .referenceLoss => Sys2Proof.Machine.execReferenceLoss s
  | .referenceRestore => Sys2Proof.Machine.execReferenceRestore s
  | .disciplined => Sys2Proof.Machine.execDisciplined s
  | .grant entry => Sys2Proof.Machine.execGrant entry s
  | .grantClose port => Sys2Proof.Machine.execGrantClose port s
  | .mark entry => Sys2Proof.Machine.execMark entry s
  | .clrcount src value => Sys2Proof.Machine.execClrcount src value s
  | .fullLoad src value => Sys2Proof.Machine.execFullLoad src value s
  | .partialLoad src value => Sys2Proof.Machine.execPartialLoad src value s
  | .storeAction src value => Sys2Proof.Machine.execStoreAction src value s
  | .erase src value => Sys2Proof.Machine.execErase src value s
  | .abort src value => Sys2Proof.Machine.execAbort src value s
  | .herdCheck req => Sys2Proof.Machine.execHerdCheck req s
  | .verifying readable => Sys2Proof.Machine.execVerifying readable s
  | .harnessApply => Sys2Proof.Machine.execHarnessApply s
  | .prldTimeout => Sys2Proof.Machine.execPrldTimeout s
  | .autoload => Sys2Proof.Machine.execAutoload s
  | .startOrder => Sys2Proof.Machine.execStartOrder s
  | .porstN low straps => Sys2Proof.Machine.execPorstN low straps s
  | .wrstN glitch => Sys2Proof.Machine.execWrstN glitch s
  | .resumption => Sys2Proof.Machine.execResumption s
  | .pwrWarnN => Sys2Proof.Machine.execPwrWarnN s
  | .thermN sensor temp => Sys2Proof.Machine.execThermN sensor temp s
  | .railFault rail => Sys2Proof.Machine.execRailFault rail s
  | .powerCap obs => Sys2Proof.Machine.execPowerCap obs s
  | .park src value => Sys2Proof.Machine.execPark src value s
  | .parkEntry => Sys2Proof.Machine.execParkEntry s
  | .parkExit => Sys2Proof.Machine.execParkExit s
  | .tileRetired phys bad => Sys2Proof.Machine.execTileRetired phys bad s
  | .unitRetired unit => Sys2Proof.Machine.execUnitRetired unit s
  | .ringRetired ring => Sys2Proof.Machine.execRingRetired ring s
  | .fatal cause => Sys2Proof.Machine.execFatal cause s
  | .jrnReadmit src value => Sys2Proof.Machine.execJrnReadmit src value s
  | .selfTest cls idx pass => Sys2Proof.Machine.execSelfTest cls idx pass s
  | .jrnPlclr src value => Sys2Proof.Machine.execJrnPlclr src value s
  | .difEnable src value => Sys2Proof.Machine.execDifEnable src value s
  | .baseMark src value => Sys2Proof.Machine.execBaseMark src value s
  | .delivery => Sys2Proof.Machine.execDelivery s
  | .difCons src value => Sys2Proof.Machine.execDifCons src value s
  | .importEnable src value => Sys2Proof.Machine.execImportEnable src value s
  | .importNext => Sys2Proof.Machine.execImportNext s
  | .importResume src value => Sys2Proof.Machine.execImportResume src value s
  | .read32 reader offset => Sys2Proof.Machine.execRead32 reader offset s
  | .read64 reader offset => Sys2Proof.Machine.execRead64 reader offset s
  | .write32 addr check offset data => Sys2Proof.Machine.execWrite32 addr check offset data s
  | .write64 addr check offset data => Sys2Proof.Machine.execWrite64 addr check offset data s
  | .registerWrite src offset size data => Sys2Proof.Machine.execRegisterWrite src offset size data s
  | .bypass => Sys2Proof.Machine.execBypass s
  | .idcode => Sys2Proof.Machine.execIdcode s
  | .samplePreload => Sys2Proof.Machine.execSamplePreload s
  | .extest => Sys2Proof.Machine.execExtest s
  | .extestPulse => Sys2Proof.Machine.execExtestPulse s
  | .extestTrain => Sys2Proof.Machine.execExtestTrain s
  | .clamp => Sys2Proof.Machine.execClamp s
  | .highz => Sys2Proof.Machine.execHighz s
  | .flitSlot port repeats => Sys2Proof.Machine.execFlitSlot port repeats s
  | .pcieLinkUp speed width tagBits => Sys2Proof.Machine.execPcieLinkUp speed width tagBits s
  | .msiXEnable => Sys2Proof.Machine.execMsiXEnable s
  | .unitStarted cls idx => Sys2Proof.Machine.execUnitStarted cls idx s
  | .pauseEnd => Sys2Proof.Machine.execPauseEnd s
  | .evacuation frame unreadable wear => Sys2Proof.Machine.execEvacuation frame unreadable wear s
  | .fillProgrammed wear => Sys2Proof.Machine.execFillProgrammed wear s
  | .ccc kind => Sys2Proof.Machine.execCcc kind s
  | .alertResponse => Sys2Proof.Machine.execAlertResponse s
  | .trstN low => Sys2Proof.Machine.execTrstN low s

end Sys2Proof.Machine
end

