-- ==== Sys2Proof/Safety.lean ====
section
/-! DEFINITION. What counts as a well-kept state: the forms that make equal contents equal data, and that every step keeps. -/

namespace Sys2Proof.Machine

/-- The canonical form of the register table: offsets strictly rising, and no entry equal to its register's Reset value. -/
def Regs.wf (l : SMap Word) : Bool := srises l && l.all (fun e => e.2 != regReset e.1)

/-- Memory, registers, poison records and the journal are in their canonical forms (log entries 1 to 3). -/
def State.Canonical (s : State) : Prop := Memory.wf s.mem = true ∧ Regs.wf s.regs = true ∧ nrises s.poison = true ∧ srises s.journal = true

/-- Whether an outcome is a next state that satisfies `p`. -/
def Answers (o : Host.Outcome State Fault Refusal) (p : State → Prop) : Prop := ∃ t, o = .next t ∧ p t

/-- The parts of the state beside the queue, one for each field. -/
inductive Part where
  | freeCount | regs | mem | poison | journal | tileMap | host | mgmt | chj | halt | image | sections | acceptStop | holdFrom | dissolved | tier | retired | retireTimes | arrInj | lastDisp | resv | herdValid | wheel | net | streams | applying | drover | sweep | diff | load | power | readmit | mirror
  deriving DecidableEq, Repr

/-- A part's number: its place in the state's list of fields. -/
def Part.num : Part → Nat
  | .freeCount => 0
  | .regs => 1
  | .mem => 2
  | .poison => 3
  | .journal => 4
  | .tileMap => 5
  | .host => 6
  | .mgmt => 7
  | .chj => 8
  | .halt => 9
  | .image => 10
  | .sections => 11
  | .acceptStop => 12
  | .holdFrom => 13
  | .dissolved => 14
  | .tier => 15
  | .retired => 16
  | .retireTimes => 17
  | .arrInj => 18
  | .lastDisp => 19
  | .resv => 20
  | .herdValid => 21
  | .wheel => 22
  | .net => 23
  | .streams => 24
  | .applying => 25
  | .drover => 26
  | .sweep => 27
  | .diff => 28
  | .load => 29
  | .power => 30
  | .readmit => 31
  | .mirror => 32

/-- A part is in `t` what it is in `s`. -/
def SamePart (p : Part) (s t : State) : Prop :=
  match p with
  | .freeCount => t.freeCount = s.freeCount
  | .regs => t.regs = s.regs
  | .mem => t.mem = s.mem
  | .poison => t.poison = s.poison
  | .journal => t.journal = s.journal
  | .tileMap => t.tileMap = s.tileMap
  | .host => t.host = s.host
  | .mgmt => t.mgmt = s.mgmt
  | .chj => t.chj = s.chj
  | .halt => t.halt = s.halt
  | .image => t.image = s.image
  | .sections => t.sections = s.sections
  | .acceptStop => t.acceptStop = s.acceptStop
  | .holdFrom => t.holdFrom = s.holdFrom
  | .dissolved => t.dissolved = s.dissolved
  | .tier => t.tier = s.tier
  | .retired => t.retired = s.retired
  | .retireTimes => t.retireTimes = s.retireTimes
  | .arrInj => t.arrInj = s.arrInj
  | .lastDisp => t.lastDisp = s.lastDisp
  | .resv => t.resv = s.resv
  | .herdValid => t.herdValid = s.herdValid
  | .wheel => t.wheel = s.wheel
  | .net => t.net = s.net
  | .streams => t.streams = s.streams
  | .applying => t.applying = s.applying
  | .drover => t.drover = s.drover
  | .sweep => t.sweep = s.sweep
  | .diff => t.diff = s.diff
  | .load => t.load = s.load
  | .power => t.power = s.power
  | .readmit => t.readmit = s.readmit
  | .mirror => t.mirror = s.mirror

/-- Every part of `t` but those listed is what it is in `s`. -/
def SameBut (l : List Part) (s t : State) : Prop := ∀ p, p ∉ l → SamePart p s t

/-- Every register of `t` but those listed holds what it holds in `s`. -/
def RegsBut (l : List Nat) (s t : State) : Prop := ∀ a, a ∉ l → t.reg a = s.reg a

/-- Every byte of memory outside [a, a + n) reads in `t` what it reads in `s`. -/
def BytesBut (a n : Nat) (s t : State) : Prop := ∀ x, x < a ∨ a + n ≤ x → t.rb x = s.rb x

/-- Command `j` has ended in `t` with a status and a result, and stays in the journal for its commit or its completion. -/
def State.Ended (t : State) (j : Nat) (st : Status) (r0 r1 : Word) : Prop :=
  ∃ e, t.cmd j = some e ∧ e.fin = some st.num ∧ e.res0 = r0 ∧ e.res1 = r1

/-- Command `j` has committed in `t` with a status and a result, and its signals have been applied. -/
def State.Committed (t : State) (j : Nat) (st : Status) (r0 r1 : Word) : Prop :=
  ∃ e, t.cmd j = some e ∧ e.st = .committed ∧ e.fin = some st.num ∧ e.status = st.num ∧ e.settled = true ∧ e.res0 = r0 ∧ e.res1 = r1

/-- Command `j` of the host is entry `e`, accepted for a target and neither refused, dispatched nor ended, and nothing holds its dispatch: no FENCE, no partial reload, no wait slot. -/
structure State.Ready (s : State) (j : Nat) (e : JEntry) : Prop where
  entry : s.cmd j = some e
  source : e.parent = 0
  state : e.st = .accepted
  accepted : e.refusal = none
  unended : e.fin = none
  open_ : s.gate j e = true
  clean : s.waitPoisoned e = false
  waits : s.waitsOk e = true

/-- Bytes [a, a + n) of the device address space lie in plain memory that serves an access, from memory key `k` on: DRAM in place, or a mapped tile's scratchpad. -/
def State.Plain (s : State) (a n k : Nat) : Prop :=
  ((regionOf a = .dramA ∨ regionOf a = .dramB) ∧ s.dramRange a n = .served ∧ k = a) ∨
  (regionOf a = .scratch ∧ ∃ p, s.phys (slotTile a).1 = some p ∧ k = spKey p (slotTile a).2)

/-- Command `j` is entry `e`, dispatched to physical tile `p` and running there. -/
structure State.Runs (s : State) (j : Nat) (e : JEntry) (p : Nat) : Prop where
  entry : s.cmd j = some e
  tile : s.phys e.tile = some p
  onTile : e.onTile = true
  state : e.st = .dispatched
  unended : e.fin = none
  live : s.live = true
  up : s.targetUp e = true

/-- Command `j`, which ran on a tile, has ended in `t` with a status: an instance of a route job may have been reported and have left the journal. -/
def State.RanTo (t : State) (j : Nat) (st : Status) : Prop := ∀ e, t.cmd j = some e → e.fin = some st.num

/-- The rows of commit block `b` of a command on physical tile `p`, computed from the state before the block, put into the scratchpad. -/
def State.commitRows (p : Nat) (ws : List Word) (row : State → Nat → RowOut) (s : State) (b : Nat × Nat × Nat) : State :=
  ((numsFrom b.2.1 (b.2.2 - b.2.1)).map (row s)).foldl (fun (s : State) o => s.putRow p (tTid ws) (tCurve ws) o) s

/-- The rows of commit block `b` of an array command, at each member of the array. -/
def State.commitMembers (pl : Nat) (ws : List Word) (ms : List Member) (s : State) (b : Nat × Nat × Nat) : State :=
  (ms.map (fun m => (m.p, (numsFrom b.2.1 (b.2.2 - b.2.1)).map (s.arrayRow pl m.p ws m.runs)))).foldl
    (fun (s : State) x => x.2.foldl (fun (s : State) o => s.putRow x.1 (tTid ws) 0 o) s) s

/-- A running element command of operation `op` meets no error and reads no poison, and none of its blocks has committed. -/
def CleanElement (s : State) (j : Nat) (e : JEntry) (p op : Nat) (obs : EltObs) : Prop :=
  s.Runs j e p ∧ s.Canonical ∧ e.kind = 3 ∧ e.op = op ∧ e.blocks = [] ∧ obs.faults = [] ∧ obs.ecc = ⟨[], []⟩ ∧
    ∀ b ∈ commitBlocks (tEc e.words == 1) e.rowCount, s.spPoisoned p (s.eltReads e.words op b.2.1 b.2.2) = false

/-- An element command commits, block after block, the rows that `row` gives. -/
def CommitsRows (o : Host.Outcome State Fault Refusal) (s : State) (j : Nat) (e : JEntry) (p : Nat) (row : State → Nat → RowOut) : Prop :=
  Answers o fun t => t.RanTo j .ok ∧ ∀ x, t.rb x = ((commitBlocks (tEc e.words == 1) e.rowCount).foldl (State.commitRows p e.words row) s).rb x

/-- Row `i` of operand 0, decoded (R149). -/
def inputRow (p : Nat) (ws : List Word) (n : Nat) (x : State) (i : Nat) : List F32 := (x.readRow p (x.fmt (opN ws 0).row) (opN ws 0) n i).euValues (x.fmt (opN ws 0).row)

/-- Row `i` of a flexible operand, decoded (R149). -/
def flexRow (p : Nat) (ws : List Word) (k n : Nat) (x : State) (i : Nat) : List F32 := x.readFlex p (x.fmt (opN ws k).row) (opN ws k) n i

/-- Row 0 of a vector operand, decoded (R155). -/
def vectorRow (p : Nat) (ws : List Word) (k n : Nat) (x : State) : List F32 := (x.readRow p (x.fmt (opN ws k).row) (opN ws k) n 0).euValues (x.fmt (opN ws k).row)

/-- FP32 values encoded into row `i` of the output operand (R98 to R107, R149). -/
def encoded (p : Nat) (ws : List Word) (n : Nat) (x : State) (i : Nat) (ys : List F32) : RowOut := (opN ws 2).put (x.fmt (opN ws 2).row) (x.rowKey p ws n i) i ys

/-- A run of a stream's channel that meets no memory error. -/
def StreamObs.none : StreamObs := ⟨⟨[], []⟩, ⟨[], []⟩⟩

/-- Atom `q` of a stream brought to its local rows in physical tile `p`, with its scale where it has one: the far bytes lie from key `k q`, the scale at `ks q`. -/
def State.loadOne (p : Nat) (ws : List Word) (k ks : Nat → Nat) (s : State) (q : Nat) : State :=
  let t := s.wbs (spKey p (sLocalAt ws (posRow ws q) (posAtom ws q))) (s.rbs (k q) (sFarAtomBytes ws))
  if sScaled ws then t.wbs (spKey p (sLocalScaleAt ws (posRow ws q) (posAtom ws q))) (s.rbs (ks q) 1) else t

/-- Atom `q` of a stream's local rows in physical tile `p` brought to the far side, with its scale where it has one. -/
def State.storeOne (p : Nat) (ws : List Word) (k ks : Nat → Nat) (s : State) (q : Nat) : State :=
  let t := s.wbs (k q) (s.rbs (spKey p (sLocalAt ws (posRow ws q) (posAtom ws q))) (sAtomBytes ws))
  if sScaled ws then t.wbs (ks q) (t.rbs (spKey p (sLocalScaleAt ws (posRow ws q) (posAtom ws q))) 1) else t

/-- A read at BAR0 offset `a` is served: the host's, whose latched halves are kept under 1, or one on the management bus in its chosen protocol, to an address the package answers and with its checks good, kept under 0. -/
def State.Served (s : State) (who : ReadBy) (m a : Nat) : Prop :=
  match who with
  | .host => m = 1
  | .mgmt addr check => m = 0 ∧ s.mgmt.mode ≠ 0 ∧ s.addressed addr = true ∧ s.mgmtCheck check a false = .served

/-- Bytes [a, a + n) of the device address space lie in plain memory from key `k` on, and none is poisoned. -/
def State.Clean (s : State) (a n k : Nat) : Prop := s.Plain a n k ∧ s.poisonedIn k n = false

/-- Byte strings written in order at memory keys. -/
def State.wbsAll (s : State) (l : List (Nat × List Byte)) : State := l.foldl (fun (s : State) w => s.wbs w.1 w.2) s

/-- Field `f`, a saturating counter, goes one up from `s` to `t`. -/
def State.Up (s t : State) (f : Fld) : Prop := t.get f = min (2 ^ f.n - 1) (s.get f + 1)

/-- From `s` to `t` the flits of message `m`, sent by command `j` (0 for none), join port `p`'s queue of its class (R397, R399). -/
def State.Queued (s t : State) (p : Nat) (m : Msg) (j : Nat) : Prop :=
  (t.port p).queueOf m.vc = (s.port p).queueOf m.vc ++ m.flits.map (fun f => ⟨m.vc, f.1, f.2, true, none, j⟩)

/-- A message from this package under the next tag, with its collective words. -/
def State.newMsg (s : State) (dst mtype : Nat) (ws : List Word) : Msg := { (Msg.blank dst s.herdAddr mtype) with tag := s.net.nextTag, extra := ws }

/-- Ranges of DRAM that serve reads in place and hold no poison. -/
def State.CleanAll (s : State) (l : List (Nat × Nat)) : Prop := ∀ x ∈ l, s.Clean x.1 x.2 x.1

/-- Job `j` is SWEEP command `e` with record `r`, dispatched, sent by the host and unfinished, on a sequencer in service. -/
structure State.Sweeping (s : State) (j : Nat) (e : JEntry) (r : SweepRun) : Prop where
  entry : s.cmd j = some e
  record : sfind s.sweep.jobs j = some r
  state : e.st = .dispatched
  source : e.parent = 0
  offTile : e.onTile = false
  accepted : e.refusal = none
  unended : e.fin = none
  live : s.live = true
  up : s.targetUp e = true
  on : s.sequencerOn r.seq = true

/-- No job of sequencer `d` is at work, and every layer slot has closed `step` (R292). -/
def State.MaySweep (s : State) (d step : Nat) : Prop :=
  s.allClosed step = true ∧ (s.seqJobs d).any (fun r => r.2.st == .sweep || r.2.st == .restore) = false

/-- Row command `j` is entry `e` of operation `op`, dispatched and unfinished, and its next wide rows are served and hold no poison. -/
structure State.RowStepping (s : State) (j : Nat) (e : JEntry) (op : Nat) : Prop where
  entry : s.cmd j = some e
  source : e.parent = 0
  target : e.target = .rowEngines
  code : rowOp e.words = op
  state : e.st = .dispatched
  accepted : e.refusal = none
  unended : e.fin = none
  live : s.live = true
  held : s.rowHeld = false
  lost : s.rowLost = false
  served : ∀ a ∈ rowDst e.words :: rowSrcs e.words, s.dramRange (a + e.segs * wideRow) wideRow = .served
  clean : ∀ a ∈ rowSrcs e.words, s.poisonedIn (a + e.segs * wideRow) wideRow = false

/-- A row command's step writes `out` to its destination row and nothing else, and counts its ones; the last step ends the command. -/
def RowStepDone (o : Host.Outcome State Fault Refusal) (s : State) (j : Nat) (e : JEntry) (out : Nat → Byte) : Prop :=
  Answers o fun t =>
    let d := rowDst e.words + e.segs * wideRow
    let r0 := e.res0 + BitVec.ofNat 64 (onesOf ((numsFrom 0 wideRow).map out))
    let r1 := rowResult (e.segs + 1) (bits e.res1 16 16)
    (∀ b, b < wideRow → t.rb (d + b) = out b) ∧ BytesBut d wideRow s t ∧
    (e.segs + 1 < rowCount e.words → ∃ e', t.cmd j = some e' ∧ e'.segs = e.segs + 1 ∧ e'.res0 = r0 ∧ e'.res1 = r1 ∧ e'.fin = none) ∧
    (rowCount e.words ≤ e.segs + 1 → t.Committed j .ok r0 r1)

/-- Byte `b` of the next wide row of source `k` of a row command. -/
def State.source (s : State) (e : JEntry) (k b : Nat) : Byte := s.rb (udaField e.words (5 + k) + e.segs * wideRow + b)

/-- A run of a row command that meets no memory error and no mismatch. -/
def RowObs.none : RowObs := ⟨[], [], 0, 0⟩

/-- A flit that port `p`, in service, takes: it passes every check and belongs to the session (R368). -/
def State.Takes (s : State) (p : Nat) (f : Flit) : Prop :=
  p < 6 ∧ (s.lnkState p = lnkUp ∨ s.lnkState p = lnkLow) ∧ flitBroken f = false ∧ bits f.link 0 8 = s.get (Fld.LNK_SESSION_SESSION p) % 256

/-- A CONTROL flit that port `p`, in service, takes, with `m` as its only message (R369). -/
def State.TakesMsg (s : State) (p : Nat) (f : Flit) (m : List Word) : Prop := s.Takes p f ∧ flitType f = 2 ∧ flitMessages f = [m]

/-- What a port's flit carries: its type, its class, its sequence number, its exchange word and its payload, filled up with zeros and covered by FCRC (R366, R367). -/
def Carries (f : Flit) (ftype vc seq : Nat) (exch : Word) (payload : List Byte) : Prop :=
  flitType f = ftype ∧ bits f.link 36 2 = vc ∧ bits f.link 52 12 = seq ∧ f.exch = exch ∧
    f.payload = payload ++ List.replicate (232 - payload.length) 0 ∧ f.fcrc = fcrcOf f.link f.exch f.payload

/-- Port `p` trains in phase `ph`. -/
def State.Trains (s : State) (p ph : Nat) : Prop := s.lnkState p = lnkTraining ∧ s.get (Fld.LNK_STAT_PHASE p) = ph

/-- The parts of the state that a command may change. -/
def footprint : Instr → List Part
  | .doorbell .. | .lateCompletion .. | .reForming .. | .lateFlashData .. | .fastRetrain .. | .pmd .. | .disciplined =>
    [.regs]
  | .fetch =>
    [.host]
  | .readCompletion .. | .readTimeout .. =>
    [.regs, .mem, .poison, .journal, .host, .mgmt, .acceptStop, .holdFrom, .tier, .resv, .net, .streams, .drover, .sweep, .diff, .load]
  | .tagQuarantineEnd .. =>
    [.host, .diff, .load]
  | .ringError .. =>
    [.regs, .host, .mgmt]
  | .acceptance .. | .forward .. =>
    [.regs, .journal, .host, .tier, .resv, .net, .drover, .sweep, .power]
  | .ringEnable .. | .cancel .. | .hifCancel .. | .clrErr .. | .h2mSend .. | .m2hAck .. | .m2hSend .. | .h2mAck .. | .tileArrInj .. | .pend .. | .tierFlush ..
  | .tierEvict .. | .tierInvalidate .. | .tierFill .. | .tierAbort .. | .retrain .. | .readmit .. | .holddown .. | .write .. | .winOpen .. | .winClose .. | .clrcount ..
  | .fullLoad .. | .partialLoad .. | .storeAction .. | .erase .. | .abort .. | .herdCheck .. | .park .. | .jrnReadmit .. | .jrnPlclr .. | .difEnable .. | .baseMark ..
  | .difCons .. | .importEnable .. | .importResume .. | .write32 .. | .write64 .. | .registerWrite .. =>
    [.regs, .mem, .poison, .journal, .host, .mgmt, .chj, .acceptStop, .holdFrom, .tier, .arrInj, .resv, .herdValid, .wheel, .net, .streams, .drover, .sweep, .diff, .load, .power, .readmit, .mirror]
  | .nop .. | .hcopyOut .. | .fence .. | .flush .. | .controlNop .. | .markSet .. | .creditSet .. | .controlFence .. | .segmentDelivered .. | .promotionFailed ..
  | .flashReadTimeout .. | .rowUnseal .. =>
    [.regs, .journal, .host, .mgmt, .tier, .resv, .streams, .drover]
  | .writeInline .. | .hcopyIn .. | .eltConvert .. | .eltAdd .. | .eltMul .. | .eltFma .. | .eltMax .. | .eltMin .. | .eltCurve .. | .eltReduce .. | .rmsNorm ..
  | .layerNorm .. | .softmax .. | .attnOnline .. | .attnFinal .. | .resid .. | .receive .. | .combine .. | .promotion .. | .set0 .. | .set1 .. | .rowCopy .. | .rowNot ..
  | .rowAnd .. | .rowOr .. | .rowXor .. | .rowAndn .. | .rowMaj .. =>
    [.regs, .mem, .poison, .journal, .host, .mgmt, .tier, .resv, .streams, .drover]
  | .completion .. =>
    [.regs, .journal, .host, .resv, .drover, .sweep]
  | .holdoff .. | .perst | .msiXEnable =>
    [.regs, .host]
  | .d3hot .. | .pcieLinkUp .. =>
    [.regs, .host, .diff, .load]
  | .tileDispatch .. =>
    [.regs, .journal, .host, .mgmt, .tier, .lastDisp, .resv, .net, .streams, .drover]
  | .array .. | .expertPass .. | .matvec .. =>
    [.freeCount, .regs, .mem, .poison, .journal, .host, .mgmt, .tier, .arrInj, .resv, .streams, .drover]
  | .scrub .. | .patrolScrub .. =>
    [.regs, .poison]
  | .load .. | .store .. | .collectiveReduce .. | .rresult =>
    [.regs, .mem, .poison, .journal, .host, .mgmt, .tier, .resv, .net, .streams, .drover]
  | .accum .. | .prefetch .. | .rowSeal .. =>
    [.regs, .poison, .journal, .host, .mgmt, .tier, .resv, .streams, .drover]
  | .halt .. =>
    [.regs, .journal, .streams]
  | .streamResume .. =>
    [.journal, .resv, .streams]
  | .creditWatchdog .. =>
    [.regs, .journal, .host, .mgmt, .resv, .streams]
  | .routeJob .. =>
    [.freeCount, .regs, .mem, .poison, .journal, .host, .mgmt, .tier, .resv, .streams, .drover]
  | .passFill .. | .scatter .. =>
    [.regs, .mem, .poison, .journal, .host, .mgmt, .tier, .resv, .drover]
  | .stepClose .. =>
    [.regs, .mem, .poison, .host, .mgmt, .tier, .drover]
  | .segmentCommit .. =>
    [.regs, .journal, .host, .mgmt, .tier, .resv, .net, .streams, .applying, .drover]
  | .accumulateOnWrite .. =>
    [.regs, .mem, .poison, .applying]
  | .voteSeal .. | .verdict | .reduceTimeout .. | .refuse | .resend .. | .remoteReadTimeout .. =>
    [.regs, .journal, .host, .mgmt, .tier, .resv, .net, .streams, .drover]
  | .vote .. | .pauseEnd =>
    [.regs, .wheel, .net]
  | .voteDecision .. =>
    [.freeCount, .regs, .journal, .host, .mgmt, .tier, .resv, .wheel, .net, .streams, .drover]
  | .contrib | .rcontrib =>
    [.regs, .net]
  | .verdictReq | .verdictReqRepeat | .wheelposInstant | .ack | .rtagQuarantine .. =>
    [.net]
  | .sweep .. | .prep .. | .sweepCopy .. =>
    [.regs, .mem, .poison, .journal, .host, .mgmt, .tier, .resv, .streams, .drover, .sweep]
  | .commitGroup .. | .final .. =>
    [.regs, .mem, .poison, .journal, .host, .mgmt, .tier, .resv, .streams, .drover, .sweep, .diff]
  | .flashTagQuarantine .. | .cleaning =>
    [.tier]
  | .writeBack .. | .fillProgrammed .. =>
    [.regs, .mem, .poison, .host, .mgmt, .tier]
  | .pchRetired .. | .stackRetired .. =>
    [.regs, .mem, .poison, .journal, .host, .mgmt, .tier, .retired, .retireTimes, .resv, .streams, .drover]
  | .chunkCopy .. =>
    [.regs, .poison, .host, .mgmt, .tier]
  | .copyBack .. =>
    [.regs, .tier]
  | .flashStackRetired .. =>
    [.regs, .host, .mgmt, .tier, .retired, .retireTimes]
  | .data .. | .idle .. | .ident .. | .pmEnter .. | .pmAck .. | .pmWake .. | .echoReq .. | .echoRsp .. | .wheelpos .. | .down .. =>
    [.regs, .host, .mgmt, .wheel, .net, .power]
  | .replayTimeout .. | .attemptTimeout .. | .gapS .. | .flitSilence .. | .noSignal .. | .flitSlot .. =>
    [.regs, .host, .mgmt, .net]
  | .lock .. | .parkEntry =>
    [.regs, .host, .mgmt, .net, .power]
  | .laneRetired .. | .selftest .. =>
    [.regs, .host, .mgmt, .retired, .retireTimes, .net]
  | .portRetired .. =>
    [.regs, .journal, .host, .mgmt, .tier, .retired, .retireTimes, .resv, .net, .streams, .drover]
  | .readReq .. =>
    [.regs, .poison, .host, .mgmt, .tier, .net, .power]
  | .readData =>
    [.regs, .mem, .poison, .net, .streams]
  | .wheelMark .. | .revolutionBoundary =>
    [.regs, .mem, .poison, .tileMap, .host, .mgmt, .chj, .acceptStop, .tier, .retired, .herdValid, .wheel, .net, .load, .power, .readmit]
  | .stuck | .referenceLoss =>
    [.regs, .host, .mgmt, .wheel]
  | .referenceRestore | .grant .. | .mark .. =>
    [.regs, .wheel]
  | .grantClose .. =>
    [.wheel]
  | .verifying .. | .prldTimeout =>
    [.regs, .mem, .poison, .journal, .host, .mgmt, .acceptStop, .holdFrom, .tier, .resv, .net, .streams, .drover, .sweep, .load]
  | .harnessApply =>
    [.regs, .mem, .poison, .journal, .tileMap, .host, .mgmt, .image, .sections, .acceptStop, .holdFrom, .dissolved, .tier, .retired, .lastDisp, .resv, .herdValid, .wheel, .net, .streams, .applying, .drover, .sweep, .diff, .load, .power, .readmit]
  | .autoload | .resumption =>
    [.regs, .mem, .poison, .journal, .host, .mgmt, .acceptStop, .holdFrom, .tier, .resv, .net, .streams, .drover, .sweep, .load, .power]
  | .startOrder | .parkExit | .unitStarted .. =>
    [.regs, .host, .mgmt, .acceptStop, .herdValid, .net, .load, .power]
  | .porstN .. =>
    [.regs, .mem, .poison, .journal, .tileMap, .host, .mgmt, .chj, .halt, .image, .sections, .acceptStop, .holdFrom, .dissolved, .tier, .retired, .retireTimes, .arrInj, .lastDisp, .resv, .herdValid, .wheel, .net, .streams, .applying, .drover, .sweep, .diff, .load, .power, .readmit, .mirror]
  | .wrstN .. =>
    [.regs, .host, .mgmt, .acceptStop, .holdFrom, .tier, .arrInj, .lastDisp, .net, .streams, .sweep, .load, .power]
  | .pwrWarnN =>
    [.regs, .halt, .power, .mirror]
  | .thermN .. | .railFault .. =>
    [.regs, .host, .mgmt, .halt, .power, .mirror]
  | .powerCap .. =>
    [.regs, .host, .mgmt, .power]
  | .tileRetired .. =>
    [.regs, .mem, .poison, .journal, .tileMap, .host, .mgmt, .chj, .dissolved, .tier, .retired, .retireTimes, .arrInj, .resv, .net, .streams, .drover]
  | .unitRetired .. | .ringRetired .. =>
    [.regs, .journal, .host, .mgmt, .tier, .retired, .retireTimes, .resv, .net, .streams, .drover, .sweep]
  | .fatal .. =>
    [.regs, .host, .halt, .mirror]
  | .selfTest .. =>
    [.regs, .mem, .poison, .readmit]
  | .delivery =>
    [.regs, .mem, .poison, .host, .diff]
  | .importNext =>
    [.regs, .mem, .poison, .host, .mgmt, .tier, .diff]
  | .read32 .. | .read64 .. =>
    [.regs, .mgmt, .power]
  | .bypass | .idcode | .samplePreload | .extest | .extestPulse | .extestTrain | .clamp | .highz | .alertResponse | .trstN .. =>
    [.mgmt]
  | .evacuation .. =>
    [.regs, .host, .mgmt, .tier]
  | .ccc .. =>
    [.regs, .mgmt]

end Sys2Proof.Machine
end

