-- ==== Sys2Proof/Certificates/Slice0/Obligations.lean ====
section
/-! DEFINITION. The statements for the provers. -/

open Sys2Proof Sys2Proof.Machine

/-- A step takes the command at the front of the queue and gives it its effect on the state with the queue's rest; on an empty queue one reference cycle passes, and none in cold reset (the model's choice, log entry 41). -/
def Obligations.StepRunsFrontCommand : Prop :=
  (∀ (c : Instr) (s : State), step { s with pending := c :: s.pending } = exec c s) ∧
  (∀ (s : State), s.pending = [] → step s = .next s.idle ∧ (s.power.porst = true → s.idle = s))

/-- Every step that answers a next state has taken exactly the front of the queue, and added nothing. Every command answers a next state on every state: none ends in a fault or a refusal. -/
def Obligations.EveryStepCompletes : Prop :=
  (∀ (s t : State), step s = .next t → t.pending = s.pending.tail) ∧
  (∀ (c : Instr) (s : State), ∃ t, exec c s = .next t)

/-- Every command leaves every part of the state outside its footprint as it was. -/
def Obligations.CommandsKeepToTheirParts : Prop :=
  ∀ (c : Instr) (s t : State), exec c s = .next t → SameBut (footprint c) s t

/-- Every step keeps the canonical forms of memory, the register table, the poison record and the journal. -/
def Obligations.StepKeepsCanonicalForm : Prop :=
  ∀ (s t : State), s.Canonical → step s = .next t → t.Canonical

/-- R18, R508, R553: right after reset every register holds its Reset value, nothing waits, the journal is empty, no image is loaded and no unit has started; and the state is in canonical form. What no rule gives a reset value for is the model's choice (log entries 1 and 9). -/
def Obligations.ResetState : Prop :=
  (∀ a, State.reset.reg a = regReset a) ∧ State.reset.pending = [] ∧ State.reset.journal = [] ∧ State.reset.image = none ∧ State.reset.power.down = allUnits ∧ State.reset.power.phase = .starting ∧
  State.reset.halt = .running ∧ (∀ x, State.reset.rb x = 0) ∧ State.reset.Canonical ∧
  State.reset.get Fld.CAP_HEAD_FIRST = 0x100 ∧ State.reset.get Fld.JRN_NEXT_JSEQ = 1

/-- R50: the capability list in every state: it begins where CAP_HEAD says, at 0x100, and lies below 0xFFF8, entry after entry; each header names its entry, its NEXT is the offset of the entry after it, above its own, and the last one's is zero. The header's fields are those of R51. -/
def Obligations.CapabilityListWalk : Prop :=
  bits (regReset Reg.CAP_HEAD) 0 16 = 0x100 ∧
  ∀ (s : State),
    (∀ o w, s.capWord o = some w → 0x100 ≤ o ∧ o ≤ 0xFFF8 ∧ o % 8 = 0) ∧
    (∀ pre e post, s.capEntries = pre ++ e :: post →
      let at_ (l : List CapEntry) : Nat := 0x100 + (l.map (fun x => 8 * (1 + x.body.length))).foldl (· + ·) 0
      ∃ w, s.capWord (at_ pre) = some w ∧ at_ pre % 8 = 0 ∧ bits w 36 12 = e.id ∧ bits w 35 1 = b2n e.dynamic ∧ bits w 34 1 = b2n e.enabled ∧ bits w 32 2 = 0 ∧
        bits w 24 8 = 1 ∧ bits w 16 8 = 0 ∧ bits w 0 16 = 8 * (1 + e.body.length) ∧ (∀ k x, e.body[k]? = some x → s.capWord (at_ pre + 8 * (k + 1)) = some x) ∧
        (post = [] → bits w 48 16 = 0) ∧ (post ≠ [] → bits w 48 16 = at_ (pre ++ [e]) ∧ at_ pre < bits w 48 16))

/-- R490: a plane of bytes in the encoding that the device chooses for it is read back as itself. -/
def Obligations.PlaneEncodingRoundTrip : Prop :=
  ∀ (bs : List Byte), decodePlane (encodePlane bs).1 bs.length (encodePlane bs).2 = some bs

/-- R537: a rail other than VAON that stays low acts as the first falling edge of PWR_WARN_N and raises the POWER event with reason 0x7; a VAON fault is not detected. -/
def Obligations.RailFaultRule : Prop :=
  ∀ (s : State), s.power.porst = false →
    (∀ rail w, 0 < rail → rail < 7 → s.power.warned = false → exec .pwrWarnN s = .next w →
      exec (.railFault rail) s = .next (w.raise .power 0 7 (BitVec.ofNat 64 (w.get Fld.PWR_MEAS_REV_W)))) ∧
    exec (.railFault 0) s = .next s

/-- R456: which doorbell writes a ring takes and what a discarded one leaves; the writes arrive while the link is up and the function is in no D3hot. -/
def Obligations.DoorbellRule : Prop :=
  ∀ (page offset size : Nat) (data : Word) (s : State), s.flag Fld.HIF_STAT_LINKUP = true → s.flag Fld.HIF_STAT_D3 = false → page < 16384 →
    let v := bits data 0 32
    let taken : Prop := offset = 0 ∧ (size = 4 ∨ size = 8) ∧ s.hostRingOn page = true ∧ (v + 2 ^ 32 - s.prod page) % 2 ^ 32 < 2 ^ 31 ∧
      (s.role page = 1 → (v + 2 ^ 32 - s.ringIdx page) % 2 ^ 32 ≤ s.ringSize page) ∧ (s.role page = 2 → (s.ringIdx page + 2 ^ 32 - v) % 2 ^ 32 ≤ s.ringSize page)
    (taken → Answers (exec (.doorbell page offset size data) s) fun t =>
      t.prod page = v ∧ RegsBut [Reg.RING_PROD page] s t ∧ SameBut [.regs] s t) ∧
    (¬ taken → Answers (exec (.doorbell page offset size data) s) fun t =>
      t.get Fld.HIF_DBERR_COUNT = min (2 ^ 32 - 1) (s.get Fld.HIF_DBERR_COUNT + 1) ∧
      t.get (Fld.RING_STAT_DBERR page) = min (2 ^ 32 - 1) (s.get (Fld.RING_STAT_DBERR page) + if s.hostRingOn page then 1 else 0) ∧
      RegsBut [Reg.HIF_DBERR, Reg.RING_STAT page] s t ∧ SameBut [.regs] s t)

/-- R463: the next ring of the round robin with entries to fetch is read, up to 32 entries and not past its last slot. R463, R465, R476, R477: how a read ends: the entries of a fetch join the ring's fetched ones; a timeout quarantines the tag; a failed fetch whose retries are used up marks the ring, and RING_ERROR then stops it; a late completion is counted. -/
def Obligations.HostReadsRule : Prop :=
  (∀ (s : State) (r tag : Nat), (s.servedFrom s.host.rrFetch).find? s.wantsFetch = some r → s.hostOpen = true → s.live = true → s.host.reads.length < s.readLimit → s.freeTag = some tag →
     let i := s.fetchedTo r
     let n := min 32 (min (idxSub (s.prod r) i) (s.ringSize r - i % s.ringSize r))
     Answers (exec .fetch s) fun t =>
       t.host.out = s.host.out ++ [.read tag (s.slotAddr r i 128) (128 * n)] ∧
       (sfind t.host.reads tag).map (fun q => (q.kind, q.len)) = some (.fetch r i n (sget 0 s.host.retries r), 128 * n) ∧
       t.host.rrFetch = r ∧ SameBut [.host] s t) ∧
  ((∀ (s : State) (tag r start n fails addr : Nat) (data : List Byte), s.flag Fld.HIF_STAT_LINKUP = true → s.power.porst = false →
     sfind s.host.reads tag = some ⟨.fetch r start n fails, addr, 128 * n⟩ → s.fetchLive r start n = true → data.length = 128 * n →
     Answers (exec (.readCompletion tag .data data) s) fun t =>
       sget [] t.host.fetched r = sget [] s.host.fetched r ++ entriesOf n data ∧ sfind t.host.fetching r = none ∧ t.host.quarantined = s.host.quarantined) ∧
   (∀ (s : State) (tag r start n fails addr len : Nat), sfind s.host.reads tag = some ⟨.fetch r start n fails, addr, len⟩ → s.fetchLive r start n = true →
     s.get Fld.HIF_CTL_FETCHRETRY ≤ fails →
     Answers (exec (.readTimeout tag) s) fun t =>
       nmem t.host.quarantined tag = true ∧ sfind t.host.failed r = some 1 ∧ t.host.fetched = s.host.fetched) ∧
   (∀ (s : State) (tag r start n fails addr len : Nat), sfind s.host.reads tag = some ⟨.fetch r start n fails, addr, len⟩ → s.fetchLive r start n = true →
     s.get Fld.HIF_CTL_FETCHRETRY ≤ fails → s.flag Fld.HIF_STAT_LINKUP = true → s.power.porst = false → ∀ st : CplStatus, st ≠ .data →
     Answers (exec (.readCompletion tag st []) s) fun t => sfind t.host.failed r = some 2 ∧ t.host.fetched = s.host.fetched) ∧
   (∀ (s : State) (tag : Nat), s.flag Fld.HIF_STAT_LINKUP = true → nmem s.host.quarantined tag = true →
     Answers (exec (.lateCompletion tag) s) fun t =>
       t.get Fld.HIF_LATE_COUNT = min (2 ^ Fld.HIF_LATE_COUNT.n - 1) (s.get Fld.HIF_LATE_COUNT + 1) ∧ RegsBut [Fld.HIF_LATE_COUNT.reg] s t ∧ SameBut [.regs] s t) ∧
   (∀ (s : State) (tag : Nat), Answers (exec (.tagQuarantineEnd tag) s) fun t => nmem t.host.quarantined tag = false ∧ ∀ x, x ≠ tag → nmem t.host.quarantined x = nmem s.host.quarantined x) ∧
   (∀ (s : State) (r c : Nat), r < 16384 → sfind s.host.failed r = some c → c < 16 →
     Answers (exec (.ringError r) s) fun t =>
       t.get (Fld.RING_STAT_ERR r) = c ∧ bit (t.reg Reg.GLB_EVTSUM) 10 = true ∧ t.host.fetched = s.host.fetched ∧ t.journal = s.journal))

/-- R461, R463, R464: what acceptance does with the entry at ACCEPT: a host operation, or the next command of a FORWARD group, is journalled under the next JSEQ, and ACCEPT moves past it; a FORWARD accepts its last command as ACCEPTANCE does, and an envelope with COUNT 0 is accepted by itself. -/
def Obligations.AcceptanceJournals : Prop :=
  (∀ (s : State) (r : Nat) (ws : List Word), r < 16384 → s.acceptOpen r = true → s.ringHeadOf r = .host ws → s.completionRoom r = true → s.journalFull = false →
    Answers (exec (.acceptance r) s) fun t =>
      (∃ e, t.cmd s.nextJseq = some e ∧ e.ring = r ∧ e.idx = s.ringIdx r ∧ e.sub = 0 ∧ e.words = ws ∧ e.target = .host ∧ e.user = wget ws 1 ∧ e.st = .accepted ∧ e.parent = 0) ∧
      t.nextJseq = (s.nextJseq + 1) % 2 ^ 64 ∧ t.ringIdx r = (s.ringIdx r + 1) % 2 ^ 32 ∧ sget [] t.host.fetched r = (sget [] s.host.fetched r).drop 1) ∧
  (∀ (s : State) (r : Nat) (g : Group) (ws : List Word) (first : Bool), r < 16384 → s.acceptOpen r = true → s.ringHeadOf r = .command g ws first → s.completionRoom r = true →
    s.headRoom (.command g ws first) = true → s.journalFull = false →
    Answers (exec (.acceptance r) s) fun t =>
      (∃ e, t.cmd s.nextJseq = some e ∧ e.ring = r ∧ e.sub = g.next ∧ e.words = ws ∧ e.target = (s.fwdTarget g.envelope).1 ∧ e.user = wget g.envelope 1 ∧ e.st = .accepted ∧ e.parent = 0) ∧
      t.ringIdx r = (s.ringIdx r + if first then 2 else 1) % 2 ^ 32 ∧
      sfind t.host.groups r = if g.count ≤ g.next + 1 then none else some { g with next := g.next + 1 }) ∧
  (∀ (s : State) (r : Nat) (g : Group) (ws : List Word) (first : Bool), r < 16384 → s.ringHeadOf r = .command g ws first → g.count ≤ g.next + 1 →
    exec (.forward r) s = exec (.acceptance r) s) ∧
  (∀ (s : State) (r : Nat) (env : List Word), r < 16384 → s.acceptOpen r = true → s.ringHeadOf r = .bare env → s.completionRoom r = true →
    Answers (exec (.forward r) s) fun t =>
      sget [] t.host.bare r = sget [] s.host.bare r ++ [⟨s.ringIdx r, wget env 1, envIrq env, s.nextJseq⟩] ∧ t.ringIdx r = (s.ringIdx r + 1) % 2 ^ 32 ∧ t.journal = s.journal)

/-- R455, R465, R475: the actions of RING_CTL and HIF_CANCEL: enabling sets every index to 0, disabling drops what was fetched, CLRERR leaves the error state, and a cancel ends each command that is not dispatched with CANCELLED. -/
def Obligations.RingControl : Prop :=
  (∀ (s : State) (src : RegSrc) (r : Nat) (v : BitVec 32), r < 16384 → s.power.porst = false → s.isHostRing r = true → s.flag (Fld.RING_CTL_ENABLE r) = false →
    v.getLsbD 0 = true → v.getLsbD 1 = false → v.getLsbD 2 = false → s.enableBad r = false →
    Answers (exec (.ringEnable src r v) s) fun t =>
      t.flag (Fld.RING_CTL_ENABLE r) = true ∧ t.prod r = 0 ∧ t.ringIdx r = 0 ∧ t.get (Fld.RING_IDX_DONE r) = 0 ∧ sfind t.host.fetched r = none ∧ t.journal = s.journal) ∧
  (∀ (s : State) (src : RegSrc) (r : Nat) (v : BitVec 32), r < 16384 → s.power.porst = false → s.isHostRing r = true → s.flag (Fld.RING_CTL_ENABLE r) = true →
    v.getLsbD 0 = false → v.getLsbD 1 = false → v.getLsbD 2 = false → s.disableBad r = false →
    Answers (exec (.ringEnable src r v) s) fun t =>
      t.flag (Fld.RING_CTL_ENABLE r) = false ∧ sfind t.host.fetched r = none ∧ sfind t.host.fetching r = none ∧ t.journal = s.journal) ∧
  (∀ (s : State) (src : RegSrc) (r : Nat) (v : BitVec 32), r < 16384 → s.power.porst = false → s.isHostRing r = true → v.getLsbD 0 = s.flag (Fld.RING_CTL_ENABLE r) → v.getLsbD 2 = false →
    s.get (Fld.RING_STAT_ERR r) ≠ 0 →
    Answers (exec (.clrErr src r v) s) fun t =>
      t.get (Fld.RING_STAT_ERR r) = 0 ∧ sfind t.host.fetched r = none ∧ t.ringIdx r = s.ringIdx r ∧ t.journal = s.journal) ∧
  (∀ (s : State) (src : RegSrc) (r : Nat) (v : BitVec 32) (j : Nat) (e : JEntry), s.Canonical → r < 16384 → s.power.porst = false → s.isHostRing r = true →
    v.getLsbD 0 = s.flag (Fld.RING_CTL_ENABLE r) → v.getLsbD 1 = false →
    s.cmd j = some e → e.ring = r → e.parent = 0 → e.target = .host → e.st = .accepted → e.refusal = none → e.fin = none → sfind s.drover.jobs j = none →
    Answers (exec (.cancel src r v) s) fun t => t.Ended j .cancelled 0 0) ∧
  (∀ (s : State) (src : RegSrc) (j : Word) (e : JEntry), s.power.porst = false →
    s.cmd j.toNat = some e → e.parent = 0 → e.target = .host → e.st = .accepted → e.refusal = none → e.fin = none →
    Answers (exec (.hifCancel src j) s) fun t => t.Ended j.toNat .cancelled 0 0 ∧ ∀ i, i ≠ j.toNat → t.cmd i = s.cmd i)

/-- R458, R459, R466, R467: what the host's own operations do when nothing holds them. -/
def Obligations.HostOperations : Prop :=
  (∀ (s : State) (j : Nat) (e : JEntry), s.Ready j e → e.target = .host → hostOp e.words = 1 →
    Answers (exec (.nop j) s) fun t =>
      t.Committed j .ok 0 0 ∧ (∀ a, t.reg a = ((s.consumeWaits e.srcTile e.waits).signalMarks e.dstTile e.sigs).reg a) ∧ SameBut [.regs, .journal] s t) ∧
  (∀ (s : State) (j : Nat) (e : JEntry) (k : Nat), s.Ready j e → e.target = .host → hostOp e.words = 3 → s.Plain (inlineDst e.words) (inlineData e.words).length k →
    0 < (inlineData e.words).length →
    Answers (exec (.writeInline j) s) fun t =>
      t.Committed j .ok 0 0 ∧ (∀ i (h : i < (inlineData e.words).length), t.rb (k + i) = (inlineData e.words)[i]) ∧ BytesBut k (inlineData e.words).length s t) ∧
  (∀ (s : State) (j : Nat) (e : JEntry) (tag : Nat), s.Ready j e → e.target = .host → hostOp e.words = 4 → s.copiesRunning < 8 → e.empty = false → 0 < copyLen e.words →
    e.segs = 0 → e.payload = [] → e.cancelled = false → s.pieceInFlight j = false → s.hostOpen = true → s.host.reads.length < s.readLimit → s.freeTag = some tag →
    Answers (exec (.hcopyIn j) s) fun t =>
      t.host.out = s.host.out ++ [.read tag (copyHost e.words) (min 4096 (copyLen e.words))] ∧ (∃ e', t.cmd j = some e' ∧ e'.st = .dispatched ∧ e'.fin = none) ∧ t.mem = s.mem) ∧
  (∀ (s : State) (j : Nat) (e : JEntry) (tag addr k : Nat) (data : List Byte), s.flag Fld.HIF_STAT_LINKUP = true → s.power.porst = false →
    s.cmd j = some e → e.parent = 0 → e.target = .host → hostOp e.words = 4 → e.st = .dispatched → e.refusal = none → e.fin = none → e.cancelled = false → e.payload = [] →
    sfind s.host.reads tag = some ⟨.hcopy j (4096 * e.segs) data.length, addr, data.length⟩ → (∀ q ∈ s.host.reads, q.1 ≠ tag → ∀ o n, q.2.kind ≠ .hcopy j o n) →
    0 < data.length → data.length ≤ 4096 → copyLen e.words ≤ 4096 * (e.segs + 1) → s.Plain (copyUda e.words + 4096 * e.segs) data.length k →
    Answers (exec (.readCompletion tag .data data) s) fun t =>
      t.Committed j .ok (BitVec.ofNat 64 (copyLen e.words)) 0 ∧ (∀ i (h : i < data.length), t.rb (k + i) = data[i]) ∧ BytesBut k data.length s t) ∧
  (∀ (s : State) (j : Nat) (e : JEntry) (k : Nat → Nat), s.Ready j e → e.target = .host → hostOp e.words = 5 → s.copiesRunning < 8 → e.empty = false →
    e.segs = 0 → s.hostOpen = true →
    (∀ i, 4096 * i < copyLen e.words → s.Plain (copyUda e.words + 4096 * i) (min 4096 (copyLen e.words - 4096 * i)) (k i) ∧ s.poisonedIn (k i) (min 4096 (copyLen e.words - 4096 * i)) = false) →
    Answers (exec (.hcopyOut j) s) fun t =>
      t.Committed j .ok (BitVec.ofNat 64 (copyLen e.words)) 0 ∧ t.mem = s.mem ∧
      ∀ i, 4096 * i < copyLen e.words → HostTx.write (copyHost e.words + 4096 * i) (s.rbs (k i) (min 4096 (copyLen e.words - 4096 * i))) ∈ t.host.out) ∧
  (∀ (s : State) (j : Nat) (e : JEntry), s.Ready j e → e.target = .host → hostOp e.words = 6 → s.scopeDone j e = true →
    Answers (exec (.fence j) s) fun t => t.Committed j .ok 0 0 ∧ SameBut [.regs, .journal] s t) ∧
  (∀ (s : State) (j : Nat) (e : JEntry) (tag : Nat), s.Ready j e → e.target = .host → hostOp e.words = 7 → s.scopeDone j e = true → s.get Fld.DIF_STAT_STATE = 0 →
    e.header = [] → e.sent = false → s.hostOpen = true → s.host.reads.length < s.readLimit → s.freeTag = some tag →
    Answers (exec (.flush j) s) fun t =>
      t.host.out = s.host.out ++ [.read tag ((s.reg (Reg.RING_BASE (s.pairOf e.ring))).toNat / 4096 * 4096) 0] ∧
      (sfind t.host.reads tag).map (·.kind) = some (.flush j) ∧ ∃ e', t.cmd j = some e' ∧ e'.sent = true ∧ e'.fin = none) ∧
  (∀ (s : State) (j : Nat) (e : JEntry) (tag addr : Nat), s.flag Fld.HIF_STAT_LINKUP = true → s.power.porst = false →
    s.cmd j = some e → e.parent = 0 → e.target = .host → e.st = .dispatched → e.refusal = none → e.fin = none → e.sent = true → sfind s.host.reads tag = some ⟨.flush j, addr, 0⟩ →
    Answers (exec (.readCompletion tag .data []) s) fun t => t.Committed j .ok (s.reg Reg.DIF_DELIV) 0)

/-- R461, R468 to R470, R478: the completion of a ring's oldest command is written at WRITE of the paired ring and frees its journal entry; a zero-count envelope completes REJECTED_SHAPE; the hold-off's end signals the ring's vector. -/
def Obligations.CompletionRule : Prop :=
  (∀ (s : State) (r j : Nat) (e : JEntry) (rest : List (Nat × JEntry)), r < 16384 → s.mayComplete r = true → s.bareTurn r = none → s.hostCmds r = (j, e) :: rest → e.settled = true →
    let c := s.pairOf r
    Answers (exec (.completion r) s) fun t =>
      t.cmd j = none ∧ t.ringIdx c = (s.ringIdx c + 1) % 2 ^ 32 ∧ t.get (Fld.RING_IDX_DONE r) = (s.get (Fld.RING_IDX_DONE r) + 1) % 2 ^ 32 ∧
      HostTx.write (s.slotAddr c (s.ringIdx c) 32) (bytesOfWords [putBits (completionWord e) 63 1 (s.phase c (s.ringIdx c)), e.user, e.res0, e.res1]) ∈ t.host.out) ∧
  (∀ (s : State) (r : Nat) (b : BareDone), r < 16384 → s.mayComplete r = true → s.bareTurn r = some b →
    let c := s.pairOf r
    Answers (exec (.completion r) s) fun t =>
      t.ringIdx c = (s.ringIdx c + 1) % 2 ^ 32 ∧ sget [] t.host.bare r = (sget [] s.host.bare r).drop 1 ∧ t.journal = s.journal ∧
      HostTx.write (s.slotAddr c (s.ringIdx c) 32)
        (bytesOfWords [putBits (wordOf [(48, 8, 0x10), (34, 14, r), (18, 16, b.idx % 2 ^ 16)]) 63 1 (s.phase c (s.ringIdx c)), b.user, 0, 0]) ∈ t.host.out) ∧
  (∀ (s : State) (r : Nat), r < 16384 → s.role r = 2 → s.get (Fld.RING_MOD_HOLDOFF_US r) ≠ 0 → 0 < s.unsignalled r → s.halt ≠ .powerWarning →
    let v := s.get (Fld.RING_CFG_VECTOR r)
    Answers (exec (.holdoff r) s) fun t =>
      t.unsignalled r = 0 ∧
      (s.hostOpen = true → s.host.msixEnable = true → bit (s.reg (Reg.MSIX_CTRL v)) 0 = false →
        t.host.out = s.host.out ++ [.msix v (s.reg (Reg.MSIX_ADDR v)) (s.reg (Reg.MSIX_DATA v)).toNat] ∧ SameBut [.host] s t) ∧
      (s.hostOpen = true → s.host.msixEnable = true → bit (s.reg (Reg.MSIX_CTRL v)) 0 = true →
        bit (t.reg (Reg.MSIX_PBA (v / 64))) (v % 64) = true ∧ t.host.out = s.host.out ∧ RegsBut [Reg.MSIX_PBA (v / 64)] s t) ∧
      ((s.hostOpen = false ∨ s.host.msixEnable = false) → t.host.heldVectors = s.host.heldVectors ++ [v] ∧ t.host.out = s.host.out ∧ SameBut [.host] s t))

/-- R481, R570: the mailbox in both directions. R449, R452: the PCIe link comes and goes without touching rings or commands; what waits for it is released. -/
def Obligations.MailboxAndPcieLink : Prop :=
  ((∀ (s : State) (src : RegSrc) (v : BitVec 32), s.power.porst = false → s.flag Fld.HIF_MBCTL_H2MFULL = false →
     Answers (exec (.h2mSend src v) s) fun t => t.flag Fld.HIF_MBCTL_H2MFULL = true ∧ t.get Fld.HIF_MBCTL_LEN = v.toNat / 2 ^ 12 % 2 ^ 9 ∧ t.journal = s.journal ∧ t.mem = s.mem) ∧
   (∀ (s : State) (src : RegSrc) (v : BitVec 32), s.power.porst = false → v.getLsbD 0 = false →
     Answers (exec (.m2hAck src v) s) fun t => t.flag Fld.HIF_MBCTL_M2HFULL = false ∧ t.flag Fld.HIF_MBCTL_H2MFULL = s.flag Fld.HIF_MBCTL_H2MFULL) ∧
   (∀ (s : State) (src : RegSrc) (v : BitVec 32), s.power.porst = false → s.flag Fld.HIF_MBCTL_M2HFULL = false →
     Answers (exec (.m2hSend src v) s) fun t =>
       t.flag Fld.HIF_MBCTL_M2HFULL = true ∧ t.get Fld.HIF_MBSTAT_M2HLEN = v.toNat / 2 ^ 12 % 2 ^ 9 ∧ bit (t.reg Reg.GLB_EVTSUM) 12 = true ∧ t.journal = s.journal ∧ t.mem = s.mem) ∧
   (∀ (s : State) (src : RegSrc) (v : BitVec 32), s.power.porst = false → v.getLsbD 0 = false →
     Answers (exec (.h2mAck src v) s) fun t => t.flag Fld.HIF_MBCTL_H2MFULL = false ∧ t.flag Fld.HIF_MBCTL_M2HFULL = s.flag Fld.HIF_MBCTL_M2HFULL)) ∧
  ((∀ (s : State), Answers (exec .perst s) fun t =>
     t.flag Fld.HIF_STAT_LINKUP = false ∧ t.host.msixEnable = false ∧ t.host.tagBits = 8 ∧ RegsBut [Reg.HIF_STAT, Fld.CAP_GEN_GEN.reg] s t ∧ SameBut [.regs, .host] s t) ∧
   (∀ (s : State) (speed : PcieSpeed) (width tagBits : Nat), s.flag Fld.HIF_STAT_LINKUP = false → s.power.porst = false →
     Answers (exec (.pcieLinkUp speed width tagBits) s) fun t =>
       t.flag Fld.HIF_STAT_LINKUP = true ∧ t.get Fld.HIF_STAT_SPEED = speedCode speed ∧ t.get Fld.HIF_STAT_WIDTH = widthCode width ∧ t.host.tagBits = tagWidth (speedCode speed == 6) tagBits ∧
       t.journal = s.journal) ∧
   (∀ (s : State) (busMaster d3 : Bool), s.flag Fld.HIF_STAT_LINKUP = true →
     Answers (exec (.d3hot busMaster d3) s) fun t => t.flag Fld.HIF_STAT_BME = busMaster ∧ t.flag Fld.HIF_STAT_D3 = d3 ∧ t.flag Fld.HIF_STAT_LINKUP = true ∧ t.journal = s.journal) ∧
   (∀ (s : State), s.flag Fld.HIF_STAT_LINKUP = true →
     Answers (exec .msiXEnable s) fun t => t.host.msixEnable = true ∧ (s.hostOpen = true → t.host.heldVectors = [] ∧ t.host.heldEvents = []) ∧ t.journal = s.journal))

/-- R177, R178: what raising a mark, giving a credit and the wait slots' subtraction do to a logical tile's counts. -/
def Obligations.MarksAndCredits : Prop :=
  (∀ (s : State) (t m inc : Nat), m < 64 → (∀ p, s.phys t = some p → p < 68) → let v := s.markCount t m + inc
    (s.raiseMark t m inc).markCount t m = min 65535 v ∧ (s.raiseMark t m inc).markPoison t m = s.markPoison t m ∧
    (∀ m', m' ≠ m → m' < 64 → (s.raiseMark t m inc).markCount t m' = s.markCount t m') ∧
    (65535 < v → ∀ p, s.phys t = some p →
      (s.raiseMark t m inc).get (Fld.TILE_MARKOVF_COUNT p) = min (2 ^ 32 - 1) (s.get (Fld.TILE_MARKOVF_COUNT p) + 1) ∧ (s.raiseMark t m inc).get (Fld.TILE_MARKOVF_MARK p) = m) ∧
    SameBut [.regs] s (s.raiseMark t m inc)) ∧
  (∀ (s : State) (t q n : Nat), q < 32 → (∀ p, s.phys t = some p → p < 68) →
    (s.giveCredit t q n).pool t q = min 65535 (s.pool t q + n) ∧ (∀ q', q' ≠ q → q' < 32 → (s.giveCredit t q n).pool t q' = s.pool t q') ∧ SameBut [.regs] s (s.giveCredit t q n)) ∧
  (∀ (s : State) (t q n : Nat), (s.takeCredit t q n).pool t q = s.pool t q - n ∧ SameBut [.regs] s (s.takeCredit t q n)) ∧
  (∀ (s : State) (t : Nat) (l : List Slot), slotsRepeat (usedSlots l) = false → (∀ x ∈ l, x.idx < 64) →
    (∀ x ∈ usedSlots l, (s.consumeWaits t l).markCount t x.idx = s.markCount t x.idx - x.n) ∧
    (∀ m, m < 64 → (∀ x ∈ usedSlots l, x.idx ≠ m) → (s.consumeWaits t l).markCount t m = s.markCount t m) ∧ SameBut [.regs] s (s.consumeWaits t l))

/-- R183, R196: tile control dispatches the head it picks: the command takes its unit, its wait slots are consumed and its dispatch is counted; a STREAM starts at its first atom. -/
def Obligations.TileDispatchRule : Prop :=
  ∀ (s : State) (t p j : Nat) (e : JEntry) (u : TileUnit), t < 64 → s.phys t = some p → p < 68 → s.live = true → s.unitDown 3 t = false →
    (∀ q ∈ s.journal, q.2.refusal = none ∧ s.strayMember t q.2 = false) → s.Canonical →
    s.pickHead t p = some (j, e) → s.waitPoisoned e = false → s.unitFor t p e = some u → e.empty = false → e.take.n = 0 →
    (e.isStream = false →
      let n := leNat (s.rbs (spKey p (tMind e.words)) 4)
      let reads := tMindir e.words && (e.kind == 1 || e.kind == 3)
      (reads = true → s.poisonedIn (spKey p (tMind e.words)) 4 = false ∧ 0 < n ∧ n ≤ tMmax e.words) →
      Answers (exec (.tileDispatch t) s) fun r =>
        r.cmd j = some { e with st := .dispatched, disp := e.disp + 1, unit := u, rows := if reads then some n else e.rows } ∧
        r.get (Fld.TILE_DISPCNT_COUNT p) = min (2 ^ 64 - 1) (s.get (Fld.TILE_DISPCNT_COUNT p) + 1) ∧
        sget 0 r.lastDisp t = e.tileRing ∧ (∀ m, m < 64 → r.markCount t m = (s.consumeWaits t e.waits).markCount t m) ∧ SameBut [.regs, .journal, .lastDisp] s r) ∧
    (e.isStream = true → tOp e.words = 1 ∨ tOp e.words = 2 → sFar e.words = 1 → s.freeChannel t ≠ none →
      Answers (exec (.tileDispatch t) s) fun r =>
        (∃ e', r.cmd j = some e' ∧ e'.st = .dispatched ∧ e'.disp = e.disp + 1 ∧ e'.unit = u ∧ e'.fin = none ∧ e'.resv = resvTaken e.words) ∧
        sfind r.streams j = some StreamRun.start ∧ sget 0 r.lastDisp t = e.tileRing ∧ r.mem = s.mem)

/-- R184, R193, R194: a dispatched CONTROL command that is its ring's only one: MARK_SET and CREDIT_SET apply their entries before the signals, NOP and FENCE only signal. -/
def Obligations.ControlCommands : Prop :=
  ∀ (s : State) (j p : Nat) (e : JEntry), s.Runs j e p → e.kind = 5 → e.parent = 0 → e.refusal = none → s.ringQueue e.tileRing = [(j, e)] →
    let after (x : State) : State := if e.give.n ≠ 0 then (x.signalMarks e.tile e.sigs).giveCredit e.tile e.give.idx e.give.n else x.signalMarks e.tile e.sigs
    (e.op = 1 → Answers (exec (.controlNop j) s) fun t => t.Committed j .ok 0 0 ∧ (∀ a, t.reg a = (after s).reg a) ∧ SameBut [.regs, .journal] s t) ∧
    (e.op = 2 → Answers (exec (.markSet j) s) fun t =>
      t.Committed j .ok 0 0 ∧ (∀ a, t.reg a = (after ((setEntries e.words).foldl (fun (x : State) w => x.applyMarkSet e.tile w) s)).reg a) ∧ SameBut [.regs, .journal] s t) ∧
    (e.op = 3 → Answers (exec (.creditSet j) s) fun t =>
      t.Committed j .ok 0 0 ∧ (∀ a, t.reg a = (after ((setEntries e.words).foldl (fun (x : State) w => x.applyCreditSet e.tile w) s)).reg a) ∧ SameBut [.regs, .journal] s t) ∧
    (e.op = 4 → Answers (exec (.controlFence j) s) fun t => t.Committed j .ok 0 0 ∧ (∀ a, t.reg a = (after s).reg a) ∧ SameBut [.regs, .journal] s t)

/-- R149 to R153: the elementwise operations and REDUCE. R155 to R160: the whole-row operations of the element unit. -/
def Obligations.ElementOperations : Prop :=
  (∀ (s : State) (j p : Nat) (e : JEntry) (obs : EltObs),
     let ws := e.words
     let n := tK ws
     let a := inputRow p ws n
     let b := flexRow p ws 1 n
     let c := flexRow p ws 3 n
     let y := encoded p ws n
     (CleanElement s j e p 0x01 obs → CommitsRows (exec (.eltConvert j obs) s) s j e p fun x i => y x i (a x i)) ∧
     (CleanElement s j e p 0x02 obs → CommitsRows (exec (.eltAdd j obs) s) s j e p fun x i => y x i (List.zipWith f32Add (a x i) (b x i))) ∧
     (CleanElement s j e p 0x03 obs → CommitsRows (exec (.eltMul j obs) s) s j e p fun x i => y x i (List.zipWith f32Mul (a x i) (b x i))) ∧
     (CleanElement s j e p 0x04 obs → CommitsRows (exec (.eltFma j obs) s) s j e p fun x i =>
       y x i (List.zipWith (fun ab z => f32Fma ab.1 ab.2 z) (List.zip (a x i) (b x i)) (c x i))) ∧
     (CleanElement s j e p 0x05 obs → CommitsRows (exec (.eltMax j obs) s) s j e p fun x i => y x i (List.zipWith f32Max (a x i) (b x i))) ∧
     (CleanElement s j e p 0x06 obs → CommitsRows (exec (.eltMin j obs) s) s j e p fun x i => y x i (List.zipWith f32Min (a x i) (b x i))) ∧
     (CleanElement s j e p 0x07 obs → CommitsRows (exec (.eltCurve j obs) s) s j e p fun x i =>
       y x i (((x.curve (tCurve ws)).evalRow (x.fmt (opN ws 0).row) (x.readRow p (x.fmt (opN ws 0).row) (opN ws 0) n i)).map (·.y))) ∧
     (CleanElement s j e p 0x08 obs → CommitsRows (exec (.eltReduce j obs) s) s j e p fun x i =>
       ⟨[(16 * (opN ws 2).base + 4 * i, packCodes 32 (encodeRow (x.fmt (opN ws 2).row) (x.rowKey p ws 1 i) 0 [euReduce (tRed ws) (a x i)]).codes)], [], 0, 0⟩)) ∧
  (∀ (s : State) (j p : Nat) (e : JEntry) (obs : EltObs),
     let ws := e.words
     let n := tK ws
     let a := inputRow p ws n
     let y := encoded p ws n
     (CleanElement s j e p 0x09 obs → CommitsRows (exec (.rmsNorm j obs) s) s j e p fun x i => y x i (rmsNormRow (tImm0 ws) (a x i) (vectorRow p ws 1 n x))) ∧
     (CleanElement s j e p 0x0A obs → CommitsRows (exec (.layerNorm j obs) s) s j e p fun x i =>
       y x i (layerNormRow (tImm0 ws) (a x i) (vectorRow p ws 1 n x) (vectorRow p ws 3 n x))) ∧
     (CleanElement s j e p 0x0B obs → CommitsRows (exec (.softmax j obs) s) s j e p fun x i => y x i (softmaxRow (tImm0 ws) (a x i))) ∧
     (CleanElement s j e p 0x0C obs → CommitsRows (exec (.attnOnline j obs) s) s j e p fun x i =>
       let o := attnOnlineRow (tImm0 ws) (x.attnState p (opN ws 1) i) (x.visible p ws i) (a x i)
         ((x.readRow p (x.fmt (opN ws 3).row) (opN ws 3) (tN ws) i).euValues (x.fmt (opN ws 3).row))
       ((y x i o.2.1).and ((opN ws 3).put (x.fmt (opN ws 3).row) (x.rowKey p ws (tN ws) i) i o.2.2)).and ⟨[((opN ws 1).rowOff i, o.1.bytes)], [], 0, 0⟩) ∧
     (CleanElement s j e p 0x0D obs → CommitsRows (exec (.attnFinal j obs) s) s j e p fun x i =>
       encoded p ws (tN ws) x i (attnFinalRow (x.attnState p (opN ws 1) i) (inputRow p ws (tN ws) x i))) ∧
     (CleanElement s j e p 0x0E obs → CommitsRows (exec (.resid j obs) s) s j e p fun x i =>
       let o := residRow (x.fmt (opN ws 2).row) (x.rowKey p ws n i) (a x i) ((x.readRow p (x.fmt (opN ws 1).row) (opN ws 1) n i).euValues (x.fmt (opN ws 1).row))
       ((opN ws 2).store (x.fmt (opN ws 2).row) n i o.1).and ((opN ws 1).put (x.fmt (opN ws 1).row) (x.rowKey p ws n i) i o.2)))

/-- R95, R120, R129, R161, R256: array commands, a MATVEC on either path and a Drover's pass commit their rows at every member; the array takes its new shape first. R143, R174, R175: an armed array fault, and the scrubber's next bank row. -/
def Obligations.ArrayCommandsAndFaults : Prop :=
  ((∀ (s : State) (j p : Nat) (e : JEntry) (obs : ArrayObs), s.Runs j e p → s.Canonical → e.unit = .array → s.flag (Fld.TILE_ARRSTAT_RESHAPING p) = false → e.blocks = [] →
     obs.faults = [] → obs.ecc = ⟨[], []⟩ →
     let ms := s.arrayMembers e.tile e.words (s.get (Fld.TILE_ARRSTAT_SHAPE p))
     (∀ b ∈ commitBlocks (tEc e.words == 1) e.rowCount, ∀ m ∈ ms, s.spPoisoned m.p (s.arrayReads e.words (m.p == p) m.cols b.2.1 b.2.2) = false) →
     let done (o : Host.Outcome State Fault Refusal) : Prop := Answers o fun t => t.RanTo j .ok ∧
       ∀ x, t.rb x = ((commitBlocks (tEc e.words == 1) e.rowCount).foldl (State.commitMembers p e.words ms) s).rb x
     (e.kind = 1 → done (exec (.array j obs) s)) ∧ (∀ elt, e.kind = 2 → e.op = 0 → done (exec (.expertPass j obs elt) s)) ∧
     (∀ elt, e.isMatvec = true → done (exec (.matvec j obs elt) s))) ∧
   (∀ (s : State) (j p : Nat) (e : JEntry) (arr : ArrayObs) (obs : EltObs), s.Runs j e p → s.Canonical → e.unit = .element → e.isMatvec = true → e.blocks = [] → obs.faults = [] → obs.ecc = ⟨[], []⟩ →
     let ms : List Member := [⟨p, [(0, tN e.words)]⟩]
     (∀ b ∈ commitBlocks (tEc e.words == 1) e.rowCount, ∀ m ∈ ms, s.spPoisoned m.p (s.arrayReads e.words (m.p == p) m.cols b.2.1 b.2.2) = false) →
     Answers (exec (.matvec j arr obs) s) fun t => t.RanTo j .ok ∧
       ∀ x, t.rb x = ((commitBlocks (tEc e.words == 1) e.rowCount).foldl (State.commitMembers p e.words ms) s).rb x) ∧
   (∀ (s : State) (t p j : Nat) (e : JEntry), t < 64 → s.phys t = some p → s.flag (Fld.TILE_ARRSTAT_RESHAPING p) = true →
     s.journal.find? (fun x => x.2.onTile && x.2.tile == t && x.2.fin.isNone && x.2.unit == .array) = some (j, e) →
     Answers (exec (.reForming t) s) fun r =>
       (∀ m ∈ s.yokeMembers t, ∀ q, s.phys m = some q → q < 68 → r.flag (Fld.TILE_ARRSTAT_RESHAPING q) = false ∧ r.get (Fld.TILE_ARRSTAT_SHAPE q) = s.shapeFor p e.words % 4) ∧ SameBut [.regs] s r)) ∧
  ((∀ (s : State) (src : RegSrc) (p : Nat) (v : BitVec 32), p < 68 → s.power.porst = false → s.unavailable (Reg.TILE_ARRINJ p) = false →
     Answers (exec (.tileArrInj src p v) s) fun t =>
       sfind t.arrInj p = (if v.getLsbD 21 then some (v.toNat / 2 ^ 10 % 2 ^ 10, v.toNat % 2 ^ 10) else none) ∧ SameBut [.regs, .mgmt, .chj, .arrInj] s t) ∧
   (∀ (s : State) (p : Nat) (obs : EccObs), p < 68 → s.live = true → s.flag (Fld.TILE_SPCTL_SCRUB p) = true →
     let row := s.get (Fld.TILE_SPSCRUB_NEXT p)
     Answers (exec (.scrub p obs) s) fun t =>
       t.get (Fld.TILE_SPSCRUB_NEXT p) = (if 15360 ≤ row + 1 then 0 else row + 1) ∧
       t.get (Fld.TILE_SPSCRUB_PASSES p) = min (2 ^ 32 - 1) (s.get (Fld.TILE_SPSCRUB_PASSES p) + if 15360 ≤ row + 1 then 1 else 0) ∧
       (∀ o ∈ obs.uncorrectable, o / 1024 = row → nmem t.poison (spKey p o / 32) = true) ∧ t.mem = s.mem ∧ SameBut [.regs, .poison] s t))

/-- R202, R206, R209, R212: a LOAD or STORE of far kind 0x1 moves the atoms of the segment in hand, in order, between plain far memory and the local rows, taking the segment's credit. R204, R230, R234, R460: the other forms of LOAD and STORE, over a segment of one atom or one message: a codec block expanded or compressed, and host memory read or written. -/
def Obligations.StreamLoadsAndStores : Prop :=
  (∀ (s : State) (j p c : Nat) (e : JEntry) (k ks : Nat → Nat), s.onChannel j = some (e, p, c) → sFar e.words = 1 → sCodec e.words ≠ 1 → (s.segmentCredit j e).isSome = true →
     let ws := e.words
     let a := (s.run j).pos
     let b := sSegEnd ws e.segs
     a ≤ b →
     (tOp ws = 1 → (∀ q, a ≤ q → q < b → s.Clean (sFarAt ws (posRow ws q) (posAtom ws q)) (sFarAtomBytes ws) (k q) ∧
         (sScaled ws = true → s.Clean (sFarScaleAt ws (posRow ws q) (posAtom ws q)) 1 (ks q))) →
       Answers (exec (.load j StreamObs.none) s) fun t =>
         (t.run j).pos = b ∧ (∀ x, t.rb x = ((numsFrom a (b - a)).foldl (State.loadOne p ws k ks) s).rb x) ∧ t.cmd j = some e) ∧
     (tOp ws = 2 → (∀ q, a ≤ q → q < b → s.Plain (sFarAt ws (posRow ws q) (posAtom ws q)) (sAtomBytes ws) (k q) ∧ s.poisonedIn (spKey p (sLocalAt ws (posRow ws q) (posAtom ws q))) (sAtomBytes ws) = false ∧
         (sScaled ws = true → s.Plain (sFarScaleAt ws (posRow ws q) (posAtom ws q)) 1 (ks q) ∧ s.poisonedIn (spKey p (sLocalScaleAt ws (posRow ws q) (posAtom ws q))) 1 = false)) →
       Answers (exec (.store j StreamObs.none) s) fun t =>
         (t.run j).pos = b ∧ (∀ x, t.rb x = ((numsFrom a (b - a)).foldl (State.storeOne p ws k ks) s).rb x) ∧ t.cmd j = some e)) ∧
  (∀ (s : State) (j p c : Nat) (e : JEntry), s.onChannel j = some (e, p, c) → (s.segmentCredit j e).isSome = true →
     let ws := e.words
     let q := (s.run j).pos
     let r := posRow ws q
     let k := posAtom ws q
     (sFar ws = 1 → sCodec ws = 1 → sSegEnd ws e.segs = q + 1 → tOp ws = 1 → ∀ (kh kp : Nat) (bs : List Byte),
       s.Clean (sHeaderAt ws (sBlock ws r k)) 2 kh → s.Clean (sFarAt ws r k) (16 * headerUnits (leNat (s.rbs kh 2))) kp →
       decodeBlock512 (sBits ws / 8) (leNat (s.rbs kh 2)) (s.rbs kp (16 * headerUnits (leNat (s.rbs kh 2)))) = .ok bs →
       Answers (exec (.load j StreamObs.none) s) fun t =>
         (t.run j).pos = q + 1 ∧ (∀ i (h : i < bs.length), t.rb (spKey p (sLocalAt ws r k) + i) = bs[i]) ∧ BytesBut (spKey p (sLocalAt ws r k)) bs.length s t) ∧
     (sFar ws = 1 → sCodec ws = 1 → sSegEnd ws e.segs = q + 1 → tOp ws = 2 → sBlock ws r k + 1 ≠ sRows ws * sRowAtoms ws → ∀ (kh kp : Nat),
       s.poisonedIn (spKey p (sLocalAt ws r k)) (sAtomBytes ws) = false →
       let x := encodeBlock512 (sBits ws / 8) (s.rbs (spKey p (sLocalAt ws r k)) (sAtomBytes ws))
       s.Plain (sFarAt ws r k) x.payload.length kp → s.Plain (sHeaderAt ws (sBlock ws r k)) 2 kh → (kh + 2 ≤ kp ∨ kp + x.payload.length ≤ kh) →
       Answers (exec (.store j StreamObs.none) s) fun t =>
         (t.run j).pos = q + 1 ∧ (∀ i (h : i < x.payload.length), t.rb (kp + i) = x.payload[i]) ∧ t.rbs kh 2 = leBytes 2 x.header) ∧
     (sFar ws = 3 → tOp ws = 1 → ∀ tag, let m := hMessage ws (s.run j).asked
       sUnitEnd ws e.segs = (s.run j).asked + max 1 m.2.2 → s.hostOpen = true → s.host.reads.length < s.readLimit → s.freeTag = some tag →
       Answers (exec (.load j StreamObs.none) s) fun t =>
         t.host.out = s.host.out ++ [.read tag (sMsgFar ws m.1 m.2.1 m.2.2) (sMsgBytes ws m.2.2)] ∧ (t.run j).awaiting = (s.run j).awaiting + 1 ∧
         (t.run j).asked = sUnitEnd ws e.segs ∧ (t.run j).wait = .answers ∧ t.mem = s.mem) ∧
     (sFar ws = 3 → tOp ws = 2 → ∀ body, let m := hMessage ws (s.run j).asked
       sUnitEnd ws e.segs = (s.run j).asked + max 1 m.2.2 → s.hostOpen = true → s.msgBody p ws m.1 m.2.1 m.2.2 = some body →
       Answers (exec (.store j StreamObs.none) s) fun t =>
         t.host.out = s.host.out ++ [.write (sMsgFar ws m.1 m.2.1 m.2.2) body] ∧ (t.run j).asked = sUnitEnd ws e.segs ∧ (t.run j).wait = .ready ∧ t.mem = s.mem))

/-- R202, R212, R213: delivered segments raise the progress mark, the last one ends the stream; a PREFETCH ends once its range is resident; a RECEIVE whose arrival has ended writes its row count and ends. R219 to R221, R225: a stream that waits for the tier, a credit or an arrival halts and gives its channel up; the oldest that can resume takes the lowest free channel; the watchdog halts the youngest eligible blocked stream and releases its records. -/
def Obligations.StreamsEndAndHalt : Prop :=
  ((∀ (s : State) (j : Nat) (e : JEntry), s.Canonical → s.cmd j = some e → e.isStream = true → e.st = .dispatched → e.fin = none → s.live = true → s.targetUp e = true → tOp e.words ≠ 5 →
     s.segmentDone j e = true → e.pmark.idx < 64 → (∀ p, s.phys e.tile = some p → p < 68) →
     (e.segs + 1 < sSegments e.words → Answers (exec (.segmentDelivered j) s) fun t =>
       t.cmd j = some { e with segs := e.segs + 1 } ∧ (e.pmark.n ≠ 0 → t.markCount e.tile e.pmark.idx = min 65535 (s.markCount e.tile e.pmark.idx + e.pmark.n)) ∧
       (t.run j).credited = false ∧ SameBut [.regs, .journal, .streams] s t) ∧
     (sSegments e.words ≤ e.segs + 1 → Answers (exec (.segmentDelivered j) s) fun t => t.RanTo j .ok ∧ t.mem = s.mem)) ∧
   (∀ (s : State) (j : Nat) (e : JEntry), s.cmd j = some e → e.isStream = true → e.st = .dispatched → e.fin = none → s.live = true → s.targetUp e = true → tOp e.words = 5 →
     e.segs < recvSegments e.words (s.run j).got false → e.pmark.idx < 64 → (∀ p, s.phys e.tile = some p → p < 68) →
     Answers (exec (.segmentDelivered j) s) fun t =>
       t.cmd j = some { e with segs := e.segs + 1 } ∧ (e.pmark.n ≠ 0 → t.markCount e.tile e.pmark.idx = min 65535 (s.markCount e.tile e.pmark.idx + e.pmark.n)) ∧ SameBut [.regs, .journal] s t) ∧
   (∀ (s : State) (j p c : Nat) (e : JEntry), s.Canonical → s.onChannel j = some (e, p, c) → tOp e.words = 4 → (∀ x ∈ s.tier.dir, x.2.evreq = false ∧ x.2.invreq = false) → (s.run j).pos ≤ sTotal e.words →
     (∀ q, q < sTotal e.words → regionOf (sFarAt e.words (posRow e.words q) (posAtom e.words q)) = .flash ∧
       ∃ n x, s.dirOf (s.objectOf (frameOf (sFarAt e.words (posRow e.words q) (posAtom e.words q)))).1 = some (n, x) ∧ (x.st = .clean ∨ x.st = .dirty ∨ x.st = .cleaning)) →
     Answers (exec (.prefetch j StreamObs.none) s) fun t => t.RanTo j .ok ∧ t.mem = s.mem) ∧
   (∀ (s : State) (j p c : Nat) (e : JEntry), s.Canonical → s.onChannel j = some (e, p, c) → tOp e.words = 5 →
     ((s.run j).staged = true → Answers (exec (.receive j) s) fun t =>
       t.RanTo j .ok ∧ t.rbs (spKey p (sLcount e.words)) 4 = leBytes 4 ((s.run j).got / max 1 (arrRowBytes e.words)) ∧ BytesBut (spKey p (sLcount e.words)) 4 s t) ∧
     ((s.run j).staged = false → (s.run j).arrival = none → Answers (exec (.receive j) s) fun t => (t.run j).wait = .arrival ∧ SameBut [.streams] s t))) ∧
  ((∀ (s : State) (j p c n : Nat) (e : JEntry), s.onChannel j = some (e, p, c) → haltReason (s.run j).wait ≠ 0 → s.waitOver e (s.run j) = false → s.freeHalt e.tile = some n →
     Answers (exec (.halt j) s) fun t =>
       t.cmd j = some { e with unit := .none } ∧ (t.run j).halt = some (n, haltReason (s.run j).wait) ∧ (t.run j).pos = (s.run j).pos ∧ SameBut [.regs, .journal, .streams] s t) ∧
   (∀ (s : State) (t c j : Nat) (e : JEntry), s.Canonical → t < 64 → s.live = true → s.unitDown 3 t = false → s.mapped t = true → s.freeChannel t = some c →
     (s.streamsOf t).find? (fun x => s.resumable x.2 (s.run x.1)) = some (j, e) →
     Answers (exec (.streamResume t) s) fun r =>
       r.cmd j = some { e with unit := .channel c, resv := e.resv ++ (s.run j).released } ∧ (r.run j).halt = none ∧ (r.run j).wait = .ready ∧ (r.run j).pos = (s.run j).pos ∧ r.mem = s.mem) ∧
   (∀ (s : State) (t p n j : Nat) (e : JEntry), s.Canonical → t < 64 → s.phys t = some p →
     (((s.streamsOf t).filter (fun x => (s.run x.1).blocked && s.isBlocked x.1 x.2 && s.conflicts x.2)).filter (fun x => watchdogEligible x.2)).getLast? = some (j, e) →
     (s.run j).halt = none → s.freeHalt t = some n →
     Answers (exec (.creditWatchdog t) s) fun r =>
       r.cmd j = some { e with unit := .none, resv := [] } ∧ (r.run j).halt = some (n, 5) ∧ (r.run j).released = e.resv ∧
       r.get (Fld.STR_WDOGCNT_HALTS p) = min (2 ^ (Fld.STR_WDOGCNT_HALTS p).n - 1) (s.get (Fld.STR_WDOGCNT_HALTS p) + 1) ∧ r.mem = s.mem))

/-- R272 to R275, R279: an ACCUM stages the segment in hand; the staged segment, its norm partial and its bit commit together; a base die then applies each block by the accumulate-on-write rule. -/
def Obligations.GradientRule : Prop :=
  (∀ (s : State) (j p c : Nat) (e : JEntry) (bs : List StagedBlock), s.onChannel j = some (e, p, c) → tOp e.words = 3 → (s.segmentCredit j e).isSome = true → nmem e.blocks e.segs = false →
    (s.run j).staged = false → (s.run j).pos < sSegEnd e.words e.segs →
    s.gStage p e (numsFrom (s.run j).pos (sSegEnd e.words e.segs - (s.run j).pos)) = some bs → s.stagingRoom bs = true →
    Answers (exec (.accum j StreamObs.none) s) fun t =>
      (t.run j).staged = true ∧ (t.run j).held = bs ∧ (t.run j).pos = sSegEnd e.words e.segs ∧ SameBut [.regs, .streams] s t) ∧
  (∀ (s : State) (j p c : Nat) (e : JEntry), s.onChannel j = some (e, p, c) → tOp e.words = 3 → (s.run j).staged = true → s.blocksStand (s.run j).held State.dramRange = .served →
    Answers (exec (.segmentCommit j) s) fun t =>
      t.applying = s.applying ++ [(j, (s.run j).held)] ∧ t.cmd j = some { e with blocks := nadd e.blocks e.segs } ∧
      t.net.vote.norm = (s.net.vote.norm + if sNorm e.words then ((s.run j).held.map (fun b => s.gSquares b)).sum else 0) % 2 ^ 640 ∧
      (t.run j).staged = false ∧ SameBut [.journal, .net, .streams, .applying] s t) ∧
  (∀ (s : State) (j : Nat) (b : StagedBlock) (us : List FV), s.applying.find? (fun g => g.1 == j) = some (j, [b]) →
    s.poisonedIn b.value 32 = false → s.poisonedIn b.resid 32 = false → s.poisonedIn b.scale 1 = false →
    s.dramHeld b.value 32 = .served → s.dramHeld b.resid 32 = .served → s.dramHeld b.scale 1 = .served →
    overlaps b.value 32 b.resid 32 = false → overlaps b.value 32 b.scale 1 = false → overlaps b.resid 32 b.scale 1 = false → s.gSum b = some us →
    Answers (exec (.accumulateOnWrite j) s) fun t =>
      t.applying = s.applying.erase (j, [b]) ∧ (t.rb b.scale).toNat = (encodeG8R us).1 % 256 ∧
      (∀ i (h : i < (encodeG8R us).2.1.length), i < 32 → t.rb (b.value + i) = BitVec.ofNat 8 (encodeG8R us).2.1[i]) ∧
      (∀ i (h : i < (encodeG8R us).2.2.1.length), i < 32 → t.rb (b.resid + i) = BitVec.ofNat 8 (encodeG8R us).2.2.1[i]) ∧
      ∀ x, overlaps x 1 b.value 32 = false → overlaps x 1 b.resid 32 = false → x ≠ b.scale → t.rb x = s.rb x)

/-- R243 to R252: a forward route job that nothing holds leaves WAIT, selects each token's experts from its scores, and builds its passes; the job has no MASK and no MINDIR. R253 to R256, R464: a pass of a job that is building takes a buffer credit and its record, has its planes and rows written and its FILLMARK raised, and its instances are accepted while there is room. -/
def Obligations.RouteJobRule : Prop :=
  (∀ (s : State) (j : Nat) (e : JEntry) (r : RouteRun) (p : RoutePlan) (kt : Nat) (ks : Nat → Nat), s.routeOf j = some (e, r, p) → r.st = .wait → s.routeFree j e r p = true →
     s.waitPoisoned e = false → s.waitsOk e = true → e.empty = false → rjMindir e.words = false → rjMask e.words = 0 → rjDir e.words ≠ 1 → p.k ≤ p.e → 0 < rjMmax e.words →
     let ws := e.words
     let m := rjMmax ws
     s.Clean (rjTags ws) (8 * m) kt → (∀ i, i < m → s.Clean (rjScores ws + i * p.scoreRow) (4 * p.e) (ks i)) →
     let tags := wordsOfBytes m (s.rbs kt (8 * m))
     let biases := (numsFrom 0 p.e).map (fun x => ((s.layer r.cluster p.lslot).expert x).bias)
     let sel := (numsFrom 0 m).map (fun i => routeToken p biases (numsFrom 0 p.e) (f32sOf p.e (s.rbs (ks i) (4 * p.e))))
     tags.any (tagBad (rjMb ws)) = false → (∀ w ∈ planeWrites p ws sel, ∃ k, s.Plain w.1 w.2.length k) →
     Answers (exec (.routeJob j) s) fun t =>
       ∃ r', sfind t.drover.jobs j = some r' ∧ r'.st = .build ∧ r'.rows = m ∧ r'.tags = tags ∧ r'.sel = sel ∧ r'.passes = buildPasses p.e p.packmax (s.homeOf p) (countOf sel)) ∧
  (∀ (s : State) (j q : Nat) (e : JEntry) (r : RouteRun) (p : RoutePlan) (kr : Nat → Nat), s.routeOf j = some (e, r, p) → r.st = .build → r.err = false → r.sets.length = r.issued → r.sent = 0 →
     let ps := r.passes.getD r.issued ⟨0, []⟩
     let pl := placement (s.section_ 6) p ((ps.segs.head?.map (·.expert)).getD 0)
     let b := if pl.sets = 1 then 0 else sget 0 s.drover.turns (32 * pl.tile + pl.bpool)
     let copies := (ps.segs.map r.segCopies).flatten
     s.phys pl.tile = some q → q < 68 → 0 < s.pool pl.tile pl.bpool → pl.bpool < 32 → pl.fillmark < 64 → s.grantable pl.tile (pl.prec b) = true →
     (∀ c ∈ copies, s.Clean (rjTokens e.words + c.1 * p.inBytes) p.inBytes (kr c.1)) →
     let rows := copies.map (fun c => s.rbs (kr c.1) p.inBytes)
     let ws := r.fillWrites ps (s.bufStart pl.tile (pl.prec b)) (s.capOf pl.tile pl.prec0) (rowPitch p (p.template (s.section_ 6) (rjDir e.words == 1))) rows
     Answers (exec (.passFill j r.issued) s) fun t =>
       t.pool pl.tile pl.bpool = s.pool pl.tile pl.bpool - 1 ∧ t.markCount pl.tile pl.fillmark = min 65535 (s.markCount pl.tile pl.fillmark + 1) ∧
       t.resvState pl.tile (pl.prec b) = some .held ∧
       (∀ x, t.rb x = (s.wbsAll (ws.map (fun w => (spKey q w.1, w.2)))).rb x) ∧
       (∃ r', sfind t.drover.jobs j = some r' ∧ r'.sets = r.sets ++ [b] ∧ ⟨r.issued, pl.tile, pl.prec b, pl.bpool⟩ ∈ r'.held) ∧
       (s.ringRoom pl.ring = true → s.journalFull = false → ps.segs ≠ [] → p.template (s.section_ 6) (rjDir e.words == 1) ≠ [] →
         ∃ c, t.cmd s.nextJseq = some c ∧ c.parent = j ∧ c.target = .tileRing pl.ring ∧ c.tile = pl.tile ∧ c.sub = 0 ∧ c.st = .accepted))

/-- R257, R258, R263: a finished segment's output rows go to STAGE at its tokens' slots; the staged rows of each token are then combined into OUT and the job commits. -/
def Obligations.ScatterAndCombine : Prop :=
  (∀ (s : State) (j pass seg q : Nat) (e : JEntry) (r : RouteRun) (p : RoutePlan) (kw : Nat → Nat), s.routeOf j = some (e, r, p) → r.err = false → r.st = .build ∨ r.st = .run →
    let tpl := p.template (s.section_ 6) (rjDir e.words == 1)
    let segs := (r.passes.getD pass ⟨0, []⟩).segs
    seg < segs.length → nmem r.segsDone (8 * pass + seg) = false → s.segmentOver j pass seg tpl.length r = true →
    let g := segs.getD seg ⟨0, 0, 0, 0⟩
    let pl := placement (s.section_ 6) p g.expert
    let cap := s.capOf pl.tile pl.prec0
    let start := s.bufStart pl.tile (pl.prec (r.sets.getD pass 0))
    let o := opN (s.instance_ e r p pass seg (tpl.length - 1)) 2
    s.phys pl.tile = some q →
    (∀ i, i < g.rows → s.spPoisoned q [(o.rowOff i, p.outBytes), (start + 8 * (g.first + i), 8), (start + 8 * cap + 4 * (g.first + i), 4)] = false) →
    let writes := (numsFrom 0 g.rows).map (fun i =>
      let idx := leNat (s.rbs (spKey q (start + 8 * cap + 4 * (g.first + i))) 4)
      let slot := bits (wordAt (s.rbs (spKey q (start + 8 * (g.first + i))) 8) 0) 18 4
      (rjStage e.words + (idx * p.k + slot) * p.outBytes, s.rbs (spKey q (o.rowOff i)) p.outBytes))
    (∀ w ∈ writes, s.Plain w.1 w.2.length (kw w.1)) →
    Answers (exec (.scatter j pass seg) s) fun t =>
      (∀ x, t.rb x = (s.wbsAll (writes.map (fun w => (kw w.1, w.2)))).rb x) ∧ ∃ r', sfind t.drover.jobs j = some r' ∧ nmem r'.segsDone (8 * pass + seg) = true) ∧
  (∀ (s : State) (j ks ko : Nat) (e : JEntry) (r : RouteRun) (p : RoutePlan), s.routeOf j = some (e, r, p) → e.st = .dispatched → e.parent = 0 → e.onTile = false → r.st = .combine → r.err = false → r.blocks = [] →
    let row (i : Nat) : List Byte := combineRow (s.fmt p.outFmt) p.outBytes p.k (s.rbs (ks + i * p.k * p.outBytes) (p.k * p.outBytes))
    (∀ i, i < r.rows → s.Clean (rjStage e.words + i * p.k * p.outBytes) (p.k * p.outBytes) (ks + i * p.k * p.outBytes) ∧ (row i).length ≤ p.outBytes ∧
      s.Plain (rjOut e.words + i * p.outBytes) (row i).length (ko + i * p.outBytes)) →
    overlaps ks (r.rows * p.k * p.outBytes) ko (r.rows * p.outBytes) = false →
    Answers (exec (.combine j) s) fun t =>
      t.Committed j (if r.visited.any (fun x => decide (1 < r.passesOf x)) then .split else .ok) r.result.1 r.result.2 ∧
      (∀ i, i < r.rows → ∀ b (h : b < (row i).length), t.rb (ko + i * p.outBytes + b) = (row i)[b]) ∧ BytesBut ko (r.rows * p.outBytes) s t)

/-- R264, R265, R267, R270: a layer slot closes its open step on the verdict: LAST, pending biases and counts are rolled, and on an apply the visit area is written and the bias controller runs; a write of PEND sets the pending bias. -/
def Obligations.StepCloseRule : Prop :=
  (∀ (s : State) (d slot n : Nat), d < 4 → slot < 64 → (s.layer d slot).step = some n → s.reached n = some 2 → s.live = true → s.unitDown 2 d = false → s.clusterOn d = true → s.stepBusy d slot n = false →
    Answers (exec (.stepClose d slot) s) fun t =>
      (t.layer d slot).step = some (n + 1) ∧ (t.layer d slot).verdict = 2 ∧ (∀ x, (t.layer d slot).expert x = ((s.layer d slot).expert x).roll) ∧ SameBut [.drover] s t) ∧
  (∀ (s : State) (d slot n i k : Nat) (p : RoutePlan), d < 4 → slot < 64 → (s.layer d slot).step = some n → s.reached n = some 1 → s.live = true → s.unitDown 2 d = false → s.clusterOn d = true →
    s.stepBusy d slot n = false → s.slotPlan d slot = some (i, p) → s.Plain p.visit (visitBytes p.e (s.layer d slot)).length k →
    let total := ((numsFrom 0 p.e).map (fun x => ((s.layer d slot).expert x).cur)).foldl (· + ·) 0
    let cs := (numsFrom 0 p.ctln).map (ctlEntry (s.section_ 6) p)
    let bias (x : Nat) : F32 := let y := (s.layer d slot).expert x
      if p.ctln = 0 ∨ s.flag (Fld.DRV_CTL_FREEZE d) = true ∨ total = 0 ∨ p.e ≤ x then y.bias else (controlBias cs p y.cur total y.bias).1
    Answers (exec (.stepClose d slot) s) fun t =>
      (t.layer d slot).step = some (n + 1) ∧ (t.layer d slot).verdict = 1 ∧
      (∀ x, let y := (s.layer d slot).expert x
        (t.layer d slot).expert x = ⟨0, y.cur, y.pend.getD (bias x), if 0 < y.cur then n else y.last, none⟩) ∧
      (∀ b (h : b < (visitBytes p.e (s.layer d slot)).length), t.rb (k + b) = (visitBytes p.e (s.layer d slot))[b]) ∧ BytesBut k (visitBytes p.e (s.layer d slot)).length s t) ∧
  (∀ (s : State) (src : RegSrc) (d : Nat) (v : BitVec 32), d < 4 → s.power.porst = false → s.unavailable (Reg.DRV_EXPBIAS d) = false →
    let slot := s.get (Fld.DRV_SEL_LSLOT d)
    let x := s.get (Fld.DRV_SEL_EXPERT d)
    Answers (exec (.pend src d v) s) fun t =>
      (t.layer d slot).expert x = { (s.layer d slot).expert x with pend := some v } ∧ (∀ y, y ≠ x → (t.layer d slot).expert y = (s.layer d slot).expert y) ∧ SameBut [.regs, .mgmt, .chj, .drover] s t)

/-- R279, R281: VOTE_SEAL reads LOSS and COUNT, samples and clears the norm partial and the non-finite latch, writes the record and stays open until the verdict. R282, R416, R417: a launch sends the package's own contribution to its row's root or takes it there itself; a root holds a level's inputs until the last one and then sends their combination, in ascending order, to the next root; one that comes to the herd root after its vote spoke is counted. -/
def Obligations.VoteRule : Prop :=
  (∀ (s : State) (j k : Nat) (e : JEntry), s.Ready j e → e.target = .collective → colOp e.words = 1 → e.sent = false → colSrc e.words = 0 ∨ s.Clean (colSrc e.words) 16 k →
     let loss := if colSrc e.words = 0 then 0 else wordAt (s.rbs k 16) 0
     let count := if colSrc e.words = 0 then 0 else wordAt (s.rbs k 16) 8
     let latch := s.get Fld.COL_VOTESTEP_LATCH ||| (if fvFinite (ofF64 loss) = false ∧ s.get Fld.COL_VOTECFG_NFSRC / 2 % 2 = 1 then 2 else 0)
     Answers (exec (.voteSeal j) s) fun t =>
       t.reg Reg.COL_VOTEREC = s.normRounded ∧ t.reg Reg.COL_VOTEREC_8 = loss ∧ t.reg Reg.COL_VOTEREC_10 = count ∧
       t.get Fld.COL_VOTEREC_18_STEP = colKey e.words ∧ t.get Fld.COL_VOTEREC_18_NFBITS = latch ∧
       t.get Fld.COL_VOTESTEP_LATCH = 0 ∧ t.get Fld.COL_VOTESTEP_STATE = 1 ∧ t.openStep = s.openStep ∧
       t.net.vote = { s.net.vote with norm := 0, sealed_ := true } ∧
       (∃ e', t.cmd j = some e' ∧ e'.st = .dispatched ∧ e'.sent = true ∧ e'.fin = none) ∧ SameBut [.regs, .journal, .host, .mgmt, .tier, .net] s t) ∧
  ((∀ (s : State) (n p : Nat), let c := s.calEntry n
     let v := s.nowSpokes + s.voteLead
     let up := levelRoot s.herdAddr 0
     c.kind = 2 → n < s.calSize → c.dueAt (v / 4096) (v % 4096) = true → s.hasFired (2 * n + 1) = false → s.voteShared n v true = false → s.calAllowed c = true →
     s.flag Fld.WHL_STAT_PAUSED = false → up ≠ s.herdAddr → s.nextHop up = some p → s.isRetired 2 p = false →
     Answers (exec (.vote n) s) fun t =>
       t.get Fld.COL_VOTESTEP_STATE = 2 ∧ t.net.vote = { s.net.vote with launched := some v } ∧
       s.Queued t p (s.newMsg up 6 ([BitVec.ofNat 64 s.openStep, spokeWord v] ++ s.ownContrib.words)) 0 ∧ RegsBut [Reg.COL_VOTESTEP] s t ∧ SameBut [.regs, .wheel, .net] s t) ∧
   (∀ (s : State) (n : Nat), let c := s.calEntry n
     let v := s.nowSpokes + s.voteLead
     c.kind = 2 → n < s.calSize → c.dueAt (v / 4096) (v % 4096) = true → s.hasFired (2 * n + 1) = false → s.voteShared n v true = false → s.calAllowed c = true →
     s.flag Fld.WHL_STAT_PAUSED = false → levelRoot s.herdAddr 0 = s.herdAddr → s.partialOf true s.openStep v 0 = none → 1 < s.levelSize 0 →
     Answers (exec (.vote n) s) fun t =>
       t.get Fld.COL_VOTESTEP_STATE = 2 ∧ t.net.vote.launched = some v ∧ (⟨s.openStep, true, 0, v, 0, 0, false, [(levelPlace s.herdAddr 0, s.ownContrib.words)]⟩ : Partial) ∈ t.net.reductions) ∧
   (∀ (s : State) (m : Msg) (level : Nat), s.net.inbox.find? (fun m => m.mtype == 6) = some m → s.levelOf m.src = some level →
     let step := (wget m.extra 0).toNat
     let v := (wget m.extra 1).toNat / 16
     let p := (s.partialOf true step v level).getD ⟨step, true, level, v, 0, 0, false, []⟩
     let p' := { p with inputs := sinsert p.inputs (levelPlace m.src level) (Contrib.ofWords (m.extra.drop 2)).words }
     s.nowSpokes < v → sfind p.inputs (levelPlace m.src level) = none → p'.inputs.length < s.levelSize level ∨ level = 2 →
     Answers (exec .contrib s) fun t => p' ∈ t.net.reductions ∧ t.net.inbox = s.net.inbox.erase m ∧ t.net.ports = s.net.ports ∧ SameBut [.net] s t) ∧
   (∀ (s : State) (m : Msg) (level q : Nat) (c : Contrib), s.net.inbox.find? (fun m => m.mtype == 6) = some m → s.levelOf m.src = some level → level < 2 →
     let step := (wget m.extra 0).toNat
     let v := (wget m.extra 1).toNat / 16
     let p := (s.partialOf true step v level).getD ⟨step, true, level, v, 0, 0, false, []⟩
     let inputs := sinsert p.inputs (levelPlace m.src level) (Contrib.ofWords (m.extra.drop 2)).words
     let up := levelRoot s.herdAddr (level + 1)
     s.nowSpokes < v → sfind p.inputs (levelPlace m.src level) = none → s.levelSize level ≤ inputs.length → combineVotes (inputs.map (fun x => x.2)) = some c →
     up ≠ s.herdAddr → s.nextHop up = some q → s.isRetired 2 q = false →
     Answers (exec .contrib s) fun t => s.Queued t q (s.newMsg up 6 ([BitVec.ofNat 64 step, spokeWord v] ++ c.words)) 0 ∧ t.net.inbox = s.net.inbox.erase m ∧ SameBut [.net] s t) ∧
   (∀ (s : State) (m : Msg), s.net.inbox.find? (fun m => m.mtype == 6) = some m → s.levelOf m.src = some 2 → (wget m.extra 1).toNat / 16 < s.nowSpokes →
     Answers (exec .contrib s) fun t => s.Up t Fld.COL_REDCNT_LATE ∧ t.net.reductions = s.net.reductions ∧ RegsBut [Reg.COL_REDCNT] s t ∧ SameBut [.regs, .net] s t))

/-- R283: the decision on a complete record: a non-finite value skips first, then the gradient norm, then the loss spike; an apply moves the averages and clears the consecutive skips. R283, R284, R418: at the vote spoke the herd root decides the open step on a complete and sealed herd record and defers it on any other; a verdict record that arrives is acted on once: the sealed VOTE_SEAL completes, the open step advances and the verdict is delivered. R418: a neighbour that asks gets the newest record of the step, of that vote spoke or later; a package with no verdict 256 spokes after the vote spoke asks every neighbour whose port is UP. -/
def Obligations.VerdictRule : Prop :=
  (∀ (d : Detector) (c : Contrib) (e : F64) (a : Word) (skips step v : Nat),
     let r := decide_ d c e a skips step v
     let act (i : Nat) : Prop := d.actions / 2 ^ i % 2 = 1
     let nonFinite : Prop := c.nf = true ∧ act 0
     let norm : Prop := fvLt (ofF64 d.gnmax) (ofF64 (f64Sqrt c.gn2)) = true ∧ act 1
     let mean := f64Div c.loss (toF64 (fvNat c.count.toNat))
     let spike : Prop := c.count ≠ 0 ∧ d.warmup ≤ a.toNat ∧ a ≠ 0 ∧ fvLt (ofF64 (f64Mul (toF64 (ofF32 d.ratio)) e)) (ofF64 mean) = true ∧ act 2
     r.g = f64Sqrt c.gn2 ∧ r.mean = (if c.count = 0 then nan64 else mean) ∧
     (nonFinite → r.verdict = 2 ∧ r.reason = 1) ∧ (¬ nonFinite → norm → r.verdict = 2 ∧ r.reason = 2) ∧ (¬ nonFinite → ¬ norm → spike → r.verdict = 2 ∧ r.reason = 3) ∧
     (nonFinite ∨ norm ∨ spike → r.e = e ∧ r.a = a ∧ r.skips = min 255 (skips + 1)) ∧
     (¬ nonFinite → ¬ norm → ¬ spike → r.verdict = 1 ∧ r.reason = 0 ∧ r.skips = 0 ∧ (c.count = 0 → r.e = e ∧ r.a = a) ∧
       (c.count ≠ 0 → r.a = a + 1 ∧ r.e = if a = 0 then mean else toF64 (fvAdd (fvMul (ofF32 d.beta) (ofF64 (f64Sub e mean))) (ofF64 mean))))) ∧
  ((∀ (s : State) (n : Nat) (p : Partial) (c : Contrib), let q := s.calEntry n
     let v := s.nowSpokes
     q.kind = 2 → n < s.calSize → s.calDue q = true → s.hasFired (2 * n) = false → s.voteShared n v true = false → s.calAllowed q = true → s.herdAddr = 0 → s.live = true →
     s.partialOf true s.openStep v 2 = some p → s.levelSize 2 ≤ p.inputs.length → combineVotes (p.inputs.map (fun x => x.2)) = some c → c.uns = false → s.hasVerdict s.openStep v = false →
     let r := decide_ (s.detector s.openStep).1 c (s.reg Reg.COL_VERDICT_10) (s.reg Reg.COL_VERDICT_18) (s.get Fld.COL_VOTESTEP_SKIPS) s.openStep v
     Answers (exec (.voteDecision n) s) fun t =>
       t.openStep = (s.openStep + 1) % 2 ^ 32 ∧ t.get Fld.COL_VOTESTEP_LAST = r.verdict ∧ t.get Fld.COL_VOTESTEP_SKIPS = r.skips ∧ t.get Fld.COL_VOTESTEP_DEFERS = 0 ∧ t.get Fld.COL_VOTESTEP_STATE = 0 ∧
       t.reg Reg.COL_VERDICT_8 = r.g ∧ t.reg Reg.COL_VERDICT_10 = r.e ∧ t.reg Reg.COL_VERDICT_18 = r.a ∧ t.reached s.openStep = some r.verdict ∧ t.hasVerdict s.openStep v = true ∧
       s.Up t Fld.WHL_CALCNT_FIRED ∧
       s.Up t (if r.verdict = 1 then Fld.COL_VOTECNT_APPLY else if r.reason = 1 then Fld.COL_VOTECNT_NONFINITE else if r.reason = 2 then Fld.COL_VOTECNT_NORM else Fld.COL_VOTECNT_SPIKE)) ∧
   (∀ (s : State) (n : Nat), let q := s.calEntry n
     let v := s.nowSpokes
     q.kind = 2 → n < s.calSize → s.calDue q = true → s.hasFired (2 * n) = false → s.voteShared n v true = false → s.calAllowed q = true → s.herdAddr = 0 → s.live = true →
     (∀ p c, s.partialOf true s.openStep v 2 = some p → s.levelSize 2 ≤ p.inputs.length → combineVotes (p.inputs.map (fun x => x.2)) = some c → c.uns = true) → s.hasVerdict s.openStep v = false →
     Answers (exec (.voteDecision n) s) fun t =>
       t.openStep = s.openStep ∧ t.get Fld.COL_VOTESTEP_LAST = 3 ∧ s.Up t Fld.COL_VOTESTEP_DEFERS ∧ s.Up t Fld.COL_VOTECNT_DEFER ∧ t.net.vote.sealed_ = s.net.vote.sealed_ ∧
       t.net.vote.delivered = s.net.vote.delivered ∧ t.journal = s.journal ∧ t.reg Reg.COL_VERDICT_10 = s.reg Reg.COL_VERDICT_10 ∧ t.reg Reg.COL_VERDICT_18 = s.reg Reg.COL_VERDICT_18) ∧
   (∀ (s : State) (m : Msg), s.net.inbox.find? (fun m => m.mtype == 7) = some m →
     let r := Verdict.ofWords m.extra
     s.hasVerdict r.step r.spoke = false → s.net.vote.opened = true → r.step = s.openStep → r.verdict = 1 ∨ r.verdict = 2 → s.Canonical → (∀ i e, s.cmd i = some e → e.target = .collective → e.parent = 0) →
     Answers (exec .verdict s) fun t =>
       t.openStep = (s.openStep + 1) % 2 ^ 32 ∧ t.get Fld.COL_VOTESTEP_LAST = r.verdict ∧ t.get Fld.COL_VOTESTEP_DEFERS = 0 ∧ t.net.vote.sealed_ = false ∧ t.reached r.step = some r.verdict ∧
       t.reg Reg.COL_VERDICT_8 = r.g ∧ t.reg Reg.COL_VERDICT_10 = r.e ∧ t.reg Reg.COL_VERDICT_18 = r.a ∧
       ∀ j e, s.cmd j = some e → e.target = .collective → colOp e.words = 1 → colKey e.words = r.step → e.st = .dispatched → e.sent = true → e.fin = none → e.refusal = none →
         t.Committed j (if r.verdict = 2 then .skippedStep else .ok) r.g (wordOf [(32, 32, (toF32 (ofF64 r.mean)).toNat), (4, 4, r.reason), (0, 4, min 15 (s.get Fld.COL_VOTESTEP_DEFERS))])) ∧
   (∀ (s : State) (m : Msg), s.net.inbox.find? (fun m => m.mtype == 7) = some m → s.hasVerdict (Verdict.ofWords m.extra).step (Verdict.ofWords m.extra).spoke = true → s.parentOf ≠ some m.src →
     Answers (exec .verdict s) fun t => t.net.vote = s.net.vote ∧ SameBut [.net] s t)) ∧
  ((∀ (s : State) (m : Msg) (w : List Word) (p : Nat), s.net.inbox.find? (fun m => m.mtype == 8) = some m →
     (s.net.vote.log.filter (fun w => (Verdict.ofWords w).step == (wget m.extra 0).toNat && decide ((wget m.extra 1).toNat / 16 ≤ (Verdict.ofWords w).spoke))).getLast? = some w →
     s.nextHop m.src = some p → s.isRetired 2 p = false →
     Answers (exec .verdictReq s) fun t => s.Queued t p (s.newMsg m.src 7 w) 0 ∧ t.net.inbox = s.net.inbox.erase m ∧ t.net.vote = s.net.vote ∧ SameBut [.net] s t) ∧
   (∀ (s : State) (v p : Nat), s.net.vote.launched = some v → v + 256 ≤ s.nowSpokes → s.hasVerdict s.openStep v = false → s.live = true →
     p < 6 → s.lnkState p = lnkUp → s.isRetired 2 p = false → s.nextHop (s.neighbour p) = some p → (∀ q, q < 6 → q ≠ p → s.lnkState q = lnkUp → s.nextHop (s.neighbour q) ≠ some p) →
     Answers (exec .verdictReqRepeat s) fun t =>
       (∃ tag, s.Queued t p { (s.newMsg (s.neighbour p) 8 [BitVec.ofNat 64 s.openStep, spokeWord v]) with tag := tag } 0) ∧ t.net.vote = s.net.vote ∧ SameBut [.net] s t))

/-- R419, R420: a REDUCE reads SRC and sends one contribution; a level root holds the inputs until the last one and then sends their combination on; the result is written to DST and the REDUCE completes, REJECTED_SHAPE on a mismatch and TIMEOUT on none. -/
def Obligations.ReduceRule : Prop :=
  (∀ (s : State) (j k p : Nat) (e : JEntry), s.Ready j e → e.target = .collective → colOp e.words = 2 → e.sent = false → e.disp = 0 →
    let up := levelRoot s.herdAddr 0
    let n := redCount e.words
    up ≠ s.herdAddr → s.nextHop up = some p → s.portLost p j = false → s.Clean (colSrc e.words) (8 * n) k →
    Answers (exec (.collectiveReduce j) s) fun t =>
      s.Queued t p (s.newMsg up 9 (redWord (colKey e.words) n (redRop e.words) false :: wordsOfBytes n (s.rbs k (8 * n)))) j ∧
      (∃ e', t.cmd j = some e' ∧ e'.st = .dispatched ∧ e'.sent = true ∧ e'.fin = none) ∧ SameBut [.regs, .journal, .host, .mgmt, .tier, .net] s t) ∧
  (∀ (s : State) (m : Msg) (level : Nat), s.net.inbox.find? (fun m => m.mtype == 9) = some m → s.levelOf m.src = some level →
    let w := wget m.extra 0
    let p := (s.partialOf false (bits w 0 32) 0 level).getD ⟨bits w 0 32, false, level, 0, bits w 32 5, bits w 40 3, false, []⟩
    let p' := { p with inputs := sinsert p.inputs (levelPlace m.src level) (m.extra.drop 1) }
    sfind p.inputs (levelPlace m.src level) = none → p.mismatch = false → p.count = bits w 32 5 → p.rop = bits w 40 3 → p'.inputs.length < s.levelSize level →
    Answers (exec .rcontrib s) fun t => p' ∈ t.net.reductions ∧ t.net.ports = s.net.ports ∧ SameBut [.net] s t) ∧
  (∀ (s : State) (m : Msg) (level q : Nat), s.net.inbox.find? (fun m => m.mtype == 9) = some m → s.levelOf m.src = some level → level < 2 →
    let w := wget m.extra 0
    let p := (s.partialOf false (bits w 0 32) 0 level).getD ⟨bits w 0 32, false, level, 0, bits w 32 5, bits w 40 3, false, []⟩
    let inputs := sinsert p.inputs (levelPlace m.src level) (m.extra.drop 1)
    let up := levelRoot s.herdAddr (level + 1)
    sfind p.inputs (levelPlace m.src level) = none → p.mismatch = false → p.count = bits w 32 5 → p.rop = bits w 40 3 → s.levelSize level ≤ inputs.length →
    up ≠ s.herdAddr → s.nextHop up = some q → s.isRetired 2 q = false →
    Answers (exec .rcontrib s) fun t =>
      s.Queued t q (s.newMsg up 9 (redWord (bits w 0 32) (bits w 32 5) (bits w 40 3) false :: combineInputs (bits w 40 3) (inputs.map (fun x => x.2)))) 0 ∧ SameBut [.net] s t) ∧
  (∀ (s : State) (m : Msg) (j k : Nat) (e : JEntry), s.net.inbox.find? (fun m => m.mtype == 10) = some m → s.redWaiting (bits (wget m.extra 0) 0 32) = some (j, e) → s.cmd j = some e → e.parent = 0 → e.refusal = none →
    let out := bytesOfWords ((m.extra.drop 1).take (redCount e.words))
    bit (wget m.extra 0) 48 = false → s.Plain (redDst e.words) out.length k →
    Answers (exec .rresult s) fun t =>
      t.Committed j .ok 0 0 ∧ s.Up t Fld.COL_REDCNT_DONE ∧ (bits (wget m.extra 0) 0 32, false, m.extra.drop 1) ∈ t.net.results ∧
      (∀ i (h : i < out.length), t.rb (k + i) = out[i]) ∧ BytesBut k out.length s t) ∧
  (∀ (s : State) (m : Msg) (j : Nat) (e : JEntry), s.net.inbox.find? (fun m => m.mtype == 10) = some m → s.redWaiting (bits (wget m.extra 0) 0 32) = some (j, e) → s.cmd j = some e → e.parent = 0 → e.refusal = none →
    bit (wget m.extra 0) 48 = true →
    Answers (exec .rresult s) fun t => t.Committed j .rejectedShape 0 0 ∧ t.mem = s.mem) ∧
  (∀ (s : State) (j : Nat) (e : JEntry), s.cmd j = some e → e.target = .collective → colOp e.words = 2 → e.st = .dispatched → e.sent = true → e.fin = none → e.parent = 0 → e.refusal = none →
    Answers (exec (.reduceTimeout j) s) fun t =>
      t.Committed j .timeout 0 0 ∧ s.Up t Fld.COL_REDCNT_TIMEOUT ∧ (∀ p ∈ t.net.reductions, p.vote = true ∨ p.key ≠ colKey e.words) ∧ t.mem = s.mem)

/-- R291, R292, R300, R305: a SWEEP job that waits for nothing is dispatched and awaits its verdict; on apply the commit bits of its rules are cleared and its first rule begins; a rule of experts begins with the matrices that its visit area names. R308, R310: on a skip a job restores each rule's G8R buffer to zeros or from its copy and completes SKIPPED_STEP; here a job of one rule. R293, R310: FINAL, once every other job of its step has completed, writes the step and the applied count to ACTAB, so that the next step is the open one, and the job commits. The difference stream is off. -/
def Obligations.SweepJobs : Prop :=
  ((∀ (s : State) (j : Nat) (e : JEntry) (r : SweepRun), s.Ready j e → sfind s.sweep.jobs j = some r → r.st = .wait → s.sequencerOn r.seq = true → s.flag (Fld.UPD_CTL_HOLD r.seq) = false →
     s.sweepVerdict (swStep e.words) = none →
     Answers (exec (.sweep j) s) fun t =>
       (∃ r', sfind t.sweep.jobs j = some r' ∧ r'.st = .verdict ∧ r'.slot = r.slot) ∧ (∃ e', t.cmd j = some e' ∧ e'.st = .dispatched ∧ e'.fin = none) ∧ SameBut [.regs, .journal, .sweep] s t) ∧
   (∀ (s : State) (j : Nat) (e : JEntry) (r : SweepRun) (u : Rule), s.Sweeping j e r → r.st = .verdict → s.sweepVerdict (swStep e.words) = some 1 → s.MaySweep r.seq (swStep e.words) →
     swResume e.words = false → r.cleared = false → s.rule (swFirst e.words) = some u → u.experts = 0 → 0 < u.bits_ → 0 < swRules e.words →
     Answers (exec (.sweep j) s) fun t =>
       (∃ r', sfind t.sweep.jobs j = some r' ∧ r'.st = .sweep ∧ r'.cleared = true ∧ r'.ended = 0 ∧ r'.block = 0 ∧ r'.mats = [⟨0, 0⟩] ∧ r'.phase = if u.matrix then .prep else .commit) ∧
       ∀ n v, swFirst e.words ≤ n → n < swFirst e.words + swRules e.words → s.rule n = some v → ∀ i, i < v.bits_ → t.commitBit e.words v i = false) ∧
   (∀ (s : State) (j : Nat) (e : JEntry) (r : SweepRun) (n : Nat) (u : Rule), s.Sweeping j e r → r.st = .sweep → r.phase = .start → r.ended < swRules e.words → s.ruleInHand e r = some (n, u) → 0 < u.experts →
     s.Clean u.visit (visitLen u.experts) u.visit →
     let ms := (s.touched r.seq u (swStep e.words) (s.rbs u.visit (visitLen u.experts))).map (·.1)
     ms ≠ [] →
     Answers (exec (.sweep j) s) fun t =>
       (∃ r', sfind t.sweep.jobs j = some r' ∧ r'.st = .sweep ∧ r'.ended = r.ended ∧ r'.block = 0 ∧ r'.mats = ms ∧ r'.caught = r.caught + (ms.filter (fun m => decide (0 < m.d))).length) ∧
       t.mem = s.mem)) ∧
  (∀ (s : State) (j : Nat) (e : JEntry) (r : SweepRun) (u : Rule), s.Sweeping j e r → r.st = .verdict → s.sweepVerdict (swStep e.words) = some 2 → s.MaySweep r.seq (swStep e.words) →
     swRules e.words = 1 → swFinal e.words = false → s.rule (swFirst e.words) = some u →
     let planes (h : List Word) : List (Nat × Nat) := [(gValue h, gN h), (gResid h, gN h), (gScale h, gN h / 32)]
     let h := s.gHeader u.g
     let copy := planes (s.gHeader u.ccopy)
     s.Clean u.g 64 u.g → (u.restore = 1 → s.CleanAll ((u.ccopy, 64) :: copy) ∧ gN (s.gHeader u.ccopy) = gN h) → s.rangesHeld (planes h) = .served →
     Answers (exec (.sweep j) s) fun t =>
       t.Committed j .skippedStep (wordOf [(32, 32, r.committed), (0, 32, r.skipped)]) (wordOf [(32, 32, r.caught), (16, 16, 1)]) ∧ s.Up t (Fld.UPD_RESTORE_RULES r.seq) ∧
       ∀ x, t.rb x = (s.wbsAll (if u.restore = 1 then List.zipWith (fun (a c : Nat × Nat) => (a.1, s.rbs c.1 c.2)) (planes h) copy
         else (planes h).map (fun a => (a.1, List.replicate a.2 0)))).rb x) ∧
  (∀ (s : State) (j : Nat) (e : JEntry) (r : SweepRun), s.Sweeping j e r → swFinal e.words = true → r.st = .done → s.difOn = false →
     let step := swStep e.words
     let ac := (s.acOf r.seq + if r.skip then 0 else 1) % 2 ^ 32
     (∀ i x, (i, x) ∈ s.seqJobs r.seq → i ≠ j → s.cmdIs i (fun f => swStep f.words == step) = false) →
     s.rangesHeld ((s.actabWrites r.seq step ac).map (fun x => (x.1, x.2.length))) = .served →
     Answers (exec (.final j) s) fun t =>
       t.Committed j (if r.skip then .skippedStep else if r.skipped = 0 then .ok else .replayedOk) r.result.1 r.result.2 ∧
       t.openSweep r.seq = some ((step + 1) % 2 ^ 32) ∧ t.acOf r.seq = ac ∧ t.appliedAt r.seq step = ac ∧
       ∀ x, t.rb x = (s.wbsAll (s.actabWrites r.seq step ac)).rb x)

/-- R301 to R304, R307: PREP computes a matrix's momentum and direction into WORK with its PREPARED bit; SWEEP_COPY writes the copies made from the committed weights, and at the end of the last rule of a FINAL job DONEMARK has risen and the job waits for FINAL. -/
def Obligations.MatrixRule : Prop :=
  (∀ (s : State) (j n : Nat) (e : JEntry) (r : SweepRun) (u : Rule) (m : SweepMat), s.inHand j .prep = some (e, r, n, u, m) →
    let reads := s.prepReads u m.e
    let writes := s.prepWrites u (swStep e.words) (s.acOf r.seq + 1) m (reads.map (fun x => s.rbs x.1 x.2)) ++ [s.bitWrite e.words u m.e]
    s.CleanAll ((u.g, 64) :: reads) → s.rangesHeld (writes.map (fun x => (x.1, x.2.length))) = .served →
    Answers (exec (.prep j) s) fun t =>
      (∀ x, t.rb x = (s.wbsAll writes).rb x) ∧ (∃ r', sfind t.sweep.jobs j = some r' ∧ r'.st = .sweep ∧ r'.phase = .commit ∧ r'.mats = r.mats) ∧ t.journal = s.journal) ∧
  (∀ (s : State) (j n : Nat) (e : JEntry) (r : SweepRun) (u : Rule) (m : SweepMat), s.inHand j .copy = some (e, r, n, u, m) →
    let w := bfList (s.rbs (u.w + 2 * m.e * u.matLen) (2 * u.matLen))
    let step := swStep e.words
    let writes := (if u.copyA then s.copyWrites u step m.e false w else []) ++ (if u.copyB then s.copyWrites u step m.e true w else [])
    s.Clean (u.w + 2 * m.e * u.matLen) (2 * u.matLen) (u.w + 2 * m.e * u.matLen) → s.rangesHeld (writes.map (fun x => (x.1, x.2.length))) = .served →
    Answers (exec (.sweepCopy j) s) fun t =>
      (∀ x, t.rb x = (s.wbsAll writes).rb x) ∧
      (∀ m' l, r.mats = m :: m' :: l → ∃ r', sfind t.sweep.jobs j = some r' ∧ r'.mats = m' :: l ∧ r'.block = 0 ∧ r'.ended = r.ended) ∧
      (r.mats = [m] → r.ended + 1 = swRules e.words → swFinal e.words = true → u.donemark < 64 → (∀ p, s.phys u.donetile = some p → p < 68) →
        t.markCount u.donetile u.donemark = min 65535 (s.markCount u.donetile u.donemark + 1) ∧ ∃ r', sfind t.sweep.jobs j = some r' ∧ r'.st = .done ∧ r'.ended = r.ended + 1))

/-- R298, R299, R305, R306: a commit group of the block in hand writes its weights, moments and carry and sets its commit bit as one change; it writes nothing else. The difference stream is off. -/
def Obligations.CommitGroupRule : Prop :=
  (∀ (s : State) (j n : Nat) (e : JEntry) (r : SweepRun) (u : Rule) (m : SweepMat), s.inHand j .commit = some (e, r, n, u, m) → s.difOn = false →
    r.block < u.matBlocks → s.commitBit e.words u (u.bitOf m.e r.block) = false →
    let i := (u.blockSpan m.e r.block).1
    let reads := s.groupReads u m.e r.block
    let bss := reads.map (fun x => s.rbs x.1 x.2)
    let up := s.groupUpdate u e.words (s.acOf r.seq + 1) m i bss
    let writes := [(u.w + 2 * i, bfBytes up.1)] ++ up.2 ++ s.carryWrites u i bss ++ [s.bitWrite e.words u (u.bitOf m.e r.block)]
    s.CleanAll ((u.g, 64) :: reads) → s.rangesHeld (writes.map (fun x => (x.1, x.2.length))) = .served →
    Answers (exec (.commitGroup j) s) fun t =>
      (∀ x, t.rb x = (s.wbsAll writes).rb x) ∧ s.Up t (Fld.UPD_BLKCNT_COMMITTED r.seq) ∧ ∃ r', sfind t.sweep.jobs j = some r' ∧ r'.committed = r.committed + 1 ∧ r'.skipped = r.skipped) ∧
  (∀ (s : State) (j n : Nat) (e : JEntry) (r : SweepRun) (u : Rule) (m : SweepMat), s.inHand j .commit = some (e, r, n, u, m) →
    u.matBlocks ≤ r.block → r.block < u.matBlocks + u.stateBlocks → s.commitBit e.words u (u.bitOf m.e r.block) = false →
    let mv := u.stateMoves m.e (r.block - u.matBlocks)
    let writes := mv.map (fun x => (x.2.1, s.rbs x.1 x.2.2)) ++ [s.bitWrite e.words u (u.bitOf m.e r.block)]
    s.CleanAll (mv.map (fun x => (x.1, x.2.2))) → s.rangesHeld (writes.map (fun x => (x.1, x.2.length))) = .served →
    Answers (exec (.commitGroup j) s) fun t => (∀ x, t.rb x = (s.wbsAll writes).rb x) ∧ s.Up t (Fld.UPD_BLKCNT_COMMITTED r.seq))

/-- R324, R326, R333, R334: a promotion brings the object's flash content, or zeros for an object without a home, into its slot, which becomes CLEAN; a failed or timed-out one frees the slot and ends the command that waits on it; the tag of a timed-out read stays in quarantine, and its late data is counted and dropped. -/
def Obligations.PromotionRule : Prop :=
  (∀ (s : State) (n : Nat) (e : DirEnt), s.dirEnt n = some e → e.st = .promoting → nmem s.tier.lostObjs e.frame = false → e.evreq = false → e.invreq = false → n < s.slotCount → e.size ≤ 32 →
    Answers (exec (.promotion n) s) fun t =>
      t.dirEnt n = some { e with st := .clean, mask := 0, rewritten := 0 } ∧ s.Up t Fld.TIER_PROMCNT_PROMOTIONS ∧
      ∀ i, i < 65536 * e.size → t.rb (s.slotByte n i) = if (sfind s.tier.homes e.frame).isSome then s.rb (frameKey e.frame i) else 0) ∧
  (∀ (s : State) (n j f : Nat) (e : DirEnt) (c : JEntry), s.dirEnt n = some e → e.st = .promoting → sfind s.tier.homes e.frame = some f → f < 4 → e.pins = [j] → s.cmd j = some c → c.st = .dispatched → c.fin = none → s.Canonical →
    (Answers (exec (.promotionFailed n) s) fun t => t.dirEnt n = none ∧ s.Up t Fld.TIER_PROMCNT_FAILED ∧ s.Up t (Fld.FLS_ERR_UNCORRECTABLE f) ∧ t.RanTo j .flashError ∧ t.mem = s.mem) ∧
    (Answers (exec (.flashReadTimeout n) s) fun t =>
      t.dirEnt n = none ∧ s.Up t Fld.TIER_PROMCNT_TIMEOUTS ∧ nmem t.tier.quarantine e.tag = true ∧ t.RanTo j .timeout ∧ t.mem = s.mem)) ∧
  (∀ (s : State) (tag : Nat), nmem s.tier.quarantine tag = true →
    Answers (exec (.lateFlashData tag) s) fun t => s.Up t Fld.TIER_LATE_COUNT ∧ (tag < 262144 → t.get Fld.TIER_LATE_STACK = tag / 65536) ∧ RegsBut [Reg.TIER_LATE] s t ∧ SameBut [.regs] s t) ∧
  (∀ (s : State) (tag : Nat),
    Answers (exec (.flashTagQuarantine tag) s) fun t => nmem t.tier.quarantine tag = false ∧ (∀ x, x ≠ tag → nmem t.tier.quarantine x = nmem s.tier.quarantine x) ∧ t.tier.dir = s.tier.dir ∧ SameBut [.tier] s t)

/-- R328, R329, R341: a write-back programs the slot's dirty frames into flash; the slot is then CLEAN, DIRTY again where it was rewritten, or free when it was being evicted; CLEANING begins the write-back of every dirty entry that has aged, whose home takes programs. R321, R331, R339: the object that a FILL has read is programmed to its home; an evacuated object moves to the stack that an allocation chooses, and one that cannot be read is lost; a retired flash stack leaves service and its objects are to be evacuated. -/
def Obligations.WriteBackAndHomes : Prop :=
  ((∀ (s : State) (n f : Nat) (e : DirEnt) (w : WearObs), s.dirEnt n = some e → e.st = .cleaning ∨ e.st = .evicting → sfind s.tier.homes e.frame = some f → f < 4 → s.flashIn f = true → (s.flashStack f).worn = false →
     (e.st = .cleaning → s.tier.op = none ∧ e.evreq = false ∧ e.invreq = false) → n < s.slotCount → e.size ≤ 32 →
     Answers (exec (.writeBack n w) s) fun t =>
       (∀ k o, k < e.size → e.mask / 2 ^ k % 2 = 1 → o < 65536 → t.rb (frameKey e.frame (65536 * k + o)) = s.rb (s.slotByte n (65536 * k + o))) ∧
       (∀ x, x < frameKey e.frame 0 ∨ frameKey e.frame (65536 * e.size) ≤ x → t.rb x = s.rb x) ∧
       (e.st = .cleaning → t.dirEnt n = some { e with st := if e.redirty then .dirty else .clean, mask := e.rewritten, rewritten := 0, redirty := false }) ∧
       (e.st = .evicting → e.pins = [] → t.dirEnt n = none ∧ s.Up t Fld.TIER_EVCNT_WRITTEN) ∧
       (e.st = .evicting → e.pins ≠ [] → t.dirEnt n = some { e with st := .clean, mask := 0, rewritten := 0, redirty := false } ∧ s.Up t Fld.TIER_EVCNT_KEPT) ∧
       t.get (Fld.FLS_WEAR_AVGPE f) = w.avgPe % 2 ^ (Fld.FLS_WEAR_AVGPE f).n) ∧
   (∀ (s : State), srises s.tier.dir = true → s.get Fld.TIER_STAT_TIERCFG = 2 → s.flag Fld.TIER_DIRCTL_NOCLEAN = false →
     Answers (exec .cleaning s) fun t =>
       (∀ n e f, s.dirEnt n = some e → e.st = .dirty → sfind s.tier.homes e.frame = some f → s.flashIn f = true → (s.flashStack f).worn = false →
         max 1 (s.get Fld.TIER_DIRCTL_CLEANAGE) ≤ s.revNow - e.wrote → t.dirEnt n = some { e with st := .cleaning, rewritten := 0, redirty := false }) ∧
       (∀ n e, s.dirEnt n = some e → e.st ≠ .dirty → t.dirEnt n = some e) ∧ SameBut [.tier] s t)) ∧
  ((∀ (s : State) (o : TierOp) (fr f : Nat) (w : WearObs), s.tier.op = some o → o.programming = some fr → s.dirOf fr = none → sfind s.tier.homes fr = some f → f < 4 → s.flashIn f = true → (s.flashStack f).worn = false →
     Answers (exec (.fillProgrammed w) s) fun t =>
       (∀ i (h : i < o.staged.length), t.rb (frameKey fr i) = o.staged[i]) ∧ BytesBut (frameKey fr 0) o.staged.length s t ∧ s.Up t Fld.TIER_OPSTAT_OBJECTS) ∧
   (∀ (s : State) (fr f : Nat) (w : WearObs), nmem s.tier.evac fr = true → sfind s.tier.homes fr = some f → s.flashIn f = false →
     (∀ g, s.chooseHome (s.objectOf fr).2 = some g → Answers (exec (.evacuation fr false w) s) fun t => sfind t.tier.homes fr = some g ∧ nmem t.tier.evac fr = false ∧ t.mem = s.mem) ∧
     (Answers (exec (.evacuation fr true w) s) fun t => sfind t.tier.homes fr = none ∧ nmem t.tier.lostObjs fr = true ∧ nmem t.tier.evac fr = false ∧ SameBut [.tier] s t)) ∧
   (∀ (s : State) (k : Nat), k < 4 → s.isRetired 4 (32 + k) = false → s.live = true →
     Answers (exec (.flashStackRetired k) s) fun t =>
       t.isRetired 4 (32 + k) = true ∧ t.flag (Fld.FLS_STAT_INSERVICE k) = false ∧ t.takesAlloc k = false ∧ (∀ fr, (fr, k) ∈ s.tier.homes → nmem t.tier.evac fr = true) ∧ t.mem = s.mem))

/-- R330, R331: the requested tier operations on the objects of a range: FLUSH begins their write-backs, EVICT and INVALIDATE free the unpinned ones and mark the others, FILL reads the first object from the host; ABORT ends an operation that has nothing under way. -/
def Obligations.TierOperations : Prop :=
  ∀ (s : State) (src : RegSrc) (v : BitVec 32), s.power.porst = false → s.unavailable Reg.TIER_OPCTL = false → srises s.tier.dir = true →
    let whole : Bool := s.get Fld.TIER_OPBASE_NFRAMES == 0
    let lo := if whole then 0 else s.get Fld.TIER_OPBASE_FRAME
    let hi := if whole then s.frameTop else lo + s.get Fld.TIER_OPBASE_NFRAMES
    let good : Prop := s.tier.op = none ∧ hi ≤ s.frameTop ∧ s.onBoundary lo = true ∧ s.onBoundary hi = true
    let within (e : DirEnt) : Prop := lo ≤ e.frame ∧ e.frame < hi
    let fit (e : DirEnt) : Prop := ∃ f, sfind s.tier.homes e.frame = some f ∧ s.flashIn f = true ∧ (s.flashStack f).worn = false
    (good → s.get Fld.TIER_STAT_TIERCFG = 2 → Answers (exec (.tierFlush src v) s) fun t =>
      t.get Fld.TIER_OPSTAT_LAST = 1 ∧ t.mem = s.mem ∧
      ∀ n e, s.dirEnt n = some e → within e → e.st = .dirty → fit e → t.dirEnt n = some { e with st := .cleaning, rewritten := 0, redirty := false }) ∧
    (good → s.get Fld.TIER_STAT_TIERCFG ≠ 0 → Answers (exec (.tierEvict src v) s) fun t =>
      t.get Fld.TIER_OPSTAT_LAST = 2 ∧ t.mem = s.mem ∧
      (∀ n e, s.dirEnt n = some e → within e → e.st = .clean → e.pins = [] → t.dirEnt n = none) ∧
      (∀ n e, s.dirEnt n = some e → within e → e.st = .dirty → e.pins = [] → e.invreq = false → fit e → ∃ e', t.dirEnt n = some e' ∧ e'.st = .evicting ∧ e'.mask = e.mask) ∧
      (∀ n e, s.dirEnt n = some e → within e → e.pins ≠ [] → e.st ≠ .relocated → t.dirEnt n = some { e with evreq := true })) ∧
    (good → s.get Fld.TIER_STAT_TIERCFG ≠ 0 → Answers (exec (.tierInvalidate src v) s) fun t =>
      t.get Fld.TIER_OPSTAT_LAST = 3 ∧ t.mem = s.mem ∧
      (∀ n e, s.dirEnt n = some e → within e → e.pins = [] → e.st ≠ .promoting → e.st ≠ .relocated → t.dirEnt n = none) ∧
      (∀ n e, s.dirEnt n = some e → within e → e.pins ≠ [] → e.st ≠ .relocated → t.dirEnt n = some { e with invreq := true })) ∧
    (∀ tag, good → s.get Fld.TIER_STAT_TIERCFG = 1 → lo < hi → s.hostOpen = true → s.live = true → s.host.reads.length < s.readLimit → s.freeTag = some tag →
      (∀ i r, (i, r) ∈ s.host.reads → ∀ a b c, r.kind ≠ .fill a b c) →
      Answers (exec (.tierFill src v) s) fun t =>
        t.get Fld.TIER_OPSTAT_LAST = 4 ∧ t.get Fld.TIER_OPSTAT_CODE = 7 ∧
        t.host.out = s.host.out ++ [.read tag (4096 * s.get Fld.TIER_FILLSRC_ADDR) (min 4096 (65536 * (s.objectOf lo).2))] ∧ t.tier.dir = s.tier.dir ∧ t.mem = s.mem) ∧
    (∀ o, s.tier.op = some o → o.programming = none → (∀ n b, (n, b) ∈ o.slots → ∀ e, s.dirEnt n = some e → e.st ≠ .cleaning ∧ e.st ≠ .evicting) →
      Answers (exec (.tierAbort src v) s) fun t => t.tier.op = none ∧ t.get Fld.TIER_OPSTAT_CODE = 6 ∧ bit (t.reg Reg.GLB_EVTSUM) Event.tierDone.classBit = true ∧ t.mem = s.mem)

/-- R314, R336 to R340, R516: a patrol pass is counted and an uncorrectable location poisoned; a retired pseudo-channel is relocated while the cache has room and lost otherwise; each chunk copied takes a slot, and each chunk copied back frees one; a retired stack retires its pseudo-channels. -/
def Obligations.DramRetirement : Prop :=
  (∀ (s : State) (k : Nat) (obs : EccObs), k < 20 → s.hflag 5 = true → s.live = true → s.unitDown 1 k = false → s.isRetired 4 k = false →
    Answers (exec (.patrolScrub k obs) s) fun t =>
      s.Up t (Fld.DRM_SCRUBSTAT_PASSES k) ∧ t.mem = s.mem ∧
      ∀ a ∈ obs.uncorrectable, (regionOf a = .dramA ∨ regionOf a = .dramB) → s.stackOf a = k → t.poisonedAt a = true) ∧
  (∀ (s : State) (p : Nat) (bad : List Nat), p < 640 → s.isRetired 3 p = false → s.isRetired 4 (p / 32) = false → s.live = true → s.tier.pchs = [] → s.tier.dir = [] → s.tier.withdrawn = [] →
    let room := 32 * s.get Fld.TIER_STAT_CACHE * (if p < 512 then 15 else 16) - tierKeep (s.get Fld.TIER_STAT_TIERCFG)
    Answers (exec (.pchRetired p bad) s) fun t =>
      t.isRetired 3 p = true ∧ bit (t.reg (Reg.DRM_STAT (p / 32))) ((Fld.DRM_STAT_PCHRET (p / 32)).lo + p % 32) = true ∧ (p < 512 → t.slotIn (p / 32) = false) ∧
      sfind t.tier.pchs p = some (if room < s.chunksOfPch p then .lost else .relocating)) ∧
  (∀ (s : State) (p c n : Nat), p < 640 → sfind s.tier.pchs p = some .relocating → s.nextChunk p = some c → s.freeSlot = some n →
    Answers (exec (.chunkCopy p []) s) fun t =>
      t.dirEnt n = some { DirEnt.blank with st := .relocated, pch := p, chunk := c, copied := true, age := s.revNow } ∧
      sfind t.tier.pchs p = some (if (t.nextChunk p).isNone then .relocated else .relocating) ∧ SameBut [.tier] s t) ∧
  (∀ (s : State) (p n : Nat) (e : DirEnt), p < 640 → sfind s.tier.pchs p = some .copyingBack → srises s.tier.dir = true → s.dirEnt n = some e → e.st = .relocated → e.pch = p →
    (∀ m x, s.dirEnt m = some x → x.st = .relocated → x.pch = p → m ≠ n → e.chunk < x.chunk) →
    Answers (exec (.copyBack p) s) fun t =>
      t.dirEnt n = none ∧ (∀ m, m ≠ n → t.dirEnt m = s.dirEnt m) ∧
      ((∃ m x, m ≠ n ∧ s.dirEnt m = some x ∧ x.st = .relocated ∧ x.pch = p) → sfind t.tier.pchs p = some .copyingBack) ∧
      ((∀ m x, m ≠ n → s.dirEnt m = some x → ¬ (x.st = .relocated ∧ x.pch = p)) → sfind t.tier.pchs p = none) ∧ SameBut [.regs, .tier] s t) ∧
  (∀ (s : State) (k : Nat) (bad : List Nat), k < 20 → s.isRetired 4 k = false → s.live = true →
    Answers (exec (.stackRetired k bad) s) fun t =>
      t.isRetired 4 k = true ∧ t.flag (Fld.DRM_STAT_INSERVICE k) = false ∧ ∀ p, p < 32 → (sfind t.tier.pchs (32 * k + p)).isSome = true)

/-- R351, R352, R354, R356, R360: each row operation's next step writes the operation of its sources, byte for byte, to the destination's next wide row, counts its ones and ends the command at the last row; nothing else of memory changes. R358, R360: SEAL makes a region SEALED and reports how many of its granules are poisoned; UNSEAL returns it to BITMAP; neither writes memory. -/
def Obligations.RowEngineOperations : Prop :=
  (∀ (s : State) (j : Nat) (e : JEntry),
     (s.RowStepping j e 1 → RowStepDone (exec (.set0 j RowObs.none) s) s j e (fun _ => 0)) ∧
     (s.RowStepping j e 2 → RowStepDone (exec (.set1 j RowObs.none) s) s j e (fun _ => 0xFF)) ∧
     (s.RowStepping j e 3 → RowStepDone (exec (.rowCopy j RowObs.none) s) s j e (s.source e 0)) ∧
     (s.RowStepping j e 4 → RowStepDone (exec (.rowNot j RowObs.none) s) s j e (fun b => ~~~(s.source e 0 b))) ∧
     (s.RowStepping j e 5 → RowStepDone (exec (.rowAnd j RowObs.none) s) s j e (fun b => s.source e 0 b &&& s.source e 1 b)) ∧
     (s.RowStepping j e 6 → RowStepDone (exec (.rowOr j RowObs.none) s) s j e (fun b => s.source e 0 b ||| s.source e 1 b)) ∧
     (s.RowStepping j e 7 → RowStepDone (exec (.rowXor j RowObs.none) s) s j e (fun b => s.source e 0 b ^^^ s.source e 1 b)) ∧
     (s.RowStepping j e 8 → RowStepDone (exec (.rowAndn j RowObs.none) s) s j e (fun b => s.source e 0 b &&& ~~~(s.source e 1 b))) ∧
     (s.RowStepping j e 9 → RowStepDone (exec (.rowMaj j RowObs.none) s) s j e (fun b => (s.source e 0 b &&& s.source e 1 b) ||| (s.source e 0 b &&& s.source e 2 b) ||| (s.source e 1 b &&& s.source e 2 b)))) ∧
  ((∀ (s : State) (j i : Nat) (e : JEntry) (r : RowRegion), s.RowStepping j e 10 → s.rowRegionAt (rowDst e.words) = some (i, r) →
     let a := dramBBase + r.base * 0x4000000
     let n := r.len * 0x4000000
     Answers (exec (.rowSeal j RowObs.none) s) fun t =>
       (t.tier.rowRegions.getD i ⟨0, 0, 0, 0⟩).cls = 2 ∧ t.mem = s.mem ∧ t.poison = s.poison ∧
       t.Committed j .ok (BitVec.ofNat 64 (s.poison.filter (fun g => decide (a / 32 ≤ g) && decide (g ≤ (a + n - 1) / 32))).length) 0) ∧
   (∀ (s : State) (j i : Nat) (e : JEntry) (r : RowRegion), s.RowStepping j e 11 → s.rowRegionAt (rowDst e.words) = some (i, r) →
     Answers (exec (.rowUnseal j) s) fun t => (t.tier.rowRegions.getD i ⟨0, 0, 0, 0⟩).cls = 1 ∧ t.mem = s.mem ∧ t.poison = s.poison ∧ t.Committed j .ok 0 0))

/-- R368, R373 to R376, R397, R399: a DATA flit in sequence is delivered, its buffer entry freed or the flit queued onward; a duplicate is counted, one ahead or broken is answered by NAK; every good flit returns credits and acknowledges, and NAK starts a replay. R369, R387, R390: the control messages of a link in service: PM_ENTER is answered and PM_ACK completes the entry into LOW_POWER, PM_WAKE leaves it, ECHO_REQ is answered with its word, ECHO_RSP gives the round trip, and DOWN begins a fast retrain. -/
def Obligations.PortReception : Prop :=
  ((∀ (s : State) (p : Nat) (f : Flit), s.Takes p f → flitType f = 1 → bits f.link 52 12 = ((s.takeReturn p f.link).port p).rxNext →
     let r := s.takeReturn p f.link
     let v := bits f.link 36 2
     let body := f.payload.take (bits f.link 12 8)
     (r.nextHop (bits f.exch 48 16) = none → bits f.exch 8 12 = 0 → bit f.exch 7 = true →
       let m := Msg.ofHeader (bits f.exch 48 16) (bits f.exch 32 16) (bits f.exch 20 12) r.slotOpen body
       0 < m.mtype → m.mtype ≤ 10 →
       Answers (exec (.data p f) s) fun t =>
         t.net.inbox = s.net.inbox ++ [m] ∧ (t.port p).rxNext = ((r.port p).rxNext + 1) % 4096 ∧ (t.port p).rxAny = true ∧ (t.port p).nak = false ∧
         sget 0 (t.port p).freed v = sget 0 (r.port p).freed v + 1) ∧
     (∀ o, r.nextHop (bits f.exch 48 16) = some o → r.isRetired 2 o = false → bit (wordAt body 0) 46 = false ∨ bits f.exch 8 12 ≠ 0 → sfind r.net.transit (msgKey f.exch) = none → o ≠ p →
       Answers (exec (.data p f) s) fun t =>
         (t.port o).queueOf v = (r.port o).queueOf v ++ [⟨v, f.exch, body, p / 2 != o / 2, some p, 0⟩] ∧ r.Up t Fld.COL_FWDCNT_COUNT ∧ (t.port p).rxNext = ((r.port p).rxNext + 1) % 4096)) ∧
   (∀ (s : State) (p : Nat) (f : Flit), s.Takes p f → flitType f = 1 →
     let r := s.takeReturn p f.link
     let d := (bits f.link 52 12 + 4096 - (r.port p).rxNext) % 4096
     (2048 ≤ d → Answers (exec (.data p f) s) fun t => r.Up t (Fld.LNK_FLITERR_DUP p) ∧ t.net = r.net) ∧
     (0 < d → d < 2048 → Answers (exec (.data p f) s) fun t => r.Up t (Fld.LNK_FLITERR_AHEAD p) ∧ (t.port p).nak = true ∧ t.net.inbox = s.net.inbox ∧ (t.port p).rxNext = (r.port p).rxNext)) ∧
   (∀ (s : State) (p : Nat) (f : Flit), p < 6 → s.lnkState p = lnkUp → flitBroken f = true → flitType f = 1 →
     Answers (exec (.data p f) s) fun t => s.Up t (Fld.LNK_FLITERR_CRC p) ∧ (t.port p).nak = true ∧ t.net.inbox = s.net.inbox ∧ (t.port p).unacked = (s.port p).unacked) ∧
   (∀ (s : State) (p : Nat) (f : Flit), s.Takes p f → flitType f = 0 →
     let q := s.port p
     let d := (bits f.link 40 12 + 4096 - q.oldest) % 4096
     (bit f.link 39 = true → bit f.link 38 = false → d < q.unacked.length → Answers (exec (.idle p f) s) fun t =>
       (t.port p).unacked = q.unacked.drop (d + 1) ∧ (t.port p).oldest = (q.oldest + d + 1) % 4096 ∧ (t.port p).replays = 0 ∧
       (bits f.link 30 2 < 4 → t.get (creditFld p (bits f.link 30 2)) = min 65535 (s.get (creditFld p (bits f.link 30 2)) + bits f.link 20 10))) ∧
     (bit f.link 39 = false → bit f.link 38 = true → q.unacked ≠ [] → q.replayAt = none → q.replays + 1 < max 1 (s.get (Fld.LNK_REPLAYCFG_BUDGET p)) → Answers (exec (.idle p f) s) fun t =>
       (t.port p).replayAt = some 0 ∧ (t.port p).replays = q.replays + 1 ∧ s.Up t (Fld.LNK_REPLAYCNT_REPLAYS p) ∧ (t.port p).unacked = q.unacked))) ∧
  (∀ (s : State) (p : Nat) (f : Flit) (m : List Word), s.TakesMsg p f m →
     let r := s.takeReturn p f.link
     (ctlType m = 2 → r.mayLowPower p = true → Answers (exec (.pmEnter p f) s) fun t =>
       t.lnkState p = lnkLow ∧ (t.port p).urgent = (r.port p).urgent ++ [[wordOf [(56, 8, 3)], 0, 0, 0]] ∧ r.Up t (Fld.LNK_LPCNT_ENTRIES p)) ∧
     (ctlType m = 3 → (r.port p).pmEnter = true → r.mayLowPower p = true → Answers (exec (.pmAck p f) s) fun t =>
       t.lnkState p = lnkLow ∧ (t.port p).pmEnter = false ∧ r.Up t (Fld.LNK_LPCNT_ENTRIES p)) ∧
     (ctlType m = 4 → r.lnkState p = lnkLow → Answers (exec (.pmWake p f) s) fun t =>
       t.lnkState p = lnkUp ∧ r.Up t (Fld.LNK_LPCNT_WAKES p) ∧ (s.power.phase = .parked → t.power.phase = .waking)) ∧
     (ctlType m = 5 → Answers (exec (.echoReq p f) s) fun t => (t.port p).urgent = (r.port p).urgent ++ [[wordOf [(56, 8, 6)], wget m 1, 0, 0]] ∧ t.reg = r.reg) ∧
     (∀ x, ctlType m = 6 → Answers (exec (.echoRsp p f x) s) fun t => t.get (Fld.LNK_RTT_RTT_PS p) = min x (2 ^ 32 - 1) ∧ t.net = r.net) ∧
     (ctlType m = 8 → r.lnkState p = lnkUp → (r.port p).dying = false → Answers (exec (.down p f) s) fun t =>
       t.Trains p 0 ∧ t.get (Fld.LNK_STAT_REASON p) = 9 ∧ (t.port p).fast = true ∧ r.Up t (Fld.LNK_REPLAYCNT_RETRAINS p) ∧ (t.port p).unacked = (r.port p).unacked ∧ (t.port p).queue = (r.port p).queue))

/-- R370, R379 to R381, R383, R386: an IDENT is kept; once both sides have shown SEEN, with a partner that may be the same, a version in common and four good lanes, the link comes up in a new session with its receive buffers' credits, and every unacknowledged flit is sent again. R378, R379, R382, R385 to R387: how a port trains: its phases follow one another; an attempt that misses its limit is made again, and the port is ABSENT after the last one, from where it makes one attempt at each gap; a suspected loss begins a fast retrain; a lane beyond its limit is retired. -/
def Obligations.PortTraining : Prop :=
  (∀ (s : State) (p : Nat) (f : Flit) (m : List Word), p < 6 → s.Trains p 3 → flitBroken f = false → flitType f = 2 → flitMessages f = [m] → ctlType m = 1 →
     ((s.port p).sentSeen = false ∨ ((s.port p).identSeen = false ∧ bit (wget m 0) 55 = false) → Answers (exec (.ident p f) s) fun t =>
       (t.port p).ident = some m ∧ (t.port p).identSeen = ((s.port p).identSeen || bit (wget m 0) 55) ∧ t.Trains p 3 ∧ SameBut [.net] s t) ∧
     (let o := s.offers p
      let lo := max (16 + o.1) (bits (wget m 0) 32 8)
      let hi := min (16 + o.2) (bits (wget m 0) 40 8)
      let good := maskBits 8 (s.goodLanes p &&& bits (wget m 3) 11 8)
      let top := (max (s.get (Fld.LNK_SESSION_SESSION p)) (bits (wget m 3) 32 32) + 1) % 2 ^ 32
      (s.port p).sentSeen = true → bit (wget m 0) 55 = true → (s.port p).beenUp = false ∨ (s.port p).skipIdentity = true ∨ s.samePartner p m = true → lo ≤ hi → 4 ≤ good.length →
      Answers (exec (.ident p f) s) fun t =>
        t.lnkState p = lnkUp ∧ t.get (Fld.LNK_SESSION_SESSION p) = (if top = 0 then 1 else top) ∧ t.get (Fld.LNK_STAT_USE_MIN p) = hi % 16 % 2 ^ (Fld.LNK_STAT_USE_MIN p).n ∧
        t.get (Fld.LNK_STAT_WIDTH p) = widthOf good.length (hi % 16) ∧ (∀ v, v < 4 → t.get (creditFld p v) = vcBuffer v) ∧
        (t.port p).rxNext = 0 ∧ (t.port p).rxAny = false ∧ (t.port p).oldest = 0 ∧ (t.port p).replayAt = (if (t.port p).unacked = [] then none else some 0) ∧ t.samePartner p m = true)) ∧
  (∀ (s : State) (p : Nat), p < 6 →
     (s.Trains p 1 → Answers (exec (.pmd p) s) fun t => t.Trains p 2 ∧ RegsBut [Reg.LNK_STAT p] s t ∧ SameBut [.regs] s t) ∧
     (s.Trains p 0 → (s.port p).fast = true → (s.port p).downSlots = 0 → (s.port p).dying = false → Answers (exec (.fastRetrain p) s) fun t => t.Trains p 2 ∧ RegsBut [Reg.LNK_STAT p] s t ∧ SameBut [.regs] s t) ∧
     (∀ l, s.Trains p 2 → 4 ≤ (maskBits 8 (s.get (Fld.LNK_STAT_GOOD p) &&& l)).length → Answers (exec (.lock p l) s) fun t => t.Trains p 3 ∧ (t.port p).locked = l ∧ SameBut [.regs, .net] s t) ∧
     (∀ l, s.lnkState p = lnkLow → (s.port p).waking = true → s.get (Fld.LNK_STAT_LANES p) &&& l = s.get (Fld.LNK_STAT_LANES p) → Answers (exec (.lock p l) s) fun t => t.lnkState p = lnkUp ∧ (t.port p).waking = false) ∧
     (∀ ph, s.Trains p ph → ph ≠ 6 → (s.port p).dying = false →
       let n := s.get (Fld.LNK_STAT_ATTEMPTS p)
       let last := max 1 (s.get (Fld.LNK_TRAINCFG_ATTEMPTS p))
       Answers (exec (.attemptTimeout p) s) fun t => t.get (Fld.LNK_STAT_REASON p) = 2 ∧
         ((s.port p).fast = true → t.Trains p 1 ∧ (t.port p).fast = false ∧ t.get (Fld.LNK_STAT_ATTEMPTS p) = 1) ∧
         ((s.port p).fast = false → (s.port p).series = .start ∨ (s.port p).series = .readmit → last ≤ n → t.lnkState p = lnkAbsent) ∧
         ((s.port p).fast = false → (s.port p).series = .start ∨ (s.port p).series = .readmit → n < last → t.Trains p 1 ∧ s.Up t (Fld.LNK_STAT_ATTEMPTS p)) ∧
         ((s.port p).fast = false → (s.port p).series = .lost → max 1 (s.get (Fld.LNK_TRAINCFG_LOSTATTEMPTS p)) ≤ n → (t.port p).dying = true) ∧
         ((s.port p).fast = false → (s.port p).series = .gap → t.lnkState p = lnkAbsent)) ∧
     (s.lnkState p = lnkAbsent → s.get (Fld.LNK_TRAINCFG_GAP_S p) ≠ 0 → Answers (exec (.gapS p) s) fun t => t.Trains p 1 ∧ (t.port p).series = .gap) ∧
     (s.lnkState p = lnkUp → (s.port p).dying = false →
       (Answers (exec (.flitSilence p) s) fun t => t.Trains p 0 ∧ t.get (Fld.LNK_STAT_REASON p) = 10 ∧ (t.port p).fast = true ∧ (t.port p).unacked = (s.port p).unacked) ∧
       (Answers (exec (.noSignal p) s) fun t => t.Trains p 0 ∧ t.get (Fld.LNK_STAT_REASON p) = 1 ∧ (t.port p).fast = true ∧ (t.port p).unacked = (s.port p).unacked)) ∧
     (s.lnkState p = lnkUp → (s.port p).unacked ≠ [] → (s.port p).replayAt = none → (s.port p).replays + 1 < max 1 (s.get (Fld.LNK_REPLAYCFG_BUDGET p)) → Answers (exec (.replayTimeout p) s) fun t =>
       (t.port p).replayAt = some 0 ∧ s.Up t (Fld.LNK_REPLAYCNT_REPLAYS p) ∧ s.Up t (Fld.LNK_REPLAYCNT_TIMEOUTS p) ∧ t.lnkState p = lnkUp) ∧
     (∀ i n, i < 8 → s.lnkState p = lnkUp → s.get (Fld.LNK_STAT_GOOD p) / 2 ^ i % 2 = 1 → 65536 * s.get (Fld.LNK_LANECFG_THRESH p) < n → 5 ≤ (maskBits 8 (s.get (Fld.LNK_STAT_GOOD p))).length →
       Answers (exec (.laneRetired p i n) s) fun t =>
         t.get (Fld.LNK_STAT_GOOD p) = s.get (Fld.LNK_STAT_GOOD p) - 2 ^ i ∧ t.get (Fld.LNK_LANE_STATE p i) = 2 ∧ t.isRetired 7 (8 * p + i) = true ∧ (t.port p).dying = (s.port p).dying ∧
         (s.get (Fld.LNK_STAT_LANES p) / 2 ^ i % 2 = 1 → t.Trains p 0 ∧ t.get (Fld.LNK_STAT_REASON p) = 5 ∧ (t.port p).downSlots = 16) ∧
         (s.get (Fld.LNK_STAT_LANES p) / 2 ^ i % 2 = 0 → t.lnkState p = lnkUp)))

/-- R387 to R389, R393: a port that is to retire leaves service, and every command that loses flits, messages or its ring with it ends LINK_LOST; LNK_CTL retrains an UP port, holds a port down or starts it again, and re-admits a retired one, which trains after a good self-test. -/
def Obligations.PortServiceRule : Prop :=
  (∀ (s : State) (p : Nat), p < 6 → (s.port p).dying = true → (s.port p).downSlots = 0 → s.Canonical → (∀ j ∈ s.lostWith p, sfind s.drover.jobs j = none) →
    Answers (exec (.portRetired p) s) fun t =>
      t.lnkState p = lnkRetired ∧ t.isRetired 2 p = true ∧ (t.port p).queue = [] ∧ (t.port p).unacked = [] ∧ t.get (Fld.LNK_STAT_LANES p) = 0 ∧
      bit (t.reg Reg.GLB_EVTSUM) Event.portRetired.classBit = true ∧ ∀ j ∈ s.lostWith p, t.RanTo j .linkLost) ∧
  (∀ (s : State) (p l : Nat), p < 6 → s.Trains p 6 →
    (4 ≤ (maskBits 8 (l % 256)).length → Answers (exec (.selftest p l) s) fun t =>
      t.Trains p 1 ∧ t.get (Fld.LNK_STAT_GOOD p) = l % 256 ∧ (t.port p).series = .readmit ∧ (t.port p).joining = true ∧ t.get (Fld.LNK_STAT_ATTEMPTS p) = 1) ∧
    ((maskBits 8 (l % 256)).length < 4 → Answers (exec (.selftest p l) s) fun t => t.lnkState p = lnkRetired ∧ t.get (Fld.LNK_STAT_REASON p) = 8)) ∧
  (∀ (s : State) (src : RegSrc) (p : Nat) (v : BitVec 32), p < 6 → s.power.porst = false → s.unavailable (Reg.LNK_CTL p) = false →
    (v.getLsbD 5 = s.flag (Fld.LNK_CTL_HOLDDOWN p) →
      (v.getLsbD 0 = false → s.lnkState p = lnkUp → (s.port p).dying = false → Answers (exec (.retrain src p v) s) fun t =>
        t.Trains p 0 ∧ t.get (Fld.LNK_STAT_REASON p) = 0 ∧ (t.port p).fast = true ∧ (t.port p).downSlots = 16 ∧ t.get (Fld.LNK_CTL_LOOP p) = bits (BitVec.ofNat 64 v.toNat) 6 2) ∧
      (v.getLsbD 1 = false → s.lnkState p = lnkRetired → s.timesRetired 2 p < 3 → Answers (exec (.readmit src p v) s) fun t => t.Trains p 6)) ∧
    (v.getLsbD 0 = false → v.getLsbD 1 = false → v.getLsbD 5 = true → s.flag (Fld.LNK_CTL_HOLDDOWN p) = false →
      (s.lnkState p = lnkUp → Answers (exec (.holddown src p v) s) fun t =>
        t.flag (Fld.LNK_CTL_HOLDDOWN p) = true ∧ (t.port p).dying = true ∧ (t.port p).downSlots = 16 ∧ t.get (Fld.LNK_STAT_REASON p) = 7) ∧
      (s.lnkState p = lnkTraining ∨ s.lnkState p = lnkAbsent → Answers (exec (.holddown src p v) s) fun t => t.flag (Fld.LNK_CTL_HOLDDOWN p) = true ∧ t.lnkState p = lnkDown ∧ t.get (Fld.LNK_STAT_REASON p) = 7)) ∧
    (v.getLsbD 0 = false → v.getLsbD 1 = false → v.getLsbD 5 = false → s.flag (Fld.LNK_CTL_HOLDDOWN p) = true → s.lnkState p = lnkDown → s.unitDown 4 p = false →
      Answers (exec (.holddown src p v) s) fun t => t.flag (Fld.LNK_CTL_HOLDDOWN p) = false ∧ t.Trains p 1 ∧ (t.port p).series = .start ∧ t.get (Fld.LNK_STAT_ATTEMPTS p) = 1))

/-- R365 to R367, R369, R372 to R374, R376, R390: what an UP port sends in one flit slot, in the order of R372: due control messages, a replayed flit, the head of class 1, of an open grant's class 0, of a class 2 that has waited, of class 3 and of class 2, and an IDLE flit otherwise; a training port sends its IDENT, and one in LOW_POWER with traffic wakes the link. -/
def Obligations.FlitSlotRule : Prop :=
  ∀ (s : State) (p : Nat) (again : Bool), p < 6 →
    let q := s.port p
    let noControl : Prop := q.urgent = [] ∧ (q.sinceControl < 64 ∨ (q.control = [] ∧ ¬ (q.pmEnter = true ∧ again = true)))
    let sends (v : Nat) (f : DFlit) (r : List DFlit) : Prop := Answers (exec (.flitSlot p again) s) fun t =>
      (∃ x, (t.port p).sent = some x ∧ Carries x 1 v ((q.oldest + q.unacked.length) % 4096) f.exch f.payload ∧ bits x.link 12 8 = f.payload.length % 256) ∧
      (t.port p).queueOf v = r ∧ (t.port p).unacked = q.unacked ++ [{ f with origin := none }] ∧ t.get (creditFld p v) = s.get (creditFld p v) - 1 ∧ s.Up t (Fld.LNK_VCFLITS_COUNT p v)
    (s.lnkState p = lnkUp → q.downSlots = 0 →
      (noControl → q.replayAt = none →
        (∀ f r, q.queueOf 1 = f :: r → s.sendable p 1 = true → sends 1 f r) ∧
        (∀ f r, s.sendable p 1 = false → s.grantOpen p = true → q.queueOf 0 = f :: r → s.sendable p 0 = true → sends 0 f r) ∧
        (∀ f r, s.sendable p 1 = false → s.grantOpen p = false → 15 ≤ q.waited2 → q.queueOf 2 = f :: r → s.sendable p 2 = true → sends 2 f r) ∧
        (∀ f r, s.sendable p 1 = false → (s.grantOpen p = false ∨ s.sendable p 0 = false) → (q.waited2 < 15 ∨ s.grantOpen p = true ∨ s.sendable p 2 = false) → q.queueOf 3 = f :: r → s.sendable p 3 = true → sends 3 f r) ∧
        (∀ f r, s.sendable p 1 = false → (s.grantOpen p = false ∨ s.sendable p 0 = false) → s.sendable p 3 = false → q.queueOf 2 = f :: r → s.sendable p 2 = true → sends 2 f r) ∧
        (s.sendable p 0 = false → s.sendable p 1 = false → s.sendable p 2 = false → s.sendable p 3 = false → Answers (exec (.flitSlot p again) s) fun t =>
          (∃ x, (t.port p).sent = some x ∧ Carries x 0 0 0 0 []) ∧ (t.port p).unacked = q.unacked)) ∧
      (∀ i f r, noControl → q.replayAt = some i → q.unacked.drop i = f :: r → Answers (exec (.flitSlot p again) s) fun t =>
        (∃ x, (t.port p).sent = some x ∧ Carries x 1 (f.vc % 4) ((q.oldest + i) % 4096) f.exch f.payload) ∧ (t.port p).replayAt = (if r = [] then none else some (i + 1)) ∧ (t.port p).unacked = q.unacked) ∧
      (q.urgent ≠ [] → q.pmEnter = false → Answers (exec (.flitSlot p again) s) fun t =>
        ∃ (x : Flit) (ms : List (List Word)), (t.port p).sent = some x ∧ Carries x 2 0 0 0 (bytesOfWords ms.flatten) ∧ ms.take (q.urgent.take 7).length = q.urgent.take 7 ∧ (t.port p).urgent = q.urgent.drop 7)) ∧
    (s.Trains p 3 → q.downSlots = 0 → again = true → q.ident = none → Answers (exec (.flitSlot p again) s) fun t =>
      ∃ x, (t.port p).sent = some x ∧ Carries x 2 0 0 0 (bytesOfWords (s.identMsg p)) ∧ t.Trains p 3) ∧
    (s.lnkState p = lnkLow → q.waking = false → (∃ v f, f ∈ q.queueOf v) → Answers (exec (.flitSlot p again) s) fun t =>
      (∃ (x : Flit) (ms : List (List Word)), (t.port p).sent = some x ∧ Carries x 2 0 0 0 (bytesOfWords (([wordOf [(56, 8, 4)], 0, 0, 0] :: ms).flatten))) ∧ (t.port p).waking = true ∧ t.get (Fld.LNK_STAT_PHASE p) = 5)

/-- R402, R403: OPEN checks a CLOSED slot's entry and opens it or reports it; CLOSE ends new messages, and a slot into which nothing is being written is CLOSED at once, its flow records freed. -/
def Obligations.WindowRule : Prop :=
  ∀ (s : State) (src : RegSrc) (w : Nat) (v : BitVec 32), w < 256 → s.power.porst = false → s.unavailable (Reg.WIN_CTL w) = false →
    (v.getLsbD 0 = false → s.get (Fld.WIN_CTL_STATE w) = 0 →
      (s.winEntryOk w = true → Answers (exec (.winOpen src w v) s) fun t => t.get (Fld.WIN_CTL_STATE w) = 1 ∧ t.get Fld.CAP_GEN_GEN = (s.get Fld.CAP_GEN_GEN + 2) % 2 ^ Fld.CAP_GEN_GEN.n ∧ t.net = s.net) ∧
      (s.winEntryOk w = false → Answers (exec (.winOpen src w v) s) fun t => t.get (Fld.WIN_CTL_STATE w) = 0 ∧ t.get Fld.WIN_STAT_ERR = 1 ∧ t.get Fld.WIN_STAT_ERRSLOT = w ∧ t.net = s.net)) ∧
    (v.getLsbD 1 = false → s.get (Fld.WIN_CTL_STATE w) = 1 →
      Answers (exec (.winClose src w v) s) fun t =>
        (s.inflight w = 0 → t.get (Fld.WIN_CTL_STATE w) = 0 ∧ t.net.rxFlows = s.net.rxFlows.filter (fun e => e.1 % 256 != w)) ∧
        (s.inflight w ≠ 0 → t.get (Fld.WIN_CTL_STATE w) = 2 ∧ t.net = s.net))

/-- R404, R405, R407, R408: a WRITE that passes the checks and comes at its flow's position is written to its target, whose position advances and is acknowledged, and its last message raises the notification mark; a duplicate is acknowledged again, one ahead is dropped, and one that fails a check is refused; none of these writes. R406, R408, R409: an ACK moves the flow's acknowledged position and limit and releases the messages behind it; a REFUSE ends the command that sent the message; without progress every unacknowledged message is sent again, and its commands end TIMEOUT once the budget is used up. -/
def Obligations.RemoteWriteRule : Prop :=
  (∀ (s : State) (m : Msg) (q : Nat), s.live = true → s.nextWrite = some m → s.power.phase ≠ .parked → m.slot < 256 → s.nextHop m.src = some q → s.isRetired 2 q = false →
     let ack (f : RxFlow) : Msg := { (s.newMsg m.src 4 []) with slot := m.slot, flow := f.flow, eseq := f.pos, alen := s.credLim f m.slot }
     (∀ f k, s.headerFault m true = none → s.flowCase m = .expected f → s.winType m.slot = 1 ∨ s.winType m.slot = 2 → m.data.2 = false →
       s.Clean (s.winBase m.slot + m.off) m.data.1.length k → (regionOf (s.winBase m.slot + m.off) = .scratch → (s.winBase m.slot + m.off) % 0x1000000 + m.data.1.length ≤ 0x1000000) →
       (∀ p, s.phys (s.get (Fld.WIN_CFG_NTILE m.slot)) = some p → p < 68) →
       let f' : RxFlow := ⟨f.flow, f.pos + m.len, f.limit⟩
       let n := s.get (Fld.WIN_CFG_NINC m.slot)
       let nt := s.get (Fld.WIN_CFG_NTILE m.slot)
       let nm := s.get (Fld.WIN_CFG_NMARK m.slot)
       Answers (exec (.write []) s) fun t =>
         (∀ i (h : i < m.data.1.length), t.rb (k + i) = m.data.1[i]) ∧ BytesBut k m.data.1.length s t ∧ s.Up t (Fld.WIN_CNT_MSGS m.slot) ∧ s.Queued t q (ack f') 0 ∧
         (s.get (Fld.WIN_CTL_STATE m.slot) = 1 → sfind t.net.rxFlows (flowKey m.src m.slot) = some f') ∧
         t.markCount nt nm = (if m.last = true then min 65535 (s.markCount nt nm + n) else s.markCount nt nm)) ∧
     (∀ f, s.headerFault m true = none → s.flowCase m = .expected f → s.winType m.slot = 3 → m.data.1.length = 8 →
       let u := ((s.dropMsg m).putRx m.src m.slot f).remoteWrite (s.winBase m.slot + m.off - registerBase) (wordAt m.data.1 0) m.src
       Answers (exec (.write []) s) fun t => t.chj = u.chj ∧ t.mem = u.mem ∧ u.Up t (Fld.WIN_CNT_MSGS m.slot)) ∧
     (∀ f, s.headerFault m true = none → s.flowCase m = .duplicate f → Answers (exec (.write []) s) fun t => s.Up t Fld.COL_E2ECNT_DUP ∧ s.Queued t q (ack f) 0 ∧ t.mem = s.mem) ∧
     (s.headerFault m true = none → s.flowCase m = .ahead → Answers (exec (.write []) s) fun t => s.Up t Fld.COL_E2ECNT_AHEAD ∧ t.net.ports = s.net.ports ∧ t.mem = s.mem) ∧
     (∀ r, s.headerFault m true = some r ∨ (s.headerFault m true = none ∧ s.flowCase m = .refused r) → r < 16 →
       Answers (exec (.write []) s) fun t =>
         s.Up t Fld.WIN_REFUSE_COUNT ∧ t.get Fld.WIN_REFUSE_REASON = r ∧ t.get Fld.WIN_REFUSE_SLOT = m.slot ∧ t.mem = s.mem ∧
         s.Queued t q { (s.newMsg m.src 5 []) with slot := m.slot, reason := r, flow := m.flow, eseq := m.eseq, rtag := m.rtag, jseq := m.jseq } 0)) ∧
  ((∀ (s : State) (m : Msg) (f : TxFlow), s.net.inbox.find? (fun m => m.mtype == 4) = some m → sfind s.net.txFlows (flowKey m.src m.slot) = some f → f.flow = m.flow →
     let rest := f.sent.filter (fun x => decide (m.eseq < x.pos + x.len))
     Answers (exec .ack s) fun t =>
       t.net.inbox = s.net.inbox.erase m ∧ SameBut [.net] s t ∧
       (rest ≠ [] → sfind t.net.txFlows (flowKey m.src m.slot) =
         some { f with ackPos := max f.ackPos m.eseq, credLim := max f.credLim m.alen, resends := if f.ackPos < m.eseq then 0 else f.resends, sent := rest })) ∧
   (∀ (s : State) (m : Msg) (f : TxFlow) (e : JEntry), s.Canonical → s.net.inbox.find? (fun m => m.mtype == 5) = some m → sfind s.net.txFlows (flowKey m.src m.slot) = some f → f.flow = m.flow →
     (∃ x ∈ f.sent, x.jseq = m.jseq ∧ x.pos = m.eseq) → s.cmd m.jseq = some e → e.fin = none →
     Answers (exec .refuse s) fun t => t.RanTo m.jseq .memError ∧ (∀ k g, (k, g) ∈ t.net.txFlows → ∀ x ∈ g.sent, x.jseq ≠ m.jseq) ∧ t.mem = s.mem) ∧
   (∀ (s : State) (dst slot q p : Nat) (f : TxFlow) (x : SentMsg) (e : JEntry) (body : List Byte), sfind s.net.txFlows (flowKey dst slot) = some f → f.sent = [x] → f.resends < max 1 (s.get Fld.COL_XCHCFG_BUDGET) →
     s.nextHop dst = some q → s.lnkState q = lnkUp → s.isRetired 2 q = false → s.cmd x.jseq = some e → s.phys e.tile = some p → s.msgBody p e.words x.row x.atom x.atoms = some body → sCodec e.words ≠ 1 →
     Answers (exec (.resend dst slot) s) fun t =>
       s.Up t Fld.COL_E2ECNT_RESENDS ∧ sfind t.net.txFlows (flowKey dst slot) = some { f with resends := f.resends + 1 } ∧
       s.Queued t q { (s.newMsg dst 1 []) with slot := slot, last := x.last, esz := sEsize e.words - 2, flow := f.flow, eseq := x.pos, off := x.off, len := x.len, alen := x.alen, jseq := x.jseq, body := body } x.jseq) ∧
   (∀ (s : State) (dst slot q : Nat) (f : TxFlow) (x : SentMsg) (e : JEntry), s.Canonical → sfind s.net.txFlows (flowKey dst slot) = some f → f.sent = [x] → max 1 (s.get Fld.COL_XCHCFG_BUDGET) ≤ f.resends →
     s.nextHop dst = some q → s.lnkState q = lnkUp → s.cmd x.jseq = some e → e.fin = none →
     Answers (exec (.resend dst slot) s) fun t => t.RanTo x.jseq .timeout ∧ sfind t.net.txFlows (flowKey dst slot) = none ∧ t.mem = s.mem))

/-- R405, R410: a remote read that passes the checks is answered with the target's bytes; the data of an outstanding read goes to the LOAD's rows, and data with no read waiting for it is counted. R401, R406, R408, R410: a STORE to a herd address sends its next message on its flow while the credit limit lets it; a LOAD from one asks for its next message under a free tag. -/
def Obligations.RemoteReadRule : Prop :=
  ((∀ (s : State) (m : Msg) (k q : Nat), s.net.inbox.head? = some m → m.mtype = 2 → s.power.phase ≠ .parked → s.headerFault m false = none →
     (s.winType m.slot = 1 ∧ s.dramRange (s.winBase m.slot + m.off) m.len ≠ .waits) ∨ (s.winType m.slot = 2 ∧ s.unitDown 3 (slotTile (s.winBase m.slot + m.off)).1 = false) →
     s.Clean (s.winBase m.slot + m.off) m.len k → s.nextHop m.src = some q → s.isRetired 2 q = false →
     Answers (exec (.readReq []) s) fun t =>
       s.Queued t q { (s.newMsg m.src 3 []) with slot := m.slot, rtag := m.rtag, off := m.off, len := m.len, jseq := m.jseq, body := s.rbs k m.len } 0 ∧
       t.net.inbox = s.net.inbox.drop 1 ∧ t.mem = s.mem) ∧
   (∀ (s : State) (m : Msg) (r : RemoteRead) (e : JEntry) (p : Nat), s.net.inbox.find? (fun m => m.mtype == 3) = some m → sfind s.net.reads m.rtag = some r → s.cmd r.jseq = some e → s.phys e.tile = some p →
     e.fin = none → e.st = .dispatched →
     let o := if r.scale then sLocalScaleAt e.words r.row 0 else sLocalAt e.words r.row r.atom
     let bs := m.body.take m.len
     Answers (exec .readData s) fun t =>
       (∀ i (h : i < bs.length), t.rb (spKey p o + i) = bs[i]) ∧ BytesBut (spKey p o) bs.length s t ∧ sfind t.net.reads m.rtag = none) ∧
   (∀ (s : State) (m : Msg), s.net.inbox.find? (fun m => m.mtype == 3) = some m → sfind s.net.reads m.rtag = none →
     Answers (exec .readData s) fun t => s.Up t Fld.COL_LATE_COUNT ∧ t.net.inbox = s.net.inbox.erase m ∧ RegsBut [Reg.COL_LATE] s t ∧ SameBut [.regs, .net] s t) ∧
   (∀ (s : State) (tag : Nat) (r : RemoteRead) (e : JEntry), s.Canonical → sfind s.net.reads tag = some r → s.cmd r.jseq = some e → e.fin = none →
     Answers (exec (.remoteReadTimeout tag) s) fun t => t.RanTo r.jseq .timeout ∧ sfind t.net.reads tag = none ∧ nmem t.net.readQuar tag = true ∧ t.mem = s.mem) ∧
   (∀ (s : State) (tag : Nat), Answers (exec (.rtagQuarantine tag) s) fun t => nmem t.net.readQuar tag = false ∧ (∀ x, x ≠ tag → nmem t.net.readQuar x = nmem s.net.readQuar x) ∧ t.net.reads = s.net.reads ∧ SameBut [.net] s t)) ∧
  (∀ (s : State) (j p c q : Nat) (e : JEntry), s.onChannel j = some (e, p, c) → (s.segmentCredit j e).isSome = true → sFar e.words = 2 →
     let ws := e.words
     let u := (s.run j).asked
     let m := sMessage ws u
     let len := sMsgBytes ws m.2.2
     let slot := slotOfUda (sMsgFar ws m.1 m.2.1 m.2.2)
     let off := offOfUda (sMsgFar ws m.1 m.2.1 m.2.2)
     u < sUnitEnd ws e.segs → sUnitEnd ws e.segs = u + max 1 m.2.2 → s.nextHop (sHerd ws) = some q → s.isRetired 2 q = false →
     (∀ f body, tOp ws = 2 → sCodec ws ≠ 1 → sfind s.net.txFlows (flowKey (sHerd ws) slot) = some f → f.next + len ≤ f.credLim → s.msgBody p ws m.1 m.2.1 m.2.2 = some body →
       let x : SentMsg := ⟨f.next, len, j, off, decide (sRows ws * sUnits ws ≤ u + max 1 m.2.2), if u = 0 then sRows ws * arrRowBytes ws else 0, m.1, m.2.1, m.2.2⟩
       Answers (exec (.store j StreamObs.none) s) fun t =>
         s.Queued t q { (s.newMsg (sHerd ws) 1 []) with slot := slot, last := x.last, esz := sEsize ws - 2, flow := f.flow, eseq := x.pos, off := off, len := len, alen := x.alen, jseq := j, body := body } j ∧
         sfind t.net.txFlows (flowKey (sHerd ws) slot) = some { f with next := f.next + len, sent := f.sent ++ [x] } ∧ (t.run j).asked = sUnitEnd ws e.segs ∧ (t.run j).wait = .answers ∧ t.mem = s.mem) ∧
     (∀ tag, tOp ws = 1 → s.freeRtag = some tag →
       Answers (exec (.load j StreamObs.none) s) fun t =>
         s.Queued t q { (s.newMsg (sHerd ws) 2 []) with slot := slot, rtag := tag, off := off, len := len, jseq := j } 0 ∧
         sfind t.net.reads tag = some ⟨j, m.1, m.2.1, m.2.2, m.2.2 == 0⟩ ∧ (t.run j).awaiting = (s.run j).awaiting + 1 ∧ (t.run j).asked = sUnitEnd ws e.segs ∧ (t.run j).wait = .answers ∧ t.mem = s.mem))

/-- R426 to R429, R432, R433: what one edge of WHEEL_MARK does: none under NOMARK; a glitch is counted and the fifth edge of a revolution is a fault; with the phase held an edge within two cycles of the predicted instant is accepted and any other counted outside; in FREE_RUN the first one begins ACQUIRE, whose fourth in step holds the phase; in HOLDOVER one within two cycles ends it; a mark that stays high is a fault. -/
def Obligations.MarkEdgeRule : Prop :=
  (∀ (s : State) (h : Nat), s.flag Fld.WHL_CTL_NOMARK = true → Answers (exec (.wheelMark h) s) fun t => SameBut [] s t) ∧
  (∀ (s : State) (h : Nat), s.power.porst = false → s.flag Fld.WHL_CTL_NOMARK = false → s.wheel.fault = false →
    let off := s.markOffset
    let near : Prop := -2 ≤ off ∧ off ≤ 2
    let accepted (t : State) : Prop := s.Up t Fld.WHL_MARKCNT_ACCEPTED ∧ t.wheel.edges = s.wheel.edges + 1 ∧ (off < 0 → t.wheel.markedNext = true) ∧ (0 ≤ off → t.wheel.marked = true)
    (4 ≤ s.wheel.edges → Answers (exec (.wheelMark h) s) fun t =>
      s.Up t Fld.WHL_FAULT_FAST ∧ t.get Fld.WHL_FAULT_LAST = 2 ∧ t.wheel.fault = true ∧ (s.whlState = whlLocked → t.whlState = whlHoldover)) ∧
    (s.wheel.edges < 4 → h < 2 → Answers (exec (.wheelMark h) s) fun t => s.Up t Fld.WHL_MARKCNT_GLITCH ∧ t.wheel.edges = s.wheel.edges + 1 ∧ SameBut [.regs, .wheel] s t) ∧
    (s.wheel.edges < 4 → 2 ≤ h → s.wheel.refIn = false → Answers (exec (.wheelMark h) s) fun t => accepted t ∧ t.whlState = s.whlState) ∧
    (s.wheel.edges < 4 → 2 ≤ h → s.wheel.refIn = true →
      (s.whlState = whlLocked ∨ (s.whlState = whlAcquire ∧ s.wheel.held = true) →
        (near → Answers (exec (.wheelMark h) s) fun t => accepted t ∧ t.whlState = s.whlState ∧ t.flag Fld.WHL_STAT_SLEWING = (t.wheel.slew != 0 || t.wheel.slewNext != 0)) ∧
        (¬ near → Answers (exec (.wheelMark h) s) fun t => s.Up t Fld.WHL_MARKCNT_OUTSIDE ∧ t.whlState = s.whlState ∧ t.wheel.marked = s.wheel.marked)) ∧
      (s.whlState = whlFreeRun → s.wheel.acq = 0 → Answers (exec (.wheelMark h) s) fun t => accepted t ∧ t.whlState = whlAcquire ∧ t.wheel.acq = 1) ∧
      (s.whlState = whlAcquire → s.wheel.held = false → s.wheel.acq = 3 → s.wheel.cycles = s.wheel.lastMark + 65536 → near → Answers (exec (.wheelMark h) s) fun t =>
        accepted t ∧ t.wheel.held = true ∧ t.whlState = if s.get Fld.WHL_STAT_COUNTSRC = 2 then whlLocked else whlAcquire) ∧
      (s.whlState = whlHoldover → near → Answers (exec (.wheelMark h) s) fun t => accepted t ∧ t.wheel.held = true ∧ t.whlState = if s.get Fld.WHL_STAT_COUNTSRC = 2 then whlLocked else whlAcquire)) ∧
    (Answers (exec .stuck s) fun t => s.Up t Fld.WHL_FAULT_STUCK ∧ t.get Fld.WHL_FAULT_LAST = 1 ∧ t.wheel.fault = true ∧ (s.whlState = whlLocked → t.whlState = whlHoldover)))

/-- R424, R425, R429, R433, R434, R445: a boundary brings spoke 0000 of the next revolution, or of the revolution that the count takes; the reference's loss, its return and the oscillator's discipline; the end of a pause, with the launch that fell into it. R429, R434, R436, R447: a neighbour's WHEELPOS is recorded, and a package without a herd count takes the herd's in spokes 8 to 2047; at its instant each port in service is to send its own; CLRCOUNT drops the count. -/
def Obligations.RevolutionAndCountRule : Prop :=
  ((∀ (s : State), s.power.porst = false → s.flag Fld.WHL_STAT_PAUSED = false →
     let takes : Prop := s.wheel.held = true ∧ (s.whlState = whlAcquire ∨ s.whlState = whlLocked) ∧ s.get Fld.WHL_STAT_COUNTSRC = 0 ∧ 15 ≤ s.wheel.heldRevs ∧ s.herdAddr = 0
     Answers (exec .revolutionBoundary s) fun t =>
       t.get Fld.WHL_NOW_SPOKE = 0 ∧ t.get Fld.WHL_NOW_CYCLE = 0 ∧ t.wheel.marked = s.wheel.markedNext ∧ t.wheel.edges = 0 ∧
       (takes → t.get Fld.WHL_NOW_REV = s.get Fld.WHL_REVSET_COUNT % 2 ^ 48 ∧ t.get Fld.WHL_STAT_COUNTSRC = if s.image.isSome then 2 else 1) ∧
       (¬ takes → t.get Fld.WHL_NOW_REV = s.wheel.nextRev.getD (s.get Fld.WHL_NOW_REV + 1) % 2 ^ 48)) ∧
   (∀ (s : State), s.wheel.refIn = true → Answers (exec .referenceLoss s) fun t =>
     t.wheel.refIn = false ∧ t.get Fld.WHL_STAT_OSC = 1 ∧
     (s.whlState = whlLocked → s.flag Fld.WHL_STAT_DISCIPLINED = true → s.flag Fld.WHL_STAT_SLEWING = false → t.whlState = whlHoldover ∧ t.get Fld.WHL_HOLDSTAT_REASON = 3 ∧ t.get Fld.WHL_HOLDSTAT_ERR = 3) ∧
     (s.whlState = whlLocked → s.flag Fld.WHL_STAT_DISCIPLINED = true → s.flag Fld.WHL_STAT_SLEWING = true → t.whlState = whlLocked ∧ t.wheel.lossDue = true) ∧
     (s.whlState ≠ whlFreeRun → s.flag Fld.WHL_STAT_DISCIPLINED = false → t.whlState = whlFreeRun ∧ t.get Fld.WHL_HOLDSTAT_REASON = 5)) ∧
   (∀ (s : State), s.wheel.refIn = false → Answers (exec .referenceRestore s) fun t =>
     t.wheel.refIn = true ∧ t.get Fld.WHL_STAT_OSC = 0 ∧ t.flag Fld.WHL_STAT_DISCIPLINED = false ∧ t.whlState = s.whlState ∧ RegsBut [Reg.WHL_STAT] s t ∧ SameBut [.regs, .wheel] s t) ∧
   (∀ (s : State), s.wheel.refIn = true → Answers (exec .disciplined s) fun t => t.flag Fld.WHL_STAT_DISCIPLINED = true ∧ RegsBut [Reg.WHL_STAT] s t ∧ SameBut [.regs] s t) ∧
   (∀ (s : State), s.flag Fld.WHL_STAT_PAUSED = true → Answers (exec .pauseEnd s) fun t =>
     t.flag Fld.WHL_STAT_PAUSED = false ∧ t.wheel.owedLaunch = none ∧ t.reg Reg.WHL_NOW = s.reg Reg.WHL_NOW ∧
     (∀ v, s.wheel.owedLaunch = some v → s.nowSpokes < v → t.net.vote.launched = some v) ∧ (s.wheel.owedLaunch = none → t.net = s.net))) ∧
  ((∀ (s : State) (p : Nat) (f : Flit) (m : List Word), s.TakesMsg p f m → ctlType m = 7 →
     let r := s.takeReturn p f.link
     let rev := bits (wget m 1) 16 48
     Answers (exec (.wheelpos p f) s) fun t =>
       r.Up t Fld.WHL_POSCNT_RECEIVED ∧ bit (t.reg (Reg.WHL_NBR p)) 59 = true ∧ bits (t.reg (Reg.WHL_NBR p)) 60 4 = bits (wget m 0) 52 2 + 4 * bits (wget m 0) 54 2 ∧ bits (t.reg (Reg.WHL_NBR p)) 32 16 = bits (wget m 0) 32 16 ∧
       (bits (wget m 0) 52 2 = 2 → r.get Fld.WHL_STAT_COUNTSRC ≠ 2 → r.whlState = whlAcquire ∨ r.whlState = whlLocked → 8 ≤ r.get Fld.WHL_NOW_SPOKE → r.get Fld.WHL_NOW_SPOKE ≤ 2047 → r.lnkState p = lnkUp →
         t.get Fld.WHL_NOW_REV = rev ∧ t.get Fld.WHL_STAT_COUNTSRC = 2 ∧ r.Up t Fld.WHL_POSCNT_ADOPTED) ∧
       (bits (wget m 0) 52 2 = 2 → r.get Fld.WHL_STAT_COUNTSRC = 2 → rev ≠ r.get Fld.WHL_NOW_REV → r.Up t Fld.WHL_POSCNT_DISAGREE ∧ t.reg Reg.WHL_NOW = r.reg Reg.WHL_NOW)) ∧
   (∀ (s : State), Answers (exec .wheelposInstant s) fun t =>
     (∀ p, p < 6 → s.lnkState p = lnkUp ∨ s.lnkState p = lnkLow → (t.port p).urgent = (s.port p).urgent ++ [s.wheelposMsg]) ∧ SameBut [.net] s t) ∧
   (∀ (s : State) (src : RegSrc) (v : BitVec 32), s.power.porst = false → s.unavailable Reg.WHL_CTL = false → v.getLsbD 1 = s.flag Fld.WHL_CTL_NOMARK →
     Answers (exec (.clrcount src v) s) fun t => t.get Fld.WHL_STAT_COUNTSRC = 0 ∧ t.wheel.heldRevs = 0 ∧ t.whlState = if s.whlState = whlLocked then whlAcquire else s.whlState))

/-- R437 to R444: a calendar entry that falls due, unless a lower-numbered one shares its key: GRANT opens the class 0 grant of its ports that are UP for DUR spokes, and GRANT_CLOSE ends it; MARK raises a tile's mark; an entry that the Wheel's state does not let fire is counted as suppressed and does nothing. -/
def Obligations.CalendarRule : Prop :=
  (∀ (s : State) (n : Nat), let e := s.calEntry n
    let shares (p : Nat) (f : CalEntry) : Bool := f.kind == 1 && decide (f.ports / 2 ^ p % 2 = 1)
    let mine (p : Nat) : Prop := p < 6 ∧ e.ports / 2 ^ p % 2 = 1 ∧ s.keyShared n true (shares p) = false
    e.kind = 1 → n < s.calSize → s.calDue e = true → s.hasFired (2 * n) = false → (∃ p, mine p) →
    (s.calAllowed e = true → Answers (exec (.grant n) s) fun t =>
      s.Up t Fld.WHL_CALCNT_FIRED ∧ (∀ p, mine p → s.lnkState p = lnkUp → ∃ g ∈ t.wheel.grants, g.port = p ∧ s.nowSpokes + e.dur ≤ g.close) ∧ (∀ p, ¬ mine p → t.grantOpen p = s.grantOpen p)) ∧
    (s.calAllowed e = false → Answers (exec (.grant n) s) fun t => s.Up t Fld.WHL_CALCNT_SUPPRESSED ∧ t.wheel.grants = s.wheel.grants)) ∧
  (∀ (s : State) (p : Nat), p < 6 →
    Answers (exec (.grantClose p) s) fun t => (∀ g ∈ t.wheel.grants, g.port = p → s.nowSpokes < g.close) ∧ (∀ g ∈ s.wheel.grants, g.port ≠ p ∨ s.nowSpokes < g.close → g ∈ t.wheel.grants) ∧ SameBut [.wheel] s t) ∧
  (∀ (s : State) (n : Nat), let e := s.calEntry n
    let shares (f : CalEntry) : Bool := f.kind == 3 && f.ports == e.ports && f.markno == e.markno
    e.kind = 3 → n < s.calSize → s.calDue e = true → s.hasFired (2 * n) = false → s.keyShared n true shares = false →
    (∀ p, s.calAllowed e = true → s.power.wrst = false → s.unitDown 3 e.ports = false → s.phys e.ports = some p → p < 68 → e.markno < 64 → Answers (exec (.mark n) s) fun t =>
      t.markCount e.ports e.markno = min 65535 (s.markCount e.ports e.markno + e.inc) ∧ s.Up t Fld.WHL_CALCNT_FIRED) ∧
    (s.calAllowed e = false → Answers (exec (.mark n) s) fun t => s.Up t Fld.WHL_CALCNT_SUPPRESSED ∧ t.markCount e.ports e.markno = s.markCount e.ports e.markno))

/-- R78, R80, R81, R83, R84, R87, R88: the actions of HRN_CTRL as they begin, when no action is in progress: a full load stops acceptance and reads the host image or takes a store slot's; a partial reload holds what is accepted from then on; a STORE of a slot into itself is done; ERASE empties a slot; ABORT ends an action not yet applying; and a herd check reports every port whose dimension has an extent above 1. -/
def Obligations.LoaderActions : Prop :=
  ∀ (s : State) (src : RegSrc) (v : BitVec 32), s.power.porst = false →
    let source := v.toNat / 16 % 16
    let slot := v.toNat / 256 % 4
    let ended (t : State) (code last stopped : Nat) : Prop :=
      t.load = none ∧ t.flag Fld.HRN_STATUS_BUSY = false ∧ t.hrnPhase = 7 ∧ t.get Fld.HRN_STATUS_CODE = code ∧ t.get Fld.HRN_STATUS_LAST = last ∧ t.get Fld.HRN_STATUS_STOPPED = stopped
    let staging (t : State) (kind tag : Nat) : Prop := let n := min 4096 (s.get Fld.HRN_SRCLEN_LEN)
      (∃ l, t.load = some l ∧ l.kind = kind ∧ l.origin = .software ∧ l.source = 0 ∧ l.staged = 0 ∧ l.len = s.get Fld.HRN_SRCLEN_LEN ∧ l.reading = true) ∧
      t.flag Fld.HRN_STATUS_BUSY = true ∧ t.hrnPhase = 1 ∧ t.mem = s.mem ∧
      t.host.out = s.host.out ++ [.read tag (s.reg Reg.HRN_SRCADDR).toNat n] ∧ sfind t.host.reads tag = some ⟨.stage 0 n, (s.reg Reg.HRN_SRCADDR).toNat, n⟩
    let hostImage (tag : Nat) : Prop := source = 0 ∧ s.get Fld.HRN_SRCLEN_LEN ≠ 0 ∧ s.get Fld.HRN_SRCLEN_LEN % 64 = 0 ∧ s.get Fld.HRN_SRCLEN_LEN ≤ maxImage ∧
      s.hostOpen = true ∧ s.live = true ∧ s.host.reads.length < s.readLimit ∧ s.freeTag = some tag
    let copied (t : State) (kind : Nat) : Prop :=
      (∃ l, t.load = some l ∧ l.kind = kind ∧ l.origin = .software ∧ l.source = source) ∧ t.flag Fld.HRN_STATUS_BUSY = true ∧ t.hrnPhase = 2 ∧
      (∀ i, i < maxImage → t.rb (areaKey s.otherArea i) = s.rb (areaKey (source - 1) i)) ∧ BytesBut (areaKey s.otherArea 0) maxImage s t
    let storeImage : Prop := s.Canonical ∧ 0 < source ∧ source < 3 ∧ (s.slotState (source - 1)).1 = true
    (∀ tag, s.load = none → s.anyOutstanding = false → s.anyFlash = true → hostImage tag → Answers (exec (.fullLoad src v) s) fun t => t.acceptStop = true ∧ staging t 1 tag) ∧
    (s.load = none → s.anyOutstanding = false → s.anyFlash = true → storeImage → Answers (exec (.fullLoad src v) s) fun t => t.acceptStop = true ∧ copied t 1) ∧
    (∀ tag, s.load = none → s.anyFlash = true → hostImage tag → Answers (exec (.partialLoad src v) s) fun t => t.holdFrom = some (s.get Fld.JRN_NEXT_JSEQ) ∧ t.acceptStop = s.acceptStop ∧ staging t 2 tag) ∧
    (s.load = none → s.anyFlash = true → storeImage → Answers (exec (.partialLoad src v) s) fun t => t.holdFrom = some (s.get Fld.JRN_NEXT_JSEQ) ∧ t.acceptStop = s.acceptStop ∧ copied t 2) ∧
    (∀ tag, s.load = none → s.anyFlash = true → slot < 2 → hostImage tag → Answers (exec (.storeAction src v) s) fun t => t.acceptStop = s.acceptStop ∧ t.holdFrom = s.holdFrom ∧ staging t 3 tag) ∧
    (s.load = none → s.anyFlash = true → slot < 2 → source ≠ slot + 1 → storeImage → Answers (exec (.storeAction src v) s) fun t => t.acceptStop = s.acceptStop ∧ copied t 3) ∧
    (s.load = none → slot < 2 → source = slot + 1 → Answers (exec (.storeAction src v) s) fun t => ended t 0 3 7 ∧ t.mem = s.mem ∧ t.slotState slot = s.slotState slot) ∧
    (s.load = none → slot < 2 → s.anyFlash = true → Answers (exec (.erase src v) s) fun t =>
      ended t 0 6 7 ∧ t.slotState slot = (false, false, 0) ∧ (∀ i, i < maxImage → t.rb (areaKey slot i) = 0) ∧ BytesBut (areaKey slot 0) maxImage s t ∧
      t.get Fld.CAP_GEN_GEN = (s.get Fld.CAP_GEN_GEN + 2) % 2 ^ Fld.CAP_GEN_GEN.n) ∧
    (∀ l, s.load = some l → l.kind < 16 → s.hrnPhase < 4 → l.origin = .software → Answers (exec (.abort src v) s) fun t =>
      ended t 0x21 l.kind s.hrnPhase ∧ t.mem = s.mem ∧ (l.kind = 2 → t.holdFrom = none) ∧ (l.kind = 1 → t.acceptStop = decide (s.power.phase = .starting))) ∧
    (s.load = none → s.image.isSome = true → s.power.phase ≠ .starting → s.herdPorts.any (fun p => s.lnkState p == lnkTraining) = false →
      Answers (exec (.herdCheck (.request src v)) s) fun t =>
        ended t 0 5 7 ∧ t.herdValid = s.herdPorts.all (fun p => s.herdResult p == 1) ∧
        ∀ p, p < 6 → t.get Fld.HRN_HERD_PORTS / 16 ^ p % 16 = if p ∈ s.herdPorts then s.herdResult p else 0) ∧
    (s.load = none → s.image = none → Answers (exec (.herdCheck (.request src v)) s) fun t => ended t 0x23 5 0 ∧ t.herdValid = s.herdValid ∧ t.get Fld.HRN_HERD_PORTS = s.get Fld.HRN_HERD_PORTS) ∧
    (∀ l, s.load = some l → l.kind < 16 → s.hrnPhase = 6 → l.origin = .software → s.herdPorts.any (fun p => s.lnkState p == lnkTraining) = false → Answers (exec (.herdCheck .proceed) s) fun t =>
      ended t 0 l.kind 7 ∧ t.herdValid = s.herdPorts.all (fun p => s.herdResult p == 1))

/-- R73, R79, R80, R82, R84, R85, R88: how an action goes on: verification passes the image on, puts a STORE's into its slot, or ends with the code of the first fault; the image that is due is applied; a drain that takes too long is given up; and at cold start the best store slot is staged. -/
def Obligations.LoaderProgress : Prop :=
  ∀ (s : State) (l : LoadAct), let img := if l.source = 0 ∧ l.origin = .software then s.rbs (areaKey (s.loadArea l) 0) l.len else s.areaImage (s.loadArea l)
    let failed (t : State) (code stopped : Nat) : Prop :=
      t.load = none ∧ t.flag Fld.HRN_STATUS_BUSY = false ∧ t.hrnPhase = 7 ∧ t.get Fld.HRN_STATUS_CODE = code ∧ t.get Fld.HRN_STATUS_STOPPED = stopped ∧ t.mem = s.mem ∧ t.image = s.image ∧ t.sections = s.sections
    (s.load = some l → s.live = true → s.hrnPhase = 2 → l.origin = .software → Answers (exec (.verifying false) s) fun t => failed t 0x1E 2) ∧
    (∀ e, s.load = some l → s.live = true → s.hrnPhase = 2 → l.origin = .software → s.verify l.kind img.length img = some e → Answers (exec (.verifying true) s) fun t =>
      failed t e.code.num 2 ∧ t.flag Fld.HRN_ERRDET_ACTIVE = e.active) ∧
    (s.load = some l → s.live = true → s.hrnPhase = 2 → l.kind = 1 → s.verify 1 img.length img = none → Answers (exec (.verifying true) s) fun t =>
      t.hrnPhase = 3 ∧ t.load = some l ∧ RegsBut [Reg.HRN_STATUS] s t ∧ SameBut [.regs] s t) ∧
    (s.load = some l → s.live = true → s.hrnPhase = 2 → l.kind = 2 → s.verify 2 img.length img = none → Answers (exec (.verifying true) s) fun t =>
      t.hrnPhase = 3 ∧ t.load = some { l with types := (sectionsOf img).map (fun x => x.type) } ∧
      (let both := s.combined (s.areaImage s.activeArea) img
       (∀ i b, both[i]? = some b → t.rb (areaKey s.otherArea i) = b) ∧ BytesBut (areaKey s.otherArea 0) (max maxImage both.length) s t) ∧
      RegsBut [Reg.HRN_STATUS] s t ∧ SameBut [.regs, .mem, .poison, .load] s t) ∧
    (s.load = some l → s.live = true → s.hrnPhase = 2 → l.kind = 3 → l.origin = .software → l.slot < 2 → s.Canonical → s.verify 3 img.length img = none → Answers (exec (.verifying true) s) fun t =>
      let h := ImgHeader.ofBytes (s.rbs (areaKey s.otherArea 0) 64)
      t.load = none ∧ t.get Fld.HRN_STATUS_CODE = 0 ∧ t.get Fld.HRN_STATUS_LAST = 3 ∧ t.slotState l.slot = (true, decide (h.flags / 128 % 2 = 1), h.generation % 2 ^ Fld.HRN_STORE0_GENERATION.n) ∧
      (∀ i, i < maxImage → t.rb (areaKey l.slot i) = s.rb (areaKey s.otherArea i)) ∧ BytesBut (areaKey l.slot 0) maxImage s t ∧ t.image = s.image) ∧
    (s.load = some l → s.live = true → s.hrnPhase = 3 → l.due = true → l.kind = 1 → let bs := s.areaImage (s.loadArea l)
      s.repeatPhases (ImgHeader.ofBytes bs) (sectionsOf bs) = none → Answers (exec .harnessApply s) fun t =>
        t.image = some (ImgHeader.ofBytes bs) ∧ t.sections = sectionsOf bs ∧ t.hrnPhase = 5 ∧ t.herdValid = false ∧ t.power.phase = .starting ∧ t.power.ordering = true ∧ t.power.next = 0 ∧
        t.load = some l ∧ t.journal = s.journal) ∧
    (s.load = some l → s.live = true → s.hrnPhase = 3 → l.due = true → l.kind = 2 → s.drained = true → let bs := s.areaImage (s.loadArea l)
      Answers (exec .harnessApply s) fun t =>
        t.image = some (ImgHeader.ofBytes bs) ∧ t.sections = sectionsOf bs ∧ t.holdFrom = none ∧ t.load = none ∧ t.hrnPhase = 7 ∧ t.get Fld.HRN_STATUS_CODE = 0 ∧ t.journal = s.journal ∧ t.tileMap = s.tileMap) ∧
    (∀ e, s.load = some l → s.live = true → s.hrnPhase = 3 → l.due = true → l.kind = 1 → l.origin = .software → let bs := s.areaImage (s.loadArea l)
      s.repeatPhases (ImgHeader.ofBytes bs) (sectionsOf bs) = some e → Answers (exec .harnessApply s) fun t => failed t e.code.num 3) ∧
    (s.load = some l → s.live = true → l.kind = 2 → l.origin = .software → s.hrnPhase < 4 → s.drained = false → Answers (exec .prldTimeout s) fun t => failed t 0x1D s.hrnPhase ∧ t.holdFrom = none) ∧
    (∀ k r, s.power.flashStage = true → s.live = true → s.load = none → s.anyFlash = true → s.Canonical → s.autoSlots = k :: r → Answers (exec .autoload s) fun t =>
      (∃ l', t.load = some l' ∧ l'.kind = 1 ∧ l'.origin = .coldStart ∧ l'.source = k + 1 ∧ l'.alt = r.head?) ∧ t.hrnPhase = 2 ∧ t.flag Fld.HRN_STATUS_BUSY = true ∧ t.power.flashStage = false ∧
      ∀ i, i < maxImage → t.rb (areaKey s.otherArea i) = s.rb (areaKey k i)) ∧
    (s.power.flashStage = true → s.live = true → s.load = none → s.autoSlots = [] → Answers (exec .autoload s) fun t => t.load = none ∧ t.power.flashStage = false ∧ t.mem = s.mem)

/-- R548, R550, R87: an entry's start and the start of its unit; with the last one started, acceptance opens and the device runs, and a load goes on to its herd check. -/
def Obligations.StartOrderRule : Prop :=
  (∀ (s : State) (e : StartEntry), let n := s.power.next
    let k := 65536 * e.cls + e.idx
    s.order[n]? = some e → n + 1 < s.order.length → n < 128 → s.power.ordering = true → s.live = true → s.orderMay n = true → s.orderSkips e = false → s.unitDown e.cls e.idx = true →
    (e.cls ≠ 4 → Answers (exec .startOrder s) fun t =>
      t.power = { s.power with next := n + 1, begun := nadd s.power.begun k } ∧ t.get Fld.PWR_STAT_STARTIDX = n ∧ RegsBut [Reg.PWR_STAT] s t ∧ SameBut [.regs, .power] s t) ∧
    (e.cls = 4 → e.idx < 6 → s.lnkState e.idx = lnkDown → s.flag (Fld.LNK_CTL_HOLDDOWN e.idx) = false → Answers (exec .startOrder s) fun t =>
      t.power.next = n + 1 ∧ k ∉ t.power.down ∧ t.lnkState e.idx = lnkTraining ∧ t.get Fld.PWR_STAT_STARTIDX = n)) ∧
  (∀ (s : State) (cls idx : Nat), let k := 65536 * cls + idx
    s.power.ordering = true → s.live = true → k ∈ s.power.begun → cls ≠ 4 → (cls = 1 → idx < 20) →
    (s.power.next < s.order.length → Answers (exec (.unitStarted cls idx) s) fun t =>
      t.power = { s.power with down := s.power.down.filter (fun x => x != k), begun := s.power.begun.filter (fun x => x != k) } ∧
      (cls = 1 → t.flag (Fld.DRM_STAT_INSERVICE idx) = true) ∧ (cls ≠ 1 → t.regs = s.regs) ∧ SameBut [.regs, .power] s t) ∧
    (s.order.length ≤ s.power.next → (∀ e ∈ s.order, (e.cls = cls ∧ e.idx = idx) ∨ s.entryUp e = true) → s.power.startKind ≠ .parkExit → (s.hrnPhase = 5 → s.herdPorts = [] ∧ s.load ≠ none) →
      Answers (exec (.unitStarted cls idx) s) fun t =>
        t.power.phase = .running ∧ t.power.ordering = false ∧ t.acceptStop = false ∧
        (s.hrnPhase = 5 → t.herdValid = true ∧ t.hrnPhase = 7 ∧ t.get Fld.HRN_STATUS_CODE = 0 ∧ t.load = none)))

/-- R540, R541, R601: at the end of a spoke its power joins the average; over the limit the highest class below level 15 rises by one, under the limit less the hysteresis the lowest class above 0 falls by one; and every extra thermal level moves by its die's or stacks' hottest sample; and no package's fused minimum voltage lies above the bounds' line. -/
def Obligations.PowerCapRule : Prop :=
  (∀ (s : State) (obs : PowerObs), s.power.porst = false →
     let w := (packagePower obs :: s.power.window).take s.powerWindow
     let sum := w.foldl (· + ·) 0
     let n := w.length
     let h := s.powerHead
     let levels (t : State) : List Nat := t.power.classes.map (fun c => c.level)
     let moved (k : Option Nat) (f : Nat → Nat) : List Nat := (levels s).zipIdx.map (fun c => if some c.2 = k then f c.1 else c.1)
     Answers (exec (.powerCap obs) s) fun t =>
       t.power.window = w ∧ t.get Fld.PWR_MEAS_AVG_W = min 65535 (wattsOf sum n) ∧ t.get Fld.PWR_MEAS_PEAK_W = max (s.get Fld.PWR_MEAS_PEAK_W) (min 65535 (wattsOf (packagePower obs) 1)) ∧
       (s.hasSection 0xB = true → h.limit * 8000 * n < sum → levels t = moved s.classToRaise (fun x => x + 1)) ∧
       (s.hasSection 0xB = true → sum < (h.limit - h.hyst) * 8000 * n → levels t = moved s.classToLower (fun x => x - 1)) ∧
       (s.hasSection 0xB = true → sum ≤ h.limit * 8000 * n → (h.limit - h.hyst) * 8000 * n ≤ sum → levels t = levels s) ∧
       (s.hasSection 0xB = false → levels t = levels s) ∧
       t.power.therm = (obs.temps.foldl (fun (x : State) v => x.sample v) s).thermNext ∧
       SameBut [.regs, .host, .mgmt, .power] s t) ∧
  (∀ f : Nat, 400 ≤ f → f ≤ 1650 → let bound := lineAt (fun k => vminBounds.getD k 0) f
    lineAt vminKnot f ≤ bound ∧ ∀ mv, bound ≤ mv → belowVmin f mv = false)

/-- R546, R547, R390: PARK asks for park, or takes the request back; with no work left the units park and the ports that may are asked into LOW_POWER; and after a waking event the parked units start again in the start order. -/
def Obligations.ParkRule : Prop :=
  (∀ (s : State) (src : RegSrc) (v : BitVec 32), s.power.porst = false → let on := v.getLsbD 0
    Answers (exec (.park src v) s) fun t =>
      t.flag Fld.PWR_CTL_PARK = on ∧ RegsBut [Reg.PWR_CTL, Reg.MGT_CHJNEXT] s t ∧ SameBut [.regs, .mgmt, .chj, .power] s t ∧
      t.power.phase = (if s.power.phase = .running ∧ on = true then .parking else if s.power.phase = .parking ∧ on = false then .running
        else if s.power.phase = .parked ∧ on = false then .waking else s.power.phase) ∧
      (s.power.phase = .waking → t.power.again = on)) ∧
  (∀ (s : State), s.power.phase = .parking → s.live = true → s.mayPark = true →
    Answers (exec .parkEntry s) fun t =>
      t.power.phase = .parked ∧ (∀ k, k ∈ t.power.down ↔ k ∈ s.power.down ∨ k ∈ s.parkUnits) ∧ (∀ p, p < 6 → s.mayLowPower p = true → (t.port p).pmEnter = true) ∧
      (∀ p, p < 6 → s.mayLowPower p = false → t.port p = s.port p) ∧ SameBut [.regs, .host, .mgmt, .net, .power] s t) ∧
  (∀ (s : State), s.power.phase = .waking → s.power.ordering = false → s.live = true → s.order ≠ [] →
    Answers (exec .parkExit s) fun t =>
      t.power = { s.power with startKind := .parkExit, next := 0, ordering := true, begun := [] } ∧ t.get Fld.PWR_STAT_STARTIDX = 0 ∧ (∀ p, p < 6 → (t.port p).pmEnter = false) ∧
      RegsBut [Reg.PWR_STAT] s t ∧ SameBut [.regs, .net, .power] s t)

/-- R18, R523 to R525, R528, R551 to R553, R558, R602: the resets. A cold reset keeps the flash store's bytes and the store slots, the mirror and the wear records and clears the rest; its release samples the straps; a warm reset keeps the journal, memory and image and stops acceptance; and resumption replays what had been dispatched and loads the active image again. -/
def Obligations.ResetRule : Prop :=
  (∀ (s : State) (straps : Nat), s.power.porst = false → Answers (exec (.porstN true straps) s) fun t =>
    t.power.porst = true ∧ t.journal = [] ∧ t.image = none ∧ t.halt = .running ∧ t.mirror = s.mirror ∧ t.pending = s.pending ∧ t.load = none ∧
    t.reg Reg.HRN_STORE0 = s.reg Reg.HRN_STORE0 ∧ t.reg Reg.HRN_STORE1 = s.reg Reg.HRN_STORE1 ∧ t.get Fld.CLK_RSTSTAT_LAST = s.coldCause ∧
    (∀ a i, a < 4 → i < maxImage → t.rb (areaKey a i) = s.rb (areaKey a i)) ∧ (∀ x, x < flashBase → t.rb x = 0) ∧ (∀ p o, p < 68 → o < spSize → t.rb (spKey p o) = 0) ∧
    (s.retired = [] → ∀ a, wearReg a = false → a ∉ [Reg.HRN_STORE0, Reg.HRN_STORE1, Reg.JRN_MIRROR, Reg.JRN_PLNEXT, Reg.CLK_RSTSTAT] → t.reg a = regReset a)) ∧
  (∀ (s : State) (straps : Nat), s.power.porst = true → Answers (exec (.porstN false straps) s) fun t => t.power = { s.power with porst := false } ∧ t.mgmt.straps = straps % 4 ∧ SameBut [.mgmt, .power] s t) ∧
  (∀ (s : State), s.power.porst = false → s.power.wrst = false → s.halt = .running → Answers (exec (.wrstN true) s) fun t => s.Up t Fld.CLK_RSTCNT_GLITCH ∧ RegsBut [Reg.CLK_RSTCNT] s t ∧ SameBut [.regs] s t) ∧
  (∀ (s : State), s.power.porst = false → s.power.wrst = false → s.halt = .running → Answers (exec (.wrstN false) s) fun t =>
    t.power.wrst = true ∧ t.power.phase = .starting ∧ t.power.down = allUnits ∧ t.acceptStop = true ∧ t.holdFrom = none ∧ t.load = none ∧
    t.get Fld.CLK_RSTSTAT_WARMS = (s.get Fld.CLK_RSTSTAT_WARMS + 1) % 2 ^ 32 ∧ t.get Fld.CLK_RSTSTAT_LAST = 2 ∧ t.flag Fld.PWR_CTL_PARK = false ∧ t.get Fld.PWR_STAT_STARTIDX = 0 ∧
    (s.load ≠ none → t.get Fld.HRN_STATUS_CODE = 0x22 ∧ t.get Fld.HRN_STATUS_STOPPED = s.hrnPhase ∧ t.flag Fld.HRN_STATUS_BUSY = false) ∧
    t.tier = s.tier.warm ∧ t.net.inbox = [] ∧ t.arrInj = [] ∧
    SameBut [.regs, .host, .mgmt, .acceptStop, .holdFrom, .tier, .arrInj, .lastDisp, .net, .streams, .sweep, .load, .power] s t) ∧
  (∀ (s : State), s.power.porst = false → s.power.wrst = true → s.halt = .running → s.image = none → Answers (exec .resumption s) fun t =>
    t.power = { s.power with wrst := false, flashStage := true } ∧ t.acceptStop = false ∧ SameBut [.acceptStop, .power] s t) ∧
  (∀ (s : State), s.Canonical → s.power.porst = false → s.power.wrst = true → s.halt = .running → s.image ≠ none → s.anyFlash = true → Answers (exec .resumption s) fun t =>
    t.power.wrst = false ∧ t.flag Fld.HRN_STATUS_BUSY = true ∧ t.hrnPhase = 2 ∧ (∃ l, t.load = some l ∧ l.kind = 1 ∧ l.origin = .warmReset) ∧ t.get Fld.JRN_RECOV_CAUSE = 2 ∧
    (∀ j e, s.cmd j = some e → e.st = .dispatched → e.refusal = none → ∃ e', t.cmd j = some e' ∧ e'.disp = e.disp + 1 ∧ e'.st = .dispatched ∧ e'.words = e.words) ∧
    (∀ j e, s.cmd j = some e → e.st ≠ .dispatched → t.cmd j = some e) ∧ t.mem = s.mem)

/-- R519, R527, R537, R544, R552, R556, R589: the halts: the first power warning, a rail that stays low and a sensor over its trip temperature halt the device and write the journal mirror where a flash stack is in service; a later edge is counted; and a fatal fault halts with its cause and an uncorrectable error on the link. -/
def Obligations.HaltRule : Prop :=
  let warned (s t : State) : Prop := t.halt = .powerWarning ∧ t.power.warned = true ∧
    (s.anyFlash = true → t.mirror = some ⟨s.nextJseq, s.listed⟩) ∧ (s.anyFlash = false → t.flag Fld.JRN_MIRROR_NOFLASH = true ∧ t.mirror = s.mirror)
  (∀ (s : State), s.power.porst = false → s.power.warned = true → Answers (exec .pwrWarnN s) fun t => s.Up t Fld.CLK_RSTCNT_WARNEXTRA ∧ RegsBut [Reg.CLK_RSTCNT] s t ∧ SameBut [.regs] s t) ∧
  (∀ (s : State), s.power.porst = false → s.power.warned = false → s.halt = .running →
    (Answers (exec .pwrWarnN s) fun t => warned s t ∧ RegsBut [Reg.JRN_MIRROR] s t ∧ SameBut [.regs, .halt, .power, .mirror] s t) ∧
    (∀ rail, 0 < rail → rail < 7 → Answers (exec (.railFault rail) s) fun t => warned s t ∧ SameBut [.regs, .host, .mgmt, .halt, .power, .mirror] s t) ∧
    (∀ sensor temp, sensor < 64 → s.flag Fld.PWR_THERM_TRIPPED = false → 8 * (s.tripOf sensor : Int) < signed 16 (temp % 2 ^ 16) →
      Answers (exec (.thermN sensor temp) s) fun t => warned s t ∧ t.flag Fld.PWR_THERM_TRIPPED = true ∧ SameBut [.regs, .host, .mgmt, .halt, .power, .mirror] s t)) ∧
  (∀ (s : State) (cause : Nat), s.power.porst = false → s.halt = .running → 0 < cause → cause < 6 → Answers (exec (.fatal cause) s) fun t =>
    t.halt = .fatal ∧ t.get Fld.JRN_FATAL_CAUSE = cause ∧ t.flag Fld.JRN_FATAL_FATAL = true ∧
    (cause ≠ 1 → s.anyFlash = true → t.mirror = some ⟨s.nextJseq, s.listed⟩) ∧ (cause = 1 → t.mirror = s.mirror) ∧
    t.host.out = s.host.out ++ (if s.flag Fld.HIF_STAT_LINKUP then [.aerUncorrectable] else []) ∧ SameBut [.regs, .host, .halt, .mirror] s t)

/-- R505, R512 to R514, R518, R359: retirements: a free tile leaves service; a mapped one moves to its die's replacement with its scratchpad, and what ran on it is dispatched again; without a replacement its logical tile is unmapped and its commands end MEM_ERROR; so do the jobs of a retired sequencer and the commands of a retired ring. R528, R529, R531: re-admission is asked for by a write of JRN_READMIT, refused after three retirements or for a unit in service; a self-test that passes lets the unit wait to join, with a tile's scratchpad cleared, and one that fails leaves it retired; and a write of JRN_PLCLR discards the mirror. -/
def Obligations.RetirementAndReadmission : Prop :=
  ((∀ (s : State) (p : Nat) (bad : List Nat), p < 68 → s.live = true → s.isRetired 1 p = false → s.logicalOf p = none → Answers (exec (.tileRetired p bad) s) fun t =>
     t.isRetired 1 p = true ∧ t.timesRetired 1 p = s.timesRetired 1 p + 1 ∧ t.get Fld.JRN_RECOV_CAUSE = 1 ∧ SameBut [.regs, .host, .mgmt, .retired, .retireTimes] s t) ∧
   (∀ (s : State) (p q l : Nat) (bad : List Nat), s.Canonical → p < 68 → s.live = true → s.isRetired 1 p = false → s.logicalOf p = some l → s.replacement (p / 17) = some q →
     Answers (exec (.tileRetired p bad) s) fun t =>
       t.isRetired 1 p = true ∧ t.phys l = some q ∧ (∀ x, x ≠ l → t.phys x = s.phys x) ∧ (∀ o, o < spSize → t.rb (spKey q o) = s.rb (spKey p o)) ∧ BytesBut (spKey q 0) spSize s t ∧
       (∀ o ∈ bad, o < spSize → nmem t.poison (spKey q o / 32) = true) ∧
       (∀ j ∈ s.runningOn l, ∀ e, s.cmd j = some e → ∃ e', t.cmd j = some e' ∧ e'.disp = e.disp + 1 ∧ e'.st = .dispatched ∧ e'.words = e.words)) ∧
   (∀ (s : State) (p l : Nat) (bad : List Nat), s.Canonical → p < 68 → s.live = true → s.isRetired 1 p = false → s.logicalOf p = some l → s.replacement (p / 17) = none →
     Answers (exec (.tileRetired p bad) s) fun t =>
       t.isRetired 1 p = true ∧ t.phys l = none ∧ (∀ x, x ≠ l → t.phys x = s.phys x) ∧ t.mem = s.mem ∧ (1 < (s.yokeMembers l).length → nmem t.dissolved (s.yokeLead l) = true) ∧
       (∀ j ∈ s.endWith l, ∀ e, s.cmd j = some e → e.parent = 0 → ∃ e', t.cmd j = some e' ∧ e'.fin = some Status.memError.num)) ∧
   (∀ (s : State) (u : Nat), u < 12 → s.live = true → s.isRetired 5 u = false → Answers (exec (.unitRetired u) s) fun t =>
     t.isRetired 5 u = true ∧ t.timesRetired 5 u = s.timesRetired 5 u + 1 ∧ t.mem = s.mem ∧ t.tileMap = s.tileMap ∧ (8 ≤ u → t.journal = s.journal) ∧
     (4 ≤ u → u < 8 → ∀ j e, s.Canonical → s.cmd j = some e → e.target = .sequencer (u - 4) → e.fin = none → e.refusal = none → e.settled = false → e.parent = 0 → sfind s.sweep.jobs j ≠ none →
       ∃ e', t.cmd j = some e' ∧ e'.fin = some Status.memError.num)) ∧
   (∀ (s : State) (r : Nat), s.Canonical → r < 16384 → s.live = true → s.isRetired 6 r = false → Answers (exec (.ringRetired r) s) fun t =>
     t.isRetired 6 r = true ∧ t.mem = s.mem ∧
     (∀ j e, s.cmd j = some e → e.ring = r → e.parent = 0 → e.refusal = none → e.settled = true → e.fin.isSome = true → ∃ e', t.cmd j = some e' ∧ e'.status = Status.memError.num ∧ e'.settled = true) ∧
     (∀ j e, s.cmd j = some e → e.ring = r → e.parent = 0 → e.refusal = none → e.settled = false → e.target = .host → ∃ e', t.cmd j = some e' ∧ e'.fin = some Status.memError.num))) ∧
  ((∀ (s : State) (src : RegSrc) (v : BitVec 32), s.power.porst = false →
     let cls := v.toNat / 65536 % 16
     let idx := v.toNat % 16384
     let k := 65536 * cls + idx
     let reports (t : State) (st : Nat) : Prop := t.get Fld.JRN_RASTAT_CLASS = cls ∧ t.get Fld.JRN_RASTAT_INDEX = idx ∧ t.get Fld.JRN_RASTAT_STATE = st
     0 < cls → cls < 7 → readmitRange cls idx = true →
     (s.isRetired cls idx = true → s.timesRetired cls idx < 3 → cls ≠ 2 → nmem s.readmit.tests k = false → nmem s.readmit.joining k = false → Answers (exec (.jrnReadmit src v) s) fun t =>
       reports t 1 ∧ t.get Fld.JRN_RASTAT_TIMES = s.timesRetired cls idx ∧ nmem t.readmit.tests k = true ∧ t.retired = s.retired ∧ RegsBut [Reg.JRN_RASTAT, Reg.MGT_CHJNEXT] s t ∧ SameBut [.regs, .mgmt, .chj, .readmit] s t) ∧
     (s.isRetired cls idx = true → s.timesRetired cls idx < 3 → cls = 2 → s.lnkState idx = lnkRetired → Answers (exec (.jrnReadmit src v) s) fun t => reports t 1 ∧ t.Trains idx 6 ∧ t.readmit = s.readmit) ∧
     (s.isRetired cls idx = true → 3 ≤ s.timesRetired cls idx → Answers (exec (.jrnReadmit src v) s) fun t => reports t 6 ∧ t.readmit = s.readmit ∧ SameBut [.regs, .mgmt, .chj] s t) ∧
     (s.isRetired cls idx = false → Answers (exec (.jrnReadmit src v) s) fun t => reports t 7 ∧ t.readmit = s.readmit ∧ SameBut [.regs, .mgmt, .chj] s t)) ∧
   (∀ (s : State) (cls idx : Nat), let k := 65536 * cls + idx
     let about : Prop := s.get Fld.JRN_RASTAT_CLASS = cls ∧ s.get Fld.JRN_RASTAT_INDEX = idx
     nmem s.readmit.tests k = true → s.live = true →
     (Answers (exec (.selfTest cls idx true) s) fun t =>
       nmem t.readmit.tests k = false ∧ nmem t.readmit.joining k = true ∧ (about → t.get Fld.JRN_RASTAT_STATE = 3) ∧ (cls = 1 → ∀ o, o < spSize → t.rb (spKey idx o) = 0) ∧
       (cls = 1 → BytesBut (spKey idx 0) spSize s t) ∧ (cls ≠ 1 → t.mem = s.mem) ∧ SameBut [.regs, .mem, .poison, .readmit] s t) ∧
     (Answers (exec (.selfTest cls idx false) s) fun t =>
       nmem t.readmit.tests k = false ∧ t.readmit.joining = s.readmit.joining ∧ (about → t.get Fld.JRN_RASTAT_STATE = 5) ∧ SameBut [.regs, .readmit] s t)) ∧
   (∀ (s : State) (src : RegSrc) (v : BitVec 32), s.power.porst = false → Answers (exec (.jrnPlclr src v) s) fun t =>
     t.mirror = none ∧ t.get Fld.JRN_MIRROR_REC = 0 ∧ t.get Fld.JRN_MIRROR_ENTRIES = 0 ∧ RegsBut [Reg.JRN_MIRROR, Reg.MGT_CHJNEXT] s t ∧ SameBut [.regs, .mgmt, .chj, .mirror] s t))

/-- R487, R489, R491, R494 to R496: enabling the stream sets its positions and SEQ to 0 and stages a BASE_MARK; a mark asked for while it runs is staged behind what is there; CONS takes a position between itself and DELIV; and DELIVERY copies the oldest staged chunk to the host buffer. -/
def Obligations.DifferenceStreamRule : Prop :=
  (∀ (s : State) (src : RegSrc) (v : BitVec 32), s.power.porst = false → s.flag Fld.DIF_CTL_ENABLE = false → v.getLsbD 0 = true → v.getLsbD 2 = false → s.difEnableBad = false →
    Answers (exec (.difEnable src v) s) fun t =>
      t.flag Fld.DIF_CTL_ENABLE = true ∧ t.get Fld.DIF_WRITE_POS = 144 ∧ t.get Fld.DIF_DELIV_POS = 0 ∧ t.get Fld.DIF_CONS_POS = 0 ∧ t.get Fld.DIF_SEQ_SEQ = 1 ∧
      t.get Fld.DIF_STAT_STATE = 1 ∧ t.get Fld.DIF_STAT_ERR = 0 ∧ t.diff.queue = [⟨144, false⟩] ∧ (∀ i b, ((s.baseMark 1).bytes 0)[i]? = some b → t.rb (s.stgBase + i) = b) ∧
      BytesBut s.stgBase 144 s t ∧ SameBut [.regs, .mem, .poison, .mgmt, .chj, .diff] s t) ∧
  (∀ (s : State) (src : RegSrc) (v : BitVec 32), s.power.porst = false → s.flag Fld.DIF_CTL_ENABLE = true → v.getLsbD 0 = false → v.getLsbD 2 = false → s.get Fld.DIF_STAT_STATE = 1 →
    Answers (exec (.difEnable src v) s) fun t =>
      t.flag Fld.DIF_CTL_ENABLE = false ∧ t.get Fld.DIF_STAT_STATE = (if s.get Fld.DIF_DELIV_POS = s.get Fld.DIF_WRITE_POS then 0 else 2) ∧ t.diff.marks = [] ∧ t.diff.gap = none ∧
      t.get Fld.DIF_WRITE_POS = s.get Fld.DIF_WRITE_POS ∧ t.diff.queue = s.diff.queue ∧ SameBut [.regs, .mgmt, .chj, .diff] s t) ∧
  (∀ (s : State) (src : RegSrc) (v : BitVec 32), s.power.porst = false → s.difOn = true → v.getLsbD 0 = true → s.stgRoom 144 = true → s.diff.gap = none → s.diff.marks = [] →
    Answers (exec (.baseMark src v) s) fun t =>
      t.get Fld.DIF_WRITE_POS = (s.get Fld.DIF_WRITE_POS + 144) % 2 ^ Fld.DIF_WRITE_POS.n ∧ t.get Fld.DIF_SEQ_SEQ = (s.get Fld.DIF_SEQ_SEQ + 1) % 2 ^ Fld.DIF_SEQ_SEQ.n ∧
      t.diff = { s.diff with queue := s.diff.queue ++ [⟨144, false⟩] } ∧ s.Up t Fld.DIF_CNT_CHUNKS ∧ SameBut [.regs, .mem, .poison, .mgmt, .chj, .diff] s t) ∧
  (∀ (s : State) (src : RegSrc) (v : Word), s.power.porst = false → s.get Fld.DIF_CONS_POS ≤ v.toNat → v.toNat ≤ s.get Fld.DIF_DELIV_POS →
    Answers (exec (.difCons src v) s) fun t => t.get Fld.DIF_CONS_POS = v.toNat ∧ RegsBut [Reg.DIF_CONS, Reg.MGT_CHJNEXT] s t ∧ SameBut [.regs, .mgmt, .chj] s t) ∧
  (∀ (s : State) (c : Staged) (r : List Staged), let size := 2 ^ s.get Fld.DIF_CFG_HLOG2
    let pos := s.get Fld.DIF_DELIV_POS
    let from_ := ringPieces s.stgBase s.stgBytes pos (List.replicate c.len 0)
    let bs := (from_.map (fun p => s.rbs p.1 p.2.length)).flatten
    s.diff.queue = c :: r → s.get Fld.DIF_STAT_STATE = 1 ∨ s.get Fld.DIF_STAT_STATE = 2 → s.hostOpen = true → s.live = true → s.get Fld.DIF_WRITE_POS < s.get Fld.DIF_CONS_POS + size →
    s.diff.marks = [] → s.diff.gap = none → (∀ p ∈ from_, s.poisonedIn p.1 p.2.length = false ∧ s.dramHeld p.1 p.2.length = .served) →
    Answers (exec .delivery s) fun t =>
      (∃ l, t.host.out = s.host.out ++ (ringPieces (4096 * s.get Fld.DIF_HOSTBASE_ADDR) size pos bs).map (fun p => .write p.1 p.2) ++ l) ∧
      t.get Fld.DIF_DELIV_POS = (pos + c.len) % 2 ^ Fld.DIF_DELIV_POS.n ∧ t.diff.queue = r ∧ t.mem = s.mem ∧ SameBut [.regs, .host, .diff] s t)

/-- R497 to R499, R502: import: enabled, it begins to read the next chunk; a chunk that is there whole is checked, and applied or refused with its error; and RESUME clears the errors that it may clear. -/
def Obligations.ImportRule : Prop :=
  let done (s t : State) (n : Nat) : Prop :=
    t.get Fld.DIF_IMPPOS_POS = (s.get Fld.DIF_IMPPOS_POS + n) % 2 ^ Fld.DIF_IMPPOS_POS.n ∧ t.get Fld.DIF_IMPSEQ_SEQ = (s.get Fld.DIF_IMPSEQ_SEQ + 1) % 2 ^ Fld.DIF_IMPSEQ_SEQ.n ∧
    s.Up t Fld.DIF_IMPSTAT_APPLIED ∧ t.get Fld.DIF_IMPSTAT_ERR = 0
  (∀ (s : State) (src : RegSrc) (v : BitVec 32), s.power.porst = false → s.flag Fld.DIF_IMPCTL_ENABLE = false → v.getLsbD 0 = true → v.getLsbD 1 = false →
    20 ≤ s.get Fld.DIF_IMPCFG_ILOG2 → s.get Fld.DIF_IMPCFG_ILOG2 ≤ 36 → Answers (exec (.importEnable src v) s) fun t =>
      t.flag Fld.DIF_IMPCTL_ENABLE = true ∧ t.get Fld.DIF_IMPSTAT_ERR = 0 ∧ t.diff.buf = [] ∧ t.mem = s.mem ∧ t.get Fld.DIF_IMPPOS_POS = s.get Fld.DIF_IMPPOS_POS ∧ SameBut [.regs, .host, .mgmt, .chj, .diff] s t) ∧
  (∀ (s : State) (src : RegSrc) (v : BitVec 32), s.power.porst = false → s.flag Fld.DIF_IMPCTL_ENABLE = true → v.getLsbD 0 = false → Answers (exec (.importEnable src v) s) fun t =>
    t.flag Fld.DIF_IMPCTL_ENABLE = false ∧ t.importState = 0 ∧ t.diff = { s.diff with buf := [], reading := false } ∧ SameBut [.regs, .mgmt, .chj, .diff] s t) ∧
  (∀ (s : State) (src : RegSrc) (v : BitVec 32), s.power.porst = false → s.flag Fld.DIF_IMPCTL_ENABLE = true → v.getLsbD 0 = true → s.get Fld.DIF_IMPSTAT_ERR = 6 ∨ s.get Fld.DIF_IMPSTAT_ERR = 7 →
    Answers (exec (.importResume src v) s) fun t => t.get Fld.DIF_IMPSTAT_ERR = 0 ∧ t.flag Fld.DIF_IMPCTL_ENABLE = true ∧ SameBut [.regs, .host, .mgmt, .chj, .diff] s t) ∧
  (∀ (s : State) (tag : Nat), let pos := s.get Fld.DIF_IMPPOS_POS + s.diff.buf.length
    let off := pos % 2 ^ s.get Fld.DIF_IMPCFG_ILOG2
    let n := min s.importNeed (min (2 ^ s.get Fld.DIF_IMPCFG_ILOG2 - off) (4096 - off % 4096))
    s.live = true → s.importState = 2 → s.diff.reading = false → s.importNeed ≠ 0 → pos + s.importNeed ≤ s.get Fld.DIF_IMPPROD_POS → s.hostOpen = true → s.host.reads.length < s.readLimit → s.freeTag = some tag →
    Answers (exec .importNext s) fun t =>
      t.host.out = s.host.out ++ [.read tag (4096 * s.get Fld.DIF_IMPBASE_ADDR + off) n] ∧ t.diff = { s.diff with reading := true } ∧ SameBut [.host, .diff] s t) ∧
  (∀ (s : State), let bs := s.diff.buf
    let c := chunkOf bs
    let stops (e : Nat) : Prop := Answers (exec .importNext s) fun t => t.get Fld.DIF_IMPSTAT_ERR = e ∧ t.get Fld.DIF_IMPPOS_POS = s.get Fld.DIF_IMPPOS_POS ∧ t.diff.buf = [] ∧ t.mem = s.mem
    s.live = true → s.importState = 2 → 48 ≤ bs.length → s.importNeed = 0 →
    (chunkBad bs = true → stops 1) ∧
    (chunkBad bs = false → wordAt bs 8 ≠ s.reg Reg.DIF_IMPSEQ → stops 2) ∧
    (chunkBad bs = false → wordAt bs 8 = s.reg Reg.DIF_IMPSEQ →
      (c.type = 3 → stops 3) ∧
      (c.type = 4 → wordAt c.payload 8 = s.reg Reg.HRN_ACTID → bits (wordAt c.payload 16) 32 32 = s.get Fld.HRN_ACTIVE_GENERATION → Answers (exec .importNext s) fun t => done s t bs.length ∧ t.mem = s.mem) ∧
      (c.type = 4 → wordAt c.payload 8 ≠ s.reg Reg.HRN_ACTID → stops 6) ∧
      (c.type = 1 → s.rule c.rule = none → stops 4) ∧
      (∀ r a h l, c.type = 1 → s.rule c.rule = some r → r.chunkAt c = some a → c.planes = some (h, l) → s.CleanAll [(a, 2 * c.nelem)] → s.rangesHeld [(a, 2 * c.nelem)] = .served →
        let new := List.zipWith (fun x y => x ^^^ y) (s.rbs a (2 * c.nelem)) (List.zipWith (fun lo hi => [lo, hi]) l h).flatten
        (crc32c new ≠ c.newcrc → stops 5) ∧
        (crc32c new = c.newcrc → Answers (exec .importNext s) fun t => done s t bs.length ∧ (∀ i b, new[i]? = some b → t.rb (a + i) = b) ∧ BytesBut a (2 * c.nelem) s t)) ∧
      (c.type = 2 → s.diff.touched.filter (fun t => t.seq == c.seqr && t.step == c.step) = [] → s.actab c.seqr = 0 → Answers (exec .importNext s) fun t =>
        done s t bs.length ∧ t.diff.touched = s.diff.touched.filter (fun x => x.seq != c.seqr) ∧ t.mem = s.mem)))

/-- R17, R48, R49, R559, R562: a read that the host makes, or that comes by the management bus to the package's address, returns what the register reads; the low half of a 64-bit register read by itself keeps the high half for that master's next read; and a misaligned one returns ones and is counted. -/
def Obligations.RegisterReads : Prop :=
  ∀ (s : State) (who : ReadBy) (m a : Nat), s.power.porst = false → s.Served who m a →
    (∀ b r, a % 4 = 0 → s.place a = .at b r → r.width = 32 → r.fields.all (fun f => f.acc != .rc) = true → Answers (exec (.read32 who a) s) fun t =>
      t.mgmt.reply = leBytes 4 (s.peek b).toNat ∧ SameBut [.mgmt] s t) ∧
    (∀ b r, a % 8 = 0 → s.place a = .at b r → r.width = 64 → r.fields.all (fun f => f.acc != .rc) = true → s.is32 a = false → s.is32 (a + 4) = false →
      (Answers (exec (.read64 who a) s) fun t => t.mgmt.reply = leBytes 8 (s.peek b).toNat ∧ SameBut [.mgmt] s t) ∧
      (Answers (exec (.read32 who a) s) fun t =>
        t.mgmt.reply = leBytes 4 ((s.peek b).toNat % 2 ^ 32) ∧ sfind t.mgmt.latches m = some ⟨b, (s.peek b).toNat / 2 ^ 32⟩ ∧ SameBut [.mgmt] s t)) ∧
    (∀ b r h, a % 8 = 4 → s.place a = .at b r → r.width = 64 → sfind s.mgmt.latches m = some ⟨b, h⟩ → Answers (exec (.read32 who a) s) fun t =>
      t.mgmt.reply = leBytes 4 h ∧ sfind t.mgmt.latches m = none ∧ SameBut [.mgmt] s t) ∧
    (a % 4 ≠ 0 → Answers (exec (.read32 who a) s) fun t =>
      t.mgmt.reply = [255, 255, 255, 255] ∧ s.Up t Fld.CAP_ACCERR_COUNT ∧ t.get Fld.CAP_ACCERR_OFFSET = a % 2 ^ 25 ∧ SameBut [.regs, .mgmt] s t) ∧
    (a % 4 = 0 → s.place a = .unassigned → Answers (exec (.read32 who a) s) fun t => t.mgmt.reply = [0, 0, 0, 0] ∧ SameBut [.mgmt] s t) ∧
    (a % 4 = 0 → s.place a = .unavailable → Answers (exec (.read32 who a) s) fun t => t.mgmt.reply = [0, 0, 0, 0] ∧ s.Up t Fld.MGT_ERR_UNAVAIL ∧ SameBut [.regs, .mgmt] s t)

/-- R48, R49, R559, R561, R564, R565: a served management write is the serializer's write by that address; and every serialized write leaves the next entry of the change journal, whether it changes its register or its outcome says why not. -/
def Obligations.RegisterWrites : Prop :=
  (∀ (s : State) (addr a : Nat) (check : MgmtCheck), s.power.porst = false → s.mgmt.mode ≠ 0 → s.addressed addr = true → s.mgmtCheck check a true = .served →
    (∀ d : BitVec 32, exec (.write32 addr check a d) s = exec (.registerWrite (.mgmt addr) a 4 (BitVec.ofNat 64 d.toNat)) s) ∧
    (∀ d : Word, exec (.write64 addr check a d) s = exec (.registerWrite (.mgmt addr) a 8 d) s)) ∧
  (∀ (s : State) (addr a : Nat) (check : MgmtCheck) (f : Fld) (d : BitVec 32), s.power.porst = false → s.mgmt.mode ≠ 0 → s.addressed addr = true → s.mgmtCheck check a true = .refused f →
    Answers (exec (.write32 addr check a d) s) fun t => s.Up t f ∧ RegsBut [f.reg] s t ∧ SameBut [.regs] s t) ∧
  (∀ (s : State) (src : RegSrc) (a size : Nat) (d : Word), s.power.porst = false →
    let n := s.get Fld.MGT_CHJNEXT_SEQ
    let entry (t : State) (c : Change) : Prop := t.get Fld.MGT_CHJNEXT_SEQ = (n + 1) % 2 ^ Fld.MGT_CHJNEXT_SEQ.n ∧ sfind t.chj (n % 4096) = some (c.entry n (s.reg Reg.WHL_NOW))
    (size = 4 ∨ size = 8 → a % size ≠ 0 → Answers (exec (.registerWrite src a size d) s) fun t =>
      entry t (changeOf src a 4 (size == 8) 0 0 d) ∧ s.Up t Fld.CAP_ACCERR_COUNT ∧ RegsBut [Reg.CAP_ACCERR, Reg.MGT_CHJNEXT] s t ∧ SameBut [.regs, .mgmt, .chj] s t) ∧
    (size = 4 → a % 4 = 0 → s.place a = .unassigned → Answers (exec (.registerWrite src a size d) s) fun t =>
      entry t (changeOf src a 6 false 0 0 (d &&& 0xFFFFFFFF)) ∧ RegsBut [Reg.MGT_CHJNEXT] s t ∧ SameBut [.regs, .mgmt, .chj] s t) ∧
    (size = 4 → a % 4 = 0 → s.place a = .unavailable → Answers (exec (.registerWrite src a size d) s) fun t =>
      entry t (changeOf src a 5 false 0 0 (d &&& 0xFFFFFFFF)) ∧ s.Up t Fld.MGT_ERR_UNAVAIL ∧ SameBut [.regs, .mgmt, .chj] s t) ∧
    (∀ b r, size = 4 → a % 4 = 0 → s.place a = .at b r → r.fields.all (fun f => !f.acc.writable) = true → r.width = 32 → Answers (exec (.registerWrite src a size d) s) fun t =>
      entry t (changeOf src a 1 false (BitVec.ofNat 64 (bits (s.peek b) 0 32)) (BitVec.ofNat 64 (bits (s.peek b) 0 32)) (d &&& 0xFFFFFFFF)) ∧ RegsBut [Reg.MGT_CHJNEXT] s t ∧ SameBut [.regs, .mgmt, .chj] s t) ∧
    (a = Reg.HRN_SRCADDR → size = 8 → Answers (exec (.registerWrite src a size d) s) fun t =>
      t.get Fld.HRN_SRCADDR_ADDR = d.toNat / 4096 ∧ RegsBut [Reg.HRN_SRCADDR, Reg.MGT_CHJNEXT] s t ∧ SameBut [.regs, .mgmt, .chj] s t))

/-- R55, R558, R569, R571: the management port's own protocol and the test access port: the first I3C command selects I3C, and a dynamic address is taken once; an alert response is answered while the alert stands; an instruction that acts on the pins is in force only while PORST_N is low; and TRST_N low puts IDCODE in force. -/
def Obligations.ManagementPorts : Prop :=
  (∀ (s : State) (k : CccKind), s.power.porst = false → s.mgmt.mode ≠ 2 → Answers (exec (.ccc k) s) fun t =>
    t.mgmt.mode = 1 ∧ (s.mgmt.mode = 0 → t.get Fld.CAP_GEN_GEN = (s.get Fld.CAP_GEN_GEN + 2) % 2 ^ Fld.CAP_GEN_GEN.n) ∧
    t.mgmt.dynAddr = (match k with
      | .setdasa stat dyn => if stat = s.statAddr ∧ s.mgmt.dynAddr = 0 then dyn % 128 else s.mgmt.dynAddr
      | .entdaa dyn => if s.mgmt.dynAddr = 0 then dyn % 128 else s.mgmt.dynAddr
      | .other => s.mgmt.dynAddr) ∧ RegsBut [Reg.CAP_GEN] s t ∧ SameBut [.regs, .mgmt] s t) ∧
  (∀ (s : State), s.power.porst = false → s.mgmt.mode = 2 → s.alert = true → Answers (exec .alertResponse s) fun t => t = { s with mgmt := { s.mgmt with reply := [BitVec.ofNat 8 (2 * s.statAddr)] } }) ∧
  (∀ (s : State), s.mgmt.trst = false →
    let inForce (c : Instr) (i : TapInstr) (out : Nat) : Prop := Answers (exec c s) fun t => t = { s with mgmt := { s.mgmt with tap := i, tdo := out } }
    let onPins (i : TapInstr) : TapInstr := if s.power.porst = true then i else .bypass
    inForce .bypass .bypass 0 ∧ inForce .samplePreload .samplePreload 0 ∧ inForce .idcode .idcode (0xB0000001 + 0x1216 * 4096 + 2 * Config.jedecId.toNat) ∧
    inForce .extest (onPins .extest) 0 ∧ inForce .extestPulse (onPins .extestPulse) 0 ∧ inForce .extestTrain (onPins .extestTrain) 0 ∧ inForce .clamp (onPins .clamp) 0 ∧ inForce .highz (onPins .highz) 0) ∧
  (∀ (s : State) (low : Bool), Answers (exec (.trstN low) s) fun t => t.mgmt.trst = low ∧ (low = true → t.mgmt.tap = .idcode) ∧ (low = false → t.mgmt.tap = s.mgmt.tap) ∧ SameBut [.mgmt] s t)
end

