-- ==== Sys2Proof/Laws/Sparse.lean ====
section
/-! SUPPORT. Sparse tables: reading after writing, and the canonical forms that every table operation keeps. -/

set_option Elab.async false

namespace Sys2Proof.Machine

/-! Reading. -/

theorem sfind_sinsert_same {β : Type} (l : SMap β) (k : Nat) (v : β) : sfind (sinsert l k v) k = some v := by
  induction l with
  | nil => simp [sinsert, sfind]
  | cons e r ih =>
    obtain ⟨k', v'⟩ := e
    unfold sinsert
    split
    · simp [sfind]
    · split
      · simp [sfind]
      · next h => simp [sfind, h, ih]

theorem sfind_sinsert_other {β : Type} (l : SMap β) {k i : Nat} (v : β) (h : i ≠ k) : sfind (sinsert l k v) i = sfind l i := by
  induction l with
  | nil => simp [sinsert, sfind, h.symm]
  | cons e r ih =>
    obtain ⟨k', v'⟩ := e
    unfold sinsert
    split
    · simp [sfind, h.symm]
    · split
      · next hk => subst hk; simp [sfind, h.symm]
      · simp [sfind, ih]

theorem sfind_serase_same {β : Type} (l : SMap β) (k : Nat) : sfind (serase l k) k = none := by
  induction l with
  | nil => simp [serase, sfind]
  | cons e r ih =>
    obtain ⟨k', v'⟩ := e
    unfold serase
    split
    · exact ih
    · next h => simp [sfind, h, ih]

theorem sfind_serase_other {β : Type} (l : SMap β) {k i : Nat} (h : i ≠ k) : sfind (serase l k) i = sfind l i := by
  induction l with
  | nil => rfl
  | cons e r ih =>
    obtain ⟨k', v'⟩ := e
    unfold serase
    split
    · next hk => subst hk; simp [sfind, h.symm, ih]
    · simp [sfind, ih]

theorem sget_sput_same {β : Type} [DecidableEq β] (d : β) (l : SMap β) (k : Nat) (v : β) : sget d (sput d l k v) k = v := by
  unfold sget sput
  split
  · next h => simp [sfind_serase_same, h]
  · simp [sfind_sinsert_same]

theorem sget_sput_other {β : Type} [DecidableEq β] (d d' : β) (l : SMap β) {k i : Nat} (v : β) (h : i ≠ k) : sget d (sput d' l k v) i = sget d l i := by
  unfold sget sput
  split
  · simp [sfind_serase_other l h]
  · simp [sfind_sinsert_other l v h]

/-- What a table that entries were changed in finds. -/
theorem sfind_smodify {β : Type} (l : SMap β) (k i : Nat) (f : β → β) :
    sfind (smodify l k f) i = (sfind l i).map (fun v => if i = k then f v else v) := by
  unfold smodify
  induction l with
  | nil => rfl
  | cons e r ih =>
    obtain ⟨k', v'⟩ := e
    simp only [smap, sfind]
    split
    · next h => subst h; simp
    · exact ih

theorem sfind_smodify_same {β : Type} {l : SMap β} {k : Nat} {v : β} (f : β → β) (h : sfind l k = some v) : sfind (smodify l k f) k = some (f v) := by
  simp [sfind_smodify, h]

theorem sfind_smodify_other {β : Type} (l : SMap β) {k i : Nat} (f : β → β) (h : i ≠ k) : sfind (smodify l k f) i = sfind l i := by
  simp only [sfind_smodify, h, if_false]
  exact Option.map_id'

/-! Rising keys. -/

theorem srisesFrom_sinsert {β : Type} (l : SMap β) {lo k : Nat} (v : β) (h : srisesFrom lo l = true) (hk : lo < k) : srisesFrom lo (sinsert l k v) = true := by
  induction l generalizing lo with
  | nil => simp [sinsert, srisesFrom, hk]
  | cons e r ih =>
    obtain ⟨k', v'⟩ := e
    simp only [srisesFrom, Bool.and_eq_true, decide_eq_true_eq] at h
    unfold sinsert
    split
    · next h' => simp [srisesFrom, hk, h', h.2]
    · split
      · next h' => subst h'; simp [srisesFrom, hk, h.2]
      · next h1 h2 => simp [srisesFrom, h.1, ih h.2 (by omega)]

theorem srises_sinsert {β : Type} (l : SMap β) (k : Nat) (v : β) (h : srises l = true) : srises (sinsert l k v) = true := by
  cases l with
  | nil => rfl
  | cons e r =>
    obtain ⟨k', v'⟩ := e
    simp only [srises] at h
    unfold sinsert
    split
    · next h' => simp [srises, srisesFrom, h', h]
    · split
      · next h' => subst h'; exact h
      · next h1 h2 => exact srisesFrom_sinsert r v h (by omega)

theorem srisesFrom_weaken {β : Type} {l : SMap β} {lo lo' : Nat} (h : srisesFrom lo l = true) (hl : lo' ≤ lo) : srisesFrom lo' l = true := by
  cases l with
  | nil => rfl
  | cons e r =>
    simp only [srisesFrom, Bool.and_eq_true, decide_eq_true_eq] at *
    exact ⟨by omega, h.2⟩

theorem srisesFrom_filter {β : Type} (p : Nat × β → Bool) {l : SMap β} {lo : Nat} (h : srisesFrom lo l = true) : srisesFrom lo (l.filter p) = true := by
  induction l generalizing lo with
  | nil => rfl
  | cons e r ih =>
    simp only [srisesFrom, Bool.and_eq_true, decide_eq_true_eq] at h
    unfold List.filter
    split
    · simp [srisesFrom, h.1, ih h.2]
    · exact ih (srisesFrom_weaken h.2 (by omega))

theorem srises_of_from {β : Type} {l : SMap β} {lo : Nat} (h : srisesFrom lo l = true) : srises l = true := by
  cases l with
  | nil => rfl
  | cons e r => simp only [srisesFrom, Bool.and_eq_true] at h; exact h.2

theorem srises_filter {β : Type} (p : Nat × β → Bool) {l : SMap β} (h : srises l = true) : srises (l.filter p) = true := by
  cases l with
  | nil => rfl
  | cons e r =>
    simp only [srises] at h
    unfold List.filter
    split
    · exact srisesFrom_filter p h
    · exact srises_of_from (srisesFrom_filter p h)

theorem srisesFrom_smap {β : Type} (f : Nat → β → β) (l : SMap β) (lo : Nat) : srisesFrom lo (smap f l) = srisesFrom lo l := by
  induction l generalizing lo with
  | nil => rfl
  | cons e r ih => simp only [smap, srisesFrom, ih]

theorem srises_smodify {β : Type} {l : SMap β} (k : Nat) (f : β → β) (h : srises l = true) : srises (smodify l k f) = true := by
  unfold smodify
  cases l with
  | nil => rfl
  | cons e r =>
    simp only [smap, srises, srisesFrom_smap] at *
    exact h

theorem serase_eq_filter {β : Type} (l : SMap β) (k : Nat) : serase l k = l.filter (fun e => !(e.1 == k)) := by
  induction l with
  | nil => rfl
  | cons e r ih =>
    obtain ⟨k', v'⟩ := e
    by_cases h : k' = k
    · simp [serase, h, ih]
    · simp [serase, h, ih]

theorem srises_serase {β : Type} {l : SMap β} (k : Nat) (h : srises l = true) : srises (serase l k) = true := by
  rw [serase_eq_filter]
  exact srises_filter _ h

theorem all_sinsert {β : Type} (p : Nat × β → Bool) {l : SMap β} {k : Nat} {v : β} (h : l.all p = true) (hv : p (k, v) = true) : (sinsert l k v).all p = true := by
  induction l with
  | nil => simp [sinsert, hv]
  | cons e r ih =>
    obtain ⟨k', v'⟩ := e
    simp only [List.all_cons, Bool.and_eq_true] at h
    unfold sinsert
    split
    · simp [List.all_cons, hv, h.1, h.2]
    · split
      · simp [List.all_cons, hv, h.2]
      · simp [List.all_cons, h.1, ih h.2]

theorem all_filter {α : Type} (p q : α → Bool) {l : List α} (h : l.all p = true) : (l.filter q).all p = true := by
  simp only [List.all_eq_true, List.mem_filter] at *
  exact fun x hx => h x hx.1

/-! Sets of numbers. -/

theorem nrisesFrom_nadd {l : List Nat} {lo k : Nat} (h : nrisesFrom lo l = true) (hk : lo < k) : nrisesFrom lo (nadd l k) = true := by
  induction l generalizing lo with
  | nil => simp [nadd, nrisesFrom, hk]
  | cons x r ih =>
    simp only [nrisesFrom, Bool.and_eq_true, decide_eq_true_eq] at h
    unfold nadd
    split
    · next h' => simp [nrisesFrom, hk, h', h.2]
    · split
      · simp [nrisesFrom, h.1, h.2]
      · next h1 h2 => simp [nrisesFrom, h.1, ih h.2 (by omega)]

theorem nrises_nadd {l : List Nat} (k : Nat) (h : nrises l = true) : nrises (nadd l k) = true := by
  cases l with
  | nil => rfl
  | cons x r =>
    simp only [nrises] at h
    unfold nadd
    split
    · next h' => simp [nrises, nrisesFrom, h', h]
    · split
      · exact h
      · next h1 h2 => exact nrisesFrom_nadd h (by omega)

theorem nrisesFrom_weaken {l : List Nat} {lo lo' : Nat} (h : nrisesFrom lo l = true) (hl : lo' ≤ lo) : nrisesFrom lo' l = true := by
  cases l with
  | nil => rfl
  | cons e r =>
    simp only [nrisesFrom, Bool.and_eq_true, decide_eq_true_eq] at *
    exact ⟨by omega, h.2⟩

theorem nrisesFrom_filter (p : Nat → Bool) {l : List Nat} {lo : Nat} (h : nrisesFrom lo l = true) : nrisesFrom lo (l.filter p) = true := by
  induction l generalizing lo with
  | nil => rfl
  | cons e r ih =>
    simp only [nrisesFrom, Bool.and_eq_true, decide_eq_true_eq] at h
    unfold List.filter
    split
    · simp [nrisesFrom, h.1, ih h.2]
    · exact ih (nrisesFrom_weaken h.2 (by omega))

theorem nrises_filter (p : Nat → Bool) {l : List Nat} (h : nrises l = true) : nrises (l.filter p) = true := by
  cases l with
  | nil => rfl
  | cons e r =>
    simp only [nrises] at h
    unfold List.filter
    split
    · exact nrisesFrom_filter p h
    · have := nrisesFrom_filter p h
      revert this
      cases r.filter p with
      | nil => intro _; rfl
      | cons x y => simp only [nrisesFrom, nrises, Bool.and_eq_true]; exact fun h => h.2

/-- Membership after an addition. -/
theorem nmem_nadd (l : List Nat) (k i : Nat) : nmem (nadd l k) i = (nmem l i || i == k) := by
  induction l with
  | nil => simp [nadd, nmem, Bool.beq_comm]
  | cons x r ih =>
    unfold nadd
    split
    · simp only [nmem, List.any_cons]
      rw [Bool.or_comm (k == i), Bool.beq_comm (a := i)]
    · split
      · next h => subst h; simp only [nmem, List.any_cons]; cases hx : (x == i) <;> simp_all [Bool.beq_comm]
      · simp only [nmem, List.any_cons] at *
        rw [ih, Bool.or_assoc]

/-! The canonical forms. -/

theorem memPut_wf {m : List Host.Cell} (a : Nat) (b : Byte) (h : Memory.wf m = true) : Memory.wf (memPut m a b) = true := by
  simp only [Memory.wf, Bool.and_eq_true] at *
  unfold memPut sput
  split
  · rw [serase_eq_filter]
    exact ⟨srises_filter _ h.1, all_filter _ _ h.2⟩
  · next hb => exact ⟨srises_sinsert _ _ _ h.1, all_sinsert _ h.2 (by simp [hb])⟩

theorem memPuts_wf {m : List Host.Cell} (a : Nat) (bs : List Byte) (h : Memory.wf m = true) : Memory.wf (memPuts m a bs) = true := by
  induction bs generalizing m a with
  | nil => exact h
  | cons b r ih => exact ih (a + 1) (memPut_wf a b h)

theorem memFilter_wf (p : Host.Cell → Bool) {m : List Host.Cell} (h : Memory.wf m = true) : Memory.wf (m.filter p) = true := by
  simp only [Memory.wf, Bool.and_eq_true] at *
  exact ⟨srises_filter _ h.1, all_filter _ _ h.2⟩

theorem memFold_wf {α : Type} (f : α → Nat) (g : α → Byte) (l : List α) {m : List Host.Cell} (h : Memory.wf m = true) :
    Memory.wf (l.foldl (fun m c => memPut m (f c) (g c)) m) = true := by
  induction l generalizing m with
  | nil => exact h
  | cons x r ih => exact ih (memPut_wf _ _ h)

theorem naddFold_rises {α : Type} (f : α → Nat) (l : List α) {m : List Nat} (h : nrises m = true) : nrises (l.foldl (fun m c => nadd m (f c)) m) = true := by
  induction l generalizing m with
  | nil => exact h
  | cons x r ih => exact ih (nrises_nadd _ h)

theorem regsPut_wf {l : SMap Word} (a : Nat) (w : Word) (h : Regs.wf l = true) : Regs.wf (sput (regReset a) l a w) = true := by
  simp only [Regs.wf, Bool.and_eq_true] at *
  unfold sput
  split
  · rw [serase_eq_filter]
    exact ⟨srises_filter _ h.1, all_filter _ _ h.2⟩
  · next hb => exact ⟨srises_sinsert _ _ _ h.1, all_sinsert _ h.2 (by simp [hb])⟩

theorem regsFilter_wf (p : Nat × Word → Bool) {l : SMap Word} (h : Regs.wf l = true) : Regs.wf (l.filter p) = true := by
  simp only [Regs.wf, Bool.and_eq_true] at *
  exact ⟨srises_filter _ h.1, all_filter _ _ h.2⟩

end Sys2Proof.Machine
end

