-- ==== Sys2Proof/Laws/State.lean ====
section
/-! SUPPORT. The registers read back what was written, and one lemma for each field under each named update of the state. -/

set_option Elab.async false

namespace Sys2Proof.Machine

/-! Bit fields (R14). -/

/-- Every bit of a word with a field set. -/
theorem getLsbD_putBits (w : Word) (lo n v i : Nat) (h : i < 64) :
    (putBits w lo n v).getLsbD i = if lo ≤ i ∧ i < lo + n then v.testBit (i - lo) else w.getLsbD i := by
  have hw : ∀ (n' : Nat) (k : Nat), k < 64 → (BitVec.ofNat 64 (2 ^ n' - 1)).getLsbD k = decide (k < n') := by
    intro n' k hk
    rw [BitVec.getLsbD_ofNat, Nat.testBit_two_pow_sub_one]
    simp [hk]
  have hv : ∀ k : Nat, k < 64 → (BitVec.ofNat 64 v).getLsbD k = v.testBit k := by
    intro k hk
    rw [BitVec.getLsbD_ofNat]
    simp [hk]
  unfold putBits mask64
  rw [BitVec.getLsbD_or, BitVec.getLsbD_and, BitVec.getLsbD_not, BitVec.getLsbD_shiftLeft, BitVec.getLsbD_shiftLeft, BitVec.getLsbD_and, BitVec.getLsbD_shiftLeft]
  by_cases h1 : i < lo
  · have : ¬ lo ≤ i := by omega
    simp [h, h1, this]
  · have h2 : lo ≤ i := by omega
    have h3 : i - lo < 64 := by omega
    rw [hw _ _ h3, hv _ h3, Nat.sub_zero, hw _ _ h3]
    by_cases h4 : i < lo + n
    · have h5 : i - lo < n := by omega
      simp [h, h1, h2, h3, h4, h5]
    · have h5 : ¬ i - lo < n := by omega
      simp [h, h1, h2, h4, h5]

theorem bits_putBits_same (w : Word) (lo n v : Nat) (h : lo + n ≤ 64) : bits (putBits w lo n v) lo n = v % 2 ^ n := by
  unfold bits
  apply Nat.eq_of_testBit_eq
  intro i
  rw [Nat.testBit_mod_two_pow, BitVec.testBit_toNat, BitVec.getLsbD_extractLsb']
  by_cases hi : i < n
  · rw [getLsbD_putBits _ _ _ _ _ (by omega), if_pos (by omega)]
    simp [hi]
  · simp [hi]

theorem bits_putBits_other (w : Word) (lo n v lo' n' : Nat) (h : lo' + n' ≤ lo ∨ lo + n ≤ lo') : bits (putBits w lo n v) lo' n' = bits w lo' n' := by
  unfold bits
  congr 1
  apply BitVec.eq_of_getLsbD_eq
  intro i hi
  rw [BitVec.getLsbD_extractLsb', BitVec.getLsbD_extractLsb']
  by_cases h64 : lo' + i < 64
  · rw [getLsbD_putBits _ _ _ _ _ h64, if_neg (by omega)]
  · rw [BitVec.getLsbD_of_ge _ _ (by omega), BitVec.getLsbD_of_ge _ _ (by omega)]

/-! Registers (R16). -/

@[simp] theorem reg_setReg_same (s : State) (a : Nat) (w : Word) : (s.setReg a w).reg a = w := sget_sput_same _ _ _ _

theorem reg_setReg_other (s : State) {a b : Nat} (w : Word) (h : b ≠ a) : (s.setReg a w).reg b = s.reg b := sget_sput_other _ _ _ _ h

theorem reg_set_other (s : State) {f : Fld} {b : Nat} (v : Nat) (h : b ≠ f.reg) : (s.set f v).reg b = s.reg b := reg_setReg_other s _ h

@[simp] theorem reg_set_same (s : State) (f : Fld) (v : Nat) : (s.set f v).reg f.reg = putBits (s.reg f.reg) f.lo f.n v := reg_setReg_same _ _ _

/-- A field reads back what was written, as wide as it is. -/
theorem get_set_same (s : State) (f : Fld) (v : Nat) (h : f.lo + f.n ≤ 64) : (s.set f v).get f = v % 2 ^ f.n := by
  unfold State.get
  rw [reg_set_same, bits_putBits_same _ _ _ _ h]

/-- A field of another register, or with no bit in common, is as it was. -/
theorem get_set_other (s : State) (f g : Fld) (v : Nat) (h : g.reg ≠ f.reg ∨ g.lo + g.n ≤ f.lo ∨ f.lo + f.n ≤ g.lo) : (s.set f v).get g = s.get g := by
  unfold State.get
  by_cases hr : g.reg = f.reg
  · rw [hr, reg_set_same, bits_putBits_other _ _ _ _ _ _ (by cases h with | inl x => exact absurd hr x | inr x => exact x)]
  · rw [reg_set_other s v hr]

theorem get_setReg_other (s : State) {a : Nat} (w : Word) {g : Fld} (h : g.reg ≠ a) : (s.setReg a w).get g = s.get g := by
  unfold State.get
  rw [reg_setReg_other s w h]

theorem flag_setFlag_same (s : State) (f : Fld) (b : Bool) (h : f.lo + f.n ≤ 64) (hn : 0 < f.n) : (s.setFlag f b).flag f = b := by
  unfold State.flag State.setFlag
  rw [get_set_same _ _ _ h]
  have h1 : 1 < 2 ^ f.n := Nat.one_lt_two_pow (by omega)
  cases b
  · simp [b2n]
  · simp [b2n, Nat.mod_eq_of_lt h1]

theorem flag_setFlag_other (s : State) (f g : Fld) (b : Bool) (h : g.reg ≠ f.reg ∨ g.lo + g.n ≤ f.lo ∨ f.lo + f.n ≤ g.lo) : (s.setFlag f b).flag g = s.flag g := by
  unfold State.flag State.setFlag
  rw [get_set_other _ _ _ _ h]

theorem reg_setFlag_other (s : State) {f : Fld} {a : Nat} (b : Bool) (h : a ≠ f.reg) : (s.setFlag f b).reg a = s.reg a := reg_set_other s _ h

theorem reg_count_other (s : State) {f : Fld} {a : Nat} (k : Nat) (h : a ≠ f.reg) : (s.count f k).reg a = s.reg a := reg_set_other s _ h

theorem reg_wrap_other (s : State) {f : Fld} {a : Nat} (k : Nat) (h : a ≠ f.reg) : (s.wrap f k).reg a = s.reg a := reg_set_other s _ h

theorem get_wrap_same (s : State) (f : Fld) (k : Nat) (h : f.lo + f.n ≤ 64) : (s.wrap f k).get f = (s.get f + k) % 2 ^ f.n := by
  unfold State.wrap
  rw [get_set_same _ _ _ h, Nat.mod_mod]

theorem get_count_same (s : State) (f : Fld) (k : Nat) (h : f.lo + f.n ≤ 64) : (s.count f k).get f = satAdd (2 ^ f.n - 1) (s.get f) k := by
  unfold State.count
  rw [get_set_same _ _ _ h]
  apply Nat.mod_eq_of_lt
  have : 0 < 2 ^ f.n := Nat.two_pow_pos _
  unfold satAdd
  omega

/-! Memory. -/

@[simp] theorem rb_memPut_same (s : State) (a : Nat) (b : Byte) : sget unwritten (memPut s.mem a b) a = b := sget_sput_same _ _ _ _

/-- A write of bytes leaves every byte outside them alone. -/
theorem rb_wbs_other (s : State) (a : Nat) (bs : List Byte) {x : Nat} (h : x < a ∨ a + bs.length ≤ x) : (s.wbs a bs).rb x = s.rb x := by
  have key : ∀ (bs : List Byte) (m : List Host.Cell) (a : Nat), (x < a ∨ a + bs.length ≤ x) → sget unwritten (memPuts m a bs) x = sget unwritten m x := by
    intro bs
    induction bs with
    | nil => intro m a _; rfl
    | cons b r ih =>
      intro m a h
      simp only [memPuts, List.length_cons] at *
      rw [ih _ _ (by omega)]
      exact sget_sput_other _ _ _ _ (by omega)
  exact key bs s.mem a h

/-- Bytes written read back. -/
theorem rb_wbs_same (s : State) (a : Nat) (bs : List Byte) (i : Nat) (h : i < bs.length) : (s.wbs a bs).rb (a + i) = bs[i] := by
  have key : ∀ (bs : List Byte) (m : List Host.Cell) (a i : Nat) (h : i < bs.length), sget unwritten (memPuts m a bs) (a + i) = bs[i] := by
    intro bs
    induction bs with
    | nil => intro _ _ _ h; cases h
    | cons b r ih =>
      intro m a i h
      cases i with
      | zero =>
        have := rb_wbs_other { State.reset with mem := memPut m a b } (a + 1) r (x := a) (by omega)
        simp only [State.rb, State.wbs] at this
        simp only [memPuts, Nat.add_zero, this, List.getElem_cons_zero]
        exact sget_sput_same _ _ _ _
      | succ k =>
        have := ih (memPut m a b) (a + 1) k (by simpa using h)
        simp only [memPuts, List.getElem_cons_succ]
        rw [← this]
        congr 1
        omega
  exact key bs s.mem a i h

/-! The journal (R508). -/

@[simp] theorem cmd_jmod_same (s : State) (j : Nat) (f : JEntry → JEntry) : (s.jmod j f).cmd j = (s.cmd j).map f := by
  unfold State.cmd State.jmod
  rw [sfind_smodify]
  simp

theorem cmd_jmod_other (s : State) {i j : Nat} (f : JEntry → JEntry) (h : i ≠ j) : (s.jmod j f).cmd i = s.cmd i := sfind_smodify_other _ _ h

/-! Each field under each update. -/

@[simp] theorem State.setReg_pending (s : State) (a : Nat) (w : Word) : (s.setReg a w).pending = s.pending := rfl
@[simp] theorem State.setReg_freeCount (s : State) (a : Nat) (w : Word) : (s.setReg a w).freeCount = s.freeCount := rfl
@[simp] theorem State.setReg_regs (s : State) (a : Nat) (w : Word) : (s.setReg a w).regs = sput (regReset a) s.regs a w := rfl
@[simp] theorem State.setReg_mem (s : State) (a : Nat) (w : Word) : (s.setReg a w).mem = s.mem := rfl
@[simp] theorem State.setReg_poison (s : State) (a : Nat) (w : Word) : (s.setReg a w).poison = s.poison := rfl
@[simp] theorem State.setReg_journal (s : State) (a : Nat) (w : Word) : (s.setReg a w).journal = s.journal := rfl
@[simp] theorem State.setReg_tileMap (s : State) (a : Nat) (w : Word) : (s.setReg a w).tileMap = s.tileMap := rfl
@[simp] theorem State.setReg_host (s : State) (a : Nat) (w : Word) : (s.setReg a w).host = s.host := rfl
@[simp] theorem State.setReg_mgmt (s : State) (a : Nat) (w : Word) : (s.setReg a w).mgmt = s.mgmt := rfl
@[simp] theorem State.setReg_chj (s : State) (a : Nat) (w : Word) : (s.setReg a w).chj = s.chj := rfl
@[simp] theorem State.setReg_halt (s : State) (a : Nat) (w : Word) : (s.setReg a w).halt = s.halt := rfl
@[simp] theorem State.setReg_image (s : State) (a : Nat) (w : Word) : (s.setReg a w).image = s.image := rfl
@[simp] theorem State.setReg_sections (s : State) (a : Nat) (w : Word) : (s.setReg a w).sections = s.sections := rfl
@[simp] theorem State.setReg_acceptStop (s : State) (a : Nat) (w : Word) : (s.setReg a w).acceptStop = s.acceptStop := rfl
@[simp] theorem State.setReg_holdFrom (s : State) (a : Nat) (w : Word) : (s.setReg a w).holdFrom = s.holdFrom := rfl
@[simp] theorem State.setReg_dissolved (s : State) (a : Nat) (w : Word) : (s.setReg a w).dissolved = s.dissolved := rfl
@[simp] theorem State.setReg_tier (s : State) (a : Nat) (w : Word) : (s.setReg a w).tier = s.tier := rfl
@[simp] theorem State.setReg_retired (s : State) (a : Nat) (w : Word) : (s.setReg a w).retired = s.retired := rfl
@[simp] theorem State.setReg_retireTimes (s : State) (a : Nat) (w : Word) : (s.setReg a w).retireTimes = s.retireTimes := rfl
@[simp] theorem State.setReg_arrInj (s : State) (a : Nat) (w : Word) : (s.setReg a w).arrInj = s.arrInj := rfl
@[simp] theorem State.setReg_lastDisp (s : State) (a : Nat) (w : Word) : (s.setReg a w).lastDisp = s.lastDisp := rfl
@[simp] theorem State.setReg_resv (s : State) (a : Nat) (w : Word) : (s.setReg a w).resv = s.resv := rfl
@[simp] theorem State.setReg_herdValid (s : State) (a : Nat) (w : Word) : (s.setReg a w).herdValid = s.herdValid := rfl
@[simp] theorem State.setReg_wheel (s : State) (a : Nat) (w : Word) : (s.setReg a w).wheel = s.wheel := rfl
@[simp] theorem State.setReg_net (s : State) (a : Nat) (w : Word) : (s.setReg a w).net = s.net := rfl
@[simp] theorem State.setReg_streams (s : State) (a : Nat) (w : Word) : (s.setReg a w).streams = s.streams := rfl
@[simp] theorem State.setReg_applying (s : State) (a : Nat) (w : Word) : (s.setReg a w).applying = s.applying := rfl
@[simp] theorem State.setReg_drover (s : State) (a : Nat) (w : Word) : (s.setReg a w).drover = s.drover := rfl
@[simp] theorem State.setReg_sweep (s : State) (a : Nat) (w : Word) : (s.setReg a w).sweep = s.sweep := rfl
@[simp] theorem State.setReg_diff (s : State) (a : Nat) (w : Word) : (s.setReg a w).diff = s.diff := rfl
@[simp] theorem State.setReg_load (s : State) (a : Nat) (w : Word) : (s.setReg a w).load = s.load := rfl
@[simp] theorem State.setReg_power (s : State) (a : Nat) (w : Word) : (s.setReg a w).power = s.power := rfl
@[simp] theorem State.setReg_readmit (s : State) (a : Nat) (w : Word) : (s.setReg a w).readmit = s.readmit := rfl
@[simp] theorem State.setReg_mirror (s : State) (a : Nat) (w : Word) : (s.setReg a w).mirror = s.mirror := rfl

@[simp] theorem State.set_pending (s : State) (f : Fld) (v : Nat) : (s.set f v).pending = s.pending := rfl
@[simp] theorem State.set_freeCount (s : State) (f : Fld) (v : Nat) : (s.set f v).freeCount = s.freeCount := rfl
@[simp] theorem State.set_mem (s : State) (f : Fld) (v : Nat) : (s.set f v).mem = s.mem := rfl
@[simp] theorem State.set_poison (s : State) (f : Fld) (v : Nat) : (s.set f v).poison = s.poison := rfl
@[simp] theorem State.set_journal (s : State) (f : Fld) (v : Nat) : (s.set f v).journal = s.journal := rfl
@[simp] theorem State.set_tileMap (s : State) (f : Fld) (v : Nat) : (s.set f v).tileMap = s.tileMap := rfl
@[simp] theorem State.set_host (s : State) (f : Fld) (v : Nat) : (s.set f v).host = s.host := rfl
@[simp] theorem State.set_mgmt (s : State) (f : Fld) (v : Nat) : (s.set f v).mgmt = s.mgmt := rfl
@[simp] theorem State.set_chj (s : State) (f : Fld) (v : Nat) : (s.set f v).chj = s.chj := rfl
@[simp] theorem State.set_halt (s : State) (f : Fld) (v : Nat) : (s.set f v).halt = s.halt := rfl
@[simp] theorem State.set_image (s : State) (f : Fld) (v : Nat) : (s.set f v).image = s.image := rfl
@[simp] theorem State.set_sections (s : State) (f : Fld) (v : Nat) : (s.set f v).sections = s.sections := rfl
@[simp] theorem State.set_acceptStop (s : State) (f : Fld) (v : Nat) : (s.set f v).acceptStop = s.acceptStop := rfl
@[simp] theorem State.set_holdFrom (s : State) (f : Fld) (v : Nat) : (s.set f v).holdFrom = s.holdFrom := rfl
@[simp] theorem State.set_dissolved (s : State) (f : Fld) (v : Nat) : (s.set f v).dissolved = s.dissolved := rfl
@[simp] theorem State.set_tier (s : State) (f : Fld) (v : Nat) : (s.set f v).tier = s.tier := rfl
@[simp] theorem State.set_retired (s : State) (f : Fld) (v : Nat) : (s.set f v).retired = s.retired := rfl
@[simp] theorem State.set_retireTimes (s : State) (f : Fld) (v : Nat) : (s.set f v).retireTimes = s.retireTimes := rfl
@[simp] theorem State.set_arrInj (s : State) (f : Fld) (v : Nat) : (s.set f v).arrInj = s.arrInj := rfl
@[simp] theorem State.set_lastDisp (s : State) (f : Fld) (v : Nat) : (s.set f v).lastDisp = s.lastDisp := rfl
@[simp] theorem State.set_resv (s : State) (f : Fld) (v : Nat) : (s.set f v).resv = s.resv := rfl
@[simp] theorem State.set_herdValid (s : State) (f : Fld) (v : Nat) : (s.set f v).herdValid = s.herdValid := rfl
@[simp] theorem State.set_wheel (s : State) (f : Fld) (v : Nat) : (s.set f v).wheel = s.wheel := rfl
@[simp] theorem State.set_net (s : State) (f : Fld) (v : Nat) : (s.set f v).net = s.net := rfl
@[simp] theorem State.set_streams (s : State) (f : Fld) (v : Nat) : (s.set f v).streams = s.streams := rfl
@[simp] theorem State.set_applying (s : State) (f : Fld) (v : Nat) : (s.set f v).applying = s.applying := rfl
@[simp] theorem State.set_drover (s : State) (f : Fld) (v : Nat) : (s.set f v).drover = s.drover := rfl
@[simp] theorem State.set_sweep (s : State) (f : Fld) (v : Nat) : (s.set f v).sweep = s.sweep := rfl
@[simp] theorem State.set_diff (s : State) (f : Fld) (v : Nat) : (s.set f v).diff = s.diff := rfl
@[simp] theorem State.set_load (s : State) (f : Fld) (v : Nat) : (s.set f v).load = s.load := rfl
@[simp] theorem State.set_power (s : State) (f : Fld) (v : Nat) : (s.set f v).power = s.power := rfl
@[simp] theorem State.set_readmit (s : State) (f : Fld) (v : Nat) : (s.set f v).readmit = s.readmit := rfl
@[simp] theorem State.set_mirror (s : State) (f : Fld) (v : Nat) : (s.set f v).mirror = s.mirror := rfl

@[simp] theorem State.setFlag_pending (s : State) (f : Fld) (b : Bool) : (s.setFlag f b).pending = s.pending := rfl
@[simp] theorem State.setFlag_freeCount (s : State) (f : Fld) (b : Bool) : (s.setFlag f b).freeCount = s.freeCount := rfl
@[simp] theorem State.setFlag_mem (s : State) (f : Fld) (b : Bool) : (s.setFlag f b).mem = s.mem := rfl
@[simp] theorem State.setFlag_poison (s : State) (f : Fld) (b : Bool) : (s.setFlag f b).poison = s.poison := rfl
@[simp] theorem State.setFlag_journal (s : State) (f : Fld) (b : Bool) : (s.setFlag f b).journal = s.journal := rfl
@[simp] theorem State.setFlag_tileMap (s : State) (f : Fld) (b : Bool) : (s.setFlag f b).tileMap = s.tileMap := rfl
@[simp] theorem State.setFlag_host (s : State) (f : Fld) (b : Bool) : (s.setFlag f b).host = s.host := rfl
@[simp] theorem State.setFlag_mgmt (s : State) (f : Fld) (b : Bool) : (s.setFlag f b).mgmt = s.mgmt := rfl
@[simp] theorem State.setFlag_chj (s : State) (f : Fld) (b : Bool) : (s.setFlag f b).chj = s.chj := rfl
@[simp] theorem State.setFlag_halt (s : State) (f : Fld) (b : Bool) : (s.setFlag f b).halt = s.halt := rfl
@[simp] theorem State.setFlag_image (s : State) (f : Fld) (b : Bool) : (s.setFlag f b).image = s.image := rfl
@[simp] theorem State.setFlag_sections (s : State) (f : Fld) (b : Bool) : (s.setFlag f b).sections = s.sections := rfl
@[simp] theorem State.setFlag_acceptStop (s : State) (f : Fld) (b : Bool) : (s.setFlag f b).acceptStop = s.acceptStop := rfl
@[simp] theorem State.setFlag_holdFrom (s : State) (f : Fld) (b : Bool) : (s.setFlag f b).holdFrom = s.holdFrom := rfl
@[simp] theorem State.setFlag_dissolved (s : State) (f : Fld) (b : Bool) : (s.setFlag f b).dissolved = s.dissolved := rfl
@[simp] theorem State.setFlag_tier (s : State) (f : Fld) (b : Bool) : (s.setFlag f b).tier = s.tier := rfl
@[simp] theorem State.setFlag_retired (s : State) (f : Fld) (b : Bool) : (s.setFlag f b).retired = s.retired := rfl
@[simp] theorem State.setFlag_retireTimes (s : State) (f : Fld) (b : Bool) : (s.setFlag f b).retireTimes = s.retireTimes := rfl
@[simp] theorem State.setFlag_arrInj (s : State) (f : Fld) (b : Bool) : (s.setFlag f b).arrInj = s.arrInj := rfl
@[simp] theorem State.setFlag_lastDisp (s : State) (f : Fld) (b : Bool) : (s.setFlag f b).lastDisp = s.lastDisp := rfl
@[simp] theorem State.setFlag_resv (s : State) (f : Fld) (b : Bool) : (s.setFlag f b).resv = s.resv := rfl
@[simp] theorem State.setFlag_herdValid (s : State) (f : Fld) (b : Bool) : (s.setFlag f b).herdValid = s.herdValid := rfl
@[simp] theorem State.setFlag_wheel (s : State) (f : Fld) (b : Bool) : (s.setFlag f b).wheel = s.wheel := rfl
@[simp] theorem State.setFlag_net (s : State) (f : Fld) (b : Bool) : (s.setFlag f b).net = s.net := rfl
@[simp] theorem State.setFlag_streams (s : State) (f : Fld) (b : Bool) : (s.setFlag f b).streams = s.streams := rfl
@[simp] theorem State.setFlag_applying (s : State) (f : Fld) (b : Bool) : (s.setFlag f b).applying = s.applying := rfl
@[simp] theorem State.setFlag_drover (s : State) (f : Fld) (b : Bool) : (s.setFlag f b).drover = s.drover := rfl
@[simp] theorem State.setFlag_sweep (s : State) (f : Fld) (b : Bool) : (s.setFlag f b).sweep = s.sweep := rfl
@[simp] theorem State.setFlag_diff (s : State) (f : Fld) (b : Bool) : (s.setFlag f b).diff = s.diff := rfl
@[simp] theorem State.setFlag_load (s : State) (f : Fld) (b : Bool) : (s.setFlag f b).load = s.load := rfl
@[simp] theorem State.setFlag_power (s : State) (f : Fld) (b : Bool) : (s.setFlag f b).power = s.power := rfl
@[simp] theorem State.setFlag_readmit (s : State) (f : Fld) (b : Bool) : (s.setFlag f b).readmit = s.readmit := rfl
@[simp] theorem State.setFlag_mirror (s : State) (f : Fld) (b : Bool) : (s.setFlag f b).mirror = s.mirror := rfl

@[simp] theorem State.count_pending (s : State) (f : Fld) (k : Nat) : (s.count f k).pending = s.pending := rfl
@[simp] theorem State.count_freeCount (s : State) (f : Fld) (k : Nat) : (s.count f k).freeCount = s.freeCount := rfl
@[simp] theorem State.count_mem (s : State) (f : Fld) (k : Nat) : (s.count f k).mem = s.mem := rfl
@[simp] theorem State.count_poison (s : State) (f : Fld) (k : Nat) : (s.count f k).poison = s.poison := rfl
@[simp] theorem State.count_journal (s : State) (f : Fld) (k : Nat) : (s.count f k).journal = s.journal := rfl
@[simp] theorem State.count_tileMap (s : State) (f : Fld) (k : Nat) : (s.count f k).tileMap = s.tileMap := rfl
@[simp] theorem State.count_host (s : State) (f : Fld) (k : Nat) : (s.count f k).host = s.host := rfl
@[simp] theorem State.count_mgmt (s : State) (f : Fld) (k : Nat) : (s.count f k).mgmt = s.mgmt := rfl
@[simp] theorem State.count_chj (s : State) (f : Fld) (k : Nat) : (s.count f k).chj = s.chj := rfl
@[simp] theorem State.count_halt (s : State) (f : Fld) (k : Nat) : (s.count f k).halt = s.halt := rfl
@[simp] theorem State.count_image (s : State) (f : Fld) (k : Nat) : (s.count f k).image = s.image := rfl
@[simp] theorem State.count_sections (s : State) (f : Fld) (k : Nat) : (s.count f k).sections = s.sections := rfl
@[simp] theorem State.count_acceptStop (s : State) (f : Fld) (k : Nat) : (s.count f k).acceptStop = s.acceptStop := rfl
@[simp] theorem State.count_holdFrom (s : State) (f : Fld) (k : Nat) : (s.count f k).holdFrom = s.holdFrom := rfl
@[simp] theorem State.count_dissolved (s : State) (f : Fld) (k : Nat) : (s.count f k).dissolved = s.dissolved := rfl
@[simp] theorem State.count_tier (s : State) (f : Fld) (k : Nat) : (s.count f k).tier = s.tier := rfl
@[simp] theorem State.count_retired (s : State) (f : Fld) (k : Nat) : (s.count f k).retired = s.retired := rfl
@[simp] theorem State.count_retireTimes (s : State) (f : Fld) (k : Nat) : (s.count f k).retireTimes = s.retireTimes := rfl
@[simp] theorem State.count_arrInj (s : State) (f : Fld) (k : Nat) : (s.count f k).arrInj = s.arrInj := rfl
@[simp] theorem State.count_lastDisp (s : State) (f : Fld) (k : Nat) : (s.count f k).lastDisp = s.lastDisp := rfl
@[simp] theorem State.count_resv (s : State) (f : Fld) (k : Nat) : (s.count f k).resv = s.resv := rfl
@[simp] theorem State.count_herdValid (s : State) (f : Fld) (k : Nat) : (s.count f k).herdValid = s.herdValid := rfl
@[simp] theorem State.count_wheel (s : State) (f : Fld) (k : Nat) : (s.count f k).wheel = s.wheel := rfl
@[simp] theorem State.count_net (s : State) (f : Fld) (k : Nat) : (s.count f k).net = s.net := rfl
@[simp] theorem State.count_streams (s : State) (f : Fld) (k : Nat) : (s.count f k).streams = s.streams := rfl
@[simp] theorem State.count_applying (s : State) (f : Fld) (k : Nat) : (s.count f k).applying = s.applying := rfl
@[simp] theorem State.count_drover (s : State) (f : Fld) (k : Nat) : (s.count f k).drover = s.drover := rfl
@[simp] theorem State.count_sweep (s : State) (f : Fld) (k : Nat) : (s.count f k).sweep = s.sweep := rfl
@[simp] theorem State.count_diff (s : State) (f : Fld) (k : Nat) : (s.count f k).diff = s.diff := rfl
@[simp] theorem State.count_load (s : State) (f : Fld) (k : Nat) : (s.count f k).load = s.load := rfl
@[simp] theorem State.count_power (s : State) (f : Fld) (k : Nat) : (s.count f k).power = s.power := rfl
@[simp] theorem State.count_readmit (s : State) (f : Fld) (k : Nat) : (s.count f k).readmit = s.readmit := rfl
@[simp] theorem State.count_mirror (s : State) (f : Fld) (k : Nat) : (s.count f k).mirror = s.mirror := rfl

@[simp] theorem State.wrap_pending (s : State) (f : Fld) (k : Nat) : (s.wrap f k).pending = s.pending := rfl
@[simp] theorem State.wrap_freeCount (s : State) (f : Fld) (k : Nat) : (s.wrap f k).freeCount = s.freeCount := rfl
@[simp] theorem State.wrap_mem (s : State) (f : Fld) (k : Nat) : (s.wrap f k).mem = s.mem := rfl
@[simp] theorem State.wrap_poison (s : State) (f : Fld) (k : Nat) : (s.wrap f k).poison = s.poison := rfl
@[simp] theorem State.wrap_journal (s : State) (f : Fld) (k : Nat) : (s.wrap f k).journal = s.journal := rfl
@[simp] theorem State.wrap_tileMap (s : State) (f : Fld) (k : Nat) : (s.wrap f k).tileMap = s.tileMap := rfl
@[simp] theorem State.wrap_host (s : State) (f : Fld) (k : Nat) : (s.wrap f k).host = s.host := rfl
@[simp] theorem State.wrap_mgmt (s : State) (f : Fld) (k : Nat) : (s.wrap f k).mgmt = s.mgmt := rfl
@[simp] theorem State.wrap_chj (s : State) (f : Fld) (k : Nat) : (s.wrap f k).chj = s.chj := rfl
@[simp] theorem State.wrap_halt (s : State) (f : Fld) (k : Nat) : (s.wrap f k).halt = s.halt := rfl
@[simp] theorem State.wrap_image (s : State) (f : Fld) (k : Nat) : (s.wrap f k).image = s.image := rfl
@[simp] theorem State.wrap_sections (s : State) (f : Fld) (k : Nat) : (s.wrap f k).sections = s.sections := rfl
@[simp] theorem State.wrap_acceptStop (s : State) (f : Fld) (k : Nat) : (s.wrap f k).acceptStop = s.acceptStop := rfl
@[simp] theorem State.wrap_holdFrom (s : State) (f : Fld) (k : Nat) : (s.wrap f k).holdFrom = s.holdFrom := rfl
@[simp] theorem State.wrap_dissolved (s : State) (f : Fld) (k : Nat) : (s.wrap f k).dissolved = s.dissolved := rfl
@[simp] theorem State.wrap_tier (s : State) (f : Fld) (k : Nat) : (s.wrap f k).tier = s.tier := rfl
@[simp] theorem State.wrap_retired (s : State) (f : Fld) (k : Nat) : (s.wrap f k).retired = s.retired := rfl
@[simp] theorem State.wrap_retireTimes (s : State) (f : Fld) (k : Nat) : (s.wrap f k).retireTimes = s.retireTimes := rfl
@[simp] theorem State.wrap_arrInj (s : State) (f : Fld) (k : Nat) : (s.wrap f k).arrInj = s.arrInj := rfl
@[simp] theorem State.wrap_lastDisp (s : State) (f : Fld) (k : Nat) : (s.wrap f k).lastDisp = s.lastDisp := rfl
@[simp] theorem State.wrap_resv (s : State) (f : Fld) (k : Nat) : (s.wrap f k).resv = s.resv := rfl
@[simp] theorem State.wrap_herdValid (s : State) (f : Fld) (k : Nat) : (s.wrap f k).herdValid = s.herdValid := rfl
@[simp] theorem State.wrap_wheel (s : State) (f : Fld) (k : Nat) : (s.wrap f k).wheel = s.wheel := rfl
@[simp] theorem State.wrap_net (s : State) (f : Fld) (k : Nat) : (s.wrap f k).net = s.net := rfl
@[simp] theorem State.wrap_streams (s : State) (f : Fld) (k : Nat) : (s.wrap f k).streams = s.streams := rfl
@[simp] theorem State.wrap_applying (s : State) (f : Fld) (k : Nat) : (s.wrap f k).applying = s.applying := rfl
@[simp] theorem State.wrap_drover (s : State) (f : Fld) (k : Nat) : (s.wrap f k).drover = s.drover := rfl
@[simp] theorem State.wrap_sweep (s : State) (f : Fld) (k : Nat) : (s.wrap f k).sweep = s.sweep := rfl
@[simp] theorem State.wrap_diff (s : State) (f : Fld) (k : Nat) : (s.wrap f k).diff = s.diff := rfl
@[simp] theorem State.wrap_load (s : State) (f : Fld) (k : Nat) : (s.wrap f k).load = s.load := rfl
@[simp] theorem State.wrap_power (s : State) (f : Fld) (k : Nat) : (s.wrap f k).power = s.power := rfl
@[simp] theorem State.wrap_readmit (s : State) (f : Fld) (k : Nat) : (s.wrap f k).readmit = s.readmit := rfl
@[simp] theorem State.wrap_mirror (s : State) (f : Fld) (k : Nat) : (s.wrap f k).mirror = s.mirror := rfl

@[simp] theorem State.lower_pending (s : State) (f : Fld) (k : Nat) : (s.lower f k).pending = s.pending := rfl
@[simp] theorem State.lower_freeCount (s : State) (f : Fld) (k : Nat) : (s.lower f k).freeCount = s.freeCount := rfl
@[simp] theorem State.lower_mem (s : State) (f : Fld) (k : Nat) : (s.lower f k).mem = s.mem := rfl
@[simp] theorem State.lower_poison (s : State) (f : Fld) (k : Nat) : (s.lower f k).poison = s.poison := rfl
@[simp] theorem State.lower_journal (s : State) (f : Fld) (k : Nat) : (s.lower f k).journal = s.journal := rfl
@[simp] theorem State.lower_tileMap (s : State) (f : Fld) (k : Nat) : (s.lower f k).tileMap = s.tileMap := rfl
@[simp] theorem State.lower_host (s : State) (f : Fld) (k : Nat) : (s.lower f k).host = s.host := rfl
@[simp] theorem State.lower_mgmt (s : State) (f : Fld) (k : Nat) : (s.lower f k).mgmt = s.mgmt := rfl
@[simp] theorem State.lower_chj (s : State) (f : Fld) (k : Nat) : (s.lower f k).chj = s.chj := rfl
@[simp] theorem State.lower_halt (s : State) (f : Fld) (k : Nat) : (s.lower f k).halt = s.halt := rfl
@[simp] theorem State.lower_image (s : State) (f : Fld) (k : Nat) : (s.lower f k).image = s.image := rfl
@[simp] theorem State.lower_sections (s : State) (f : Fld) (k : Nat) : (s.lower f k).sections = s.sections := rfl
@[simp] theorem State.lower_acceptStop (s : State) (f : Fld) (k : Nat) : (s.lower f k).acceptStop = s.acceptStop := rfl
@[simp] theorem State.lower_holdFrom (s : State) (f : Fld) (k : Nat) : (s.lower f k).holdFrom = s.holdFrom := rfl
@[simp] theorem State.lower_dissolved (s : State) (f : Fld) (k : Nat) : (s.lower f k).dissolved = s.dissolved := rfl
@[simp] theorem State.lower_tier (s : State) (f : Fld) (k : Nat) : (s.lower f k).tier = s.tier := rfl
@[simp] theorem State.lower_retired (s : State) (f : Fld) (k : Nat) : (s.lower f k).retired = s.retired := rfl
@[simp] theorem State.lower_retireTimes (s : State) (f : Fld) (k : Nat) : (s.lower f k).retireTimes = s.retireTimes := rfl
@[simp] theorem State.lower_arrInj (s : State) (f : Fld) (k : Nat) : (s.lower f k).arrInj = s.arrInj := rfl
@[simp] theorem State.lower_lastDisp (s : State) (f : Fld) (k : Nat) : (s.lower f k).lastDisp = s.lastDisp := rfl
@[simp] theorem State.lower_resv (s : State) (f : Fld) (k : Nat) : (s.lower f k).resv = s.resv := rfl
@[simp] theorem State.lower_herdValid (s : State) (f : Fld) (k : Nat) : (s.lower f k).herdValid = s.herdValid := rfl
@[simp] theorem State.lower_wheel (s : State) (f : Fld) (k : Nat) : (s.lower f k).wheel = s.wheel := rfl
@[simp] theorem State.lower_net (s : State) (f : Fld) (k : Nat) : (s.lower f k).net = s.net := rfl
@[simp] theorem State.lower_streams (s : State) (f : Fld) (k : Nat) : (s.lower f k).streams = s.streams := rfl
@[simp] theorem State.lower_applying (s : State) (f : Fld) (k : Nat) : (s.lower f k).applying = s.applying := rfl
@[simp] theorem State.lower_drover (s : State) (f : Fld) (k : Nat) : (s.lower f k).drover = s.drover := rfl
@[simp] theorem State.lower_sweep (s : State) (f : Fld) (k : Nat) : (s.lower f k).sweep = s.sweep := rfl
@[simp] theorem State.lower_diff (s : State) (f : Fld) (k : Nat) : (s.lower f k).diff = s.diff := rfl
@[simp] theorem State.lower_load (s : State) (f : Fld) (k : Nat) : (s.lower f k).load = s.load := rfl
@[simp] theorem State.lower_power (s : State) (f : Fld) (k : Nat) : (s.lower f k).power = s.power := rfl
@[simp] theorem State.lower_readmit (s : State) (f : Fld) (k : Nat) : (s.lower f k).readmit = s.readmit := rfl
@[simp] theorem State.lower_mirror (s : State) (f : Fld) (k : Nat) : (s.lower f k).mirror = s.mirror := rfl

@[simp] theorem State.wbs_pending (s : State) (a : Nat) (bs : List Byte) : (s.wbs a bs).pending = s.pending := rfl
@[simp] theorem State.wbs_freeCount (s : State) (a : Nat) (bs : List Byte) : (s.wbs a bs).freeCount = s.freeCount := rfl
@[simp] theorem State.wbs_regs (s : State) (a : Nat) (bs : List Byte) : (s.wbs a bs).regs = s.regs := rfl
@[simp] theorem State.wbs_mem (s : State) (a : Nat) (bs : List Byte) : (s.wbs a bs).mem = memPuts s.mem a bs := rfl
@[simp] theorem State.wbs_poison (s : State) (a : Nat) (bs : List Byte) : (s.wbs a bs).poison = s.poison := rfl
@[simp] theorem State.wbs_journal (s : State) (a : Nat) (bs : List Byte) : (s.wbs a bs).journal = s.journal := rfl
@[simp] theorem State.wbs_tileMap (s : State) (a : Nat) (bs : List Byte) : (s.wbs a bs).tileMap = s.tileMap := rfl
@[simp] theorem State.wbs_host (s : State) (a : Nat) (bs : List Byte) : (s.wbs a bs).host = s.host := rfl
@[simp] theorem State.wbs_mgmt (s : State) (a : Nat) (bs : List Byte) : (s.wbs a bs).mgmt = s.mgmt := rfl
@[simp] theorem State.wbs_chj (s : State) (a : Nat) (bs : List Byte) : (s.wbs a bs).chj = s.chj := rfl
@[simp] theorem State.wbs_halt (s : State) (a : Nat) (bs : List Byte) : (s.wbs a bs).halt = s.halt := rfl
@[simp] theorem State.wbs_image (s : State) (a : Nat) (bs : List Byte) : (s.wbs a bs).image = s.image := rfl
@[simp] theorem State.wbs_sections (s : State) (a : Nat) (bs : List Byte) : (s.wbs a bs).sections = s.sections := rfl
@[simp] theorem State.wbs_acceptStop (s : State) (a : Nat) (bs : List Byte) : (s.wbs a bs).acceptStop = s.acceptStop := rfl
@[simp] theorem State.wbs_holdFrom (s : State) (a : Nat) (bs : List Byte) : (s.wbs a bs).holdFrom = s.holdFrom := rfl
@[simp] theorem State.wbs_dissolved (s : State) (a : Nat) (bs : List Byte) : (s.wbs a bs).dissolved = s.dissolved := rfl
@[simp] theorem State.wbs_tier (s : State) (a : Nat) (bs : List Byte) : (s.wbs a bs).tier = s.tier := rfl
@[simp] theorem State.wbs_retired (s : State) (a : Nat) (bs : List Byte) : (s.wbs a bs).retired = s.retired := rfl
@[simp] theorem State.wbs_retireTimes (s : State) (a : Nat) (bs : List Byte) : (s.wbs a bs).retireTimes = s.retireTimes := rfl
@[simp] theorem State.wbs_arrInj (s : State) (a : Nat) (bs : List Byte) : (s.wbs a bs).arrInj = s.arrInj := rfl
@[simp] theorem State.wbs_lastDisp (s : State) (a : Nat) (bs : List Byte) : (s.wbs a bs).lastDisp = s.lastDisp := rfl
@[simp] theorem State.wbs_resv (s : State) (a : Nat) (bs : List Byte) : (s.wbs a bs).resv = s.resv := rfl
@[simp] theorem State.wbs_herdValid (s : State) (a : Nat) (bs : List Byte) : (s.wbs a bs).herdValid = s.herdValid := rfl
@[simp] theorem State.wbs_wheel (s : State) (a : Nat) (bs : List Byte) : (s.wbs a bs).wheel = s.wheel := rfl
@[simp] theorem State.wbs_net (s : State) (a : Nat) (bs : List Byte) : (s.wbs a bs).net = s.net := rfl
@[simp] theorem State.wbs_streams (s : State) (a : Nat) (bs : List Byte) : (s.wbs a bs).streams = s.streams := rfl
@[simp] theorem State.wbs_applying (s : State) (a : Nat) (bs : List Byte) : (s.wbs a bs).applying = s.applying := rfl
@[simp] theorem State.wbs_drover (s : State) (a : Nat) (bs : List Byte) : (s.wbs a bs).drover = s.drover := rfl
@[simp] theorem State.wbs_sweep (s : State) (a : Nat) (bs : List Byte) : (s.wbs a bs).sweep = s.sweep := rfl
@[simp] theorem State.wbs_diff (s : State) (a : Nat) (bs : List Byte) : (s.wbs a bs).diff = s.diff := rfl
@[simp] theorem State.wbs_load (s : State) (a : Nat) (bs : List Byte) : (s.wbs a bs).load = s.load := rfl
@[simp] theorem State.wbs_power (s : State) (a : Nat) (bs : List Byte) : (s.wbs a bs).power = s.power := rfl
@[simp] theorem State.wbs_readmit (s : State) (a : Nat) (bs : List Byte) : (s.wbs a bs).readmit = s.readmit := rfl
@[simp] theorem State.wbs_mirror (s : State) (a : Nat) (bs : List Byte) : (s.wbs a bs).mirror = s.mirror := rfl

@[simp] theorem State.cleanse_pending (s : State) (a n : Nat) : (s.cleanse a n).pending = s.pending := rfl
@[simp] theorem State.cleanse_freeCount (s : State) (a n : Nat) : (s.cleanse a n).freeCount = s.freeCount := rfl
@[simp] theorem State.cleanse_regs (s : State) (a n : Nat) : (s.cleanse a n).regs = s.regs := rfl
@[simp] theorem State.cleanse_mem (s : State) (a n : Nat) : (s.cleanse a n).mem = s.mem := rfl
@[simp] theorem State.cleanse_journal (s : State) (a n : Nat) : (s.cleanse a n).journal = s.journal := rfl
@[simp] theorem State.cleanse_tileMap (s : State) (a n : Nat) : (s.cleanse a n).tileMap = s.tileMap := rfl
@[simp] theorem State.cleanse_host (s : State) (a n : Nat) : (s.cleanse a n).host = s.host := rfl
@[simp] theorem State.cleanse_mgmt (s : State) (a n : Nat) : (s.cleanse a n).mgmt = s.mgmt := rfl
@[simp] theorem State.cleanse_chj (s : State) (a n : Nat) : (s.cleanse a n).chj = s.chj := rfl
@[simp] theorem State.cleanse_halt (s : State) (a n : Nat) : (s.cleanse a n).halt = s.halt := rfl
@[simp] theorem State.cleanse_image (s : State) (a n : Nat) : (s.cleanse a n).image = s.image := rfl
@[simp] theorem State.cleanse_sections (s : State) (a n : Nat) : (s.cleanse a n).sections = s.sections := rfl
@[simp] theorem State.cleanse_acceptStop (s : State) (a n : Nat) : (s.cleanse a n).acceptStop = s.acceptStop := rfl
@[simp] theorem State.cleanse_holdFrom (s : State) (a n : Nat) : (s.cleanse a n).holdFrom = s.holdFrom := rfl
@[simp] theorem State.cleanse_dissolved (s : State) (a n : Nat) : (s.cleanse a n).dissolved = s.dissolved := rfl
@[simp] theorem State.cleanse_tier (s : State) (a n : Nat) : (s.cleanse a n).tier = s.tier := rfl
@[simp] theorem State.cleanse_retired (s : State) (a n : Nat) : (s.cleanse a n).retired = s.retired := rfl
@[simp] theorem State.cleanse_retireTimes (s : State) (a n : Nat) : (s.cleanse a n).retireTimes = s.retireTimes := rfl
@[simp] theorem State.cleanse_arrInj (s : State) (a n : Nat) : (s.cleanse a n).arrInj = s.arrInj := rfl
@[simp] theorem State.cleanse_lastDisp (s : State) (a n : Nat) : (s.cleanse a n).lastDisp = s.lastDisp := rfl
@[simp] theorem State.cleanse_resv (s : State) (a n : Nat) : (s.cleanse a n).resv = s.resv := rfl
@[simp] theorem State.cleanse_herdValid (s : State) (a n : Nat) : (s.cleanse a n).herdValid = s.herdValid := rfl
@[simp] theorem State.cleanse_wheel (s : State) (a n : Nat) : (s.cleanse a n).wheel = s.wheel := rfl
@[simp] theorem State.cleanse_net (s : State) (a n : Nat) : (s.cleanse a n).net = s.net := rfl
@[simp] theorem State.cleanse_streams (s : State) (a n : Nat) : (s.cleanse a n).streams = s.streams := rfl
@[simp] theorem State.cleanse_applying (s : State) (a n : Nat) : (s.cleanse a n).applying = s.applying := rfl
@[simp] theorem State.cleanse_drover (s : State) (a n : Nat) : (s.cleanse a n).drover = s.drover := rfl
@[simp] theorem State.cleanse_sweep (s : State) (a n : Nat) : (s.cleanse a n).sweep = s.sweep := rfl
@[simp] theorem State.cleanse_diff (s : State) (a n : Nat) : (s.cleanse a n).diff = s.diff := rfl
@[simp] theorem State.cleanse_load (s : State) (a n : Nat) : (s.cleanse a n).load = s.load := rfl
@[simp] theorem State.cleanse_power (s : State) (a n : Nat) : (s.cleanse a n).power = s.power := rfl
@[simp] theorem State.cleanse_readmit (s : State) (a n : Nat) : (s.cleanse a n).readmit = s.readmit := rfl
@[simp] theorem State.cleanse_mirror (s : State) (a n : Nat) : (s.cleanse a n).mirror = s.mirror := rfl

@[simp] theorem State.poisonGranule_pending (s : State) (g : Nat) : (s.poisonGranule g).pending = s.pending := rfl
@[simp] theorem State.poisonGranule_freeCount (s : State) (g : Nat) : (s.poisonGranule g).freeCount = s.freeCount := rfl
@[simp] theorem State.poisonGranule_regs (s : State) (g : Nat) : (s.poisonGranule g).regs = s.regs := rfl
@[simp] theorem State.poisonGranule_mem (s : State) (g : Nat) : (s.poisonGranule g).mem = s.mem := rfl
@[simp] theorem State.poisonGranule_poison (s : State) (g : Nat) : (s.poisonGranule g).poison = nadd s.poison g := rfl
@[simp] theorem State.poisonGranule_journal (s : State) (g : Nat) : (s.poisonGranule g).journal = s.journal := rfl
@[simp] theorem State.poisonGranule_tileMap (s : State) (g : Nat) : (s.poisonGranule g).tileMap = s.tileMap := rfl
@[simp] theorem State.poisonGranule_host (s : State) (g : Nat) : (s.poisonGranule g).host = s.host := rfl
@[simp] theorem State.poisonGranule_mgmt (s : State) (g : Nat) : (s.poisonGranule g).mgmt = s.mgmt := rfl
@[simp] theorem State.poisonGranule_chj (s : State) (g : Nat) : (s.poisonGranule g).chj = s.chj := rfl
@[simp] theorem State.poisonGranule_halt (s : State) (g : Nat) : (s.poisonGranule g).halt = s.halt := rfl
@[simp] theorem State.poisonGranule_image (s : State) (g : Nat) : (s.poisonGranule g).image = s.image := rfl
@[simp] theorem State.poisonGranule_sections (s : State) (g : Nat) : (s.poisonGranule g).sections = s.sections := rfl
@[simp] theorem State.poisonGranule_acceptStop (s : State) (g : Nat) : (s.poisonGranule g).acceptStop = s.acceptStop := rfl
@[simp] theorem State.poisonGranule_holdFrom (s : State) (g : Nat) : (s.poisonGranule g).holdFrom = s.holdFrom := rfl
@[simp] theorem State.poisonGranule_dissolved (s : State) (g : Nat) : (s.poisonGranule g).dissolved = s.dissolved := rfl
@[simp] theorem State.poisonGranule_tier (s : State) (g : Nat) : (s.poisonGranule g).tier = s.tier := rfl
@[simp] theorem State.poisonGranule_retired (s : State) (g : Nat) : (s.poisonGranule g).retired = s.retired := rfl
@[simp] theorem State.poisonGranule_retireTimes (s : State) (g : Nat) : (s.poisonGranule g).retireTimes = s.retireTimes := rfl
@[simp] theorem State.poisonGranule_arrInj (s : State) (g : Nat) : (s.poisonGranule g).arrInj = s.arrInj := rfl
@[simp] theorem State.poisonGranule_lastDisp (s : State) (g : Nat) : (s.poisonGranule g).lastDisp = s.lastDisp := rfl
@[simp] theorem State.poisonGranule_resv (s : State) (g : Nat) : (s.poisonGranule g).resv = s.resv := rfl
@[simp] theorem State.poisonGranule_herdValid (s : State) (g : Nat) : (s.poisonGranule g).herdValid = s.herdValid := rfl
@[simp] theorem State.poisonGranule_wheel (s : State) (g : Nat) : (s.poisonGranule g).wheel = s.wheel := rfl
@[simp] theorem State.poisonGranule_net (s : State) (g : Nat) : (s.poisonGranule g).net = s.net := rfl
@[simp] theorem State.poisonGranule_streams (s : State) (g : Nat) : (s.poisonGranule g).streams = s.streams := rfl
@[simp] theorem State.poisonGranule_applying (s : State) (g : Nat) : (s.poisonGranule g).applying = s.applying := rfl
@[simp] theorem State.poisonGranule_drover (s : State) (g : Nat) : (s.poisonGranule g).drover = s.drover := rfl
@[simp] theorem State.poisonGranule_sweep (s : State) (g : Nat) : (s.poisonGranule g).sweep = s.sweep := rfl
@[simp] theorem State.poisonGranule_diff (s : State) (g : Nat) : (s.poisonGranule g).diff = s.diff := rfl
@[simp] theorem State.poisonGranule_load (s : State) (g : Nat) : (s.poisonGranule g).load = s.load := rfl
@[simp] theorem State.poisonGranule_power (s : State) (g : Nat) : (s.poisonGranule g).power = s.power := rfl
@[simp] theorem State.poisonGranule_readmit (s : State) (g : Nat) : (s.poisonGranule g).readmit = s.readmit := rfl
@[simp] theorem State.poisonGranule_mirror (s : State) (g : Nat) : (s.poisonGranule g).mirror = s.mirror := rfl

@[simp] theorem State.jmod_pending (s : State) (j : Nat) (f : JEntry → JEntry) : (s.jmod j f).pending = s.pending := rfl
@[simp] theorem State.jmod_freeCount (s : State) (j : Nat) (f : JEntry → JEntry) : (s.jmod j f).freeCount = s.freeCount := rfl
@[simp] theorem State.jmod_regs (s : State) (j : Nat) (f : JEntry → JEntry) : (s.jmod j f).regs = s.regs := rfl
@[simp] theorem State.jmod_mem (s : State) (j : Nat) (f : JEntry → JEntry) : (s.jmod j f).mem = s.mem := rfl
@[simp] theorem State.jmod_poison (s : State) (j : Nat) (f : JEntry → JEntry) : (s.jmod j f).poison = s.poison := rfl
@[simp] theorem State.jmod_journal (s : State) (j : Nat) (f : JEntry → JEntry) : (s.jmod j f).journal = smodify s.journal j f := rfl
@[simp] theorem State.jmod_tileMap (s : State) (j : Nat) (f : JEntry → JEntry) : (s.jmod j f).tileMap = s.tileMap := rfl
@[simp] theorem State.jmod_host (s : State) (j : Nat) (f : JEntry → JEntry) : (s.jmod j f).host = s.host := rfl
@[simp] theorem State.jmod_mgmt (s : State) (j : Nat) (f : JEntry → JEntry) : (s.jmod j f).mgmt = s.mgmt := rfl
@[simp] theorem State.jmod_chj (s : State) (j : Nat) (f : JEntry → JEntry) : (s.jmod j f).chj = s.chj := rfl
@[simp] theorem State.jmod_halt (s : State) (j : Nat) (f : JEntry → JEntry) : (s.jmod j f).halt = s.halt := rfl
@[simp] theorem State.jmod_image (s : State) (j : Nat) (f : JEntry → JEntry) : (s.jmod j f).image = s.image := rfl
@[simp] theorem State.jmod_sections (s : State) (j : Nat) (f : JEntry → JEntry) : (s.jmod j f).sections = s.sections := rfl
@[simp] theorem State.jmod_acceptStop (s : State) (j : Nat) (f : JEntry → JEntry) : (s.jmod j f).acceptStop = s.acceptStop := rfl
@[simp] theorem State.jmod_holdFrom (s : State) (j : Nat) (f : JEntry → JEntry) : (s.jmod j f).holdFrom = s.holdFrom := rfl
@[simp] theorem State.jmod_dissolved (s : State) (j : Nat) (f : JEntry → JEntry) : (s.jmod j f).dissolved = s.dissolved := rfl
@[simp] theorem State.jmod_tier (s : State) (j : Nat) (f : JEntry → JEntry) : (s.jmod j f).tier = s.tier := rfl
@[simp] theorem State.jmod_retired (s : State) (j : Nat) (f : JEntry → JEntry) : (s.jmod j f).retired = s.retired := rfl
@[simp] theorem State.jmod_retireTimes (s : State) (j : Nat) (f : JEntry → JEntry) : (s.jmod j f).retireTimes = s.retireTimes := rfl
@[simp] theorem State.jmod_arrInj (s : State) (j : Nat) (f : JEntry → JEntry) : (s.jmod j f).arrInj = s.arrInj := rfl
@[simp] theorem State.jmod_lastDisp (s : State) (j : Nat) (f : JEntry → JEntry) : (s.jmod j f).lastDisp = s.lastDisp := rfl
@[simp] theorem State.jmod_resv (s : State) (j : Nat) (f : JEntry → JEntry) : (s.jmod j f).resv = s.resv := rfl
@[simp] theorem State.jmod_herdValid (s : State) (j : Nat) (f : JEntry → JEntry) : (s.jmod j f).herdValid = s.herdValid := rfl
@[simp] theorem State.jmod_wheel (s : State) (j : Nat) (f : JEntry → JEntry) : (s.jmod j f).wheel = s.wheel := rfl
@[simp] theorem State.jmod_net (s : State) (j : Nat) (f : JEntry → JEntry) : (s.jmod j f).net = s.net := rfl
@[simp] theorem State.jmod_streams (s : State) (j : Nat) (f : JEntry → JEntry) : (s.jmod j f).streams = s.streams := rfl
@[simp] theorem State.jmod_applying (s : State) (j : Nat) (f : JEntry → JEntry) : (s.jmod j f).applying = s.applying := rfl
@[simp] theorem State.jmod_drover (s : State) (j : Nat) (f : JEntry → JEntry) : (s.jmod j f).drover = s.drover := rfl
@[simp] theorem State.jmod_sweep (s : State) (j : Nat) (f : JEntry → JEntry) : (s.jmod j f).sweep = s.sweep := rfl
@[simp] theorem State.jmod_diff (s : State) (j : Nat) (f : JEntry → JEntry) : (s.jmod j f).diff = s.diff := rfl
@[simp] theorem State.jmod_load (s : State) (j : Nat) (f : JEntry → JEntry) : (s.jmod j f).load = s.load := rfl
@[simp] theorem State.jmod_power (s : State) (j : Nat) (f : JEntry → JEntry) : (s.jmod j f).power = s.power := rfl
@[simp] theorem State.jmod_readmit (s : State) (j : Nat) (f : JEntry → JEntry) : (s.jmod j f).readmit = s.readmit := rfl
@[simp] theorem State.jmod_mirror (s : State) (j : Nat) (f : JEntry → JEntry) : (s.jmod j f).mirror = s.mirror := rfl

@[simp] theorem State.tx_pending (s : State) (t : HostTx) : (s.tx t).pending = s.pending := rfl
@[simp] theorem State.tx_freeCount (s : State) (t : HostTx) : (s.tx t).freeCount = s.freeCount := rfl
@[simp] theorem State.tx_regs (s : State) (t : HostTx) : (s.tx t).regs = s.regs := rfl
@[simp] theorem State.tx_mem (s : State) (t : HostTx) : (s.tx t).mem = s.mem := rfl
@[simp] theorem State.tx_poison (s : State) (t : HostTx) : (s.tx t).poison = s.poison := rfl
@[simp] theorem State.tx_journal (s : State) (t : HostTx) : (s.tx t).journal = s.journal := rfl
@[simp] theorem State.tx_tileMap (s : State) (t : HostTx) : (s.tx t).tileMap = s.tileMap := rfl
@[simp] theorem State.tx_mgmt (s : State) (t : HostTx) : (s.tx t).mgmt = s.mgmt := rfl
@[simp] theorem State.tx_chj (s : State) (t : HostTx) : (s.tx t).chj = s.chj := rfl
@[simp] theorem State.tx_halt (s : State) (t : HostTx) : (s.tx t).halt = s.halt := rfl
@[simp] theorem State.tx_image (s : State) (t : HostTx) : (s.tx t).image = s.image := rfl
@[simp] theorem State.tx_sections (s : State) (t : HostTx) : (s.tx t).sections = s.sections := rfl
@[simp] theorem State.tx_acceptStop (s : State) (t : HostTx) : (s.tx t).acceptStop = s.acceptStop := rfl
@[simp] theorem State.tx_holdFrom (s : State) (t : HostTx) : (s.tx t).holdFrom = s.holdFrom := rfl
@[simp] theorem State.tx_dissolved (s : State) (t : HostTx) : (s.tx t).dissolved = s.dissolved := rfl
@[simp] theorem State.tx_tier (s : State) (t : HostTx) : (s.tx t).tier = s.tier := rfl
@[simp] theorem State.tx_retired (s : State) (t : HostTx) : (s.tx t).retired = s.retired := rfl
@[simp] theorem State.tx_retireTimes (s : State) (t : HostTx) : (s.tx t).retireTimes = s.retireTimes := rfl
@[simp] theorem State.tx_arrInj (s : State) (t : HostTx) : (s.tx t).arrInj = s.arrInj := rfl
@[simp] theorem State.tx_lastDisp (s : State) (t : HostTx) : (s.tx t).lastDisp = s.lastDisp := rfl
@[simp] theorem State.tx_resv (s : State) (t : HostTx) : (s.tx t).resv = s.resv := rfl
@[simp] theorem State.tx_herdValid (s : State) (t : HostTx) : (s.tx t).herdValid = s.herdValid := rfl
@[simp] theorem State.tx_wheel (s : State) (t : HostTx) : (s.tx t).wheel = s.wheel := rfl
@[simp] theorem State.tx_net (s : State) (t : HostTx) : (s.tx t).net = s.net := rfl
@[simp] theorem State.tx_streams (s : State) (t : HostTx) : (s.tx t).streams = s.streams := rfl
@[simp] theorem State.tx_applying (s : State) (t : HostTx) : (s.tx t).applying = s.applying := rfl
@[simp] theorem State.tx_drover (s : State) (t : HostTx) : (s.tx t).drover = s.drover := rfl
@[simp] theorem State.tx_sweep (s : State) (t : HostTx) : (s.tx t).sweep = s.sweep := rfl
@[simp] theorem State.tx_diff (s : State) (t : HostTx) : (s.tx t).diff = s.diff := rfl
@[simp] theorem State.tx_load (s : State) (t : HostTx) : (s.tx t).load = s.load := rfl
@[simp] theorem State.tx_power (s : State) (t : HostTx) : (s.tx t).power = s.power := rfl
@[simp] theorem State.tx_readmit (s : State) (t : HostTx) : (s.tx t).readmit = s.readmit := rfl
@[simp] theorem State.tx_mirror (s : State) (t : HostTx) : (s.tx t).mirror = s.mirror := rfl

@[simp] theorem State.hmod_pending (s : State) (f : HostState → HostState) : (s.hmod f).pending = s.pending := rfl
@[simp] theorem State.hmod_freeCount (s : State) (f : HostState → HostState) : (s.hmod f).freeCount = s.freeCount := rfl
@[simp] theorem State.hmod_regs (s : State) (f : HostState → HostState) : (s.hmod f).regs = s.regs := rfl
@[simp] theorem State.hmod_mem (s : State) (f : HostState → HostState) : (s.hmod f).mem = s.mem := rfl
@[simp] theorem State.hmod_poison (s : State) (f : HostState → HostState) : (s.hmod f).poison = s.poison := rfl
@[simp] theorem State.hmod_journal (s : State) (f : HostState → HostState) : (s.hmod f).journal = s.journal := rfl
@[simp] theorem State.hmod_tileMap (s : State) (f : HostState → HostState) : (s.hmod f).tileMap = s.tileMap := rfl
@[simp] theorem State.hmod_host (s : State) (f : HostState → HostState) : (s.hmod f).host = f s.host := rfl
@[simp] theorem State.hmod_mgmt (s : State) (f : HostState → HostState) : (s.hmod f).mgmt = s.mgmt := rfl
@[simp] theorem State.hmod_chj (s : State) (f : HostState → HostState) : (s.hmod f).chj = s.chj := rfl
@[simp] theorem State.hmod_halt (s : State) (f : HostState → HostState) : (s.hmod f).halt = s.halt := rfl
@[simp] theorem State.hmod_image (s : State) (f : HostState → HostState) : (s.hmod f).image = s.image := rfl
@[simp] theorem State.hmod_sections (s : State) (f : HostState → HostState) : (s.hmod f).sections = s.sections := rfl
@[simp] theorem State.hmod_acceptStop (s : State) (f : HostState → HostState) : (s.hmod f).acceptStop = s.acceptStop := rfl
@[simp] theorem State.hmod_holdFrom (s : State) (f : HostState → HostState) : (s.hmod f).holdFrom = s.holdFrom := rfl
@[simp] theorem State.hmod_dissolved (s : State) (f : HostState → HostState) : (s.hmod f).dissolved = s.dissolved := rfl
@[simp] theorem State.hmod_tier (s : State) (f : HostState → HostState) : (s.hmod f).tier = s.tier := rfl
@[simp] theorem State.hmod_retired (s : State) (f : HostState → HostState) : (s.hmod f).retired = s.retired := rfl
@[simp] theorem State.hmod_retireTimes (s : State) (f : HostState → HostState) : (s.hmod f).retireTimes = s.retireTimes := rfl
@[simp] theorem State.hmod_arrInj (s : State) (f : HostState → HostState) : (s.hmod f).arrInj = s.arrInj := rfl
@[simp] theorem State.hmod_lastDisp (s : State) (f : HostState → HostState) : (s.hmod f).lastDisp = s.lastDisp := rfl
@[simp] theorem State.hmod_resv (s : State) (f : HostState → HostState) : (s.hmod f).resv = s.resv := rfl
@[simp] theorem State.hmod_herdValid (s : State) (f : HostState → HostState) : (s.hmod f).herdValid = s.herdValid := rfl
@[simp] theorem State.hmod_wheel (s : State) (f : HostState → HostState) : (s.hmod f).wheel = s.wheel := rfl
@[simp] theorem State.hmod_net (s : State) (f : HostState → HostState) : (s.hmod f).net = s.net := rfl
@[simp] theorem State.hmod_streams (s : State) (f : HostState → HostState) : (s.hmod f).streams = s.streams := rfl
@[simp] theorem State.hmod_applying (s : State) (f : HostState → HostState) : (s.hmod f).applying = s.applying := rfl
@[simp] theorem State.hmod_drover (s : State) (f : HostState → HostState) : (s.hmod f).drover = s.drover := rfl
@[simp] theorem State.hmod_sweep (s : State) (f : HostState → HostState) : (s.hmod f).sweep = s.sweep := rfl
@[simp] theorem State.hmod_diff (s : State) (f : HostState → HostState) : (s.hmod f).diff = s.diff := rfl
@[simp] theorem State.hmod_load (s : State) (f : HostState → HostState) : (s.hmod f).load = s.load := rfl
@[simp] theorem State.hmod_power (s : State) (f : HostState → HostState) : (s.hmod f).power = s.power := rfl
@[simp] theorem State.hmod_readmit (s : State) (f : HostState → HostState) : (s.hmod f).readmit = s.readmit := rfl
@[simp] theorem State.hmod_mirror (s : State) (f : HostState → HostState) : (s.hmod f).mirror = s.mirror := rfl

@[simp] theorem State.mgmod_pending (s : State) (f : MgmtState → MgmtState) : (s.mgmod f).pending = s.pending := rfl
@[simp] theorem State.mgmod_freeCount (s : State) (f : MgmtState → MgmtState) : (s.mgmod f).freeCount = s.freeCount := rfl
@[simp] theorem State.mgmod_regs (s : State) (f : MgmtState → MgmtState) : (s.mgmod f).regs = s.regs := rfl
@[simp] theorem State.mgmod_mem (s : State) (f : MgmtState → MgmtState) : (s.mgmod f).mem = s.mem := rfl
@[simp] theorem State.mgmod_poison (s : State) (f : MgmtState → MgmtState) : (s.mgmod f).poison = s.poison := rfl
@[simp] theorem State.mgmod_journal (s : State) (f : MgmtState → MgmtState) : (s.mgmod f).journal = s.journal := rfl
@[simp] theorem State.mgmod_tileMap (s : State) (f : MgmtState → MgmtState) : (s.mgmod f).tileMap = s.tileMap := rfl
@[simp] theorem State.mgmod_host (s : State) (f : MgmtState → MgmtState) : (s.mgmod f).host = s.host := rfl
@[simp] theorem State.mgmod_mgmt (s : State) (f : MgmtState → MgmtState) : (s.mgmod f).mgmt = f s.mgmt := rfl
@[simp] theorem State.mgmod_chj (s : State) (f : MgmtState → MgmtState) : (s.mgmod f).chj = s.chj := rfl
@[simp] theorem State.mgmod_halt (s : State) (f : MgmtState → MgmtState) : (s.mgmod f).halt = s.halt := rfl
@[simp] theorem State.mgmod_image (s : State) (f : MgmtState → MgmtState) : (s.mgmod f).image = s.image := rfl
@[simp] theorem State.mgmod_sections (s : State) (f : MgmtState → MgmtState) : (s.mgmod f).sections = s.sections := rfl
@[simp] theorem State.mgmod_acceptStop (s : State) (f : MgmtState → MgmtState) : (s.mgmod f).acceptStop = s.acceptStop := rfl
@[simp] theorem State.mgmod_holdFrom (s : State) (f : MgmtState → MgmtState) : (s.mgmod f).holdFrom = s.holdFrom := rfl
@[simp] theorem State.mgmod_dissolved (s : State) (f : MgmtState → MgmtState) : (s.mgmod f).dissolved = s.dissolved := rfl
@[simp] theorem State.mgmod_tier (s : State) (f : MgmtState → MgmtState) : (s.mgmod f).tier = s.tier := rfl
@[simp] theorem State.mgmod_retired (s : State) (f : MgmtState → MgmtState) : (s.mgmod f).retired = s.retired := rfl
@[simp] theorem State.mgmod_retireTimes (s : State) (f : MgmtState → MgmtState) : (s.mgmod f).retireTimes = s.retireTimes := rfl
@[simp] theorem State.mgmod_arrInj (s : State) (f : MgmtState → MgmtState) : (s.mgmod f).arrInj = s.arrInj := rfl
@[simp] theorem State.mgmod_lastDisp (s : State) (f : MgmtState → MgmtState) : (s.mgmod f).lastDisp = s.lastDisp := rfl
@[simp] theorem State.mgmod_resv (s : State) (f : MgmtState → MgmtState) : (s.mgmod f).resv = s.resv := rfl
@[simp] theorem State.mgmod_herdValid (s : State) (f : MgmtState → MgmtState) : (s.mgmod f).herdValid = s.herdValid := rfl
@[simp] theorem State.mgmod_wheel (s : State) (f : MgmtState → MgmtState) : (s.mgmod f).wheel = s.wheel := rfl
@[simp] theorem State.mgmod_net (s : State) (f : MgmtState → MgmtState) : (s.mgmod f).net = s.net := rfl
@[simp] theorem State.mgmod_streams (s : State) (f : MgmtState → MgmtState) : (s.mgmod f).streams = s.streams := rfl
@[simp] theorem State.mgmod_applying (s : State) (f : MgmtState → MgmtState) : (s.mgmod f).applying = s.applying := rfl
@[simp] theorem State.mgmod_drover (s : State) (f : MgmtState → MgmtState) : (s.mgmod f).drover = s.drover := rfl
@[simp] theorem State.mgmod_sweep (s : State) (f : MgmtState → MgmtState) : (s.mgmod f).sweep = s.sweep := rfl
@[simp] theorem State.mgmod_diff (s : State) (f : MgmtState → MgmtState) : (s.mgmod f).diff = s.diff := rfl
@[simp] theorem State.mgmod_load (s : State) (f : MgmtState → MgmtState) : (s.mgmod f).load = s.load := rfl
@[simp] theorem State.mgmod_power (s : State) (f : MgmtState → MgmtState) : (s.mgmod f).power = s.power := rfl
@[simp] theorem State.mgmod_readmit (s : State) (f : MgmtState → MgmtState) : (s.mgmod f).readmit = s.readmit := rfl
@[simp] theorem State.mgmod_mirror (s : State) (f : MgmtState → MgmtState) : (s.mgmod f).mirror = s.mirror := rfl

@[simp] theorem State.tmod_pending (s : State) (f : TierState → TierState) : (s.tmod f).pending = s.pending := rfl
@[simp] theorem State.tmod_freeCount (s : State) (f : TierState → TierState) : (s.tmod f).freeCount = s.freeCount := rfl
@[simp] theorem State.tmod_regs (s : State) (f : TierState → TierState) : (s.tmod f).regs = s.regs := rfl
@[simp] theorem State.tmod_mem (s : State) (f : TierState → TierState) : (s.tmod f).mem = s.mem := rfl
@[simp] theorem State.tmod_poison (s : State) (f : TierState → TierState) : (s.tmod f).poison = s.poison := rfl
@[simp] theorem State.tmod_journal (s : State) (f : TierState → TierState) : (s.tmod f).journal = s.journal := rfl
@[simp] theorem State.tmod_tileMap (s : State) (f : TierState → TierState) : (s.tmod f).tileMap = s.tileMap := rfl
@[simp] theorem State.tmod_host (s : State) (f : TierState → TierState) : (s.tmod f).host = s.host := rfl
@[simp] theorem State.tmod_mgmt (s : State) (f : TierState → TierState) : (s.tmod f).mgmt = s.mgmt := rfl
@[simp] theorem State.tmod_chj (s : State) (f : TierState → TierState) : (s.tmod f).chj = s.chj := rfl
@[simp] theorem State.tmod_halt (s : State) (f : TierState → TierState) : (s.tmod f).halt = s.halt := rfl
@[simp] theorem State.tmod_image (s : State) (f : TierState → TierState) : (s.tmod f).image = s.image := rfl
@[simp] theorem State.tmod_sections (s : State) (f : TierState → TierState) : (s.tmod f).sections = s.sections := rfl
@[simp] theorem State.tmod_acceptStop (s : State) (f : TierState → TierState) : (s.tmod f).acceptStop = s.acceptStop := rfl
@[simp] theorem State.tmod_holdFrom (s : State) (f : TierState → TierState) : (s.tmod f).holdFrom = s.holdFrom := rfl
@[simp] theorem State.tmod_dissolved (s : State) (f : TierState → TierState) : (s.tmod f).dissolved = s.dissolved := rfl
@[simp] theorem State.tmod_tier (s : State) (f : TierState → TierState) : (s.tmod f).tier = f s.tier := rfl
@[simp] theorem State.tmod_retired (s : State) (f : TierState → TierState) : (s.tmod f).retired = s.retired := rfl
@[simp] theorem State.tmod_retireTimes (s : State) (f : TierState → TierState) : (s.tmod f).retireTimes = s.retireTimes := rfl
@[simp] theorem State.tmod_arrInj (s : State) (f : TierState → TierState) : (s.tmod f).arrInj = s.arrInj := rfl
@[simp] theorem State.tmod_lastDisp (s : State) (f : TierState → TierState) : (s.tmod f).lastDisp = s.lastDisp := rfl
@[simp] theorem State.tmod_resv (s : State) (f : TierState → TierState) : (s.tmod f).resv = s.resv := rfl
@[simp] theorem State.tmod_herdValid (s : State) (f : TierState → TierState) : (s.tmod f).herdValid = s.herdValid := rfl
@[simp] theorem State.tmod_wheel (s : State) (f : TierState → TierState) : (s.tmod f).wheel = s.wheel := rfl
@[simp] theorem State.tmod_net (s : State) (f : TierState → TierState) : (s.tmod f).net = s.net := rfl
@[simp] theorem State.tmod_streams (s : State) (f : TierState → TierState) : (s.tmod f).streams = s.streams := rfl
@[simp] theorem State.tmod_applying (s : State) (f : TierState → TierState) : (s.tmod f).applying = s.applying := rfl
@[simp] theorem State.tmod_drover (s : State) (f : TierState → TierState) : (s.tmod f).drover = s.drover := rfl
@[simp] theorem State.tmod_sweep (s : State) (f : TierState → TierState) : (s.tmod f).sweep = s.sweep := rfl
@[simp] theorem State.tmod_diff (s : State) (f : TierState → TierState) : (s.tmod f).diff = s.diff := rfl
@[simp] theorem State.tmod_load (s : State) (f : TierState → TierState) : (s.tmod f).load = s.load := rfl
@[simp] theorem State.tmod_power (s : State) (f : TierState → TierState) : (s.tmod f).power = s.power := rfl
@[simp] theorem State.tmod_readmit (s : State) (f : TierState → TierState) : (s.tmod f).readmit = s.readmit := rfl
@[simp] theorem State.tmod_mirror (s : State) (f : TierState → TierState) : (s.tmod f).mirror = s.mirror := rfl

@[simp] theorem State.wmod_pending (s : State) (f : WheelState → WheelState) : (s.wmod f).pending = s.pending := rfl
@[simp] theorem State.wmod_freeCount (s : State) (f : WheelState → WheelState) : (s.wmod f).freeCount = s.freeCount := rfl
@[simp] theorem State.wmod_regs (s : State) (f : WheelState → WheelState) : (s.wmod f).regs = s.regs := rfl
@[simp] theorem State.wmod_mem (s : State) (f : WheelState → WheelState) : (s.wmod f).mem = s.mem := rfl
@[simp] theorem State.wmod_poison (s : State) (f : WheelState → WheelState) : (s.wmod f).poison = s.poison := rfl
@[simp] theorem State.wmod_journal (s : State) (f : WheelState → WheelState) : (s.wmod f).journal = s.journal := rfl
@[simp] theorem State.wmod_tileMap (s : State) (f : WheelState → WheelState) : (s.wmod f).tileMap = s.tileMap := rfl
@[simp] theorem State.wmod_host (s : State) (f : WheelState → WheelState) : (s.wmod f).host = s.host := rfl
@[simp] theorem State.wmod_mgmt (s : State) (f : WheelState → WheelState) : (s.wmod f).mgmt = s.mgmt := rfl
@[simp] theorem State.wmod_chj (s : State) (f : WheelState → WheelState) : (s.wmod f).chj = s.chj := rfl
@[simp] theorem State.wmod_halt (s : State) (f : WheelState → WheelState) : (s.wmod f).halt = s.halt := rfl
@[simp] theorem State.wmod_image (s : State) (f : WheelState → WheelState) : (s.wmod f).image = s.image := rfl
@[simp] theorem State.wmod_sections (s : State) (f : WheelState → WheelState) : (s.wmod f).sections = s.sections := rfl
@[simp] theorem State.wmod_acceptStop (s : State) (f : WheelState → WheelState) : (s.wmod f).acceptStop = s.acceptStop := rfl
@[simp] theorem State.wmod_holdFrom (s : State) (f : WheelState → WheelState) : (s.wmod f).holdFrom = s.holdFrom := rfl
@[simp] theorem State.wmod_dissolved (s : State) (f : WheelState → WheelState) : (s.wmod f).dissolved = s.dissolved := rfl
@[simp] theorem State.wmod_tier (s : State) (f : WheelState → WheelState) : (s.wmod f).tier = s.tier := rfl
@[simp] theorem State.wmod_retired (s : State) (f : WheelState → WheelState) : (s.wmod f).retired = s.retired := rfl
@[simp] theorem State.wmod_retireTimes (s : State) (f : WheelState → WheelState) : (s.wmod f).retireTimes = s.retireTimes := rfl
@[simp] theorem State.wmod_arrInj (s : State) (f : WheelState → WheelState) : (s.wmod f).arrInj = s.arrInj := rfl
@[simp] theorem State.wmod_lastDisp (s : State) (f : WheelState → WheelState) : (s.wmod f).lastDisp = s.lastDisp := rfl
@[simp] theorem State.wmod_resv (s : State) (f : WheelState → WheelState) : (s.wmod f).resv = s.resv := rfl
@[simp] theorem State.wmod_herdValid (s : State) (f : WheelState → WheelState) : (s.wmod f).herdValid = s.herdValid := rfl
@[simp] theorem State.wmod_wheel (s : State) (f : WheelState → WheelState) : (s.wmod f).wheel = f s.wheel := rfl
@[simp] theorem State.wmod_net (s : State) (f : WheelState → WheelState) : (s.wmod f).net = s.net := rfl
@[simp] theorem State.wmod_streams (s : State) (f : WheelState → WheelState) : (s.wmod f).streams = s.streams := rfl
@[simp] theorem State.wmod_applying (s : State) (f : WheelState → WheelState) : (s.wmod f).applying = s.applying := rfl
@[simp] theorem State.wmod_drover (s : State) (f : WheelState → WheelState) : (s.wmod f).drover = s.drover := rfl
@[simp] theorem State.wmod_sweep (s : State) (f : WheelState → WheelState) : (s.wmod f).sweep = s.sweep := rfl
@[simp] theorem State.wmod_diff (s : State) (f : WheelState → WheelState) : (s.wmod f).diff = s.diff := rfl
@[simp] theorem State.wmod_load (s : State) (f : WheelState → WheelState) : (s.wmod f).load = s.load := rfl
@[simp] theorem State.wmod_power (s : State) (f : WheelState → WheelState) : (s.wmod f).power = s.power := rfl
@[simp] theorem State.wmod_readmit (s : State) (f : WheelState → WheelState) : (s.wmod f).readmit = s.readmit := rfl
@[simp] theorem State.wmod_mirror (s : State) (f : WheelState → WheelState) : (s.wmod f).mirror = s.mirror := rfl

@[simp] theorem State.nmod_pending (s : State) (f : NetState → NetState) : (s.nmod f).pending = s.pending := rfl
@[simp] theorem State.nmod_freeCount (s : State) (f : NetState → NetState) : (s.nmod f).freeCount = s.freeCount := rfl
@[simp] theorem State.nmod_regs (s : State) (f : NetState → NetState) : (s.nmod f).regs = s.regs := rfl
@[simp] theorem State.nmod_mem (s : State) (f : NetState → NetState) : (s.nmod f).mem = s.mem := rfl
@[simp] theorem State.nmod_poison (s : State) (f : NetState → NetState) : (s.nmod f).poison = s.poison := rfl
@[simp] theorem State.nmod_journal (s : State) (f : NetState → NetState) : (s.nmod f).journal = s.journal := rfl
@[simp] theorem State.nmod_tileMap (s : State) (f : NetState → NetState) : (s.nmod f).tileMap = s.tileMap := rfl
@[simp] theorem State.nmod_host (s : State) (f : NetState → NetState) : (s.nmod f).host = s.host := rfl
@[simp] theorem State.nmod_mgmt (s : State) (f : NetState → NetState) : (s.nmod f).mgmt = s.mgmt := rfl
@[simp] theorem State.nmod_chj (s : State) (f : NetState → NetState) : (s.nmod f).chj = s.chj := rfl
@[simp] theorem State.nmod_halt (s : State) (f : NetState → NetState) : (s.nmod f).halt = s.halt := rfl
@[simp] theorem State.nmod_image (s : State) (f : NetState → NetState) : (s.nmod f).image = s.image := rfl
@[simp] theorem State.nmod_sections (s : State) (f : NetState → NetState) : (s.nmod f).sections = s.sections := rfl
@[simp] theorem State.nmod_acceptStop (s : State) (f : NetState → NetState) : (s.nmod f).acceptStop = s.acceptStop := rfl
@[simp] theorem State.nmod_holdFrom (s : State) (f : NetState → NetState) : (s.nmod f).holdFrom = s.holdFrom := rfl
@[simp] theorem State.nmod_dissolved (s : State) (f : NetState → NetState) : (s.nmod f).dissolved = s.dissolved := rfl
@[simp] theorem State.nmod_tier (s : State) (f : NetState → NetState) : (s.nmod f).tier = s.tier := rfl
@[simp] theorem State.nmod_retired (s : State) (f : NetState → NetState) : (s.nmod f).retired = s.retired := rfl
@[simp] theorem State.nmod_retireTimes (s : State) (f : NetState → NetState) : (s.nmod f).retireTimes = s.retireTimes := rfl
@[simp] theorem State.nmod_arrInj (s : State) (f : NetState → NetState) : (s.nmod f).arrInj = s.arrInj := rfl
@[simp] theorem State.nmod_lastDisp (s : State) (f : NetState → NetState) : (s.nmod f).lastDisp = s.lastDisp := rfl
@[simp] theorem State.nmod_resv (s : State) (f : NetState → NetState) : (s.nmod f).resv = s.resv := rfl
@[simp] theorem State.nmod_herdValid (s : State) (f : NetState → NetState) : (s.nmod f).herdValid = s.herdValid := rfl
@[simp] theorem State.nmod_wheel (s : State) (f : NetState → NetState) : (s.nmod f).wheel = s.wheel := rfl
@[simp] theorem State.nmod_net (s : State) (f : NetState → NetState) : (s.nmod f).net = f s.net := rfl
@[simp] theorem State.nmod_streams (s : State) (f : NetState → NetState) : (s.nmod f).streams = s.streams := rfl
@[simp] theorem State.nmod_applying (s : State) (f : NetState → NetState) : (s.nmod f).applying = s.applying := rfl
@[simp] theorem State.nmod_drover (s : State) (f : NetState → NetState) : (s.nmod f).drover = s.drover := rfl
@[simp] theorem State.nmod_sweep (s : State) (f : NetState → NetState) : (s.nmod f).sweep = s.sweep := rfl
@[simp] theorem State.nmod_diff (s : State) (f : NetState → NetState) : (s.nmod f).diff = s.diff := rfl
@[simp] theorem State.nmod_load (s : State) (f : NetState → NetState) : (s.nmod f).load = s.load := rfl
@[simp] theorem State.nmod_power (s : State) (f : NetState → NetState) : (s.nmod f).power = s.power := rfl
@[simp] theorem State.nmod_readmit (s : State) (f : NetState → NetState) : (s.nmod f).readmit = s.readmit := rfl
@[simp] theorem State.nmod_mirror (s : State) (f : NetState → NetState) : (s.nmod f).mirror = s.mirror := rfl

@[simp] theorem State.dmod_pending (s : State) (f : DiffState → DiffState) : (s.dmod f).pending = s.pending := rfl
@[simp] theorem State.dmod_freeCount (s : State) (f : DiffState → DiffState) : (s.dmod f).freeCount = s.freeCount := rfl
@[simp] theorem State.dmod_regs (s : State) (f : DiffState → DiffState) : (s.dmod f).regs = s.regs := rfl
@[simp] theorem State.dmod_mem (s : State) (f : DiffState → DiffState) : (s.dmod f).mem = s.mem := rfl
@[simp] theorem State.dmod_poison (s : State) (f : DiffState → DiffState) : (s.dmod f).poison = s.poison := rfl
@[simp] theorem State.dmod_journal (s : State) (f : DiffState → DiffState) : (s.dmod f).journal = s.journal := rfl
@[simp] theorem State.dmod_tileMap (s : State) (f : DiffState → DiffState) : (s.dmod f).tileMap = s.tileMap := rfl
@[simp] theorem State.dmod_host (s : State) (f : DiffState → DiffState) : (s.dmod f).host = s.host := rfl
@[simp] theorem State.dmod_mgmt (s : State) (f : DiffState → DiffState) : (s.dmod f).mgmt = s.mgmt := rfl
@[simp] theorem State.dmod_chj (s : State) (f : DiffState → DiffState) : (s.dmod f).chj = s.chj := rfl
@[simp] theorem State.dmod_halt (s : State) (f : DiffState → DiffState) : (s.dmod f).halt = s.halt := rfl
@[simp] theorem State.dmod_image (s : State) (f : DiffState → DiffState) : (s.dmod f).image = s.image := rfl
@[simp] theorem State.dmod_sections (s : State) (f : DiffState → DiffState) : (s.dmod f).sections = s.sections := rfl
@[simp] theorem State.dmod_acceptStop (s : State) (f : DiffState → DiffState) : (s.dmod f).acceptStop = s.acceptStop := rfl
@[simp] theorem State.dmod_holdFrom (s : State) (f : DiffState → DiffState) : (s.dmod f).holdFrom = s.holdFrom := rfl
@[simp] theorem State.dmod_dissolved (s : State) (f : DiffState → DiffState) : (s.dmod f).dissolved = s.dissolved := rfl
@[simp] theorem State.dmod_tier (s : State) (f : DiffState → DiffState) : (s.dmod f).tier = s.tier := rfl
@[simp] theorem State.dmod_retired (s : State) (f : DiffState → DiffState) : (s.dmod f).retired = s.retired := rfl
@[simp] theorem State.dmod_retireTimes (s : State) (f : DiffState → DiffState) : (s.dmod f).retireTimes = s.retireTimes := rfl
@[simp] theorem State.dmod_arrInj (s : State) (f : DiffState → DiffState) : (s.dmod f).arrInj = s.arrInj := rfl
@[simp] theorem State.dmod_lastDisp (s : State) (f : DiffState → DiffState) : (s.dmod f).lastDisp = s.lastDisp := rfl
@[simp] theorem State.dmod_resv (s : State) (f : DiffState → DiffState) : (s.dmod f).resv = s.resv := rfl
@[simp] theorem State.dmod_herdValid (s : State) (f : DiffState → DiffState) : (s.dmod f).herdValid = s.herdValid := rfl
@[simp] theorem State.dmod_wheel (s : State) (f : DiffState → DiffState) : (s.dmod f).wheel = s.wheel := rfl
@[simp] theorem State.dmod_net (s : State) (f : DiffState → DiffState) : (s.dmod f).net = s.net := rfl
@[simp] theorem State.dmod_streams (s : State) (f : DiffState → DiffState) : (s.dmod f).streams = s.streams := rfl
@[simp] theorem State.dmod_applying (s : State) (f : DiffState → DiffState) : (s.dmod f).applying = s.applying := rfl
@[simp] theorem State.dmod_drover (s : State) (f : DiffState → DiffState) : (s.dmod f).drover = s.drover := rfl
@[simp] theorem State.dmod_sweep (s : State) (f : DiffState → DiffState) : (s.dmod f).sweep = s.sweep := rfl
@[simp] theorem State.dmod_diff (s : State) (f : DiffState → DiffState) : (s.dmod f).diff = f s.diff := rfl
@[simp] theorem State.dmod_load (s : State) (f : DiffState → DiffState) : (s.dmod f).load = s.load := rfl
@[simp] theorem State.dmod_power (s : State) (f : DiffState → DiffState) : (s.dmod f).power = s.power := rfl
@[simp] theorem State.dmod_readmit (s : State) (f : DiffState → DiffState) : (s.dmod f).readmit = s.readmit := rfl
@[simp] theorem State.dmod_mirror (s : State) (f : DiffState → DiffState) : (s.dmod f).mirror = s.mirror := rfl

@[simp] theorem State.pwmod_pending (s : State) (f : PowerState → PowerState) : (s.pwmod f).pending = s.pending := rfl
@[simp] theorem State.pwmod_freeCount (s : State) (f : PowerState → PowerState) : (s.pwmod f).freeCount = s.freeCount := rfl
@[simp] theorem State.pwmod_regs (s : State) (f : PowerState → PowerState) : (s.pwmod f).regs = s.regs := rfl
@[simp] theorem State.pwmod_mem (s : State) (f : PowerState → PowerState) : (s.pwmod f).mem = s.mem := rfl
@[simp] theorem State.pwmod_poison (s : State) (f : PowerState → PowerState) : (s.pwmod f).poison = s.poison := rfl
@[simp] theorem State.pwmod_journal (s : State) (f : PowerState → PowerState) : (s.pwmod f).journal = s.journal := rfl
@[simp] theorem State.pwmod_tileMap (s : State) (f : PowerState → PowerState) : (s.pwmod f).tileMap = s.tileMap := rfl
@[simp] theorem State.pwmod_host (s : State) (f : PowerState → PowerState) : (s.pwmod f).host = s.host := rfl
@[simp] theorem State.pwmod_mgmt (s : State) (f : PowerState → PowerState) : (s.pwmod f).mgmt = s.mgmt := rfl
@[simp] theorem State.pwmod_chj (s : State) (f : PowerState → PowerState) : (s.pwmod f).chj = s.chj := rfl
@[simp] theorem State.pwmod_halt (s : State) (f : PowerState → PowerState) : (s.pwmod f).halt = s.halt := rfl
@[simp] theorem State.pwmod_image (s : State) (f : PowerState → PowerState) : (s.pwmod f).image = s.image := rfl
@[simp] theorem State.pwmod_sections (s : State) (f : PowerState → PowerState) : (s.pwmod f).sections = s.sections := rfl
@[simp] theorem State.pwmod_acceptStop (s : State) (f : PowerState → PowerState) : (s.pwmod f).acceptStop = s.acceptStop := rfl
@[simp] theorem State.pwmod_holdFrom (s : State) (f : PowerState → PowerState) : (s.pwmod f).holdFrom = s.holdFrom := rfl
@[simp] theorem State.pwmod_dissolved (s : State) (f : PowerState → PowerState) : (s.pwmod f).dissolved = s.dissolved := rfl
@[simp] theorem State.pwmod_tier (s : State) (f : PowerState → PowerState) : (s.pwmod f).tier = s.tier := rfl
@[simp] theorem State.pwmod_retired (s : State) (f : PowerState → PowerState) : (s.pwmod f).retired = s.retired := rfl
@[simp] theorem State.pwmod_retireTimes (s : State) (f : PowerState → PowerState) : (s.pwmod f).retireTimes = s.retireTimes := rfl
@[simp] theorem State.pwmod_arrInj (s : State) (f : PowerState → PowerState) : (s.pwmod f).arrInj = s.arrInj := rfl
@[simp] theorem State.pwmod_lastDisp (s : State) (f : PowerState → PowerState) : (s.pwmod f).lastDisp = s.lastDisp := rfl
@[simp] theorem State.pwmod_resv (s : State) (f : PowerState → PowerState) : (s.pwmod f).resv = s.resv := rfl
@[simp] theorem State.pwmod_herdValid (s : State) (f : PowerState → PowerState) : (s.pwmod f).herdValid = s.herdValid := rfl
@[simp] theorem State.pwmod_wheel (s : State) (f : PowerState → PowerState) : (s.pwmod f).wheel = s.wheel := rfl
@[simp] theorem State.pwmod_net (s : State) (f : PowerState → PowerState) : (s.pwmod f).net = s.net := rfl
@[simp] theorem State.pwmod_streams (s : State) (f : PowerState → PowerState) : (s.pwmod f).streams = s.streams := rfl
@[simp] theorem State.pwmod_applying (s : State) (f : PowerState → PowerState) : (s.pwmod f).applying = s.applying := rfl
@[simp] theorem State.pwmod_drover (s : State) (f : PowerState → PowerState) : (s.pwmod f).drover = s.drover := rfl
@[simp] theorem State.pwmod_sweep (s : State) (f : PowerState → PowerState) : (s.pwmod f).sweep = s.sweep := rfl
@[simp] theorem State.pwmod_diff (s : State) (f : PowerState → PowerState) : (s.pwmod f).diff = s.diff := rfl
@[simp] theorem State.pwmod_load (s : State) (f : PowerState → PowerState) : (s.pwmod f).load = s.load := rfl
@[simp] theorem State.pwmod_power (s : State) (f : PowerState → PowerState) : (s.pwmod f).power = f s.power := rfl
@[simp] theorem State.pwmod_readmit (s : State) (f : PowerState → PowerState) : (s.pwmod f).readmit = s.readmit := rfl
@[simp] theorem State.pwmod_mirror (s : State) (f : PowerState → PowerState) : (s.pwmod f).mirror = s.mirror := rfl

end Sys2Proof.Machine
end

