-- ==== Sys2Proof/Laws/Within.lean ====
section
/-! SUPPORT. What a step may change: the relation every operation is bounded by, and its algebra. -/

set_option Elab.async false

namespace Sys2Proof.Machine

/-- `t` comes from `s` by changes of the parts in the bit set `m` alone, with the queue as it was and the canonical forms kept. -/
structure Within (m : Nat) (s t : State) : Prop where
  queue : t.pending = s.pending
  canonical : s.Canonical → t.Canonical
  same : ∀ p : Part, m.testBit p.num = false → SamePart p s t

/-- The state of an optional state, `s` when there is none. -/
def orSame {α : Type} (s : State) (f : α → State) : Option α → State
  | some x => f x
  | none => s

/-- The state of an outcome, `s` when it is not a next state. -/
def nextOr (s : State) : Host.Outcome State Fault Refusal → State
  | .next t => t
  | _ => s

theorem Within.refl (m : Nat) (s : State) : Within m s s := ⟨rfl, id, fun p _ => by cases p <;> rfl⟩

theorem SamePart.trans {p : Part} {a b c : State} (h : SamePart p a b) (k : SamePart p b c) : SamePart p a c := by
  cases p <;> exact Eq.trans k h

theorem Within.mono {m n : Nat} {s t : State} (h : Within m s t) (hm : m ||| n = n) : Within n s t where
  queue := h.queue
  canonical := h.canonical
  same p hp := h.same p (by rw [← hm, Nat.testBit_or] at hp; exact (Bool.or_eq_false_iff.mp hp).1)

theorem Within.trans {m : Nat} {s t u : State} (h : Within m s t) (k : Within m t u) : Within m s u where
  queue := k.queue.trans h.queue
  canonical c := k.canonical (h.canonical c)
  same p hp := (h.same p hp).trans (k.same p hp)

/-- One more operation. -/
theorem Within.step {m n : Nat} {s a t : State} (h : Within n s a) (k : Within m a t) (hm : m ||| n = n := by decide) : Within n s t := h.trans (k.mono hm)

/-- A change of the parts in `m` by a record update that leaves the queue, the registers, memory, the poison record and the journal alone. -/
theorem Within.parts {m : Nat} {a t : State} (h : ∀ p : Part, m.testBit p.num = true ∨ SamePart p a t) (hq : t.pending = a.pending)
    (hr : t.regs = a.regs) (hm : t.mem = a.mem) (hp : t.poison = a.poison) (hj : t.journal = a.journal) : Within m a t where
  queue := hq
  canonical c := by simp only [State.Canonical] at *; rw [hr, hm, hp, hj]; exact c
  same p hn := by cases h p with
    | inl x => rw [hn] at x; cases x
    | inr x => exact x

/-- One more record update, of the parts in `m` alone. -/
theorem Within.upd {n : Nat} {s t : State} (a : State) (m : Nat) (k : Within n s a) (hm : m ||| n = n := by decide)
    (h : ∀ p : Part, m.testBit p.num = true ∨ SamePart p a t := by intro p; cases p <;> first | exact Or.inr rfl | exact Or.inl (by decide))
    (hq : t.pending = a.pending := by rfl) (hr : t.regs = a.regs := by rfl) (hm' : t.mem = a.mem := by rfl) (hp : t.poison = a.poison := by rfl)
    (hj : t.journal = a.journal := by rfl) : Within n s t := k.step (.parts h hq hr hm' hp hj) hm

theorem Within.ite {m : Nat} {s a b : State} {c : Prop} [Decidable c] (h : Within m s a) (k : Within m s b) : Within m s (if c then a else b) := by
  split <;> assumption

theorem Within.ite_on {α : Type} {w : α → State} {m : Nat} {s : State} {a b : α} {c : Prop} [Decidable c] (h : Within m s (w a)) (k : Within m s (w b)) :
    Within m s (w (if c then a else b)) := by
  split <;> assumption

theorem Within.foldl {α : Type} {m : Nat} {s a : State} {f : State → α → State} {l : List α} (h : Within m s a) (k : ∀ t x, Within m t (f t x)) :
    Within m s (l.foldl f a) := by
  induction l generalizing a with
  | nil => exact h
  | cons x r ih => exact ih (h.trans (k a x))

theorem Within.of_snd {α : Type} {m : Nat} {s t : State} {x : α × State} {a : α} (e : x = (a, t)) (h : Within m s x.2) : Within m s t := by
  subst e; exact h

theorem Within.of_fst {α : Type} {m : Nat} {s t : State} {x : State × α} {a : α} (e : x = (t, a)) (h : Within m s x.1) : Within m s t := by
  subst e; exact h

theorem Within.of_some {m : Nat} {s b t : State} {x : Option State} (e : x = some t) (h : Within m s (orSame b id x)) : Within m s t := by
  subst e; exact h

theorem Within.of_someSnd {α : Type} {m : Nat} {s b t : State} {a : α} {x : Option (α × State)} (e : x = some (a, t)) (h : Within m s (orSame b Prod.snd x)) :
    Within m s t := by
  subst e; exact h

theorem Within.mk_snd {α : Type} {m : Nat} {s t : State} {a : α} (h : Within m s t) : Within m s (Prod.snd (a, t)) := h

theorem Within.mk_fst {α : Type} {m : Nat} {s t : State} {a : α} (h : Within m s t) : Within m s (Prod.fst (t, a)) := h

theorem Within.mk_some {m : Nat} {s b t : State} (h : Within m s t) : Within m s (orSame b id (some t)) := h

theorem Within.mk_someSnd {α : Type} {m : Nat} {s b t : State} {a : α} (h : Within m s t) : Within m s (orSame b Prod.snd (some (a, t))) := h

theorem Within.mk_id {m : Nat} {s t : State} (h : Within m s t) : Within m s (id t) := h

theorem Within.mk_none {α : Type} {m : Nat} {s b : State} {f : α → State} (h : Within m s b) : Within m s (orSame b f none) := h

theorem Within.mk_next {m : Nat} {s b t : State} (h : Within m s t) : Within m s (nextOr b (.next t)) := h

theorem Within.outStep {m n : Nat} {s a b : State} {o : Host.Outcome State Fault Refusal} (h : Within n s a) (k : Within m a (nextOr a o)) (hb : Within n s b)
    (hm : m ||| n = n := by decide) : Within n s (nextOr b o) := by
  cases o with
  | next t => exact h.step k hm
  | _ => exact hb

theorem Within.getD {m : Nat} {s a : State} {o : Option State} (h : Within m s a) (k : Within m s (orSame a id o)) : Within m s (o.getD a) := by
  cases o with
  | none => exact h
  | some x => exact k

theorem Within.map {α β : Type} {m : Nat} {s b : State} {f : α → β} {w : β → State} {o : Option α} (h : Within m s b) (k : ∀ x, o = some x → Within m s (w (f x))) :
    Within m s (orSame b w (o.map f)) := by
  cases o with
  | none => exact h
  | some x => exact k x rfl

/-- An optional state taken from a state reached already. -/
theorem Within.orStep {α : Type} {m n : Nat} {s a b : State} {f : α → State} {o : Option α} (h : Within n s a) (k : Within m a (orSame a f o)) (hb : Within n s b)
    (hm : m ||| n = n := by decide) : Within n s (orSame b f o) := by
  cases o with
  | none => exact hb
  | some x => exact h.step k hm

end Sys2Proof.Machine
end

