-- ==== Sys2Proof/Laws/Prims.lean ====
section
/-! SUPPORT. What the operations that write registers, memory and the poison record may change; the operations that take another operation as an argument. -/

set_option Elab.async false

namespace Sys2Proof.Machine

/-- A change of the parts in `m` that keeps the queue and the canonical forms. -/
theorem Within.forms {m : Nat} {a t : State} (h : ∀ p : Part, m.testBit p.num = true ∨ SamePart p a t) (hq : t.pending = a.pending)
    (hc : a.Canonical → t.Canonical) : Within m a t where
  queue := hq
  canonical := hc
  same p hn := by cases h p with
    | inl x => rw [hn] at x; cases x
    | inr x => exact x

theorem within_setReg (s : State) (a : Nat) (w : Word) : Within 2 s (s.setReg a w) :=
  Within.forms (fun p => by cases p <;> first | exact Or.inr rfl | exact Or.inl (by decide)) rfl (fun h => ⟨h.1, regsPut_wf a w h.2.1, h.2.2⟩)

theorem within_resetRegs (s : State) (p : Nat → Bool) : Within 2 s (s.resetRegs p) :=
  Within.forms (fun p => by cases p <;> first | exact Or.inr rfl | exact Or.inl (by decide)) rfl (fun h => ⟨h.1, regsFilter_wf _ h.2.1, h.2.2⟩)

theorem within_wbs (s : State) (a : Nat) (bs : List Byte) : Within 4 s (s.wbs a bs) :=
  Within.forms (fun p => by cases p <;> first | exact Or.inr rfl | exact Or.inl (by decide)) rfl (fun h => ⟨memPuts_wf a bs h.1, h.2⟩)

theorem within_poisonGranule (s : State) (g : Nat) : Within 8 s (s.poisonGranule g) :=
  Within.forms (fun p => by cases p <;> first | exact Or.inr rfl | exact Or.inl (by decide)) rfl (fun h => ⟨h.1, h.2.1, nrises_nadd g h.2.2.1, h.2.2.2⟩)

theorem within_cleanse (s : State) (a n : Nat) : Within 8 s (s.cleanse a n) :=
  Within.forms (fun p => by cases p <;> first | exact Or.inr rfl | exact Or.inl (by decide)) rfl (fun h => ⟨h.1, h.2.1, nrises_filter _ h.2.2.1, h.2.2.2⟩)

theorem within_clearArea (s : State) (a n : Nat) : Within 12 s (s.clearArea a n) :=
  Within.forms (fun p => by cases p <;> first | exact Or.inr rfl | exact Or.inl (by decide)) rfl
    (fun h => ⟨memFilter_wf _ h.1, h.2.1, nrises_filter _ h.2.2.1, h.2.2.2⟩)

theorem within_copyArea (s : State) (src dst n : Nat) : Within 12 s (s.copyArea src dst n) :=
  Within.forms (fun p => by cases p <;> first | exact Or.inr rfl | exact Or.inl (by decide)) rfl
    (fun h => ⟨memFold_wf _ _ _ (memFilter_wf _ h.1), h.2.1, naddFold_rises _ _ (nrises_filter _ h.2.2.1), h.2.2.2⟩)

theorem within_jmod (s : State) (j : Nat) (f : JEntry → JEntry) : Within 16 s (s.jmod j f) :=
  Within.forms (fun p => by cases p <;> first | exact Or.inr rfl | exact Or.inl (by decide)) rfl (fun h => ⟨h.1, h.2.1, h.2.2.1, srises_smodify _ _ h.2.2.2⟩)

theorem within_jdel (s : State) (j : Nat) : Within 16 s (s.jdel j) :=
  Within.forms (fun p => by cases p <;> first | exact Or.inr rfl | exact Or.inl (by decide)) rfl (fun h => ⟨h.1, h.2.1, h.2.2.1, srises_serase _ h.2.2.2⟩)

theorem within_jput (s : State) (j : Nat) (e : JEntry) : Within 16 s { s with journal := sinsert s.journal j e } :=
  Within.forms (fun p => by cases p <;> first | exact Or.inr rfl | exact Or.inl (by decide)) rfl (fun h => ⟨h.1, h.2.1, h.2.2.1, srises_sinsert _ _ _ h.2.2.2⟩)

/-- The state after `s.replaceRows new` differs from `s` where `new` does, and in memory and the poison record. -/
theorem within_replaceRows {m : Nat} (s new : State) (h : Within m s new) (hm : 12 ||| m = m) : Within m s (s.replaceRows new) := by
  refine Within.forms (fun p => ?_) h.queue (fun c => ⟨memFold_wf _ _ _ (memFilter_wf _ c.1), (h.canonical c).2.1, naddFold_rises _ _ (nrises_filter _ c.2.2.1), (h.canonical c).2.2.2⟩)
  cases hp : m.testBit p.num
  · have e := h.same p hp
    rw [← hm, Nat.testBit_or] at hp
    cases p <;> first | exact Or.inr e | (exfalso; revert hp; simp [Part.num, Nat.testBit])
  · exact Or.inl rfl

end Sys2Proof.Machine
end

