-- ==== Sys2Proof/Laws/Within1.lean ====
section
/-! SUPPORT. What the operations of Ops, Access, TierOps, Marks, Resv, Life, Recover, HostOps, HostIf, Enter, RowEng may change (see Laws/Within.lean). -/

set_option Elab.async false

namespace Sys2Proof.Machine

theorem within_set (s : State) (f : Fld) (v : Nat) : Within 2 s (s.set f v) := by
  unfold State.set
  refine .step ?_ (within_setReg ..)
  exact .refl ..

theorem within_raiseIbi (s : State) : Within 128 s s.raiseIbi := by
  unfold State.raiseIbi
  refine .ite ?_ ?_
  · refine .upd s 128 ?_
    exact .refl ..
  · exact .refl ..

theorem within_setClass (s : State) (b : Nat) : Within 130 s (s.setClass b) := by
  unfold State.setClass
  refine .step ?_ (within_raiseIbi ..)
  refine .step ?_ (within_setReg ..)
  refine .step ?_ (within_setReg ..)
  exact .refl ..

theorem within_tx (s : State) (t : HostTx) : Within 64 s (s.tx t) := by
  unfold State.tx
  refine .upd s 64 ?_
  exact .refl ..

theorem within_wrap (s : State) (f : Fld) (k : Nat) : Within 2 s (s.wrap f k) := by
  unfold State.wrap
  refine .step ?_ (within_set ..)
  exact .refl ..

theorem within_setUnsignalled (s : State) (c : Nat) (n : Nat) : Within 64 s (s.setUnsignalled c n) := by
  unfold State.setUnsignalled
  refine .upd s 64 ?_
  exact .refl ..

theorem within_sendVector (s : State) (v : Nat) : Within 66 s (s.sendVector v) := by
  unfold State.sendVector
  refine .ite ?_ ?_
  · refine .step ?_ (within_setReg ..)
    exact .refl ..
  · refine .step ?_ (within_tx ..)
    exact .refl ..

theorem within_signal (s : State) (v : Nat) : Within 66 s (s.signal v) := by
  unfold State.signal
  refine .ite ?_ ?_
  · exact .refl ..
  · refine .ite ?_ ?_
    · refine .step ?_ (within_sendVector ..)
      exact .refl ..
    · refine .upd s 64 ?_
      exact .refl ..

theorem within_signalRing (s : State) (c : Nat) : Within 66 s (s.signalRing c) := by
  unfold State.signalRing
  refine .step ?_ (within_signal ..)
  refine .step ?_ (within_setUnsignalled ..)
  exact .refl ..

theorem within_writeEntry (s : State) (c : Nat) (w0 : Word) (w1 : Word) (w2 : Word) (w3 : Word) (now : Bool) : Within 66 s (s.writeEntry c w0 w1 w2 w3 now) := by
  unfold State.writeEntry
  extract_lets +onlyGivenNames x1
  clear_value x1
  extract_lets +onlyGivenNames x2
  clear_value x2
  extract_lets +onlyGivenNames x3
  have h4 : Within 66 s x3 := by
    subst x3
    refine .step ?_ (within_tx ..)
    exact .refl ..
  clear_value x3
  extract_lets +onlyGivenNames x5
  have h6 : Within 66 s x5 := by
    subst x5
    refine .step ?_ (within_wrap ..)
    assumption
  clear_value x5
  extract_lets +onlyGivenNames x7
  clear_value x7
  extract_lets +onlyGivenNames x8
  have h9 : Within 66 s x8 := by
    subst x8
    refine .step ?_ (within_setUnsignalled ..)
    assumption
  clear_value x8
  refine .ite ?_ ?_
  · refine .step ?_ (within_signalRing ..)
    assumption
  · assumption

theorem within_writeRecord (s : State) (ws : List Word) : Within 66 s (s.writeRecord ws) := by
  unfold State.writeRecord
  refine .step ?_ (within_writeEntry ..)
  exact .refl ..

theorem within_count (s : State) (f : Fld) (k : Nat) : Within 2 s (s.count f k) := by
  unfold State.count
  refine .step ?_ (within_set ..)
  exact .refl ..

theorem within_raise (s : State) (e : Event) (inst : Nat) (d0 : Word) (d1 : Word) : Within 194 s (s.raise e inst d0 d1) := by
  unfold State.raise
  extract_lets +onlyGivenNames x1
  have h2 : Within 194 s x1 := by
    subst x1
    refine .step ?_ (within_setClass ..)
    exact .refl ..
  clear_value x1
  refine .ite ?_ ?_
  · assumption
  · refine .ite ?_ ?_
    · extract_lets +onlyGivenNames x3
      clear_value x3
      refine .ite ?_ ?_
      · refine .step ?_ (within_writeRecord ..)
        assumption
      · refine .upd x1 64 ?_
        assumption
    · refine .step ?_ (within_setClass ..)
      refine .step ?_ (within_set ..)
      refine .step ?_ (within_count ..)
      assumption

theorem within_pwmod (s : State) (f : PowerState → PowerState) : Within 1073741824 s (s.pwmod f) := by
  unfold State.pwmod
  refine .upd s 1073741824 ?_
  exact .refl ..

theorem within_wake (s : State) : Within 1073741824 s s.wake := by
  unfold State.wake
  refine .ite ?_ ?_
  · refine .step ?_ (within_pwmod ..)
    exact .refl ..
  · exact .refl ..

theorem within_setFlag (s : State) (f : Fld) (b : Bool) : Within 2 s (s.setFlag f b) := by
  unfold State.setFlag
  refine .step ?_ (within_set ..)
  exact .refl ..

theorem within_capChange (s : State) : Within 2 s s.capChange := by
  unfold State.capChange
  refine .step ?_ (within_wrap ..)
  exact .refl ..

theorem within_freshWord (s : State) : Within 1 s s.freshWord.snd := by
  unfold State.freshWord
  refine .mk_snd ?_
  refine .upd s 1 ?_
  exact .refl ..

theorem within_lower (s : State) (f : Fld) (k : Nat) : Within 2 s (s.lower f k) := by
  unfold State.lower
  refine .step ?_ (within_set ..)
  exact .refl ..

theorem within_flushEvents (s : State) : Within 66 s s.flushEvents := by
  unfold State.flushEvents
  refine .foldl ?_ ?_
  · refine .upd s 64 ?_
    exact .refl ..
  · intro s1 v2
    refine .step ?_ (within_writeRecord ..)
    exact .refl ..

theorem within_flushVectors (s : State) : Within 66 s s.flushVectors := by
  unfold State.flushVectors
  refine .ite ?_ ?_
  · refine .foldl ?_ ?_
    · refine .upd s 64 ?_
      exact .refl ..
    · intro s1 v2
      refine .step ?_ (within_sendVector ..)
      exact .refl ..
  · exact .refl ..

theorem within_release (s : State) : Within 66 s s.release := by
  unfold State.release
  refine .ite ?_ ?_
  · refine .step ?_ (within_flushVectors ..)
    refine .step ?_ (within_flushEvents ..)
    exact .refl ..
  · exact .refl ..

theorem within_zero (s : State) (a : Nat) (n : Nat) : Within 4 s (s.zero a n) := by
  unfold State.zero
  refine .step ?_ (within_wbs ..)
  exact .refl ..

theorem within_recordUda (s : State) (c : Check) : Within 2 s (s.recordUda c) := by
  unfold State.recordUda
  split
  · rename_i v1 h2
    exact .refl ..
  · rename_i v3 v4 v5 h6
    extract_lets +onlyGivenNames x7
    clear_value x7
    refine .step ?_ (within_set ..)
    refine .step ?_ (within_set ..)
    refine .step ?_ (within_count ..)
    exact .refl ..

theorem within_tmod (s : State) (f : TierState → TierState) : Within 32768 s (s.tmod f) := by
  unfold State.tmod
  refine .upd s 32768 ?_
  exact .refl ..

theorem within_dirMod (s : State) (n : Nat) (f : DirEnt → DirEnt) : Within 32768 s (s.dirMod n f) := by
  unfold State.dirMod
  refine .step ?_ (within_tmod ..)
  exact .refl ..

theorem within_endTierOp (s : State) (code : Nat) : Within 32962 s (s.endTierOp code) := by
  unfold State.endTierOp
  extract_lets +onlyGivenNames x1
  have h2 : Within 32962 s x1 := by
    subst x1
    refine .step ?_ (within_tmod ..)
    exact .refl ..
  clear_value x1
  extract_lets +onlyGivenNames x3
  have h4 : Within 32962 s x3 := by
    subst x3
    refine .step ?_ (within_set ..)
    assumption
  clear_value x3
  refine .step ?_ (within_raise ..)
  assumption

theorem within_checkTierOp (s : State) : Within 32962 s s.checkTierOp := by
  unfold State.checkTierOp
  split
  · rename_i v1 h2
    exact .refl ..
  · rename_i v3 v4 h5
    refine .ite ?_ ?_
    · refine .step ?_ (within_endTierOp ..)
      exact .refl ..
    · exact .refl ..

theorem within_dirPut (s : State) (n : Nat) (e : DirEnt) : Within 32768 s (s.dirPut n e) := by
  unfold State.dirPut
  refine .step ?_ (within_tmod ..)
  exact .refl ..

theorem within_startPromotion (s : State) (n : Nat) (j : Nat) (fr : Nat) (sz : Nat) : Within 32768 s (s.startPromotion n j fr sz) := by
  unfold State.startPromotion
  extract_lets +onlyGivenNames x1
  clear_value x1
  refine .step ?_ (within_dirPut ..)
  exact .refl ..

theorem within_opFinished (s : State) (n : Nat) : Within 32962 s (s.opFinished n) := by
  unfold State.opFinished
  split
  · rename_i v1 h2
    exact .refl ..
  · rename_i v3 v4 h5
    refine .ite ?_ ?_
    · exact .refl ..
    · refine .step ?_ (within_checkTierOp ..)
      refine .step ?_ (within_tmod ..)
      refine .step ?_ (within_count ..)
      exact .refl ..

theorem within_dirFree (s : State) (n : Nat) : Within 32768 s (s.dirFree n) := by
  unfold State.dirFree
  refine .step ?_ (within_tmod ..)
  exact .refl ..

theorem within_freeClean (s : State) (n : Nat) : Within 32962 s (s.freeClean n) := by
  unfold State.freeClean
  refine .step ?_ (within_opFinished ..)
  refine .step ?_ (within_count ..)
  refine .step ?_ (within_dirFree ..)
  exact .refl ..

theorem within_allocObject (s : State) (fr : Nat) (n : Nat) : Within 32768 s (orSame s id (s.allocObject fr n)) := by
  unfold State.allocObject
  refine .map ?_ ?_
  · exact .refl ..
  · intro v1 h2
    refine .mk_id ?_
    refine .step ?_ (within_tmod ..)
    exact .refl ..

theorem within_fitHome (s : State) (fr : Nat) (n : Nat) : Within 32768 s (orSame s id (s.fitHome fr n)) := by
  unfold State.fitHome
  split
  · rename_i v1 v2 h3
    refine .ite_on ?_ ?_
    · refine .mk_some ?_
      exact .refl ..
    · refine .orStep ?_ (within_allocObject ..) ?_
      · refine .step ?_ (within_tmod ..)
        exact .refl ..
      · exact .refl ..
  · rename_i v4 h5
    refine .orStep ?_ (within_allocObject ..) ?_
    · exact .refl ..
    · exact .refl ..

theorem within_startWriteBack (s : State) (n : Nat) (st : DirSt) : Within 32768 s (orSame s id (s.startWriteBack n st)) := by
  unfold State.startWriteBack
  split
  · rename_i v1 h2
    refine .mk_none ?_
    exact .refl ..
  · rename_i v3 v4 h5
    refine .map ?_ ?_
    · exact .refl ..
    · intro v6 h7
      have h8 : Within 32768 s v6 := by
        refine (.of_some (b := s) h7 ?_)
        refine .orStep ?_ (within_fitHome ..) ?_
        · exact .refl ..
        · exact .refl ..
      refine .mk_id ?_
      refine .step ?_ (within_dirMod ..)
      assumption

theorem within_replace (s : State) : Within 32962 s s.replace.snd := by
  unfold State.replace
  split
  · rename_i v1 h2
    refine .mk_snd ?_
    refine .step ?_ (within_count ..)
    exact .refl ..
  · rename_i v3 v4 v5 h6
    refine .ite_on ?_ ?_
    · refine .mk_snd ?_
      refine .step ?_ (within_freeClean ..)
      exact .refl ..
    · split
      · rename_i v7 v8 h9
        have h10 : Within 32962 s v8 := by
          refine (.of_some (b := s) h9 ?_)
          refine .orStep ?_ (within_startWriteBack ..) ?_
          · exact .refl ..
          · exact .refl ..
        assumption
      · rename_i v11 h12
        refine .mk_snd ?_
        refine .step ?_ (within_count ..)
        exact .refl ..

theorem within_lookup (s : State) (j : Nat) (fr : Nat) (write : Bool) : Within 32962 s (s.lookup j fr write).snd := by
  unfold State.lookup
  extract_lets +onlyGivenNames x1
  clear_value x1
  split
  · rename_i v2 h3
    split
    · rename_i v4 v5 h6
      refine .mk_snd ?_
      refine .step ?_ (within_startPromotion ..)
      exact .refl ..
    · rename_i v7 h8
      split
      · rename_i v9 v10 v11 h12
        have h13 : Within 32962 s v11 := by
          refine (.of_snd h12 ?_)
          refine .step ?_ (within_replace ..)
          exact .refl ..
        refine .mk_snd ?_
        refine .step ?_ (within_startPromotion ..)
        assumption
      · rename_i v14 v15 h16
        have h17 : Within 32962 s v15 := by
          refine (.of_snd h16 ?_)
          refine .step ?_ (within_replace ..)
          exact .refl ..
        assumption
  · rename_i v18 v19 v20 h21
    extract_lets +onlyGivenNames x22
    have h23 : Within 32962 s x22 := by
      subst x22
      refine .ite ?_ ?_
      · refine .step ?_ (within_count ..)
        exact .refl ..
      · exact .refl ..
    clear_value x22
    extract_lets +onlyGivenNames x24
    have h25 : Within 32962 s x24 := by
      subst x24
      refine .step ?_ (within_dirMod ..)
      assumption
    clear_value x24
    split
    · rename_i v26 h27
      assumption
    · rename_i v28 h29
      refine .ite_on ?_ ?_
      · assumption
      · refine .mk_snd ?_
        refine .step ?_ (within_count ..)
        assumption
    · rename_i v30 h31 h32
      assumption

theorem within_opFailed (s : State) (n : Nat) : Within 32962 s (s.opFailed n) := by
  unfold State.opFailed
  split
  · rename_i v1 h2
    exact .refl ..
  · rename_i v3 v4 h5
    refine .ite ?_ ?_
    · exact .refl ..
    · refine .step ?_ (within_checkTierOp ..)
      refine .step ?_ (within_tmod ..)
      exact .refl ..

theorem within_evalRequest (s : State) (n : Nat) : Within 32962 s (s.evalRequest n) := by
  unfold State.evalRequest
  split
  · rename_i v1 h2
    exact .refl ..
  · rename_i v3 v4 h5
    refine .ite ?_ ?_
    · exact .refl ..
    · refine .ite ?_ ?_
      · refine .step ?_ (within_opFinished ..)
        refine .step ?_ (within_dirFree ..)
        exact .refl ..
      · refine .ite ?_ ?_
        · split
          · rename_i v6 h7
            refine .step ?_ (within_freeClean ..)
            exact .refl ..
          · rename_i v8 h9
            split
            · rename_i v10 v11 h12
              have h13 : Within 32962 s v11 := by
                refine (.of_some (b := s) h12 ?_)
                refine .orStep ?_ (within_startWriteBack ..) ?_
                · exact .refl ..
                · exact .refl ..
              assumption
            · rename_i v14 h15
              refine .step ?_ (within_opFailed ..)
              refine .step ?_ (within_dirMod ..)
              exact .refl ..
          · rename_i v16 h17 h18
            exact .refl ..
        · exact .refl ..

theorem within_unpinAll (s : State) (j : Nat) : Within 32962 s (s.unpinAll j) := by
  unfold State.unpinAll
  refine .foldl ?_ ?_
  · exact .refl ..
  · intro s1 v2
    refine .ite ?_ ?_
    · refine .step ?_ (within_evalRequest ..)
      refine .step ?_ (within_dirMod ..)
      exact .refl ..
    · exact .refl ..

theorem within_noteWrite (s : State) (n : Nat) (o : Nat) (k : Nat) : Within 32768 s (orSame s id (s.noteWrite n o k)) := by
  unfold State.noteWrite
  split
  · rename_i v1 h2
    refine .mk_none ?_
    exact .refl ..
  · rename_i v3 v4 h5
    extract_lets +onlyGivenNames x6
    subst x6
    refine .ite_on ?_ ?_
    · refine .map ?_ ?_
      · exact .refl ..
      · intro v7 h8
        have h9 : Within 32768 s v7 := by
          refine (.of_some (b := s) h8 ?_)
          refine .orStep ?_ (within_fitHome ..) ?_
          · exact .refl ..
          · exact .refl ..
        refine .mk_id ?_
        refine .step ?_ (within_dirMod ..)
        assumption
    · refine .mk_some ?_
      dsimp -zeta only
      refine .step ?_ (within_dirMod ..)
      exact .refl ..

theorem within_unpin (s : State) (n : Nat) (j : Nat) : Within 32962 s (s.unpin n j) := by
  unfold State.unpin
  extract_lets +onlyGivenNames x1
  have h2 : Within 32962 s x1 := by
    subst x1
    refine .step ?_ (within_dirMod ..)
    exact .refl ..
  clear_value x1
  refine .step ?_ (within_evalRequest ..)
  assumption

theorem within_raiseMark (s : State) (t : Nat) (m : Nat) (inc : Nat) : Within 2 s (s.raiseMark t m inc) := by
  unfold State.raiseMark
  extract_lets +onlyGivenNames x1
  clear_value x1
  refine .ite ?_ ?_
  · extract_lets +onlyGivenNames x2
    have h3 : Within 2 s x2 := by
      subst x2
      refine .step ?_ (within_set ..)
      exact .refl ..
    clear_value x2
    split
    · rename_i v4 v5 h6
      refine .step ?_ (within_set ..)
      refine .step ?_ (within_count ..)
      assumption
    · rename_i v7 h8
      assumption
  · refine .step ?_ (within_set ..)
    exact .refl ..

theorem within_signalMarks (s : State) (t : Nat) (l : List Slot) : Within 2 s (s.signalMarks t l) := by
  unfold State.signalMarks
  refine .foldl ?_ ?_
  · exact .refl ..
  · intro s1 v2
    refine .step ?_ (within_raiseMark ..)
    exact .refl ..

theorem within_giveCredit (s : State) (t : Nat) (p : Nat) (n : Nat) : Within 2 s (s.giveCredit t p n) := by
  unfold State.giveCredit
  extract_lets +onlyGivenNames x1
  clear_value x1
  refine .ite ?_ ?_
  · extract_lets +onlyGivenNames x2
    have h3 : Within 2 s x2 := by
      subst x2
      refine .step ?_ (within_set ..)
      exact .refl ..
    clear_value x2
    split
    · rename_i v4 v5 h6
      refine .step ?_ (within_set ..)
      refine .step ?_ (within_count ..)
      assumption
    · rename_i v7 h8
      assumption
  · refine .step ?_ (within_set ..)
    exact .refl ..

theorem within_poisonMark (s : State) (t : Nat) (m : Nat) : Within 2 s (s.poisonMark t m) := by
  unfold State.poisonMark
  refine .step ?_ (within_set ..)
  exact .refl ..

theorem within_poisonMarks (s : State) (t : Nat) (l : List Slot) : Within 2 s (s.poisonMarks t l) := by
  unfold State.poisonMarks
  refine .foldl ?_ ?_
  · exact .refl ..
  · intro s1 v2
    refine .step ?_ (within_poisonMark ..)
    exact .refl ..

theorem within_poisonSignals (s : State) (e : JEntry) : Within 2 s (s.poisonSignals e) := by
  unfold State.poisonSignals
  refine .ite ?_ ?_
  · exact .refl ..
  · refine .step ?_ (within_poisonMarks ..)
    exact .refl ..

theorem within_takeCredit (s : State) (t : Nat) (p : Nat) (n : Nat) : Within 2 s (s.takeCredit t p n) := by
  unfold State.takeCredit
  refine .step ?_ (within_lower ..)
  exact .refl ..

theorem within_consumeWaits (s : State) (t : Nat) (l : List Slot) : Within 2 s (s.consumeWaits t l) := by
  unfold State.consumeWaits
  refine .foldl ?_ ?_
  · exact .refl ..
  · intro s1 v2
    refine .step ?_ (within_lower ..)
    exact .refl ..

theorem within_freeResv (s : State) (t : Nat) (n : Nat) : Within 1048576 s (s.freeResv t n) := by
  unfold State.freeResv
  refine .upd s 1048576 ?_
  exact .refl ..

theorem within_setResv (s : State) (t : Nat) (n : Nat) (v : ResvSt) : Within 1048576 s (s.setResv t n v) := by
  unfold State.setResv
  refine .upd s 1048576 ?_
  exact .refl ..

theorem within_commitResv (s : State) (t : Nat) (j : Nat) (ws : List Word) : Within 1048578 s (s.commitResv t j ws) := by
  unfold State.commitResv
  refine .foldl ?_ ?_
  · exact .refl ..
  · intro s1 v2
    split
    · rename_i v3 v4 v5 h6 h7
      refine .ite ?_ ?_
      · refine .step ?_ (within_freeResv ..)
        exact .refl ..
      · exact .refl ..
    · rename_i v8 v9 v10 h11 h12
      refine .ite ?_ ?_
      · refine .step ?_ (within_setResv ..)
        exact .refl ..
      · exact .refl ..
    · rename_i v13 v14 h15 h16
      refine .step ?_ (within_freeResv ..)
      exact .refl ..
    · rename_i v17 v18 h19 h20
      split
      · rename_i v21 v22 h23
        refine .step ?_ (within_set ..)
        refine .step ?_ (within_count ..)
        exact .refl ..
      · rename_i v24 h25
        exact .refl ..
    · rename_i v26 v27 h28 h29 h30 h31
      exact .refl ..

theorem within_dropResv (s : State) (j : Nat) : Within 1048576 s (s.dropResv j) := by
  unfold State.dropResv
  refine .upd s 1048576 ?_
  exact .refl ..

theorem within_takeResv (s : State) (t : Nat) (j : Nat) (l : List Nat) : Within 1048576 s (s.takeResv t j l) := by
  unfold State.takeResv
  refine .foldl ?_ ?_
  · exact .refl ..
  · intro s1 v2
    refine .step ?_ (within_setResv ..)
    exact .refl ..

theorem within_applyMarkSet (s : State) (t : Nat) (w : Word) : Within 2 s (s.applyMarkSet t w) := by
  unfold State.applyMarkSet
  extract_lets +onlyGivenNames x1
  have h2 : Within 2 s x1 := by
    subst x1
    refine .step ?_ (within_set ..)
    exact .refl ..
  clear_value x1
  refine .ite ?_ ?_
  · refine .step ?_ (within_set ..)
    assumption
  · assumption

theorem within_applyCreditSet (s : State) (t : Nat) (w : Word) : Within 2 s (s.applyCreditSet t w) := by
  unfold State.applyCreditSet
  refine .step ?_ (within_set ..)
  exact .refl ..

theorem within_controlCommit (s : State) (e : JEntry) : Within 2 s (s.controlCommit e) := by
  unfold State.controlCommit
  refine .ite ?_ ?_
  · refine .foldl ?_ ?_
    · exact .refl ..
    · intro s1 v2
      refine .step ?_ (within_applyMarkSet ..)
      exact .refl ..
  · refine .ite ?_ ?_
    · refine .foldl ?_ ?_
      · exact .refl ..
      · intro s3 v4
        refine .step ?_ (within_applyCreditSet ..)
        exact .refl ..
    · exact .refl ..

theorem within_settleOne (s : State) (j : Nat) (e : JEntry) (n : Nat) : Within 1048594 s (s.settleOne j e n) := by
  unfold State.settleOne
  extract_lets +onlyGivenNames x1
  have h2 : Within 1048594 s x1 := by
    subst x1
    refine .step ?_ (within_signalMarks ..)
    refine .step ?_ (within_controlCommit ..)
    exact .refl ..
  clear_value x1
  extract_lets +onlyGivenNames x3
  have h4 : Within 1048594 s x3 := by
    subst x3
    refine .ite ?_ ?_
    · refine .step ?_ (within_commitResv ..)
      assumption
    · assumption
  clear_value x3
  extract_lets +onlyGivenNames x5
  have h6 : Within 1048594 s x5 := by
    subst x5
    refine .ite ?_ ?_
    · refine .ite ?_ ?_
      · refine .step ?_ (within_giveCredit ..)
        assumption
      · assumption
    · refine .step ?_ (within_poisonSignals ..)
      refine .step ?_ (within_dropResv ..)
      exact .refl ..
  clear_value x5
  refine .step ?_ (within_jmod ..)
  assumption

theorem within_routeMod (s : State) (j : Nat) (f : RouteRun → RouteRun) : Within 67108864 s (s.routeMod j f) := by
  unfold State.routeMod
  refine .upd s 67108864 ?_
  exact .refl ..

theorem within_releaseBufs (s : State) (j : Nat) (p : HeldBuf → Bool) : Within 68157442 s (s.releaseBufs j p) := by
  unfold State.releaseBufs
  split
  · rename_i v1 h2
    exact .refl ..
  · rename_i v3 v4 h5
    extract_lets +onlyGivenNames x6
    have h7 : Within 68157442 s x6 := by
      subst x6
      refine .foldl ?_ ?_
      · exact .refl ..
      · intro s8 v9
        extract_lets +onlyGivenNames x10
        have h11 : Within 68157442 s8 x10 := by
          subst x10
          refine .step ?_ (within_giveCredit ..)
          exact .refl ..
        clear_value x10
        refine .upd x10 1048576 ?_
        assumption
    clear_value x6
    refine .step ?_ (within_routeMod ..)
    assumption

theorem within_failRoute (s : State) (j : Nat) : Within 68157458 s (s.failRoute j) := by
  unfold State.failRoute
  split
  · rename_i v1 v2 v3 v4 h5 h6
    refine .ite ?_ ?_
    · exact .refl ..
    · extract_lets +onlyGivenNames x7
      have h8 : Within 68157458 s x7 := by
        subst x7
        refine .step ?_ (within_releaseBufs ..)
        exact .refl ..
      clear_value x7
      extract_lets +onlyGivenNames x9
      clear_value x9
      extract_lets +onlyGivenNames x10
      have h11 : Within 68157458 s x10 := by
        subst x10
        refine .step ?_ (within_jmod ..)
        assumption
      clear_value x10
      refine .step ?_ (within_routeMod ..)
      refine .step ?_ (within_settleOne ..)
      assumption
  · rename_i v12 v13 h14
    exact .refl ..

theorem within_reportInstance (s : State) (j : Nat) (e : JEntry) (n : Nat) : Within 68157458 s (s.reportInstance j e n) := by
  unfold State.reportInstance
  refine .step ?_ (within_failRoute ..)
  refine .step ?_ (within_jdel ..)
  refine .step ?_ (within_routeMod ..)
  exact .refl ..

theorem within_settle (s : State) (j : Nat) (e : JEntry) (n : Nat) : Within 68157458 s (s.settle j e n) := by
  unfold State.settle
  extract_lets +onlyGivenNames x1
  have h2 : Within 68157458 s x1 := by
    subst x1
    refine .step ?_ (within_settleOne ..)
    exact .refl ..
  clear_value x1
  refine .ite ?_ ?_
  · assumption
  · refine .step ?_ (within_reportInstance ..)
    assumption

theorem within_settleOldest (s : State) (r : Nat) : Within 68157458 s (s.settleOldest r) := by
  unfold State.settleOldest
  split
  · rename_i v1 v2 v3 v4 h5
    split
    · rename_i v6 v7 h8
      refine .ite ?_ ?_
      · exact .refl ..
      · refine .step ?_ (within_settle ..)
        exact .refl ..
    · rename_i v9 h10
      exact .refl ..
  · rename_i v11 h12
    exact .refl ..

theorem within_settleFrom (s : State) (a1 : List (Nat × JEntry)) : Within 68157458 s (s.settleFrom a1) := by
  fun_induction State.settleFrom s a1
  · rename_i v1
    exact .refl ..
  · rename_i v2 v3 v4 v5 v6 h7 h8
    refine .trans ?_ (h8)
    refine .step ?_ (within_settle ..)
    exact .refl ..
  · rename_i v9 v10 v11 v12 h13
    exact .refl ..

theorem within_settleRing (s : State) (r : Nat) : Within 68157458 s (s.settleRing r) := by
  unfold State.settleRing
  refine .step ?_ (within_settleFrom ..)
  exact .refl ..

theorem within_finish (s : State) (j : Nat) (st : Status) (r0 : Word) (r1 : Word) : Within 84967634 s (s.finish j st r0 r1) := by
  unfold State.finish
  split
  · rename_i v1 h2
    exact .refl ..
  · rename_i v3 v4 h5
    refine .ite ?_ ?_
    · exact .refl ..
    · extract_lets +onlyGivenNames x6
      have h7 : Within 84967634 s x6 := by
        subst x6
        refine .step ?_ (within_jmod ..)
        exact .refl ..
      clear_value x6
      extract_lets +onlyGivenNames x8
      have h9 : Within 84967634 s x8 := by
        subst x8
        refine .step ?_ (within_unpinAll ..)
        assumption
      clear_value x8
      extract_lets +onlyGivenNames x10
      have h11 : Within 84967634 s x10 := by
        subst x10
        refine .ite ?_ ?_
        · refine .upd x8 16777216 ?_
          assumption
        · assumption
      clear_value x10
      refine .ite ?_ ?_
      · refine .step ?_ (within_settleRing ..)
        refine .step ?_ (within_jmod ..)
        assumption
      · refine .step ?_ (within_settle ..)
        assumption

theorem within_recoveryDone (s : State) : Within 2 s s.recoveryDone := by
  unfold State.recoveryDone
  refine .ite ?_ ?_
  · exact .refl ..
  · refine .step ?_ (within_setFlag ..)
    exact .refl ..

theorem within_writeBarrier (s : State) (r : Nat) : Within 66 s (s.writeBarrier r) := by
  unfold State.writeBarrier
  split
  · rename_i v1 h2
    exact .refl ..
  · rename_i v3 v4 h5
    extract_lets +onlyGivenNames x6
    clear_value x6
    refine .ite ?_ ?_
    · exact .refl ..
    · extract_lets +onlyGivenNames x7
      clear_value x7
      extract_lets +onlyGivenNames x8
      clear_value x8
      extract_lets +onlyGivenNames x9
      clear_value x9
      extract_lets +onlyGivenNames x10
      have h11 : Within 66 s x10 := by
        subst x10
        refine .upd s 64 ?_
        exact .refl ..
      clear_value x10
      refine .step ?_ (within_recoveryDone ..)
      refine .step ?_ (within_writeEntry ..)
      assumption

theorem within_writeBarriers (s : State) (r : Nat) (a2 : Nat) : Within 66 s (s.writeBarriers r a2) := by
  fun_induction State.writeBarriers s r a2
  · rename_i v1
    exact .refl ..
  · rename_i v2 v3 h4
    refine .trans ?_ (h4)
    refine .step ?_ (within_writeBarrier ..)
    exact .refl ..

theorem within_completeBare (s : State) (r : Nat) (b : BareDone) : Within 66 s (s.completeBare r b) := by
  unfold State.completeBare
  extract_lets +onlyGivenNames x1
  clear_value x1
  extract_lets +onlyGivenNames x2
  clear_value x2
  extract_lets +onlyGivenNames x3
  have h4 : Within 66 s x3 := by
    subst x3
    refine .upd s 64 ?_
    exact .refl ..
  clear_value x3
  refine .step ?_ (within_writeEntry ..)
  assumption

theorem within_free (s : State) (j : Nat) : Within 201326608 s (s.free j) := by
  unfold State.free
  extract_lets +onlyGivenNames x1
  have h2 : Within 201326608 s x1 := by
    subst x1
    refine .step ?_ (within_jdel ..)
    exact .refl ..
  clear_value x1
  extract_lets +onlyGivenNames x3
  clear_value x3
  extract_lets +onlyGivenNames x4
  have h5 : Within 201326608 s x4 := by
    subst x4
    refine .upd x1 67108864 ?_
    assumption
  clear_value x4
  refine .upd x4 134217728 ?_
  assumption

theorem within_countJob (s : State) (e : JEntry) : Within 2 s (s.countJob e) := by
  unfold State.countJob
  split
  · rename_i v1 v2 h3
    refine .ite ?_ ?_
    · refine .step ?_ (within_count ..)
      exact .refl ..
    · refine .ite ?_ ?_
      · refine .step ?_ (within_count ..)
        exact .refl ..
      · refine .ite ?_ ?_
        · refine .step ?_ (within_count ..)
          exact .refl ..
        · refine .step ?_ (within_count ..)
          exact .refl ..
  · rename_i v4 h5
    exact .refl ..

theorem within_completeOldest (s : State) (r : Nat) : Within 202375250 s (s.completeOldest r) := by
  unfold State.completeOldest
  refine .ite ?_ ?_
  · exact .refl ..
  · split
    · rename_i v1 v2 h3
      refine .step ?_ (within_completeBare ..)
      exact .refl ..
    · rename_i v4 h5
      split
      · rename_i v6 h7
        exact .refl ..
      · rename_i v8 v9 v10 v11 h12
        refine .ite ?_ ?_
        · exact .refl ..
        · extract_lets +onlyGivenNames x13
          have h14 : Within 202375250 s x13 := by
            subst x13
            refine .step ?_ (within_writeEntry ..)
            exact .refl ..
          clear_value x13
          extract_lets +onlyGivenNames x15
          have h16 : Within 202375250 s x15 := by
            subst x15
            refine .step ?_ (within_wrap ..)
            assumption
          clear_value x15
          refine .step ?_ (within_settleOldest ..)
          refine .step ?_ (within_free ..)
          refine .step ?_ (within_countJob ..)
          assumption

theorem within_setRastat (s : State) (cls : Nat) (idx : Nat) (st : Nat) : Within 2 s (s.setRastat cls idx st) := by
  unfold State.setRastat
  refine .ite ?_ ?_
  · refine .step ?_ (within_set ..)
    exact .refl ..
  · exact .refl ..

theorem within_readmitUnit (s : State) (cls : Nat) (idx : Nat) : Within 65536 s (s.readmitUnit cls idx) := by
  unfold State.readmitUnit
  refine .upd s 65536 ?_
  exact .refl ..

theorem within_barriersOf (s : State) (rings : List Nat) : Within 66 s (s.barriersOf rings) := by
  unfold State.barriersOf
  refine .foldl ?_ ?_
  · exact .refl ..
  · intro s1 v2
    refine .step ?_ (within_writeBarriers ..)
    exact .refl ..

theorem within_beginRecovery (s : State) (cause : Nat) (rings : List Nat) : Within 66 s (s.beginRecovery cause rings) := by
  unfold State.beginRecovery
  extract_lets +onlyGivenNames x1
  clear_value x1
  extract_lets +onlyGivenNames x2
  have h3 : Within 66 s x2 := by
    subst x2
    refine .step ?_ (within_setFlag ..)
    refine .step ?_ (within_set ..)
    refine .step ?_ (within_set ..)
    refine .step ?_ (within_set ..)
    exact .refl ..
  clear_value x2
  refine .upd x2 64 ?_
  assumption

theorem within_recoveryEvent (s : State) : Within 194 s s.recoveryEvent := by
  unfold State.recoveryEvent
  refine .step ?_ (within_raise ..)
  exact .refl ..

theorem within_recover (s : State) (cause : Nat) (rings : List Nat) : Within 194 s (s.recover cause rings) := by
  unfold State.recover
  refine .step ?_ (within_barriersOf ..)
  refine .step ?_ (within_recoveryEvent ..)
  refine .step ?_ (within_beginRecovery ..)
  exact .refl ..

theorem within_retireUnit (s : State) (cls : Nat) (idx : Nat) : Within 196608 s (s.retireUnit cls idx) := by
  unfold State.retireUnit
  refine .upd s 196608 ?_
  exact .refl ..

theorem within_issueRead (s : State) (kind : ReadKind) (addr : Nat) (len : Nat) : Within 64 s (orSame s id (s.issueRead kind addr len)) := by
  unfold State.issueRead
  refine .ite_on ?_ ?_
  · refine .mk_none ?_
    exact .refl ..
  · refine .map ?_ ?_
    · exact .refl ..
    · intro v1 h2
      refine .mk_id ?_
      refine .step ?_ (within_tx ..)
      refine .upd s 64 ?_
      exact .refl ..

theorem within_hostWrite (s : State) (addr : Nat) (bs : List Byte) : Within 64 s (orSame s id (s.hostWrite addr bs)) := by
  unfold State.hostWrite
  refine .ite_on ?_ ?_
  · refine .mk_some ?_
    refine .step ?_ (within_tx ..)
    exact .refl ..
  · refine .mk_none ?_
    exact .refl ..

theorem within_hmod (s : State) (f : HostState → HostState) : Within 64 s (s.hmod f) := by
  unfold State.hmod
  refine .upd s 64 ?_
  exact .refl ..

theorem within_dbError (s : State) (kind : Nat) (ring : Nat) : Within 2 s (s.dbError kind ring) := by
  unfold State.dbError
  extract_lets +onlyGivenNames x1
  have h2 : Within 2 s x1 := by
    subst x1
    refine .step ?_ (within_set ..)
    refine .step ?_ (within_set ..)
    refine .step ?_ (within_count ..)
    exact .refl ..
  clear_value x1
  refine .ite ?_ ?_
  · refine .step ?_ (within_count ..)
    assumption
  · assumption

theorem within_dropFetched (s : State) (r : Nat) : Within 64 s (s.dropFetched r) := by
  unfold State.dropFetched
  refine .step ?_ (within_hmod ..)
  exact .refl ..

theorem within_endRead (s : State) (tag : Nat) : Within 64 s (s.endRead tag) := by
  unfold State.endRead
  refine .step ?_ (within_hmod ..)
  exact .refl ..

theorem within_fetchData (s : State) (r : Nat) (start : Nat) (n : Nat) (bs : List Byte) : Within 64 s (s.fetchData r start n bs) := by
  unfold State.fetchData
  refine .ite ?_ ?_
  · exact .refl ..
  · refine .step ?_ (within_hmod ..)
    exact .refl ..

theorem within_fetchRing (s : State) (r : Nat) : Within 64 s (s.fetchRing r) := by
  unfold State.fetchRing
  extract_lets +onlyGivenNames x1
  clear_value x1
  extract_lets +onlyGivenNames x2
  clear_value x2
  split
  · rename_i v3 v4 h5
    have h6 : Within 64 s v4 := by
      refine (.of_some (b := s) h5 ?_)
      refine .orStep ?_ (within_issueRead ..) ?_
      · exact .refl ..
      · exact .refl ..
    refine .step ?_ (within_hmod ..)
    assumption
  · rename_i v7 h8
    exact .refl ..

theorem within_fetchFailed (s : State) (r : Nat) (start : Nat) (n : Nat) (fails : Nat) (cause : Nat) : Within 64 s (s.fetchFailed r start n fails cause) := by
  unfold State.fetchFailed
  refine .ite ?_ ?_
  · exact .refl ..
  · extract_lets +onlyGivenNames x1
    have h2 : Within 64 s x1 := by
      subst x1
      refine .step ?_ (within_hmod ..)
      exact .refl ..
    clear_value x1
    refine .ite ?_ ?_
    · refine .step ?_ (within_hmod ..)
      assumption
    · refine .step ?_ (within_fetchRing ..)
      refine .step ?_ (within_hmod ..)
      assumption

theorem within_h2mSend (s : State) : Within 2 s (orSame s id s.h2mSend) := by
  unfold State.h2mSend
  refine .ite_on ?_ ?_
  · refine .mk_none ?_
    exact .refl ..
  · refine .mk_some ?_
    refine .step ?_ (within_setFlag ..)
    exact .refl ..

theorem within_m2hSend (s : State) : Within 194 s (orSame s id s.m2hSend) := by
  unfold State.m2hSend
  refine .ite_on ?_ ?_
  · refine .mk_none ?_
    exact .refl ..
  · extract_lets +onlyGivenNames x1
    have h2 : Within 194 s x1 := by
      subst x1
      refine .step ?_ (within_set ..)
      refine .step ?_ (within_setFlag ..)
      exact .refl ..
    clear_value x1
    refine .mk_some ?_
    refine .step ?_ (within_signal ..)
    refine .step ?_ (within_raise ..)
    assumption

theorem within_pcieReset (s : State) : Within 66 s s.pcieReset := by
  unfold State.pcieReset
  extract_lets +onlyGivenNames x1
  have h2 : Within 66 s x1 := by
    subst x1
    refine .step ?_ (within_hmod ..)
    refine .step ?_ (within_setReg ..)
    exact .refl ..
  clear_value x1
  refine .step ?_ (within_capChange ..)
  assumption

theorem within_quarantine (s : State) (tag : Nat) : Within 64 s (s.quarantine tag) := by
  unfold State.quarantine
  refine .step ?_ (within_hmod ..)
  refine .step ?_ (within_endRead ..)
  exact .refl ..

theorem within_execCompletion (ring : Nat) (s : State) : Within 202375250 s (nextOr s (execCompletion ring s)) := by
  unfold execCompletion
  refine .ite_on ?_ ?_
  · refine .mk_next ?_
    exact .refl ..
  · refine .mk_next ?_
    refine .step ?_ (within_completeOldest ..)
    refine .step ?_ (within_writeBarriers ..)
    exact .refl ..

theorem within_execDoorbell (page : Nat) (offset : Nat) (size : Nat) (data : Word) (s : State) : Within 2 s (nextOr s (execDoorbell page offset size data s)) := by
  unfold execDoorbell
  extract_lets +onlyGivenNames x1
  clear_value x1
  refine .ite_on ?_ ?_
  · refine .mk_next ?_
    exact .refl ..
  · refine .ite_on ?_ ?_
    · refine .mk_next ?_
      refine .step ?_ (within_dbError ..)
      exact .refl ..
    · refine .ite_on ?_ ?_
      · refine .mk_next ?_
        refine .step ?_ (within_dbError ..)
        exact .refl ..
      · refine .ite_on ?_ ?_
        · refine .mk_next ?_
          refine .step ?_ (within_dbError ..)
          exact .refl ..
        · refine .mk_next ?_
          refine .step ?_ (within_set ..)
          exact .refl ..

theorem within_execFetch (s : State) : Within 64 s (nextOr s (execFetch s)) := by
  unfold execFetch
  split
  · rename_i v1 v2 h3
    refine .mk_next ?_
    refine .step ?_ (within_fetchRing ..)
    exact .refl ..
  · rename_i v4 h5
    refine .mk_next ?_
    exact .refl ..

theorem within_execHoldoff (ring : Nat) (s : State) : Within 66 s (nextOr s (execHoldoff ring s)) := by
  unfold execHoldoff
  refine .ite_on ?_ ?_
  · refine .mk_next ?_
    exact .refl ..
  · refine .ite_on ?_ ?_
    · refine .mk_next ?_
      refine .step ?_ (within_signalRing ..)
      exact .refl ..
    · refine .mk_next ?_
      exact .refl ..

theorem within_execLateCompletion (tag : Nat) (s : State) : Within 2 s (nextOr s (execLateCompletion tag s)) := by
  unfold execLateCompletion
  refine .ite_on ?_ ?_
  · refine .mk_next ?_
    refine .step ?_ (within_count ..)
    exact .refl ..
  · refine .mk_next ?_
    exact .refl ..

theorem within_execMsiXEnable (s : State) : Within 66 s (nextOr s (execMsiXEnable s)) := by
  unfold execMsiXEnable
  refine .ite_on ?_ ?_
  · refine .mk_next ?_
    exact .refl ..
  · refine .mk_next ?_
    refine .step ?_ (within_release ..)
    refine .step ?_ (within_hmod ..)
    exact .refl ..

theorem within_execPerst (s : State) : Within 66 s (nextOr s (execPerst s)) := by
  unfold execPerst
  refine .mk_next ?_
  refine .step ?_ (within_pcieReset ..)
  exact .refl ..

theorem within_enter (s : State) (e : JEntry) : Within 18 s (s.enter e) := by
  unfold State.enter
  extract_lets +onlyGivenNames x1
  clear_value x1
  extract_lets +onlyGivenNames x2
  have h3 : Within 18 s x2 := by
    subst x2
    refine .step ?_ (within_wrap ..)
    refine .step ?_ (within_jput ..)
    exact .refl ..
  clear_value x2
  split
  · rename_i v4 v5 h6
    refine .step ?_ (within_wrap ..)
    assumption
  · rename_i v7 h8
    assumption

theorem within_acceptSeal (s : State) (ws : List Word) : Within 32768 s (s.acceptSeal ws) := by
  unfold State.acceptSeal
  split
  · rename_i v1 h2
    exact .refl ..
  · rename_i v3 v4 h5
    refine .ite ?_ ?_
    · refine .step ?_ (within_tmod ..)
      exact .refl ..
    · refine .ite ?_ ?_
      · refine .step ?_ (within_tmod ..)
        exact .refl ..
      · exact .refl ..

theorem within_countPoison (s : State) (a : Nat) (n : Nat) : Within 2 s (s.countPoison a n) := by
  unfold State.countPoison
  refine .foldl ?_ ?_
  · exact .refl ..
  · intro s1 v2
    refine .step ?_ (within_count ..)
    exact .refl ..

theorem within_rowDispatch (s : State) (j : Nat) (op : Nat) : Within 84967634 s (s.rowDispatch j op).fst := by
  unfold State.rowDispatch
  split
  · rename_i v1 h2
    refine .mk_fst ?_
    exact .refl ..
  · rename_i v3 v4 h5
    refine .ite_on ?_ ?_
    · refine .mk_fst ?_
      exact .refl ..
    · refine .ite_on ?_ ?_
      · refine .mk_fst ?_
        exact .refl ..
      · refine .ite_on ?_ ?_
        · refine .mk_fst ?_
          exact .refl ..
        · refine .ite_on ?_ ?_
          · refine .mk_fst ?_
            refine .step ?_ (within_finish ..)
            refine .step ?_ (within_jmod ..)
            exact .refl ..
          · refine .ite_on ?_ ?_
            · refine .mk_fst ?_
              exact .refl ..
            · extract_lets +onlyGivenNames x6
              have h7 : Within 84967634 s x6 := by
                subst x6
                refine .step ?_ (within_jmod ..)
                refine .step ?_ (within_consumeWaits ..)
                exact .refl ..
              clear_value x6
              refine .ite_on ?_ ?_
              · refine .mk_fst ?_
                refine .step ?_ (within_finish ..)
                assumption
              · assumption

theorem within_rowEcc (s : State) (as : List Nat) (n : Nat) (obs : RowObs) : Within 10 s (s.rowEcc as n obs) := by
  unfold State.rowEcc
  extract_lets +onlyGivenNames x1
  have h2 : Within 10 s x1 := by
    subst x1
    refine .foldl ?_ ?_
    · exact .refl ..
    · intro s3 v4
      refine .step ?_ (within_count ..)
      exact .refl ..
  clear_value x1
  refine .foldl ?_ ?_
  · assumption
  · intro s5 v6
    refine .step ?_ (within_poisonGranule ..)
    exact .refl ..

theorem within_rowStep (s : State) (j : Nat) (e : JEntry) (f : Byte → Byte → Byte → Byte) (obs : RowObs) : Within 84967646 s (s.rowStep j e f obs) := by
  unfold State.rowStep
  extract_lets +onlyGivenNames x1
  clear_value x1
  extract_lets +onlyGivenNames x2
  clear_value x2
  extract_lets +onlyGivenNames x3
  clear_value x3
  extract_lets +onlyGivenNames x4
  clear_value x4
  extract_lets +onlyGivenNames x5
  have h6 : Within 84967646 s x5 := by
    subst x5
    refine .step ?_ (within_rowEcc ..)
    exact .refl ..
  clear_value x5
  refine .ite ?_ ?_
  · assumption
  · refine .ite ?_ ?_
    · refine .step ?_ (within_finish ..)
      refine .foldl ?_ ?_
      · assumption
      · intro s7 v8
        refine .step ?_ (within_countPoison ..)
        exact .refl ..
    · extract_lets +onlyGivenNames x9
      clear_value x9
      extract_lets +onlyGivenNames x10
      clear_value x10
      extract_lets +onlyGivenNames x11
      have h12 : Within 84967646 s x11 := by
        subst x11
        refine .step ?_ (within_cleanse ..)
        refine .step ?_ (within_wbs ..)
        assumption
      clear_value x11
      extract_lets +onlyGivenNames x13
      clear_value x13
      extract_lets +onlyGivenNames x14
      clear_value x14
      extract_lets +onlyGivenNames x15
      clear_value x15
      extract_lets +onlyGivenNames x16
      have h17 : Within 84967646 s x16 := by
        subst x16
        refine .foldl ?_ ?_
        · assumption
        · intro s18 v19
          refine .step ?_ (within_count ..)
          exact .refl ..
      clear_value x16
      extract_lets +onlyGivenNames x20
      have h21 : Within 84967646 s x20 := by
        subst x20
        refine .step ?_ (within_count ..)
        assumption
      clear_value x20
      extract_lets +onlyGivenNames x22
      have h23 : Within 84967646 s x22 := by
        subst x22
        refine .ite ?_ ?_
        · assumption
        · refine .ite ?_ ?_
          · refine .step ?_ (within_count ..)
            assumption
          · assumption
      clear_value x22
      extract_lets +onlyGivenNames x24
      clear_value x24
      extract_lets +onlyGivenNames x25
      clear_value x25
      extract_lets +onlyGivenNames x26
      have h27 : Within 84967646 s x26 := by
        subst x26
        refine .step ?_ (within_jmod ..)
        assumption
      clear_value x26
      refine .ite ?_ ?_
      · refine .step ?_ (within_finish ..)
        assumption
      · assumption

theorem within_rowRun (s : State) (j : Nat) (op : Nat) (f : Byte → Byte → Byte → Byte) (obs : RowObs) : Within 84967646 s (s.rowRun j op f obs) := by
  unfold State.rowRun
  split
  · rename_i v1 v2 h3
    have h4 : Within 84967646 s v2 := by
      refine (.of_fst h3 ?_)
      refine .step ?_ (within_rowDispatch ..)
      exact .refl ..
    assumption
  · rename_i v5 v6 v7 h8
    have h9 : Within 84967646 s v6 := by
      refine (.of_fst h8 ?_)
      refine .step ?_ (within_rowDispatch ..)
      exact .refl ..
    refine .ite ?_ ?_
    · assumption
    · refine .step ?_ (within_rowStep ..)
      assumption

theorem within_setRegionClass (s : State) (i : Nat) (c : Nat) : Within 32768 s (s.setRegionClass i c) := by
  unfold State.setRegionClass
  refine .step ?_ (within_tmod ..)
  exact .refl ..

theorem within_execRowAnd (jseq : Nat) (obs : RowObs) (s : State) : Within 84967646 s (nextOr s (execRowAnd jseq obs s)) := by
  unfold execRowAnd
  refine .mk_next ?_
  refine .step ?_ (within_rowRun ..)
  exact .refl ..

theorem within_execRowAndn (jseq : Nat) (obs : RowObs) (s : State) : Within 84967646 s (nextOr s (execRowAndn jseq obs s)) := by
  unfold execRowAndn
  refine .mk_next ?_
  refine .step ?_ (within_rowRun ..)
  exact .refl ..

theorem within_execRowCopy (jseq : Nat) (obs : RowObs) (s : State) : Within 84967646 s (nextOr s (execRowCopy jseq obs s)) := by
  unfold execRowCopy
  refine .mk_next ?_
  refine .step ?_ (within_rowRun ..)
  exact .refl ..

theorem within_execRowMaj (jseq : Nat) (obs : RowObs) (s : State) : Within 84967646 s (nextOr s (execRowMaj jseq obs s)) := by
  unfold execRowMaj
  refine .mk_next ?_
  refine .step ?_ (within_rowRun ..)
  exact .refl ..

theorem within_execRowNot (jseq : Nat) (obs : RowObs) (s : State) : Within 84967646 s (nextOr s (execRowNot jseq obs s)) := by
  unfold execRowNot
  refine .mk_next ?_
  refine .step ?_ (within_rowRun ..)
  exact .refl ..

theorem within_execRowOr (jseq : Nat) (obs : RowObs) (s : State) : Within 84967646 s (nextOr s (execRowOr jseq obs s)) := by
  unfold execRowOr
  refine .mk_next ?_
  refine .step ?_ (within_rowRun ..)
  exact .refl ..

theorem within_execRowSeal (jseq : Nat) (obs : RowObs) (s : State) : Within 84967642 s (nextOr s (execRowSeal jseq obs s)) := by
  unfold execRowSeal
  split
  · rename_i v1 v2 h3
    have h4 : Within 84967642 s v2 := by
      refine (.of_fst h3 ?_)
      refine .step ?_ (within_rowDispatch ..)
      exact .refl ..
    refine .mk_next ?_
    assumption
  · rename_i v5 v6 v7 h8
    have h9 : Within 84967642 s v6 := by
      refine (.of_fst h8 ?_)
      refine .step ?_ (within_rowDispatch ..)
      exact .refl ..
    refine .ite_on ?_ ?_
    · refine .mk_next ?_
      assumption
    · split
      · rename_i v10 h11
        have h12 : Within 84967642 s v6 := by
          refine (.of_fst h8 ?_)
          refine .step ?_ (within_rowDispatch ..)
          exact .refl ..
        refine .mk_next ?_
        assumption
      · rename_i v13 v14 v15 h16
        have h17 : Within 84967642 s v6 := by
          refine (.of_fst h8 ?_)
          refine .step ?_ (within_rowDispatch ..)
          exact .refl ..
        extract_lets +onlyGivenNames x18
        clear_value x18
        extract_lets +onlyGivenNames x19
        clear_value x19
        extract_lets +onlyGivenNames x20
        have h21 : Within 84967642 s x20 := by
          subst x20
          refine .step ?_ (within_countPoison ..)
          refine .step ?_ (within_rowEcc ..)
          assumption
        clear_value x20
        extract_lets +onlyGivenNames x22
        clear_value x22
        refine .mk_next ?_
        refine .step ?_ (within_capChange ..)
        refine .step ?_ (within_finish ..)
        refine .step ?_ (within_setRegionClass ..)
        assumption

theorem within_execRowUnseal (jseq : Nat) (s : State) : Within 84967634 s (nextOr s (execRowUnseal jseq s)) := by
  unfold execRowUnseal
  split
  · rename_i v1 v2 h3
    have h4 : Within 84967634 s v2 := by
      refine (.of_fst h3 ?_)
      refine .step ?_ (within_rowDispatch ..)
      exact .refl ..
    refine .mk_next ?_
    assumption
  · rename_i v5 v6 v7 h8
    have h9 : Within 84967634 s v6 := by
      refine (.of_fst h8 ?_)
      refine .step ?_ (within_rowDispatch ..)
      exact .refl ..
    split
    · rename_i v10 h11
      have h12 : Within 84967634 s v6 := by
        refine (.of_fst h8 ?_)
        refine .step ?_ (within_rowDispatch ..)
        exact .refl ..
      refine .mk_next ?_
      assumption
    · rename_i v13 v14 h15
      have h16 : Within 84967634 s v6 := by
        refine (.of_fst h8 ?_)
        refine .step ?_ (within_rowDispatch ..)
        exact .refl ..
      refine .mk_next ?_
      refine .step ?_ (within_capChange ..)
      refine .step ?_ (within_finish ..)
      refine .step ?_ (within_setRegionClass ..)
      assumption

theorem within_execRowXor (jseq : Nat) (obs : RowObs) (s : State) : Within 84967646 s (nextOr s (execRowXor jseq obs s)) := by
  unfold execRowXor
  refine .mk_next ?_
  refine .step ?_ (within_rowRun ..)
  exact .refl ..

theorem within_execSet0 (jseq : Nat) (obs : RowObs) (s : State) : Within 84967646 s (nextOr s (execSet0 jseq obs s)) := by
  unfold execSet0
  refine .mk_next ?_
  refine .step ?_ (within_rowRun ..)
  exact .refl ..

theorem within_execSet1 (jseq : Nat) (obs : RowObs) (s : State) : Within 84967646 s (nextOr s (execSet1 jseq obs s)) := by
  unfold execSet1
  refine .mk_next ?_
  refine .step ?_ (within_rowRun ..)
  exact .refl ..

end Sys2Proof.Machine
end

