-- ==== Sys2Proof/Laws/Within2.lean ====
section
/-! SUPPORT. What the operations of Wheel, NetOps, Link may change (see Laws/Within.lean). -/

set_option Elab.async false

namespace Sys2Proof.Machine

theorem within_wmod (s : State) (f : WheelState → WheelState) : Within 4194304 s (s.wmod f) := by
  unfold State.wmod
  refine .upd s 4194304 ?_
  exact .refl ..

theorem within_acceptMark (s : State) (off : Int) : Within 4194306 s (s.acceptMark off) := by
  unfold State.acceptMark
  refine .step ?_ (within_wmod ..)
  refine .step ?_ (within_count ..)
  exact .refl ..

theorem within_wheelEvent (s : State) (d1 : Word) : Within 194 s (s.wheelEvent d1) := by
  unfold State.wheelEvent
  refine .step ?_ (within_raise ..)
  exact .refl ..

theorem within_whlEnter (s : State) (st : Nat) (reason : Nat) (err : Nat) : Within 4194498 s (s.whlEnter st reason err) := by
  unfold State.whlEnter
  refine .ite ?_ ?_
  · exact .refl ..
  · extract_lets +onlyGivenNames x1
    have h2 : Within 4194498 s x1 := by
      subst x1
      refine .step ?_ (within_set ..)
      refine .step ?_ (within_set ..)
      exact .refl ..
    clear_value x1
    extract_lets +onlyGivenNames x3
    have h4 : Within 4194498 s x3 := by
      subst x3
      refine .step ?_ (within_wmod ..)
      assumption
    clear_value x3
    extract_lets +onlyGivenNames x5
    have h6 : Within 4194498 s x5 := by
      subst x5
      refine .ite ?_ ?_
      · refine .step ?_ (within_set ..)
        refine .step ?_ (within_set ..)
        assumption
      · assumption
    clear_value x5
    extract_lets +onlyGivenNames x7
    clear_value x7
    refine .step ?_ (within_wheelEvent ..)
    refine .step ?_ (within_wmod ..)
    assumption

theorem within_checkLock (s : State) : Within 4194498 s s.checkLock := by
  unfold State.checkLock
  refine .ite ?_ ?_
  · refine .step ?_ (within_whlEnter ..)
    exact .refl ..
  · exact .refl ..

theorem within_holdPhase (s : State) : Within 4194498 s s.holdPhase := by
  unfold State.holdPhase
  refine .step ?_ (within_checkLock ..)
  refine .step ?_ (within_wmod ..)
  exact .refl ..

theorem within_takeCount (s : State) : Within 4194306 s s.takeCount := by
  unfold State.takeCount
  extract_lets +onlyGivenNames x1
  clear_value x1
  extract_lets +onlyGivenNames x2
  clear_value x2
  extract_lets +onlyGivenNames x3
  have h4 : Within 4194306 s x3 := by
    subst x3
    refine .step ?_ (within_wmod ..)
    exact .refl ..
  clear_value x3
  extract_lets +onlyGivenNames x5
  have h6 : Within 4194306 s x5 := by
    subst x5
    refine .ite ?_ ?_
    · refine .ite ?_ ?_
      · refine .step ?_ (within_set ..)
        refine .step ?_ (within_wmod ..)
        assumption
      · assumption
    · exact .refl ..
  clear_value x5
  refine .ite ?_ ?_
  · extract_lets +onlyGivenNames x7
    have h8 : Within 4194306 s x7 := by
      subst x7
      refine .step ?_ (within_wmod ..)
      assumption
    clear_value x7
    refine .ite ?_ ?_
    · refine .step ?_ (within_set ..)
      assumption
    · assumption
  · assumption

theorem within_closeRev (s : State) : Within 4194306 s s.closeRev := by
  unfold State.closeRev
  extract_lets +onlyGivenNames x1
  clear_value x1
  extract_lets +onlyGivenNames x2
  have h3 : Within 4194306 s x2 := by
    subst x2
    refine .ite ?_ ?_
    · refine .step ?_ (within_wmod ..)
      exact .refl ..
    · refine .step ?_ (within_wmod ..)
      refine .step ?_ (within_count ..)
      exact .refl ..
  clear_value x2
  extract_lets +onlyGivenNames x4
  clear_value x4
  extract_lets +onlyGivenNames x5
  have h6 : Within 4194306 s x5 := by
    subst x5
    refine .ite ?_ ?_
    · refine .step ?_ (within_wmod ..)
      assumption
    · assumption
  clear_value x5
  refine .step ?_ (within_wmod ..)
  assumption

theorem within_holdFlows (s : State) (r : Nat) : Within 8388608 s (s.holdFlows r) := by
  unfold State.holdFlows
  refine .ite ?_ ?_
  · exact .refl ..
  · refine .upd s 8388608 ?_
    exact .refl ..

theorem within_spokeStart (s : State) : Within 4194304 s s.spokeStart := by
  unfold State.spokeStart
  extract_lets +onlyGivenNames x1
  clear_value x1
  refine .step ?_ (within_wmod ..)
  exact .refl ..

theorem within_boundaryStates (s : State) (was : Nat) : Within 4194498 s (s.boundaryStates was) := by
  unfold State.boundaryStates
  extract_lets +onlyGivenNames x1
  have h2 : Within 4194498 s x1 := by
    subst x1
    refine .ite ?_ ?_
    · refine .step ?_ (within_whlEnter ..)
      refine .step ?_ (within_wmod ..)
      exact .refl ..
    · exact .refl ..
  clear_value x1
  extract_lets +onlyGivenNames x3
  clear_value x3
  extract_lets +onlyGivenNames x4
  clear_value x4
  extract_lets +onlyGivenNames x5
  have h6 : Within 4194498 s x5 := by
    subst x5
    refine .ite ?_ ?_
    · refine .step ?_ (within_wmod ..)
      refine .step ?_ (within_count ..)
      assumption
    · refine .step ?_ (within_wmod ..)
      assumption
  clear_value x5
  extract_lets +onlyGivenNames x7
  have h8 : Within 4194498 s x7 := by
    subst x7
    refine .ite ?_ ?_
    · refine .ite ?_ ?_
      · refine .step ?_ (within_whlEnter ..)
        assumption
      · assumption
    · refine .ite ?_ ?_
      · refine .step ?_ (within_whlEnter ..)
        assumption
      · assumption
  clear_value x7
  refine .step ?_ (within_checkLock ..)
  assumption

theorem within_setRev (s : State) (r : Nat) : Within 4194306 s (s.setRev r) := by
  unfold State.setRev
  extract_lets +onlyGivenNames x1
  have h2 : Within 4194306 s x1 := by
    subst x1
    refine .step ?_ (within_set ..)
    refine .step ?_ (within_set ..)
    refine .step ?_ (within_set ..)
    exact .refl ..
  clear_value x1
  refine .step ?_ (within_wmod ..)
  assumption

theorem within_wheelBoundary (s : State) : Within 12583106 s s.wheelBoundary := by
  unfold State.wheelBoundary
  extract_lets +onlyGivenNames x1
  clear_value x1
  extract_lets +onlyGivenNames x2
  have h3 : Within 12583106 s x2 := by
    subst x2
    refine .step ?_ (within_takeCount ..)
    refine .step ?_ (within_closeRev ..)
    exact .refl ..
  clear_value x2
  extract_lets +onlyGivenNames x4
  clear_value x4
  extract_lets +onlyGivenNames x5
  clear_value x5
  extract_lets +onlyGivenNames x6
  have h7 : Within 12583106 s x6 := by
    subst x6
    refine .step ?_ (within_holdFlows ..)
    assumption
  clear_value x6
  extract_lets +onlyGivenNames x8
  clear_value x8
  extract_lets +onlyGivenNames x9
  have h10 : Within 12583106 s x9 := by
    subst x9
    refine .step ?_ (within_wmod ..)
    assumption
  clear_value x9
  extract_lets +onlyGivenNames x11
  have h12 : Within 12583106 s x11 := by
    subst x11
    refine .step ?_ (within_wmod ..)
    assumption
  clear_value x11
  extract_lets +onlyGivenNames x13
  have h14 : Within 12583106 s x13 := by
    subst x13
    refine .step ?_ (within_setFlag ..)
    refine .step ?_ (within_setFlag ..)
    assumption
  clear_value x13
  refine .step ?_ (within_spokeStart ..)
  refine .step ?_ (within_boundaryStates ..)
  refine .step ?_ (within_setRev ..)
  assumption

theorem within_adoptRev (s : State) (r : Nat) : Within 12583106 s (s.adoptRev r) := by
  unfold State.adoptRev
  extract_lets +onlyGivenNames x1
  clear_value x1
  extract_lets +onlyGivenNames x2
  have h3 : Within 12583106 s x2 := by
    subst x2
    refine .ite ?_ ?_
    · refine .step ?_ (within_holdFlows ..)
      exact .refl ..
    · exact .refl ..
  clear_value x2
  extract_lets +onlyGivenNames x4
  have h5 : Within 12583106 s x4 := by
    subst x4
    refine .step ?_ (within_set ..)
    assumption
  clear_value x4
  extract_lets +onlyGivenNames x6
  clear_value x6
  extract_lets +onlyGivenNames x7
  have h8 : Within 12583106 s x7 := by
    subst x7
    refine .step ?_ (within_wmod ..)
    assumption
  clear_value x7
  refine .step ?_ (within_checkLock ..)
  refine .step ?_ (within_set ..)
  refine .step ?_ (within_count ..)
  assumption

theorem within_calMatch (s : State) (b : Bool) : Within 2 s (s.calMatch b) := by
  unfold State.calMatch
  refine .ite ?_ ?_
  · refine .step ?_ (within_count ..)
    exact .refl ..
  · exact .refl ..

theorem within_clearCount (s : State) : Within 4194498 s s.clearCount := by
  unfold State.clearCount
  extract_lets +onlyGivenNames x1
  have h2 : Within 4194498 s x1 := by
    subst x1
    refine .step ?_ (within_wmod ..)
    refine .step ?_ (within_set ..)
    exact .refl ..
  clear_value x1
  refine .ite ?_ ?_
  · refine .step ?_ (within_whlEnter ..)
    assumption
  · assumption

theorem within_slewTo (s : State) (off : Int) : Within 4194306 s (s.slewTo off) := by
  unfold State.slewTo
  extract_lets +onlyGivenNames x1
  clear_value x1
  extract_lets +onlyGivenNames x2
  have h3 : Within 4194306 s x2 := by
    subst x2
    refine .ite ?_ ?_
    · refine .step ?_ (within_wmod ..)
      exact .refl ..
    · refine .step ?_ (within_wmod ..)
      exact .refl ..
  clear_value x2
  refine .step ?_ (within_setFlag ..)
  assumption

theorem within_holdoverMark (s : State) (off : Int) : Within 4194498 s (s.holdoverMark off) := by
  unfold State.holdoverMark
  extract_lets +onlyGivenNames x1
  clear_value x1
  extract_lets +onlyGivenNames x2
  clear_value x2
  refine .ite ?_ ?_
  · extract_lets +onlyGivenNames x3
    have h4 : Within 4194498 s x3 := by
      subst x3
      refine .step ?_ (within_whlEnter ..)
      refine .step ?_ (within_acceptMark ..)
      exact .refl ..
    clear_value x3
    refine .step ?_ (within_slewTo ..)
    refine .step ?_ (within_wmod ..)
    assumption
  · refine .ite ?_ ?_
    · refine .step ?_ (within_wmod ..)
      refine .step ?_ (within_count ..)
      exact .refl ..
    · extract_lets +onlyGivenNames x5
      clear_value x5
      extract_lets +onlyGivenNames x6
      clear_value x6
      extract_lets +onlyGivenNames x7
      have h8 : Within 4194498 s x7 := by
        subst x7
        refine .step ?_ (within_acceptMark ..)
        exact .refl ..
      clear_value x7
      extract_lets +onlyGivenNames x9
      clear_value x9
      extract_lets +onlyGivenNames x10
      have h11 : Within 4194498 s x10 := by
        subst x10
        refine .step ?_ (within_wmod ..)
        assumption
      clear_value x10
      refine .ite ?_ ?_
      · assumption
      · refine .step ?_ (within_slewTo ..)
        assumption

theorem within_markFault (s : State) (k : Nat) : Within 4194498 s (s.markFault k) := by
  unfold State.markFault
  extract_lets +onlyGivenNames x1
  have h2 : Within 4194498 s x1 := by
    subst x1
    refine .step ?_ (within_set ..)
    refine .ite ?_ ?_
    · refine .step ?_ (within_count ..)
      exact .refl ..
    · refine .step ?_ (within_count ..)
      exact .refl ..
  clear_value x1
  extract_lets +onlyGivenNames x3
  have h4 : Within 4194498 s x3 := by
    subst x3
    refine .step ?_ (within_wmod ..)
    assumption
  clear_value x3
  refine .ite ?_ ?_
  · refine .step ?_ (within_whlEnter ..)
    assumption
  · assumption

theorem within_setNomark (s : State) : Within 4194498 s s.setNomark := by
  unfold State.setNomark
  refine .step ?_ (within_whlEnter ..)
  exact .refl ..

theorem within_noteFired (s : State) (k : Nat) : Within 4194304 s (s.noteFired k) := by
  unfold State.noteFired
  refine .step ?_ (within_wmod ..)
  exact .refl ..

theorem within_openGrant (s : State) (p : Nat) (until_ : Nat) : Within 4194304 s (s.openGrant p until_) := by
  unfold State.openGrant
  extract_lets +onlyGivenNames x1
  clear_value x1
  extract_lets +onlyGivenNames x2
  clear_value x2
  refine .step ?_ (within_wmod ..)
  exact .refl ..

theorem within_recvWheelpos (s : State) (p : Nat) (m : List Word) : Within 12583106 s (s.recvWheelpos p m) := by
  unfold State.recvWheelpos
  extract_lets +onlyGivenNames x1
  clear_value x1
  extract_lets +onlyGivenNames x2
  clear_value x2
  extract_lets +onlyGivenNames x3
  clear_value x3
  extract_lets +onlyGivenNames x4
  have h5 : Within 12583106 s x4 := by
    subst x4
    refine .step ?_ (within_count ..)
    exact .refl ..
  clear_value x4
  extract_lets +onlyGivenNames x6
  have h7 : Within 12583106 s x6 := by
    subst x6
    refine .step ?_ (within_setReg ..)
    assumption
  clear_value x6
  refine .ite ?_ ?_
  · assumption
  · extract_lets +onlyGivenNames x8
    have h9 : Within 12583106 s x8 := by
      subst x8
      refine .step ?_ (within_wmod ..)
      assumption
    clear_value x8
    extract_lets +onlyGivenNames x10
    clear_value x10
    refine .ite ?_ ?_
    · refine .ite ?_ ?_
      · assumption
      · refine .step ?_ (within_wheelEvent ..)
        refine .step ?_ (within_count ..)
        assumption
    · refine .ite ?_ ?_
      · refine .step ?_ (within_adoptRev ..)
        assumption
      · assumption

theorem within_execDisciplined (s : State) : Within 2 s (nextOr s (execDisciplined s)) := by
  unfold execDisciplined
  refine .ite_on ?_ ?_
  · refine .mk_next ?_
    refine .step ?_ (within_setFlag ..)
    exact .refl ..
  · refine .mk_next ?_
    exact .refl ..

theorem within_execGrant (entry : Nat) (s : State) : Within 4194306 s (nextOr s (execGrant entry s)) := by
  unfold execGrant
  extract_lets +onlyGivenNames x1
  clear_value x1
  refine .ite_on ?_ ?_
  · refine .mk_next ?_
    exact .refl ..
  · extract_lets +onlyGivenNames x2
    clear_value x2
    extract_lets +onlyGivenNames x3
    clear_value x3
    extract_lets +onlyGivenNames x4
    have h5 : Within 4194306 s x4 := by
      subst x4
      refine .step ?_ (within_noteFired ..)
      exact .refl ..
    clear_value x4
    refine .ite_on ?_ ?_
    · refine .mk_next ?_
      assumption
    · extract_lets +onlyGivenNames x6
      have h7 : Within 4194306 s x6 := by
        subst x6
        refine .foldl ?_ ?_
        · assumption
        · intro s8 v9
          refine .step ?_ (within_calMatch ..)
          exact .refl ..
      clear_value x6
      refine .ite_on ?_ ?_
      · refine .mk_next ?_
        refine .step ?_ (within_count ..)
        assumption
      · refine .mk_next ?_
        refine .foldl ?_ ?_
        · refine .step ?_ (within_count ..)
          assumption
        · intro s10 v11
          refine .ite ?_ ?_
          · refine .step ?_ (within_openGrant ..)
            exact .refl ..
          · exact .refl ..

theorem within_execGrantClose (port : Nat) (s : State) : Within 4194304 s (nextOr s (execGrantClose port s)) := by
  unfold execGrantClose
  refine .ite_on ?_ ?_
  · refine .mk_next ?_
    exact .refl ..
  · refine .mk_next ?_
    refine .step ?_ (within_wmod ..)
    exact .refl ..

theorem within_execMark (entry : Nat) (s : State) : Within 4194306 s (nextOr s (execMark entry s)) := by
  unfold execMark
  extract_lets +onlyGivenNames x1
  clear_value x1
  extract_lets +onlyGivenNames x2
  clear_value x2
  refine .ite_on ?_ ?_
  · refine .mk_next ?_
    exact .refl ..
  · extract_lets +onlyGivenNames x3
    have h4 : Within 4194306 s x3 := by
      subst x3
      refine .step ?_ (within_noteFired ..)
      exact .refl ..
    clear_value x3
    refine .ite_on ?_ ?_
    · refine .mk_next ?_
      assumption
    · extract_lets +onlyGivenNames x5
      have h6 : Within 4194306 s x5 := by
        subst x5
        refine .step ?_ (within_calMatch ..)
        assumption
      clear_value x5
      refine .ite_on ?_ ?_
      · refine .mk_next ?_
        refine .step ?_ (within_count ..)
        assumption
      · refine .mk_next ?_
        refine .step ?_ (within_count ..)
        refine .step ?_ (within_raiseMark ..)
        assumption

theorem within_execReferenceLoss (s : State) : Within 4194498 s (nextOr s (execReferenceLoss s)) := by
  unfold execReferenceLoss
  refine .ite_on ?_ ?_
  · refine .mk_next ?_
    exact .refl ..
  · extract_lets +onlyGivenNames x1
    have h2 : Within 4194498 s x1 := by
      subst x1
      refine .step ?_ (within_set ..)
      refine .step ?_ (within_wmod ..)
      exact .refl ..
    clear_value x1
    extract_lets +onlyGivenNames x3
    clear_value x3
    refine .ite_on ?_ ?_
    · refine .ite_on ?_ ?_
      · refine .mk_next ?_
        refine .step ?_ (within_wmod ..)
        assumption
      · refine .mk_next ?_
        refine .step ?_ (within_whlEnter ..)
        assumption
    · refine .ite_on ?_ ?_
      · refine .mk_next ?_
        assumption
      · refine .mk_next ?_
        refine .step ?_ (within_whlEnter ..)
        assumption

theorem within_execReferenceRestore (s : State) : Within 4194306 s (nextOr s (execReferenceRestore s)) := by
  unfold execReferenceRestore
  refine .ite_on ?_ ?_
  · refine .mk_next ?_
    exact .refl ..
  · refine .mk_next ?_
    refine .step ?_ (within_setFlag ..)
    refine .step ?_ (within_set ..)
    refine .step ?_ (within_wmod ..)
    exact .refl ..

theorem within_execStuck (s : State) : Within 4194498 s (nextOr s (execStuck s)) := by
  unfold execStuck
  refine .ite_on ?_ ?_
  · refine .mk_next ?_
    exact .refl ..
  · refine .mk_next ?_
    refine .step ?_ (within_markFault ..)
    refine .step ?_ (within_wmod ..)
    exact .refl ..

theorem within_nmod (s : State) (f : NetState → NetState) : Within 8388608 s (s.nmod f) := by
  unfold State.nmod
  refine .upd s 8388608 ?_
  exact .refl ..

theorem within_pmod (s : State) (p : Nat) (f : Port → Port) : Within 8388608 s (s.pmod p f) := by
  unfold State.pmod
  refine .step ?_ (within_nmod ..)
  exact .refl ..

theorem within_arrive (s : State) (m : Msg) : Within 8388608 s (s.arrive m) := by
  unfold State.arrive
  refine .step ?_ (within_nmod ..)
  exact .refl ..

theorem within_enqueue (s : State) (p : Nat) (f : DFlit) : Within 8388608 s (s.enqueue p f) := by
  unfold State.enqueue
  refine .step ?_ (within_pmod ..)
  exact .refl ..

theorem within_queueMsg (s : State) (p : Nat) (m : Msg) (turn : Bool) (j : Nat) : Within 8388608 s (s.queueMsg p m turn j) := by
  unfold State.queueMsg
  extract_lets +onlyGivenNames x1
  clear_value x1
  refine .foldl ?_ ?_
  · exact .refl ..
  · intro s2 v3
    refine .step ?_ (within_enqueue ..)
    exact .refl ..

theorem within_sendMsg (s : State) (m : Msg) (j : Nat) : Within 8388608 s (s.sendMsg m j) := by
  unfold State.sendMsg
  extract_lets +onlyGivenNames x1
  clear_value x1
  extract_lets +onlyGivenNames x2
  have h3 : Within 8388608 s x2 := by
    subst x2
    refine .step ?_ (within_nmod ..)
    exact .refl ..
  clear_value x2
  split
  · rename_i v4 h5
    refine .step ?_ (within_arrive ..)
    assumption
  · rename_i v6 v7 h8
    refine .ite ?_ ?_
    · assumption
    · refine .step ?_ (within_queueMsg ..)
      assumption

theorem within_assemble (s : State) (exch : Word) (payload : List Byte) : Within 8388610 s (s.assemble exch payload) := by
  unfold State.assemble
  extract_lets +onlyGivenNames x1
  clear_value x1
  extract_lets +onlyGivenNames x2
  clear_value x2
  refine .ite ?_ ?_
  · extract_lets +onlyGivenNames x3
    clear_value x3
    refine .ite ?_ ?_
    · refine .step ?_ (within_count ..)
      exact .refl ..
    · refine .ite ?_ ?_
      · refine .step ?_ (within_arrive ..)
        exact .refl ..
      · refine .step ?_ (within_nmod ..)
        exact .refl ..
  · split
    · rename_i v4 h5
      refine .step ?_ (within_count ..)
      exact .refl ..
    · rename_i v6 v7 h8
      extract_lets +onlyGivenNames x9
      clear_value x9
      refine .ite ?_ ?_
      · refine .step ?_ (within_arrive ..)
        refine .step ?_ (within_nmod ..)
        exact .refl ..
      · refine .step ?_ (within_nmod ..)
        exact .refl ..

theorem within_freeEntry (s : State) (p : Nat) (v : Nat) : Within 8388608 s (s.freeEntry p v) := by
  unfold State.freeEntry
  refine .step ?_ (within_pmod ..)
  exact .refl ..

theorem within_forwardFlit (s : State) (inp : Nat) (out : Nat) (v : Nat) (exch : Word) (payload : List Byte) : Within 8388610 s (s.forwardFlit inp out v exch payload) := by
  unfold State.forwardFlit
  extract_lets +onlyGivenNames x1
  clear_value x1
  extract_lets +onlyGivenNames x2
  clear_value x2
  extract_lets +onlyGivenNames x3
  clear_value x3
  extract_lets +onlyGivenNames x4
  clear_value x4
  extract_lets +onlyGivenNames x5
  have h6 : Within 8388610 s x5 := by
    subst x5
    refine .step ?_ (within_count ..)
    exact .refl ..
  clear_value x5
  refine .ite ?_ ?_
  · refine .step ?_ (within_freeEntry ..)
    assumption
  · refine .ite ?_ ?_
    · refine .step ?_ (within_freeEntry ..)
      refine .step ?_ (within_nmod ..)
      assumption
    · split
      · rename_i v7 v8 h9
        extract_lets +onlyGivenNames x10
        clear_value x10
        extract_lets +onlyGivenNames x11
        have h12 : Within 8388610 s x11 := by
          subst x11
          refine .step ?_ (within_freeEntry ..)
          assumption
        clear_value x11
        refine .ite ?_ ?_
        · refine .step ?_ (within_queueMsg ..)
          refine .step ?_ (within_nmod ..)
          assumption
        · refine .step ?_ (within_nmod ..)
          assumption
      · rename_i v13 h14
        refine .step ?_ (within_enqueue ..)
        assumption

theorem within_deliverFlit (s : State) (inp : Nat) (v : Nat) (exch : Word) (payload : List Byte) : Within 8388610 s (s.deliverFlit inp v exch payload) := by
  unfold State.deliverFlit
  split
  · rename_i v1 h2
    refine .step ?_ (within_freeEntry ..)
    refine .step ?_ (within_assemble ..)
    exact .refl ..
  · rename_i v3 v4 h5
    refine .step ?_ (within_forwardFlit ..)
    exact .refl ..

theorem within_joinPort (s : State) (p : Nat) : Within 8454338 s (s.joinPort p) := by
  unfold State.joinPort
  refine .ite ?_ ?_
  · extract_lets +onlyGivenNames x1
    have h2 : Within 8454338 s x1 := by
      subst x1
      refine .step ?_ (within_pmod ..)
      refine .step ?_ (within_readmitUnit ..)
      exact .refl ..
    clear_value x1
    refine .step ?_ (within_raise ..)
    refine .step ?_ (within_capChange ..)
    refine .step ?_ (within_setRastat ..)
    assumption
  · exact .refl ..

theorem within_dropSent (s : State) (j : Nat) : Within 8388608 s (s.dropSent j) := by
  unfold State.dropSent
  refine .step ?_ (within_nmod ..)
  exact .refl ..

theorem within_linkEvent (s : State) (p : Nat) : Within 194 s (s.linkEvent p) := by
  unfold State.linkEvent
  refine .step ?_ (within_raise ..)
  refine .step ?_ (within_capChange ..)
  exact .refl ..

theorem within_lnkEnter (s : State) (p : Nat) (st : Nat) (phase : Nat) : Within 194 s (s.lnkEnter p st phase) := by
  unfold State.lnkEnter
  extract_lets +onlyGivenNames x1
  clear_value x1
  extract_lets +onlyGivenNames x2
  have h3 : Within 194 s x2 := by
    subst x2
    refine .step ?_ (within_set ..)
    refine .step ?_ (within_set ..)
    exact .refl ..
  clear_value x2
  refine .ite ?_ ?_
  · assumption
  · refine .step ?_ (within_linkEvent ..)
    assumption

theorem within_startFast (s : State) (p : Nat) (reason : Nat) (own : Bool) : Within 8388802 s (s.startFast p reason own) := by
  unfold State.startFast
  extract_lets +onlyGivenNames x1
  have h2 : Within 8388802 s x1 := by
    subst x1
    refine .step ?_ (within_set ..)
    refine .step ?_ (within_count ..)
    exact .refl ..
  clear_value x1
  extract_lets +onlyGivenNames x3
  have h4 : Within 8388802 s x3 := by
    subst x3
    refine .step ?_ (within_pmod ..)
    refine .step ?_ (within_set ..)
    assumption
  clear_value x3
  refine .step ?_ (within_lnkEnter ..)
  assumption

theorem within_startAttempt (s : State) (p : Nat) : Within 8388802 s (s.startAttempt p) := by
  unfold State.startAttempt
  refine .step ?_ (within_lnkEnter ..)
  refine .step ?_ (within_count ..)
  refine .step ?_ (within_pmod ..)
  exact .refl ..

theorem within_startSeries (s : State) (p : Nat) (k : Series) : Within 8388802 s (s.startSeries p k) := by
  unfold State.startSeries
  refine .step ?_ (within_startAttempt ..)
  refine .step ?_ (within_pmod ..)
  refine .step ?_ (within_set ..)
  exact .refl ..

theorem within_doom (s : State) (p : Nat) (reason : Nat) : Within 8388610 s (s.doom p reason) := by
  unfold State.doom
  refine .step ?_ (within_pmod ..)
  refine .step ?_ (within_set ..)
  exact .refl ..

theorem within_attemptFail (s : State) (p : Nat) (reason : Nat) : Within 8388802 s (s.attemptFail p reason) := by
  unfold State.attemptFail
  extract_lets +onlyGivenNames x1
  have h2 : Within 8388802 s x1 := by
    subst x1
    refine .step ?_ (within_set ..)
    exact .refl ..
  clear_value x1
  extract_lets +onlyGivenNames x3
  clear_value x3
  refine .ite ?_ ?_
  · refine .step ?_ (within_startSeries ..)
    assumption
  · extract_lets +onlyGivenNames x4
    clear_value x4
    split
    · rename_i v5 h6
      refine .ite ?_ ?_
      · refine .step ?_ (within_set ..)
        refine .step ?_ (within_doom ..)
        assumption
      · refine .step ?_ (within_startAttempt ..)
        assumption
    · rename_i v7 h8
      refine .step ?_ (within_lnkEnter ..)
      assumption
    · rename_i v9 h10 h11
      refine .ite ?_ ?_
      · refine .step ?_ (within_lnkEnter ..)
        assumption
      · refine .step ?_ (within_startAttempt ..)
        assumption

theorem within_recordPartner (s : State) (p : Nat) (m : List Word) : Within 2 s (s.recordPartner p m) := by
  unfold State.recordPartner
  extract_lets +onlyGivenNames x1
  clear_value x1
  refine .step ?_ (within_setReg ..)
  refine .step ?_ (within_setReg ..)
  refine .step ?_ (within_setReg ..)
  exact .refl ..

theorem within_forgetOrigins (s : State) (p : Nat) : Within 8388608 s (s.forgetOrigins p) := by
  unfold State.forgetOrigins
  extract_lets +onlyGivenNames x1
  clear_value x1
  refine .step ?_ (within_nmod ..)
  exact .refl ..

theorem within_markLanes (s : State) (p : Nat) : Within 2 s (s.markLanes p) := by
  unfold State.markLanes
  extract_lets +onlyGivenNames x1
  clear_value x1
  extract_lets +onlyGivenNames x2
  clear_value x2
  refine .foldl ?_ ?_
  · exact .refl ..
  · intro s3 v4
    refine .step ?_ (within_set ..)
    exact .refl ..

theorem within_resume (s : State) (p : Nat) (m : List Word) (minor : Nat) (lanes : Nat) (width : Nat) : Within 8388802 s (s.resume p m minor lanes width) := by
  unfold State.resume
  extract_lets +onlyGivenNames x1
  clear_value x1
  extract_lets +onlyGivenNames x2
  clear_value x2
  extract_lets +onlyGivenNames x3
  clear_value x3
  extract_lets +onlyGivenNames x4
  have h5 : Within 8388802 s x4 := by
    subst x4
    refine .step ?_ (within_recordPartner ..)
    exact .refl ..
  clear_value x4
  extract_lets +onlyGivenNames x6
  clear_value x6
  extract_lets +onlyGivenNames x7
  clear_value x7
  extract_lets +onlyGivenNames x8
  clear_value x8
  extract_lets +onlyGivenNames x9
  have h10 : Within 8388802 s x9 := by
    subst x9
    refine .step ?_ (within_forgetOrigins ..)
    assumption
  clear_value x9
  extract_lets +onlyGivenNames x11
  have h12 : Within 8388802 s x11 := by
    subst x11
    refine .step ?_ (within_pmod ..)
    assumption
  clear_value x11
  extract_lets +onlyGivenNames x13
  have h14 : Within 8388802 s x13 := by
    subst x13
    refine .foldl ?_ ?_
    · assumption
    · intro s15 v16
      refine .step ?_ (within_set ..)
      exact .refl ..
  clear_value x13
  extract_lets +onlyGivenNames x17
  have h18 : Within 8388802 s x17 := by
    subst x17
    refine .step ?_ (within_set ..)
    assumption
  clear_value x17
  extract_lets +onlyGivenNames x19
  have h20 : Within 8388802 s x19 := by
    subst x19
    refine .step ?_ (within_set ..)
    refine .step ?_ (within_set ..)
    refine .step ?_ (within_set ..)
    assumption
  clear_value x19
  refine .step ?_ (within_lnkEnter ..)
  refine .step ?_ (within_markLanes ..)
  assumption

theorem within_completeIdent (s : State) (p : Nat) : Within 8388802 s (s.completeIdent p) := by
  unfold State.completeIdent
  extract_lets +onlyGivenNames x1
  clear_value x1
  split
  · rename_i v2 h3
    exact .refl ..
  · rename_i v4 v5 h6
    refine .ite ?_ ?_
    · exact .refl ..
    · extract_lets +onlyGivenNames x7
      clear_value x7
      extract_lets +onlyGivenNames x8
      clear_value x8
      extract_lets +onlyGivenNames x9
      clear_value x9
      extract_lets +onlyGivenNames x10
      clear_value x10
      extract_lets +onlyGivenNames x11
      clear_value x11
      extract_lets +onlyGivenNames x12
      clear_value x12
      extract_lets +onlyGivenNames x13
      clear_value x13
      refine .ite ?_ ?_
      · refine .step ?_ (within_set ..)
        refine .step ?_ (within_doom ..)
        exact .refl ..
      · refine .ite ?_ ?_
        · refine .step ?_ (within_attemptFail ..)
          exact .refl ..
        · refine .ite ?_ ?_
          · refine .step ?_ (within_attemptFail ..)
            exact .refl ..
          · refine .step ?_ (within_resume ..)
            exact .refl ..

theorem within_countSlot (s : State) (p : Nat) (was2 : Nat) : Within 8388608 s (s.countSlot p was2) := by
  unfold State.countSlot
  extract_lets +onlyGivenNames x1
  clear_value x1
  refine .step ?_ (within_pmod ..)
  exact .refl ..

theorem within_emit (s : State) (p : Nat) (ftype : Nat) (seq : Nat) (vc : Nat) (len : Nat) (exch : Word) (payload : List Byte) : Within 8388608 s (s.emit p ftype seq vc len exch payload) := by
  unfold State.emit
  extract_lets +onlyGivenNames x1
  clear_value x1
  extract_lets +onlyGivenNames x2
  clear_value x2
  extract_lets +onlyGivenNames x3
  clear_value x3
  extract_lets +onlyGivenNames x4
  clear_value x4
  extract_lets +onlyGivenNames x5
  clear_value x5
  refine .step ?_ (within_pmod ..)
  exact .refl ..

theorem within_emitControl (s : State) (p : Nat) (ms : List (List Word)) : Within 8388608 s (s.emitControl p ms) := by
  unfold State.emitControl
  refine .step ?_ (within_emit ..)
  refine .step ?_ (within_pmod ..)
  exact .refl ..

theorem within_enterLow (s : State) (p : Nat) : Within 194 s (s.enterLow p) := by
  unfold State.enterLow
  refine .step ?_ (within_lnkEnter ..)
  refine .step ?_ (within_count ..)
  exact .refl ..

theorem within_leaveLow (s : State) (p : Nat) : Within 1082130626 s (s.leaveLow p) := by
  unfold State.leaveLow
  refine .step ?_ (within_wake ..)
  refine .step ?_ (within_lnkEnter ..)
  refine .step ?_ (within_pmod ..)
  refine .step ?_ (within_count ..)
  exact .refl ..

theorem within_lnkHold (s : State) (p : Nat) : Within 8388802 s (s.lnkHold p) := by
  unfold State.lnkHold
  extract_lets +onlyGivenNames x1
  clear_value x1
  refine .ite ?_ ?_
  · refine .step ?_ (within_pmod ..)
    refine .step ?_ (within_doom ..)
    exact .refl ..
  · refine .ite ?_ ?_
    · refine .step ?_ (within_doom ..)
      exact .refl ..
    · refine .ite ?_ ?_
      · extract_lets +onlyGivenNames x2
        have h3 : Within 8388802 s x2 := by
          subst x2
          refine .ite ?_ ?_
          · refine .step ?_ (within_pmod ..)
            exact .refl ..
          · exact .refl ..
        clear_value x2
        refine .step ?_ (within_lnkEnter ..)
        refine .step ?_ (within_set ..)
        assumption
      · exact .refl ..

theorem within_startPort (s : State) (p : Nat) : Within 8388802 s (s.startPort p) := by
  unfold State.startPort
  refine .ite ?_ ?_
  · refine .step ?_ (within_startSeries ..)
    refine .step ?_ (within_pmod ..)
    exact .refl ..
  · exact .refl ..

theorem within_lnkRetrain (s : State) (p : Nat) : Within 8388802 s (orSame s id (s.lnkRetrain p)) := by
  unfold State.lnkRetrain
  refine .ite_on ?_ ?_
  · refine .mk_some ?_
    refine .step ?_ (within_startFast ..)
    exact .refl ..
  · refine .mk_none ?_
    exact .refl ..

theorem within_lnkReadmit (s : State) (p : Nat) : Within 194 s (orSame s id (s.lnkReadmit p)) := by
  unfold State.lnkReadmit
  refine .ite_on ?_ ?_
  · refine .mk_some ?_
    refine .step ?_ (within_lnkEnter ..)
    exact .refl ..
  · refine .mk_none ?_
    exact .refl ..

theorem within_urgentMsg (s : State) (p : Nat) (m : List Word) : Within 8388608 s (s.urgentMsg p m) := by
  unfold State.urgentMsg
  refine .step ?_ (within_pmod ..)
  exact .refl ..

theorem within_suspectLoss (s : State) (p : Nat) (reason : Nat) (own : Bool) : Within 8388802 s (s.suspectLoss p reason own) := by
  unfold State.suspectLoss
  refine .ite ?_ ?_
  · refine .step ?_ (within_startFast ..)
    exact .refl ..
  · exact .refl ..

theorem within_recvControl (s : State) (p : Nat) (rtt : Option Nat) (m : List Word) : Within 1086324930 s (s.recvControl p rtt m) := by
  unfold State.recvControl
  split
  · rename_i v1 h2
    refine .ite ?_ ?_
    · refine .step ?_ (within_completeIdent ..)
      refine .step ?_ (within_pmod ..)
      exact .refl ..
    · exact .refl ..
  · rename_i v3 h4
    refine .ite ?_ ?_
    · refine .step ?_ (within_enterLow ..)
      refine .step ?_ (within_urgentMsg ..)
      exact .refl ..
    · exact .refl ..
  · rename_i v5 h6
    refine .ite ?_ ?_
    · extract_lets +onlyGivenNames x7
      have h8 : Within 1086324930 s x7 := by
        subst x7
        refine .step ?_ (within_pmod ..)
        exact .refl ..
      clear_value x7
      refine .ite ?_ ?_
      · refine .step ?_ (within_enterLow ..)
        assumption
      · assumption
    · exact .refl ..
  · rename_i v9 h10
    refine .ite ?_ ?_
    · refine .step ?_ (within_leaveLow ..)
      exact .refl ..
    · exact .refl ..
  · rename_i v11 h12
    refine .step ?_ (within_urgentMsg ..)
    exact .refl ..
  · rename_i v13 h14
    split
    · rename_i v15 v16
      refine .step ?_ (within_set ..)
      exact .refl ..
    · rename_i v17
      exact .refl ..
  · rename_i v18 h19
    refine .step ?_ (within_recvWheelpos ..)
    exact .refl ..
  · rename_i v20 h21
    refine .step ?_ (within_suspectLoss ..)
    exact .refl ..
  · rename_i v22 h23 h24 h25 h26 h27 h28 h29 h30
    refine .step ?_ (within_count ..)
    exact .refl ..

theorem within_setNak (s : State) (p : Nat) : Within 8388610 s (s.setNak p) := by
  unfold State.setNak
  refine .ite ?_ ?_
  · exact .refl ..
  · refine .step ?_ (within_pmod ..)
    refine .step ?_ (within_count ..)
    exact .refl ..

theorem within_recvData (s : State) (p : Nat) (f : Flit) : Within 8388610 s (s.recvData p f) := by
  unfold State.recvData
  extract_lets +onlyGivenNames x1
  clear_value x1
  refine .ite ?_ ?_
  · refine .step ?_ (within_deliverFlit ..)
    refine .step ?_ (within_pmod ..)
    exact .refl ..
  · refine .ite ?_ ?_
    · refine .step ?_ (within_setNak ..)
      refine .step ?_ (within_count ..)
      exact .refl ..
    · refine .step ?_ (within_count ..)
      exact .refl ..

theorem within_takeAck (s : State) (p : Nat) (a : Nat) : Within 8388610 s (s.takeAck p a) := by
  unfold State.takeAck
  extract_lets +onlyGivenNames x1
  clear_value x1
  extract_lets +onlyGivenNames x2
  clear_value x2
  refine .ite ?_ ?_
  · refine .step ?_ (within_pmod ..)
    exact .refl ..
  · refine .step ?_ (within_count ..)
    exact .refl ..

theorem within_startReplay (s : State) (p : Nat) (tmo : Bool) : Within 8388802 s (s.startReplay p tmo) := by
  unfold State.startReplay
  extract_lets +onlyGivenNames x1
  clear_value x1
  refine .ite ?_ ?_
  · exact .refl ..
  · refine .ite ?_ ?_
    · refine .step ?_ (within_pmod ..)
      exact .refl ..
    · extract_lets +onlyGivenNames x2
      have h3 : Within 8388802 s x2 := by
        subst x2
        refine .step ?_ (within_count ..)
        refine .step ?_ (within_count ..)
        exact .refl ..
      clear_value x2
      extract_lets +onlyGivenNames x4
      have h5 : Within 8388802 s x4 := by
        subst x4
        refine .step ?_ (within_pmod ..)
        assumption
      clear_value x4
      refine .ite ?_ ?_
      · refine .step ?_ (within_suspectLoss ..)
        assumption
      · assumption

theorem within_takeReturn (s : State) (p : Nat) (w : Word) : Within 8388802 s (s.takeReturn p w) := by
  unfold State.takeReturn
  extract_lets +onlyGivenNames x1
  have h2 : Within 8388802 s x1 := by
    subst x1
    refine .step ?_ (within_count ..)
    exact .refl ..
  clear_value x1
  extract_lets +onlyGivenNames x3
  have h4 : Within 8388802 s x3 := by
    subst x3
    refine .ite ?_ ?_
    · refine .step ?_ (within_takeAck ..)
      assumption
    · assumption
  clear_value x3
  refine .ite ?_ ?_
  · refine .step ?_ (within_startReplay ..)
    assumption
  · assumption

theorem within_recvFlit (s : State) (p : Nat) (rtt : Option Nat) (f : Flit) : Within 1086324930 s (s.recvFlit p rtt f) := by
  unfold State.recvFlit
  extract_lets +onlyGivenNames x1
  clear_value x1
  refine .ite ?_ ?_
  · exact .refl ..
  · refine .ite ?_ ?_
    · extract_lets +onlyGivenNames x2
      have h3 : Within 1086324930 s x2 := by
        subst x2
        refine .step ?_ (within_count ..)
        exact .refl ..
      clear_value x2
      refine .ite ?_ ?_
      · refine .step ?_ (within_setNak ..)
        assumption
      · assumption
    · refine .ite ?_ ?_
      · refine .ite ?_ ?_
        · refine .foldl ?_ ?_
          · exact .refl ..
          · intro s4 v5
            refine .step ?_ (within_recvControl ..)
            exact .refl ..
        · exact .refl ..
      · refine .ite ?_ ?_
        · extract_lets +onlyGivenNames x6
          have h7 : Within 1086324930 s x6 := by
            subst x6
            refine .step ?_ (within_count ..)
            exact .refl ..
          clear_value x6
          refine .ite ?_ ?_
          · refine .step ?_ (within_setNak ..)
            assumption
          · assumption
        · extract_lets +onlyGivenNames x8
          have h9 : Within 1086324930 s x8 := by
            subst x8
            refine .step ?_ (within_takeReturn ..)
            exact .refl ..
          clear_value x8
          refine .ite ?_ ?_
          · refine .step ?_ (within_recvData ..)
            assumption
          · refine .ite ?_ ?_
            · refine .foldl ?_ ?_
              · assumption
              · intro s10 v11
                refine .step ?_ (within_recvControl ..)
                exact .refl ..
            · assumption

theorem within_recvMsg (s : State) (p : Nat) (t : Nat) (rtt : Option Nat) (f : Flit) : Within 1086324930 s (s.recvMsg p t rtt f) := by
  unfold State.recvMsg
  refine .ite ?_ ?_
  · refine .step ?_ (within_recvFlit ..)
    exact .refl ..
  · exact .refl ..

theorem within_sendControl (s : State) (p : Nat) (own : List (List Word)) : Within 8388608 s (s.sendControl p own) := by
  unfold State.sendControl
  extract_lets +onlyGivenNames x1
  clear_value x1
  extract_lets +onlyGivenNames x2
  clear_value x2
  extract_lets +onlyGivenNames x3
  clear_value x3
  refine .step ?_ (within_emitControl ..)
  refine .step ?_ (within_pmod ..)
  exact .refl ..

theorem within_sendNew (s : State) (p : Nat) (v : Nat) : Within 8388610 s (s.sendNew p v) := by
  unfold State.sendNew
  extract_lets +onlyGivenNames x1
  clear_value x1
  split
  · rename_i v2 h3
    exact .refl ..
  · rename_i v4 v5 v6 h7
    extract_lets +onlyGivenNames x8
    clear_value x8
    extract_lets +onlyGivenNames x9
    have h10 : Within 8388610 s x9 := by
      subst x9
      refine .step ?_ (within_count ..)
      refine .step ?_ (within_lower ..)
      exact .refl ..
    clear_value x9
    extract_lets +onlyGivenNames x11
    have h12 : Within 8388610 s x11 := by
      subst x11
      refine .step ?_ (within_pmod ..)
      assumption
    clear_value x11
    extract_lets +onlyGivenNames x13
    have h14 : Within 8388610 s x13 := by
      subst x13
      split
      · rename_i v15 v16 h17
        refine .step ?_ (within_freeEntry ..)
        assumption
      · rename_i v18 h19
        assumption
    clear_value x13
    refine .step ?_ (within_emit ..)
    assumption

theorem within_sendReplay (s : State) (p : Nat) (i : Nat) : Within 8388608 s (s.sendReplay p i) := by
  unfold State.sendReplay
  extract_lets +onlyGivenNames x1
  clear_value x1
  split
  · rename_i v2 h3
    refine .step ?_ (within_pmod ..)
    exact .refl ..
  · rename_i v4 v5 v6 h7
    refine .step ?_ (within_emit ..)
    refine .step ?_ (within_pmod ..)
    exact .refl ..

theorem within_sendSlot (s : State) (p : Nat) (repeats : Bool) : Within 8388610 s (s.sendSlot p repeats) := by
  unfold State.sendSlot
  extract_lets +onlyGivenNames x1
  clear_value x1
  extract_lets +onlyGivenNames x2
  clear_value x2
  extract_lets +onlyGivenNames x3
  clear_value x3
  extract_lets +onlyGivenNames x4
  clear_value x4
  refine .ite ?_ ?_
  · refine .step ?_ (within_sendControl ..)
    exact .refl ..
  · split
    · rename_i v5 v6 h7
      refine .step ?_ (within_sendReplay ..)
      exact .refl ..
    · rename_i v8 h9
      refine .ite ?_ ?_
      · refine .step ?_ (within_sendNew ..)
        exact .refl ..
      · refine .ite ?_ ?_
        · refine .step ?_ (within_sendNew ..)
          exact .refl ..
        · refine .ite ?_ ?_
          · refine .step ?_ (within_sendNew ..)
            exact .refl ..
          · refine .ite ?_ ?_
            · refine .step ?_ (within_sendNew ..)
              exact .refl ..
            · refine .ite ?_ ?_
              · refine .step ?_ (within_sendNew ..)
                exact .refl ..
              · refine .step ?_ (within_emit ..)
                exact .refl ..

theorem within_execAttemptTimeout (port : Nat) (s : State) : Within 8388802 s (nextOr s (execAttemptTimeout port s)) := by
  unfold execAttemptTimeout
  refine .ite_on ?_ ?_
  · refine .mk_next ?_
    exact .refl ..
  · refine .ite_on ?_ ?_
    · refine .mk_next ?_
      refine .step ?_ (within_attemptFail ..)
      exact .refl ..
    · refine .ite_on ?_ ?_
      · refine .mk_next ?_
        refine .step ?_ (within_startFast ..)
        exact .refl ..
      · refine .mk_next ?_
        exact .refl ..

theorem within_execData (port : Nat) (flit : Flit) (s : State) : Within 1086324930 s (nextOr s (execData port flit s)) := by
  unfold execData
  refine .ite_on ?_ ?_
  · refine .mk_next ?_
    exact .refl ..
  · refine .mk_next ?_
    refine .ite ?_ ?_
    · exact .refl ..
    · refine .step ?_ (within_recvFlit ..)
      exact .refl ..

theorem within_execDown (port : Nat) (flit : Flit) (s : State) : Within 1086324930 s (nextOr s (execDown port flit s)) := by
  unfold execDown
  refine .ite_on ?_ ?_
  · refine .mk_next ?_
    exact .refl ..
  · refine .mk_next ?_
    refine .step ?_ (within_recvMsg ..)
    exact .refl ..

theorem within_execEchoReq (port : Nat) (flit : Flit) (s : State) : Within 1086324930 s (nextOr s (execEchoReq port flit s)) := by
  unfold execEchoReq
  refine .ite_on ?_ ?_
  · refine .mk_next ?_
    exact .refl ..
  · refine .mk_next ?_
    refine .step ?_ (within_recvMsg ..)
    exact .refl ..

theorem within_execEchoRsp (port : Nat) (flit : Flit) (rtt : Nat) (s : State) : Within 1086324930 s (nextOr s (execEchoRsp port flit rtt s)) := by
  unfold execEchoRsp
  refine .ite_on ?_ ?_
  · refine .mk_next ?_
    exact .refl ..
  · refine .mk_next ?_
    refine .step ?_ (within_recvMsg ..)
    exact .refl ..

theorem within_execFastRetrain (port : Nat) (s : State) : Within 2 s (nextOr s (execFastRetrain port s)) := by
  unfold execFastRetrain
  refine .ite_on ?_ ?_
  · refine .mk_next ?_
    exact .refl ..
  · extract_lets +onlyGivenNames x1
    clear_value x1
    refine .mk_next ?_
    refine .ite ?_ ?_
    · refine .step ?_ (within_set ..)
      exact .refl ..
    · exact .refl ..

theorem within_execFlitSilence (port : Nat) (s : State) : Within 8388802 s (nextOr s (execFlitSilence port s)) := by
  unfold execFlitSilence
  refine .ite_on ?_ ?_
  · refine .mk_next ?_
    exact .refl ..
  · refine .mk_next ?_
    refine .step ?_ (within_suspectLoss ..)
    exact .refl ..

theorem within_execFlitSlot (port : Nat) (repeats : Bool) (s : State) : Within 8388802 s (nextOr s (execFlitSlot port repeats s)) := by
  unfold execFlitSlot
  refine .ite_on ?_ ?_
  · refine .mk_next ?_
    exact .refl ..
  · extract_lets +onlyGivenNames x1
    clear_value x1
    extract_lets +onlyGivenNames x2
    clear_value x2
    refine .ite_on ?_ ?_
    · refine .mk_next ?_
      refine .step ?_ (within_sendControl ..)
      refine .step ?_ (within_pmod ..)
      exact .refl ..
    · refine .ite_on ?_ ?_
      · refine .ite_on ?_ ?_
        · extract_lets +onlyGivenNames x3
          clear_value x3
          refine .mk_next ?_
          refine .step ?_ (within_completeIdent ..)
          refine .step ?_ (within_pmod ..)
          refine .step ?_ (within_emitControl ..)
          exact .refl ..
        · refine .mk_next ?_
          refine .step ?_ (within_pmod ..)
          exact .refl ..
      · refine .ite_on ?_ ?_
        · refine .mk_next ?_
          refine .step ?_ (within_countSlot ..)
          refine .step ?_ (within_sendSlot ..)
          exact .refl ..
        · refine .ite_on ?_ ?_
          · extract_lets +onlyGivenNames x4
            clear_value x4
            refine .ite_on ?_ ?_
            · refine .mk_next ?_
              refine .step ?_ (within_sendControl ..)
              refine .step ?_ (within_set ..)
              refine .step ?_ (within_pmod ..)
              exact .refl ..
            · refine .ite_on ?_ ?_
              · refine .mk_next ?_
                refine .step ?_ (within_countSlot ..)
                refine .step ?_ (within_sendControl ..)
                exact .refl ..
              · refine .mk_next ?_
                refine .step ?_ (within_countSlot ..)
                refine .step ?_ (within_emit ..)
                exact .refl ..
          · refine .mk_next ?_
            refine .step ?_ (within_pmod ..)
            exact .refl ..

theorem within_execGapS (port : Nat) (s : State) : Within 8388802 s (nextOr s (execGapS port s)) := by
  unfold execGapS
  refine .ite_on ?_ ?_
  · refine .mk_next ?_
    exact .refl ..
  · refine .mk_next ?_
    refine .ite ?_ ?_
    · refine .step ?_ (within_startAttempt ..)
      refine .step ?_ (within_pmod ..)
      exact .refl ..
    · exact .refl ..

theorem within_execIdent (port : Nat) (flit : Flit) (s : State) : Within 1086324930 s (nextOr s (execIdent port flit s)) := by
  unfold execIdent
  refine .ite_on ?_ ?_
  · refine .mk_next ?_
    exact .refl ..
  · refine .mk_next ?_
    refine .step ?_ (within_recvMsg ..)
    exact .refl ..

theorem within_execIdle (port : Nat) (flit : Flit) (s : State) : Within 1086324930 s (nextOr s (execIdle port flit s)) := by
  unfold execIdle
  refine .ite_on ?_ ?_
  · refine .mk_next ?_
    exact .refl ..
  · refine .mk_next ?_
    refine .ite ?_ ?_
    · refine .step ?_ (within_recvFlit ..)
      exact .refl ..
    · exact .refl ..

theorem within_execLaneRetired (port : Nat) (lane : Nat) (symbols : Nat) (s : State) : Within 8585410 s (nextOr s (execLaneRetired port lane symbols s)) := by
  unfold execLaneRetired
  refine .ite_on ?_ ?_
  · refine .mk_next ?_
    exact .refl ..
  · extract_lets +onlyGivenNames x1
    clear_value x1
    extract_lets +onlyGivenNames x2
    clear_value x2
    refine .ite_on ?_ ?_
    · refine .mk_next ?_
      exact .refl ..
    · extract_lets +onlyGivenNames x3
      clear_value x3
      extract_lets +onlyGivenNames x4
      have h5 : Within 8585410 s x4 := by
        subst x4
        refine .step ?_ (within_count ..)
        exact .refl ..
      clear_value x4
      extract_lets +onlyGivenNames x6
      have h7 : Within 8585410 s x6 := by
        subst x6
        refine .ite ?_ ?_
        · refine .step ?_ (within_set ..)
          assumption
        · assumption
      clear_value x6
      extract_lets +onlyGivenNames x8
      have h9 : Within 8585410 s x8 := by
        subst x8
        refine .step ?_ (within_set ..)
        refine .step ?_ (within_set ..)
        refine .step ?_ (within_retireUnit ..)
        assumption
      clear_value x8
      extract_lets +onlyGivenNames x10
      have h11 : Within 8585410 s x10 := by
        subst x10
        refine .step ?_ (within_pmod ..)
        assumption
      clear_value x10
      extract_lets +onlyGivenNames x12
      clear_value x12
      extract_lets +onlyGivenNames x13
      have h14 : Within 8585410 s x13 := by
        subst x13
        refine .step ?_ (within_raise ..)
        assumption
      clear_value x13
      extract_lets +onlyGivenNames x15
      clear_value x15
      refine .ite_on ?_ ?_
      · refine .ite_on ?_ ?_
        · refine .mk_next ?_
          refine .step ?_ (within_doom ..)
          assumption
        · refine .ite_on ?_ ?_
          · refine .mk_next ?_
            refine .step ?_ (within_startFast ..)
            assumption
          · refine .mk_next ?_
            refine .step ?_ (within_capChange ..)
            assumption
      · refine .ite_on ?_ ?_
        · refine .ite_on ?_ ?_
          · refine .mk_next ?_
            refine .step ?_ (within_doom ..)
            assumption
          · refine .mk_next ?_
            refine .step ?_ (within_set ..)
            refine .step ?_ (within_pmod ..)
            assumption
        · refine .mk_next ?_
          assumption

theorem within_execLock (port : Nat) (locked : Nat) (s : State) : Within 1082130626 s (nextOr s (execLock port locked s)) := by
  unfold execLock
  refine .ite_on ?_ ?_
  · refine .mk_next ?_
    exact .refl ..
  · extract_lets +onlyGivenNames x1
    clear_value x1
    refine .ite_on ?_ ?_
    · extract_lets +onlyGivenNames x2
      have h3 : Within 1082130626 s x2 := by
        subst x2
        refine .step ?_ (within_pmod ..)
        exact .refl ..
      clear_value x2
      refine .ite_on ?_ ?_
      · refine .mk_next ?_
        refine .step ?_ (within_attemptFail ..)
        assumption
      · refine .mk_next ?_
        refine .step ?_ (within_set ..)
        assumption
    · refine .ite_on ?_ ?_
      · extract_lets +onlyGivenNames x4
        clear_value x4
        refine .ite_on ?_ ?_
        · refine .mk_next ?_
          refine .step ?_ (within_leaveLow ..)
          exact .refl ..
        · refine .mk_next ?_
          refine .step ?_ (within_startFast ..)
          exact .refl ..
      · refine .mk_next ?_
        exact .refl ..

theorem within_execNoSignal (port : Nat) (s : State) : Within 8388802 s (nextOr s (execNoSignal port s)) := by
  unfold execNoSignal
  refine .ite_on ?_ ?_
  · refine .mk_next ?_
    exact .refl ..
  · refine .mk_next ?_
    refine .step ?_ (within_suspectLoss ..)
    exact .refl ..

theorem within_execPmAck (port : Nat) (flit : Flit) (s : State) : Within 1086324930 s (nextOr s (execPmAck port flit s)) := by
  unfold execPmAck
  refine .ite_on ?_ ?_
  · refine .mk_next ?_
    exact .refl ..
  · refine .mk_next ?_
    refine .step ?_ (within_recvMsg ..)
    exact .refl ..

theorem within_execPmEnter (port : Nat) (flit : Flit) (s : State) : Within 1086324930 s (nextOr s (execPmEnter port flit s)) := by
  unfold execPmEnter
  refine .ite_on ?_ ?_
  · refine .mk_next ?_
    exact .refl ..
  · refine .mk_next ?_
    refine .step ?_ (within_recvMsg ..)
    exact .refl ..

theorem within_execPmWake (port : Nat) (flit : Flit) (s : State) : Within 1086324930 s (nextOr s (execPmWake port flit s)) := by
  unfold execPmWake
  refine .ite_on ?_ ?_
  · refine .mk_next ?_
    exact .refl ..
  · refine .mk_next ?_
    refine .step ?_ (within_recvMsg ..)
    exact .refl ..

theorem within_execPmd (port : Nat) (s : State) : Within 2 s (nextOr s (execPmd port s)) := by
  unfold execPmd
  refine .ite_on ?_ ?_
  · refine .mk_next ?_
    exact .refl ..
  · refine .mk_next ?_
    refine .ite ?_ ?_
    · refine .step ?_ (within_set ..)
      exact .refl ..
    · exact .refl ..

theorem within_execPortRetired (port : Nat) (s : State) : Within 93552850 s (nextOr s (execPortRetired port s)) := by
  unfold execPortRetired
  refine .ite_on ?_ ?_
  · refine .mk_next ?_
    exact .refl ..
  · extract_lets +onlyGivenNames x1
    clear_value x1
    refine .ite_on ?_ ?_
    · refine .mk_next ?_
      exact .refl ..
    · extract_lets +onlyGivenNames x2
      clear_value x2
      extract_lets +onlyGivenNames x3
      clear_value x3
      extract_lets +onlyGivenNames x4
      have h5 : Within 93552850 s x4 := by
        subst x4
        refine .step ?_ (within_retireUnit ..)
        exact .refl ..
      clear_value x4
      extract_lets +onlyGivenNames x6
      clear_value x6
      extract_lets +onlyGivenNames x7
      have h8 : Within 93552850 s x7 := by
        subst x7
        refine .ite ?_ ?_
        · assumption
        · refine .step ?_ (within_beginRecovery ..)
          assumption
      clear_value x7
      extract_lets +onlyGivenNames x9
      have h10 : Within 93552850 s x9 := by
        subst x9
        refine .foldl ?_ ?_
        · assumption
        · intro s11 v12
          refine .step ?_ (within_freeEntry ..)
          exact .refl ..
      clear_value x9
      extract_lets +onlyGivenNames x13
      clear_value x13
      extract_lets +onlyGivenNames x14
      have h15 : Within 93552850 s x14 := by
        subst x14
        refine .step ?_ (within_pmod ..)
        assumption
      clear_value x14
      extract_lets +onlyGivenNames x16
      have h17 : Within 93552850 s x16 := by
        subst x16
        refine .step ?_ (within_set ..)
        refine .step ?_ (within_set ..)
        assumption
      clear_value x16
      extract_lets +onlyGivenNames x18
      have h19 : Within 93552850 s x18 := by
        subst x18
        refine .step ?_ (within_lnkEnter ..)
        assumption
      clear_value x18
      extract_lets +onlyGivenNames x20
      have h21 : Within 93552850 s x20 := by
        subst x20
        refine .foldl ?_ ?_
        · assumption
        · intro s22 v23
          refine .step ?_ (within_finish ..)
          refine .step ?_ (within_dropSent ..)
          exact .refl ..
      clear_value x20
      extract_lets +onlyGivenNames x24
      have h25 : Within 93552850 s x24 := by
        subst x24
        refine .step ?_ (within_raise ..)
        assumption
      clear_value x24
      refine .mk_next ?_
      refine .ite ?_ ?_
      · assumption
      · refine .step ?_ (within_barriersOf ..)
        refine .step ?_ (within_recoveryEvent ..)
        assumption

theorem within_execReplayTimeout (port : Nat) (s : State) : Within 8388802 s (nextOr s (execReplayTimeout port s)) := by
  unfold execReplayTimeout
  refine .ite_on ?_ ?_
  · refine .mk_next ?_
    exact .refl ..
  · refine .mk_next ?_
    refine .ite ?_ ?_
    · refine .step ?_ (within_startReplay ..)
      exact .refl ..
    · exact .refl ..

theorem within_execSelftest (port : Nat) (passed : Nat) (s : State) : Within 8585410 s (nextOr s (execSelftest port passed s)) := by
  unfold execSelftest
  refine .ite_on ?_ ?_
  · refine .mk_next ?_
    exact .refl ..
  · refine .ite_on ?_ ?_
    · refine .mk_next ?_
      exact .refl ..
    · extract_lets +onlyGivenNames x1
      clear_value x1
      extract_lets +onlyGivenNames x2
      have h3 : Within 8585410 s x2 := by
        subst x2
        refine .step ?_ (within_pmod ..)
        refine .step ?_ (within_set ..)
        exact .refl ..
      clear_value x2
      extract_lets +onlyGivenNames x4
      have h5 : Within 8585410 s x4 := by
        subst x4
        refine .foldl ?_ ?_
        · assumption
        · intro s6 v7
          refine .ite ?_ ?_
          · refine .step ?_ (within_set ..)
            refine .step ?_ (within_readmitUnit ..)
            exact .refl ..
          · refine .step ?_ (within_set ..)
            refine .ite ?_ ?_
            · exact .refl ..
            · refine .step ?_ (within_retireUnit ..)
              exact .refl ..
      clear_value x4
      refine .ite_on ?_ ?_
      · refine .mk_next ?_
        refine .step ?_ (within_lnkEnter ..)
        refine .step ?_ (within_setRastat ..)
        refine .step ?_ (within_set ..)
        assumption
      · extract_lets +onlyGivenNames x8
        have h9 : Within 8585410 s x8 := by
          subst x8
          refine .step ?_ (within_setReg ..)
          assumption
        clear_value x8
        refine .mk_next ?_
        refine .step ?_ (within_startSeries ..)
        refine .step ?_ (within_setRastat ..)
        refine .step ?_ (within_pmod ..)
        assumption

theorem within_execWheelpos (port : Nat) (flit : Flit) (s : State) : Within 1086324930 s (nextOr s (execWheelpos port flit s)) := by
  unfold execWheelpos
  refine .ite_on ?_ ?_
  · refine .mk_next ?_
    exact .refl ..
  · refine .mk_next ?_
    refine .step ?_ (within_recvMsg ..)
    exact .refl ..

theorem within_execWheelposInstant (s : State) : Within 8388608 s (nextOr s (execWheelposInstant s)) := by
  unfold execWheelposInstant
  extract_lets +onlyGivenNames x1
  clear_value x1
  refine .mk_next ?_
  refine .foldl ?_ ?_
  · exact .refl ..
  · intro s2 v3
    refine .ite ?_ ?_
    · refine .step ?_ (within_urgentMsg ..)
      exact .refl ..
    · exact .refl ..

end Sys2Proof.Machine
end

