-- ==== Sys2Proof/Laws/Within3.lean ====
section
/-! SUPPORT. What the operations of Compute, Mem, StreamOps, Exchange may change (see Laws/Within.lean). -/

set_option Elab.async false

namespace Sys2Proof.Machine

theorem within_raiseLatch (s : State) (b : Nat) : Within 2 s (s.raiseLatch b) := by
  unfold State.raiseLatch
  refine .ite ?_ ?_
  · refine .step ?_ (within_set ..)
    exact .refl ..
  · exact .refl ..

theorem within_noteMismatch (s : State) (p : Nat) (tid : Word) (kind : ChkKind) (slice : Nat) (row : Nat) (column : Nat) (n : Nat) (retries : Nat) : Within 2 s (s.noteMismatch p tid kind slice row column n retries) := by
  unfold State.noteMismatch
  extract_lets +onlyGivenNames x1
  have h2 : Within 2 s x1 := by
    subst x1
    split
    · rename_i v3
      refine .step ?_ (within_count ..)
      exact .refl ..
    · rename_i v4
      refine .step ?_ (within_count ..)
      exact .refl ..
    · rename_i v5
      refine .step ?_ (within_count ..)
      refine .step ?_ (within_count ..)
      exact .refl ..
    · rename_i v6
      refine .step ?_ (within_count ..)
      exact .refl ..
  clear_value x1
  extract_lets +onlyGivenNames x7
  clear_value x7
  extract_lets +onlyGivenNames x8
  clear_value x8
  extract_lets +onlyGivenNames x9
  clear_value x9
  refine .step ?_ (within_setReg ..)
  refine .step ?_ (within_setReg ..)
  assumption

theorem within_arrayFaults (s : State) (ms : List Member) (tid : Word) (a3 : List PassFault) : Within 2 s (s.arrayFaults ms tid a3).fst := by
  fun_induction State.arrayFaults s ms tid a3
  · rename_i v1
    refine .mk_fst ?_
    exact .refl ..
  · rename_i v2 v3 v4 h5 h6
    assumption
  · rename_i v7 v8 v9 v10 v11 h12 h13 h14
    assumption
  · rename_i v15 v16 v17 v18 v19 h20 h21 v22 v23 v24 h25
    refine .mk_fst ?_
    subst v24
    refine .step ?_ (within_noteMismatch ..)
    exact .refl ..
  · rename_i v26 v27 v28 v29 v30 h31 h32 v33 v34 v35 h36 v37 h38
    refine .mk_fst ?_
    subst v37
    refine .trans ?_ (h38)
    refine .step ?_ (within_count ..)
    subst v35
    refine .step ?_ (within_noteMismatch ..)
    exact .refl ..

theorem within_spErrors (s : State) (p : Nat) (e : EccObs) : Within 10 s (s.spErrors p e) := by
  unfold State.spErrors
  extract_lets +onlyGivenNames x1
  have h2 : Within 10 s x1 := by
    subst x1
    refine .foldl ?_ ?_
    · exact .refl ..
    · intro s3 v4
      refine .step ?_ (within_set ..)
      refine .step ?_ (within_set ..)
      refine .step ?_ (within_count ..)
      exact .refl ..
  clear_value x1
  refine .foldl ?_ ?_
  · assumption
  · intro s5 v6
    refine .step ?_ (within_poisonGranule ..)
    refine .step ?_ (within_set ..)
    refine .step ?_ (within_set ..)
    refine .step ?_ (within_count ..)
    exact .refl ..

theorem within_useInjection (s : State) (p : Nat) (tid : Word) (first : Pass) : Within 262147 s (s.useInjection p tid first) := by
  unfold State.useInjection
  split
  · rename_i v1 h2
    exact .refl ..
  · rename_i v3 v4 h5
    extract_lets +onlyGivenNames x6
    clear_value x6
    extract_lets +onlyGivenNames x7
    clear_value x7
    extract_lets +onlyGivenNames x8
    clear_value x8
    extract_lets +onlyGivenNames x9
    have h10 : Within 262147 s x9.2 := by
      subst x9
      refine .step ?_ (within_freshWord ..)
      exact .refl ..
    clear_value x9
    extract_lets +onlyGivenNames x11
    have h12 : Within 262147 s x11 := by
      subst x11
      assumption
    clear_value x11
    extract_lets +onlyGivenNames x13
    have h14 : Within 262147 s x13 := by
      subst x13
      refine .upd x11 262144 ?_
      assumption
    clear_value x13
    refine .step ?_ (within_count ..)
    refine .step ?_ (within_noteMismatch ..)
    assumption

theorem within_encEvent (s : State) (p : Nat) (tid : Word) (target : Nat) (row : Nat) (e : EncEvent) : Within 2 s (s.encEvent p tid target row e) := by
  unfold State.encEvent
  refine .ite ?_ ?_
  · refine .step ?_ (within_count ..)
    exact .refl ..
  · extract_lets +onlyGivenNames x1
    have h2 : Within 2 s x1 := by
      subst x1
      refine .step ?_ (within_setReg ..)
      refine .step ?_ (within_count ..)
      exact .refl ..
    clear_value x1
    extract_lets +onlyGivenNames x3
    have h4 : Within 2 s x3 := by
      subst x3
      refine .step ?_ (within_set ..)
      refine .step ?_ (within_set ..)
      refine .step ?_ (within_set ..)
      assumption
    clear_value x3
    refine .step ?_ (within_raiseLatch ..)
    assumption

theorem within_putRow (s : State) (p : Nat) (tid : Word) (curve : Nat) (o : RowOut) : Within 14 s (s.putRow p tid curve o) := by
  unfold State.putRow
  extract_lets +onlyGivenNames x1
  have h2 : Within 14 s x1 := by
    subst x1
    refine .foldl ?_ ?_
    · exact .refl ..
    · intro s3 v4
      refine .step ?_ (within_cleanse ..)
      refine .step ?_ (within_wbs ..)
      exact .refl ..
  clear_value x1
  extract_lets +onlyGivenNames x5
  have h6 : Within 14 s x5 := by
    subst x5
    refine .foldl ?_ ?_
    · assumption
    · intro s7 v8
      refine .step ?_ (within_encEvent ..)
      exact .refl ..
  clear_value x5
  extract_lets +onlyGivenNames x9
  have h10 : Within 14 s x9 := by
    subst x9
    refine .ite ?_ ?_
    · assumption
    · refine .step ?_ (within_set ..)
      refine .step ?_ (within_count ..)
      assumption
  clear_value x9
  refine .ite ?_ ?_
  · assumption
  · refine .step ?_ (within_count ..)
    assumption

theorem within_runArrayBlocks (s : State) (j : Nat) (pl : Nat) (ws : List Word) (ms : List Member) (stop : Option Nat) (a6 : List (Nat × Nat × Nat)) : Within 84967646 s (s.runArrayBlocks j pl ws ms stop a6) := by
  fun_induction State.runArrayBlocks s j pl ws ms stop a6
  · rename_i v1
    refine .step ?_ (within_finish ..)
    exact .refl ..
  · rename_i v2 v3 v4 v5 v6 h7 h8
    assumption
  · rename_i v9 v10 v11 v12 v13 h14 h15
    refine .step ?_ (within_finish ..)
    exact .refl ..
  · rename_i v16 v17 v18 v19 v20 h21 h22 h23
    exact .refl ..
  · rename_i v24 v25 v26 v27 v28 h29 h30 h31 v32 v33 h34
    refine .trans ?_ (h34)
    refine .step ?_ (within_jmod ..)
    subst v33
    refine .foldl ?_ ?_
    · exact .refl ..
    · intro s35 v36
      refine .foldl ?_ ?_
      · exact .refl ..
      · intro s37 v38
        refine .step ?_ (within_putRow ..)
        exact .refl ..

theorem within_runArray (s : State) (j : Nat) (t : Nat) (p : Nat) (e : JEntry) (obs : ArrayObs) : Within 85229791 s (s.runArray j t p e obs) := by
  unfold State.runArray
  extract_lets +onlyGivenNames x1
  clear_value x1
  extract_lets +onlyGivenNames x2
  clear_value x2
  extract_lets +onlyGivenNames x3
  clear_value x3
  extract_lets +onlyGivenNames x4
  clear_value x4
  extract_lets +onlyGivenNames x5
  clear_value x5
  extract_lets +onlyGivenNames x6
  clear_value x6
  extract_lets +onlyGivenNames x7
  clear_value x7
  extract_lets +onlyGivenNames x8
  clear_value x8
  extract_lets +onlyGivenNames x9
  clear_value x9
  extract_lets +onlyGivenNames x10
  clear_value x10
  extract_lets +onlyGivenNames x11
  have h12 : Within 85229791 s x11 := by
    subst x11
    refine .step ?_ (within_spErrors ..)
    exact .refl ..
  clear_value x11
  extract_lets +onlyGivenNames x13
  have h14 : Within 85229791 s x13 := by
    subst x13
    split
    · rename_i v15 v16 v17
      refine .foldl ?_ ?_
      · assumption
      · intro s18 v19
        refine .step ?_ (within_useInjection ..)
        exact .refl ..
    · rename_i v20
      assumption
  clear_value x13
  extract_lets +onlyGivenNames x21
  have h22 : Within 85229791 s x21.1 := by
    subst x21
    refine .step ?_ (within_arrayFaults ..)
    assumption
  clear_value x21
  extract_lets +onlyGivenNames x23
  clear_value x23
  extract_lets +onlyGivenNames x24
  clear_value x24
  extract_lets +onlyGivenNames x25
  clear_value x25
  extract_lets +onlyGivenNames x26
  clear_value x26
  extract_lets +onlyGivenNames x27
  have h28 : Within 85229791 s x27 := by
    subst x27
    assumption
  clear_value x27
  extract_lets +onlyGivenNames x29
  have h30 : Within 85229791 s x29 := by
    subst x29
    refine .foldl ?_ ?_
    · assumption
    · intro s31 v32
      extract_lets +onlyGivenNames x33
      have h34 : Within 85229791 s31 x33 := by
        subst x33
        refine .step ?_ (within_count ..)
        exact .refl ..
      clear_value x33
      extract_lets +onlyGivenNames x35
      have h36 : Within 85229791 s31 x35 := by
        subst x35
        refine .step ?_ (within_count ..)
        assumption
      clear_value x35
      extract_lets +onlyGivenNames x37
      have h38 : Within 85229791 s31 x37 := by
        subst x37
        refine .step ?_ (within_count ..)
        refine .step ?_ (within_count ..)
        assumption
      clear_value x37
      refine .step ?_ (within_count ..)
      refine .step ?_ (within_count ..)
      assumption
  clear_value x29
  refine .step ?_ (within_runArrayBlocks ..)
  assumption

theorem within_euFaults (s : State) (p : Nat) (a2 : List GroupFault) : Within 2 s (s.euFaults p a2).fst := by
  fun_induction State.euFaults s p a2
  · rename_i v1
    refine .mk_fst ?_
    exact .refl ..
  · rename_i v2 v3 v4 h5 h6
    assumption
  · rename_i v7 v8 v9 h10 v11 v12 h13
    refine .mk_fst ?_
    subst v12
    refine .step ?_ (within_count ..)
    exact .refl ..
  · rename_i v14 v15 v16 h17 v18 v19 h20 h21
    refine .trans ?_ (h21)
    refine .step ?_ (within_count ..)
    subst v19
    refine .step ?_ (within_count ..)
    exact .refl ..

theorem within_runBlocks (s : State) (j : Nat) (p : Nat) (ws : List Word) (op : Nat) (stop : Option Nat) (a6 : List (Nat × Nat × Nat)) : Within 84967646 s (s.runBlocks j p ws op stop a6) := by
  fun_induction State.runBlocks s j p ws op stop a6
  · rename_i v1
    refine .step ?_ (within_finish ..)
    exact .refl ..
  · rename_i v2 v3 v4 v5 v6 h7 h8
    assumption
  · rename_i v9 v10 v11 v12 v13 h14 h15
    refine .step ?_ (within_finish ..)
    exact .refl ..
  · rename_i v16 v17 v18 v19 v20 h21 h22 h23
    exact .refl ..
  · rename_i v24 v25 v26 v27 v28 h29 h30 h31 v32 v33 h34
    refine .trans ?_ (h34)
    refine .step ?_ (within_jmod ..)
    subst v33
    refine .foldl ?_ ?_
    · exact .refl ..
    · intro s35 v36
      refine .step ?_ (within_putRow ..)
      exact .refl ..

theorem within_runElement (s : State) (j : Nat) (p : Nat) (e : JEntry) (op : Nat) (obs : EltObs) : Within 84967646 s (s.runElement j p e op obs) := by
  unfold State.runElement
  extract_lets +onlyGivenNames x1
  have h2 : Within 84967646 s x1 := by
    subst x1
    refine .step ?_ (within_spErrors ..)
    exact .refl ..
  clear_value x1
  extract_lets +onlyGivenNames x3
  have h4 : Within 84967646 s x3 := by
    subst x3
    refine .step ?_ (within_count ..)
    refine .step ?_ (within_count ..)
    refine .step ?_ (within_count ..)
    assumption
  clear_value x3
  extract_lets +onlyGivenNames x5
  have h6 : Within 84967646 s x5.1 := by
    subst x5
    refine .step ?_ (within_euFaults ..)
    assumption
  clear_value x5
  refine .step ?_ (within_runBlocks ..)
  assumption

theorem within_runFallback (s : State) (j : Nat) (p : Nat) (e : JEntry) (obs : EltObs) : Within 84967646 s (s.runFallback j p e obs) := by
  unfold State.runFallback
  extract_lets +onlyGivenNames x1
  clear_value x1
  extract_lets +onlyGivenNames x2
  clear_value x2
  extract_lets +onlyGivenNames x3
  have h4 : Within 84967646 s x3 := by
    subst x3
    refine .step ?_ (within_spErrors ..)
    exact .refl ..
  clear_value x3
  extract_lets +onlyGivenNames x5
  clear_value x5
  extract_lets +onlyGivenNames x6
  have h7 : Within 84967646 s x6 := by
    subst x6
    refine .step ?_ (within_count ..)
    refine .step ?_ (within_count ..)
    refine .step ?_ (within_count ..)
    assumption
  clear_value x6
  extract_lets +onlyGivenNames x8
  have h9 : Within 84967646 s x8.1 := by
    subst x8
    refine .step ?_ (within_euFaults ..)
    refine .step ?_ (within_count ..)
    assumption
  clear_value x8
  refine .step ?_ (within_runArrayBlocks ..)
  assumption

theorem within_accessFlash (s : State) (j : Nat) (write : Bool) (a : Nat) : Within 32962 s (s.accessFlash j write a).snd := by
  unfold State.accessFlash
  extract_lets +onlyGivenNames x1
  clear_value x1
  extract_lets +onlyGivenNames x2
  clear_value x2
  extract_lets +onlyGivenNames x3
  clear_value x3
  split
  · rename_i v4 v5 v6 h7
    have h8 : Within 32962 s v6 := by
      refine (.of_snd h7 ?_)
      refine .step ?_ (within_lookup ..)
      exact .refl ..
    assumption
  · rename_i v9 v10 h11
    have h12 : Within 32962 s v10 := by
      refine (.of_snd h11 ?_)
      refine .step ?_ (within_lookup ..)
      exact .refl ..
    assumption

theorem within_access (s : State) (j : Nat) (write : Bool) (a : Nat) (n : Nat) : Within 32962 s (s.access j write a n).snd := by
  unfold State.access
  split
  · rename_i v1 h2
    refine .step ?_ (within_accessFlash ..)
    exact .refl ..
  · rename_i v3 h4
    split
    · rename_i v5 v6 h7
      refine .mk_snd ?_
      exact .refl ..
    · rename_i v8 h9
      refine .mk_snd ?_
      exact .refl ..
  · rename_i v10 h11
    split
    · rename_i v12 h13
      refine .mk_snd ?_
      exact .refl ..
    · rename_i v14 h15
      refine .mk_snd ?_
      exact .refl ..
    · rename_i v16 h17
      refine .mk_snd ?_
      exact .refl ..
  · rename_i v18 h19
    split
    · rename_i v20 h21
      refine .mk_snd ?_
      exact .refl ..
    · rename_i v22 h23
      refine .mk_snd ?_
      exact .refl ..
    · rename_i v24 h25
      refine .mk_snd ?_
      exact .refl ..
  · rename_i v26 h27 h28 h29 h30
    refine .mk_snd ?_
    exact .refl ..

theorem within_readFrom (s : State) (j : Nat) (a2 : Nat) (a3 : Nat) (a4 : Nat) (a5 : List Byte) : Within 32962 s (s.readFrom j a2 a3 a4 a5).snd := by
  fun_induction State.readFrom s j a2 a3 a4 a5
  · rename_i v1 v2 v3 v4
    refine .mk_snd ?_
    exact .refl ..
  · rename_i v5 v6 v7 v8
    refine .mk_snd ?_
    exact .refl ..
  · rename_i v9 v10 v11 v12 v13 h14 v15 v16 v17 h18 v19 h20
    have h21 : Within 32962 v9 v17 := by
      refine (.of_snd h18 ?_)
      refine .step ?_ (within_access ..)
      exact .refl ..
    refine .mk_snd ?_
    subst v19
    refine .step ?_ (within_unpinAll ..)
    assumption
  · rename_i v22 v23 v24 v25 v26 h27 v28 v29 v30 h31 v32 h33 h34
    have h35 : Within 32962 v22 v30 := by
      refine (.of_snd h31 ?_)
      refine .step ?_ (within_access ..)
      exact .refl ..
    refine .trans ?_ (h34)
    subst v32
    refine .step ?_ (within_unpinAll ..)
    assumption
  · rename_i v36 v37 v38 v39 v40 h41 v42 v43 v44 h45
    have h46 : Within 32962 v36 v44 := by
      refine (.of_snd h45 ?_)
      refine .step ?_ (within_access ..)
      exact .refl ..
    assumption
  · rename_i v47 v48 v49 v50 v51 h52 v53 v54 v55 h56
    have h57 : Within 32962 v47 v55 := by
      refine (.of_snd h56 ?_)
      refine .step ?_ (within_access ..)
      exact .refl ..
    assumption
  · rename_i v58 v59 v60 v61 v62 h63 v64 v65 v66 h67
    have h68 : Within 32962 v58 v66 := by
      refine (.of_snd h67 ?_)
      refine .step ?_ (within_access ..)
      exact .refl ..
    assumption

theorem within_readUda (s : State) (j : Nat) (a : Nat) (n : Nat) : Within 32962 s (s.readUda j a n).snd := by
  unfold State.readUda
  refine .step ?_ (within_readFrom ..)
  exact .refl ..

theorem within_noteLoc (s : State) (l : Loc) (k : Nat) : Within 32768 s (orSame s id (s.noteLoc l k)) := by
  unfold State.noteLoc
  split
  · rename_i v1 v2
    refine .mk_some ?_
    exact .refl ..
  · rename_i v3 v4 v5
    refine .orStep ?_ (within_noteWrite ..) ?_
    · exact .refl ..
    · exact .refl ..

theorem within_putPieces (s : State) (a1 : List (Nat × Nat)) (a2 : List Byte) : Within 12 s (s.putPieces a1 a2) := by
  fun_induction State.putPieces s a1 a2
  · rename_i v1 v2
    exact .refl ..
  · rename_i v3 v4 v5 v6 h7
    refine .trans ?_ (h7)
    refine .step ?_ (within_cleanse ..)
    refine .step ?_ (within_wbs ..)
    exact .refl ..

theorem within_locWrite (s : State) (l : Loc) (bs : List Byte) : Within 12 s (s.locWrite l bs) := by
  unfold State.locWrite
  refine .step ?_ (within_putPieces ..)
  exact .refl ..

theorem within_writeFrom (s : State) (j : Nat) (a2 : Nat) (a3 : Nat) (a4 : List Byte) : Within 32974 s (s.writeFrom j a2 a3 a4).snd := by
  fun_induction State.writeFrom s j a2 a3 a4
  · rename_i v1 v2 v3
    refine .mk_snd ?_
    exact .refl ..
  · rename_i v4 v5 v6 v7 h8
    refine .mk_snd ?_
    exact .refl ..
  · rename_i v9 v10 v11 v12 h13 v14 v15 v16 h17 h18
    have h19 : Within 32974 v9 v16 := by
      refine (.of_snd h17 ?_)
      refine .step ?_ (within_access ..)
      exact .refl ..
    refine .mk_snd ?_
    refine .step ?_ (within_unpinAll ..)
    assumption
  · rename_i v20 v21 v22 v23 h24 v25 v26 v27 h28 v29 h30 h31
    have h32 : Within 32974 v20 v27 := by
      refine (.of_snd h28 ?_)
      refine .step ?_ (within_access ..)
      exact .refl ..
    have h33 : Within 32974 v20 v29 := by
      refine (.of_some (b := v20) h30 ?_)
      refine .orStep ?_ (within_noteLoc ..) ?_
      · assumption
      · exact .refl ..
    refine .trans ?_ (h31)
    refine .step ?_ (within_unpinAll ..)
    refine .step ?_ (within_locWrite ..)
    assumption
  · rename_i v34 v35 v36 v37 h38 v39 v40 v41 h42
    have h43 : Within 32974 v34 v41 := by
      refine (.of_snd h42 ?_)
      refine .step ?_ (within_access ..)
      exact .refl ..
    assumption
  · rename_i v44 v45 v46 v47 h48 v49 v50 v51 h52
    have h53 : Within 32974 v44 v51 := by
      refine (.of_snd h52 ?_)
      refine .step ?_ (within_access ..)
      exact .refl ..
    assumption
  · rename_i v54 v55 v56 v57 h58 v59 v60 v61 h62
    have h63 : Within 32974 v54 v61 := by
      refine (.of_snd h62 ?_)
      refine .step ?_ (within_access ..)
      exact .refl ..
    assumption

theorem within_writeUda (s : State) (j : Nat) (a : Nat) (bs : List Byte) : Within 32974 s (s.writeUda j a bs).snd := by
  unfold State.writeUda
  refine .step ?_ (within_writeFrom ..)
  exact .refl ..

theorem within_rmod (s : State) (j : Nat) (f : StreamRun → StreamRun) : Within 16777216 s (s.rmod j f) := by
  unfold State.rmod
  refine .upd s 16777216 ?_
  exact .refl ..

theorem within_spPut (s : State) (p : Nat) (c : Nat) (o : Nat) (bs : List Byte) : Within 14 s (s.spPut p c o bs) := by
  unfold State.spPut
  refine .step ?_ (within_count ..)
  refine .step ?_ (within_cleanse ..)
  refine .step ?_ (within_wbs ..)
  exact .refl ..

theorem within_arrWrite (s : State) (p : Nat) (c : Nat) (ws : List Word) (a4 : Nat) (a5 : Nat) (a6 : List Byte) : Within 14 s (s.arrWrite p c ws a4 a5 a6) := by
  fun_induction State.arrWrite s p c ws a4 a5 a6
  · rename_i v1 v2 v3
    exact .refl ..
  · rename_i v4 v5 v6 v7 h8
    exact .refl ..
  · rename_i v9 v10 v11 v12 h13 v14 v15 h16 v17 h18
    refine .trans ?_ (h18)
    refine .step ?_ (within_spPut ..)
    exact .refl ..
  · rename_i v19 v20 v21 v22 h23 v24 v25 h26 v27 h28
    refine .trans ?_ (h28)
    refine .step ?_ (within_spPut ..)
    exact .refl ..

theorem within_segmentCredit (s : State) (j : Nat) (e : JEntry) : Within 16777218 s (orSame s id (s.segmentCredit j e)) := by
  unfold State.segmentCredit
  refine .ite_on ?_ ?_
  · refine .mk_some ?_
    exact .refl ..
  · refine .ite_on ?_ ?_
    · refine .mk_none ?_
      exact .refl ..
    · refine .mk_some ?_
      refine .step ?_ (within_rmod ..)
      refine .step ?_ (within_takeCredit ..)
      exact .refl ..

theorem within_countBlock (s : State) (p : Nat) (len : Nat) (stored : Option Nat) : Within 2 s (s.countBlock p len stored) := by
  unfold State.countBlock
  extract_lets +onlyGivenNames x1
  have h2 : Within 2 s x1 := by
    subst x1
    refine .step ?_ (within_count ..)
    refine .step ?_ (within_count ..)
    exact .refl ..
  clear_value x1
  split
  · rename_i v3
    refine .step ?_ (within_count ..)
    assumption
  · rename_i v4
    refine .step ?_ (within_count ..)
    assumption
  · rename_i v5
    refine .step ?_ (within_count ..)
    assumption
  · rename_i v6
    refine .step ?_ (within_count ..)
    assumption
  · rename_i v7 h8 h9 h10 h11
    assumption

theorem within_deliverSegment (s : State) (j : Nat) (e : JEntry) : Within 84967634 s (s.deliverSegment j e) := by
  unfold State.deliverSegment
  extract_lets +onlyGivenNames x1
  have h2 : Within 84967634 s x1 := by
    subst x1
    refine .ite ?_ ?_
    · exact .refl ..
    · refine .step ?_ (within_raiseMark ..)
      exact .refl ..
  clear_value x1
  extract_lets +onlyGivenNames x3
  have h4 : Within 84967634 s x3 := by
    subst x3
    refine .step ?_ (within_rmod ..)
    refine .step ?_ (within_jmod ..)
    assumption
  clear_value x3
  refine .ite ?_ ?_
  · refine .step ?_ (within_finish ..)
    assumption
  · assumption

theorem within_farErrors (s : State) (o : EccObs) : Within 10 s (s.farErrors o) := by
  unfold State.farErrors
  extract_lets +onlyGivenNames x1
  clear_value x1
  extract_lets +onlyGivenNames x2
  have h3 : Within 10 s x2 := by
    subst x2
    refine .foldl ?_ ?_
    · exact .refl ..
    · intro s4 v5
      refine .step ?_ (within_set ..)
      refine .step ?_ (within_count ..)
      exact .refl ..
  clear_value x2
  refine .foldl ?_ ?_
  · assumption
  · intro s6 v7
    refine .step ?_ (within_poisonGranule ..)
    refine .step ?_ (within_set ..)
    refine .step ?_ (within_count ..)
    exact .refl ..

theorem within_loadBlock (s : State) (j : Nat) (e : JEntry) (p : Nat) (c : Nat) (pos : Nat) : Within 32974 s (s.loadBlock j e p c pos).snd := by
  unfold State.loadBlock
  extract_lets +onlyGivenNames x1
  clear_value x1
  extract_lets +onlyGivenNames x2
  clear_value x2
  extract_lets +onlyGivenNames x3
  clear_value x3
  extract_lets +onlyGivenNames x4
  clear_value x4
  split
  · rename_i v5 v6 v7 h8
    have h9 : Within 32974 s v7 := by
      refine (.of_snd h8 ?_)
      refine .step ?_ (within_readUda ..)
      exact .refl ..
    extract_lets +onlyGivenNames x10
    clear_value x10
    split
    · rename_i v11 v12 v13 h14
      have h15 : Within 32974 s v7 := by
        refine (.of_snd h8 ?_)
        refine .step ?_ (within_readUda ..)
        exact .refl ..
      have h16 : Within 32974 s v13 := by
        refine (.of_snd h14 ?_)
        refine .step ?_ (within_readUda ..)
        assumption
      split
      · rename_i v17 v18 h19
        have h20 : Within 32974 s v7 := by
          refine (.of_snd h8 ?_)
          refine .step ?_ (within_readUda ..)
          exact .refl ..
        have h21 : Within 32974 s v13 := by
          refine (.of_snd h14 ?_)
          refine .step ?_ (within_readUda ..)
          assumption
        refine .mk_snd ?_
        refine .step ?_ (within_spPut ..)
        refine .step ?_ (within_countBlock ..)
        assumption
      · rename_i v22 v23 h24
        have h25 : Within 32974 s v7 := by
          refine (.of_snd h8 ?_)
          refine .step ?_ (within_readUda ..)
          exact .refl ..
        have h26 : Within 32974 s v13 := by
          refine (.of_snd h14 ?_)
          refine .step ?_ (within_readUda ..)
          assumption
        refine .mk_snd ?_
        refine .step ?_ (within_set ..)
        refine .step ?_ (within_set ..)
        refine .step ?_ (within_set ..)
        refine .step ?_ (within_count ..)
        assumption
    · rename_i v27 v28 v29 h30 h31
      have h32 : Within 32974 s v7 := by
        refine (.of_snd h8 ?_)
        refine .step ?_ (within_readUda ..)
        exact .refl ..
      have h33 : Within 32974 s v29 := by
        refine (.of_snd h31 ?_)
        refine .step ?_ (within_readUda ..)
        assumption
      assumption
  · rename_i v34 v35 v36 h37 h38
    have h39 : Within 32974 s v36 := by
      refine (.of_snd h38 ?_)
      refine .step ?_ (within_readUda ..)
      exact .refl ..
    assumption

theorem within_loadAtom (s : State) (j : Nat) (e : JEntry) (p : Nat) (c : Nat) (pos : Nat) : Within 32974 s (s.loadAtom j e p c pos).snd := by
  unfold State.loadAtom
  extract_lets +onlyGivenNames x1
  clear_value x1
  extract_lets +onlyGivenNames x2
  clear_value x2
  extract_lets +onlyGivenNames x3
  clear_value x3
  refine .ite_on ?_ ?_
  · refine .step ?_ (within_loadBlock ..)
    exact .refl ..
  · split
    · rename_i v4 v5 v6 h7
      have h8 : Within 32974 s v6 := by
        refine (.of_snd h7 ?_)
        refine .step ?_ (within_readUda ..)
        exact .refl ..
      refine .ite_on ?_ ?_
      · split
        · rename_i v9 v10 v11 h12
          have h13 : Within 32974 s v6 := by
            refine (.of_snd h7 ?_)
            refine .step ?_ (within_readUda ..)
            exact .refl ..
          have h14 : Within 32974 s v11 := by
            refine (.of_snd h12 ?_)
            refine .step ?_ (within_readUda ..)
            assumption
          refine .mk_snd ?_
          refine .step ?_ (within_spPut ..)
          refine .step ?_ (within_spPut ..)
          assumption
        · rename_i v15 v16 v17 h18 h19
          have h20 : Within 32974 s v6 := by
            refine (.of_snd h7 ?_)
            refine .step ?_ (within_readUda ..)
            exact .refl ..
          have h21 : Within 32974 s v17 := by
            refine (.of_snd h19 ?_)
            refine .step ?_ (within_readUda ..)
            assumption
          assumption
      · refine .mk_snd ?_
        refine .step ?_ (within_spPut ..)
        assumption
    · rename_i v22 v23 v24 h25 h26
      have h27 : Within 32974 s v24 := by
        refine (.of_snd h26 ?_)
        refine .step ?_ (within_readUda ..)
        exact .refl ..
      assumption

theorem within_prefetchAtom (s : State) (j : Nat) (e : JEntry) (pos : Nat) : Within 32962 s (s.prefetchAtom j e pos).snd := by
  unfold State.prefetchAtom
  extract_lets +onlyGivenNames x1
  clear_value x1
  split
  · rename_i v2 v3 v4 h5
    have h6 : Within 32962 s v4 := by
      refine (.of_snd h5 ?_)
      refine .step ?_ (within_access ..)
      exact .refl ..
    refine .mk_snd ?_
    refine .step ?_ (within_unpinAll ..)
    assumption
  · rename_i v7 v8 v9 h10
    have h11 : Within 32962 s v9 := by
      refine (.of_snd h10 ?_)
      refine .step ?_ (within_access ..)
      exact .refl ..
    assumption
  · rename_i v12 v13 v14 h15
    have h16 : Within 32962 s v14 := by
      refine (.of_snd h15 ?_)
      refine .step ?_ (within_access ..)
      exact .refl ..
    assumption
  · rename_i v17 v18 v19 h20
    have h21 : Within 32962 s v19 := by
      refine (.of_snd h20 ?_)
      refine .step ?_ (within_access ..)
      exact .refl ..
    assumption

theorem within_storeBlock (s : State) (j : Nat) (p : Nat) (c : Nat) (pos : Nat) (ws : List Word) (bs : List Byte) : Within 32974 s (s.storeBlock j p c pos ws bs).snd := by
  unfold State.storeBlock
  extract_lets +onlyGivenNames x1
  clear_value x1
  extract_lets +onlyGivenNames x2
  clear_value x2
  extract_lets +onlyGivenNames x3
  clear_value x3
  extract_lets +onlyGivenNames x4
  clear_value x4
  extract_lets +onlyGivenNames x5
  clear_value x5
  split
  · rename_i v6 v7 v8 h9
    have h10 : Within 32974 s v8 := by
      refine (.of_snd h9 ?_)
      refine .step ?_ (within_writeUda ..)
      exact .refl ..
    split
    · rename_i v11 v12 v13 h14
      have h15 : Within 32974 s v8 := by
        refine (.of_snd h9 ?_)
        refine .step ?_ (within_writeUda ..)
        exact .refl ..
      have h16 : Within 32974 s v13 := by
        refine (.of_snd h14 ?_)
        refine .step ?_ (within_writeUda ..)
        assumption
      refine .mk_snd ?_
      refine .step ?_ (within_count ..)
      refine .step ?_ (within_countBlock ..)
      assumption
    · rename_i v17 v18 v19 h20 h21
      have h22 : Within 32974 s v8 := by
        refine (.of_snd h9 ?_)
        refine .step ?_ (within_writeUda ..)
        exact .refl ..
      have h23 : Within 32974 s v19 := by
        refine (.of_snd h21 ?_)
        refine .step ?_ (within_writeUda ..)
        assumption
      assumption
  · rename_i v24 v25 v26 h27 h28
    have h29 : Within 32974 s v26 := by
      refine (.of_snd h28 ?_)
      refine .step ?_ (within_writeUda ..)
      exact .refl ..
    assumption

theorem within_storeAtom (s : State) (j : Nat) (e : JEntry) (p : Nat) (c : Nat) (pos : Nat) : Within 32974 s (s.storeAtom j e p c pos).snd := by
  unfold State.storeAtom
  extract_lets +onlyGivenNames x1
  clear_value x1
  extract_lets +onlyGivenNames x2
  clear_value x2
  extract_lets +onlyGivenNames x3
  clear_value x3
  split
  · rename_i v4 h5
    refine .mk_snd ?_
    exact .refl ..
  · rename_i v6 v7 h8
    refine .ite_on ?_ ?_
    · refine .step ?_ (within_storeBlock ..)
      exact .refl ..
    · split
      · rename_i v9 v10 v11 h12
        have h13 : Within 32974 s v11 := by
          refine (.of_snd h12 ?_)
          refine .step ?_ (within_writeUda ..)
          exact .refl ..
        extract_lets +onlyGivenNames x14
        have h15 : Within 32974 s x14 := by
          subst x14
          refine .step ?_ (within_count ..)
          assumption
        clear_value x14
        refine .ite_on ?_ ?_
        · split
          · rename_i v16 h17
            have h18 : Within 32974 s v11 := by
              refine (.of_snd h12 ?_)
              refine .step ?_ (within_writeUda ..)
              exact .refl ..
            assumption
          · rename_i v19 v20 h21
            have h22 : Within 32974 s v11 := by
              refine (.of_snd h12 ?_)
              refine .step ?_ (within_writeUda ..)
              exact .refl ..
            extract_lets +onlyGivenNames x23
            have h24 : Within 32974 s x23.2 := by
              subst x23
              refine .step ?_ (within_writeUda ..)
              assumption
            clear_value x23
            refine .mk_snd ?_
            refine .step ?_ (within_count ..)
            assumption
        · assumption
      · rename_i v25 v26 v27 h28 h29
        have h30 : Within 32974 s v27 := by
          refine (.of_snd h29 ?_)
          refine .step ?_ (within_writeUda ..)
          exact .refl ..
        assumption

theorem within_streamErrors (s : State) (p : Nat) (o : StreamObs) : Within 10 s (s.streamErrors p o) := by
  unfold State.streamErrors
  refine .step ?_ (within_spErrors ..)
  refine .step ?_ (within_farErrors ..)
  exact .refl ..

theorem within_withCredit {n j op : Nat} {obs : StreamObs} {s0 s : State} {f : State → JEntry → Nat → Nat → State} (h : Within n s0 s)
    (k : ∀ t e p c, Within n t (f t e p c)) (hm : 16777226 ||| n = n := by decide) : Within n s0 (s.withCredit j op obs f) := by
  refine h.trans ?_
  unfold State.withCredit
  split
  · exact .refl ..
  · next e p c _ =>
    refine .ite (.refl ..) ?_
    extract_lets +onlyGivenNames x
    have hx : Within 16777226 s x := .step (.refl ..) (within_streamErrors ..)
    clear_value x
    split
    · exact (hx.step (within_rmod ..)).mono hm
    · next t ht => exact ((Within.of_some (b := s) ht (.orStep hx (within_segmentCredit ..) (.refl ..))).mono hm).trans (k ..)

theorem within_winSettle (s : State) (w : Nat) : Within 8388610 s (s.winSettle w) := by
  unfold State.winSettle
  refine .ite ?_ ?_
  · refine .step ?_ (within_capChange ..)
    refine .step ?_ (within_nmod ..)
    refine .step ?_ (within_set ..)
    exact .refl ..
  · exact .refl ..

theorem within_winClose (s : State) (w : Nat) : Within 8388610 s (orSame s id (s.winClose w)) := by
  unfold State.winClose
  refine .ite_on ?_ ?_
  · refine .mk_none ?_
    exact .refl ..
  · refine .mk_some ?_
    refine .step ?_ (within_winSettle ..)
    refine .step ?_ (within_capChange ..)
    refine .step ?_ (within_set ..)
    exact .refl ..

theorem within_arrMove (s : State) (j : Nat) (e : JEntry) (p : Nat) (c : Nat) (a5 : Nat) (a6 : List Byte) : Within 16777230 s (s.arrMove j e p c a5 a6).snd := by
  fun_induction State.arrMove s j e p c a5 a6
  · rename_i v1 v2
    refine .mk_snd ?_
    exact .refl ..
  · rename_i v3 v4 v5 h6
    refine .mk_snd ?_
    exact .refl ..
  · rename_i v7 v8 v9 h10 v11 v12 v13 h14 h15 h16
    refine .mk_snd ?_
    exact .refl ..
  · rename_i v17 v18 v19 h20 v21 v22 v23 v24 h25 v26 h27 h28
    have h29 : Within 16777230 v17 v26 := by
      refine (.of_some (b := v17) h27 ?_)
      refine .orStep ?_ (within_segmentCredit ..) ?_
      · refine .step ?_ (within_rmod ..)
        exact .refl ..
      · exact .refl ..
    subst v24
    dsimp -zeta only
    refine .trans ?_ (h28 _)
    refine .step ?_ (within_rmod ..)
    refine .step ?_ (within_arrWrite ..)
    assumption
  · rename_i v30 v31 v32 h33 v34 v35 v36 v37 h38 h39
    subst v37
    dsimp -zeta only
    refine .trans ?_ (h39 _)
    refine .step ?_ (within_rmod ..)
    refine .step ?_ (within_arrWrite ..)
    exact .refl ..

theorem within_askRemote (s : State) (j : Nat) (e : JEntry) (a3 : Nat) : Within 25165826 s (s.askRemote j e a3) := by
  fun_induction State.askRemote s j e a3
  · rename_i v1
    exact .refl ..
  · rename_i v2 v3 v4 v5 h6
    refine .step ?_ (within_rmod ..)
    exact .refl ..
  · rename_i v7 v8 v9 v10 h11 h12
    refine .step ?_ (within_rmod ..)
    exact .refl ..
  · rename_i v13 v14 v15 v16 h17 v18 h19 h20
    have h21 : Within 25165826 v13 v18 := by
      refine (.of_some (b := v13) h19 ?_)
      refine .orStep ?_ (within_segmentCredit ..) ?_
      · exact .refl ..
      · exact .refl ..
    refine .step ?_ (within_rmod ..)
    assumption
  · rename_i v22 v23 v24 v25 h26 v27 h28 v29 h30 v31 v32 v33 v34 v35 v36 h37
    have h38 : Within 25165826 v22 v27 := by
      refine (.of_some (b := v22) h28 ?_)
      refine .orStep ?_ (within_segmentCredit ..) ?_
      · exact .refl ..
      · exact .refl ..
    refine .trans ?_ (h37)
    subst v36
    refine .step ?_ (within_sendMsg ..)
    subst v35
    refine .step ?_ (within_rmod ..)
    subst v34
    refine .step ?_ (within_nmod ..)
    assumption

theorem within_putRx (s : State) (src : Nat) (slot : Nat) (f : RxFlow) : Within 8388608 s (s.putRx src slot f) := by
  unfold State.putRx
  refine .step ?_ (within_nmod ..)
  exact .refl ..

theorem within_sendAck (s : State) (src : Nat) (slot : Nat) (f : RxFlow) : Within 8388608 s (s.sendAck src slot f) := by
  unfold State.sendAck
  refine .step ?_ (within_sendMsg ..)
  exact .refl ..

theorem within_commitWrite (s : State) (m : Msg) (f : RxFlow) : Within 8388610 s (s.commitWrite m f) := by
  unfold State.commitWrite
  extract_lets +onlyGivenNames x1
  have h2 : Within 8388610 s x1 := by
    subst x1
    refine .step ?_ (within_count ..)
    refine .step ?_ (within_putRx ..)
    exact .refl ..
  clear_value x1
  extract_lets +onlyGivenNames x3
  clear_value x3
  extract_lets +onlyGivenNames x4
  clear_value x4
  extract_lets +onlyGivenNames x5
  have h6 : Within 8388610 s x5 := by
    subst x5
    refine .ite ?_ ?_
    · refine .step ?_ (within_raiseMark ..)
      assumption
    · assumption
  clear_value x5
  refine .step ?_ (within_winSettle ..)
  refine .step ?_ (within_sendAck ..)
  assumption

theorem within_countRun (s : State) (p : Nat) (ws : List Word) (r : Nat) (k : Nat) (n : Nat) : Within 2 s (s.countRun p ws r k n) := by
  unfold State.countRun
  refine .ite ?_ ?_
  · refine .foldl ?_ ?_
    · exact .refl ..
    · intro s1 v2
      extract_lets +onlyGivenNames x3
      clear_value x3
      refine .step ?_ (within_countBlock ..)
      exact .refl ..
  · exact .refl ..

theorem within_txFlow (s : State) (dst : Nat) (slot : Nat) : Within 8388608 s (orSame s Prod.snd (s.txFlow dst slot)) := by
  unfold State.txFlow
  split
  · rename_i v1 v2 h3
    refine .mk_someSnd ?_
    exact .refl ..
  · rename_i v4 h5
    extract_lets +onlyGivenNames x6
    clear_value x6
    extract_lets +onlyGivenNames x7
    clear_value x7
    extract_lets +onlyGivenNames x8
    clear_value x8
    refine .ite_on ?_ ?_
    · refine .mk_none ?_
      exact .refl ..
    · extract_lets +onlyGivenNames x9
      clear_value x9
      refine .mk_someSnd ?_
      refine .step ?_ (within_nmod ..)
      exact .refl ..

theorem within_sendWrite (s : State) (dst : Nat) (slot : Nat) (f : TxFlow) (x : SentMsg) (ws : List Word) (body : List Byte) : Within 8388608 s (s.sendWrite dst slot f x ws body) := by
  unfold State.sendWrite
  refine .step ?_ (within_sendMsg ..)
  exact .refl ..

theorem within_sendEmpty (s : State) (j : Nat) (ws : List Word) : Within 8388608 s (s.sendEmpty j ws) := by
  unfold State.sendEmpty
  extract_lets +onlyGivenNames x1
  clear_value x1
  extract_lets +onlyGivenNames x2
  clear_value x2
  split
  · rename_i v3 h4
    exact .refl ..
  · rename_i v5 v6 v7 h8
    have h9 : Within 8388608 s v7 := by
      refine (.of_someSnd (b := s) h8 ?_)
      refine .orStep ?_ (within_txFlow ..) ?_
      · exact .refl ..
      · exact .refl ..
    refine .step ?_ (within_sendWrite ..)
    assumption

theorem within_openArrival (s : State) (ring : Nat) : Within 8388608 s (s.openArrival ring) := by
  unfold State.openArrival
  refine .foldl ?_ ?_
  · exact .refl ..
  · intro s1 v2
    extract_lets +onlyGivenNames x3
    clear_value x3
    extract_lets +onlyGivenNames x4
    clear_value x4
    refine .step ?_ (within_sendAck ..)
    refine .step ?_ (within_putRx ..)
    exact .refl ..

theorem within_dropMsg (s : State) (m : Msg) : Within 8388608 s (s.dropMsg m) := by
  unfold State.dropMsg
  refine .step ?_ (within_nmod ..)
  exact .refl ..

theorem within_winOpen (s : State) (w : Nat) : Within 2 s (orSame s id (s.winOpen w)) := by
  unfold State.winOpen
  refine .ite_on ?_ ?_
  · refine .mk_none ?_
    exact .refl ..
  · refine .ite_on ?_ ?_
    · refine .mk_some ?_
      refine .step ?_ (within_capChange ..)
      refine .step ?_ (within_set ..)
      exact .refl ..
    · refine .mk_some ?_
      refine .step ?_ (within_set ..)
      refine .step ?_ (within_set ..)
      exact .refl ..

theorem within_resendOne (s : State) (dst : Nat) (slot : Nat) (f : TxFlow) (x : SentMsg) : Within 93356242 s (s.resendOne dst slot f x) := by
  unfold State.resendOne
  split
  · rename_i v1 h2
    exact .refl ..
  · rename_i v3 v4 h5
    split
    · rename_i v6 h7
      exact .refl ..
    · rename_i v8 v9 h10
      split
      · rename_i v11 h12
        refine .step ?_ (within_finish ..)
        refine .step ?_ (within_dropSent ..)
        exact .refl ..
      · rename_i v13 v14 h15
        refine .step ?_ (within_sendWrite ..)
        refine .step ?_ (within_countRun ..)
        exact .refl ..

theorem within_wakeByMsg (s : State) : Within 1073741824 s s.wakeByMsg := by
  unfold State.wakeByMsg
  refine .ite ?_ ?_
  · refine .step ?_ (within_wake ..)
    exact .refl ..
  · exact .refl ..

theorem within_refuse (s : State) (m : Msg) (reason : Nat) : Within 8388610 s (s.refuse m reason) := by
  unfold State.refuse
  extract_lets +onlyGivenNames x1
  have h2 : Within 8388610 s x1 := by
    subst x1
    refine .step ?_ (within_count ..)
    refine .step ?_ (within_count ..)
    exact .refl ..
  clear_value x1
  extract_lets +onlyGivenNames x3
  have h4 : Within 8388610 s x3 := by
    subst x3
    refine .step ?_ (within_set ..)
    refine .step ?_ (within_set ..)
    refine .step ?_ (within_set ..)
    assumption
  clear_value x3
  refine .step ?_ (within_winSettle ..)
  refine .step ?_ (within_sendMsg ..)
  assumption

theorem within_writeRing (s : State) (m : Msg) (f : RxFlow) : Within 93356254 s (s.writeRing m f) := by
  unfold State.writeRing
  split
  · rename_i v1 h2
    exact .refl ..
  · rename_i v3 v4 v5 h6
    split
    · rename_i v7 h8
      exact .refl ..
    · rename_i v9 v10 v11 v12 h13
      extract_lets +onlyGivenNames x14
      clear_value x14
      extract_lets +onlyGivenNames x15
      clear_value x15
      extract_lets +onlyGivenNames x16
      clear_value x16
      extract_lets +onlyGivenNames x17
      clear_value x17
      extract_lets +onlyGivenNames x18
      clear_value x18
      extract_lets +onlyGivenNames x19
      clear_value x19
      extract_lets +onlyGivenNames x20
      clear_value x20
      extract_lets +onlyGivenNames x21
      have h22 : Within 93356254 s x21 := by
        subst x21
        refine .step ?_ (within_rmod ..)
        exact .refl ..
      clear_value x21
      extract_lets +onlyGivenNames x23
      have h24 : Within 93356254 s x23.2 := by
        subst x23
        refine .step ?_ (within_arrMove ..)
        assumption
      clear_value x23
      extract_lets +onlyGivenNames x25
      have h26 : Within 93356254 s x25 := by
        subst x25
        assumption
      clear_value x25
      refine .ite ?_ ?_
      · refine .step ?_ (within_nmod ..)
        refine .step ?_ (within_rmod ..)
        assumption
      · extract_lets +onlyGivenNames x27
        have h28 : Within 93356254 s x27 := by
          subst x27
          refine .step ?_ (within_rmod ..)
          assumption
        clear_value x27
        refine .ite ?_ ?_
        · refine .step ?_ (within_finish ..)
          refine .step ?_ (within_refuse ..)
          assumption
        · refine .ite ?_ ?_
          · refine .step ?_ (within_finish ..)
            refine .step ?_ (within_refuse ..)
            assumption
          · extract_lets +onlyGivenNames x29
            clear_value x29
            extract_lets +onlyGivenNames x30
            clear_value x30
            extract_lets +onlyGivenNames x31
            clear_value x31
            refine .step ?_ (within_commitWrite ..)
            refine .step ?_ (within_rmod ..)
            assumption

theorem within_writeTarget (s : State) (bad : List Nat) (a : Nat) (bs : List Byte) : Within 32974 s (s.writeTarget bad a bs).snd := by
  unfold State.writeTarget
  split
  · rename_i v1 v2 h3
    refine .mk_snd ?_
    refine .step ?_ (within_writeUda ..)
    exact .refl ..
  · rename_i v4 h5
    split
    · rename_i v6 v7 v8 h9
      have h10 : Within 32974 s v8 := by
        refine (.of_snd h9 ?_)
        refine .step ?_ (within_writeUda ..)
        exact .refl ..
      assumption
    · rename_i v11 v12 v13 h14 h15
      have h16 : Within 32974 s v13 := by
        refine (.of_snd h15 ?_)
        refine .step ?_ (within_writeUda ..)
        exact .refl ..
      assumption

theorem within_txMod (s : State) (dst : Nat) (slot : Nat) (f : TxFlow → TxFlow) : Within 8388608 s (s.txMod dst slot f) := by
  unfold State.txMod
  refine .step ?_ (within_nmod ..)
  exact .refl ..

theorem within_storeRemote (s : State) (j : Nat) (e : JEntry) (p : Nat) (c : Nat) (u : Nat) : Within 25165826 s (s.storeRemote j e p c u).snd := by
  unfold State.storeRemote
  extract_lets +onlyGivenNames x1
  clear_value x1
  extract_lets +onlyGivenNames x2
  clear_value x2
  extract_lets +onlyGivenNames x3
  clear_value x3
  extract_lets +onlyGivenNames x4
  clear_value x4
  extract_lets +onlyGivenNames x5
  clear_value x5
  extract_lets +onlyGivenNames x6
  clear_value x6
  split
  · rename_i v7 h8
    refine .mk_snd ?_
    exact .refl ..
  · rename_i v9 v10 v11 h12
    have h13 : Within 25165826 s v11 := by
      refine (.of_someSnd (b := s) h12 ?_)
      refine .orStep ?_ (within_txFlow ..) ?_
      · exact .refl ..
      · exact .refl ..
    refine .ite_on ?_ ?_
    · assumption
    · split
      · rename_i v14 h15
        have h16 : Within 25165826 s v11 := by
          refine (.of_someSnd (b := s) h12 ?_)
          refine .orStep ?_ (within_txFlow ..) ?_
          · exact .refl ..
          · exact .refl ..
        assumption
      · rename_i v17 v18 h19
        have h20 : Within 25165826 s v11 := by
          refine (.of_someSnd (b := s) h12 ?_)
          refine .orStep ?_ (within_txFlow ..) ?_
          · exact .refl ..
          · exact .refl ..
        extract_lets +onlyGivenNames x21
        clear_value x21
        extract_lets +onlyGivenNames x22
        clear_value x22
        extract_lets +onlyGivenNames x23
        have h24 : Within 25165826 s x23 := by
          subst x23
          refine .step ?_ (within_txMod ..)
          refine .step ?_ (within_countRun ..)
          assumption
        clear_value x23
        extract_lets +onlyGivenNames x25
        have h26 : Within 25165826 s x25 := by
          subst x25
          refine .step ?_ (within_count ..)
          refine .step ?_ (within_sendWrite ..)
          assumption
        clear_value x25
        refine .mk_snd ?_
        refine .step ?_ (within_rmod ..)
        assumption

theorem within_sendSegment (s : State) (j : Nat) (e : JEntry) (p : Nat) (c : Nat) (a5 : Nat) : Within 93356242 s (s.sendSegment j e p c a5) := by
  fun_induction State.sendSegment s j e p c a5
  · rename_i v1
    exact .refl ..
  · rename_i v2 v3 v4 h5
    refine .step ?_ (within_rmod ..)
    exact .refl ..
  · rename_i v6 v7 v8 h9 h10
    refine .step ?_ (within_rmod ..)
    exact .refl ..
  · rename_i v11 v12 v13 h14 v15 h16 v17 h18 h19
    have h20 : Within 93356242 v11 v15 := by
      refine (.of_some (b := v11) h16 ?_)
      refine .orStep ?_ (within_segmentCredit ..) ?_
      · exact .refl ..
      · exact .refl ..
    have h21 : Within 93356242 v11 v17 := by
      refine (.of_snd h18 ?_)
      refine .step ?_ (within_storeRemote ..)
      assumption
    refine .trans ?_ (h19)
    assumption
  · rename_i v22 v23 v24 h25 v26 h27 v28 v29 h30
    have h31 : Within 93356242 v22 v26 := by
      refine (.of_some (b := v22) h27 ?_)
      refine .orStep ?_ (within_segmentCredit ..) ?_
      · exact .refl ..
      · exact .refl ..
    have h32 : Within 93356242 v22 v29 := by
      refine (.of_snd h30 ?_)
      refine .step ?_ (within_storeRemote ..)
      assumption
    refine .step ?_ (within_rmod ..)
    assumption
  · rename_i v33 v34 v35 h36 v37 h38 v39 v40 h41
    have h42 : Within 93356242 v33 v37 := by
      refine (.of_some (b := v33) h38 ?_)
      refine .orStep ?_ (within_segmentCredit ..) ?_
      · exact .refl ..
      · exact .refl ..
    have h43 : Within 93356242 v33 v40 := by
      refine (.of_snd h41 ?_)
      refine .step ?_ (within_storeRemote ..)
      assumption
    refine .step ?_ (within_finish ..)
    refine .step ?_ (within_dropSent ..)
    assumption

theorem within_takeMsg (s : State) (t : Nat) : Within 8388608 s (orSame s Prod.snd (s.takeMsg t)) := by
  unfold State.takeMsg
  refine .map ?_ ?_
  · exact .refl ..
  · intro v1 h2
    refine .mk_snd ?_
    refine .step ?_ (within_dropMsg ..)
    exact .refl ..

theorem within_txSettle (s : State) (dst : Nat) (slot : Nat) : Within 8388608 s (s.txSettle dst slot) := by
  unfold State.txSettle
  split
  · rename_i v1 h2
    exact .refl ..
  · rename_i v3 v4 h5
    extract_lets +onlyGivenNames x6
    clear_value x6
    refine .ite ?_ ?_
    · refine .step ?_ (within_nmod ..)
      exact .refl ..
    · exact .refl ..

theorem within_execAck (s : State) : Within 8388608 s (nextOr s (execAck s)) := by
  unfold execAck
  split
  · rename_i v1 h2
    refine .mk_next ?_
    exact .refl ..
  · rename_i v3 v4 v5 h6
    have h7 : Within 8388608 s v5 := by
      refine (.of_someSnd (b := s) h6 ?_)
      refine .orStep ?_ (within_takeMsg ..) ?_
      · exact .refl ..
      · exact .refl ..
    split
    · rename_i v8 h9
      have h10 : Within 8388608 s v5 := by
        refine (.of_someSnd (b := s) h6 ?_)
        refine .orStep ?_ (within_takeMsg ..) ?_
        · exact .refl ..
        · exact .refl ..
      refine .mk_next ?_
      assumption
    · rename_i v11 v12 h13
      have h14 : Within 8388608 s v5 := by
        refine (.of_someSnd (b := s) h6 ?_)
        refine .orStep ?_ (within_takeMsg ..) ?_
        · exact .refl ..
        · exact .refl ..
      refine .ite_on ?_ ?_
      · refine .mk_next ?_
        assumption
      · extract_lets +onlyGivenNames x15
        clear_value x15
        refine .mk_next ?_
        refine .step ?_ (within_txSettle ..)
        refine .step ?_ (within_txMod ..)
        assumption

theorem within_execReadData (s : State) : Within 25165838 s (nextOr s (execReadData s)) := by
  unfold execReadData
  split
  · rename_i v1 h2
    refine .mk_next ?_
    exact .refl ..
  · rename_i v3 v4 v5 h6
    have h7 : Within 25165838 s v5 := by
      refine (.of_someSnd (b := s) h6 ?_)
      refine .orStep ?_ (within_takeMsg ..) ?_
      · exact .refl ..
      · exact .refl ..
    split
    · rename_i v8 h9
      have h10 : Within 25165838 s v5 := by
        refine (.of_someSnd (b := s) h6 ?_)
        refine .orStep ?_ (within_takeMsg ..) ?_
        · exact .refl ..
        · exact .refl ..
      refine .mk_next ?_
      refine .step ?_ (within_count ..)
      assumption
    · rename_i v11 v12 h13
      have h14 : Within 25165838 s v5 := by
        refine (.of_someSnd (b := s) h6 ?_)
        refine .orStep ?_ (within_takeMsg ..) ?_
        · exact .refl ..
        · exact .refl ..
      extract_lets +onlyGivenNames x15
      have h16 : Within 25165838 s x15 := by
        subst x15
        refine .step ?_ (within_nmod ..)
        assumption
      clear_value x15
      split
      · rename_i v17 h18
        have h19 : Within 25165838 s v5 := by
          refine (.of_someSnd (b := s) h6 ?_)
          refine .orStep ?_ (within_takeMsg ..) ?_
          · exact .refl ..
          · exact .refl ..
        refine .mk_next ?_
        refine .step ?_ (within_count ..)
        assumption
      · rename_i v20 v21 h22
        have h23 : Within 25165838 s v5 := by
          refine (.of_someSnd (b := s) h6 ?_)
          refine .orStep ?_ (within_takeMsg ..) ?_
          · exact .refl ..
          · exact .refl ..
        split
        · rename_i v24 h25
          have h26 : Within 25165838 s v5 := by
            refine (.of_someSnd (b := s) h6 ?_)
            refine .orStep ?_ (within_takeMsg ..) ?_
            · exact .refl ..
            · exact .refl ..
          refine .mk_next ?_
          refine .step ?_ (within_count ..)
          assumption
        · rename_i v27 v28 h29
          have h30 : Within 25165838 s v5 := by
            refine (.of_someSnd (b := s) h6 ?_)
            refine .orStep ?_ (within_takeMsg ..) ?_
            · exact .refl ..
            · exact .refl ..
          refine .ite_on ?_ ?_
          · refine .mk_next ?_
            refine .step ?_ (within_count ..)
            assumption
          · extract_lets +onlyGivenNames x31
            clear_value x31
            extract_lets +onlyGivenNames x32
            clear_value x32
            refine .mk_next ?_
            refine .step ?_ (within_rmod ..)
            refine .step ?_ (within_spPut ..)
            assumption

theorem within_execReadReq (bad : List Nat) (s : State) : Within 1082163402 s (nextOr s (execReadReq bad s)) := by
  unfold execReadReq
  extract_lets +onlyGivenNames x1
  have h2 : Within 1082163402 s x1 := by
    subst x1
    refine .step ?_ (within_wakeByMsg ..)
    exact .refl ..
  clear_value x1
  extract_lets +onlyGivenNames x3
  clear_value x3
  split
  · rename_i v4 h5
    refine .mk_next ?_
    assumption
  · rename_i v6 v7 h8
    extract_lets +onlyGivenNames x9
    have h10 : Within 1082163402 s x9 := by
      subst x9
      refine .step ?_ (within_dropMsg ..)
      assumption
    clear_value x9
    extract_lets +onlyGivenNames x11
    clear_value x11
    split
    · rename_i v12 v13 h14
      refine .mk_next ?_
      refine .step ?_ (within_refuse ..)
      assumption
    · rename_i v15 h16
      extract_lets +onlyGivenNames x17
      clear_value x17
      refine .ite_on ?_ ?_
      · refine .mk_next ?_
        refine .step ?_ (within_refuse ..)
        refine .step ?_ (within_farErrors ..)
        assumption
      · split
        · rename_i v18 v19 v20 h21
          have h22 : Within 1082163402 s v20 := by
            refine (.of_snd h21 ?_)
            refine .step ?_ (within_readUda ..)
            assumption
          refine .mk_next ?_
          refine .step ?_ (within_sendMsg ..)
          assumption
        · rename_i v23 v24 v25 h26 h27
          have h28 : Within 1082163402 s v25 := by
            refine (.of_snd h27 ?_)
            refine .step ?_ (within_readUda ..)
            assumption
          refine .mk_next ?_
          refine .step ?_ (within_refuse ..)
          assumption

theorem within_execRefuse (s : State) : Within 93356242 s (nextOr s (execRefuse s)) := by
  unfold execRefuse
  split
  · rename_i v1 h2
    refine .mk_next ?_
    exact .refl ..
  · rename_i v3 v4 v5 h6
    have h7 : Within 93356242 s v5 := by
      refine (.of_someSnd (b := s) h6 ?_)
      refine .orStep ?_ (within_takeMsg ..) ?_
      · exact .refl ..
      · exact .refl ..
    extract_lets +onlyGivenNames x8
    clear_value x8
    refine .ite_on ?_ ?_
    · extract_lets +onlyGivenNames x9
      have h10 : Within 93356242 s x9 := by
        subst x9
        refine .step ?_ (within_finish ..)
        refine .step ?_ (within_dropSent ..)
        assumption
      clear_value x9
      extract_lets +onlyGivenNames x11
      have h12 : Within 93356242 s x11 := by
        subst x11
        refine .step ?_ (within_nmod ..)
        assumption
      clear_value x11
      refine .mk_next ?_
      assumption
    · split
      · rename_i v13 v14 h15
        have h16 : Within 93356242 s v5 := by
          refine (.of_someSnd (b := s) h6 ?_)
          refine .orStep ?_ (within_takeMsg ..) ?_
          · exact .refl ..
          · exact .refl ..
        refine .ite_on ?_ ?_
        · refine .mk_next ?_
          refine .step ?_ (within_finish ..)
          refine .step ?_ (within_nmod ..)
          assumption
        · refine .mk_next ?_
          refine .step ?_ (within_count ..)
          assumption
      · rename_i v17 h18
        have h19 : Within 93356242 s v5 := by
          refine (.of_someSnd (b := s) h6 ?_)
          refine .orStep ?_ (within_takeMsg ..) ?_
          · exact .refl ..
          · exact .refl ..
        refine .mk_next ?_
        refine .step ?_ (within_count ..)
        assumption

theorem within_execRemoteReadTimeout (rtag : Nat) (s : State) : Within 93356242 s (nextOr s (execRemoteReadTimeout rtag s)) := by
  unfold execRemoteReadTimeout
  split
  · rename_i v1 h2
    refine .mk_next ?_
    exact .refl ..
  · rename_i v3 v4 h5
    refine .mk_next ?_
    refine .step ?_ (within_finish ..)
    refine .step ?_ (within_nmod ..)
    exact .refl ..

theorem within_execResend (dst : Nat) (slot : Nat) (s : State) : Within 93356242 s (nextOr s (execResend dst slot s)) := by
  unfold execResend
  split
  · rename_i v1 h2
    refine .mk_next ?_
    exact .refl ..
  · rename_i v3 v4 h5
    refine .ite_on ?_ ?_
    · refine .mk_next ?_
      exact .refl ..
    · refine .ite_on ?_ ?_
      · extract_lets +onlyGivenNames x6
        clear_value x6
        extract_lets +onlyGivenNames x7
        have h8 : Within 93356242 s x7 := by
          subst x7
          refine .foldl ?_ ?_
          · exact .refl ..
          · intro s9 v10
            refine .step ?_ (within_finish ..)
            refine .step ?_ (within_dropSent ..)
            exact .refl ..
        clear_value x7
        refine .mk_next ?_
        refine .step ?_ (within_nmod ..)
        assumption
      · extract_lets +onlyGivenNames x11
        have h12 : Within 93356242 s x11 := by
          subst x11
          refine .step ?_ (within_txMod ..)
          refine .step ?_ (within_count ..)
          exact .refl ..
        clear_value x11
        refine .mk_next ?_
        refine .foldl ?_ ?_
        · assumption
        · intro s13 v14
          refine .step ?_ (within_resendOne ..)
          exact .refl ..

theorem within_execRtagQuarantine (rtag : Nat) (s : State) : Within 8388608 s (nextOr s (execRtagQuarantine rtag s)) := by
  unfold execRtagQuarantine
  refine .mk_next ?_
  refine .step ?_ (within_nmod ..)
  exact .refl ..

end Sys2Proof.Machine
end

