-- ==== Sys2Proof/Laws/Within4.lean ====
section
/-! SUPPORT. What the operations of Stream, Grad, Vote, Collective may change (see Laws/Within.lean). -/

set_option Elab.async false

namespace Sys2Proof.Machine

theorem within_askHost (s : State) (j : Nat) (e : JEntry) (a3 : Nat) : Within 16777282 s (s.askHost j e a3) := by
  fun_induction State.askHost s j e a3
  · rename_i v1
    exact .refl ..
  · rename_i v2 v3 v4 v5 h6
    refine .step ?_ (within_rmod ..)
    exact .refl ..
  · rename_i v7 v8 v9 v10 h11 h12
    refine .step ?_ (within_rmod ..)
    exact .refl ..
  · rename_i v13 v14 v15 v16 h17 v18 h19 v20 h21
    have h22 : Within 16777282 v13 v18 := by
      refine (.of_some (b := v13) h19 ?_)
      refine .orStep ?_ (within_segmentCredit ..) ?_
      · exact .refl ..
      · exact .refl ..
    refine .step ?_ (within_rmod ..)
    assumption
  · rename_i v23 v24 v25 v26 h27 v28 h29 v30 v31 h32 h33
    have h34 : Within 16777282 v23 v28 := by
      refine (.of_some (b := v23) h29 ?_)
      refine .orStep ?_ (within_segmentCredit ..) ?_
      · exact .refl ..
      · exact .refl ..
    have h35 : Within 16777282 v23 v31 := by
      refine (.of_some (b := v23) h32 ?_)
      refine .orStep ?_ (within_issueRead ..) ?_
      · assumption
      · exact .refl ..
    refine .trans ?_ (h33)
    refine .step ?_ (within_rmod ..)
    assumption

theorem within_countHalt (s : State) (p : Nat) (reason : Nat) : Within 2 s (s.countHalt p reason) := by
  unfold State.countHalt
  split
  · rename_i v1
    refine .step ?_ (within_count ..)
    exact .refl ..
  · rename_i v2
    refine .step ?_ (within_count ..)
    exact .refl ..
  · rename_i v3
    refine .step ?_ (within_count ..)
    exact .refl ..
  · rename_i v4
    refine .step ?_ (within_count ..)
    exact .refl ..
  · rename_i v5 h6 h7 h8 h9
    exact .refl ..

theorem within_deliverArrived (s : State) (j : Nat) (e : JEntry) : Within 18 s (s.deliverArrived j e) := by
  unfold State.deliverArrived
  extract_lets +onlyGivenNames x1
  have h2 : Within 18 s x1 := by
    subst x1
    refine .ite ?_ ?_
    · exact .refl ..
    · refine .step ?_ (within_raiseMark ..)
      exact .refl ..
  clear_value x1
  refine .step ?_ (within_jmod ..)
  assumption

theorem within_hostLoaded (s : State) (j : Nat) (u : Nat) (n : Nat) (bs : List Byte) : Within 16777230 s (s.hostLoaded j u n bs) := by
  unfold State.hostLoaded
  split
  · rename_i v1 h2
    exact .refl ..
  · rename_i v3 v4 h5
    split
    · rename_i v6 h7
      exact .refl ..
    · rename_i v8 v9 h10
      refine .ite ?_ ?_
      · exact .refl ..
      · extract_lets +onlyGivenNames x11
        clear_value x11
        extract_lets +onlyGivenNames x12
        clear_value x12
        extract_lets +onlyGivenNames x13
        clear_value x13
        refine .step ?_ (within_rmod ..)
        refine .step ?_ (within_spPut ..)
        exact .refl ..

theorem within_moveAtoms {n j lim fuel : Nat} {one : State → Nat → Moving × State} {s0 s : State} (h : Within n s0 s) (k : ∀ t q, Within n t (one t q).2)
    (hm : 84967634 ||| n = n := by decide) : Within n s0 (s.moveAtoms j one lim fuel) := by
  have up : ∀ {a b : State}, Within 84967634 a b → Within n a b := fun x => x.mono hm
  induction fuel generalizing s with
  | zero => exact h
  | succ m ih =>
    unfold State.moveAtoms
    refine .ite (h.trans (up (.step (.refl ..) (within_rmod ..)))) ?_
    have x := k s (s.run j).pos
    split <;> next e => rw [e] at x; first
      | exact ih ((h.trans x).trans (up (.step (.refl ..) (within_rmod ..))))
      | exact (h.trans x).trans (up (.step (.refl ..) (within_rmod ..)))
      | exact (h.trans x).trans (up (.step (.refl ..) (within_finish ..)))

theorem within_storeHost (s : State) (j : Nat) (e : JEntry) (p : Nat) (c : Nat) (a5 : Nat) : Within 84967634 s (s.storeHost j e p c a5) := by
  fun_induction State.storeHost s j e p c a5
  · rename_i v1
    exact .refl ..
  · rename_i v2 v3 v4 v5 h6
    refine .step ?_ (within_rmod ..)
    exact .refl ..
  · rename_i v7 v8 v9 v10 h11 h12
    refine .step ?_ (within_rmod ..)
    exact .refl ..
  · rename_i v13 v14 v15 v16 h17 v18 h19 v20 h21
    have h22 : Within 84967634 v13 v18 := by
      refine (.of_some (b := v13) h19 ?_)
      refine .orStep ?_ (within_segmentCredit ..) ?_
      · exact .refl ..
      · exact .refl ..
    refine .step ?_ (within_finish ..)
    assumption
  · rename_i v23 v24 v25 v26 h27 v28 h29 v30 v31 h32 h33
    have h34 : Within 84967634 v23 v28 := by
      refine (.of_some (b := v23) h29 ?_)
      refine .orStep ?_ (within_segmentCredit ..) ?_
      · exact .refl ..
      · exact .refl ..
    refine .step ?_ (within_rmod ..)
    assumption
  · rename_i v35 v36 v37 v38 h39 v40 h41 v42 v43 h44 v45 h46 h47
    have h48 : Within 84967634 v35 v40 := by
      refine (.of_some (b := v35) h41 ?_)
      refine .orStep ?_ (within_segmentCredit ..) ?_
      · exact .refl ..
      · exact .refl ..
    have h49 : Within 84967634 v35 v45 := by
      refine (.of_some (b := v35) h46 ?_)
      refine .orStep ?_ (within_hostWrite ..) ?_
      · assumption
      · exact .refl ..
    refine .trans ?_ (h47)
    refine .step ?_ (within_rmod ..)
    refine .step ?_ (within_count ..)
    assumption

theorem within_watchdogHalt (s : State) (j : Nat) (e : JEntry) (p : Nat) (n : Nat) : Within 17825810 s (s.watchdogHalt j e p n) := by
  unfold State.watchdogHalt
  extract_lets +onlyGivenNames x1
  clear_value x1
  extract_lets +onlyGivenNames x2
  clear_value x2
  extract_lets +onlyGivenNames x3
  clear_value x3
  extract_lets +onlyGivenNames x4
  have h5 : Within 17825810 s x4 := by
    subst x4
    refine .foldl ?_ ?_
    · exact .refl ..
    · intro s6 v7
      refine .step ?_ (within_freeResv ..)
      exact .refl ..
  clear_value x4
  extract_lets +onlyGivenNames x8
  have h9 : Within 17825810 s x8 := by
    subst x8
    refine .step ?_ (within_jmod ..)
    assumption
  clear_value x8
  refine .step ?_ (within_count ..)
  refine .step ?_ (within_rmod ..)
  assumption

theorem within_execCreditWatchdog (tile : Nat) (s : State) : Within 17826002 s (nextOr s (execCreditWatchdog tile s)) := by
  unfold execCreditWatchdog
  refine .ite_on ?_ ?_
  · refine .mk_next ?_
    exact .refl ..
  · split
    · rename_i v1 h2
      refine .mk_next ?_
      exact .refl ..
    · rename_i v3 v4 h5
      extract_lets +onlyGivenNames x6
      clear_value x6
      extract_lets +onlyGivenNames x7
      clear_value x7
      extract_lets +onlyGivenNames x8
      subst x8
      split
      · rename_i v9 v10 v11 h12
        extract_lets +onlyGivenNames x13
        clear_value x13
        split
        · rename_i v14 v15
          refine .mk_next ?_
          dsimp -zeta only
          refine .foldl ?_ ?_
          · refine .step ?_ (within_watchdogHalt ..)
            exact .refl ..
          · intro s16 v17
            refine .step ?_ (within_rmod ..)
            exact .refl ..
        · rename_i v18
          refine .mk_next ?_
          dsimp -zeta only
          refine .foldl ?_ ?_
          · refine .step ?_ (within_count ..)
            exact .refl ..
          · intro s19 v20
            refine .step ?_ (within_rmod ..)
            exact .refl ..
      · rename_i v21 h22
        split
        · rename_i v23 v24 v25 h26
          refine .mk_next ?_
          dsimp -zeta only
          refine .foldl ?_ ?_
          · refine .step ?_ (within_raise ..)
            refine .step ?_ (within_count ..)
            exact .refl ..
          · intro s27 v28
            refine .step ?_ (within_rmod ..)
            exact .refl ..
        · rename_i v29 h30
          refine .mk_next ?_
          dsimp -zeta only
          refine .foldl ?_ ?_
          · exact .refl ..
          · intro s31 v32
            refine .step ?_ (within_rmod ..)
            exact .refl ..

theorem within_execHalt (jseq : Nat) (s : State) : Within 16777234 s (nextOr s (execHalt jseq s)) := by
  unfold execHalt
  split
  · rename_i v1 h2
    refine .mk_next ?_
    exact .refl ..
  · rename_i v3 v4 v5 v6 h7
    extract_lets +onlyGivenNames x8
    clear_value x8
    extract_lets +onlyGivenNames x9
    clear_value x9
    refine .ite_on ?_ ?_
    · refine .mk_next ?_
      exact .refl ..
    · split
      · rename_i v10 h11
        refine .mk_next ?_
        refine .ite ?_ ?_
        · exact .refl ..
        · refine .step ?_ (within_rmod ..)
          refine .step ?_ (within_count ..)
          exact .refl ..
      · rename_i v12 v13 h14
        refine .mk_next ?_
        refine .step ?_ (within_countHalt ..)
        refine .step ?_ (within_rmod ..)
        refine .step ?_ (within_jmod ..)
        exact .refl ..

theorem within_execLoad (jseq : Nat) (obs : StreamObs) (s : State) : Within 93356254 s (nextOr s (execLoad jseq obs s)) := by
  unfold execLoad
  refine .mk_next ?_
  refine within_withCredit ?_ ?_
  · exact .refl ..
  · intro a1 a2 a3 a4
    extract_lets +onlyGivenNames x5
    clear_value x5
    split
    · rename_i v6 h7
      refine .step ?_ (within_askRemote ..)
      exact .refl ..
    · rename_i v8 h9
      refine .step ?_ (within_askHost ..)
      exact .refl ..
    · rename_i v10 h11 h12
      refine within_moveAtoms ?_ ?_
      · exact .refl ..
      · intro a13 a14
        refine .step ?_ (within_loadAtom ..)
        exact .refl ..

theorem within_execPrefetch (jseq : Nat) (obs : StreamObs) (s : State) : Within 84967642 s (nextOr s (execPrefetch jseq obs s)) := by
  unfold execPrefetch
  split
  · rename_i v1 h2
    refine .mk_next ?_
    exact .refl ..
  · rename_i v3 v4 v5 v6 h7
    refine .ite_on ?_ ?_
    · refine .mk_next ?_
      exact .refl ..
    · extract_lets +onlyGivenNames x8
      clear_value x8
      extract_lets +onlyGivenNames x9
      have h10 : Within 84967642 s x9 := by
        subst x9
        refine within_moveAtoms ?_ ?_
        · refine .step ?_ (within_streamErrors ..)
          exact .refl ..
        · intro a11 a12
          refine .step ?_ (within_prefetchAtom ..)
          exact .refl ..
      clear_value x9
      refine .mk_next ?_
      refine .ite ?_ ?_
      · refine .step ?_ (within_finish ..)
        assumption
      · assumption

theorem within_execReceive (jseq : Nat) (s : State) : Within 84967646 s (nextOr s (execReceive jseq s)) := by
  unfold execReceive
  split
  · rename_i v1 h2
    refine .mk_next ?_
    exact .refl ..
  · rename_i v3 v4 v5 v6 h7
    extract_lets +onlyGivenNames x8
    clear_value x8
    refine .ite_on ?_ ?_
    · refine .mk_next ?_
      exact .refl ..
    · refine .ite_on ?_ ?_
      · refine .mk_next ?_
        refine .ite ?_ ?_
        · refine .step ?_ (within_rmod ..)
          exact .refl ..
        · exact .refl ..
      · extract_lets +onlyGivenNames x9
        clear_value x9
        extract_lets +onlyGivenNames x10
        have h11 : Within 84967646 s x10 := by
          subst x10
          refine .foldl ?_ ?_
          · exact .refl ..
          · intro s12 v13
            refine .step ?_ (within_deliverArrived ..)
            exact .refl ..
        clear_value x10
        extract_lets +onlyGivenNames x14
        have h15 : Within 84967646 s x14 := by
          subst x14
          refine .step ?_ (within_spPut ..)
          assumption
        clear_value x14
        refine .mk_next ?_
        refine .step ?_ (within_finish ..)
        assumption

theorem within_execSegmentDelivered (jseq : Nat) (s : State) : Within 84967634 s (nextOr s (execSegmentDelivered jseq s)) := by
  unfold execSegmentDelivered
  split
  · rename_i v1 h2
    refine .mk_next ?_
    exact .refl ..
  · rename_i v3 v4 h5
    refine .ite_on ?_ ?_
    · refine .mk_next ?_
      exact .refl ..
    · refine .ite_on ?_ ?_
      · refine .mk_next ?_
        refine .ite ?_ ?_
        · refine .step ?_ (within_deliverArrived ..)
          exact .refl ..
        · exact .refl ..
      · refine .mk_next ?_
        refine .ite ?_ ?_
        · refine .step ?_ (within_deliverSegment ..)
          exact .refl ..
        · exact .refl ..

theorem within_execStore (jseq : Nat) (obs : StreamObs) (s : State) : Within 93356254 s (nextOr s (execStore jseq obs s)) := by
  unfold execStore
  refine .mk_next ?_
  refine within_withCredit ?_ ?_
  · exact .refl ..
  · intro a1 a2 a3 a4
    extract_lets +onlyGivenNames x5
    clear_value x5
    split
    · rename_i v6 h7
      refine .step ?_ (within_sendSegment ..)
      exact .refl ..
    · rename_i v8 h9
      refine .step ?_ (within_storeHost ..)
      exact .refl ..
    · rename_i v10 h11 h12
      refine within_moveAtoms ?_ ?_
      · exact .refl ..
      · intro a13 a14
        refine .step ?_ (within_storeAtom ..)
        exact .refl ..

theorem within_execStreamResume (tile : Nat) (s : State) : Within 17825808 s (nextOr s (execStreamResume tile s)) := by
  unfold execStreamResume
  refine .ite_on ?_ ?_
  · refine .mk_next ?_
    exact .refl ..
  · split
    · rename_i v1 v2 v3 v4 v5 h6 h7
      refine .ite_on ?_ ?_
      · refine .mk_next ?_
        refine .step ?_ (within_rmod ..)
        refine .step ?_ (within_jmod ..)
        refine .step ?_ (within_takeResv ..)
        exact .refl ..
      · refine .mk_next ?_
        exact .refl ..
    · rename_i v8 v9 h10
      refine .mk_next ?_
      exact .refl ..

theorem within_gPut (s : State) (b : StagedBlock) (x : Nat) (vs : List Nat) (qs : List Nat) : Within 12 s (s.gPut b x vs qs) := by
  unfold State.gPut
  extract_lets +onlyGivenNames x1
  clear_value x1
  extract_lets +onlyGivenNames x2
  have h3 : Within 12 s x2 := by
    subst x2
    refine .step ?_ (within_cleanse ..)
    refine .step ?_ (within_wbs ..)
    exact .refl ..
  clear_value x2
  extract_lets +onlyGivenNames x4
  have h5 : Within 12 s x4 := by
    subst x4
    refine .step ?_ (within_cleanse ..)
    refine .step ?_ (within_wbs ..)
    assumption
  clear_value x4
  refine .step ?_ (within_wbs ..)
  assumption

theorem within_gApply (s : State) (b : StagedBlock) : Within 14 s (s.gApply b) := by
  unfold State.gApply
  refine .ite ?_ ?_
  · exact .refl ..
  · extract_lets +onlyGivenNames x1
    clear_value x1
    extract_lets +onlyGivenNames x2
    have h3 : Within 14 s x2 := by
      subst x2
      refine .step ?_ (within_count ..)
      exact .refl ..
    clear_value x2
    split
    · rename_i v4 h5
      extract_lets +onlyGivenNames x6
      clear_value x6
      extract_lets +onlyGivenNames x7
      have h8 : Within 14 s x7 := by
        subst x7
        refine .step ?_ (within_set ..)
        refine .step ?_ (within_count ..)
        refine .step ?_ (within_gPut ..)
        assumption
      clear_value x7
      refine .ite ?_ ?_
      · assumption
      · refine .step ?_ (within_raiseLatch ..)
        assumption
    · rename_i v9 v10 h11
      extract_lets +onlyGivenNames x12
      clear_value x12
      extract_lets +onlyGivenNames x13
      have h14 : Within 14 s x13 := by
        subst x13
        refine .step ?_ (within_gPut ..)
        assumption
      clear_value x13
      refine .ite ?_ ?_
      · refine .step ?_ (within_set ..)
        refine .step ?_ (within_count ..)
        assumption
      · assumption

theorem within_applySegment (s : State) (g : Nat × List StagedBlock) : Within 33554446 s (s.applySegment g) := by
  unfold State.applySegment
  refine .foldl ?_ ?_
  · refine .upd s 33554432 ?_
    exact .refl ..
  · intro s1 v2
    refine .step ?_ (within_gApply ..)
    exact .refl ..

theorem within_applyAll (s : State) : Within 33554446 s s.applyAll := by
  unfold State.applyAll
  refine .foldl ?_ ?_
  · exact .refl ..
  · intro s1 v2
    refine .step ?_ (within_applySegment ..)
    exact .refl ..

theorem within_execAccum (jseq : Nat) (obs : StreamObs) (s : State) : Within 84967642 s (nextOr s (execAccum jseq obs s)) := by
  unfold execAccum
  refine .mk_next ?_
  refine within_withCredit ?_ ?_
  · exact .refl ..
  · intro a1 a2 a3 a4
    extract_lets +onlyGivenNames x5
    clear_value x5
    extract_lets +onlyGivenNames x6
    clear_value x6
    refine .ite ?_ ?_
    · refine .step ?_ (within_rmod ..)
      exact .refl ..
    · refine .ite ?_ ?_
      · exact .refl ..
      · split
        · rename_i v7 h8
          refine .step ?_ (within_finish ..)
          exact .refl ..
        · rename_i v9 v10 h11
          refine .ite ?_ ?_
          · exact .refl ..
          · refine .step ?_ (within_count ..)
            refine .step ?_ (within_rmod ..)
            exact .refl ..

theorem within_execAccumulateOnWrite (jseq : Nat) (s : State) : Within 33554446 s (nextOr s (execAccumulateOnWrite jseq s)) := by
  unfold execAccumulateOnWrite
  split
  · rename_i v1 h2
    refine .mk_next ?_
    exact .refl ..
  · rename_i v3 v4 h5
    refine .ite_on ?_ ?_
    · refine .mk_next ?_
      exact .refl ..
    · refine .mk_next ?_
      refine .step ?_ (within_applySegment ..)
      exact .refl ..

theorem within_execSegmentCommit (jseq : Nat) (s : State) : Within 126910674 s (nextOr s (execSegmentCommit jseq s)) := by
  unfold execSegmentCommit
  split
  · rename_i v1 h2
    refine .mk_next ?_
    exact .refl ..
  · rename_i v3 v4 v5 v6 h7
    extract_lets +onlyGivenNames x8
    clear_value x8
    refine .ite_on ?_ ?_
    · refine .mk_next ?_
      exact .refl ..
    · split
      · rename_i v9 h10
        refine .mk_next ?_
        exact .refl ..
      · rename_i v11 h12
        refine .mk_next ?_
        refine .step ?_ (within_finish ..)
        exact .refl ..
      · rename_i v13 h14
        extract_lets +onlyGivenNames x15
        clear_value x15
        extract_lets +onlyGivenNames x16
        have h17 : Within 126910674 s x16 := by
          subst x16
          refine .upd s 33554432 ?_
          exact .refl ..
        clear_value x16
        extract_lets +onlyGivenNames x18
        have h19 : Within 126910674 s x18 := by
          subst x18
          refine .step ?_ (within_nmod ..)
          assumption
        clear_value x18
        refine .mk_next ?_
        refine .step ?_ (within_rmod ..)
        refine .step ?_ (within_jmod ..)
        assumption

theorem within_vmod (s : State) (f : VoteState → VoteState) : Within 8388608 s (s.vmod f) := by
  unfold State.vmod
  refine .step ?_ (within_nmod ..)
  exact .refl ..

theorem within_logVerdict (s : State) (r : Verdict) : Within 8388608 s (s.logVerdict r) := by
  unfold State.logVerdict
  refine .step ?_ (within_vmod ..)
  exact .refl ..

theorem within_voteEvent (s : State) (d1 : Word) : Within 194 s (s.voteEvent d1) := by
  unfold State.voteEvent
  refine .step ?_ (within_raise ..)
  exact .refl ..

theorem within_deferVote (s : State) : Within 194 s s.deferVote := by
  unfold State.deferVote
  extract_lets +onlyGivenNames x1
  have h2 : Within 194 s x1 := by
    subst x1
    refine .step ?_ (within_set ..)
    refine .step ?_ (within_count ..)
    refine .step ?_ (within_count ..)
    exact .refl ..
  clear_value x1
  refine .step ?_ (within_voteEvent ..)
  refine .step ?_ (within_set ..)
  assumption

theorem within_completeSeal (s : State) (r : Verdict) : Within 84967634 s (s.completeSeal r) := by
  unfold State.completeSeal
  extract_lets +onlyGivenNames x1
  clear_value x1
  refine .foldl ?_ ?_
  · exact .refl ..
  · intro s2 v3
    refine .step ?_ (within_finish ..)
    exact .refl ..

theorem within_countSkip (s : State) (reason : Nat) : Within 2 s (s.countSkip reason) := by
  unfold State.countSkip
  split
  · rename_i v1
    refine .step ?_ (within_count ..)
    exact .refl ..
  · rename_i v2
    refine .step ?_ (within_count ..)
    exact .refl ..
  · rename_i v3 h4 h5
    refine .step ?_ (within_count ..)
    exact .refl ..

theorem within_detector (s : State) (step : Nat) : Within 2 s (s.detector step).snd := by
  unfold State.detector
  split
  · rename_i v1 h2
    refine .mk_snd ?_
    exact .refl ..
  · rename_i v3 v4 h5
    refine .mk_snd ?_
    exact .refl ..
  · rename_i v6 v7 v8 h9 h10
    refine .mk_snd ?_
    refine .step ?_ (within_count ..)
    exact .refl ..

theorem within_closeVote (s : State) (r : Verdict) : Within 93356242 s (s.closeVote r) := by
  unfold State.closeVote
  extract_lets +onlyGivenNames x1
  have h2 : Within 93356242 s x1 := by
    subst x1
    refine .step ?_ (within_completeSeal ..)
    exact .refl ..
  clear_value x1
  extract_lets +onlyGivenNames x3
  have h4 : Within 93356242 s x3 := by
    subst x3
    refine .step ?_ (within_set ..)
    refine .step ?_ (within_set ..)
    refine .step ?_ (within_set ..)
    refine .step ?_ (within_set ..)
    assumption
  clear_value x3
  extract_lets +onlyGivenNames x5
  have h6 : Within 93356242 s x5 := by
    subst x5
    refine .step ?_ (within_vmod ..)
    refine .step ?_ (within_set ..)
    assumption
  clear_value x5
  refine .ite ?_ ?_
  · refine .step ?_ (within_count ..)
    assumption
  · extract_lets +onlyGivenNames x7
    have h8 : Within 93356242 s x7 := by
      subst x7
      refine .step ?_ (within_countSkip ..)
      assumption
    clear_value x7
    extract_lets +onlyGivenNames x9
    have h10 : Within 93356242 s x9.2 := by
      subst x9
      refine .step ?_ (within_detector ..)
      assumption
    clear_value x9
    refine .ite ?_ ?_
    · refine .step ?_ (within_voteEvent ..)
      refine .step ?_ (within_count ..)
      assumption
    · assumption

theorem within_actVerdict (s : State) (r : Verdict) : Within 93356242 s (s.actVerdict r) := by
  unfold State.actVerdict
  refine .ite ?_ ?_
  · exact .refl ..
  · extract_lets +onlyGivenNames x1
    have h2 : Within 93356242 s x1 := by
      subst x1
      refine .step ?_ (within_logVerdict ..)
      exact .refl ..
    clear_value x1
    extract_lets +onlyGivenNames x3
    clear_value x3
    refine .ite ?_ ?_
    · assumption
    · extract_lets +onlyGivenNames x4
      have h5 : Within 93356242 s x4 := by
        subst x4
        refine .step ?_ (within_setReg ..)
        refine .step ?_ (within_setReg ..)
        refine .step ?_ (within_setReg ..)
        assumption
      clear_value x4
      extract_lets +onlyGivenNames x6
      have h7 : Within 93356242 s x6 := by
        subst x6
        refine .step ?_ (within_setReg ..)
        assumption
      clear_value x6
      refine .ite ?_ ?_
      · assumption
      · refine .ite ?_ ?_
        · refine .step ?_ (within_deferVote ..)
          assumption
        · refine .step ?_ (within_closeVote ..)
          assumption

theorem within_broadcast (s : State) (mtype : Nat) (ws : List Word) : Within 8388608 s (s.broadcast mtype ws) := by
  unfold State.broadcast
  refine .foldl ?_ ?_
  · exact .refl ..
  · intro s1 v2
    refine .step ?_ (within_sendMsg ..)
    exact .refl ..

theorem within_colDispatch (s : State) (j : Nat) (op : Nat) : Within 84967634 s (s.colDispatch j op).fst := by
  unfold State.colDispatch
  split
  · rename_i v1 h2
    refine .mk_fst ?_
    exact .refl ..
  · rename_i v3 v4 h5
    refine .ite_on ?_ ?_
    · refine .mk_fst ?_
      exact .refl ..
    · refine .ite_on ?_ ?_
      · refine .mk_fst ?_
        exact .refl ..
      · refine .ite_on ?_ ?_
        · refine .mk_fst ?_
          exact .refl ..
        · refine .ite_on ?_ ?_
          · refine .mk_fst ?_
            refine .step ?_ (within_finish ..)
            refine .step ?_ (within_jmod ..)
            exact .refl ..
          · refine .ite_on ?_ ?_
            · refine .mk_fst ?_
              exact .refl ..
            · extract_lets +onlyGivenNames x6
              have h7 : Within 84967634 s x6 := by
                subst x6
                refine .step ?_ (within_jmod ..)
                refine .step ?_ (within_consumeWaits ..)
                exact .refl ..
              clear_value x6
              assumption

theorem within_deferRecord (s : State) (e : F64) (a : Word) (skips : Nat) (v : Nat) : Within 1 s (s.deferRecord e a skips v).snd := by
  unfold State.deferRecord
  extract_lets +onlyGivenNames x1
  have h2 : Within 1 s x1.2 := by
    subst x1
    refine .step ?_ (within_freshWord ..)
    exact .refl ..
  clear_value x1
  extract_lets +onlyGivenNames x3
  have h4 : Within 1 s x3.2 := by
    subst x3
    refine .step ?_ (within_freshWord ..)
    assumption
  clear_value x3
  assumption

theorem within_endRound (s : State) (v : Nat) : Within 8388608 s (s.endRound v) := by
  unfold State.endRound
  refine .step ?_ (within_nmod ..)
  exact .refl ..

theorem within_putPartial (s : State) (p : Partial) : Within 8388608 s (s.putPartial p) := by
  unfold State.putPartial
  refine .step ?_ (within_nmod ..)
  exact .refl ..

theorem within_voteInput (s : State) (step : Nat) (v : Nat) (a3 : Nat) (a4 : Nat) (a5 : Nat) (a6 : Contrib) : Within 8388608 s (s.voteInput step v a3 a4 a5 a6) := by
  fun_induction State.voteInput s step v a3 a4 a5 a6
  · rename_i v1 v2 v3 v4
    exact .refl ..
  · rename_i v5 v6 v7 v8 v9 v10 h11
    exact .refl ..
  · rename_i v12 v13 v14 v15 v16 v17 h18 v19 v20 h21
    subst v20
    refine .step ?_ (within_putPartial ..)
    exact .refl ..
  · rename_i v22 v23 v24 v25 v26 v27 h28 v29 v30 h31 h32
    subst v30
    refine .step ?_ (within_putPartial ..)
    exact .refl ..
  · rename_i v33 v34 v35 v36 v37 v38 h39 v40 v41 h42 v43 h44 v45 h46 h47
    refine .trans ?_ (h47)
    subst v41
    refine .step ?_ (within_putPartial ..)
    exact .refl ..
  · rename_i v48 v49 v50 v51 v52 v53 h54 v55 v56 h57 v58 h59 v60 h61
    refine .step ?_ (within_sendMsg ..)
    subst v56
    refine .step ?_ (within_putPartial ..)
    exact .refl ..

theorem within_launchVote (s : State) (v : Nat) : Within 8388610 s (s.launchVote v) := by
  unfold State.launchVote
  extract_lets +onlyGivenNames x1
  clear_value x1
  extract_lets +onlyGivenNames x2
  have h3 : Within 8388610 s x2 := by
    subst x2
    refine .step ?_ (within_vmod ..)
    refine .step ?_ (within_set ..)
    exact .refl ..
  clear_value x2
  extract_lets +onlyGivenNames x4
  clear_value x4
  refine .ite ?_ ?_
  · refine .step ?_ (within_voteInput ..)
    assumption
  · refine .step ?_ (within_sendMsg ..)
    assumption

theorem within_sealStep (s : State) (j : Nat) (step : Nat) (loss : F64) (count : Word) : Within 8388626 s (s.sealStep j step loss count) := by
  unfold State.sealStep
  extract_lets +onlyGivenNames x1
  have h2 : Within 8388626 s x1 := by
    subst x1
    refine .ite ?_ ?_
    · exact .refl ..
    · refine .step ?_ (within_raiseLatch ..)
      exact .refl ..
  clear_value x1
  extract_lets +onlyGivenNames x3
  clear_value x3
  extract_lets +onlyGivenNames x4
  have h5 : Within 8388626 s x4 := by
    subst x4
    refine .step ?_ (within_setReg ..)
    refine .step ?_ (within_setReg ..)
    refine .step ?_ (within_setReg ..)
    assumption
  clear_value x4
  extract_lets +onlyGivenNames x6
  have h7 : Within 8388626 s x6 := by
    subst x6
    refine .step ?_ (within_set ..)
    refine .step ?_ (within_set ..)
    assumption
  clear_value x6
  extract_lets +onlyGivenNames x8
  have h9 : Within 8388626 s x8 := by
    subst x8
    refine .step ?_ (within_set ..)
    refine .step ?_ (within_set ..)
    assumption
  clear_value x8
  refine .step ?_ (within_jmod ..)
  refine .step ?_ (within_vmod ..)
  assumption

theorem within_execContrib (s : State) : Within 8388610 s (nextOr s (execContrib s)) := by
  unfold execContrib
  split
  · rename_i v1 h2
    refine .mk_next ?_
    exact .refl ..
  · rename_i v3 v4 v5 h6
    have h7 : Within 8388610 s v5 := by
      refine (.of_someSnd (b := s) h6 ?_)
      refine .orStep ?_ (within_takeMsg ..) ?_
      · exact .refl ..
      · exact .refl ..
    extract_lets +onlyGivenNames x8
    clear_value x8
    extract_lets +onlyGivenNames x9
    clear_value x9
    split
    · rename_i v10 h11
      have h12 : Within 8388610 s v5 := by
        refine (.of_someSnd (b := s) h6 ?_)
        refine .orStep ?_ (within_takeMsg ..) ?_
        · exact .refl ..
        · exact .refl ..
      refine .mk_next ?_
      assumption
    · rename_i v13 v14 h15
      have h16 : Within 8388610 s v5 := by
        refine (.of_someSnd (b := s) h6 ?_)
        refine .orStep ?_ (within_takeMsg ..) ?_
        · exact .refl ..
        · exact .refl ..
      refine .ite_on ?_ ?_
      · refine .mk_next ?_
        refine .ite ?_ ?_
        · refine .step ?_ (within_count ..)
          assumption
        · assumption
      · refine .mk_next ?_
        refine .step ?_ (within_voteInput ..)
        assumption

theorem within_execVerdict (s : State) : Within 93356242 s (nextOr s (execVerdict s)) := by
  unfold execVerdict
  split
  · rename_i v1 h2
    refine .mk_next ?_
    exact .refl ..
  · rename_i v3 v4 v5 h6
    have h7 : Within 93356242 s v5 := by
      refine (.of_someSnd (b := s) h6 ?_)
      refine .orStep ?_ (within_takeMsg ..) ?_
      · exact .refl ..
      · exact .refl ..
    extract_lets +onlyGivenNames x8
    have h9 : Within 93356242 s x8 := by
      subst x8
      refine .ite ?_ ?_
      · refine .step ?_ (within_broadcast ..)
        assumption
      · assumption
    clear_value x8
    refine .mk_next ?_
    refine .step ?_ (within_actVerdict ..)
    assumption

theorem within_execVerdictReq (s : State) : Within 8388608 s (nextOr s (execVerdictReq s)) := by
  unfold execVerdictReq
  split
  · rename_i v1 h2
    refine .mk_next ?_
    exact .refl ..
  · rename_i v3 v4 v5 h6
    have h7 : Within 8388608 s v5 := by
      refine (.of_someSnd (b := s) h6 ?_)
      refine .orStep ?_ (within_takeMsg ..) ?_
      · exact .refl ..
      · exact .refl ..
    extract_lets +onlyGivenNames x8
    clear_value x8
    extract_lets +onlyGivenNames x9
    clear_value x9
    split
    · rename_i v10 v11 h12
      have h13 : Within 8388608 s v5 := by
        refine (.of_someSnd (b := s) h6 ?_)
        refine .orStep ?_ (within_takeMsg ..) ?_
        · exact .refl ..
        · exact .refl ..
      refine .mk_next ?_
      refine .step ?_ (within_sendMsg ..)
      assumption
    · rename_i v14 h15
      have h16 : Within 8388608 s v5 := by
        refine (.of_someSnd (b := s) h6 ?_)
        refine .orStep ?_ (within_takeMsg ..) ?_
        · exact .refl ..
        · exact .refl ..
      refine .mk_next ?_
      assumption

theorem within_execVerdictReqRepeat (s : State) : Within 8388608 s (nextOr s (execVerdictReqRepeat s)) := by
  unfold execVerdictReqRepeat
  split
  · rename_i v1 h2
    refine .mk_next ?_
    exact .refl ..
  · rename_i v3 v4 h5
    refine .ite_on ?_ ?_
    · refine .mk_next ?_
      exact .refl ..
    · refine .mk_next ?_
      refine .foldl ?_ ?_
      · exact .refl ..
      · intro s6 v7
        refine .step ?_ (within_sendMsg ..)
        exact .refl ..

theorem within_execVote (entry : Nat) (s : State) : Within 12582914 s (nextOr s (execVote entry s)) := by
  unfold execVote
  extract_lets +onlyGivenNames x1
  clear_value x1
  extract_lets +onlyGivenNames x2
  clear_value x2
  refine .ite_on ?_ ?_
  · refine .mk_next ?_
    exact .refl ..
  · extract_lets +onlyGivenNames x3
    have h4 : Within 12582914 s x3 := by
      subst x3
      refine .step ?_ (within_noteFired ..)
      exact .refl ..
    clear_value x3
    refine .ite_on ?_ ?_
    · refine .mk_next ?_
      assumption
    · refine .ite_on ?_ ?_
      · refine .mk_next ?_
        refine .step ?_ (within_count ..)
        assumption
      · refine .ite_on ?_ ?_
        · refine .mk_next ?_
          refine .step ?_ (within_wmod ..)
          assumption
        · refine .mk_next ?_
          refine .step ?_ (within_launchVote ..)
          assumption

theorem within_execVoteDecision (entry : Nat) (s : State) : Within 97550547 s (nextOr s (execVoteDecision entry s)) := by
  unfold execVoteDecision
  extract_lets +onlyGivenNames x1
  clear_value x1
  extract_lets +onlyGivenNames x2
  clear_value x2
  refine .ite_on ?_ ?_
  · refine .mk_next ?_
    exact .refl ..
  · extract_lets +onlyGivenNames x3
    have h4 : Within 97550547 s x3 := by
      subst x3
      refine .step ?_ (within_noteFired ..)
      exact .refl ..
    clear_value x3
    refine .ite_on ?_ ?_
    · refine .mk_next ?_
      assumption
    · extract_lets +onlyGivenNames x5
      have h6 : Within 97550547 s x5 := by
        subst x5
        refine .step ?_ (within_calMatch ..)
        assumption
      clear_value x5
      refine .ite_on ?_ ?_
      · refine .mk_next ?_
        refine .step ?_ (within_endRound ..)
        refine .step ?_ (within_count ..)
        assumption
      · extract_lets +onlyGivenNames x7
        have h8 : Within 97550547 s x7 := by
          subst x7
          refine .step ?_ (within_count ..)
          assumption
        clear_value x7
        refine .ite_on ?_ ?_
        · refine .mk_next ?_
          refine .step ?_ (within_endRound ..)
          assumption
        · extract_lets +onlyGivenNames x9
          clear_value x9
          extract_lets +onlyGivenNames x10
          clear_value x10
          extract_lets +onlyGivenNames x11
          clear_value x11
          extract_lets +onlyGivenNames x12
          have h13 : Within 97550547 s x12.2 := by
            subst x12
            refine .step ?_ (within_deferRecord ..)
            assumption
          clear_value x12
          extract_lets +onlyGivenNames x14
          have h15 : Within 97550547 s x14.2 := by
            subst x14
            refine .step ?_ (within_detector ..)
            assumption
          clear_value x14
          extract_lets +onlyGivenNames x16
          have h17 : Within 97550547 s x16.2 := by
            subst x16
            split
            · rename_i v18
              assumption
            · rename_i v19 v20
              refine .ite_on ?_ ?_
              · assumption
              · assumption
          clear_value x16
          extract_lets +onlyGivenNames x21
          have h22 : Within 97550547 s x21 := by
            subst x21
            refine .step ?_ (within_endRound ..)
            assumption
          clear_value x21
          refine .mk_next ?_
          refine .step ?_ (within_actVerdict ..)
          refine .step ?_ (within_broadcast ..)
          assumption

theorem within_execVoteSeal (jseq : Nat) (s : State) : Within 93356242 s (nextOr s (execVoteSeal jseq s)) := by
  unfold execVoteSeal
  split
  · rename_i v1 v2 h3
    have h4 : Within 93356242 s v2 := by
      refine (.of_fst h3 ?_)
      refine .step ?_ (within_colDispatch ..)
      exact .refl ..
    refine .mk_next ?_
    assumption
  · rename_i v5 v6 v7 h8
    have h9 : Within 93356242 s v6 := by
      refine (.of_fst h8 ?_)
      refine .step ?_ (within_colDispatch ..)
      exact .refl ..
    refine .ite_on ?_ ?_
    · refine .mk_next ?_
      assumption
    · refine .ite_on ?_ ?_
      · refine .mk_next ?_
        refine .step ?_ (within_sealStep ..)
        assumption
      · split
        · rename_i v10 v11 v12 h13
          have h14 : Within 93356242 s v6 := by
            refine (.of_fst h8 ?_)
            refine .step ?_ (within_colDispatch ..)
            exact .refl ..
          have h15 : Within 93356242 s v12 := by
            refine (.of_snd h13 ?_)
            refine .step ?_ (within_readUda ..)
            assumption
          refine .mk_next ?_
          refine .step ?_ (within_sealStep ..)
          assumption
        · rename_i v16 v17 v18 h19
          have h20 : Within 93356242 s v6 := by
            refine (.of_fst h8 ?_)
            refine .step ?_ (within_colDispatch ..)
            exact .refl ..
          have h21 : Within 93356242 s v18 := by
            refine (.of_snd h19 ?_)
            refine .step ?_ (within_readUda ..)
            assumption
          refine .mk_next ?_
          refine .step ?_ (within_finish ..)
          assumption
        · rename_i v22 v23 v24 h25 h26 h27
          have h28 : Within 93356242 s v6 := by
            refine (.of_fst h8 ?_)
            refine .step ?_ (within_colDispatch ..)
            exact .refl ..
          have h29 : Within 93356242 s v24 := by
            refine (.of_snd h27 ?_)
            refine .step ?_ (within_readUda ..)
            assumption
          refine .mk_next ?_
          assumption

theorem within_keepResult (s : State) (rid : Nat) (bad : Bool) (ws : List Word) : Within 8388608 s (s.keepResult rid bad ws) := by
  unfold State.keepResult
  refine .step ?_ (within_nmod ..)
  exact .refl ..

theorem within_ownResult (s : State) (ws : List Word) : Within 8388608 s (s.ownResult ws) := by
  unfold State.ownResult
  refine .step ?_ (within_arrive ..)
  exact .refl ..

theorem within_redComplete (s : State) (cmd : Option (Nat × JEntry)) (rid : Nat) (bad : Bool) (ws : List Word) : Within 93356254 s (s.redComplete cmd rid bad ws).snd := by
  unfold State.redComplete
  split
  · rename_i v1
    refine .mk_snd ?_
    refine .step ?_ (within_keepResult ..)
    exact .refl ..
  · rename_i v2 v3 v4
    refine .ite_on ?_ ?_
    · refine .mk_snd ?_
      refine .step ?_ (within_finish ..)
      refine .step ?_ (within_keepResult ..)
      exact .refl ..
    · split
      · rename_i v5 v6 v7 h8
        have h9 : Within 93356254 s v7 := by
          refine (.of_snd h8 ?_)
          refine .step ?_ (within_writeUda ..)
          exact .refl ..
        refine .mk_snd ?_
        refine .step ?_ (within_finish ..)
        refine .step ?_ (within_count ..)
        refine .step ?_ (within_keepResult ..)
        assumption
      · rename_i v10 v11 v12 h13
        have h14 : Within 93356254 s v12 := by
          refine (.of_snd h13 ?_)
          refine .step ?_ (within_writeUda ..)
          exact .refl ..
        refine .mk_snd ?_
        refine .step ?_ (within_finish ..)
        refine .step ?_ (within_keepResult ..)
        assumption
      · rename_i v15 v16 v17 h18 h19 h20
        have h21 : Within 93356254 s v17 := by
          refine (.of_snd h20 ?_)
          refine .step ?_ (within_writeUda ..)
          exact .refl ..
        assumption

theorem within_redMismatch (s : State) (rid : Nat) (count : Nat) (rop : Nat) (except_ : Option Nat) : Within 8388608 s (s.redMismatch rid count rop except_) := by
  unfold State.redMismatch
  extract_lets +onlyGivenNames x1
  clear_value x1
  extract_lets +onlyGivenNames x2
  clear_value x2
  refine .foldl ?_ ?_
  · exact .refl ..
  · intro s3 v4
    refine .step ?_ (within_sendMsg ..)
    exact .refl ..

theorem within_redInput (s : State) (rid : Nat) (count : Nat) (rop : Nat) (a4 : Nat) (a5 : Nat) (a6 : Nat) (a7 : List Word) : Within 8388610 s (s.redInput rid count rop a4 a5 a6 a7) := by
  fun_induction State.redInput s rid count rop a4 a5 a6 a7
  · rename_i v1 v2 v3 v4
    exact .refl ..
  · rename_i v5 v6 v7 v8 v9 v10 h11
    refine .step ?_ (within_count ..)
    exact .refl ..
  · rename_i v12 v13 v14 v15 v16 v17 h18 h19
    refine .step ?_ (within_putPartial ..)
    exact .refl ..
  · rename_i v20 v21 v22 v23 v24 v25 h26 h27 h28
    refine .step ?_ (within_ownResult ..)
    refine .step ?_ (within_redMismatch ..)
    refine .step ?_ (within_putPartial ..)
    exact .refl ..
  · rename_i v29 v30 v31 v32 v33 v34 h35 h36 h37 v38 v39 h40
    subst v39
    refine .step ?_ (within_putPartial ..)
    exact .refl ..
  · rename_i v41 v42 v43 v44 v45 h46 h47 h48 v49 v50 h51 v52
    refine .step ?_ (within_ownResult ..)
    refine .step ?_ (within_broadcast ..)
    subst v50
    refine .step ?_ (within_putPartial ..)
    exact .refl ..
  · rename_i v53 v54 v55 v56 v57 v58 h59 h60 h61 v62 v63 h64 v65 h66 v67 h68 h69
    refine .trans ?_ (h69)
    subst v63
    refine .step ?_ (within_putPartial ..)
    exact .refl ..
  · rename_i v70 v71 v72 v73 v74 v75 h76 h77 h78 v79 v80 h81 v82 h83 v84 h85
    refine .step ?_ (within_sendMsg ..)
    subst v80
    refine .step ?_ (within_putPartial ..)
    exact .refl ..

theorem within_execCollectiveReduce (jseq : Nat) (s : State) : Within 93356254 s (nextOr s (execCollectiveReduce jseq s)) := by
  unfold execCollectiveReduce
  split
  · rename_i v1 v2 h3
    have h4 : Within 93356254 s v2 := by
      refine (.of_fst h3 ?_)
      refine .step ?_ (within_colDispatch ..)
      exact .refl ..
    refine .mk_next ?_
    assumption
  · rename_i v5 v6 v7 h8
    have h9 : Within 93356254 s v6 := by
      refine (.of_fst h8 ?_)
      refine .step ?_ (within_colDispatch ..)
      exact .refl ..
    extract_lets +onlyGivenNames x10
    clear_value x10
    extract_lets +onlyGivenNames x11
    clear_value x11
    extract_lets +onlyGivenNames x12
    clear_value x12
    refine .ite_on ?_ ?_
    · refine .mk_next ?_
      assumption
    · split
      · rename_i v13 v14 v15 v16 h17
        have h18 : Within 93356254 s v6 := by
          refine (.of_fst h8 ?_)
          refine .step ?_ (within_colDispatch ..)
          exact .refl ..
        refine .mk_next ?_
        refine .step ?_ (within_redComplete ..)
        assumption
      · rename_i v19 h20
        have h21 : Within 93356254 s v6 := by
          refine (.of_fst h8 ?_)
          refine .step ?_ (within_colDispatch ..)
          exact .refl ..
        refine .ite_on ?_ ?_
        · refine .mk_next ?_
          refine .step ?_ (within_finish ..)
          assumption
        · split
          · rename_i v22 v23 v24 h25
            have h26 : Within 93356254 s v6 := by
              refine (.of_fst h8 ?_)
              refine .step ?_ (within_colDispatch ..)
              exact .refl ..
            have h27 : Within 93356254 s v24 := by
              refine (.of_snd h25 ?_)
              refine .step ?_ (within_readUda ..)
              assumption
            refine .mk_next ?_
            refine .step ?_ (within_finish ..)
            assumption
          · rename_i v28 v29 v30 h31
            have h32 : Within 93356254 s v6 := by
              refine (.of_fst h8 ?_)
              refine .step ?_ (within_colDispatch ..)
              exact .refl ..
            have h33 : Within 93356254 s v30 := by
              refine (.of_snd h31 ?_)
              refine .step ?_ (within_readUda ..)
              assumption
            extract_lets +onlyGivenNames x34
            clear_value x34
            extract_lets +onlyGivenNames x35
            have h36 : Within 93356254 s x35 := by
              subst x35
              refine .step ?_ (within_jmod ..)
              assumption
            clear_value x35
            refine .ite_on ?_ ?_
            · refine .mk_next ?_
              refine .step ?_ (within_redInput ..)
              assumption
            · refine .mk_next ?_
              refine .step ?_ (within_sendMsg ..)
              assumption
          · rename_i v37 v38 v39 h40 h41 h42
            have h43 : Within 93356254 s v6 := by
              refine (.of_fst h8 ?_)
              refine .step ?_ (within_colDispatch ..)
              exact .refl ..
            have h44 : Within 93356254 s v39 := by
              refine (.of_snd h42 ?_)
              refine .step ?_ (within_readUda ..)
              assumption
            refine .mk_next ?_
            assumption

theorem within_execRcontrib (s : State) : Within 8388610 s (nextOr s (execRcontrib s)) := by
  unfold execRcontrib
  split
  · rename_i v1 h2
    refine .mk_next ?_
    exact .refl ..
  · rename_i v3 v4 v5 h6
    have h7 : Within 8388610 s v5 := by
      refine (.of_someSnd (b := s) h6 ?_)
      refine .orStep ?_ (within_takeMsg ..) ?_
      · exact .refl ..
      · exact .refl ..
    extract_lets +onlyGivenNames x8
    clear_value x8
    split
    · rename_i v9 h10
      have h11 : Within 8388610 s v5 := by
        refine (.of_someSnd (b := s) h6 ?_)
        refine .orStep ?_ (within_takeMsg ..) ?_
        · exact .refl ..
        · exact .refl ..
      refine .mk_next ?_
      assumption
    · rename_i v12 v13 h14
      have h15 : Within 8388610 s v5 := by
        refine (.of_someSnd (b := s) h6 ?_)
        refine .orStep ?_ (within_takeMsg ..) ?_
        · exact .refl ..
        · exact .refl ..
      refine .mk_next ?_
      refine .step ?_ (within_redInput ..)
      assumption

theorem within_execReduceTimeout (jseq : Nat) (s : State) : Within 93356242 s (nextOr s (execReduceTimeout jseq s)) := by
  unfold execReduceTimeout
  split
  · rename_i v1 h2
    refine .mk_next ?_
    exact .refl ..
  · rename_i v3 v4 h5
    refine .ite_on ?_ ?_
    · refine .mk_next ?_
      exact .refl ..
    · extract_lets +onlyGivenNames x6
      have h7 : Within 93356242 s x6 := by
        subst x6
        refine .step ?_ (within_nmod ..)
        exact .refl ..
      clear_value x6
      refine .mk_next ?_
      refine .step ?_ (within_finish ..)
      refine .step ?_ (within_count ..)
      assumption

theorem within_execRresult (s : State) : Within 93356254 s (nextOr s (execRresult s)) := by
  unfold execRresult
  split
  · rename_i v1 h2
    refine .mk_next ?_
    exact .refl ..
  · rename_i v3 v4 h5
    extract_lets +onlyGivenNames x6
    clear_value x6
    extract_lets +onlyGivenNames x7
    clear_value x7
    extract_lets +onlyGivenNames x8
    clear_value x8
    extract_lets +onlyGivenNames x9
    clear_value x9
    split
    · rename_i v10 v11 h12
      have h13 : Within 93356254 s v11 := by
        refine (.of_snd h12 ?_)
        refine .step ?_ (within_redComplete ..)
        exact .refl ..
      refine .mk_next ?_
      assumption
    · rename_i v14 v15 h16
      have h17 : Within 93356254 s v15 := by
        refine (.of_snd h16 ?_)
        refine .step ?_ (within_redComplete ..)
        exact .refl ..
      extract_lets +onlyGivenNames x18
      have h19 : Within 93356254 s x18 := by
        subst x18
        refine .step ?_ (within_dropMsg ..)
        assumption
      clear_value x18
      refine .ite_on ?_ ?_
      · refine .mk_next ?_
        assumption
      · refine .ite_on ?_ ?_
        · refine .mk_next ?_
          refine .step ?_ (within_broadcast ..)
          assumption
        · refine .ite_on ?_ ?_
          · refine .mk_next ?_
            refine .step ?_ (within_redMismatch ..)
            assumption
          · refine .mk_next ?_
            assumption

end Sys2Proof.Machine
end

