-- ==== Sys2Proof/Laws/Within5.lean ====
section
/-! SUPPORT. What the operations of Drover, Diff, Sweep, Accept, Verify may change (see Laws/Within.lean). -/

set_option Elab.async false

namespace Sys2Proof.Machine

theorem within_setLayer (s : State) (d : Nat) (slot : Nat) (l : LayerSlot) : Within 67108864 s (s.setLayer d slot l) := by
  unfold State.setLayer
  refine .upd s 67108864 ?_
  exact .refl ..

theorem within_acceptRoute (s : State) (j : Nat) (d : Nat) (ws : List Word) : Within 67108864 s (s.acceptRoute j d ws) := by
  unfold State.acceptRoute
  split
  · rename_i v1 v2 v3 v4 h5 h6
    extract_lets +onlyGivenNames x7
    clear_value x7
    extract_lets +onlyGivenNames x8
    clear_value x8
    extract_lets +onlyGivenNames x9
    have h10 : Within 67108864 s x9 := by
      subst x9
      refine .ite ?_ ?_
      · refine .step ?_ (within_setLayer ..)
        exact .refl ..
      · exact .refl ..
    clear_value x9
    refine .upd x9 67108864 ?_
    assumption
  · rename_i v11 v12 h13
    exact .refl ..

theorem within_addCur (s : State) (d : Nat) (slot : Nat) (e : Nat) (c : Nat) : Within 67108865 s (s.addCur d slot e c) := by
  unfold State.addCur
  extract_lets +onlyGivenNames x1
  clear_value x1
  extract_lets +onlyGivenNames x2
  clear_value x2
  extract_lets +onlyGivenNames x3
  have h4 : Within 67108865 s x3.2 := by
    subst x3
    refine .step ?_ (within_freshWord ..)
    exact .refl ..
  clear_value x3
  extract_lets +onlyGivenNames x5
  have h6 : Within 67108865 s x5.2 := by
    subst x5
    refine .ite_on ?_ ?_
    · refine .mk_snd ?_
      exact .refl ..
    · assumption
  clear_value x5
  refine .step ?_ (within_setLayer ..)
  assumption

theorem within_readAll (s : State) (j : Nat) (a2 : List (Nat × Nat)) (a3 : List (List Byte)) : Within 32962 s (s.readAll j a2 a3).snd := by
  fun_induction State.readAll s j a2 a3
  · rename_i v1 v2
    refine .mk_snd ?_
    exact .refl ..
  · rename_i v3 v4 v5 v6 v7 v8 v9 h10 h11
    have h12 : Within 32962 v3 v9 := by
      refine (.of_snd h10 ?_)
      refine .step ?_ (within_readUda ..)
      exact .refl ..
    refine .trans ?_ (h11)
    assumption
  · rename_i v13 v14 v15 v16 v17 v18 v19 h20
    have h21 : Within 32962 v13 v19 := by
      refine (.of_snd h20 ?_)
      refine .step ?_ (within_readUda ..)
      exact .refl ..
    assumption
  · rename_i v22 v23 v24 v25 v26 v27 v28 h29
    have h30 : Within 32962 v22 v28 := by
      refine (.of_snd h29 ?_)
      refine .step ?_ (within_readUda ..)
      exact .refl ..
    assumption
  · rename_i v31 v32 v33 v34 v35 v36 v37 h38
    have h39 : Within 32962 v31 v37 := by
      refine (.of_snd h38 ?_)
      refine .step ?_ (within_readUda ..)
      exact .refl ..
    assumption

theorem within_routeError (s : State) (j : Nat) : Within 68157458 s (s.routeError j) := by
  unfold State.routeError
  refine .step ?_ (within_failRoute ..)
  refine .step ?_ (within_routeMod ..)
  exact .refl ..

theorem within_buildRoute (s : State) (j : Nat) (d : Nat) (p : RoutePlan) (tags : List Word) (sel : List (List (Nat × F32))) : Within 67108866 s (s.buildRoute j d p tags sel) := by
  unfold State.buildRoute
  extract_lets +onlyGivenNames x1
  clear_value x1
  extract_lets +onlyGivenNames x2
  have h3 : Within 67108866 s x2 := by
    subst x2
    refine .step ?_ (within_routeMod ..)
    exact .refl ..
  clear_value x2
  split
  · rename_i v4 h5
    assumption
  · rename_i v6 v7 h8
    extract_lets +onlyGivenNames x9
    clear_value x9
    extract_lets +onlyGivenNames x10
    have h11 : Within 67108866 s x10 := by
      subst x10
      refine .step ?_ (within_count ..)
      assumption
    clear_value x10
    extract_lets +onlyGivenNames x12
    have h13 : Within 67108866 s x12 := by
      subst x12
      refine .step ?_ (within_count ..)
      assumption
    clear_value x12
    extract_lets +onlyGivenNames x14
    have h15 : Within 67108866 s x14 := by
      subst x14
      refine .step ?_ (within_count ..)
      assumption
    clear_value x14
    split
    · rename_i v16 h17
      assumption
    · rename_i v18 v19 h20
      refine .step ?_ (within_setReg ..)
      assumption

theorem within_finishRoute (s : State) (j : Nat) (st : Status) (r0 : Word) (r1 : Word) : Within 84967634 s (s.finishRoute j st r0 r1) := by
  unfold State.finishRoute
  refine .step ?_ (within_routeMod ..)
  refine .step ?_ (within_finish ..)
  exact .refl ..

theorem within_writeAll (s : State) (j : Nat) (a2 : List (Nat × List Byte)) : Within 32974 s (s.writeAll j a2).snd := by
  fun_induction State.writeAll s j a2
  · rename_i v1
    refine .mk_snd ?_
    exact .refl ..
  · rename_i v2 v3 v4 v5 v6 v7 h8 h9
    have h10 : Within 32974 v2 v7 := by
      refine (.of_snd h8 ?_)
      refine .step ?_ (within_writeUda ..)
      exact .refl ..
    refine .trans ?_ (h9)
    assumption
  · rename_i v11 v12 v13 v14 v15 v16 h17
    have h18 : Within 32974 v11 v16 := by
      refine (.of_snd h17 ?_)
      refine .step ?_ (within_writeUda ..)
      exact .refl ..
    assumption
  · rename_i v19 v20 v21 v22 v23 v24 h25
    have h26 : Within 32974 v19 v24 := by
      refine (.of_snd h25 ?_)
      refine .step ?_ (within_writeUda ..)
      exact .refl ..
    assumption
  · rename_i v27 v28 v29 v30 v31 v32 h33
    have h34 : Within 32974 v27 v32 := by
      refine (.of_snd h33 ?_)
      refine .step ?_ (within_writeUda ..)
      exact .refl ..
    assumption

theorem within_combineFrom (s : State) (j : Nat) (e : JEntry) (p : RoutePlan) (rows : Nat) (a5 : Nat) (a6 : Nat) : Within 68190430 s (s.combineFrom j e p rows a5 a6) := by
  fun_induction State.combineFrom s j e p rows a5 a6
  · rename_i v1 v2
    exact .refl ..
  · rename_i v3 v4 v5 h6
    exact .refl ..
  · rename_i v7 v8 v9 v10 h11 h12 h13
    assumption
  · rename_i v14 v15 v16 v17 h18 h19 v20 v21 h22
    have h23 : Within 68190430 v14 v21 := by
      refine (.of_snd h22 ?_)
      refine .step ?_ (within_readAll ..)
      exact .refl ..
    refine .step ?_ (within_routeError ..)
    assumption
  · rename_i v24 v25 v26 v27 h28 h29 v30 v31 h32
    have h33 : Within 68190430 v24 v31 := by
      refine (.of_snd h32 ?_)
      refine .step ?_ (within_readAll ..)
      exact .refl ..
    assumption
  · rename_i v34 v35 v36 v37 h38 h39 v40 v41 v42 h43 v44 h45
    have h46 : Within 68190430 v34 v42 := by
      refine (.of_snd h43 ?_)
      refine .step ?_ (within_readAll ..)
      exact .refl ..
    have h47 : Within 68190430 v34 v44 := by
      refine (.of_snd h45 ?_)
      refine .step ?_ (within_writeAll ..)
      assumption
    refine .step ?_ (within_routeError ..)
    assumption
  · rename_i v48 v49 v50 v51 h52 h53 v54 v55 v56 h57 v58 h59
    have h60 : Within 68190430 v48 v56 := by
      refine (.of_snd h57 ?_)
      refine .step ?_ (within_readAll ..)
      exact .refl ..
    have h61 : Within 68190430 v48 v58 := by
      refine (.of_snd h59 ?_)
      refine .step ?_ (within_writeAll ..)
      assumption
    assumption
  · rename_i v62 v63 v64 v65 h66 h67 v68 v69 v70 h71 v72 h73 h74
    have h75 : Within 68190430 v62 v70 := by
      refine (.of_snd h71 ?_)
      refine .step ?_ (within_readAll ..)
      exact .refl ..
    have h76 : Within 68190430 v62 v72 := by
      refine (.of_snd h73 ?_)
      refine .step ?_ (within_writeAll ..)
      assumption
    refine .trans ?_ (h74)
    refine .step ?_ (within_routeMod ..)
    assumption

theorem within_commitCounts (s : State) (j : Nat) (d : Nat) (p : RoutePlan) (r : RouteRun) (ws : List Word) (sel : List (List (Nat × F32))) : Within 67108867 s (s.commitCounts j d p r ws sel) := by
  unfold State.commitCounts
  refine .ite ?_ ?_
  · exact .refl ..
  · extract_lets +onlyGivenNames x1
    have h2 : Within 67108867 s x1 := by
      subst x1
      refine .ite ?_ ?_
      · refine .foldl ?_ ?_
        · exact .refl ..
        · intro s3 v4
          refine .ite ?_ ?_
          · exact .refl ..
          · refine .step ?_ (within_addCur ..)
            exact .refl ..
      · exact .refl ..
    clear_value x1
    refine .step ?_ (within_routeMod ..)
    refine .step ?_ (within_count ..)
    assumption

theorem within_countMiss (s : State) (d : Nat) (slot : Nat) (e : Nat) : Within 2 s (s.countMiss d slot e) := by
  unfold State.countMiss
  refine .step ?_ (within_set ..)
  refine .step ?_ (within_set ..)
  refine .step ?_ (within_count ..)
  exact .refl ..

theorem within_countScores (s : State) (d : Nat) (lslot : Nat) (raws : List (List F32)) : Within 2 s (s.countScores d lslot raws) := by
  unfold State.countScores
  refine .foldl ?_ ?_
  · exact .refl ..
  · intro s1 v2
    extract_lets +onlyGivenNames x3
    clear_value x3
    refine .ite ?_ ?_
    · exact .refl ..
    · refine .step ?_ (within_raiseLatch ..)
      refine .step ?_ (within_set ..)
      refine .step ?_ (within_set ..)
      refine .step ?_ (within_count ..)
      exact .refl ..

theorem within_fillPass (s : State) (j : Nat) (n : Nat) (e : JEntry) (r : RouteRun) (p : RoutePlan) (ps : DPass) : Within 68190430 s (s.fillPass j n e r p ps) := by
  unfold State.fillPass
  extract_lets +onlyGivenNames x1
  clear_value x1
  extract_lets +onlyGivenNames x2
  clear_value x2
  extract_lets +onlyGivenNames x3
  clear_value x3
  extract_lets +onlyGivenNames x4
  clear_value x4
  extract_lets +onlyGivenNames x5
  clear_value x5
  extract_lets +onlyGivenNames x6
  clear_value x6
  split
  · rename_i v7 h8
    refine .step ?_ (within_routeError ..)
    exact .refl ..
  · rename_i v9 v10 h11
    refine .ite ?_ ?_
    · exact .refl ..
    · extract_lets +onlyGivenNames x12
      clear_value x12
      split
      · rename_i v13 v14 h15
        have h16 : Within 68190430 s v14 := by
          refine (.of_snd h15 ?_)
          refine .step ?_ (within_readAll ..)
          exact .refl ..
        refine .step ?_ (within_routeError ..)
        assumption
      · rename_i v17 v18 h19
        have h20 : Within 68190430 s v18 := by
          refine (.of_snd h19 ?_)
          refine .step ?_ (within_readAll ..)
          exact .refl ..
        assumption
      · rename_i v21 v22 v23 h24
        have h25 : Within 68190430 s v23 := by
          refine (.of_snd h24 ?_)
          refine .step ?_ (within_readAll ..)
          exact .refl ..
        extract_lets +onlyGivenNames x26
        clear_value x26
        extract_lets +onlyGivenNames x27
        have h28 : Within 68190430 s x27 := by
          subst x27
          refine .step ?_ (within_setResv ..)
          refine .step ?_ (within_takeCredit ..)
          assumption
        clear_value x27
        extract_lets +onlyGivenNames x29
        have h30 : Within 68190430 s x29 := by
          subst x29
          refine .foldl ?_ ?_
          · assumption
          · intro s31 v32
            refine .step ?_ (within_cleanse ..)
            refine .step ?_ (within_wbs ..)
            exact .refl ..
        clear_value x29
        extract_lets +onlyGivenNames x33
        have h34 : Within 68190430 s x33 := by
          subst x33
          refine .step ?_ (within_raiseMark ..)
          assumption
        clear_value x33
        extract_lets +onlyGivenNames x35
        clear_value x35
        extract_lets +onlyGivenNames x36
        have h37 : Within 68190430 s x36 := by
          subst x36
          refine .upd x33 67108864 ?_
          assumption
        clear_value x36
        refine .step ?_ (within_routeMod ..)
        assumption

theorem within_freeHeld (s : State) (d : Nat) (slot : Nat) (step : Nat) : Within 67108864 s (s.freeHeld d slot step) := by
  unfold State.freeHeld
  refine .ite ?_ ?_
  · exact .refl ..
  · refine .upd s 67108864 ?_
    exact .refl ..

theorem within_issuePass (s : State) (j : Nat) (n : Nat) (e : JEntry) (p : RoutePlan) (a5 : Nat) : Within 67108882 s (s.issuePass j n e p a5) := by
  fun_induction State.issuePass s j n e p a5
  · rename_i v1
    exact .refl ..
  · rename_i v2 v3 h4
    exact .refl ..
  · rename_i v5 v6 v7 h8 v9 v10 h11
    refine .step ?_ (within_routeMod ..)
    exact .refl ..
  · rename_i v12 v13 v14 h15 v16 v17 v18 v19 h20 h21
    exact .refl ..
  · rename_i v22 v23 v24 h25 v26 v27 v28 v29 h30 h31 v32 v33 h34
    refine .trans ?_ (h34)
    refine .step ?_ (within_routeMod ..)
    refine .step ?_ (within_enter ..)
    exact .refl ..

theorem within_routeLeave (s : State) (j : Nat) (e : JEntry) : Within 84967634 s (s.routeLeave j e) := by
  unfold State.routeLeave
  extract_lets +onlyGivenNames x1
  clear_value x1
  extract_lets +onlyGivenNames x2
  have h3 : Within 84967634 s x2 := by
    subst x2
    refine .step ?_ (within_jmod ..)
    exact .refl ..
  clear_value x2
  extract_lets +onlyGivenNames x4
  have h5 : Within 84967634 s x4 := by
    subst x4
    refine .step ?_ (within_routeMod ..)
    refine .step ?_ (within_consumeWaits ..)
    assumption
  clear_value x4
  refine .ite ?_ ?_
  · refine .step ?_ (within_finishRoute ..)
    assumption
  · refine .ite ?_ ?_
    · split
      · rename_i v6 h7
        refine .step ?_ (within_finishRoute ..)
        assumption
      · rename_i v8 v9 h10
        extract_lets +onlyGivenNames x11
        clear_value x11
        refine .ite ?_ ?_
        · refine .step ?_ (within_finishRoute ..)
          assumption
        · refine .ite ?_ ?_
          · refine .step ?_ (within_finishRoute ..)
            assumption
          · refine .ite ?_ ?_
            · refine .step ?_ (within_finishRoute ..)
              assumption
            · refine .step ?_ (within_routeMod ..)
              refine .step ?_ (within_jmod ..)
              assumption
    · assumption

theorem within_routeSelect (s : State) (j : Nat) (d : Nat) (e : JEntry) (r : RouteRun) (p : RoutePlan) : Within 84967647 s (s.routeSelect j d e r p) := by
  unfold State.routeSelect
  extract_lets +onlyGivenNames x1
  clear_value x1
  extract_lets +onlyGivenNames x2
  clear_value x2
  extract_lets +onlyGivenNames x3
  clear_value x3
  extract_lets +onlyGivenNames x4
  clear_value x4
  extract_lets +onlyGivenNames x5
  clear_value x5
  extract_lets +onlyGivenNames x6
  clear_value x6
  split
  · rename_i v7 v8 h9
    have h10 : Within 84967647 s v8 := by
      refine (.of_snd h9 ?_)
      refine .step ?_ (within_readAll ..)
      exact .refl ..
    refine .step ?_ (within_finishRoute ..)
    assumption
  · rename_i v11 v12 h13
    have h14 : Within 84967647 s v12 := by
      refine (.of_snd h13 ?_)
      refine .step ?_ (within_readAll ..)
      exact .refl ..
    assumption
  · rename_i v15 v16 v17 h18
    have h19 : Within 84967647 s v17 := by
      refine (.of_snd h18 ?_)
      refine .step ?_ (within_readAll ..)
      exact .refl ..
    extract_lets +onlyGivenNames x20
    clear_value x20
    refine .ite ?_ ?_
    · extract_lets +onlyGivenNames x21
      clear_value x21
      refine .step ?_ (within_buildRoute ..)
      refine .step ?_ (within_commitCounts ..)
      assumption
    · extract_lets +onlyGivenNames x22
      clear_value x22
      extract_lets +onlyGivenNames x23
      clear_value x23
      refine .ite ?_ ?_
      · refine .step ?_ (within_finishRoute ..)
        assumption
      · extract_lets +onlyGivenNames x24
        clear_value x24
        extract_lets +onlyGivenNames x25
        clear_value x25
        extract_lets +onlyGivenNames x26
        clear_value x26
        split
        · rename_i v27 v28 h29
          have h30 : Within 84967647 s v17 := by
            refine (.of_snd h18 ?_)
            refine .step ?_ (within_readAll ..)
            exact .refl ..
          have h31 : Within 84967647 s v28 := by
            refine (.of_snd h29 ?_)
            refine .step ?_ (within_writeAll ..)
            assumption
          refine .step ?_ (within_finishRoute ..)
          assumption
        · rename_i v32 v33 h34
          have h35 : Within 84967647 s v17 := by
            refine (.of_snd h18 ?_)
            refine .step ?_ (within_readAll ..)
            exact .refl ..
          have h36 : Within 84967647 s v33 := by
            refine (.of_snd h34 ?_)
            refine .step ?_ (within_writeAll ..)
            assumption
          assumption
        · rename_i v37 v38 h39
          have h40 : Within 84967647 s v17 := by
            refine (.of_snd h18 ?_)
            refine .step ?_ (within_readAll ..)
            exact .refl ..
          have h41 : Within 84967647 s v38 := by
            refine (.of_snd h39 ?_)
            refine .step ?_ (within_writeAll ..)
            assumption
          refine .step ?_ (within_buildRoute ..)
          refine .step ?_ (within_commitCounts ..)
          refine .step ?_ (within_countScores ..)
          assumption

theorem within_runController (s : State) (d : Nat) (slot : Nat) (p : RoutePlan) : Within 67108866 s (s.runController d slot p) := by
  unfold State.runController
  extract_lets +onlyGivenNames x1
  clear_value x1
  extract_lets +onlyGivenNames x2
  clear_value x2
  extract_lets +onlyGivenNames x3
  clear_value x3
  refine .ite ?_ ?_
  · exact .refl ..
  · refine .ite ?_ ?_
    · refine .step ?_ (within_countMiss ..)
      exact .refl ..
    · refine .foldl ?_ ?_
      · exact .refl ..
      · intro s4 v5
        extract_lets +onlyGivenNames x6
        clear_value x6
        extract_lets +onlyGivenNames x7
        clear_value x7
        extract_lets +onlyGivenNames x8
        clear_value x8
        extract_lets +onlyGivenNames x9
        have h10 : Within 67108866 s4 x9 := by
          subst x9
          refine .step ?_ (within_setLayer ..)
          exact .refl ..
        clear_value x9
        extract_lets +onlyGivenNames x11
        have h12 : Within 67108866 s4 x11 := by
          subst x11
          refine .ite ?_ ?_
          · refine .step ?_ (within_countMiss ..)
            assumption
          · assumption
        clear_value x11
        refine .ite ?_ ?_
        · refine .step ?_ (within_count ..)
          assumption
        · assumption

theorem within_segScattered (s : State) (j : Nat) (n : Nat) (g : Nat) : Within 68157442 s (s.segScattered j n g) := by
  unfold State.segScattered
  extract_lets +onlyGivenNames x1
  have h2 : Within 68157442 s x1 := by
    subst x1
    refine .step ?_ (within_routeMod ..)
    exact .refl ..
  clear_value x1
  split
  · rename_i v3 h4
    assumption
  · rename_i v5 v6 h7
    extract_lets +onlyGivenNames x8
    clear_value x8
    refine .ite ?_ ?_
    · extract_lets +onlyGivenNames x9
      have h10 : Within 68157442 s x9 := by
        subst x9
        refine .step ?_ (within_routeMod ..)
        refine .step ?_ (within_releaseBufs ..)
        assumption
      clear_value x9
      refine .step ?_ (within_routeMod ..)
      assumption
    · assumption

theorem within_execCombine (jseq : Nat) (s : State) : Within 84967646 s (nextOr s (execCombine jseq s)) := by
  unfold execCombine
  split
  · rename_i v1 h2
    refine .mk_next ?_
    exact .refl ..
  · rename_i v3 v4 v5 v6 h7
    refine .ite_on ?_ ?_
    · refine .mk_next ?_
      exact .refl ..
    · extract_lets +onlyGivenNames x8
      clear_value x8
      extract_lets +onlyGivenNames x9
      have h10 : Within 84967646 s x9 := by
        subst x9
        refine .step ?_ (within_combineFrom ..)
        exact .refl ..
      clear_value x9
      split
      · rename_i v11 h12
        refine .mk_next ?_
        assumption
      · rename_i v13 v14 h15
        refine .ite_on ?_ ?_
        · refine .mk_next ?_
          assumption
        · refine .mk_next ?_
          refine .step ?_ (within_finishRoute ..)
          assumption

theorem within_execPassFill (jseq : Nat) (pass : Nat) (s : State) : Within 68190430 s (nextOr s (execPassFill jseq pass s)) := by
  unfold execPassFill
  split
  · rename_i v1 h2
    refine .mk_next ?_
    exact .refl ..
  · rename_i v3 v4 v5 v6 h7
    refine .ite_on ?_ ?_
    · refine .mk_next ?_
      exact .refl ..
    · extract_lets +onlyGivenNames x8
      have h9 : Within 68190430 s x8 := by
        subst x8
        refine .ite ?_ ?_
        · refine .step ?_ (within_fillPass ..)
          exact .refl ..
        · exact .refl ..
      clear_value x8
      split
      · rename_i v10 v11 h12
        refine .ite_on ?_ ?_
        · refine .mk_next ?_
          assumption
        · refine .mk_next ?_
          refine .step ?_ (within_issuePass ..)
          assumption
      · rename_i v13 h14
        refine .mk_next ?_
        assumption

theorem within_execRouteJob (jseq : Nat) (s : State) : Within 84967647 s (nextOr s (execRouteJob jseq s)) := by
  unfold execRouteJob
  split
  · rename_i v1 h2
    refine .mk_next ?_
    exact .refl ..
  · rename_i v3 v4 v5 v6 h7
    refine .ite_on ?_ ?_
    · refine .mk_next ?_
      refine .step ?_ (within_routeSelect ..)
      exact .refl ..
    · refine .ite_on ?_ ?_
      · refine .mk_next ?_
        exact .refl ..
      · refine .ite_on ?_ ?_
        · refine .mk_next ?_
          refine .step ?_ (within_finishRoute ..)
          refine .step ?_ (within_jmod ..)
          exact .refl ..
        · refine .ite_on ?_ ?_
          · refine .mk_next ?_
            exact .refl ..
          · extract_lets +onlyGivenNames x8
            have h9 : Within 84967647 s x8 := by
              subst x8
              refine .step ?_ (within_routeLeave ..)
              exact .refl ..
            clear_value x8
            split
            · rename_i v10 v11 v12 v13 h14
              refine .mk_next ?_
              refine .step ?_ (within_routeSelect ..)
              assumption
            · rename_i v15 h16
              refine .mk_next ?_
              assumption

theorem within_execScatter (jseq : Nat) (pass : Nat) (seg : Nat) (s : State) : Within 68190430 s (nextOr s (execScatter jseq pass seg s)) := by
  unfold execScatter
  split
  · rename_i v1 h2
    refine .mk_next ?_
    exact .refl ..
  · rename_i v3 v4 v5 v6 h7
    extract_lets +onlyGivenNames x8
    clear_value x8
    extract_lets +onlyGivenNames x9
    clear_value x9
    refine .ite_on ?_ ?_
    · refine .mk_next ?_
      exact .refl ..
    · extract_lets +onlyGivenNames x10
      clear_value x10
      extract_lets +onlyGivenNames x11
      clear_value x11
      extract_lets +onlyGivenNames x12
      clear_value x12
      extract_lets +onlyGivenNames x13
      clear_value x13
      extract_lets +onlyGivenNames x14
      clear_value x14
      split
      · rename_i v15 h16
        refine .mk_next ?_
        refine .step ?_ (within_routeError ..)
        exact .refl ..
      · rename_i v17 v18 h19
        extract_lets +onlyGivenNames x20
        clear_value x20
        extract_lets +onlyGivenNames x21
        clear_value x21
        refine .ite_on ?_ ?_
        · refine .mk_next ?_
          refine .step ?_ (within_routeError ..)
          exact .refl ..
        · extract_lets +onlyGivenNames x22
          clear_value x22
          split
          · rename_i v23 v24 h25
            have h26 : Within 68190430 s v24 := by
              refine (.of_snd h25 ?_)
              refine .step ?_ (within_writeAll ..)
              exact .refl ..
            refine .mk_next ?_
            refine .step ?_ (within_routeError ..)
            assumption
          · rename_i v27 v28 h29
            have h30 : Within 68190430 s v28 := by
              refine (.of_snd h29 ?_)
              refine .step ?_ (within_writeAll ..)
              exact .refl ..
            refine .mk_next ?_
            assumption
          · rename_i v31 v32 h33
            have h34 : Within 68190430 s v32 := by
              refine (.of_snd h33 ?_)
              refine .step ?_ (within_writeAll ..)
              exact .refl ..
            refine .mk_next ?_
            refine .step ?_ (within_segScattered ..)
            assumption

theorem within_execStepClose (cluster : Nat) (slot : Nat) (s : State) : Within 67141838 s (nextOr s (execStepClose cluster slot s)) := by
  unfold execStepClose
  refine .ite_on ?_ ?_
  · refine .mk_next ?_
    exact .refl ..
  · extract_lets +onlyGivenNames x1
    clear_value x1
    split
    · rename_i v2 h3
      refine .mk_next ?_
      exact .refl ..
    · rename_i v4 v5 h6
      split
      · rename_i v7 h8
        refine .mk_next ?_
        exact .refl ..
      · rename_i v9 v10 h11
        refine .ite_on ?_ ?_
        · refine .mk_next ?_
          exact .refl ..
        · refine .ite_on ?_ ?_
          · refine .mk_next ?_
            refine .step ?_ (within_freeHeld ..)
            refine .step ?_ (within_setLayer ..)
            exact .refl ..
          · extract_lets +onlyGivenNames x12
            subst x12
            split
            · rename_i v13 h14
              refine .mk_next ?_
              dsimp -zeta only
              refine .step ?_ (within_freeHeld ..)
              refine .step ?_ (within_setLayer ..)
              exact .refl ..
            · rename_i v15 v16 v17 h18
              split
              · rename_i v19 v20 h21
                have h22 : Within 67141838 s v20 := by
                  refine (.of_snd h21 ?_)
                  refine .step ?_ (within_writeAll ..)
                  exact .refl ..
                refine .mk_next ?_
                assumption
              · rename_i v23 v24 v25 h26 h27
                have h28 : Within 67141838 s v25 := by
                  refine (.of_snd h27 ?_)
                  refine .step ?_ (within_writeAll ..)
                  exact .refl ..
                refine .mk_next ?_
                dsimp -zeta only
                refine .step ?_ (within_freeHeld ..)
                refine .step ?_ (within_setLayer ..)
                refine .step ?_ (within_runController ..)
                assumption

theorem within_dmod (s : State) (f : DiffState → DiffState) : Within 268435456 s (s.dmod f) := by
  unfold State.dmod
  refine .upd s 268435456 ?_
  exact .refl ..

theorem within_stage (s : State) (c : Chunk) : Within 268435470 s (s.stage c) := by
  unfold State.stage
  extract_lets +onlyGivenNames x1
  clear_value x1
  extract_lets +onlyGivenNames x2
  have h3 : Within 268435470 s x2 := by
    subst x2
    refine .foldl ?_ ?_
    · exact .refl ..
    · intro s4 v5
      refine .step ?_ (within_cleanse ..)
      refine .step ?_ (within_wbs ..)
      exact .refl ..
  clear_value x2
  extract_lets +onlyGivenNames x6
  have h7 : Within 268435470 s x6 := by
    subst x6
    refine .step ?_ (within_count ..)
    refine .step ?_ (within_wrap ..)
    refine .step ?_ (within_wrap ..)
    assumption
  clear_value x6
  refine .step ?_ (within_dmod ..)
  assumption

theorem within_flushGap (s : State) : Within 268435470 s s.flushGap := by
  unfold State.flushGap
  split
  · rename_i v1 h2
    exact .refl ..
  · rename_i v3 v4 v5 h6
    refine .ite ?_ ?_
    · refine .step ?_ (within_dmod ..)
      refine .step ?_ (within_stage ..)
      exact .refl ..
    · exact .refl ..

theorem within_flushMarks (s : State) (a1 : List Nat) : Within 268435470 s (s.flushMarks a1) := by
  fun_induction State.flushMarks s a1
  · rename_i v1
    exact .refl ..
  · rename_i v2 v3 v4 h5 h6
    refine .trans ?_ (h6)
    refine .step ?_ (within_dmod ..)
    refine .step ?_ (within_stage ..)
    exact .refl ..
  · rename_i v7 v8 v9 h10
    exact .refl ..

theorem within_flushDiff (s : State) : Within 268435470 s s.flushDiff := by
  unfold State.flushDiff
  refine .ite ?_ ?_
  · exact .refl ..
  · extract_lets +onlyGivenNames x1
    have h2 : Within 268435470 s x1 := by
      subst x1
      refine .step ?_ (within_flushGap ..)
      exact .refl ..
    clear_value x1
    refine .ite ?_ ?_
    · assumption
    · refine .step ?_ (within_flushMarks ..)
      assumption

theorem within_markDiff (s : State) (reason : Nat) : Within 268435470 s (s.markDiff reason) := by
  unfold State.markDiff
  refine .ite ?_ ?_
  · refine .step ?_ (within_flushDiff ..)
    refine .step ?_ (within_dmod ..)
    exact .refl ..
  · exact .refl ..

theorem within_difEnable (s : State) : Within 268435470 s s.difEnable := by
  unfold State.difEnable
  extract_lets +onlyGivenNames x1
  have h2 : Within 268435470 s x1 := by
    subst x1
    refine .step ?_ (within_setReg ..)
    refine .step ?_ (within_setReg ..)
    refine .step ?_ (within_setReg ..)
    refine .step ?_ (within_setReg ..)
    exact .refl ..
  clear_value x1
  extract_lets +onlyGivenNames x3
  have h4 : Within 268435470 s x3 := by
    subst x3
    refine .step ?_ (within_set ..)
    refine .step ?_ (within_set ..)
    refine .step ?_ (within_setFlag ..)
    assumption
  clear_value x3
  refine .step ?_ (within_markDiff ..)
  refine .step ?_ (within_dmod ..)
  assumption

theorem within_difDrained (s : State) : Within 268435458 s s.difDrained := by
  unfold State.difDrained
  refine .ite ?_ ?_
  · refine .step ?_ (within_dmod ..)
    refine .step ?_ (within_set ..)
    exact .refl ..
  · exact .refl ..

theorem within_difDisable (s : State) : Within 268435458 s s.difDisable := by
  unfold State.difDisable
  extract_lets +onlyGivenNames x1
  have h2 : Within 268435458 s x1 := by
    subst x1
    refine .step ?_ (within_dmod ..)
    refine .step ?_ (within_setFlag ..)
    exact .refl ..
  clear_value x1
  refine .ite ?_ ?_
  · refine .step ?_ (within_difDrained ..)
    refine .step ?_ (within_dmod ..)
    refine .step ?_ (within_set ..)
    assumption
  · refine .ite ?_ ?_
    · refine .step ?_ (within_dmod ..)
      refine .step ?_ (within_set ..)
      assumption
    · assumption

theorem within_stageDelta (s : State) (room : Bool) (seqr : Nat) (rule : Nat) (step : Nat) (block : Nat) (old : List Byte) (new : List Byte) : Within 268435470 s (s.stageDelta room seqr rule step block old new) := by
  unfold State.stageDelta
  refine .ite ?_ ?_
  · exact .refl ..
  · refine .ite ?_ ?_
    · refine .step ?_ (within_dmod ..)
      refine .step ?_ (within_stage ..)
      exact .refl ..
    · refine .step ?_ (within_dmod ..)
      refine .step ?_ (within_count ..)
      exact .refl ..

theorem within_stageStepEnd (s : State) (seqr : Nat) (step : Nat) (verdict : Nat) (ac : Nat) : Within 268435470 s (s.stageStepEnd seqr step verdict ac) := by
  unfold State.stageStepEnd
  extract_lets +onlyGivenNames x1
  clear_value x1
  extract_lets +onlyGivenNames x2
  have h3 : Within 268435470 s x2 := by
    subst x2
    refine .step ?_ (within_dmod ..)
    exact .refl ..
  clear_value x2
  refine .ite ?_ ?_
  · refine .step ?_ (within_stage ..)
    assumption
  · assumption

theorem within_execDelivery (s : State) : Within 268435534 s (nextOr s (execDelivery s)) := by
  unfold execDelivery
  extract_lets +onlyGivenNames x1
  clear_value x1
  extract_lets +onlyGivenNames x2
  clear_value x2
  split
  · rename_i v3 h4
    refine .mk_next ?_
    refine .step ?_ (within_flushDiff ..)
    refine .step ?_ (within_difDrained ..)
    exact .refl ..
  · rename_i v5 v6 v7 h8
    refine .ite_on ?_ ?_
    · refine .mk_next ?_
      exact .refl ..
    · extract_lets +onlyGivenNames x9
      clear_value x9
      extract_lets +onlyGivenNames x10
      clear_value x10
      refine .ite_on ?_ ?_
      · refine .mk_next ?_
        refine .step ?_ (within_set ..)
        refine .step ?_ (within_set ..)
        exact .refl ..
      · refine .ite_on ?_ ?_
        · refine .mk_next ?_
          exact .refl ..
        · extract_lets +onlyGivenNames x11
          clear_value x11
          extract_lets +onlyGivenNames x12
          clear_value x12
          extract_lets +onlyGivenNames x13
          have h14 : Within 268435534 s x13 := by
            subst x13
            refine .foldl ?_ ?_
            · exact .refl ..
            · intro s15 v16
              refine .step ?_ (within_tx ..)
              exact .refl ..
          clear_value x13
          extract_lets +onlyGivenNames x17
          have h18 : Within 268435534 s x17 := by
            subst x17
            refine .step ?_ (within_dmod ..)
            refine .step ?_ (within_wrap ..)
            assumption
          clear_value x17
          extract_lets +onlyGivenNames x19
          have h20 : Within 268435534 s x19 := by
            subst x19
            refine .ite ?_ ?_
            · refine .step ?_ (within_signal ..)
              assumption
            · assumption
          clear_value x19
          refine .mk_next ?_
          refine .step ?_ (within_flushDiff ..)
          refine .step ?_ (within_difDrained ..)
          assumption

theorem within_acceptSweep (s : State) (j : Nat) (d : Nat) (ws : List Word) : Within 134217728 s (s.acceptSweep j d ws) := by
  unfold State.acceptSweep
  split
  · rename_i v1 h2
    exact .refl ..
  · rename_i v3 v4 h5
    extract_lets +onlyGivenNames x6
    clear_value x6
    refine .upd s 134217728 ?_
    exact .refl ..

theorem within_sweepMod (s : State) (j : Nat) (f : SweepRun → SweepRun) : Within 134217728 s (s.sweepMod j f) := by
  unfold State.sweepMod
  refine .upd s 134217728 ?_
  exact .refl ..

theorem within_finishSweep (s : State) (j : Nat) (st : Status) : Within 219185362 s (s.finishSweep j st) := by
  unfold State.finishSweep
  split
  · rename_i v1 v2 h3
    refine .step ?_ (within_sweepMod ..)
    refine .step ?_ (within_finish ..)
    exact .refl ..
  · rename_i v4 h5
    exact .refl ..

theorem within_sweepEnd (s : State) (j : Nat) (e : JEntry) : Within 219185362 s (s.sweepEnd j e) := by
  unfold State.sweepEnd
  split
  · rename_i v1 h2
    exact .refl ..
  · rename_i v3 v4 h5
    refine .ite ?_ ?_
    · exact .refl ..
    · refine .ite ?_ ?_
      · refine .step ?_ (within_sweepMod ..)
        exact .refl ..
      · refine .step ?_ (within_finishSweep ..)
        exact .refl ..

theorem within_countCatch (s : State) (d : Nat) (step : Nat) (ms : List (SweepMat × Nat)) : Within 2 s (s.countCatch d step ms) := by
  unfold State.countCatch
  refine .foldl ?_ ?_
  · exact .refl ..
  · intro s1 v2
    extract_lets +onlyGivenNames x3
    have h4 : Within 2 s1 x3 := by
      subst x3
      refine .ite ?_ ?_
      · refine .step ?_ (within_count ..)
        exact .refl ..
      · exact .refl ..
    clear_value x3
    refine .ite ?_ ?_
    · refine .step ?_ (within_count ..)
      assumption
    · refine .ite ?_ ?_
      · refine .step ?_ (within_count ..)
        assumption
      · assumption

theorem within_ruleMod (s : State) (n : Nat) (f : RuleStat → RuleStat) : Within 134217728 s (s.ruleMod n f) := by
  unfold State.ruleMod
  refine .upd s 134217728 ?_
  exact .refl ..

theorem within_endRule (s : State) (j : Nat) (n : Nat) (r : Rule) : Within 134217730 s (s.endRule j n r) := by
  unfold State.endRule
  refine .step ?_ (within_sweepMod ..)
  refine .step ?_ (within_ruleMod ..)
  refine .step ?_ (within_raiseMark ..)
  exact .refl ..

theorem within_beginRules (s : State) (j : Nat) (d : Nat) (e : JEntry) (a4 : Nat) : Within 219185362 s (s.beginRules j d e a4) := by
  fun_induction State.beginRules s j d e a4
  · rename_i v1
    exact .refl ..
  · rename_i v2 v3 h4
    exact .refl ..
  · rename_i v5 v6 v7 h8 h9
    refine .step ?_ (within_sweepEnd ..)
    exact .refl ..
  · rename_i v10 v11 v12 h13 h14 h15
    refine .step ?_ (within_finishSweep ..)
    exact .refl ..
  · rename_i v16 v17 v18 h19 h20 v21 v22 h23 v24 h25
    have h26 : Within 219185362 v16 v24 := by
      refine (.of_snd h25 ?_)
      refine .step ?_ (within_readAll ..)
      exact .refl ..
    refine .step ?_ (within_finishSweep ..)
    assumption
  · rename_i v27 v28 v29 h30 h31 v32 v33 h34 v35 h36
    have h37 : Within 219185362 v27 v35 := by
      refine (.of_snd h36 ?_)
      refine .step ?_ (within_readAll ..)
      exact .refl ..
    assumption
  · rename_i v38 v39 v40 h41 h42 v43 v44 h45 v46 v47 v48 h49 v50 v51 v52 v53 v54 h55 h56
    have h57 : Within 219185362 v38 v48 := by
      refine (.of_snd h49 ?_)
      refine .step ?_ (within_readAll ..)
      exact .refl ..
    refine .trans ?_ (h56)
    refine .step ?_ (within_endRule ..)
    subst v54
    refine .step ?_ (within_sweepMod ..)
    subst v53
    refine .step ?_ (within_ruleMod ..)
    subst v51
    refine .ite ?_ ?_
    · assumption
    · refine .step ?_ (within_countCatch ..)
      assumption
  · rename_i v58 v59 v60 h61 h62 v63 v64 h65 v66 v67 v68 h69 v70 v71 v72 v73 v74 h75
    have h76 : Within 219185362 v58 v68 := by
      refine (.of_snd h69 ?_)
      refine .step ?_ (within_readAll ..)
      exact .refl ..
    subst v74
    refine .step ?_ (within_sweepMod ..)
    subst v73
    refine .step ?_ (within_ruleMod ..)
    subst v71
    refine .ite ?_ ?_
    · assumption
    · refine .step ?_ (within_countCatch ..)
      assumption

theorem within_nextMatrix (s : State) (j : Nat) (d : Nat) (n : Nat) (e : JEntry) (u : Rule) : Within 219185362 s (s.nextMatrix j d n e u) := by
  unfold State.nextMatrix
  split
  · rename_i v1 h2
    exact .refl ..
  · rename_i v3 v4 h5
    split
    · rename_i v6 h7
      refine .step ?_ (within_beginRules ..)
      refine .step ?_ (within_endRule ..)
      exact .refl ..
    · rename_i v8 h9
      refine .step ?_ (within_sweepMod ..)
      exact .refl ..

theorem within_afterBlocks (s : State) (j : Nat) (d : Nat) (n : Nat) (e : JEntry) (u : Rule) : Within 219185362 s (s.afterBlocks j d n e u) := by
  unfold State.afterBlocks
  split
  · rename_i v1 h2
    exact .refl ..
  · rename_i v3 v4 h5
    refine .ite ?_ ?_
    · exact .refl ..
    · refine .ite ?_ ?_
      · refine .step ?_ (within_sweepMod ..)
        exact .refl ..
      · refine .step ?_ (within_nextMatrix ..)
        exact .refl ..

theorem within_clearBits (s : State) (ws : List Word) (r : Rule) : Within 4 s (s.clearBits ws r) := by
  unfold State.clearBits
  refine .foldl ?_ ?_
  · exact .refl ..
  · intro s1 v2
    extract_lets +onlyGivenNames x3
    clear_value x3
    refine .step ?_ (within_wbs ..)
    exact .refl ..

theorem within_putAll (s : State) (l : List (Nat × List Byte)) : Within 12 s (s.putAll l) := by
  unfold State.putAll
  refine .foldl ?_ ?_
  · exact .refl ..
  · intro s1 v2
    refine .step ?_ (within_cleanse ..)
    refine .step ?_ (within_wbs ..)
    exact .refl ..

theorem within_putDurable (s : State) (l : List (Nat × List Byte)) : Within 12 s (s.putDurable l).snd := by
  unfold State.putDurable
  split
  · rename_i v1 h2
    refine .mk_snd ?_
    exact .refl ..
  · rename_i v3 h4
    refine .mk_snd ?_
    exact .refl ..
  · rename_i v5 h6
    refine .mk_snd ?_
    refine .step ?_ (within_putAll ..)
    exact .refl ..

theorem within_commitGroup {k j d i : Nat} {e : JEntry} {u : Rule} {m : SweepMat} {b : Nat} {ws : List (Nat × List Byte)} {delta : State → State} {s0 s : State}
    (h : Within k s0 s) (hd : ∀ t, Within k t (delta t)) (hm : 219185374 ||| k = k := by decide) :
    Within k s0 (s.commitGroup j d i e u m b ws delta) := by
  have up : ∀ {a b : State}, Within 219185374 a b → Within k a b := fun x => x.mono hm
  refine h.trans ?_
  unfold State.commitGroup
  split <;> next x =>
    first
    | exact up (.step (.of_snd x (.step (.refl ..) (within_putDurable ..))) (within_finishSweep ..))
    | exact up (.of_snd x (.step (.refl ..) (within_putDurable ..)))
    | exact (up (.of_snd x (.step (.refl ..) (within_putDurable ..)))).trans ((hd _).trans (up (.step (.step (.step (.step (.refl ..) (within_count ..))
        (within_ruleMod ..)) (within_sweepMod ..)) (within_afterBlocks ..))))

theorem within_copyMatrix (s : State) (j : Nat) (r : Rule) (step : Nat) (e : Nat) : Within 32974 s (s.copyMatrix j r step e).snd := by
  unfold State.copyMatrix
  split
  · rename_i v1 v2 h3
    have h4 : Within 32974 s v2 := by
      refine (.of_snd h3 ?_)
      refine .step ?_ (within_readAll ..)
      exact .refl ..
    assumption
  · rename_i v5 v6 h7
    have h8 : Within 32974 s v6 := by
      refine (.of_snd h7 ?_)
      refine .step ?_ (within_readAll ..)
      exact .refl ..
    assumption
  · rename_i v9 v10 v11 h12
    have h13 : Within 32974 s v11 := by
      refine (.of_snd h12 ?_)
      refine .step ?_ (within_readAll ..)
      exact .refl ..
    extract_lets +onlyGivenNames x14
    clear_value x14
    refine .step ?_ (within_putDurable ..)
    assumption

theorem within_restoreRule (s : State) (j : Nat) (r : Rule) : Within 32974 s (s.restoreRule j r).snd := by
  unfold State.restoreRule
  extract_lets +onlyGivenNames x1
  clear_value x1
  extract_lets +onlyGivenNames x2
  clear_value x2
  extract_lets +onlyGivenNames x3
  clear_value x3
  extract_lets +onlyGivenNames x4
  clear_value x4
  split
  · rename_i v5 v6 h7
    have h8 : Within 32974 s v6 := by
      refine (.of_snd h7 ?_)
      refine .step ?_ (within_readAll ..)
      exact .refl ..
    assumption
  · rename_i v9 v10 h11
    have h12 : Within 32974 s v10 := by
      refine (.of_snd h11 ?_)
      refine .step ?_ (within_readAll ..)
      exact .refl ..
    assumption
  · rename_i v13 v14 v15 h16
    have h17 : Within 32974 s v15 := by
      refine (.of_snd h16 ?_)
      refine .step ?_ (within_readAll ..)
      exact .refl ..
    refine .step ?_ (within_putDurable ..)
    assumption

theorem within_restoreRules (s : State) (j : Nat) (d : Nat) (e : JEntry) (a4 : Nat) : Within 219185374 s (s.restoreRules j d e a4) := by
  fun_induction State.restoreRules s j d e a4
  · rename_i v1
    exact .refl ..
  · rename_i v2 v3 h4
    exact .refl ..
  · rename_i v5 v6 v7 h8 h9
    refine .step ?_ (within_finishSweep ..)
    exact .refl ..
  · rename_i v10 v11 v12 h13 v14 v15 h16 v17 h18
    have h19 : Within 219185374 v10 v17 := by
      refine (.of_snd h18 ?_)
      refine .step ?_ (within_restoreRule ..)
      exact .refl ..
    refine .step ?_ (within_finishSweep ..)
    assumption
  · rename_i v20 v21 v22 h23 v24 v25 h26 v27 h28
    have h29 : Within 219185374 v20 v27 := by
      refine (.of_snd h28 ?_)
      refine .step ?_ (within_restoreRule ..)
      exact .refl ..
    assumption
  · rename_i v30 v31 v32 h33 v34 v35 h36 v37 h38 v39 v40 h41 h42
    have h43 : Within 219185374 v30 v37 := by
      refine (.of_snd h38 ?_)
      refine .step ?_ (within_restoreRule ..)
      exact .refl ..
    refine .step ?_ (within_sweepEnd ..)
    subst v39
    refine .step ?_ (within_endRule ..)
    refine .step ?_ (within_ruleMod ..)
    refine .step ?_ (within_count ..)
    assumption
  · rename_i v44 v45 v46 h47 v48 v49 h50 v51 h52 v53 v54 h55 h56 h57
    have h58 : Within 219185374 v44 v51 := by
      refine (.of_snd h52 ?_)
      refine .step ?_ (within_restoreRule ..)
      exact .refl ..
    refine .trans ?_ (h57)
    subst v53
    refine .step ?_ (within_endRule ..)
    refine .step ?_ (within_ruleMod ..)
    refine .step ?_ (within_count ..)
    assumption
  · rename_i v59 v60 v61 h62 v63 v64 h65 v66 h67 v68 h69
    have h70 : Within 219185374 v59 v66 := by
      refine (.of_snd h67 ?_)
      refine .step ?_ (within_restoreRule ..)
      exact .refl ..
    subst v68
    refine .step ?_ (within_endRule ..)
    refine .step ?_ (within_ruleMod ..)
    refine .step ?_ (within_count ..)
    assumption

theorem within_skipBlocks (s : State) (j : Nat) (d : Nat) (e : JEntry) (u : Rule) (m : SweepMat) (a6 : Nat) : Within 134217730 s (s.skipBlocks j d e u m a6) := by
  fun_induction State.skipBlocks s j d e u m a6
  · rename_i v1
    exact .refl ..
  · rename_i v2 v3 h4
    exact .refl ..
  · rename_i v5 v6 v7 h8 h9 v10 v11 h12
    refine .trans ?_ (h12)
    refine .step ?_ (within_sweepMod ..)
    subst v11
    refine .ite ?_ ?_
    · refine .step ?_ (within_count ..)
      exact .refl ..
    · exact .refl ..
  · rename_i v13 v14 v15 h16 h17
    exact .refl ..

theorem within_startSweep (s : State) (j : Nat) (d : Nat) (e : JEntry) : Within 219185374 s (s.startSweep j d e) := by
  unfold State.startSweep
  extract_lets +onlyGivenNames x1
  clear_value x1
  split
  · rename_i v2 h3
    exact .refl ..
  · rename_i v4 v5 h6
    refine .ite ?_ ?_
    · exact .refl ..
    · refine .ite ?_ ?_
      · refine .step ?_ (within_restoreRules ..)
        refine .step ?_ (within_sweepMod ..)
        exact .refl ..
      · extract_lets +onlyGivenNames x7
        clear_value x7
        extract_lets +onlyGivenNames x8
        have h9 : Within 219185374 s x8 := by
          subst x8
          refine .ite ?_ ?_
          · refine .foldl ?_ ?_
            · exact .refl ..
            · intro s10 v11
              refine .step ?_ (within_clearBits ..)
              exact .refl ..
          · exact .refl ..
        clear_value x8
        refine .step ?_ (within_beginRules ..)
        refine .step ?_ (within_sweepMod ..)
        assumption

theorem within_execCommitGroup (jseq : Nat) (s : State) : Within 487620830 s (nextOr s (execCommitGroup jseq s)) := by
  unfold execCommitGroup
  split
  · rename_i v1 h2
    refine .mk_next ?_
    exact .refl ..
  · rename_i v3 v4 v5 v6 v7 v8 h9
    extract_lets +onlyGivenNames x10
    clear_value x10
    extract_lets +onlyGivenNames x11
    have h12 : Within 487620830 s x11 := by
      subst x11
      refine .step ?_ (within_skipBlocks ..)
      exact .refl ..
    clear_value x11
    extract_lets +onlyGivenNames x13
    clear_value x13
    refine .ite_on ?_ ?_
    · refine .mk_next ?_
      refine .step ?_ (within_afterBlocks ..)
      assumption
    · refine .ite_on ?_ ?_
      · extract_lets +onlyGivenNames x14
        clear_value x14
        split
        · rename_i v15 v16 h17
          have h18 : Within 487620830 s v16 := by
            refine (.of_snd h17 ?_)
            refine .step ?_ (within_readAll ..)
            assumption
          refine .mk_next ?_
          refine .step ?_ (within_finishSweep ..)
          assumption
        · rename_i v19 v20 h21
          have h22 : Within 487620830 s v20 := by
            refine (.of_snd h21 ?_)
            refine .step ?_ (within_readAll ..)
            assumption
          refine .mk_next ?_
          assumption
        · rename_i v23 v24 v25 h26
          have h27 : Within 487620830 s v25 := by
            refine (.of_snd h26 ?_)
            refine .step ?_ (within_readAll ..)
            assumption
          refine .mk_next ?_
          refine within_commitGroup ?_ ?_
          · assumption
          · intro a28
            refine .mk_id ?_
            exact .refl ..
      · extract_lets +onlyGivenNames x29
        have h30 : Within 487620830 s x29 := by
          subst x29
          refine .step ?_ (within_flushDiff ..)
          assumption
        clear_value x29
        extract_lets +onlyGivenNames x31
        clear_value x31
        refine .ite_on ?_ ?_
        · refine .mk_next ?_
          refine .step ?_ (within_sweepMod ..)
          refine .ite ?_ ?_
          · assumption
          · refine .step ?_ (within_count ..)
            assumption
        · split
          · rename_i v32 v33 h34
            have h35 : Within 487620830 s v33 := by
              refine (.of_snd h34 ?_)
              refine .step ?_ (within_readAll ..)
              assumption
            refine .mk_next ?_
            refine .step ?_ (within_finishSweep ..)
            assumption
          · rename_i v36 v37 h38
            have h39 : Within 487620830 s v37 := by
              refine (.of_snd h38 ?_)
              refine .step ?_ (within_readAll ..)
              assumption
            refine .mk_next ?_
            assumption
          · rename_i v40 v41 v42 h43
            have h44 : Within 487620830 s v42 := by
              refine (.of_snd h43 ?_)
              refine .step ?_ (within_readAll ..)
              assumption
            extract_lets +onlyGivenNames x45
            clear_value x45
            extract_lets +onlyGivenNames x46
            clear_value x46
            extract_lets +onlyGivenNames x47
            clear_value x47
            extract_lets +onlyGivenNames x48
            clear_value x48
            refine .mk_next ?_
            refine within_commitGroup ?_ ?_
            · assumption
            · intro a49
              refine .step ?_ (within_stageDelta ..)
              exact .refl ..

theorem within_execFinal (jseq : Nat) (s : State) : Within 487620830 s (nextOr s (execFinal jseq s)) := by
  unfold execFinal
  split
  · rename_i v1 h2
    refine .mk_next ?_
    exact .refl ..
  · rename_i v3 v4 v5 h6
    extract_lets +onlyGivenNames x7
    clear_value x7
    refine .ite_on ?_ ?_
    · refine .mk_next ?_
      exact .refl ..
    · extract_lets +onlyGivenNames x8
      have h9 : Within 487620830 s x8 := by
        subst x8
        refine .step ?_ (within_flushDiff ..)
        exact .refl ..
      clear_value x8
      refine .ite_on ?_ ?_
      · refine .mk_next ?_
        assumption
      · extract_lets +onlyGivenNames x10
        clear_value x10
        split
        · rename_i v11 v12 h13
          have h14 : Within 487620830 s v12 := by
            refine (.of_snd h13 ?_)
            refine .step ?_ (within_putDurable ..)
            assumption
          refine .mk_next ?_
          refine .step ?_ (within_finishSweep ..)
          assumption
        · rename_i v15 v16 h17
          have h18 : Within 487620830 s v16 := by
            refine (.of_snd h17 ?_)
            refine .step ?_ (within_putDurable ..)
            assumption
          refine .mk_next ?_
          assumption
        · rename_i v19 v20 h21
          have h22 : Within 487620830 s v20 := by
            refine (.of_snd h21 ?_)
            refine .step ?_ (within_putDurable ..)
            assumption
          extract_lets +onlyGivenNames x23
          have h24 : Within 487620830 s x23 := by
            subst x23
            refine .step ?_ (within_stageStepEnd ..)
            assumption
          clear_value x23
          refine .mk_next ?_
          refine .step ?_ (within_finishSweep ..)
          assumption

theorem within_execPrep (jseq : Nat) (s : State) : Within 219185374 s (nextOr s (execPrep jseq s)) := by
  unfold execPrep
  split
  · rename_i v1 h2
    refine .mk_next ?_
    exact .refl ..
  · rename_i v3 v4 v5 v6 v7 v8 h9
    split
    · rename_i v10 v11 h12
      have h13 : Within 219185374 s v11 := by
        refine (.of_snd h12 ?_)
        refine .step ?_ (within_readAll ..)
        exact .refl ..
      refine .mk_next ?_
      refine .step ?_ (within_finishSweep ..)
      assumption
    · rename_i v14 v15 h16
      have h17 : Within 219185374 s v15 := by
        refine (.of_snd h16 ?_)
        refine .step ?_ (within_readAll ..)
        exact .refl ..
      refine .mk_next ?_
      assumption
    · rename_i v18 v19 v20 h21
      have h22 : Within 219185374 s v20 := by
        refine (.of_snd h21 ?_)
        refine .step ?_ (within_readAll ..)
        exact .refl ..
      split
      · rename_i v23 v24 h25
        have h26 : Within 219185374 s v20 := by
          refine (.of_snd h21 ?_)
          refine .step ?_ (within_readAll ..)
          exact .refl ..
        have h27 : Within 219185374 s v24 := by
          refine (.of_snd h25 ?_)
          refine .step ?_ (within_putDurable ..)
          assumption
        refine .mk_next ?_
        refine .step ?_ (within_finishSweep ..)
        assumption
      · rename_i v28 v29 h30
        have h31 : Within 219185374 s v20 := by
          refine (.of_snd h21 ?_)
          refine .step ?_ (within_readAll ..)
          exact .refl ..
        have h32 : Within 219185374 s v29 := by
          refine (.of_snd h30 ?_)
          refine .step ?_ (within_putDurable ..)
          assumption
        refine .mk_next ?_
        assumption
      · rename_i v33 v34 h35
        have h36 : Within 219185374 s v20 := by
          refine (.of_snd h21 ?_)
          refine .step ?_ (within_readAll ..)
          exact .refl ..
        have h37 : Within 219185374 s v34 := by
          refine (.of_snd h35 ?_)
          refine .step ?_ (within_putDurable ..)
          assumption
        refine .mk_next ?_
        refine .step ?_ (within_sweepMod ..)
        refine .step ?_ (within_ruleMod ..)
        assumption

theorem within_execSweep (jseq : Nat) (s : State) : Within 219185374 s (nextOr s (execSweep jseq s)) := by
  unfold execSweep
  split
  · rename_i v1 h2
    refine .mk_next ?_
    exact .refl ..
  · rename_i v3 v4 v5 h6
    split
    · rename_i v7 h8
      refine .ite_on ?_ ?_
      · refine .mk_next ?_
        exact .refl ..
      · refine .ite_on ?_ ?_
        · refine .mk_next ?_
          refine .step ?_ (within_finishSweep ..)
          refine .step ?_ (within_jmod ..)
          exact .refl ..
        · refine .ite_on ?_ ?_
          · refine .mk_next ?_
            exact .refl ..
          · extract_lets +onlyGivenNames x9
            have h10 : Within 219185374 s x9 := by
              subst x9
              refine .step ?_ (within_jmod ..)
              refine .step ?_ (within_consumeWaits ..)
              exact .refl ..
            clear_value x9
            extract_lets +onlyGivenNames x11
            have h12 : Within 219185374 s x11 := by
              subst x11
              refine .step ?_ (within_sweepMod ..)
              assumption
            clear_value x11
            refine .mk_next ?_
            refine .step ?_ (within_startSweep ..)
            assumption
    · rename_i v13 h14
      refine .mk_next ?_
      refine .step ?_ (within_startSweep ..)
      exact .refl ..
    · rename_i v15 h16
      refine .ite_on ?_ ?_
      · refine .mk_next ?_
        refine .step ?_ (within_beginRules ..)
        exact .refl ..
      · refine .mk_next ?_
        exact .refl ..
    · rename_i v17 h18
      refine .mk_next ?_
      refine .step ?_ (within_restoreRules ..)
      exact .refl ..
    · rename_i v19 h20
      refine .mk_next ?_
      exact .refl ..

theorem within_execSweepCopy (jseq : Nat) (s : State) : Within 219185374 s (nextOr s (execSweepCopy jseq s)) := by
  unfold execSweepCopy
  split
  · rename_i v1 h2
    refine .mk_next ?_
    exact .refl ..
  · rename_i v3 v4 v5 v6 v7 v8 h9
    split
    · rename_i v10 v11 h12
      have h13 : Within 219185374 s v11 := by
        refine (.of_snd h12 ?_)
        refine .step ?_ (within_copyMatrix ..)
        exact .refl ..
      refine .mk_next ?_
      refine .step ?_ (within_finishSweep ..)
      assumption
    · rename_i v14 v15 h16
      have h17 : Within 219185374 s v15 := by
        refine (.of_snd h16 ?_)
        refine .step ?_ (within_copyMatrix ..)
        exact .refl ..
      refine .mk_next ?_
      assumption
    · rename_i v18 v19 h20
      have h21 : Within 219185374 s v19 := by
        refine (.of_snd h20 ?_)
        refine .step ?_ (within_copyMatrix ..)
        exact .refl ..
      refine .mk_next ?_
      refine .step ?_ (within_nextMatrix ..)
      refine .step ?_ (within_ruleMod ..)
      assumption

theorem within_takeIn (s : State) (j : Nat) (t : Target) (ws : List Word) : Within 209747970 s (s.takeIn j t ws) := by
  unfold State.takeIn
  split
  · rename_i v1 v2
    refine .step ?_ (within_acceptRoute ..)
    exact .refl ..
  · rename_i v3 v4
    refine .step ?_ (within_acceptSweep ..)
    exact .refl ..
  · rename_i v5
    refine .step ?_ (within_acceptSeal ..)
    exact .refl ..
  · rename_i v6
    refine .ite ?_ ?_
    · refine .step ?_ (within_vmod ..)
      refine .step ?_ (within_set ..)
      exact .refl ..
    · exact .refl ..
  · rename_i v7 h8 h9 h10 h11
    exact .refl ..

theorem within_acceptCommand (s : State) (r : Nat) (idx : Nat) (sub : Nat) (env : List Word) (ws : List Word) (irq : Bool) (t : Target) (tile : Nat) : Within 1284538386 s (s.acceptCommand r idx sub env ws irq t tile) := by
  unfold State.acceptCommand
  extract_lets +onlyGivenNames x1
  clear_value x1
  extract_lets +onlyGivenNames x2
  clear_value x2
  extract_lets +onlyGivenNames x3
  clear_value x3
  extract_lets +onlyGivenNames x4
  clear_value x4
  extract_lets +onlyGivenNames x5
  clear_value x5
  extract_lets +onlyGivenNames x6
  clear_value x6
  extract_lets +onlyGivenNames x7
  have h8 : Within 1284538386 s x7 := by
    subst x7
    refine .step ?_ (within_recordUda ..)
    refine .step ?_ (within_enter ..)
    exact .refl ..
  clear_value x7
  extract_lets +onlyGivenNames x9
  have h10 : Within 1284538386 s x9 := by
    subst x9
    refine .ite ?_ ?_
    · assumption
    · refine .step ?_ (within_takeIn ..)
      assumption
  clear_value x9
  refine .step ?_ (within_wake ..)
  refine .step ?_ (within_settleOldest ..)
  assumption

theorem within_passEntries (s : State) (r : Nat) (n : Nat) : Within 66 s (s.passEntries r n) := by
  unfold State.passEntries
  refine .step ?_ (within_hmod ..)
  refine .step ?_ (within_wrap ..)
  exact .refl ..

theorem within_acceptHead (s : State) (r : Nat) : Within 1284538450 s (s.acceptHead r) := by
  unfold State.acceptHead
  extract_lets +onlyGivenNames x1
  clear_value x1
  refine .ite ?_ ?_
  · exact .refl ..
  · extract_lets +onlyGivenNames x2
    clear_value x2
    split
    · rename_i v3 v4
      extract_lets +onlyGivenNames x5
      clear_value x5
      refine .step ?_ (within_hmod ..)
      refine .step ?_ (within_passEntries ..)
      exact .refl ..
    · rename_i v6 v7
      refine .ite ?_ ?_
      · exact .refl ..
      · refine .ite ?_ ?_
        · refine .step ?_ (within_count ..)
          exact .refl ..
        · refine .step ?_ (within_acceptCommand ..)
          refine .step ?_ (within_passEntries ..)
          exact .refl ..
    · rename_i v8 v9 v10 v11
      refine .ite ?_ ?_
      · exact .refl ..
      · refine .ite ?_ ?_
        · refine .step ?_ (within_count ..)
          exact .refl ..
        · extract_lets +onlyGivenNames x12
          clear_value x12
          extract_lets +onlyGivenNames x13
          clear_value x13
          extract_lets +onlyGivenNames x14
          clear_value x14
          extract_lets +onlyGivenNames x15
          have h16 : Within 1284538450 s x15 := by
            subst x15
            refine .step ?_ (within_hmod ..)
            refine .step ?_ (within_passEntries ..)
            exact .refl ..
          clear_value x15
          refine .step ?_ (within_acceptCommand ..)
          assumption
    · rename_i v17 h18 h19 h20
      exact .refl ..

theorem within_acceptGroup (s : State) (r : Nat) (a2 : Nat) : Within 1284538450 s (s.acceptGroup r a2) := by
  fun_induction State.acceptGroup s r a2
  · rename_i v1
    exact .refl ..
  · rename_i v2 v3 v4 v5 v6 h7 v8 h9
    subst v8
    refine .step ?_ (within_acceptHead ..)
    exact .refl ..
  · rename_i v10 v11 v12 v13 v14 h15 v16 h17 h18
    refine .trans ?_ (h18)
    subst v16
    refine .step ?_ (within_acceptHead ..)
    exact .refl ..
  · rename_i v19 v20 h21
    exact .refl ..

theorem within_execAcceptance (ring : Nat) (s : State) : Within 1284538450 s (nextOr s (execAcceptance ring s)) := by
  unfold execAcceptance
  refine .ite_on ?_ ?_
  · refine .mk_next ?_
    exact .refl ..
  · refine .mk_next ?_
    refine .step ?_ (within_acceptHead ..)
    exact .refl ..

theorem within_execForward (ring : Nat) (s : State) : Within 1284538450 s (nextOr s (execForward ring s)) := by
  unfold execForward
  refine .ite_on ?_ ?_
  · refine .mk_next ?_
    exact .refl ..
  · split
    · rename_i v1 v2 h3
      refine .mk_next ?_
      refine .step ?_ (within_acceptHead ..)
      exact .refl ..
    · rename_i v4 h5
      refine .mk_next ?_
      refine .step ?_ (within_acceptGroup ..)
      exact .refl ..

theorem within_execRingError (ring : Nat) (s : State) : Within 194 s (nextOr s (execRingError ring s)) := by
  unfold execRingError
  refine .ite_on ?_ ?_
  · refine .mk_next ?_
    exact .refl ..
  · split
    · rename_i v1 h2
      refine .mk_next ?_
      exact .refl ..
    · rename_i v3 v4 h5
      extract_lets +onlyGivenNames x6
      have h7 : Within 194 s x6 := by
        subst x6
        refine .step ?_ (within_hmod ..)
        refine .step ?_ (within_set ..)
        exact .refl ..
      clear_value x6
      refine .mk_next ?_
      refine .step ?_ (within_raise ..)
      assumption

theorem within_underImage (s : State) (part : Bool) (h : ImgHeader) (new : List Section) : Within 19488 s (s.underImage part h new) := by
  unfold State.underImage
  extract_lets +onlyGivenNames x1
  clear_value x1
  refine .upd s 19488 ?_
  exact .refl ..

end Sys2Proof.Machine
end

