-- ==== Sys2Proof/Laws/Within6.lean ====
section
/-! SUPPORT. What the operations of ChangeJournal, Tile, Tier, HostCopy may change (see Laws/Within.lean). -/

set_option Elab.async false

namespace Sys2Proof.Machine

theorem within_record_ (s : State) (c : Change) : Within 258 s (s.record_ c) := by
  unfold State.record_
  extract_lets +onlyGivenNames x1
  clear_value x1
  refine .step ?_ (within_wrap ..)
  refine .upd s 256 ?_
  exact .refl ..

theorem within_editTileMap (s : State) (t : Nat) (dest : Option Nat) (unit : Nat) : Within 290 s (s.editTileMap t dest unit) := by
  unfold State.editTileMap
  extract_lets +onlyGivenNames x1
  clear_value x1
  refine .step ?_ (within_record_ ..)
  refine .upd s 32 ?_
  exact .refl ..

theorem within_startReform (s : State) (t : Nat) (p : Nat) (e : JEntry) : Within 2 s (s.startReform t p e) := by
  unfold State.startReform
  refine .ite ?_ ?_
  · exact .refl ..
  · refine .foldl ?_ ?_
    · exact .refl ..
    · intro s1 v2
      refine .step ?_ (within_setFlag ..)
      exact .refl ..

theorem within_armInjection (s : State) (p : Nat) (v : Word) : Within 262144 s (s.armInjection p v) := by
  unfold State.armInjection
  refine .ite ?_ ?_
  · refine .upd s 262144 ?_
    exact .refl ..
  · refine .upd s 262144 ?_
    exact .refl ..

theorem within_arrayRun (s : State) (j : Nat) (obs : ArrayObs) (k : JEntry → Bool) : Within 85229791 s (s.arrayRun j obs k) := by
  unfold State.arrayRun
  split
  · rename_i v1 v2 v3 h4
    refine .ite ?_ ?_
    · exact .refl ..
    · refine .step ?_ (within_runArray ..)
      exact .refl ..
  · rename_i v5 h6
    exact .refl ..

theorem within_controlRun (s : State) (j : Nat) (op : Nat) : Within 84967634 s (s.controlRun j op) := by
  unfold State.controlRun
  split
  · rename_i v1 v2 h3
    refine .step ?_ (within_finish ..)
    exact .refl ..
  · rename_i v4 h5
    exact .refl ..

theorem within_countPath (s : State) (p : Nat) (e : JEntry) (u : TileUnit) : Within 2 s (s.countPath p e u) := by
  unfold State.countPath
  refine .ite ?_ ?_
  · exact .refl ..
  · refine .ite ?_ ?_
    · refine .step ?_ (within_set ..)
      refine .step ?_ (within_count ..)
      exact .refl ..
    · refine .step ?_ (within_set ..)
      refine .step ?_ (within_count ..)
      exact .refl ..

theorem within_dropEarly (s : State) (p : Nat) (x : Nat × JEntry) : Within 18 s (s.dropEarly p x) := by
  unfold State.dropEarly
  split
  · rename_i v1 v2 h3
    refine .step ?_ (within_count ..)
    refine .step ?_ (within_jmod ..)
    exact .refl ..
  · rename_i v4 h5
    exact .refl ..

theorem within_refund (s : State) (e : JEntry) : Within 2 s (s.refund e) := by
  unfold State.refund
  refine .ite ?_ ?_
  · exact .refl ..
  · refine .step ?_ (within_giveCredit ..)
    exact .refl ..

theorem within_readHeader (s : State) (j : Nat) (e : JEntry) : Within 84967634 s (s.readHeader j e) := by
  unfold State.readHeader
  extract_lets +onlyGivenNames x1
  clear_value x1
  extract_lets +onlyGivenNames x2
  clear_value x2
  extract_lets +onlyGivenNames x3
  clear_value x3
  refine .ite ?_ ?_
  · refine .step ?_ (within_finish ..)
    exact .refl ..
  · refine .ite ?_ ?_
    · refine .step ?_ (within_jmod ..)
      exact .refl ..
    · refine .step ?_ (within_finish ..)
      refine .step ?_ (within_refund ..)
      exact .refl ..

theorem within_startStream (s : State) (j : Nat) (t : Nat) (e : JEntry) : Within 93356242 s (s.startStream j t e) := by
  unfold State.startStream
  extract_lets +onlyGivenNames x1
  clear_value x1
  extract_lets +onlyGivenNames x2
  have h3 : Within 93356242 s x2 := by
    subst x2
    refine .step ?_ (within_jmod ..)
    refine .step ?_ (within_takeResv ..)
    exact .refl ..
  clear_value x2
  extract_lets +onlyGivenNames x4
  have h5 : Within 93356242 s x4 := by
    subst x4
    refine .step ?_ (within_rmod ..)
    assumption
  clear_value x4
  refine .ite ?_ ?_
  · refine .ite ?_ ?_
    · refine .step ?_ (within_finish ..)
      assumption
    · refine .step ?_ (within_openArrival ..)
      assumption
  · refine .ite ?_ ?_
    · refine .step ?_ (within_finish ..)
      assumption
    · refine .ite ?_ ?_
      · refine .step ?_ (within_readHeader ..)
        assumption
      · assumption

theorem within_readRows (s : State) (j : Nat) (p : Nat) (e : JEntry) : Within 84967634 s (s.readRows j p e) := by
  unfold State.readRows
  refine .ite ?_ ?_
  · refine .step ?_ (within_finish ..)
    exact .refl ..
  · extract_lets +onlyGivenNames x1
    clear_value x1
    extract_lets +onlyGivenNames x2
    have h3 : Within 84967634 s x2 := by
      subst x2
      refine .step ?_ (within_jmod ..)
      exact .refl ..
    clear_value x2
    refine .ite ?_ ?_
    · refine .step ?_ (within_finish ..)
      assumption
    · refine .ite ?_ ?_
      · refine .step ?_ (within_finish ..)
        refine .step ?_ (within_refund ..)
        assumption
      · assumption

theorem within_dispatchHead (s : State) (t : Nat) (p : Nat) (j : Nat) (e : JEntry) : Within 93880530 s (s.dispatchHead t p j e) := by
  unfold State.dispatchHead
  extract_lets +onlyGivenNames x1
  have h2 : Within 93880530 s x1 := by
    subst x1
    refine .step ?_ (within_jmod ..)
    refine .step ?_ (within_count ..)
    exact .refl ..
  clear_value x1
  extract_lets +onlyGivenNames x3
  have h4 : Within 93880530 s x3 := by
    subst x3
    refine .upd x1 524288 ?_
    assumption
  clear_value x3
  refine .ite ?_ ?_
  · refine .step ?_ (within_finish ..)
    refine .step ?_ (within_count ..)
    assumption
  · split
    · rename_i v5 h6
      assumption
    · rename_i v7 v8 h9
      extract_lets +onlyGivenNames x10
      have h11 : Within 93880530 s x10 := by
        subst x10
        split
        · rename_i v12 v13 h14
          assumption
        · rename_i v15 h16
          refine .ite ?_ ?_
          · split
            · rename_i v17 v18 v19 h20
              refine .step ?_ (within_dropEarly ..)
              assumption
            · rename_i v21 h22
              assumption
          · assumption
      clear_value x10
      extract_lets +onlyGivenNames x23
      have h24 : Within 93880530 s x23 := by
        subst x23
        refine .step ?_ (within_consumeWaits ..)
        assumption
      clear_value x23
      extract_lets +onlyGivenNames x25
      have h26 : Within 93880530 s x25 := by
        subst x25
        refine .ite ?_ ?_
        · assumption
        · refine .step ?_ (within_takeCredit ..)
          assumption
      clear_value x25
      refine .ite ?_ ?_
      · extract_lets +onlyGivenNames x27
        have h28 : Within 93880530 s x27 := by
          subst x27
          refine .ite ?_ ?_
          · refine .step ?_ (within_sendEmpty ..)
            assumption
          · assumption
        clear_value x27
        refine .step ?_ (within_finish ..)
        assumption
      · extract_lets +onlyGivenNames x29
        have h30 : Within 93880530 s x29 := by
          subst x29
          refine .step ?_ (within_countPath ..)
          refine .step ?_ (within_jmod ..)
          assumption
        clear_value x29
        extract_lets +onlyGivenNames x31
        have h32 : Within 93880530 s x31 := by
          subst x31
          refine .ite ?_ ?_
          · refine .step ?_ (within_startReform ..)
            assumption
          · assumption
        clear_value x31
        refine .ite ?_ ?_
        · refine .step ?_ (within_startStream ..)
          assumption
        · refine .ite ?_ ?_
          · refine .step ?_ (within_readRows ..)
            assumption
          · assumption

theorem within_elementRun (s : State) (j : Nat) (op : Nat) (obs : EltObs) : Within 84967646 s (s.elementRun j op obs) := by
  unfold State.elementRun
  split
  · rename_i v1 v2 v3 h4
    refine .step ?_ (within_runElement ..)
    exact .refl ..
  · rename_i v5 h6
    exact .refl ..

theorem within_passRefused (s : State) (t : Nat) (r : Nat) (a3 : Nat) : Within 84967634 s (s.passRefused t r a3) := by
  fun_induction State.passRefused s t r a3
  · rename_i v1
    exact .refl ..
  · rename_i v2 v3 h4
    exact .refl ..
  · rename_i v5 v6 v7 v8 h9 v10 h11 h12
    refine .trans ?_ (h12)
    refine .step ?_ (within_finish ..)
    exact .refl ..
  · rename_i v13 v14 v15 v16 h17 h18 h19 h20
    refine .trans ?_ (h20)
    refine .step ?_ (within_finish ..)
    exact .refl ..
  · rename_i v21 v22 v23 v24 h25 h26 h27
    exact .refl ..

theorem within_passAllRefused (s : State) (t : Nat) : Within 84967634 s (s.passAllRefused t) := by
  unfold State.passAllRefused
  refine .foldl ?_ ?_
  · exact .refl ..
  · intro s1 v2
    refine .step ?_ (within_passRefused ..)
    exact .refl ..

theorem within_readAhead (s : State) (j : Nat) (ws : List Word) : Within 32962 s (s.readAhead j ws) := by
  unfold State.readAhead
  refine .ite ?_ ?_
  · exact .refl ..
  · extract_lets +onlyGivenNames x1
    clear_value x1
    extract_lets +onlyGivenNames x2
    clear_value x2
    refine .step ?_ (within_unpinAll ..)
    refine .foldl ?_ ?_
    · exact .refl ..
    · intro s3 v4
      refine .step ?_ (within_lookup ..)
      exact .refl ..

theorem within_takeEarly (s : State) (t : Nat) (p : Nat) : Within 32978 s (s.takeEarly t p) := by
  unfold State.takeEarly
  extract_lets +onlyGivenNames x1
  clear_value x1
  split
  · rename_i v2 v3 v4 v5 v6 h7 h8
    refine .step ?_ (within_readAhead ..)
    refine .step ?_ (within_jmod ..)
    exact .refl ..
  · rename_i v9 v10 h11
    exact .refl ..

theorem within_execArray (jseq : Nat) (obs : ArrayObs) (s : State) : Within 85229791 s (nextOr s (execArray jseq obs s)) := by
  unfold execArray
  refine .mk_next ?_
  refine .step ?_ (within_arrayRun ..)
  exact .refl ..

theorem within_execAttnFinal (jseq : Nat) (obs : EltObs) (s : State) : Within 84967646 s (nextOr s (execAttnFinal jseq obs s)) := by
  unfold execAttnFinal
  refine .mk_next ?_
  refine .step ?_ (within_elementRun ..)
  exact .refl ..

theorem within_execAttnOnline (jseq : Nat) (obs : EltObs) (s : State) : Within 84967646 s (nextOr s (execAttnOnline jseq obs s)) := by
  unfold execAttnOnline
  refine .mk_next ?_
  refine .step ?_ (within_elementRun ..)
  exact .refl ..

theorem within_execControlFence (jseq : Nat) (s : State) : Within 84967634 s (nextOr s (execControlFence jseq s)) := by
  unfold execControlFence
  refine .mk_next ?_
  refine .step ?_ (within_controlRun ..)
  exact .refl ..

theorem within_execControlNop (jseq : Nat) (s : State) : Within 84967634 s (nextOr s (execControlNop jseq s)) := by
  unfold execControlNop
  refine .mk_next ?_
  refine .step ?_ (within_controlRun ..)
  exact .refl ..

theorem within_execCreditSet (jseq : Nat) (s : State) : Within 84967634 s (nextOr s (execCreditSet jseq s)) := by
  unfold execCreditSet
  refine .mk_next ?_
  refine .step ?_ (within_controlRun ..)
  exact .refl ..

theorem within_execEltAdd (jseq : Nat) (obs : EltObs) (s : State) : Within 84967646 s (nextOr s (execEltAdd jseq obs s)) := by
  unfold execEltAdd
  refine .mk_next ?_
  refine .step ?_ (within_elementRun ..)
  exact .refl ..

theorem within_execEltConvert (jseq : Nat) (obs : EltObs) (s : State) : Within 84967646 s (nextOr s (execEltConvert jseq obs s)) := by
  unfold execEltConvert
  refine .mk_next ?_
  refine .step ?_ (within_elementRun ..)
  exact .refl ..

theorem within_execEltCurve (jseq : Nat) (obs : EltObs) (s : State) : Within 84967646 s (nextOr s (execEltCurve jseq obs s)) := by
  unfold execEltCurve
  refine .mk_next ?_
  refine .step ?_ (within_elementRun ..)
  exact .refl ..

theorem within_execEltFma (jseq : Nat) (obs : EltObs) (s : State) : Within 84967646 s (nextOr s (execEltFma jseq obs s)) := by
  unfold execEltFma
  refine .mk_next ?_
  refine .step ?_ (within_elementRun ..)
  exact .refl ..

theorem within_execEltMax (jseq : Nat) (obs : EltObs) (s : State) : Within 84967646 s (nextOr s (execEltMax jseq obs s)) := by
  unfold execEltMax
  refine .mk_next ?_
  refine .step ?_ (within_elementRun ..)
  exact .refl ..

theorem within_execEltMin (jseq : Nat) (obs : EltObs) (s : State) : Within 84967646 s (nextOr s (execEltMin jseq obs s)) := by
  unfold execEltMin
  refine .mk_next ?_
  refine .step ?_ (within_elementRun ..)
  exact .refl ..

theorem within_execEltMul (jseq : Nat) (obs : EltObs) (s : State) : Within 84967646 s (nextOr s (execEltMul jseq obs s)) := by
  unfold execEltMul
  refine .mk_next ?_
  refine .step ?_ (within_elementRun ..)
  exact .refl ..

theorem within_execEltReduce (jseq : Nat) (obs : EltObs) (s : State) : Within 84967646 s (nextOr s (execEltReduce jseq obs s)) := by
  unfold execEltReduce
  refine .mk_next ?_
  refine .step ?_ (within_elementRun ..)
  exact .refl ..

theorem within_execExpertPass (jseq : Nat) (arr : ArrayObs) (elt : EltObs) (s : State) : Within 85229791 s (nextOr s (execExpertPass jseq arr elt s)) := by
  unfold execExpertPass
  split
  · rename_i v1 h2
    refine .mk_next ?_
    exact .refl ..
  · rename_i v3 v4 v5 h6
    refine .ite_on ?_ ?_
    · refine .mk_next ?_
      refine .step ?_ (within_arrayRun ..)
      exact .refl ..
    · refine .ite_on ?_ ?_
      · refine .mk_next ?_
        refine .step ?_ (within_arrayRun ..)
        exact .refl ..
      · refine .mk_next ?_
        refine .step ?_ (within_runElement ..)
        exact .refl ..

theorem within_execLayerNorm (jseq : Nat) (obs : EltObs) (s : State) : Within 84967646 s (nextOr s (execLayerNorm jseq obs s)) := by
  unfold execLayerNorm
  refine .mk_next ?_
  refine .step ?_ (within_elementRun ..)
  exact .refl ..

theorem within_execMarkSet (jseq : Nat) (s : State) : Within 84967634 s (nextOr s (execMarkSet jseq s)) := by
  unfold execMarkSet
  refine .mk_next ?_
  refine .step ?_ (within_controlRun ..)
  exact .refl ..

theorem within_execMatvec (jseq : Nat) (arr : ArrayObs) (elt : EltObs) (s : State) : Within 85229791 s (nextOr s (execMatvec jseq arr elt s)) := by
  unfold execMatvec
  split
  · rename_i v1 h2
    refine .mk_next ?_
    exact .refl ..
  · rename_i v3 v4 v5 h6
    refine .ite_on ?_ ?_
    · refine .mk_next ?_
      refine .step ?_ (within_runFallback ..)
      exact .refl ..
    · refine .mk_next ?_
      refine .step ?_ (within_arrayRun ..)
      exact .refl ..

theorem within_execReForming (tile : Nat) (s : State) : Within 2 s (nextOr s (execReForming tile s)) := by
  unfold execReForming
  refine .ite_on ?_ ?_
  · refine .mk_next ?_
    exact .refl ..
  · split
    · rename_i v1 v2 v3 v4 v5 h6 h7
      refine .ite_on ?_ ?_
      · refine .mk_next ?_
        exact .refl ..
      · extract_lets +onlyGivenNames x8
        clear_value x8
        refine .mk_next ?_
        refine .foldl ?_ ?_
        · exact .refl ..
        · intro s9 v10
          refine .step ?_ (within_count ..)
          refine .step ?_ (within_set ..)
          refine .step ?_ (within_setFlag ..)
          exact .refl ..
    · rename_i v11 v12 h13
      refine .mk_next ?_
      exact .refl ..

theorem within_execResid (jseq : Nat) (obs : EltObs) (s : State) : Within 84967646 s (nextOr s (execResid jseq obs s)) := by
  unfold execResid
  refine .mk_next ?_
  refine .step ?_ (within_elementRun ..)
  exact .refl ..

theorem within_execRmsNorm (jseq : Nat) (obs : EltObs) (s : State) : Within 84967646 s (nextOr s (execRmsNorm jseq obs s)) := by
  unfold execRmsNorm
  refine .mk_next ?_
  refine .step ?_ (within_elementRun ..)
  exact .refl ..

theorem within_execScrub (phys : Nat) (obs : EccObs) (s : State) : Within 10 s (nextOr s (execScrub phys obs s)) := by
  unfold execScrub
  refine .ite_on ?_ ?_
  · refine .mk_next ?_
    exact .refl ..
  · refine .ite_on ?_ ?_
    · refine .mk_next ?_
      exact .refl ..
    · extract_lets +onlyGivenNames x1
      clear_value x1
      extract_lets +onlyGivenNames x2
      clear_value x2
      extract_lets +onlyGivenNames x3
      have h4 : Within 10 s x3 := by
        subst x3
        refine .step ?_ (within_spErrors ..)
        exact .refl ..
      clear_value x3
      refine .ite_on ?_ ?_
      · refine .mk_next ?_
        refine .step ?_ (within_count ..)
        refine .step ?_ (within_set ..)
        assumption
      · refine .mk_next ?_
        refine .step ?_ (within_set ..)
        assumption

theorem within_execSoftmax (jseq : Nat) (obs : EltObs) (s : State) : Within 84967646 s (nextOr s (execSoftmax jseq obs s)) := by
  unfold execSoftmax
  refine .mk_next ?_
  refine .step ?_ (within_elementRun ..)
  exact .refl ..

theorem within_execTileDispatch (tile : Nat) (s : State) : Within 93880530 s (nextOr s (execTileDispatch tile s)) := by
  unfold execTileDispatch
  refine .ite_on ?_ ?_
  · refine .mk_next ?_
    exact .refl ..
  · split
    · rename_i v1 h2
      refine .mk_next ?_
      exact .refl ..
    · rename_i v3 v4 h5
      refine .ite_on ?_ ?_
      · refine .mk_next ?_
        exact .refl ..
      · extract_lets +onlyGivenNames x6
        have h7 : Within 93880530 s x6 := by
          subst x6
          refine .step ?_ (within_passAllRefused ..)
          exact .refl ..
        clear_value x6
        split
        · rename_i v8 v9 v10 h11
          refine .mk_next ?_
          refine .step ?_ (within_passAllRefused ..)
          refine .step ?_ (within_dispatchHead ..)
          assumption
        · rename_i v12 h13
          refine .mk_next ?_
          refine .step ?_ (within_takeEarly ..)
          assumption

theorem within_abortTierOp (s : State) (o : TierOp) : Within 32962 s (s.abortTierOp o) := by
  unfold State.abortTierOp
  extract_lets +onlyGivenNames x1
  clear_value x1
  extract_lets +onlyGivenNames x2
  have h3 : Within 32962 s x2 := by
    subst x2
    refine .foldl ?_ ?_
    · exact .refl ..
    · intro s4 v5
      refine .ite ?_ ?_
      · exact .refl ..
      · refine .step ?_ (within_dirMod ..)
        exact .refl ..
  clear_value x2
  refine .step ?_ (within_checkTierOp ..)
  refine .step ?_ (within_tmod ..)
  assumption

theorem within_poisonPch (s : State) (p : Nat) : Within 8 s (s.poisonPch p) := by
  unfold State.poisonPch
  refine .foldl ?_ ?_
  · exact .refl ..
  · intro s1 v2
    refine .foldl ?_ ?_
    · exact .refl ..
    · intro s3 v4
      refine .step ?_ (within_poisonGranule ..)
      exact .refl ..

theorem within_fmod (s : State) (f : Nat) (g : FlashStack → FlashStack) : Within 32768 s (s.fmod f g) := by
  unfold State.fmod
  refine .step ?_ (within_tmod ..)
  exact .refl ..

theorem within_copyGranules (s : State) (src : Nat → Nat) (dst : Nat → Nat) (i : Nat) (a4 : Nat) : Within 12 s (s.copyGranules src dst i a4) := by
  fun_induction State.copyGranules s src dst i a4
  · rename_i v1 v2
    exact .refl ..
  · rename_i v3 v4 v5 v6 v7 v8 h9
    refine .trans ?_ (h9)
    refine .ite ?_ ?_
    · refine .step ?_ (within_poisonGranule ..)
      subst v8
      refine .step ?_ (within_cleanse ..)
      refine .step ?_ (within_wbs ..)
      exact .refl ..
    · subst v8
      refine .step ?_ (within_cleanse ..)
      refine .step ?_ (within_wbs ..)
      exact .refl ..

theorem within_failPromotion (s : State) (n : Nat) (e : DirEnt) (st : Status) : Within 84967634 s (s.failPromotion n e st) := by
  unfold State.failPromotion
  refine .step ?_ (within_opFinished ..)
  refine .foldl ?_ ?_
  · refine .step ?_ (within_dirFree ..)
    exact .refl ..
  · intro s1 v2
    refine .ite ?_ ?_
    · refine .step ?_ (within_finish ..)
      exact .refl ..
    · exact .refl ..

theorem within_pumpFill (s : State) : Within 64 s s.pumpFill := by
  unfold State.pumpFill
  split
  · rename_i v1 h2
    exact .refl ..
  · rename_i v3 v4 h5
    split
    · rename_i v6 h7
      exact .refl ..
    · rename_i v8 v9 v10 h11
      extract_lets +onlyGivenNames x12
      clear_value x12
      refine .ite ?_ ?_
      · exact .refl ..
      · extract_lets +onlyGivenNames x13
        clear_value x13
        extract_lets +onlyGivenNames x14
        clear_value x14
        refine .getD ?_ ?_
        · exact .refl ..
        · refine .orStep ?_ (within_issueRead ..) ?_
          · exact .refl ..
          · exact .refl ..

theorem within_fillData (s : State) (fr : Nat) (bs : List Byte) : Within 32832 s (s.fillData fr bs) := by
  unfold State.fillData
  split
  · rename_i v1 h2
    exact .refl ..
  · rename_i v3 v4 h5
    refine .ite ?_ ?_
    · exact .refl ..
    · extract_lets +onlyGivenNames x6
      clear_value x6
      extract_lets +onlyGivenNames x7
      clear_value x7
      refine .step ?_ (within_pumpFill ..)
      refine .step ?_ (within_tmod ..)
      exact .refl ..

theorem within_fillFailed (s : State) (fr : Nat) : Within 32962 s (s.fillFailed fr) := by
  unfold State.fillFailed
  split
  · rename_i v1 h2
    exact .refl ..
  · rename_i v3 v4 h5
    refine .ite ?_ ?_
    · refine .step ?_ (within_endTierOp ..)
      exact .refl ..
    · exact .refl ..

theorem within_flushCommit (s : State) (n : Nat) : Within 32962 s (s.flushCommit n) := by
  unfold State.flushCommit
  split
  · rename_i v1 h2
    exact .refl ..
  · rename_i v3 v4 h5
    refine .ite ?_ ?_
    · exact .refl ..
    · split
      · rename_i v6 v7 h8
        refine .step ?_ (within_opFinished ..)
        exact .refl ..
      · rename_i v9 v10 v11 h12 h13
        refine .ite ?_ ?_
        · split
          · rename_i v14 v15 h16
            have h17 : Within 32962 s v15 := by
              refine (.of_some (b := s) h16 ?_)
              refine .orStep ?_ (within_startWriteBack ..) ?_
              · exact .refl ..
              · exact .refl ..
            refine .step ?_ (within_tmod ..)
            assumption
          · rename_i v18 h19
            refine .step ?_ (within_opFailed ..)
            exact .refl ..
        · refine .step ?_ (within_opFinished ..)
          exact .refl ..
      · rename_i v20 v21 h22 h23
        exact .refl ..

theorem within_flushSlot (s : State) (n : Nat) : Within 32962 s (s.flushSlot n) := by
  unfold State.flushSlot
  split
  · rename_i v1 h2
    exact .refl ..
  · rename_i v3 v4 h5
    refine .ite ?_ ?_
    · exact .refl ..
    · split
      · rename_i v6 v7 h8
        have h9 : Within 32962 s v7 := by
          refine (.of_some (b := s) h8 ?_)
          refine .orStep ?_ (within_startWriteBack ..) ?_
          · exact .refl ..
          · exact .refl ..
        assumption
      · rename_i v10 h11
        refine .step ?_ (within_opFailed ..)
        exact .refl ..

theorem within_frameIn (s : State) (n : Nat) (fr : Nat) (k : Nat) : Within 12 s (s.frameIn n fr k) := by
  unfold State.frameIn
  refine .step ?_ (within_copyGranules ..)
  exact .refl ..

theorem within_frameOut (s : State) (n : Nat) (fr : Nat) (k : Nat) : Within 12 s (s.frameOut n fr k) := by
  unfold State.frameOut
  refine .step ?_ (within_copyGranules ..)
  exact .refl ..

theorem within_losePch (s : State) (p : Nat) : Within 84967634 s (s.losePch p) := by
  unfold State.losePch
  extract_lets +onlyGivenNames x1
  have h2 : Within 84967634 s x1 := by
    subst x1
    refine .step ?_ (within_tmod ..)
    exact .refl ..
  clear_value x1
  extract_lets +onlyGivenNames x3
  clear_value x3
  refine .ite ?_ ?_
  · assumption
  · extract_lets +onlyGivenNames x4
    clear_value x4
    extract_lets +onlyGivenNames x5
    have h6 : Within 84967634 s x5 := by
      subst x5
      refine .step ?_ (within_beginRecovery ..)
      assumption
    clear_value x5
    refine .step ?_ (within_barriersOf ..)
    refine .step ?_ (within_recoveryEvent ..)
    refine .foldl ?_ ?_
    · assumption
    · intro s7 v8
      refine .step ?_ (within_finish ..)
      exact .refl ..

theorem within_refuseTierOp (s : State) (op : Nat) (code : Nat) : Within 194 s (s.refuseTierOp op code) := by
  unfold State.refuseTierOp
  extract_lets +onlyGivenNames x1
  have h2 : Within 194 s x1 := by
    subst x1
    refine .step ?_ (within_set ..)
    refine .step ?_ (within_set ..)
    exact .refl ..
  clear_value x1
  refine .step ?_ (within_raise ..)
  assumption

theorem within_requestRange (s : State) (inv : Bool) (ns : List Nat) : Within 32962 s (s.requestRange inv ns) := by
  unfold State.requestRange
  extract_lets +onlyGivenNames x1
  have h2 : Within 32962 s x1 := by
    subst x1
    refine .foldl ?_ ?_
    · exact .refl ..
    · intro s3 v4
      extract_lets +onlyGivenNames x5
      have h6 : Within 32962 s3 x5 := by
        subst x5
        refine .ite ?_ ?_
        · refine .step ?_ (within_count ..)
          exact .refl ..
        · exact .refl ..
      clear_value x5
      refine .step ?_ (within_dirMod ..)
      assumption
  clear_value x1
  refine .step ?_ (within_checkTierOp ..)
  refine .foldl ?_ ?_
  · assumption
  · intro s7 v8
    refine .step ?_ (within_evalRequest ..)
    exact .refl ..

theorem within_startTierOp (s : State) (op : Nat) : Within 32962 s (s.startTierOp op) := by
  unfold State.startTierOp
  extract_lets +onlyGivenNames x1
  clear_value x1
  extract_lets +onlyGivenNames x2
  clear_value x2
  extract_lets +onlyGivenNames x3
  clear_value x3
  extract_lets +onlyGivenNames x4
  clear_value x4
  refine .ite ?_ ?_
  · refine .step ?_ (within_refuseTierOp ..)
    exact .refl ..
  · refine .ite ?_ ?_
    · refine .step ?_ (within_refuseTierOp ..)
      exact .refl ..
    · extract_lets +onlyGivenNames x5
      have h6 : Within 32962 s x5 := by
        subst x5
        refine .step ?_ (within_set ..)
        refine .step ?_ (within_set ..)
        refine .step ?_ (within_set ..)
        exact .refl ..
      clear_value x5
      extract_lets +onlyGivenNames x7
      clear_value x7
      extract_lets +onlyGivenNames x8
      clear_value x8
      extract_lets +onlyGivenNames x9
      clear_value x9
      extract_lets +onlyGivenNames x10
      have h11 : Within 32962 s x10 := by
        subst x10
        refine .step ?_ (within_tmod ..)
        assumption
      clear_value x10
      extract_lets +onlyGivenNames x12
      clear_value x12
      refine .ite ?_ ?_
      · refine .step ?_ (within_checkTierOp ..)
        refine .foldl ?_ ?_
        · assumption
        · intro s13 v14
          refine .step ?_ (within_flushSlot ..)
          exact .refl ..
      · refine .ite ?_ ?_
        · refine .step ?_ (within_checkTierOp ..)
          refine .step ?_ (within_pumpFill ..)
          assumption
        · refine .step ?_ (within_requestRange ..)
          assumption

theorem within_tierOp (s : State) (op : Nat) : Within 32962 s (s.tierOp op) := by
  unfold State.tierOp
  split
  · rename_i v1 v2
    exact .refl ..
  · rename_i v3 v4 v5 h6
    refine .step ?_ (within_abortTierOp ..)
    exact .refl ..
  · rename_i v7 v8 h9
    refine .step ?_ (within_refuseTierOp ..)
    exact .refl ..
  · rename_i v10 v11 v12 v13 h14 h15 h16
    refine .ite ?_ ?_
    · refine .step ?_ (within_refuseTierOp ..)
      exact .refl ..
    · exact .refl ..
  · rename_i v17 v18 v19 h20 h21 h22
    refine .ite ?_ ?_
    · refine .step ?_ (within_startTierOp ..)
      exact .refl ..
    · exact .refl ..

theorem within_programmed (s : State) (f : Nat) (bytes : Nat) (w : WearObs) : Within 32962 s (s.programmed f bytes w) := by
  unfold State.programmed
  extract_lets +onlyGivenNames x1
  clear_value x1
  extract_lets +onlyGivenNames x2
  clear_value x2
  extract_lets +onlyGivenNames x3
  have h4 : Within 32962 s x3 := by
    subst x3
    refine .step ?_ (within_count ..)
    refine .step ?_ (within_count ..)
    exact .refl ..
  clear_value x3
  extract_lets +onlyGivenNames x5
  have h6 : Within 32962 s x5 := by
    subst x5
    refine .step ?_ (within_set ..)
    refine .step ?_ (within_set ..)
    refine .step ?_ (within_set ..)
    refine .step ?_ (within_set ..)
    assumption
  clear_value x5
  extract_lets +onlyGivenNames x7
  have h8 : Within 32962 s x7 := by
    subst x7
    refine .step ?_ (within_set ..)
    assumption
  clear_value x7
  extract_lets +onlyGivenNames x9
  have h10 : Within 32962 s x9 := by
    subst x9
    refine .ite ?_ ?_
    · refine .step ?_ (within_raise ..)
      refine .step ?_ (within_fmod ..)
      assumption
    · assumption
  clear_value x9
  refine .ite ?_ ?_
  · refine .step ?_ (within_setFlag ..)
    refine .step ?_ (within_fmod ..)
    assumption
  · assumption

theorem within_promotionLost (s : State) (n : Nat) (e : DirEnt) : Within 84967634 s (s.promotionLost n e) := by
  unfold State.promotionLost
  extract_lets +onlyGivenNames x1
  clear_value x1
  refine .step ?_ (within_failPromotion ..)
  refine .step ?_ (within_count ..)
  refine .step ?_ (within_count ..)
  exact .refl ..

theorem within_takeSlot (s : State) : Within 32962 s (orSame s Prod.snd s.takeSlot) := by
  unfold State.takeSlot
  split
  · rename_i v1 v2 h3
    refine .mk_someSnd ?_
    exact .refl ..
  · rename_i v4 h5
    refine .map ?_ ?_
    · exact .refl ..
    · intro v6 h7
      refine .mk_snd ?_
      refine .step ?_ (within_freeClean ..)
      exact .refl ..

theorem within_withdrawEntry (s : State) (n : Nat) (e : DirEnt) : Within 32974 s (s.withdrawEntry n e) := by
  unfold State.withdrawEntry
  refine .ite ?_ ?_
  · refine .step ?_ (within_freeClean ..)
    exact .refl ..
  · split
    · rename_i v1 h2
      exact .refl ..
    · rename_i v3 v4 v5 h6
      have h7 : Within 32974 s v5 := by
        refine (.of_someSnd (b := s) h6 ?_)
        refine .orStep ?_ (within_takeSlot ..) ?_
        · exact .refl ..
        · exact .refl ..
      extract_lets +onlyGivenNames x8
      have h9 : Within 32974 s x8 := by
        subst x8
        refine .ite ?_ ?_
        · assumption
        · refine .step ?_ (within_copyGranules ..)
          assumption
      clear_value x8
      extract_lets +onlyGivenNames x10
      have h11 : Within 32974 s x10 := by
        subst x10
        refine .step ?_ (within_dirPut ..)
        refine .step ?_ (within_dirFree ..)
        assumption
      clear_value x10
      refine .step ?_ (within_tmod ..)
      assumption

theorem within_withdraw (s : State) (k : Nat) : Within 32974 s (s.withdraw k) := by
  unfold State.withdraw
  refine .ite ?_ ?_
  · exact .refl ..
  · extract_lets +onlyGivenNames x1
    clear_value x1
    refine .foldl ?_ ?_
    · refine .step ?_ (within_tmod ..)
      exact .refl ..
    · intro s2 v3
      refine .step ?_ (within_withdrawEntry ..)
      exact .refl ..

theorem within_retirePch (s : State) (p : Nat) (bad : List Nat) : Within 84967646 s (s.retirePch p bad) := by
  unfold State.retirePch
  refine .ite ?_ ?_
  · exact .refl ..
  · extract_lets +onlyGivenNames x1
    have h2 : Within 84967646 s x1 := by
      subst x1
      refine .foldl ?_ ?_
      · exact .refl ..
      · intro s3 v4
        refine .ite ?_ ?_
        · refine .step ?_ (within_poisonGranule ..)
          exact .refl ..
        · exact .refl ..
    clear_value x1
    extract_lets +onlyGivenNames x5
    have h6 : Within 84967646 s x5 := by
      subst x5
      refine .step ?_ (within_set ..)
      refine .step ?_ (within_withdraw ..)
      assumption
    clear_value x5
    refine .ite ?_ ?_
    · refine .step ?_ (within_losePch ..)
      assumption
    · refine .step ?_ (within_tmod ..)
      assumption

theorem within_execChunkCopy (pch : Nat) (bad : List Nat) (s : State) : Within 32970 s (nextOr s (execChunkCopy pch bad s)) := by
  unfold execChunkCopy
  refine .ite_on ?_ ?_
  · refine .mk_next ?_
    exact .refl ..
  · refine .ite_on ?_ ?_
    · refine .mk_next ?_
      exact .refl ..
    · split
      · rename_i v1 h2
        refine .mk_next ?_
        exact .refl ..
      · rename_i v3 v4 h5
        split
        · rename_i v6 v7 v8 h9
          have h10 : Within 32970 s v8 := by
            refine (.of_someSnd (b := s) h9 ?_)
            refine .orStep ?_ (within_takeSlot ..) ?_
            · exact .refl ..
            · exact .refl ..
          extract_lets +onlyGivenNames x11
          have h12 : Within 32970 s x11 := by
            subst x11
            refine .foldl ?_ ?_
            · assumption
            · intro s13 v14
              refine .ite ?_ ?_
              · refine .step ?_ (within_poisonGranule ..)
                exact .refl ..
              · exact .refl ..
          clear_value x11
          extract_lets +onlyGivenNames x15
          clear_value x15
          extract_lets +onlyGivenNames x16
          have h17 : Within 32970 s x16 := by
            subst x16
            refine .step ?_ (within_dirPut ..)
            assumption
          clear_value x16
          refine .mk_next ?_
          refine .ite ?_ ?_
          · refine .step ?_ (within_tmod ..)
            assumption
          · assumption
        · rename_i v18 h19
          split
          · rename_i v20 v21 v22 h23
            refine .mk_next ?_
            refine .getD ?_ ?_
            · exact .refl ..
            · refine .orStep ?_ (within_startWriteBack ..) ?_
              · exact .refl ..
              · exact .refl ..
          · rename_i v24 h25
            refine .mk_next ?_
            exact .refl ..

theorem within_execCleaning (s : State) : Within 32768 s (nextOr s (execCleaning s)) := by
  unfold execCleaning
  refine .ite_on ?_ ?_
  · refine .mk_next ?_
    exact .refl ..
  · extract_lets +onlyGivenNames x1
    clear_value x1
    extract_lets +onlyGivenNames x2
    clear_value x2
    extract_lets +onlyGivenNames x3
    clear_value x3
    refine .mk_next ?_
    refine .foldl ?_ ?_
    · exact .refl ..
    · intro s4 v5
      refine .getD ?_ ?_
      · exact .refl ..
      · refine .orStep ?_ (within_startWriteBack ..) ?_
        · exact .refl ..
        · exact .refl ..

theorem within_execCopyBack (pch : Nat) (s : State) : Within 32770 s (nextOr s (execCopyBack pch s)) := by
  unfold execCopyBack
  refine .ite_on ?_ ?_
  · refine .mk_next ?_
    exact .refl ..
  · refine .ite_on ?_ ?_
    · refine .mk_next ?_
      exact .refl ..
    · extract_lets +onlyGivenNames x1
      clear_value x1
      extract_lets +onlyGivenNames x2
      clear_value x2
      extract_lets +onlyGivenNames x3
      have h4 : Within 32770 s x3 := by
        subst x3
        split
        · rename_i v5 v6 v7
          refine .step ?_ (within_dirFree ..)
          exact .refl ..
        · rename_i v8
          exact .refl ..
      clear_value x3
      refine .ite_on ?_ ?_
      · refine .mk_next ?_
        assumption
      · extract_lets +onlyGivenNames x9
        clear_value x9
        extract_lets +onlyGivenNames x10
        have h11 : Within 32770 s x10 := by
          subst x10
          refine .step ?_ (within_set ..)
          refine .step ?_ (within_tmod ..)
          assumption
        clear_value x10
        extract_lets +onlyGivenNames x12
        have h13 : Within 32770 s x12 := by
          subst x12
          refine .step ?_ (within_setRastat ..)
          assumption
        clear_value x12
        extract_lets +onlyGivenNames x14
        have h15 : Within 32770 s x14 := by
          subst x14
          refine .ite ?_ ?_
          · assumption
          · refine .step ?_ (within_setRastat ..)
            assumption
        clear_value x14
        refine .mk_next ?_
        refine .ite ?_ ?_
        · assumption
        · refine .step ?_ (within_tmod ..)
          assumption

theorem within_execEvacuation (frame : Nat) (unreadable : Bool) (wear : WearObs) (s : State) : Within 32962 s (nextOr s (execEvacuation frame unreadable wear s)) := by
  unfold execEvacuation
  refine .ite_on ?_ ?_
  · refine .mk_next ?_
    exact .refl ..
  · extract_lets +onlyGivenNames x1
    clear_value x1
    extract_lets +onlyGivenNames x2
    have h3 : Within 32962 s x2 := by
      subst x2
      refine .step ?_ (within_tmod ..)
      exact .refl ..
    clear_value x2
    extract_lets +onlyGivenNames x4
    subst x4
    refine .ite_on ?_ ?_
    · refine .mk_next ?_
      assumption
    · refine .ite_on ?_ ?_
      · refine .mk_next ?_
        dsimp -zeta only
        refine .step ?_ (within_tmod ..)
        assumption
      · split
        · rename_i v5 h6
          refine .mk_next ?_
          dsimp -zeta only
          refine .step ?_ (within_tmod ..)
          assumption
        · rename_i v7 v8 h9
          refine .mk_next ?_
          refine .step ?_ (within_programmed ..)
          refine .step ?_ (within_tmod ..)
          assumption

theorem within_execFillProgrammed (wear : WearObs) (s : State) : Within 32974 s (nextOr s (execFillProgrammed wear s)) := by
  unfold execFillProgrammed
  split
  · rename_i v1 h2
    refine .mk_next ?_
    exact .refl ..
  · rename_i v3 v4 h5
    split
    · rename_i v6 h7
      refine .mk_next ?_
      exact .refl ..
    · rename_i v8 v9 h10
      extract_lets +onlyGivenNames x11
      clear_value x11
      extract_lets +onlyGivenNames x12
      clear_value x12
      refine .ite_on ?_ ?_
      · refine .mk_next ?_
        exact .refl ..
      · extract_lets +onlyGivenNames x13
        have h14 : Within 32974 s x13 := by
          subst x13
          split
          · rename_i v15 v16 h17
            refine .step ?_ (within_dirFree ..)
            exact .refl ..
          · rename_i v18 h19
            exact .refl ..
        clear_value x13
        split
        · rename_i v20 h21
          refine .mk_next ?_
          refine .step ?_ (within_checkTierOp ..)
          refine .step ?_ (within_pumpFill ..)
          refine .step ?_ (within_tmod ..)
          assumption
        · rename_i v22 v23 h24
          have h25 : Within 32974 s v23 := by
            refine (.of_some (b := s) h24 ?_)
            refine .orStep ?_ (within_fitHome ..) ?_
            · assumption
            · exact .refl ..
          extract_lets +onlyGivenNames x26
          clear_value x26
          extract_lets +onlyGivenNames x27
          have h28 : Within 32974 s x27 := by
            subst x27
            refine .step ?_ (within_cleanse ..)
            refine .step ?_ (within_wbs ..)
            assumption
          clear_value x27
          extract_lets +onlyGivenNames x29
          have h30 : Within 32974 s x29 := by
            subst x29
            refine .step ?_ (within_count ..)
            refine .step ?_ (within_programmed ..)
            assumption
          clear_value x29
          refine .mk_next ?_
          refine .step ?_ (within_checkTierOp ..)
          refine .step ?_ (within_pumpFill ..)
          refine .step ?_ (within_tmod ..)
          assumption

theorem within_execFlashReadTimeout (slot : Nat) (s : State) : Within 84967634 s (nextOr s (execFlashReadTimeout slot s)) := by
  unfold execFlashReadTimeout
  split
  · rename_i v1 h2
    refine .mk_next ?_
    exact .refl ..
  · rename_i v3 v4 h5
    refine .ite_on ?_ ?_
    · refine .mk_next ?_
      exact .refl ..
    · extract_lets +onlyGivenNames x6
      have h7 : Within 84967634 s x6 := by
        subst x6
        refine .step ?_ (within_tmod ..)
        exact .refl ..
      clear_value x6
      refine .mk_next ?_
      refine .step ?_ (within_failPromotion ..)
      refine .step ?_ (within_count ..)
      assumption

theorem within_execFlashStackRetired (stack : Nat) (s : State) : Within 229570 s (nextOr s (execFlashStackRetired stack s)) := by
  unfold execFlashStackRetired
  refine .ite_on ?_ ?_
  · refine .mk_next ?_
    exact .refl ..
  · refine .ite_on ?_ ?_
    · refine .mk_next ?_
      exact .refl ..
    · extract_lets +onlyGivenNames x1
      have h2 : Within 229570 s x1 := by
        subst x1
        refine .step ?_ (within_setFlag ..)
        refine .step ?_ (within_fmod ..)
        refine .step ?_ (within_retireUnit ..)
        exact .refl ..
      clear_value x1
      extract_lets +onlyGivenNames x3
      clear_value x3
      refine .mk_next ?_
      refine .step ?_ (within_capChange ..)
      refine .step ?_ (within_raise ..)
      refine .step ?_ (within_tmod ..)
      assumption

theorem within_execFlashTagQuarantine (tag : Nat) (s : State) : Within 32768 s (nextOr s (execFlashTagQuarantine tag s)) := by
  unfold execFlashTagQuarantine
  refine .mk_next ?_
  refine .step ?_ (within_tmod ..)
  exact .refl ..

theorem within_execLateFlashData (tag : Nat) (s : State) : Within 2 s (nextOr s (execLateFlashData tag s)) := by
  unfold execLateFlashData
  refine .ite_on ?_ ?_
  · refine .mk_next ?_
    refine .step ?_ (within_set ..)
    refine .step ?_ (within_count ..)
    exact .refl ..
  · refine .mk_next ?_
    exact .refl ..

theorem within_execPatrolScrub (stack : Nat) (obs : EccObs) (s : State) : Within 10 s (nextOr s (execPatrolScrub stack obs s)) := by
  unfold execPatrolScrub
  refine .ite_on ?_ ?_
  · refine .mk_next ?_
    exact .refl ..
  · refine .ite_on ?_ ?_
    · refine .mk_next ?_
      exact .refl ..
    · extract_lets +onlyGivenNames x1
      clear_value x1
      refine .mk_next ?_
      refine .step ?_ (within_count ..)
      refine .step ?_ (within_farErrors ..)
      exact .refl ..

theorem within_execPchRetired (pch : Nat) (bad : List Nat) (s : State) : Within 85164254 s (nextOr s (execPchRetired pch bad s)) := by
  unfold execPchRetired
  refine .ite_on ?_ ?_
  · refine .mk_next ?_
    exact .refl ..
  · refine .ite_on ?_ ?_
    · refine .mk_next ?_
      exact .refl ..
    · extract_lets +onlyGivenNames x1
      have h2 : Within 85164254 s x1 := by
        subst x1
        refine .step ?_ (within_retirePch ..)
        refine .step ?_ (within_retireUnit ..)
        exact .refl ..
      clear_value x1
      refine .mk_next ?_
      refine .step ?_ (within_capChange ..)
      refine .step ?_ (within_raise ..)
      assumption

theorem within_execPromotion (slot : Nat) (s : State) : Within 84967646 s (nextOr s (execPromotion slot s)) := by
  unfold execPromotion
  split
  · rename_i v1 h2
    refine .mk_next ?_
    exact .refl ..
  · rename_i v3 v4 h5
    refine .ite_on ?_ ?_
    · refine .mk_next ?_
      exact .refl ..
    · refine .ite_on ?_ ?_
      · refine .mk_next ?_
        refine .step ?_ (within_promotionLost ..)
        exact .refl ..
      · extract_lets +onlyGivenNames x6
        have h7 : Within 84967646 s x6 := by
          subst x6
          refine .ite ?_ ?_
          · refine .foldl ?_ ?_
            · exact .refl ..
            · intro s8 v9
              refine .step ?_ (within_frameIn ..)
              exact .refl ..
          · refine .foldl ?_ ?_
            · exact .refl ..
            · intro s10 v11
              refine .step ?_ (within_cleanse ..)
              refine .step ?_ (within_zero ..)
              exact .refl ..
        clear_value x6
        refine .mk_next ?_
        refine .step ?_ (within_evalRequest ..)
        refine .step ?_ (within_count ..)
        refine .step ?_ (within_dirMod ..)
        assumption

theorem within_execPromotionFailed (slot : Nat) (s : State) : Within 84967634 s (nextOr s (execPromotionFailed slot s)) := by
  unfold execPromotionFailed
  split
  · rename_i v1 h2
    refine .mk_next ?_
    exact .refl ..
  · rename_i v3 v4 h5
    refine .ite_on ?_ ?_
    · refine .mk_next ?_
      refine .step ?_ (within_promotionLost ..)
      exact .refl ..
    · refine .mk_next ?_
      exact .refl ..

theorem within_execStackRetired (stack : Nat) (bad : List Nat) (s : State) : Within 85164254 s (nextOr s (execStackRetired stack bad s)) := by
  unfold execStackRetired
  refine .ite_on ?_ ?_
  · refine .mk_next ?_
    exact .refl ..
  · refine .ite_on ?_ ?_
    · refine .mk_next ?_
      exact .refl ..
    · extract_lets +onlyGivenNames x1
      have h2 : Within 85164254 s x1 := by
        subst x1
        refine .step ?_ (within_setFlag ..)
        refine .step ?_ (within_retireUnit ..)
        exact .refl ..
      clear_value x1
      extract_lets +onlyGivenNames x3
      have h4 : Within 85164254 s x3 := by
        subst x3
        refine .foldl ?_ ?_
        · assumption
        · intro s5 v6
          refine .step ?_ (within_retirePch ..)
          exact .refl ..
      clear_value x3
      refine .mk_next ?_
      refine .step ?_ (within_capChange ..)
      refine .step ?_ (within_raise ..)
      assumption

theorem within_execWriteBack (slot : Nat) (wear : WearObs) (s : State) : Within 32974 s (nextOr s (execWriteBack slot wear s)) := by
  unfold execWriteBack
  split
  · rename_i v1 h2
    refine .mk_next ?_
    exact .refl ..
  · rename_i v3 v4 h5
    refine .ite_on ?_ ?_
    · refine .mk_next ?_
      exact .refl ..
    · split
      · rename_i v6 h7
        refine .mk_next ?_
        refine .step ?_ (within_opFailed ..)
        refine .step ?_ (within_dirMod ..)
        exact .refl ..
      · rename_i v8 v9 h10
        have h11 : Within 32974 s v9 := by
          refine (.of_some (b := s) h10 ?_)
          refine .orStep ?_ (within_fitHome ..) ?_
          · exact .refl ..
          · exact .refl ..
        extract_lets +onlyGivenNames x12
        clear_value x12
        extract_lets +onlyGivenNames x13
        clear_value x13
        extract_lets +onlyGivenNames x14
        have h15 : Within 32974 s x14 := by
          subst x14
          refine .foldl ?_ ?_
          · assumption
          · intro s16 v17
            refine .step ?_ (within_frameOut ..)
            exact .refl ..
        clear_value x14
        extract_lets +onlyGivenNames x18
        have h19 : Within 32974 s x18 := by
          subst x18
          refine .step ?_ (within_count ..)
          refine .step ?_ (within_programmed ..)
          assumption
        clear_value x18
        refine .ite_on ?_ ?_
        · extract_lets +onlyGivenNames x20
          have h21 : Within 32974 s x20 := by
            subst x20
            refine .ite ?_ ?_
            · refine .step ?_ (within_count ..)
              assumption
            · assumption
          clear_value x20
          extract_lets +onlyGivenNames x22
          have h23 : Within 32974 s x22 := by
            subst x22
            refine .step ?_ (within_dirMod ..)
            assumption
          clear_value x22
          refine .mk_next ?_
          refine .step ?_ (within_evalRequest ..)
          refine .step ?_ (within_flushCommit ..)
          assumption
        · refine .ite_on ?_ ?_
          · refine .mk_next ?_
            refine .step ?_ (within_opFinished ..)
            refine .step ?_ (within_count ..)
            refine .step ?_ (within_dirFree ..)
            assumption
          · refine .mk_next ?_
            refine .step ?_ (within_count ..)
            refine .step ?_ (within_dirMod ..)
            assumption

theorem within_cancelEnd (s : State) (j : Nat) (e : JEntry) : Within 219185362 s (s.cancelEnd j e) := by
  unfold State.cancelEnd
  split
  · rename_i v1 v2 h3
    refine .step ?_ (within_finishRoute ..)
    exact .refl ..
  · rename_i v4 v5 h6
    refine .step ?_ (within_finishSweep ..)
    exact .refl ..
  · rename_i v7 h8 h9
    refine .step ?_ (within_finish ..)
    exact .refl ..

theorem within_copyEnd (s : State) (j : Nat) (e : JEntry) (st : Status) : Within 84967634 s (s.copyEnd j e st) := by
  unfold State.copyEnd
  refine .step ?_ (within_finish ..)
  exact .refl ..

theorem within_cancelOne (s : State) (j : Nat) : Within 227573970 s (s.cancelOne j) := by
  unfold State.cancelOne
  split
  · rename_i v1 h2
    exact .refl ..
  · rename_i v3 v4 h5
    refine .ite ?_ ?_
    · exact .refl ..
    · refine .ite ?_ ?_
      · refine .step ?_ (within_cancelEnd ..)
        exact .refl ..
      · refine .ite ?_ ?_
        · refine .step ?_ (within_finish ..)
          refine .step ?_ (within_dropSent ..)
          exact .refl ..
        · refine .ite ?_ ?_
          · refine .ite ?_ ?_
            · refine .step ?_ (within_jmod ..)
              exact .refl ..
            · refine .step ?_ (within_copyEnd ..)
              exact .refl ..
          · exact .refl ..

theorem within_cancelJseq (s : State) (j : Nat) : Within 227573970 s (orSame s id (s.cancelJseq j)) := by
  unfold State.cancelJseq
  refine .ite_on ?_ ?_
  · refine .mk_some ?_
    refine .step ?_ (within_cancelOne ..)
    exact .refl ..
  · refine .mk_none ?_
    exact .refl ..

theorem within_cancelRing (s : State) (r : Nat) : Within 227573970 s (s.cancelRing r) := by
  unfold State.cancelRing
  refine .foldl ?_ ?_
  · exact .refl ..
  · intro s1 v2
    refine .step ?_ (within_cancelOne ..)
    exact .refl ..

theorem within_copyAsk (s : State) (j : Nat) : Within 84967634 s (s.copyAsk j) := by
  unfold State.copyAsk
  split
  · rename_i v1 h2
    exact .refl ..
  · rename_i v3 v4 h5
    refine .ite ?_ ?_
    · exact .refl ..
    · refine .ite ?_ ?_
      · refine .step ?_ (within_copyEnd ..)
        exact .refl ..
      · refine .ite ?_ ?_
        · refine .step ?_ (within_copyEnd ..)
          exact .refl ..
        · extract_lets +onlyGivenNames x6
          clear_value x6
          refine .getD ?_ ?_
          · exact .refl ..
          · refine .orStep ?_ (within_issueRead ..) ?_
            · exact .refl ..
            · exact .refl ..

theorem within_copyStep (s : State) (j : Nat) : Within 84967646 s (s.copyStep j) := by
  unfold State.copyStep
  split
  · rename_i v1 h2
    exact .refl ..
  · rename_i v3 v4 h5
    refine .ite ?_ ?_
    · refine .step ?_ (within_copyAsk ..)
      exact .refl ..
    · split
      · rename_i v6 v7 v8 h9
        have h10 : Within 84967646 s v8 := by
          refine (.of_snd h9 ?_)
          refine .step ?_ (within_writeUda ..)
          exact .refl ..
        refine .step ?_ (within_copyAsk ..)
        refine .step ?_ (within_jmod ..)
        assumption
      · rename_i v11 v12 v13 h14
        have h15 : Within 84967646 s v13 := by
          refine (.of_snd h14 ?_)
          refine .step ?_ (within_writeUda ..)
          exact .refl ..
        refine .step ?_ (within_copyEnd ..)
        assumption
      · rename_i v16 v17 v18 h19 h20 h21
        have h22 : Within 84967646 s v18 := by
          refine (.of_snd h21 ?_)
          refine .step ?_ (within_writeUda ..)
          exact .refl ..
        assumption

theorem within_copyData (s : State) (j : Nat) (off : Nat) (bs : List Byte) : Within 84967646 s (s.copyData j off bs) := by
  unfold State.copyData
  refine .ite ?_ ?_
  · refine .step ?_ (within_copyStep ..)
    refine .step ?_ (within_jmod ..)
    exact .refl ..
  · exact .refl ..

theorem within_copyFailed (s : State) (j : Nat) (off : Nat) (st : Status) : Within 84967634 s (s.copyFailed j off st) := by
  unfold State.copyFailed
  split
  · rename_i v1 v2 h3
    refine .ite ?_ ?_
    · refine .step ?_ (within_copyEnd ..)
      exact .refl ..
    · exact .refl ..
  · rename_i v4 h5
    exact .refl ..

theorem within_copyOut (s : State) (j : Nat) (a2 : Nat) : Within 84967634 s (s.copyOut j a2) := by
  fun_induction State.copyOut s j a2
  · rename_i v1
    exact .refl ..
  · rename_i v2 v3 h4
    exact .refl ..
  · rename_i v5 v6 v7 h8 h9
    refine .step ?_ (within_copyEnd ..)
    exact .refl ..
  · rename_i v10 v11 v12 h13 h14 h15
    exact .refl ..
  · rename_i v16 v17 v18 h19 h20 h21 v22 v23 v24 h25 h26
    have h27 : Within 84967634 v16 v24 := by
      refine (.of_snd h25 ?_)
      refine .step ?_ (within_readUda ..)
      exact .refl ..
    refine .trans ?_ (h26)
    refine .step ?_ (within_jmod ..)
    refine .step ?_ (within_tx ..)
    assumption
  · rename_i v28 v29 v30 h31 h32 h33 v34 v35 v36 h37
    have h38 : Within 84967634 v28 v36 := by
      refine (.of_snd h37 ?_)
      refine .step ?_ (within_readUda ..)
      exact .refl ..
    refine .step ?_ (within_copyEnd ..)
    assumption
  · rename_i v39 v40 v41 h42 h43 h44 v45 v46 v47 h48 h49 h50
    have h51 : Within 84967634 v39 v47 := by
      refine (.of_snd h50 ?_)
      refine .step ?_ (within_readUda ..)
      exact .refl ..
    assumption

theorem within_flushEnd (s : State) (j : Nat) (st : Status) : Within 84967634 s (s.flushEnd j st) := by
  unfold State.flushEnd
  refine .ite ?_ ?_
  · refine .step ?_ (within_finish ..)
    exact .refl ..
  · exact .refl ..

theorem within_hostDispatch (s : State) (j : Nat) (op : Nat) (room : Bool) : Within 84967634 s (s.hostDispatch j op room).fst := by
  unfold State.hostDispatch
  split
  · rename_i v1 h2
    refine .mk_fst ?_
    exact .refl ..
  · rename_i v3 v4 h5
    refine .ite_on ?_ ?_
    · refine .mk_fst ?_
      exact .refl ..
    · refine .ite_on ?_ ?_
      · refine .mk_fst ?_
        exact .refl ..
      · refine .ite_on ?_ ?_
        · refine .mk_fst ?_
          exact .refl ..
        · refine .ite_on ?_ ?_
          · refine .mk_fst ?_
            refine .step ?_ (within_finish ..)
            refine .step ?_ (within_jmod ..)
            exact .refl ..
          · refine .ite_on ?_ ?_
            · refine .mk_fst ?_
              exact .refl ..
            · extract_lets +onlyGivenNames x6
              have h7 : Within 84967634 s x6 := by
                subst x6
                refine .step ?_ (within_jmod ..)
                refine .step ?_ (within_consumeWaits ..)
                exact .refl ..
              clear_value x6
              assumption

theorem within_execFence (jseq : Nat) (s : State) : Within 84967634 s (nextOr s (execFence jseq s)) := by
  unfold execFence
  split
  · rename_i v1 h2
    refine .mk_next ?_
    exact .refl ..
  · rename_i v3 v4 h5
    split
    · rename_i v6 v7 h8
      have h9 : Within 84967634 s v7 := by
        refine (.of_fst h8 ?_)
        refine .step ?_ (within_hostDispatch ..)
        exact .refl ..
      refine .mk_next ?_
      assumption
    · rename_i v10 v11 v12 h13
      have h14 : Within 84967634 s v11 := by
        refine (.of_fst h13 ?_)
        refine .step ?_ (within_hostDispatch ..)
        exact .refl ..
      refine .mk_next ?_
      refine .step ?_ (within_finish ..)
      assumption

theorem within_execFlush (jseq : Nat) (s : State) : Within 84967634 s (nextOr s (execFlush jseq s)) := by
  unfold execFlush
  split
  · rename_i v1 h2
    refine .mk_next ?_
    exact .refl ..
  · rename_i v3 v4 h5
    split
    · rename_i v6 v7 h8
      have h9 : Within 84967634 s v7 := by
        refine (.of_fst h8 ?_)
        refine .step ?_ (within_hostDispatch ..)
        exact .refl ..
      refine .mk_next ?_
      assumption
    · rename_i v10 v11 v12 h13
      have h14 : Within 84967634 s v11 := by
        refine (.of_fst h13 ?_)
        refine .step ?_ (within_hostDispatch ..)
        exact .refl ..
      extract_lets +onlyGivenNames x15
      have h16 : Within 84967634 s x15 := by
        subst x15
        refine .ite ?_ ?_
        · refine .step ?_ (within_jmod ..)
          assumption
        · assumption
      clear_value x15
      extract_lets +onlyGivenNames x17
      clear_value x17
      refine .ite_on ?_ ?_
      · refine .mk_next ?_
        assumption
      · split
        · rename_i v18 v19 h20
          have h21 : Within 84967634 s v11 := by
            refine (.of_fst h13 ?_)
            refine .step ?_ (within_hostDispatch ..)
            exact .refl ..
          have h22 : Within 84967634 s v19 := by
            refine (.of_some (b := s) h20 ?_)
            refine .orStep ?_ (within_issueRead ..) ?_
            · assumption
            · exact .refl ..
          refine .mk_next ?_
          refine .step ?_ (within_jmod ..)
          assumption
        · rename_i v23 h24
          have h25 : Within 84967634 s v11 := by
            refine (.of_fst h13 ?_)
            refine .step ?_ (within_hostDispatch ..)
            exact .refl ..
          refine .mk_next ?_
          assumption

theorem within_execHcopyIn (jseq : Nat) (s : State) : Within 84967646 s (nextOr s (execHcopyIn jseq s)) := by
  unfold execHcopyIn
  split
  · rename_i v1 v2 h3
    have h4 : Within 84967646 s v2 := by
      refine (.of_fst h3 ?_)
      refine .step ?_ (within_hostDispatch ..)
      exact .refl ..
    refine .mk_next ?_
    assumption
  · rename_i v5 v6 v7 h8
    have h9 : Within 84967646 s v6 := by
      refine (.of_fst h8 ?_)
      refine .step ?_ (within_hostDispatch ..)
      exact .refl ..
    refine .ite_on ?_ ?_
    · refine .mk_next ?_
      refine .step ?_ (within_copyEnd ..)
      assumption
    · refine .mk_next ?_
      refine .step ?_ (within_copyStep ..)
      assumption

theorem within_execHcopyOut (jseq : Nat) (s : State) : Within 84967634 s (nextOr s (execHcopyOut jseq s)) := by
  unfold execHcopyOut
  split
  · rename_i v1 v2 h3
    have h4 : Within 84967634 s v2 := by
      refine (.of_fst h3 ?_)
      refine .step ?_ (within_hostDispatch ..)
      exact .refl ..
    refine .mk_next ?_
    assumption
  · rename_i v5 v6 v7 h8
    have h9 : Within 84967634 s v6 := by
      refine (.of_fst h8 ?_)
      refine .step ?_ (within_hostDispatch ..)
      exact .refl ..
    refine .ite_on ?_ ?_
    · refine .mk_next ?_
      refine .step ?_ (within_copyEnd ..)
      assumption
    · refine .mk_next ?_
      refine .step ?_ (within_copyOut ..)
      assumption

theorem within_execNop (jseq : Nat) (s : State) : Within 84967634 s (nextOr s (execNop jseq s)) := by
  unfold execNop
  split
  · rename_i v1 v2 h3
    have h4 : Within 84967634 s v2 := by
      refine (.of_fst h3 ?_)
      refine .step ?_ (within_hostDispatch ..)
      exact .refl ..
    refine .mk_next ?_
    assumption
  · rename_i v5 v6 v7 h8
    have h9 : Within 84967634 s v6 := by
      refine (.of_fst h8 ?_)
      refine .step ?_ (within_hostDispatch ..)
      exact .refl ..
    refine .mk_next ?_
    refine .step ?_ (within_finish ..)
    assumption

theorem within_execWriteInline (jseq : Nat) (s : State) : Within 84967646 s (nextOr s (execWriteInline jseq s)) := by
  unfold execWriteInline
  split
  · rename_i v1 v2 h3
    have h4 : Within 84967646 s v2 := by
      refine (.of_fst h3 ?_)
      refine .step ?_ (within_hostDispatch ..)
      exact .refl ..
    refine .mk_next ?_
    assumption
  · rename_i v5 v6 v7 h8
    have h9 : Within 84967646 s v6 := by
      refine (.of_fst h8 ?_)
      refine .step ?_ (within_hostDispatch ..)
      exact .refl ..
    split
    · rename_i v10 v11 v12 h13
      have h14 : Within 84967646 s v6 := by
        refine (.of_fst h8 ?_)
        refine .step ?_ (within_hostDispatch ..)
        exact .refl ..
      have h15 : Within 84967646 s v12 := by
        refine (.of_snd h13 ?_)
        refine .step ?_ (within_writeUda ..)
        assumption
      refine .mk_next ?_
      refine .step ?_ (within_finish ..)
      assumption
    · rename_i v16 v17 v18 h19
      have h20 : Within 84967646 s v6 := by
        refine (.of_fst h8 ?_)
        refine .step ?_ (within_hostDispatch ..)
        exact .refl ..
      have h21 : Within 84967646 s v18 := by
        refine (.of_snd h19 ?_)
        refine .step ?_ (within_writeUda ..)
        assumption
      refine .mk_next ?_
      refine .step ?_ (within_finish ..)
      assumption
    · rename_i v22 v23 v24 h25 h26 h27
      have h28 : Within 84967646 s v6 := by
        refine (.of_fst h8 ?_)
        refine .step ?_ (within_hostDispatch ..)
        exact .refl ..
      have h29 : Within 84967646 s v24 := by
        refine (.of_snd h27 ?_)
        refine .step ?_ (within_writeUda ..)
        assumption
      refine .mk_next ?_
      assumption

end Sys2Proof.Machine
end

