-- ==== Sys2Proof/Laws/Within7.lean ====
section
/-! SUPPORT. What the operations of Fault, Import, Apply may change (see Laws/Within.lean). -/

set_option Elab.async false

namespace Sys2Proof.Machine

theorem within_powerEvent (s : State) (reason : Nat) : Within 194 s (s.powerEvent reason) := by
  unfold State.powerEvent
  refine .step ?_ (within_raise ..)
  exact .refl ..

theorem within_rdmod (s : State) (f : ReadmitState → ReadmitState) : Within 2147483648 s (s.rdmod f) := by
  unfold State.rdmod
  refine .upd s 2147483648 ?_
  exact .refl ..

theorem within_rejoin (s : State) (cls : Nat) (idx : Nat) (inst : Nat) (st : Nat) : Within 2147549378 s (s.rejoin cls idx inst st) := by
  unfold State.rejoin
  refine .step ?_ (within_raise ..)
  refine .step ?_ (within_setRastat ..)
  refine .step ?_ (within_rdmod ..)
  refine .step ?_ (within_readmitUnit ..)
  exact .refl ..

theorem within_joinTile (s : State) (p : Nat) : Within 2147549678 s (s.joinTile p) := by
  unfold State.joinTile
  extract_lets +onlyGivenNames x1
  have h2 : Within 2147549678 s x1 := by
    subst x1
    refine .step ?_ (within_rejoin ..)
    exact .refl ..
  clear_value x1
  split
  · rename_i v3 v4 v5 v6 h7 h8
    refine .step ?_ (within_set ..)
    refine .step ?_ (within_editTileMap ..)
    refine .step ?_ (within_clearArea ..)
    assumption
  · rename_i v9 v10 h11
    assumption

theorem within_joinPch (s : State) (p : Nat) : Within 98312 s (s.joinPch p) := by
  unfold State.joinPch
  extract_lets +onlyGivenNames x1
  have h2 : Within 98312 s x1 := by
    subst x1
    refine .ite ?_ ?_
    · refine .step ?_ (within_poisonPch ..)
      exact .refl ..
    · exact .refl ..
  clear_value x1
  refine .step ?_ (within_tmod ..)
  refine .step ?_ (within_readmitUnit ..)
  assumption

theorem within_joinUnit (s : State) (k : Nat) : Within 2147582446 s (s.joinUnit k) := by
  unfold State.joinUnit
  extract_lets +onlyGivenNames x1
  clear_value x1
  extract_lets +onlyGivenNames x2
  clear_value x2
  split
  · rename_i v3
    refine .step ?_ (within_capChange ..)
    refine .step ?_ (within_joinTile ..)
    exact .refl ..
  · rename_i v4
    refine .step ?_ (within_capChange ..)
    refine .step ?_ (within_joinPch ..)
    refine .step ?_ (within_rejoin ..)
    exact .refl ..
  · rename_i v5
    refine .ite ?_ ?_
    · extract_lets +onlyGivenNames x6
      have h7 : Within 2147582446 s x6 := by
        subst x6
        refine .step ?_ (within_setFlag ..)
        refine .step ?_ (within_rejoin ..)
        exact .refl ..
      clear_value x6
      refine .step ?_ (within_capChange ..)
      refine .foldl ?_ ?_
      · assumption
      · intro s8 v9
        refine .step ?_ (within_joinPch ..)
        exact .refl ..
    · extract_lets +onlyGivenNames x10
      clear_value x10
      refine .step ?_ (within_capChange ..)
      refine .step ?_ (within_setFlag ..)
      refine .step ?_ (within_fmod ..)
      refine .step ?_ (within_rejoin ..)
      exact .refl ..
  · rename_i v11 h12 h13 h14
    exact .refl ..

theorem within_joinAtBoundary (s : State) : Within 2147582446 s s.joinAtBoundary := by
  unfold State.joinAtBoundary
  refine .foldl ?_ ?_
  · exact .refl ..
  · intro s1 v2
    refine .step ?_ (within_joinUnit ..)
    exact .refl ..

theorem within_failOne (s : State) (j : Nat) : Within 227573970 s (s.failOne j) := by
  unfold State.failOne
  split
  · rename_i v1 h2
    exact .refl ..
  · rename_i v3 v4 h5
    refine .ite ?_ ?_
    · exact .refl ..
    · split
      · rename_i v6 v7 h8
        refine .step ?_ (within_routeError ..)
        exact .refl ..
      · rename_i v9 v10 h11
        refine .step ?_ (within_finishSweep ..)
        exact .refl ..
      · rename_i v12 h13 h14
        refine .step ?_ (within_finish ..)
        refine .step ?_ (within_dropSent ..)
        exact .refl ..

theorem within_joinAtLoad (s : State) : Within 2147549378 s s.joinAtLoad := by
  unfold State.joinAtLoad
  refine .foldl ?_ ?_
  · exact .refl ..
  · intro s1 v2
    extract_lets +onlyGivenNames x3
    clear_value x3
    split
    · rename_i v4 h5
      refine .ite ?_ ?_
      · exact .refl ..
      · refine .step ?_ (within_rejoin ..)
        exact .refl ..
    · rename_i v6 h7
      refine .step ?_ (within_rejoin ..)
      exact .refl ..
    · rename_i v8 h9 h10
      exact .refl ..

theorem within_copyPad (s : State) (p : Nat) (q : Nat) (bad : List Nat) : Within 12 s (s.copyPad p q bad) := by
  unfold State.copyPad
  refine .foldl ?_ ?_
  · refine .step ?_ (within_copyArea ..)
    exact .refl ..
  · intro s1 v2
    refine .ite ?_ ?_
    · refine .step ?_ (within_poisonGranule ..)
      exact .refl ..
    · exact .refl ..

theorem within_countReplay (s : State) (t : Nat) : Within 2 s (s.countReplay t) := by
  unfold State.countReplay
  split
  · rename_i v1 v2 h3
    refine .step ?_ (within_count ..)
    exact .refl ..
  · rename_i v4 h5
    exact .refl ..

theorem within_readmitReq (s : State) (cls : Nat) (idx : Nat) : Within 2147483842 s (s.readmitReq cls idx).fst := by
  unfold State.readmitReq
  extract_lets +onlyGivenNames x1
  clear_value x1
  refine .ite_on ?_ ?_
  · refine .mk_fst ?_
    exact .refl ..
  · extract_lets +onlyGivenNames x2
    subst x2
    refine .ite_on ?_ ?_
    · refine .mk_fst ?_
      dsimp -zeta only
      refine .step ?_ (within_set ..)
      refine .step ?_ (within_set ..)
      refine .step ?_ (within_set ..)
      refine .step ?_ (within_set ..)
      exact .refl ..
    · refine .ite_on ?_ ?_
      · refine .mk_fst ?_
        dsimp -zeta only
        refine .step ?_ (within_set ..)
        refine .step ?_ (within_set ..)
        refine .step ?_ (within_set ..)
        refine .step ?_ (within_set ..)
        exact .refl ..
      · refine .ite_on ?_ ?_
        · split
          · rename_i v3 v4 h5
            have h6 : Within 2147483842 s v4 := by
              refine (.of_some (b := s) h5 ?_)
              refine .orStep ?_ (within_lnkReadmit ..) ?_
              · dsimp -zeta only
                refine .step ?_ (within_set ..)
                refine .step ?_ (within_set ..)
                refine .step ?_ (within_set ..)
                refine .step ?_ (within_set ..)
                exact .refl ..
              · exact .refl ..
            assumption
          · rename_i v7 h8
            refine .mk_fst ?_
            exact .refl ..
        · refine .ite_on ?_ ?_
          · refine .mk_fst ?_
            exact .refl ..
          · refine .mk_fst ?_
            refine .step ?_ (within_rdmod ..)
            dsimp -zeta only
            refine .step ?_ (within_set ..)
            refine .step ?_ (within_set ..)
            refine .step ?_ (within_set ..)
            refine .step ?_ (within_set ..)
            exact .refl ..

theorem within_replaceArray (s : State) (t : Nat) (p : Nat) (q : Nat) : Within 262146 s (s.replaceArray t p q) := by
  unfold State.replaceArray
  extract_lets +onlyGivenNames x1
  clear_value x1
  extract_lets +onlyGivenNames x2
  clear_value x2
  extract_lets +onlyGivenNames x3
  have h4 : Within 262146 s x3 := by
    subst x3
    refine .step ?_ (within_set ..)
    exact .refl ..
  clear_value x3
  extract_lets +onlyGivenNames x5
  have h6 : Within 262146 s x5 := by
    subst x5
    refine .upd x3 262144 ?_
    assumption
  clear_value x5
  extract_lets +onlyGivenNames x7
  have h8 : Within 262146 s x7 := by
    subst x7
    refine .foldl ?_ ?_
    · assumption
    · intro s9 v10
      refine .step ?_ (within_setFlag ..)
      exact .refl ..
  clear_value x7
  split
  · rename_i v11 v12 v13 v14 v15 h16 h17
    refine .step ?_ (within_startReform ..)
    assumption
  · rename_i v18 v19 h20
    assumption

theorem within_resendFor (s : State) (j : Nat) : Within 93356242 s (s.resendFor j) := by
  unfold State.resendFor
  refine .foldl ?_ ?_
  · exact .refl ..
  · intro s1 v2
    refine .ite ?_ ?_
    · refine .foldl ?_ ?_
      · exact .refl ..
      · intro s3 v4
        refine .step ?_ (within_resendOne ..)
        exact .refl ..
    · exact .refl ..

theorem within_replayTile (s : State) (j : Nat) : Within 93356242 s (s.replayTile j) := by
  unfold State.replayTile
  split
  · rename_i v1 h2
    exact .refl ..
  · rename_i v3 v4 h5
    extract_lets +onlyGivenNames x6
    have h7 : Within 93356242 s x6 := by
      subst x6
      refine .step ?_ (within_countReplay ..)
      refine .step ?_ (within_jmod ..)
      exact .refl ..
    clear_value x6
    refine .ite ?_ ?_
    · refine .step ?_ (within_resendFor ..)
      refine .step ?_ (within_rmod ..)
      assumption
    · assumption

theorem within_moveTile (s : State) (t : Nat) (p : Nat) (q : Nat) (bad : List Nat) : Within 93618686 s (s.moveTile t p q bad) := by
  unfold State.moveTile
  extract_lets +onlyGivenNames x1
  clear_value x1
  extract_lets +onlyGivenNames x2
  clear_value x2
  extract_lets +onlyGivenNames x3
  have h4 : Within 93618686 s x3 := by
    subst x3
    refine .step ?_ (within_raise ..)
    refine .step ?_ (within_beginRecovery ..)
    exact .refl ..
  clear_value x3
  extract_lets +onlyGivenNames x5
  have h6 : Within 93618686 s x5 := by
    subst x5
    refine .foldl ?_ ?_
    · assumption
    · intro s7 v8
      refine .step ?_ (within_dropEarly ..)
      exact .refl ..
  clear_value x5
  extract_lets +onlyGivenNames x9
  have h10 : Within 93618686 s x9 := by
    subst x9
    refine .step ?_ (within_replaceArray ..)
    refine .step ?_ (within_editTileMap ..)
    refine .step ?_ (within_copyPad ..)
    assumption
  clear_value x9
  extract_lets +onlyGivenNames x11
  have h12 : Within 93618686 s x11 := by
    subst x11
    refine .foldl ?_ ?_
    · assumption
    · intro s13 v14
      refine .step ?_ (within_replayTile ..)
      exact .refl ..
  clear_value x11
  refine .step ?_ (within_barriersOf ..)
  refine .step ?_ (within_recoveryEvent ..)
  assumption

theorem within_writeMirror (s : State) : Within 4294967298 s s.writeMirror := by
  unfold State.writeMirror
  refine .ite ?_ ?_
  · refine .upd s 4294967296 ?_
    exact .refl ..
  · refine .step ?_ (within_setFlag ..)
    exact .refl ..

theorem within_powerWarn (s : State) : Within 5368709634 s s.powerWarn := by
  unfold State.powerWarn
  refine .ite ?_ ?_
  · exact .refl ..
  · extract_lets +onlyGivenNames x1
    have h2 : Within 5368709634 s x1 := by
      subst x1
      refine .step ?_ (within_pwmod ..)
      exact .refl ..
    clear_value x1
    refine .ite ?_ ?_
    · extract_lets +onlyGivenNames x3
      have h4 : Within 5368709634 s x3 := by
        subst x3
        refine .step ?_ (within_writeMirror ..)
        assumption
      clear_value x3
      refine .upd x3 512 ?_
      assumption
    · assumption

theorem within_unmapTile (s : State) (t : Nat) (p : Nat) : Within 93372914 s (s.unmapTile t p) := by
  unfold State.unmapTile
  extract_lets +onlyGivenNames x1
  clear_value x1
  extract_lets +onlyGivenNames x2
  clear_value x2
  extract_lets +onlyGivenNames x3
  have h4 : Within 93372914 s x3 := by
    subst x3
    refine .step ?_ (within_raise ..)
    refine .step ?_ (within_beginRecovery ..)
    exact .refl ..
  clear_value x3
  extract_lets +onlyGivenNames x5
  have h6 : Within 93372914 s x5 := by
    subst x5
    refine .foldl ?_ ?_
    · assumption
    · intro s7 v8
      refine .step ?_ (within_dropEarly ..)
      exact .refl ..
  clear_value x5
  extract_lets +onlyGivenNames x9
  have h10 : Within 93372914 s x9 := by
    subst x9
    refine .foldl ?_ ?_
    · assumption
    · intro s11 v12
      refine .step ?_ (within_jmod ..)
      exact .refl ..
  clear_value x9
  extract_lets +onlyGivenNames x13
  have h14 : Within 93372914 s x13 := by
    subst x13
    refine .foldl ?_ ?_
    · assumption
    · intro s15 v16
      refine .step ?_ (within_finish ..)
      refine .step ?_ (within_dropSent ..)
      exact .refl ..
  clear_value x13
  extract_lets +onlyGivenNames x17
  have h18 : Within 93372914 s x17 := by
    subst x17
    refine .ite ?_ ?_
    · refine .upd x13 16384 ?_
      assumption
    · assumption
  clear_value x17
  refine .step ?_ (within_barriersOf ..)
  refine .step ?_ (within_recoveryEvent ..)
  refine .step ?_ (within_editTileMap ..)
  assumption

theorem within_execFatal (cause : Nat) (s : State) : Within 4294967874 s (nextOr s (execFatal cause s)) := by
  unfold execFatal
  refine .ite_on ?_ ?_
  · refine .mk_next ?_
    exact .refl ..
  · extract_lets +onlyGivenNames x1
    have h2 : Within 4294967874 s x1 := by
      subst x1
      refine .step ?_ (within_setFlag ..)
      refine .step ?_ (within_set ..)
      exact .refl ..
    clear_value x1
    extract_lets +onlyGivenNames x3
    have h4 : Within 4294967874 s x3 := by
      subst x3
      refine .ite ?_ ?_
      · assumption
      · refine .step ?_ (within_writeMirror ..)
        assumption
    clear_value x3
    extract_lets +onlyGivenNames x5
    have h6 : Within 4294967874 s x5 := by
      subst x5
      refine .ite ?_ ?_
      · refine .step ?_ (within_tx ..)
        assumption
      · assumption
    clear_value x5
    refine .mk_next ?_
    refine .upd x5 512 ?_
    assumption

theorem within_execPwrWarnN (s : State) : Within 5368709634 s (nextOr s (execPwrWarnN s)) := by
  unfold execPwrWarnN
  refine .ite_on ?_ ?_
  · refine .mk_next ?_
    exact .refl ..
  · refine .ite_on ?_ ?_
    · refine .mk_next ?_
      refine .step ?_ (within_count ..)
      exact .refl ..
    · refine .mk_next ?_
      refine .step ?_ (within_powerWarn ..)
      exact .refl ..

theorem within_execRailFault (rail : Nat) (s : State) : Within 5368709826 s (nextOr s (execRailFault rail s)) := by
  unfold execRailFault
  refine .ite_on ?_ ?_
  · refine .mk_next ?_
    exact .refl ..
  · refine .ite_on ?_ ?_
    · refine .mk_next ?_
      exact .refl ..
    · refine .mk_next ?_
      refine .step ?_ (within_powerEvent ..)
      refine .step ?_ (within_powerWarn ..)
      exact .refl ..

theorem within_execRingRetired (ring : Nat) (s : State) : Within 227770578 s (nextOr s (execRingRetired ring s)) := by
  unfold execRingRetired
  refine .ite_on ?_ ?_
  · refine .mk_next ?_
    exact .refl ..
  · refine .ite_on ?_ ?_
    · refine .mk_next ?_
      exact .refl ..
    · extract_lets +onlyGivenNames x1
      have h2 : Within 227770578 s x1 := by
        subst x1
        refine .step ?_ (within_retireUnit ..)
        exact .refl ..
      clear_value x1
      extract_lets +onlyGivenNames x3
      clear_value x3
      extract_lets +onlyGivenNames x4
      clear_value x4
      extract_lets +onlyGivenNames x5
      clear_value x5
      extract_lets +onlyGivenNames x6
      have h7 : Within 227770578 s x6 := by
        subst x6
        refine .step ?_ (within_beginRecovery ..)
        refine .step ?_ (within_dropFetched ..)
        assumption
      clear_value x6
      extract_lets +onlyGivenNames x8
      have h9 : Within 227770578 s x8 := by
        subst x8
        refine .foldl ?_ ?_
        · assumption
        · intro s10 v11
          refine .step ?_ (within_jmod ..)
          exact .refl ..
      clear_value x8
      extract_lets +onlyGivenNames x12
      have h13 : Within 227770578 s x12 := by
        subst x12
        refine .foldl ?_ ?_
        · assumption
        · intro s14 v15
          refine .step ?_ (within_failOne ..)
          exact .refl ..
      clear_value x12
      refine .mk_next ?_
      refine .step ?_ (within_barriersOf ..)
      refine .step ?_ (within_recoveryEvent ..)
      refine .step ?_ (within_raise ..)
      assumption

theorem within_execSelfTest (cls : Nat) (idx : Nat) (pass : Bool) (s : State) : Within 2147483662 s (nextOr s (execSelfTest cls idx pass s)) := by
  unfold execSelfTest
  extract_lets +onlyGivenNames x1
  clear_value x1
  refine .ite_on ?_ ?_
  · refine .mk_next ?_
    exact .refl ..
  · extract_lets +onlyGivenNames x2
    have h3 : Within 2147483662 s x2 := by
      subst x2
      refine .step ?_ (within_rdmod ..)
      exact .refl ..
    clear_value x2
    refine .ite_on ?_ ?_
    · refine .mk_next ?_
      refine .step ?_ (within_setRastat ..)
      assumption
    · extract_lets +onlyGivenNames x4
      have h5 : Within 2147483662 s x4 := by
        subst x4
        refine .ite ?_ ?_
        · refine .step ?_ (within_clearArea ..)
          assumption
        · assumption
      clear_value x4
      refine .mk_next ?_
      refine .step ?_ (within_setRastat ..)
      refine .step ?_ (within_rdmod ..)
      assumption

theorem within_execThermN (sensor : Nat) (temp : Nat) (s : State) : Within 5368709826 s (nextOr s (execThermN sensor temp s)) := by
  unfold execThermN
  refine .ite_on ?_ ?_
  · refine .mk_next ?_
    exact .refl ..
  · refine .ite_on ?_ ?_
    · refine .mk_next ?_
      exact .refl ..
    · refine .mk_next ?_
      refine .step ?_ (within_powerEvent ..)
      refine .step ?_ (within_powerWarn ..)
      refine .step ?_ (within_setFlag ..)
      exact .refl ..

theorem within_execTileRetired (phys : Nat) (bad : List Nat) (s : State) : Within 93831678 s (nextOr s (execTileRetired phys bad s)) := by
  unfold execTileRetired
  refine .ite_on ?_ ?_
  · refine .mk_next ?_
    exact .refl ..
  · refine .ite_on ?_ ?_
    · refine .mk_next ?_
      exact .refl ..
    · extract_lets +onlyGivenNames x1
      have h2 : Within 93831678 s x1 := by
        subst x1
        refine .step ?_ (within_retireUnit ..)
        exact .refl ..
      clear_value x1
      split
      · rename_i v3 h4
        refine .mk_next ?_
        refine .step ?_ (within_capChange ..)
        refine .step ?_ (within_recoveryEvent ..)
        refine .step ?_ (within_raise ..)
        refine .step ?_ (within_beginRecovery ..)
        assumption
      · rename_i v5 v6 h7
        split
        · rename_i v8 v9 h10
          refine .mk_next ?_
          refine .step ?_ (within_capChange ..)
          refine .step ?_ (within_moveTile ..)
          assumption
        · rename_i v11 h12
          refine .mk_next ?_
          refine .step ?_ (within_capChange ..)
          refine .step ?_ (within_unmapTile ..)
          assumption

theorem within_execUnitRetired (unit : Nat) (s : State) : Within 227770578 s (nextOr s (execUnitRetired unit s)) := by
  unfold execUnitRetired
  refine .ite_on ?_ ?_
  · refine .mk_next ?_
    exact .refl ..
  · refine .ite_on ?_ ?_
    · refine .mk_next ?_
      exact .refl ..
    · extract_lets +onlyGivenNames x1
      have h2 : Within 227770578 s x1 := by
        subst x1
        refine .step ?_ (within_retireUnit ..)
        exact .refl ..
      clear_value x1
      extract_lets +onlyGivenNames x3
      clear_value x3
      extract_lets +onlyGivenNames x4
      clear_value x4
      extract_lets +onlyGivenNames x5
      have h6 : Within 227770578 s x5 := by
        subst x5
        refine .ite ?_ ?_
        · refine .step ?_ (within_beginRecovery ..)
          assumption
        · assumption
      clear_value x5
      extract_lets +onlyGivenNames x7
      have h8 : Within 227770578 s x7 := by
        subst x7
        refine .foldl ?_ ?_
        · assumption
        · intro s9 v10
          refine .step ?_ (within_failOne ..)
          exact .refl ..
      clear_value x7
      extract_lets +onlyGivenNames x11
      have h12 : Within 227770578 s x11 := by
        subst x11
        refine .step ?_ (within_capChange ..)
        refine .step ?_ (within_raise ..)
        assumption
      clear_value x11
      refine .mk_next ?_
      refine .ite ?_ ?_
      · refine .step ?_ (within_barriersOf ..)
        refine .step ?_ (within_recoveryEvent ..)
        assumption
      · assumption

theorem within_importPump (s : State) : Within 268435520 s s.importPump := by
  unfold State.importPump
  extract_lets +onlyGivenNames x1
  clear_value x1
  extract_lets +onlyGivenNames x2
  clear_value x2
  extract_lets +onlyGivenNames x3
  clear_value x3
  refine .ite ?_ ?_
  · exact .refl ..
  · extract_lets +onlyGivenNames x4
    clear_value x4
    extract_lets +onlyGivenNames x5
    clear_value x5
    extract_lets +onlyGivenNames x6
    clear_value x6
    split
    · rename_i v7 v8 h9
      have h10 : Within 268435520 s v8 := by
        refine (.of_some (b := s) h9 ?_)
        refine .orStep ?_ (within_issueRead ..) ?_
        · exact .refl ..
        · exact .refl ..
      refine .step ?_ (within_dmod ..)
      assumption
    · rename_i v11 h12
      exact .refl ..

theorem within_importForget (s : State) : Within 268435456 s s.importForget := by
  unfold State.importForget
  refine .step ?_ (within_dmod ..)
  exact .refl ..

theorem within_importEnable (s : State) : Within 268435522 s s.importEnable := by
  unfold State.importEnable
  refine .step ?_ (within_importPump ..)
  refine .step ?_ (within_importForget ..)
  refine .step ?_ (within_set ..)
  refine .step ?_ (within_setFlag ..)
  exact .refl ..

theorem within_importDisable (s : State) : Within 268435458 s s.importDisable := by
  unfold State.importDisable
  refine .step ?_ (within_importForget ..)
  refine .step ?_ (within_set ..)
  refine .step ?_ (within_setFlag ..)
  exact .refl ..

theorem within_importResume (s : State) : Within 268435522 s s.importResume := by
  unfold State.importResume
  extract_lets +onlyGivenNames x1
  clear_value x1
  refine .ite ?_ ?_
  · refine .step ?_ (within_importPump ..)
    refine .step ?_ (within_set ..)
    exact .refl ..
  · exact .refl ..

theorem within_importStop (s : State) (err : Nat) : Within 268435522 s (s.importStop err) := by
  unfold State.importStop
  refine .step ?_ (within_signal ..)
  refine .step ?_ (within_importForget ..)
  refine .step ?_ (within_set ..)
  exact .refl ..

theorem within_importDone (s : State) (len : Nat) : Within 268435458 s (s.importDone len) := by
  unfold State.importDone
  refine .step ?_ (within_importForget ..)
  refine .step ?_ (within_count ..)
  refine .step ?_ (within_wrap ..)
  refine .step ?_ (within_wrap ..)
  exact .refl ..

theorem within_importDelta (s : State) (c : Chunk) (len : Nat) : Within 268468430 s (s.importDelta c len) := by
  unfold State.importDelta
  split
  · rename_i v1 h2
    refine .step ?_ (within_importStop ..)
    exact .refl ..
  · rename_i v3 v4 h5
    split
    · rename_i v6 v7 v8 v9 v10 h11 h12
      split
      · rename_i v13 v14 h15
        have h16 : Within 268468430 s v14 := by
          refine (.of_snd h15 ?_)
          refine .step ?_ (within_readAll ..)
          exact .refl ..
        refine .step ?_ (within_importStop ..)
        assumption
      · rename_i v17 v18 h19
        have h20 : Within 268468430 s v18 := by
          refine (.of_snd h19 ?_)
          refine .step ?_ (within_readAll ..)
          exact .refl ..
        assumption
      · rename_i v21 v22 v23 h24
        have h25 : Within 268468430 s v23 := by
          refine (.of_snd h24 ?_)
          refine .step ?_ (within_readAll ..)
          exact .refl ..
        extract_lets +onlyGivenNames x26
        clear_value x26
        extract_lets +onlyGivenNames x27
        clear_value x27
        refine .ite ?_ ?_
        · refine .step ?_ (within_importStop ..)
          assumption
        · split
          · rename_i v28 v29 h30
            have h31 : Within 268468430 s v23 := by
              refine (.of_snd h24 ?_)
              refine .step ?_ (within_readAll ..)
              exact .refl ..
            have h32 : Within 268468430 s v29 := by
              refine (.of_snd h30 ?_)
              refine .step ?_ (within_putDurable ..)
              assumption
            refine .step ?_ (within_importStop ..)
            assumption
          · rename_i v33 v34 h35
            have h36 : Within 268468430 s v23 := by
              refine (.of_snd h24 ?_)
              refine .step ?_ (within_readAll ..)
              exact .refl ..
            have h37 : Within 268468430 s v34 := by
              refine (.of_snd h35 ?_)
              refine .step ?_ (within_putDurable ..)
              assumption
            assumption
          · rename_i v38 v39 h40
            have h41 : Within 268468430 s v23 := by
              refine (.of_snd h24 ?_)
              refine .step ?_ (within_readAll ..)
              exact .refl ..
            have h42 : Within 268468430 s v39 := by
              refine (.of_snd h40 ?_)
              refine .step ?_ (within_putDurable ..)
              assumption
            extract_lets +onlyGivenNames x43
            clear_value x43
            extract_lets +onlyGivenNames x44
            clear_value x44
            extract_lets +onlyGivenNames x45
            clear_value x45
            extract_lets +onlyGivenNames x46
            clear_value x46
            refine .step ?_ (within_importDone ..)
            refine .step ?_ (within_dmod ..)
            assumption
    · rename_i v47 v48 h49
      refine .step ?_ (within_importStop ..)
      exact .refl ..

theorem within_importCopies (s : State) (step : Nat) (a2 : List Touched) : Within 32974 s (s.importCopies step a2).snd := by
  fun_induction State.importCopies s step a2
  · rename_i v1
    refine .mk_snd ?_
    exact .refl ..
  · rename_i v2 v3 v4 h5 h6
    assumption
  · rename_i v7 v8 v9 v10 h11 h12 h13
    assumption
  · rename_i v14 v15 v16 v17 h18 h19 v20 h21 h22
    have h23 : Within 32974 v14 v20 := by
      refine (.of_snd h21 ?_)
      refine .step ?_ (within_copyMatrix ..)
      exact .refl ..
    refine .trans ?_ (h22)
    assumption
  · rename_i v24 v25 v26 v27 h28 h29 h30
    refine .step ?_ (within_copyMatrix ..)
    exact .refl ..

theorem within_importStepEnd (s : State) (c : Chunk) (len : Nat) : Within 268468430 s (s.importStepEnd c len) := by
  unfold State.importStepEnd
  split
  · rename_i v1 v2 h3
    have h4 : Within 268468430 s v2 := by
      refine (.of_snd h3 ?_)
      refine .step ?_ (within_importCopies ..)
      exact .refl ..
    refine .step ?_ (within_importStop ..)
    exact .refl ..
  · rename_i v5 v6 h7
    have h8 : Within 268468430 s v6 := by
      refine (.of_snd h7 ?_)
      refine .step ?_ (within_importCopies ..)
      exact .refl ..
    exact .refl ..
  · rename_i v9 v10 h11
    have h12 : Within 268468430 s v10 := by
      refine (.of_snd h11 ?_)
      refine .step ?_ (within_importCopies ..)
      exact .refl ..
    split
    · rename_i v13 v14 h15
      have h16 : Within 268468430 s v10 := by
        refine (.of_snd h11 ?_)
        refine .step ?_ (within_importCopies ..)
        exact .refl ..
      have h17 : Within 268468430 s v14 := by
        refine (.of_snd h15 ?_)
        refine .ite_on ?_ ?_
        · assumption
        · refine .step ?_ (within_putDurable ..)
          assumption
      refine .step ?_ (within_importStop ..)
      exact .refl ..
    · rename_i v18 v19 h20
      have h21 : Within 268468430 s v10 := by
        refine (.of_snd h11 ?_)
        refine .step ?_ (within_importCopies ..)
        exact .refl ..
      have h22 : Within 268468430 s v19 := by
        refine (.of_snd h20 ?_)
        refine .ite_on ?_ ?_
        · assumption
        · refine .step ?_ (within_putDurable ..)
          assumption
      exact .refl ..
    · rename_i v23 v24 h25
      have h26 : Within 268468430 s v10 := by
        refine (.of_snd h11 ?_)
        refine .step ?_ (within_importCopies ..)
        exact .refl ..
      have h27 : Within 268468430 s v24 := by
        refine (.of_snd h25 ?_)
        refine .ite_on ?_ ?_
        · assumption
        · refine .step ?_ (within_putDurable ..)
          assumption
      refine .step ?_ (within_importDone ..)
      refine .step ?_ (within_dmod ..)
      assumption

theorem within_importApply (s : State) (bs : List Byte) : Within 268468430 s (s.importApply bs) := by
  unfold State.importApply
  extract_lets +onlyGivenNames x1
  clear_value x1
  refine .ite ?_ ?_
  · refine .step ?_ (within_importStop ..)
    exact .refl ..
  · refine .ite ?_ ?_
    · refine .step ?_ (within_importStop ..)
      exact .refl ..
    · split
      · rename_i v2 h3
        refine .step ?_ (within_importStop ..)
        exact .refl ..
      · rename_i v4 h5
        refine .step ?_ (within_importDelta ..)
        exact .refl ..
      · rename_i v6 h7
        refine .step ?_ (within_importStepEnd ..)
        exact .refl ..
      · rename_i v8 h9 h10 h11
        refine .ite ?_ ?_
        · refine .step ?_ (within_importDone ..)
          exact .refl ..
        · refine .step ?_ (within_importStop ..)
          exact .refl ..

theorem within_importData (s : State) (pos : Nat) (bs : List Byte) : Within 268435520 s (s.importData pos bs) := by
  unfold State.importData
  refine .ite ?_ ?_
  · exact .refl ..
  · refine .step ?_ (within_importPump ..)
    refine .step ?_ (within_dmod ..)
    exact .refl ..

theorem within_importFailed (s : State) (pos : Nat) : Within 268435522 s (s.importFailed pos) := by
  unfold State.importFailed
  refine .ite ?_ ?_
  · exact .refl ..
  · refine .step ?_ (within_importStop ..)
    exact .refl ..

theorem within_execImportNext (s : State) : Within 268468430 s (nextOr s (execImportNext s)) := by
  unfold execImportNext
  refine .ite_on ?_ ?_
  · refine .mk_next ?_
    exact .refl ..
  · refine .ite_on ?_ ?_
    · refine .mk_next ?_
      refine .step ?_ (within_importPump ..)
      refine .step ?_ (within_importApply ..)
      exact .refl ..
    · refine .mk_next ?_
      refine .step ?_ (within_importPump ..)
      exact .refl ..

theorem within_activate (s : State) (bs : List Byte) (area : Nat) : Within 3074 s (s.activate bs area) := by
  unfold State.activate
  extract_lets +onlyGivenNames x1
  clear_value x1
  extract_lets +onlyGivenNames x2
  have h3 : Within 3074 s x2 := by
    subst x2
    refine .upd s 3072 ?_
    exact .refl ..
  clear_value x2
  extract_lets +onlyGivenNames x4
  have h5 : Within 3074 s x4 := by
    subst x4
    refine .step ?_ (within_set ..)
    refine .step ?_ (within_set ..)
    refine .step ?_ (within_set ..)
    assumption
  clear_value x4
  refine .step ?_ (within_setReg ..)
  refine .step ?_ (within_set ..)
  assumption

theorem within_reformAll (s : State) : Within 2 s s.reformAll := by
  unfold State.reformAll
  refine .foldl ?_ ?_
  · exact .refl ..
  · intro s1 v2
    split
    · rename_i v3 v4 h5
      refine .step ?_ (within_startReform ..)
      exact .refl ..
    · rename_i v6 h7
      exact .refl ..

theorem within_applyShapes (s : State) (t : Nat) : Within 2 s (s.applyShapes t) := by
  unfold State.applyShapes
  split
  · rename_i v1 h2
    exact .refl ..
  · rename_i v3 v4 h5
    extract_lets +onlyGivenNames x6
    clear_value x6
    extract_lets +onlyGivenNames x7
    have h8 : Within 2 s x7 := by
      subst x7
      refine .ite ?_ ?_
      · exact .refl ..
      · refine .step ?_ (within_count ..)
        refine .step ?_ (within_set ..)
        exact .refl ..
    clear_value x7
    refine .step ?_ (within_setFlag ..)
    assumption

theorem within_applyAllShapes (s : State) : Within 2 s s.applyAllShapes := by
  unfold State.applyAllShapes
  refine .foldl ?_ ?_
  · exact .refl ..
  · intro s1 v2
    refine .step ?_ (within_applyShapes ..)
    exact .refl ..

theorem within_beginOrder (s : State) (k : StartKind) : Within 1073741826 s (s.beginOrder k) := by
  unfold State.beginOrder
  refine .step ?_ (within_pwmod ..)
  refine .step ?_ (within_set ..)
  exact .refl ..

theorem within_applyAgain (s : State) (bs : List Byte) (area : Nat) : Within 1344277518 s (s.applyAgain bs area) := by
  unfold State.applyAgain
  extract_lets +onlyGivenNames x1
  have h2 : Within 1344277518 s x1 := by
    subst x1
    refine .step ?_ (within_set ..)
    refine .step ?_ (within_reformAll ..)
    refine .step ?_ (within_applyAllShapes ..)
    refine .step ?_ (within_activate ..)
    exact .refl ..
  clear_value x1
  extract_lets +onlyGivenNames x3
  have h4 : Within 1344277518 s x3 := by
    subst x3
    refine .upd x1 2097152 ?_
    assumption
  clear_value x3
  extract_lets +onlyGivenNames x5
  clear_value x5
  extract_lets +onlyGivenNames x6
  have h7 : Within 1344277518 s x6 := by
    subst x6
    refine .foldl ?_ ?_
    · assumption
    · intro s8 v9
      refine .step ?_ (within_set ..)
      exact .refl ..
  clear_value x6
  refine .step ?_ (within_beginOrder ..)
  refine .step ?_ (within_capChange ..)
  refine .step ?_ (within_markDiff ..)
  assumption

theorem within_applyBindings (s : State) (rs : List RingRange) (t : Nat) : Within 2 s (s.applyBindings rs t) := by
  unfold State.applyBindings
  refine .foldl ?_ ?_
  · exact .refl ..
  · intro s1 v2
    refine .step ?_ (within_setFlag ..)
    refine .step ?_ (within_set ..)
    exact .refl ..

theorem within_applyCalendar (s : State) : Within 12582914 s s.applyCalendar := by
  unfold State.applyCalendar
  extract_lets +onlyGivenNames x1
  clear_value x1
  extract_lets +onlyGivenNames x2
  have h3 : Within 12582914 s x2 := by
    subst x2
    refine .step ?_ (within_resetRegs ..)
    exact .refl ..
  clear_value x2
  extract_lets +onlyGivenNames x4
  have h5 : Within 12582914 s x4 := by
    subst x4
    refine .foldl ?_ ?_
    · assumption
    · intro s6 v7
      refine .step ?_ (within_setReg ..)
      refine .step ?_ (within_setReg ..)
      exact .refl ..
  clear_value x4
  extract_lets +onlyGivenNames x8
  have h9 : Within 12582914 s x8 := by
    subst x8
    refine .step ?_ (within_wmod ..)
    assumption
  clear_value x8
  refine .step ?_ (within_vmod ..)
  refine .step ?_ (within_nmod ..)
  assumption

theorem within_replacePch (s : State) (p : Nat) (was : PchSt) : Within 32778 s (s.replacePch p was) := by
  unfold State.replacePch
  split
  · rename_i v1
    refine .step ?_ (within_set ..)
    exact .refl ..
  · rename_i v2 h3
    extract_lets +onlyGivenNames x4
    clear_value x4
    extract_lets +onlyGivenNames x5
    have h6 : Within 32778 s x5 := by
      subst x5
      refine .ite ?_ ?_
      · refine .step ?_ (within_poisonPch ..)
        exact .refl ..
      · exact .refl ..
    clear_value x5
    refine .step ?_ (within_tmod ..)
    assumption

theorem within_newTier (s : State) (bs : List Byte) : Within 32974 s (s.newTier bs) := by
  unfold State.newTier
  refine .foldl ?_ (fun t p => .step (.refl ..) (within_replacePch ..))
  have h1 : Within 32974 s (if s.tier.op.isSome then s.endTierOp 6 else s) := .ite (.step (.refl ..) (within_endTierOp ..)) (.refl ..)
  refine .trans ?_ (within_replaceRows _ _ ?_ (by decide))
  · refine .ite h1 (h1.trans (Within.forms (fun p => by cases p <;> first | exact Or.inr rfl | exact Or.inl (by decide)) rfl
      (fun c => ⟨memFilter_wf _ c.1, c.2.1, nrises_filter _ c.2.2.1, c.2.2.2⟩)))
  · exact .step (.step (.upd _ 32768 (.refl ..)) (within_set ..)) (within_set ..)

theorem within_applyTier (s : State) (bs : List Byte) : Within 32974 s (s.applyTier bs) := by
  unfold State.applyTier
  extract_lets +onlyGivenNames x1
  clear_value x1
  extract_lets +onlyGivenNames x2
  have h3 : Within 32974 s x2 := by
    subst x2
    refine .ite ?_ ?_
    · exact .refl ..
    · refine .step ?_ (within_newTier ..)
      exact .refl ..
  clear_value x2
  extract_lets +onlyGivenNames x4
  have h5 : Within 32974 s x4 := by
    subst x4
    refine .step ?_ (within_set ..)
    refine .step ?_ (within_set ..)
    refine .step ?_ (within_set ..)
    assumption
  clear_value x4
  extract_lets +onlyGivenNames x6
  have h7 : Within 32974 s x6 := by
    subst x6
    refine .step ?_ (within_setFlag ..)
    assumption
  clear_value x6
  refine .foldl ?_ ?_
  · assumption
  · intro s8 v9
    refine .step ?_ (within_set ..)
    exact .refl ..

theorem within_closeWindows (s : State) : Within 8388610 s s.closeWindows := by
  unfold State.closeWindows
  refine .foldl ?_ ?_
  · exact .refl ..
  · intro s1 v2
    refine .getD ?_ ?_
    · exact .refl ..
    · refine .orStep ?_ (within_winClose ..) ?_
      · exact .refl ..
      · exact .refl ..

theorem within_applyRing (s : State) (g : RingRange) (r : Nat) : Within 2 s (s.applyRing g r) := by
  unfold State.applyRing
  refine .step ?_ (within_setReg ..)
  exact .refl ..

theorem within_applyRings (s : State) (bs : List Byte) : Within 66 s (s.applyRings bs) := by
  unfold State.applyRings
  extract_lets +onlyGivenNames x1
  clear_value x1
  extract_lets +onlyGivenNames x2
  have h3 : Within 66 s x2 := by
    subst x2
    refine .step ?_ (within_resetRegs ..)
    exact .refl ..
  clear_value x2
  extract_lets +onlyGivenNames x4
  have h5 : Within 66 s x4 := by
    subst x4
    refine .step ?_ (within_hmod ..)
    assumption
  clear_value x4
  extract_lets +onlyGivenNames x6
  have h7 : Within 66 s x6 := by
    subst x6
    refine .foldl ?_ ?_
    · assumption
    · intro s8 v9
      refine .foldl ?_ ?_
      · exact .refl ..
      · intro s10 v11
        refine .step ?_ (within_applyRing ..)
        exact .refl ..
  clear_value x6
  refine .foldl ?_ ?_
  · assumption
  · intro s12 v13
    refine .step ?_ (within_applyBindings ..)
    exact .refl ..

theorem within_applyLayers (s : State) (old : State) : Within 67108864 s (s.applyLayers old) := by
  unfold State.applyLayers
  refine .foldl ?_ ?_
  · exact .refl ..
  · intro s1 v2
    split
    · rename_i v3 v4 v5 h6
      refine .ite ?_ ?_
      · exact .refl ..
      · refine .upd s1 67108864 ?_
        exact .refl ..
    · rename_i v7 h8
      refine .upd s1 67108864 ?_
      exact .refl ..

theorem within_applyPools (s : State) (p : RoutePlan) : Within 2 s (s.applyPools p) := by
  unfold State.applyPools
  refine .foldl ?_ ?_
  · exact .refl ..
  · intro s1 v2
    refine .step ?_ (within_set ..)
    exact .refl ..

theorem within_applyPlans (s : State) (old : State) : Within 67108866 s (s.applyPlans old) := by
  unfold State.applyPlans
  refine .ite ?_ ?_
  · exact .refl ..
  · extract_lets +onlyGivenNames x1
    have h2 : Within 67108866 s x1 := by
      subst x1
      refine .step ?_ (within_applyLayers ..)
      exact .refl ..
    clear_value x1
    refine .foldl ?_ ?_
    · refine .upd x1 67108864 ?_
      assumption
    · intro s3 v4
      refine .step ?_ (within_applyPools ..)
      exact .refl ..

theorem within_clearMarks (s : State) : Within 2 s s.clearMarks := by
  unfold State.clearMarks
  refine .step ?_ (within_resetRegs ..)
  exact .refl ..

theorem within_applyPorts (s : State) (old : State) : Within 8388802 s (s.applyPorts old) := by
  unfold State.applyPorts
  extract_lets +onlyGivenNames x1
  clear_value x1
  extract_lets +onlyGivenNames x2
  clear_value x2
  refine .foldl ?_ ?_
  · exact .refl ..
  · intro s3 v4
    refine .ite ?_ ?_
    · refine .ite ?_ ?_
      · exact .refl ..
      · refine .step ?_ (within_lnkEnter ..)
        refine .step ?_ (within_pmod ..)
        exact .refl ..
    · refine .ite ?_ ?_
      · refine .step ?_ (within_pmod ..)
        refine .step ?_ (within_startFast ..)
        exact .refl ..
      · exact .refl ..

theorem within_applyPower (s : State) : Within 1073741826 s s.applyPower := by
  unfold State.applyPower
  extract_lets +onlyGivenNames x1
  clear_value x1
  refine .step ?_ (within_pwmod ..)
  refine .step ?_ (within_set ..)
  exact .refl ..

theorem within_applyFull (s : State) (bs : List Byte) (area : Nat) : Within 3757690094 s (s.applyFull bs area) := by
  unfold State.applyFull
  extract_lets +onlyGivenNames x1
  clear_value x1
  extract_lets +onlyGivenNames x2
  have h3 : Within 3757690094 s x2 := by
    subst x2
    exact .refl ..
  clear_value x2
  extract_lets +onlyGivenNames x4
  have h5 : Within 3757690094 s x4 := by
    subst x4
    refine .step ?_ (within_applyTier ..)
    refine .step ?_ (within_closeWindows ..)
    exact .refl ..
  clear_value x4
  extract_lets +onlyGivenNames x6
  have h7 : Within 3757690094 s x6 := by
    subst x6
    refine .step ?_ (within_activate ..)
    assumption
  clear_value x6
  extract_lets +onlyGivenNames x8
  have h9 : Within 3757690094 s x8 := by
    subst x8
    refine .upd x6 54018080 ?_
    assumption
  clear_value x8
  extract_lets +onlyGivenNames x10
  have h11 : Within 3757690094 s x10 := by
    subst x10
    refine .step ?_ (within_applyRings ..)
    refine .step ?_ (within_set ..)
    assumption
  clear_value x10
  extract_lets +onlyGivenNames x12
  have h13 : Within 3757690094 s x12 := by
    subst x12
    refine .step ?_ (within_applyPlans ..)
    refine .step ?_ (within_applyAllShapes ..)
    refine .step ?_ (within_clearMarks ..)
    assumption
  clear_value x12
  extract_lets +onlyGivenNames x14
  clear_value x14
  extract_lets +onlyGivenNames x15
  have h16 : Within 3757690094 s x15 := by
    subst x15
    refine .upd x12 134217728 ?_
    assumption
  clear_value x15
  extract_lets +onlyGivenNames x17
  have h18 : Within 3757690094 s x17 := by
    subst x17
    refine .step ?_ (within_applyPorts ..)
    refine .step ?_ (within_applyPower ..)
    refine .step ?_ (within_applyCalendar ..)
    assumption
  clear_value x17
  refine .step ?_ (within_beginOrder ..)
  refine .step ?_ (within_capChange ..)
  refine .step ?_ (within_markDiff ..)
  refine .step ?_ (within_joinAtLoad ..)
  assumption

theorem within_applyPartial (s : State) (bs : List Byte) (types : List Nat) (area : Nat) : Within 470830094 s (s.applyPartial bs types area) := by
  unfold State.applyPartial
  extract_lets +onlyGivenNames x1
  have h2 : Within 470830094 s x1 := by
    subst x1
    exact .refl ..
  clear_value x1
  extract_lets +onlyGivenNames x3
  clear_value x3
  extract_lets +onlyGivenNames x4
  have h5 : Within 470830094 s x4 := by
    subst x4
    refine .step ?_ (within_activate ..)
    exact .refl ..
  clear_value x4
  extract_lets +onlyGivenNames x6
  have h7 : Within 470830094 s x6 := by
    subst x6
    refine .ite ?_ ?_
    · refine .upd x4 16384 ?_
      assumption
    · assumption
  clear_value x6
  extract_lets +onlyGivenNames x8
  have h9 : Within 470830094 s x8 := by
    subst x8
    refine .ite ?_ ?_
    · refine .upd x6 1048576 ?_
      assumption
    · assumption
  clear_value x8
  extract_lets +onlyGivenNames x10
  have h11 : Within 470830094 s x10 := by
    subst x10
    refine .ite ?_ ?_
    · refine .step ?_ (within_applyAllShapes ..)
      assumption
    · assumption
  clear_value x10
  extract_lets +onlyGivenNames x12
  have h13 : Within 470830094 s x12 := by
    subst x12
    refine .ite ?_ ?_
    · refine .step ?_ (within_applyPlans ..)
      assumption
    · assumption
  clear_value x12
  extract_lets +onlyGivenNames x14
  clear_value x14
  extract_lets +onlyGivenNames x15
  have h16 : Within 470830094 s x15 := by
    subst x15
    refine .ite ?_ ?_
    · refine .upd x12 134217728 ?_
      assumption
    · assumption
  clear_value x15
  refine .step ?_ (within_capChange ..)
  refine .step ?_ (within_markDiff ..)
  assumption

end Sys2Proof.Machine
end

