-- ==== Sys2Proof/Laws/Within8.lean ====
section
/-! SUPPORT. What the operations of Loader, Power, Reset, Boundary, RegRead may change (see Laws/Within.lean). -/

set_option Elab.async false

namespace Sys2Proof.Machine

theorem within_toPhase (s : State) (p : Nat) : Within 2 s (s.toPhase p) := by
  unfold State.toPhase
  refine .step ?_ (within_set ..)
  exact .refl ..

theorem within_hrnEnd (s : State) (e : LoadErr) (stopped : Nat) : Within 536871106 s (s.hrnEnd e stopped) := by
  unfold State.hrnEnd
  split
  · rename_i v1 h2
    exact .refl ..
  · rename_i v3 v4 h5
    extract_lets +onlyGivenNames x6
    have h7 : Within 536871106 s x6 := by
      subst x6
      refine .step ?_ (within_set ..)
      refine .step ?_ (within_set ..)
      refine .step ?_ (within_set ..)
      exact .refl ..
    clear_value x6
    extract_lets +onlyGivenNames x8
    have h9 : Within 536871106 s x8 := by
      subst x8
      refine .step ?_ (within_toPhase ..)
      refine .step ?_ (within_set ..)
      refine .step ?_ (within_setFlag ..)
      assumption
    clear_value x8
    extract_lets +onlyGivenNames x10
    have h11 : Within 536871106 s x10 := by
      subst x10
      refine .step ?_ (within_set ..)
      refine .step ?_ (within_setFlag ..)
      refine .step ?_ (within_set ..)
      assumption
    clear_value x10
    extract_lets +onlyGivenNames x12
    have h13 : Within 536871106 s x12 := by
      subst x12
      refine .step ?_ (within_hmod ..)
      assumption
    clear_value x12
    refine .step ?_ (within_raise ..)
    refine .upd x12 536870912 ?_
    assumption

theorem within_hrnOk (s : State) : Within 536871106 s s.hrnOk := by
  unfold State.hrnOk
  refine .step ?_ (within_hrnEnd ..)
  exact .refl ..

theorem within_herdTry (s : State) : Within 538968258 s s.herdTry := by
  unfold State.herdTry
  extract_lets +onlyGivenNames x1
  clear_value x1
  refine .ite ?_ ?_
  · exact .refl ..
  · extract_lets +onlyGivenNames x2
    clear_value x2
    extract_lets +onlyGivenNames x3
    clear_value x3
    extract_lets +onlyGivenNames x4
    have h5 : Within 538968258 s x4 := by
      subst x4
      refine .step ?_ (within_set ..)
      exact .refl ..
    clear_value x4
    extract_lets +onlyGivenNames x6
    have h7 : Within 538968258 s x6 := by
      subst x6
      refine .upd x4 2097152 ?_
      assumption
    clear_value x6
    refine .step ?_ (within_hrnOk ..)
    refine .step ?_ (within_capChange ..)
    assumption

theorem within_orderDone (s : State) : Within 1612710082 s s.orderDone := by
  unfold State.orderDone
  extract_lets +onlyGivenNames x1
  clear_value x1
  extract_lets +onlyGivenNames x2
  clear_value x2
  extract_lets +onlyGivenNames x3
  have h4 : Within 1612710082 s x3 := by
    subst x3
    refine .step ?_ (within_pwmod ..)
    exact .refl ..
  clear_value x3
  refine .ite ?_ ?_
  · refine .step ?_ (within_powerEvent ..)
    assumption
  · refine .ite ?_ ?_
    · refine .step ?_ (within_herdTry ..)
      refine .step ?_ (within_toPhase ..)
      assumption
    · assumption

theorem within_orderCheck (s : State) : Within 1612714178 s s.orderCheck := by
  unfold State.orderCheck
  refine .ite ?_ ?_
  · exact .refl ..
  · extract_lets +onlyGivenNames x1
    have h2 : Within 1612714178 s x1 := by
      subst x1
      refine .ite ?_ ?_
      · refine .upd s 4096 ?_
        exact .refl ..
      · exact .refl ..
    clear_value x1
    refine .ite ?_ ?_
    · refine .step ?_ (within_orderDone ..)
      assumption
    · assumption

theorem within_ldmod (s : State) (f : LoadAct → LoadAct) : Within 536870912 s (s.ldmod f) := by
  unfold State.ldmod
  refine .upd s 536870912 ?_
  exact .refl ..

theorem within_loadBoundary (s : State) : Within 536870912 s s.loadBoundary := by
  unfold State.loadBoundary
  split
  · rename_i v1 v2 h3
    refine .ite ?_ ?_
    · refine .step ?_ (within_ldmod ..)
      exact .refl ..
    · exact .refl ..
  · rename_i v4 h5
    exact .refl ..

theorem within_resolveOne (s : State) (j : Nat) : Within 227573970 s (s.resolveOne j) := by
  unfold State.resolveOne
  split
  · rename_i v1 h2
    exact .refl ..
  · rename_i v3 v4 h5
    refine .ite ?_ ?_
    · refine .step ?_ (within_settleRing ..)
      refine .step ?_ (within_jmod ..)
      exact .refl ..
    · refine .step ?_ (within_failOne ..)
      exact .refl ..

theorem within_resolveAll (s : State) : Within 227573970 s s.resolveAll := by
  unfold State.resolveAll
  refine .foldl ?_ ?_
  · exact .refl ..
  · intro s1 v2
    refine .step ?_ (within_resolveOne ..)
    exact .refl ..

theorem within_afterFail (s : State) (l : LoadAct) : Within 227586258 s (s.afterFail l) := by
  unfold State.afterFail
  split
  · rename_i v1 h2
    refine .ite ?_ ?_
    · refine .upd s 4096 ?_
      exact .refl ..
    · refine .ite ?_ ?_
      · refine .upd s 8192 ?_
        exact .refl ..
      · exact .refl ..
  · rename_i v3 h4
    refine .step ?_ (within_resolveAll ..)
    exact .refl ..
  · rename_i v5 h6
    exact .refl ..

theorem within_beginAct (s : State) (l : LoadAct) : Within 536870914 s (s.beginAct l) := by
  unfold State.beginAct
  extract_lets +onlyGivenNames x1
  have h2 : Within 536870914 s x1 := by
    subst x1
    refine .step ?_ (within_setFlag ..)
    exact .refl ..
  clear_value x1
  refine .upd x1 536870912 ?_
  assumption

theorem within_stageMore (s : State) : Within 536870976 s s.stageMore := by
  unfold State.stageMore
  split
  · rename_i v1 v2 h3
    refine .ite ?_ ?_
    · extract_lets +onlyGivenNames x4
      clear_value x4
      split
      · rename_i v5 v6 h7
        have h8 : Within 536870976 s v6 := by
          refine (.of_some (b := s) h7 ?_)
          refine .orStep ?_ (within_issueRead ..) ?_
          · exact .refl ..
          · exact .refl ..
        refine .step ?_ (within_ldmod ..)
        assumption
      · rename_i v9 h10
        exact .refl ..
    · exact .refl ..
  · rename_i v11 h12
    exact .refl ..

theorem within_stageLoad (s : State) (l : LoadAct) : Within 536870990 s (s.stageLoad l) := by
  unfold State.stageLoad
  refine .ite ?_ ?_
  · refine .step ?_ (within_toPhase ..)
    exact .refl ..
  · refine .ite ?_ ?_
    · refine .step ?_ (within_stageMore ..)
      refine .step ?_ (within_toPhase ..)
      exact .refl ..
    · refine .step ?_ (within_toPhase ..)
      refine .step ?_ (within_copyArea ..)
      exact .refl ..

theorem within_startLoad (s : State) (l : LoadAct) : Within 764457182 s (s.startLoad l) := by
  unfold State.startLoad
  extract_lets +onlyGivenNames x1
  have h2 : Within 764457182 s x1 := by
    subst x1
    refine .step ?_ (within_toPhase ..)
    refine .step ?_ (within_beginAct ..)
    exact .refl ..
  clear_value x1
  split
  · rename_i v3 v4 h5
    refine .step ?_ (within_afterFail ..)
    refine .step ?_ (within_hrnEnd ..)
    assumption
  · rename_i v6 h7
    refine .step ?_ (within_stageLoad ..)
    assumption

theorem within_coldLoad (s : State) (k : Nat) (alt : Option Nat) : Within 764457182 s (s.coldLoad k alt) := by
  unfold State.coldLoad
  refine .step ?_ (within_startLoad ..)
  exact .refl ..

theorem within_endAtOnce (s : State) (kind : Nat) (c : LoadCode) : Within 536871106 s (s.endAtOnce kind c) := by
  unfold State.endAtOnce
  refine .step ?_ (within_hrnEnd ..)
  refine .step ?_ (within_beginAct ..)
  exact .refl ..

theorem within_setSlot (s : State) (k : Nat) (valid : Bool) (auto_ : Bool) (gen : Nat) : Within 2 s (s.setSlot k valid auto_ gen) := by
  unfold State.setSlot
  refine .ite ?_ ?_
  · refine .step ?_ (within_set ..)
    refine .step ?_ (within_setFlag ..)
    refine .step ?_ (within_setFlag ..)
    exact .refl ..
  · refine .step ?_ (within_set ..)
    refine .step ?_ (within_setFlag ..)
    refine .step ?_ (within_setFlag ..)
    exact .refl ..

theorem within_eraseAct (s : State) (slot : Nat) : Within 536871118 s (s.eraseAct slot) := by
  unfold State.eraseAct
  refine .ite ?_ ?_
  · refine .step ?_ (within_endAtOnce ..)
    exact .refl ..
  · refine .ite ?_ ?_
    · refine .step ?_ (within_endAtOnce ..)
      exact .refl ..
    · refine .step ?_ (within_endAtOnce ..)
      refine .step ?_ (within_capChange ..)
      refine .step ?_ (within_setSlot ..)
      refine .step ?_ (within_clearArea ..)
      exact .refl ..

theorem within_loadFail (s : State) (e : LoadErr) (stopped : Nat) : Within 764457182 s (s.loadFail e stopped) := by
  unfold State.loadFail
  split
  · rename_i v1 h2
    exact .refl ..
  · rename_i v3 v4 h5
    extract_lets +onlyGivenNames x6
    have h7 : Within 764457182 s x6 := by
      subst x6
      refine .step ?_ (within_afterFail ..)
      refine .step ?_ (within_hrnEnd ..)
      exact .refl ..
    clear_value x6
    split
    · rename_i v8 v9 v10 h11 h12
      refine .step ?_ (within_coldLoad ..)
      assumption
    · rename_i v13 v14 h15
      assumption

theorem within_softLoad (s : State) (kind : Nat) (source : Nat) (slot : Nat) : Within 764457182 s (s.softLoad kind source slot) := by
  unfold State.softLoad
  refine .step ?_ (within_startLoad ..)
  exact .refl ..

theorem within_storeAct (s : State) (source : Nat) (slot : Nat) : Within 764457182 s (s.storeAct source slot) := by
  unfold State.storeAct
  refine .ite ?_ ?_
  · refine .step ?_ (within_endAtOnce ..)
    exact .refl ..
  · refine .ite ?_ ?_
    · refine .step ?_ (within_endAtOnce ..)
      exact .refl ..
    · refine .ite ?_ ?_
      · refine .step ?_ (within_endAtOnce ..)
        exact .refl ..
      · refine .step ?_ (within_softLoad ..)
        exact .refl ..

theorem within_startAction (s : State) (act : Nat) (source : Nat) (slot : Nat) : Within 766554334 s (s.startAction act source slot) := by
  unfold State.startAction
  split
  · rename_i v1
    refine .ite ?_ ?_
    · refine .step ?_ (within_endAtOnce ..)
      exact .refl ..
    · refine .ite ?_ ?_
      · refine .step ?_ (within_endAtOnce ..)
        exact .refl ..
      · refine .step ?_ (within_softLoad ..)
        refine .upd s 4096 ?_
        exact .refl ..
  · rename_i v2
    refine .ite ?_ ?_
    · refine .step ?_ (within_endAtOnce ..)
      exact .refl ..
    · refine .step ?_ (within_softLoad ..)
      refine .upd s 8192 ?_
      exact .refl ..
  · rename_i v3
    refine .step ?_ (within_storeAct ..)
    exact .refl ..
  · rename_i v4
    refine .ite ?_ ?_
    · refine .step ?_ (within_endAtOnce ..)
      exact .refl ..
    · refine .step ?_ (within_herdTry ..)
      refine .step ?_ (within_toPhase ..)
      refine .step ?_ (within_beginAct ..)
      exact .refl ..
  · rename_i v5 h6 h7 h8 h9
    refine .step ?_ (within_eraseAct ..)
    exact .refl ..

theorem within_hrnWrite (s : State) (v : Word) : Within 766554334 s (s.hrnWrite v).fst := by
  unfold State.hrnWrite
  extract_lets +onlyGivenNames x1
  clear_value x1
  extract_lets +onlyGivenNames x2
  have h3 : Within 766554334 s x2 := by
    subst x2
    refine .step ?_ (within_set ..)
    refine .step ?_ (within_set ..)
    exact .refl ..
  clear_value x2
  refine .ite_on ?_ ?_
  · assumption
  · refine .ite_on ?_ ?_
    · assumption
    · refine .ite_on ?_ ?_
      · refine .ite_on ?_ ?_
        · refine .mk_fst ?_
          refine .step ?_ (within_loadFail ..)
          assumption
        · assumption
      · refine .ite_on ?_ ?_
        · assumption
        · refine .mk_fst ?_
          refine .step ?_ (within_startAction ..)
          assumption

theorem within_stageData (s : State) (off : Nat) (n : Nat) (bs : List Byte) : Within 536870982 s (s.stageData off n bs) := by
  unfold State.stageData
  split
  · rename_i v1 v2 h3
    refine .ite ?_ ?_
    · exact .refl ..
    · extract_lets +onlyGivenNames x4
      have h5 : Within 536870982 s x4 := by
        subst x4
        refine .step ?_ (within_ldmod ..)
        refine .step ?_ (within_wbs ..)
        exact .refl ..
      clear_value x4
      refine .ite ?_ ?_
      · refine .step ?_ (within_toPhase ..)
        assumption
      · refine .step ?_ (within_stageMore ..)
        assumption
  · rename_i v6 h7
    exact .refl ..

theorem within_stageFailed (s : State) (off : Nat) (n : Nat) : Within 764457182 s (s.stageFailed off n) := by
  unfold State.stageFailed
  split
  · rename_i v1 v2 h3
    refine .ite ?_ ?_
    · exact .refl ..
    · refine .step ?_ (within_loadFail ..)
      exact .refl ..
  · rename_i v4 h5
    exact .refl ..

theorem within_startFlash (s : State) : Within 2 s s.startFlash := by
  unfold State.startFlash
  refine .foldl ?_ ?_
  · exact .refl ..
  · intro s1 v2
    refine .step ?_ (within_set ..)
    refine .step ?_ (within_setFlag ..)
    refine .step ?_ (within_setFlag ..)
    exact .refl ..

theorem within_unitStarts (s : State) (cls : Nat) (idx : Nat) : Within 1073741824 s (s.unitStarts cls idx) := by
  unfold State.unitStarts
  refine .step ?_ (within_pwmod ..)
  exact .refl ..

theorem within_startUnit (s : State) (e : StartEntry) : Within 1082130626 s (s.startUnit e) := by
  unfold State.startUnit
  refine .ite ?_ ?_
  · exact .refl ..
  · refine .ite ?_ ?_
    · extract_lets +onlyGivenNames x1
      have h2 : Within 1082130626 s x1 := by
        subst x1
        refine .step ?_ (within_unitStarts ..)
        exact .refl ..
      clear_value x1
      refine .ite ?_ ?_
      · refine .step ?_ (within_set ..)
        refine .step ?_ (within_pmod ..)
        assumption
      · refine .step ?_ (within_startPort ..)
        assumption
    · refine .ite ?_ ?_
      · refine .step ?_ (within_pwmod ..)
        exact .refl ..
      · exact .refl ..

theorem within_storeImage (s : State) (l : LoadAct) : Within 536871118 s (s.storeImage l) := by
  unfold State.storeImage
  extract_lets +onlyGivenNames x1
  clear_value x1
  extract_lets +onlyGivenNames x2
  clear_value x2
  refine .step ?_ (within_hrnOk ..)
  refine .step ?_ (within_capChange ..)
  refine .step ?_ (within_setSlot ..)
  refine .step ?_ (within_copyArea ..)
  exact .refl ..

theorem within_writeCombined (s : State) (bs : List Byte) : Within 12 s (s.writeCombined bs) := by
  unfold State.writeCombined
  extract_lets +onlyGivenNames x1
  clear_value x1
  refine .step ?_ (within_wbs ..)
  refine .step ?_ (within_clearArea ..)
  exact .refl ..

theorem within_execAutoload (s : State) : Within 1838199006 s (nextOr s (execAutoload s)) := by
  unfold execAutoload
  refine .ite_on ?_ ?_
  · refine .mk_next ?_
    exact .refl ..
  · extract_lets +onlyGivenNames x1
    have h2 : Within 1838199006 s x1 := by
      subst x1
      refine .step ?_ (within_startFlash ..)
      refine .step ?_ (within_pwmod ..)
      exact .refl ..
    clear_value x1
    refine .ite_on ?_ ?_
    · refine .mk_next ?_
      assumption
    · split
      · rename_i v3 v4 v5 h6
        refine .mk_next ?_
        refine .step ?_ (within_coldLoad ..)
        assumption
      · rename_i v7 h8
        refine .mk_next ?_
        assumption

theorem within_execHarnessApply (s : State) : Within 4294573310 s (nextOr s (execHarnessApply s)) := by
  unfold execHarnessApply
  split
  · rename_i v1 h2
    refine .mk_next ?_
    exact .refl ..
  · rename_i v3 v4 h5
    refine .ite_on ?_ ?_
    · refine .mk_next ?_
      exact .refl ..
    · extract_lets +onlyGivenNames x6
      clear_value x6
      extract_lets +onlyGivenNames x7
      clear_value x7
      refine .ite_on ?_ ?_
      · refine .ite_on ?_ ?_
        · refine .mk_next ?_
          refine .step ?_ (within_ldmod ..)
          exact .refl ..
        · refine .mk_next ?_
          refine .step ?_ (within_hrnOk ..)
          extract_lets +onlyGivenNames x8
          have h9 : Within 4294573310 s x8 := by
            subst x8
            refine .step ?_ (within_applyPartial ..)
            refine .step ?_ (within_toPhase ..)
            exact .refl ..
          clear_value x8
          refine .upd x8 8192 ?_
          assumption
      · split
        · rename_i v10 v11 h12
          refine .mk_next ?_
          refine .step ?_ (within_loadFail ..)
          exact .refl ..
        · rename_i v13 h14
          extract_lets +onlyGivenNames x15
          have h16 : Within 4294573310 s x15 := by
            subst x15
            refine .step ?_ (within_toPhase ..)
            exact .refl ..
          clear_value x15
          refine .mk_next ?_
          refine .step ?_ (within_toPhase ..)
          refine .ite ?_ ?_
          · refine .step ?_ (within_applyAgain ..)
            assumption
          · refine .step ?_ (within_applyFull ..)
            assumption

theorem within_execPrldTimeout (s : State) : Within 764457182 s (nextOr s (execPrldTimeout s)) := by
  unfold execPrldTimeout
  split
  · rename_i v1 v2 h3
    refine .ite_on ?_ ?_
    · refine .mk_next ?_
      refine .step ?_ (within_loadFail ..)
      exact .refl ..
    · refine .mk_next ?_
      exact .refl ..
  · rename_i v4 h5
    refine .mk_next ?_
    exact .refl ..

theorem within_execStartOrder (s : State) : Within 1621102786 s (nextOr s (execStartOrder s)) := by
  unfold execStartOrder
  extract_lets +onlyGivenNames x1
  clear_value x1
  split
  · rename_i v2 h3
    refine .mk_next ?_
    exact .refl ..
  · rename_i v4 v5 h6
    refine .ite_on ?_ ?_
    · refine .mk_next ?_
      exact .refl ..
    · refine .mk_next ?_
      refine .step ?_ (within_orderCheck ..)
      refine .step ?_ (within_pwmod ..)
      refine .step ?_ (within_startUnit ..)
      refine .step ?_ (within_set ..)
      exact .refl ..

theorem within_execUnitStarted (cls : Nat) (idx : Nat) (s : State) : Within 1621102786 s (nextOr s (execUnitStarted cls idx s)) := by
  unfold execUnitStarted
  refine .ite_on ?_ ?_
  · refine .mk_next ?_
    exact .refl ..
  · extract_lets +onlyGivenNames x1
    have h2 : Within 1621102786 s x1 := by
      subst x1
      refine .step ?_ (within_unitStarts ..)
      exact .refl ..
    clear_value x1
    extract_lets +onlyGivenNames x3
    have h4 : Within 1621102786 s x3 := by
      subst x3
      refine .ite ?_ ?_
      · refine .ite ?_ ?_
        · refine .step ?_ (within_setFlag ..)
          assumption
        · assumption
      · refine .ite ?_ ?_
        · refine .step ?_ (within_leaveLow ..)
          exact .refl ..
        · exact .refl ..
    clear_value x3
    refine .mk_next ?_
    refine .step ?_ (within_orderCheck ..)
    assumption

theorem within_execVerifying (readable : Bool) (s : State) : Within 764457182 s (nextOr s (execVerifying readable s)) := by
  unfold execVerifying
  split
  · rename_i v1 h2
    refine .mk_next ?_
    exact .refl ..
  · rename_i v3 v4 h5
    refine .ite_on ?_ ?_
    · refine .mk_next ?_
      exact .refl ..
    · refine .ite_on ?_ ?_
      · refine .mk_next ?_
        refine .step ?_ (within_loadFail ..)
        exact .refl ..
      · extract_lets +onlyGivenNames x6
        clear_value x6
        extract_lets +onlyGivenNames x7
        clear_value x7
        split
        · rename_i v8 v9 h10
          refine .mk_next ?_
          refine .step ?_ (within_loadFail ..)
          exact .refl ..
        · rename_i v11 h12
          refine .ite_on ?_ ?_
          · refine .mk_next ?_
            refine .step ?_ (within_storeImage ..)
            exact .refl ..
          · refine .ite_on ?_ ?_
            · refine .mk_next ?_
              refine .step ?_ (within_toPhase ..)
              refine .step ?_ (within_writeCombined ..)
              refine .step ?_ (within_ldmod ..)
              exact .refl ..
            · refine .mk_next ?_
              refine .step ?_ (within_toPhase ..)
              exact .refl ..

theorem within_revReadings (s : State) : Within 2 s s.revReadings := by
  unfold State.revReadings
  extract_lets +onlyGivenNames x1
  clear_value x1
  refine .ite ?_ ?_
  · exact .refl ..
  · extract_lets +onlyGivenNames x2
    have h3 : Within 2 s x2 := by
      subst x2
      refine .foldl ?_ ?_
      · exact .refl ..
      · intro s4 v5
        refine .step ?_ (within_set ..)
        refine .step ?_ (within_set ..)
        exact .refl ..
    clear_value x2
    refine .step ?_ (within_set ..)
    assumption

theorem within_powerBoundary (s : State) : Within 1073741826 s s.powerBoundary := by
  unfold State.powerBoundary
  extract_lets +onlyGivenNames x1
  clear_value x1
  extract_lets +onlyGivenNames x2
  have h3 : Within 1073741826 s x2 := by
    subst x2
    refine .step ?_ (within_revReadings ..)
    exact .refl ..
  clear_value x2
  extract_lets +onlyGivenNames x4
  clear_value x4
  extract_lets +onlyGivenNames x5
  have h6 : Within 1073741826 s x5 := by
    subst x5
    refine .step ?_ (within_count ..)
    assumption
  clear_value x5
  refine .step ?_ (within_pwmod ..)
  assumption

theorem within_classMod (s : State) (k : Nat) (f : ThrotClass → ThrotClass) : Within 1073741824 s (s.classMod k f) := by
  unfold State.classMod
  refine .step ?_ (within_pwmod ..)
  exact .refl ..

theorem within_raiseLevel (s : State) : Within 1073742018 s s.raiseLevel := by
  unfold State.raiseLevel
  split
  · rename_i v1 h2
    exact .refl ..
  · rename_i v3 v4 h5
    extract_lets +onlyGivenNames x6
    clear_value x6
    extract_lets +onlyGivenNames x7
    have h8 : Within 1073742018 s x7 := by
      subst x7
      refine .step ?_ (within_classMod ..)
      exact .refl ..
    clear_value x7
    refine .ite ?_ ?_
    · refine .step ?_ (within_pwmod ..)
      refine .step ?_ (within_powerEvent ..)
      assumption
    · assumption

theorem within_lowerLevel (s : State) : Within 1073742018 s s.lowerLevel := by
  unfold State.lowerLevel
  split
  · rename_i v1 h2
    exact .refl ..
  · rename_i v3 v4 h5
    extract_lets +onlyGivenNames x6
    have h7 : Within 1073742018 s x6 := by
      subst x6
      refine .step ?_ (within_classMod ..)
      exact .refl ..
    clear_value x6
    refine .ite ?_ ?_
    · refine .step ?_ (within_pwmod ..)
      refine .step ?_ (within_powerEvent ..)
      assumption
    · assumption

theorem within_capLevels (s : State) : Within 1073742018 s s.capLevels := by
  unfold State.capLevels
  refine .ite ?_ ?_
  · exact .refl ..
  · extract_lets +onlyGivenNames x1
    clear_value x1
    extract_lets +onlyGivenNames x2
    clear_value x2
    extract_lets +onlyGivenNames x3
    clear_value x3
    refine .ite ?_ ?_
    · refine .step ?_ (within_raiseLevel ..)
      exact .refl ..
    · refine .ite ?_ ?_
      · refine .step ?_ (within_lowerLevel ..)
        exact .refl ..
      · exact .refl ..

theorem within_countLevels (s : State) : Within 1073741826 s s.countLevels := by
  unfold State.countLevels
  extract_lets +onlyGivenNames x1
  have h2 : Within 1073741826 s x1 := by
    subst x1
    refine .ite ?_ ?_
    · refine .step ?_ (within_count ..)
      exact .refl ..
    · exact .refl ..
  clear_value x1
  extract_lets +onlyGivenNames x3
  have h4 : Within 1073741826 s x3 := by
    subst x3
    refine .ite ?_ ?_
    · refine .step ?_ (within_count ..)
      assumption
    · assumption
  clear_value x3
  refine .step ?_ (within_pwmod ..)
  assumption

theorem within_parkWrite (s : State) (on : Bool) : Within 1073741826 s (s.parkWrite on) := by
  unfold State.parkWrite
  extract_lets +onlyGivenNames x1
  have h2 : Within 1073741826 s x1 := by
    subst x1
    refine .step ?_ (within_setFlag ..)
    exact .refl ..
  clear_value x1
  split
  · rename_i v3 v4 h5
    refine .step ?_ (within_pwmod ..)
    assumption
  · rename_i v6 v7 v8 h9
    refine .step ?_ (within_pwmod ..)
    assumption
  · rename_i v10 v11 h12
    refine .step ?_ (within_pwmod ..)
    assumption
  · rename_i v13 v14 h15
    refine .step ?_ (within_wake ..)
    assumption
  · rename_i v16 v17 v18 h19 h20 h21 h22
    assumption

theorem within_reportTherm (s : State) : Within 2 s s.reportTherm := by
  unfold State.reportTherm
  extract_lets +onlyGivenNames x1
  have h2 : Within 2 s x1 := by
    subst x1
    refine .step ?_ (within_set ..)
    refine .step ?_ (within_set ..)
    refine .step ?_ (within_set ..)
    exact .refl ..
  clear_value x1
  extract_lets +onlyGivenNames x3
  have h4 : Within 2 s x3 := by
    subst x3
    refine .step ?_ (within_set ..)
    refine .step ?_ (within_set ..)
    refine .step ?_ (within_set ..)
    assumption
  clear_value x3
  refine .step ?_ (within_set ..)
  assumption

theorem within_sample (s : State) (x : Nat × Nat) : Within 1073741824 s (s.sample x) := by
  unfold State.sample
  refine .ite ?_ ?_
  · exact .refl ..
  · extract_lets +onlyGivenNames x1
    clear_value x1
    extract_lets +onlyGivenNames x2
    clear_value x2
    extract_lets +onlyGivenNames x3
    clear_value x3
    refine .step ?_ (within_pwmod ..)
    exact .refl ..

theorem within_takeReadings (s : State) (o : PowerObs) : Within 1073741826 s (s.takeReadings o) := by
  unfold State.takeReadings
  extract_lets +onlyGivenNames x1
  have h2 : Within 1073741826 s x1 := by
    subst x1
    refine .foldl ?_ ?_
    · exact .refl ..
    · intro s3 v4
      extract_lets +onlyGivenNames x5
      have h6 : Within 1073741826 s3 x5 := by
        subst x5
        refine .step ?_ (within_pwmod ..)
        exact .refl ..
      clear_value x5
      refine .step ?_ (within_set ..)
      assumption
  clear_value x1
  extract_lets +onlyGivenNames x7
  have h8 : Within 1073741826 s x7 := by
    subst x7
    refine .foldl ?_ ?_
    · assumption
    · intro s9 v10
      refine .step ?_ (within_sample ..)
      exact .refl ..
  clear_value x7
  extract_lets +onlyGivenNames x11
  clear_value x11
  extract_lets +onlyGivenNames x12
  have h13 : Within 1073741826 s x12 := by
    subst x12
    refine .step ?_ (within_pwmod ..)
    assumption
  clear_value x12
  extract_lets +onlyGivenNames x14
  have h15 : Within 1073741826 s x14 := by
    subst x14
    refine .step ?_ (within_set ..)
    assumption
  clear_value x14
  refine .step ?_ (within_set ..)
  assumption

theorem within_thermLevels (s : State) : Within 1073742018 s s.thermLevels := by
  unfold State.thermLevels
  extract_lets +onlyGivenNames x1
  clear_value x1
  extract_lets +onlyGivenNames x2
  clear_value x2
  extract_lets +onlyGivenNames x3
  have h4 : Within 1073742018 s x3 := by
    subst x3
    refine .step ?_ (within_pwmod ..)
    exact .refl ..
  clear_value x3
  refine .ite ?_ ?_
  · refine .step ?_ (within_powerEvent ..)
    assumption
  · assumption

theorem within_execParkEntry (s : State) : Within 1082130626 s (nextOr s (execParkEntry s)) := by
  unfold execParkEntry
  refine .ite_on ?_ ?_
  · refine .mk_next ?_
    exact .refl ..
  · extract_lets +onlyGivenNames x1
    have h2 : Within 1082130626 s x1 := by
      subst x1
      refine .step ?_ (within_pwmod ..)
      exact .refl ..
    clear_value x1
    extract_lets +onlyGivenNames x3
    have h4 : Within 1082130626 s x3 := by
      subst x3
      refine .foldl ?_ ?_
      · assumption
      · intro s5 v6
        refine .ite ?_ ?_
        · refine .step ?_ (within_pmod ..)
          exact .refl ..
        · exact .refl ..
    clear_value x3
    refine .mk_next ?_
    refine .step ?_ (within_powerEvent ..)
    assumption

theorem within_execParkExit (s : State) : Within 1621102786 s (nextOr s (execParkExit s)) := by
  unfold execParkExit
  refine .ite_on ?_ ?_
  · refine .mk_next ?_
    exact .refl ..
  · extract_lets +onlyGivenNames x1
    have h2 : Within 1621102786 s x1 := by
      subst x1
      refine .foldl ?_ ?_
      · exact .refl ..
      · intro s3 v4
        refine .step ?_ (within_pmod ..)
        exact .refl ..
    clear_value x1
    refine .mk_next ?_
    refine .step ?_ (within_orderCheck ..)
    refine .step ?_ (within_beginOrder ..)
    assumption

theorem within_execPowerCap (obs : PowerObs) (s : State) : Within 1073742018 s (nextOr s (execPowerCap obs s)) := by
  unfold execPowerCap
  refine .ite_on ?_ ?_
  · refine .mk_next ?_
    exact .refl ..
  · refine .mk_next ?_
    refine .step ?_ (within_thermLevels ..)
    refine .step ?_ (within_capLevels ..)
    refine .step ?_ (within_reportTherm ..)
    refine .step ?_ (within_takeReadings ..)
    refine .step ?_ (within_countLevels ..)
    exact .refl ..

theorem within_showRecord (s : State) : Within 2 s s.showRecord := by
  unfold State.showRecord
  extract_lets +onlyGivenNames x1
  have h2 : Within 2 s x1 := by
    subst x1
    refine .foldl ?_ ?_
    · exact .refl ..
    · intro s3 v4
      extract_lets +onlyGivenNames x5
      clear_value x5
      split
      · rename_i v6 h7
        refine .step ?_ (within_set ..)
        exact .refl ..
      · rename_i v8 h9
        refine .step ?_ (within_set ..)
        refine .step ?_ (within_set ..)
        exact .refl ..
      · rename_i v10 h11 h12
        exact .refl ..
  clear_value x1
  refine .foldl ?_ ?_
  · assumption
  · intro s13 v14
    refine .step ?_ (within_set ..)
    exact .refl ..

theorem within_cold (s : State) : Within 8589934590 s s.cold := by
  unfold State.cold
  refine .step ?_ (within_showRecord ..)
  refine .step ?_ (within_set ..)
  split
  · refine .step ?_ (within_set ..)
    refine .step ?_ (within_set ..)
    refine .step ?_ (within_set ..)
    refine .step ?_ (within_setReg ..)
    refine .step ?_ (within_setReg ..)
    exact Within.forms (fun p => by cases p <;> first | exact Or.inr rfl | exact Or.inl (by decide)) rfl
      (fun h => ⟨memFilter_wf _ h.1, regsFilter_wf _ h.2.1, nrises_filter _ h.2.2.1, rfl⟩)
  · refine .step ?_ (within_setReg ..)
    refine .step ?_ (within_setReg ..)
    exact Within.forms (fun p => by cases p <;> first | exact Or.inr rfl | exact Or.inl (by decide)) rfl
      (fun h => ⟨memFilter_wf _ h.1, regsFilter_wf _ h.2.1, nrises_filter _ h.2.2.1, rfl⟩)

theorem within_resumeOne (s : State) (j : Nat) (e : JEntry) : Within 227573970 s (s.resumeOne j e) := by
  unfold State.resumeOne
  extract_lets +onlyGivenNames x1
  subst x1
  split
  · rename_i v2 v3 h4
    refine .step ?_ (within_replayTile ..)
    exact .refl ..
  · rename_i v5 v6 h7
    refine .step ?_ (within_routeMod ..)
    dsimp -zeta only
    refine .step ?_ (within_jmod ..)
    exact .refl ..
  · rename_i v8 v9 h10
    extract_lets +onlyGivenNames x11
    have h12 : Within 227573970 s x11 := by
      subst x11
      dsimp -zeta only
      refine .step ?_ (within_jmod ..)
      exact .refl ..
    clear_value x11
    refine .upd x11 134217728 ?_
    assumption
  · rename_i v13 h14
    refine .step ?_ (within_jmod ..)
    dsimp -zeta only
    refine .step ?_ (within_jmod ..)
    exact .refl ..
  · rename_i v15 h16
    refine .step ?_ (within_jmod ..)
    dsimp -zeta only
    refine .step ?_ (within_jmod ..)
    exact .refl ..
  · rename_i v17 h18 h19 h20 h21 h22
    dsimp -zeta only
    refine .step ?_ (within_jmod ..)
    exact .refl ..

theorem within_resumeAll (s : State) : Within 227573970 s s.resumeAll := by
  unfold State.resumeAll
  refine .foldl ?_ ?_
  · exact .refl ..
  · intro s1 v2
    refine .step ?_ (within_resumeOne ..)
    exact .refl ..

theorem within_warmPort (s : State) (p : Nat) : Within 8388608 s (s.warmPort p) := by
  unfold State.warmPort
  extract_lets +onlyGivenNames x1
  clear_value x1
  extract_lets +onlyGivenNames x2
  clear_value x2
  refine .step ?_ (within_pmod ..)
  exact .refl ..

theorem within_warmDiscard (s : State) : Within 160202752 s s.warmDiscard := by
  unfold State.warmDiscard
  extract_lets +onlyGivenNames x1
  have h2 : Within 160202752 s x1 := by
    subst x1
    refine .foldl ?_ ?_
    · exact .refl ..
    · intro s3 v4
      refine .step ?_ (within_warmPort ..)
      exact .refl ..
  clear_value x1
  extract_lets +onlyGivenNames x5
  have h6 : Within 160202752 s x5 := by
    subst x5
    refine .step ?_ (within_nmod ..)
    assumption
  clear_value x5
  refine .upd x5 151814144 ?_
  assumption

theorem within_warmEvents (s : State) (was : List (Nat × Nat)) : Within 194 s (s.warmEvents was) := by
  unfold State.warmEvents
  refine .foldl ?_ ?_
  · exact .refl ..
  · intro s1 v2
    refine .ite ?_ ?_
    · exact .refl ..
    · extract_lets +onlyGivenNames x3
      have h4 : Within 194 s1 x3 := by
        subst x3
        refine .ite ?_ ?_
        · refine .step ?_ (within_set ..)
          exact .refl ..
        · exact .refl ..
      clear_value x3
      refine .step ?_ (within_linkEvent ..)
      assumption

theorem within_warmLoad (s : State) : Within 536879298 s s.warmLoad := by
  unfold State.warmLoad
  refine .ite ?_ ?_
  · extract_lets +onlyGivenNames x1
    have h2 : Within 536879298 s x1 := by
      subst x1
      refine .step ?_ (within_hrnEnd ..)
      exact .refl ..
    clear_value x1
    refine .upd x1 8192 ?_
    assumption
  · refine .upd s 8192 ?_
    exact .refl ..

theorem within_execPorstN (low : Bool) (straps : Nat) (s : State) : Within 8589934590 s (nextOr s (execPorstN low straps s)) := by
  unfold execPorstN
  refine .ite_on ?_ ?_
  · refine .ite_on ?_ ?_
    · refine .mk_next ?_
      exact .refl ..
    · refine .mk_next ?_
      refine .step ?_ (within_pwmod ..)
      refine .step ?_ (within_cold ..)
      exact .refl ..
  · refine .ite_on ?_ ?_
    · refine .mk_next ?_
      exact .refl ..
    · extract_lets +onlyGivenNames x1
      clear_value x1
      refine .mk_next ?_
      extract_lets +onlyGivenNames x2
      have h3 : Within 8589934590 s x2 := by
        subst x2
        refine .step ?_ (within_pwmod ..)
        exact .refl ..
      clear_value x2
      refine .upd x2 128 ?_
      assumption

theorem within_execResumption (s : State) : Within 1838199006 s (nextOr s (execResumption s)) := by
  unfold execResumption
  refine .ite_on ?_ ?_
  · refine .mk_next ?_
    exact .refl ..
  · extract_lets +onlyGivenNames x1
    have h2 : Within 1838199006 s x1 := by
      subst x1
      refine .step ?_ (within_pwmod ..)
      exact .refl ..
    clear_value x1
    refine .ite_on ?_ ?_
    · refine .mk_next ?_
      assumption
    · refine .ite_on ?_ ?_
      · refine .mk_next ?_
        extract_lets +onlyGivenNames x3
        have h4 : Within 1838199006 s x3 := by
          subst x3
          refine .step ?_ (within_pwmod ..)
          assumption
        clear_value x3
        refine .upd x3 4096 ?_
        assumption
      · extract_lets +onlyGivenNames x5
        clear_value x5
        extract_lets +onlyGivenNames x6
        have h7 : Within 1838199006 s x6 := by
          subst x6
          refine .step ?_ (within_beginRecovery ..)
          refine .step ?_ (within_resumeAll ..)
          refine .step ?_ (within_startFlash ..)
          assumption
        clear_value x6
        refine .mk_next ?_
        refine .step ?_ (within_startLoad ..)
        refine .step ?_ (within_recoveryEvent ..)
        assumption

theorem within_execWrstN (glitch : Bool) (s : State) : Within 1770827970 s (nextOr s (execWrstN glitch s)) := by
  unfold execWrstN
  refine .ite_on ?_ ?_
  · refine .mk_next ?_
    exact .refl ..
  · refine .ite_on ?_ ?_
    · refine .mk_next ?_
      refine .step ?_ (within_count ..)
      exact .refl ..
    · extract_lets +onlyGivenNames x1
      clear_value x1
      extract_lets +onlyGivenNames x2
      have h3 : Within 1770827970 s x2 := by
        subst x2
        refine .step ?_ (within_warmDiscard ..)
        refine .step ?_ (within_warmLoad ..)
        exact .refl ..
      clear_value x2
      extract_lets +onlyGivenNames x4
      have h5 : Within 1770827970 s x4 := by
        subst x4
        refine .step ?_ (within_warmEvents ..)
        refine .step ?_ (within_showRecord ..)
        refine .step ?_ (within_resetRegs ..)
        assumption
      clear_value x4
      extract_lets +onlyGivenNames x6
      have h7 : Within 1770827970 s x6 := by
        subst x6
        refine .step ?_ (within_set ..)
        refine .step ?_ (within_wrap ..)
        assumption
      clear_value x6
      extract_lets +onlyGivenNames x8
      have h9 : Within 1770827970 s x8 := by
        subst x8
        refine .step ?_ (within_set ..)
        refine .step ?_ (within_setFlag ..)
        assumption
      clear_value x8
      extract_lets +onlyGivenNames x10
      have h11 : Within 1770827970 s x10 := by
        subst x10
        refine .step ?_ (within_pwmod ..)
        assumption
      clear_value x10
      refine .mk_next ?_
      refine .step ?_ (within_capChange ..)
      refine .upd x10 4096 ?_
      assumption

theorem within_revBoundary (s : State) : Within 3772879342 s s.revBoundary := by
  unfold State.revBoundary
  extract_lets +onlyGivenNames x1
  have h2 : Within 3772879342 s x1 := by
    subst x1
    refine .step ?_ (within_powerBoundary ..)
    refine .step ?_ (within_wheelBoundary ..)
    exact .refl ..
  clear_value x1
  refine .ite ?_ ?_
  · assumption
  · refine .step ?_ (within_orderCheck ..)
    refine .step ?_ (within_joinAtBoundary ..)
    refine .step ?_ (within_loadBoundary ..)
    refine .foldl ?_ ?_
    · assumption
    · intro s3 v4
      refine .step ?_ (within_joinPort ..)
      exact .refl ..

theorem within_acquireMark (s : State) (off : Int) : Within 3772879342 s (s.acquireMark State.revBoundary off) := by
  unfold State.acquireMark
  extract_lets +onlyGivenNames x1
  clear_value x1
  extract_lets +onlyGivenNames x2
  clear_value x2
  extract_lets +onlyGivenNames x3
  clear_value x3
  extract_lets +onlyGivenNames x4
  have h5 : Within 3772879342 s x4 := by
    subst x4
    refine .step ?_ (within_wmod ..)
    exact .refl ..
  clear_value x4
  refine .ite ?_ ?_
  · assumption
  · refine .ite ?_ ?_
    · refine .step ?_ (within_holdPhase ..)
      assumption
    · refine .ite ?_ ?_
      · assumption
      · refine .ite ?_ ?_
        · extract_lets +onlyGivenNames x6
          have h7 : Within 3772879342 s x6 := by
            subst x6
            refine .step ?_ (within_count ..)
            assumption
          clear_value x6
          refine .step ?_ (within_holdPhase ..)
          refine .step ?_ (within_wmod ..)
          refine .step ?_ (within_revBoundary ..)
          assumption
        · refine .step ?_ (within_holdPhase ..)
          refine .step ?_ (within_setFlag ..)
          assumption

theorem within_wheelTick (s : State) : Within 3772879342 s (s.wheelTick State.revBoundary) := by
  unfold State.wheelTick
  extract_lets +onlyGivenNames x1
  have h2 : Within 3772879342 s x1 := by
    subst x1
    refine .step ?_ (within_wmod ..)
    exact .refl ..
  clear_value x1
  refine .ite ?_ ?_
  · assumption
  · extract_lets +onlyGivenNames x3
    clear_value x3
    extract_lets +onlyGivenNames x4
    clear_value x4
    extract_lets +onlyGivenNames x5
    clear_value x5
    refine .ite ?_ ?_
    · refine .step ?_ (within_set ..)
      assumption
    · refine .ite ?_ ?_
      · refine .step ?_ (within_revBoundary ..)
        assumption
      · refine .step ?_ (within_spokeStart ..)
        refine .step ?_ (within_set ..)
        refine .step ?_ (within_set ..)
        assumption

theorem within_idle (s : State) : Within 3772879342 s s.idle := by
  unfold State.idle
  refine .ite ?_ ?_
  · exact .refl ..
  · refine .step ?_ (within_wheelTick ..)
    exact .refl ..

theorem within_markEdge (s : State) (high : Nat) : Within 3772879342 s (s.markEdge State.revBoundary high) := by
  unfold State.markEdge
  refine .ite ?_ ?_
  · exact .refl ..
  · extract_lets +onlyGivenNames x1
    have h2 : Within 3772879342 s x1 := by
      subst x1
      refine .step ?_ (within_wmod ..)
      exact .refl ..
    clear_value x1
    refine .ite ?_ ?_
    · assumption
    · refine .ite ?_ ?_
      · refine .step ?_ (within_markFault ..)
        assumption
      · refine .ite ?_ ?_
        · refine .step ?_ (within_count ..)
          assumption
        · extract_lets +onlyGivenNames x3
          clear_value x3
          extract_lets +onlyGivenNames x4
          have h5 : Within 3772879342 s x4 := by
            subst x4
            refine .step ?_ (within_set ..)
            refine .step ?_ (within_set ..)
            assumption
          clear_value x4
          refine .ite ?_ ?_
          · refine .step ?_ (within_acceptMark ..)
            assumption
          · refine .ite ?_ ?_
            · refine .step ?_ (within_acquireMark ..)
              refine .step ?_ (within_acceptMark ..)
              refine .step ?_ (within_whlEnter ..)
              assumption
            · refine .ite ?_ ?_
              · refine .step ?_ (within_acquireMark ..)
                refine .step ?_ (within_acceptMark ..)
                assumption
              · refine .ite ?_ ?_
                · refine .step ?_ (within_holdoverMark ..)
                  assumption
                · refine .ite ?_ ?_
                  · refine .step ?_ (within_slewTo ..)
                    refine .step ?_ (within_acceptMark ..)
                    assumption
                  · refine .step ?_ (within_count ..)
                    assumption

theorem within_execPauseEnd (s : State) : Within 12582914 s (nextOr s (execPauseEnd s)) := by
  unfold execPauseEnd
  refine .ite_on ?_ ?_
  · refine .mk_next ?_
    exact .refl ..
  · extract_lets +onlyGivenNames x1
    clear_value x1
    extract_lets +onlyGivenNames x2
    have h3 : Within 12582914 s x2 := by
      subst x2
      refine .step ?_ (within_wmod ..)
      refine .step ?_ (within_setFlag ..)
      exact .refl ..
    clear_value x2
    split
    · rename_i v4 v5
      refine .ite_on ?_ ?_
      · refine .mk_next ?_
        refine .step ?_ (within_launchVote ..)
        assumption
      · refine .mk_next ?_
        assumption
    · rename_i v6
      refine .mk_next ?_
      assumption

theorem within_execRevolutionBoundary (s : State) : Within 3772879342 s (nextOr s (execRevolutionBoundary s)) := by
  unfold execRevolutionBoundary
  refine .ite_on ?_ ?_
  · refine .mk_next ?_
    exact .refl ..
  · refine .mk_next ?_
    refine .step ?_ (within_revBoundary ..)
    exact .refl ..

theorem within_execWheelMark (high : Nat) (s : State) : Within 3772879342 s (nextOr s (execWheelMark high s)) := by
  unfold execWheelMark
  refine .ite_on ?_ ?_
  · refine .mk_next ?_
    exact .refl ..
  · refine .mk_next ?_
    refine .step ?_ (within_markEdge ..)
    exact .refl ..

theorem within_accErr (s : State) (a : Nat) (size : Nat) : Within 2 s (s.accErr a size) := by
  unfold State.accErr
  refine .step ?_ (within_set ..)
  refine .step ?_ (within_set ..)
  refine .step ?_ (within_count ..)
  exact .refl ..

theorem within_clearRc (s : State) (a : Nat) (r : RegSpec) (highOnly : Bool) : Within 1073741826 s (s.clearRc a r highOnly) := by
  unfold State.clearRc
  extract_lets +onlyGivenNames x1
  clear_value x1
  split
  · rename_i v2 h3
    exact .refl ..
  · rename_i v4 v5 h6
    refine .ite ?_ ?_
    · exact .refl ..
    · refine .ite ?_ ?_
      · refine .step ?_ (within_pwmod ..)
        exact .refl ..
      · refine .step ?_ (within_setReg ..)
        exact .refl ..

theorem within_dropLatch (s : State) (m : Nat) : Within 128 s (s.dropLatch m) := by
  unfold State.dropLatch
  refine .upd s 128 ?_
  exact .refl ..

theorem within_unavail (s : State) : Within 2 s s.unavail := by
  unfold State.unavail
  refine .step ?_ (within_count ..)
  exact .refl ..

theorem within_readOne (s : State) (m : Nat) (l : Option HalfLatch) (a : Nat) (size : Nat) : Within 1073741954 s (s.readOne m l a size).snd := by
  unfold State.readOne
  split
  · rename_i v1 h2
    refine .mk_snd ?_
    exact .refl ..
  · rename_i v3 h4
    refine .mk_snd ?_
    refine .step ?_ (within_unavail ..)
    exact .refl ..
  · rename_i v5 v6 v7 h8
    extract_lets +onlyGivenNames x9
    clear_value x9
    refine .ite_on ?_ ?_
    · refine .ite_on ?_ ?_
      · split
        · rename_i v10 v11
          refine .ite_on ?_ ?_
          · refine .mk_snd ?_
            exact .refl ..
          · refine .mk_snd ?_
            refine .step ?_ (within_clearRc ..)
            exact .refl ..
        · rename_i v12
          refine .mk_snd ?_
          refine .step ?_ (within_clearRc ..)
          exact .refl ..
      · extract_lets +onlyGivenNames x13
        have h14 : Within 1073741954 s x13 := by
          subst x13
          refine .step ?_ (within_clearRc ..)
          exact .refl ..
        clear_value x13
        refine .mk_snd ?_
        refine .upd x13 128 ?_
        assumption
    · refine .mk_snd ?_
      refine .step ?_ (within_clearRc ..)
      exact .refl ..

theorem within_serialRead (s : State) (m : Nat) (a : Nat) (size : Nat) : Within 1073741954 s (s.serialRead m a size).snd := by
  unfold State.serialRead
  extract_lets +onlyGivenNames x1
  clear_value x1
  extract_lets +onlyGivenNames x2
  have h3 : Within 1073741954 s x2 := by
    subst x2
    refine .step ?_ (within_dropLatch ..)
    exact .refl ..
  clear_value x2
  refine .ite_on ?_ ?_
  · refine .mk_snd ?_
    refine .step ?_ (within_accErr ..)
    assumption
  · refine .ite_on ?_ ?_
    · extract_lets +onlyGivenNames x4
      have h5 : Within 1073741954 s x4.2 := by
        subst x4
        refine .step ?_ (within_readOne ..)
        assumption
      clear_value x4
      extract_lets +onlyGivenNames x6
      have h7 : Within 1073741954 s x6.2 := by
        subst x6
        refine .step ?_ (within_readOne ..)
        refine .step ?_ (within_dropLatch ..)
        assumption
      clear_value x6
      assumption
    · extract_lets +onlyGivenNames x8
      have h9 : Within 1073741954 s x8.2 := by
        subst x8
        refine .step ?_ (within_readOne ..)
        assumption
      clear_value x8
      assumption

end Sys2Proof.Machine
end

