-- ==== Sys2Proof/Laws/Within9.lean ====
section
/-! SUPPORT. What the operations of RegWrite, HostReads, RegRows, Mgmt may change (see Laws/Within.lean). -/

set_option Elab.async false

namespace Sys2Proof.Machine

theorem within_alertAfter (s : State) (was : State) : Within 128 s (s.alertAfter was) := by
  unfold State.alertAfter
  refine .ite ?_ ?_
  · exact .refl ..
  · refine .step ?_ (within_raiseIbi ..)
    exact .refl ..

theorem within_clearMirror (s : State) : Within 4294967298 s s.clearMirror := by
  unfold State.clearMirror
  extract_lets +onlyGivenNames x1
  have h2 : Within 4294967298 s x1 := by
    subst x1
    refine .step ?_ (within_set ..)
    refine .step ?_ (within_set ..)
    exact .refl ..
  clear_value x1
  refine .upd x1 4294967296 ?_
  assumption

theorem within_difCtlWrite (s : State) (v : Word) : Within 268435470 s (s.difCtlWrite v).fst := by
  unfold State.difCtlWrite
  extract_lets +onlyGivenNames x1
  clear_value x1
  extract_lets +onlyGivenNames x2
  clear_value x2
  extract_lets +onlyGivenNames x3
  clear_value x3
  refine .ite_on ?_ ?_
  · refine .mk_fst ?_
    exact .refl ..
  · extract_lets +onlyGivenNames x4
    have h5 : Within 268435470 s x4 := by
      subst x4
      refine .step ?_ (within_setFlag ..)
      exact .refl ..
    clear_value x4
    extract_lets +onlyGivenNames x6
    have h7 : Within 268435470 s x6 := by
      subst x6
      refine .ite ?_ ?_
      · refine .step ?_ (within_difEnable ..)
        assumption
      · refine .ite ?_ ?_
        · refine .step ?_ (within_difDisable ..)
          assumption
        · assumption
    clear_value x6
    refine .ite_on ?_ ?_
    · refine .ite_on ?_ ?_
      · refine .mk_fst ?_
        refine .step ?_ (within_markDiff ..)
        assumption
      · assumption
    · assumption

theorem within_impCtlWrite (s : State) (v : Word) : Within 268435522 s (s.impCtlWrite v).fst := by
  unfold State.impCtlWrite
  extract_lets +onlyGivenNames x1
  clear_value x1
  extract_lets +onlyGivenNames x2
  clear_value x2
  extract_lets +onlyGivenNames x3
  clear_value x3
  refine .ite_on ?_ ?_
  · refine .mk_fst ?_
    exact .refl ..
  · extract_lets +onlyGivenNames x4
    have h5 : Within 268435522 s x4 := by
      subst x4
      refine .ite ?_ ?_
      · refine .step ?_ (within_importEnable ..)
        exact .refl ..
      · refine .ite ?_ ?_
        · refine .step ?_ (within_importDisable ..)
          exact .refl ..
        · exact .refl ..
    clear_value x4
    refine .mk_fst ?_
    refine .ite ?_ ?_
    · refine .step ?_ (within_importResume ..)
      assumption
    · assumption

theorem within_difWrite (s : State) (o : Nat) (spec : RegSpec) (m : Word) (v : Word) : Within 268435534 s (s.difWrite o spec m v).fst := by
  unfold State.difWrite
  extract_lets +onlyGivenNames x1
  have h2 : Within 268435534 s x1 := by
    subst x1
    refine .step ?_ (within_setReg ..)
    exact .refl ..
  clear_value x1
  refine .ite_on ?_ ?_
  · refine .step ?_ (within_difCtlWrite ..)
    exact .refl ..
  · refine .ite_on ?_ ?_
    · refine .ite_on ?_ ?_
      · refine .mk_fst ?_
        exact .refl ..
      · assumption
    · refine .ite_on ?_ ?_
      · refine .ite_on ?_ ?_
        · refine .mk_fst ?_
          exact .refl ..
        · assumption
      · refine .ite_on ?_ ?_
        · refine .step ?_ (within_impCtlWrite ..)
          exact .refl ..
        · refine .ite_on ?_ ?_
          · refine .mk_fst ?_
            refine .step ?_ (within_importPump ..)
            assumption
          · refine .ite_on ?_ ?_
            · refine .ite_on ?_ ?_
              · refine .mk_fst ?_
                exact .refl ..
              · assumption
            · assumption

theorem within_evtCfgWrite (s : State) (v : Word) : Within 2 s (s.evtCfgWrite v).fst := by
  unfold State.evtCfgWrite
  extract_lets +onlyGivenNames x1
  clear_value x1
  refine .ite_on ?_ ?_
  · refine .mk_fst ?_
    exact .refl ..
  · refine .mk_fst ?_
    refine .step ?_ (within_set ..)
    refine .step ?_ (within_setFlag ..)
    exact .refl ..

theorem within_hifMbWrite (s : State) (v : Word) : Within 2 s (s.hifMbWrite v).fst := by
  unfold State.hifMbWrite
  extract_lets +onlyGivenNames x1
  have h2 : Within 2 s x1 := by
    subst x1
    refine .step ?_ (within_set ..)
    refine .step ?_ (within_set ..)
    exact .refl ..
  clear_value x1
  extract_lets +onlyGivenNames x3
  have h4 : Within 2 s x3 := by
    subst x3
    refine .ite ?_ ?_
    · refine .step ?_ (within_set ..)
      refine .step ?_ (within_setFlag ..)
      assumption
    · assumption
  clear_value x3
  refine .ite_on ?_ ?_
  · split
    · rename_i v5 v6 h7
      have h8 : Within 2 s v6 := by
        refine (.of_some (b := s) h7 ?_)
        refine .orStep ?_ (within_h2mSend ..) ?_
        · assumption
        · exact .refl ..
      assumption
    · rename_i v9 h10
      assumption
  · assumption

theorem within_lnkAct {n : Nat} {s0 s : State} {want : Bool} {f : State → Option State} (h : Within n s0 s) (k : ∀ t, Within n t (orSame t id (f t))) :
    Within n s0 (s.lnkAct want f).1 := by
  unfold State.lnkAct
  refine .ite_on ?_ h
  have x := k s
  cases e : f s with
  | none => exact h
  | some t => rw [e] at x; exact h.trans x

theorem within_lnkHoldWrite (s : State) (p : Nat) (want : Bool) : Within 8388802 s (s.lnkHoldWrite p want) := by
  unfold State.lnkHoldWrite
  extract_lets +onlyGivenNames x1
  clear_value x1
  extract_lets +onlyGivenNames x2
  have h3 : Within 8388802 s x2 := by
    subst x2
    refine .step ?_ (within_setFlag ..)
    exact .refl ..
  clear_value x2
  refine .ite ?_ ?_
  · refine .step ?_ (within_lnkHold ..)
    assumption
  · refine .ite ?_ ?_
    · refine .step ?_ (within_startPort ..)
      assumption
    · assumption

theorem within_lnkCtlWrite (s : State) (p : Nat) (v : Word) : Within 8388802 s (s.lnkCtlWrite p v).fst := by
  unfold State.lnkCtlWrite
  extract_lets +onlyGivenNames x1
  have h2 : Within 8388802 s x1 := by
    subst x1
    refine .step ?_ (within_setFlag ..)
    refine .step ?_ (within_set ..)
    exact .refl ..
  clear_value x1
  extract_lets +onlyGivenNames x3
  have h4 : Within 8388802 s x3 := by
    subst x3
    refine .step ?_ (within_lnkHoldWrite ..)
    assumption
  clear_value x3
  extract_lets +onlyGivenNames x5
  have h6 : Within 8388802 s x5.1 := by
    subst x5
    refine within_lnkAct ?_ ?_
    · assumption
    · intro a7
      refine .orStep ?_ (within_lnkRetrain ..) ?_
      · exact .refl ..
      · exact .refl ..
  clear_value x5
  extract_lets +onlyGivenNames x8
  have h9 : Within 8388802 s x8.1 := by
    subst x8
    refine within_lnkAct ?_ ?_
    · assumption
    · intro a10
      refine .orStep ?_ (within_lnkReadmit ..) ?_
      · exact .refl ..
      · exact .refl ..
  clear_value x8
  assumption

theorem within_tileEffect {n o : Nat} {d : Word} {s0 s plain : State} {b : Bool} (h : Within n s0 s) (k : Within n s0 plain) (hm : 262144 ||| n = n := by decide) :
    Within n s0 (s.tileEffect o d plain b).1 := by
  unfold State.tileEffect
  exact .ite_on (.mk_fst (h.step (within_armInjection ..) hm)) (.mk_fst k)

theorem within_ringOn (s : State) (r : Nat) : Within 66 s (s.ringOn r) := by
  unfold State.ringOn
  extract_lets +onlyGivenNames x1
  have h2 : Within 66 s x1 := by
    subst x1
    refine .step ?_ (within_setUnsignalled ..)
    refine .step ?_ (within_setFlag ..)
    refine .step ?_ (within_setReg ..)
    refine .step ?_ (within_setReg ..)
    exact .refl ..
  clear_value x1
  refine .step ?_ (within_hmod ..)
  refine .step ?_ (within_dropFetched ..)
  assumption

theorem within_ringOff (s : State) (r : Nat) : Within 66 s (s.ringOff r) := by
  unfold State.ringOff
  refine .step ?_ (within_dropFetched ..)
  refine .step ?_ (within_setFlag ..)
  exact .refl ..

theorem within_ringEnableWrite (s : State) (r : Nat) (on : Bool) : Within 66 s (s.ringEnableWrite r on).fst := by
  unfold State.ringEnableWrite
  refine .ite_on ?_ ?_
  · refine .mk_fst ?_
    exact .refl ..
  · refine .ite_on ?_ ?_
    · refine .ite_on ?_ ?_
      · refine .mk_fst ?_
        exact .refl ..
      · refine .mk_fst ?_
        refine .step ?_ (within_ringOn ..)
        exact .refl ..
    · refine .ite_on ?_ ?_
      · refine .mk_fst ?_
        exact .refl ..
      · refine .mk_fst ?_
        refine .step ?_ (within_ringOff ..)
        exact .refl ..

theorem within_ringClrErr (s : State) (r : Nat) : Within 66 s (s.ringClrErr r) := by
  unfold State.ringClrErr
  refine .ite ?_ ?_
  · exact .refl ..
  · refine .step ?_ (within_dropFetched ..)
    refine .step ?_ (within_set ..)
    exact .refl ..

theorem within_ringCtlWrite (s : State) (r : Nat) (v : Word) : Within 227573970 s (s.ringCtlWrite r v).fst := by
  unfold State.ringCtlWrite
  extract_lets +onlyGivenNames x1
  have h2 : Within 227573970 s x1.1 := by
    subst x1
    refine .step ?_ (within_ringEnableWrite ..)
    exact .refl ..
  clear_value x1
  extract_lets +onlyGivenNames x3
  have h4 : Within 227573970 s x3 := by
    subst x3
    refine .ite ?_ ?_
    · refine .step ?_ (within_ringClrErr ..)
      assumption
    · assumption
  clear_value x3
  refine .mk_fst ?_
  refine .ite ?_ ?_
  · refine .step ?_ (within_cancelRing ..)
    assumption
  · assumption

theorem within_ringWrite (s : State) (r : Nat) (o : Nat) (spec : RegSpec) (m : Word) (v : Word) : Within 227573970 s (s.ringWrite r o spec m v).fst := by
  unfold State.ringWrite
  refine .ite_on ?_ ?_
  · refine .mk_fst ?_
    exact .refl ..
  · refine .ite_on ?_ ?_
    · refine .step ?_ (within_ringCtlWrite ..)
      exact .refl ..
    · refine .ite_on ?_ ?_
      · refine .mk_fst ?_
        exact .refl ..
      · refine .mk_fst ?_
        refine .step ?_ (within_setReg ..)
        exact .refl ..

theorem within_winCtlWrite (s : State) (w : Nat) (v : Word) : Within 8388610 s (s.winCtlWrite w v).fst := by
  unfold State.winCtlWrite
  extract_lets +onlyGivenNames x1
  have h2 : Within 8388610 s x1.1 := by
    subst x1
    refine .ite_on ?_ ?_
    · split
      · rename_i v3 v4 h5
        have h6 : Within 8388610 s v4 := by
          refine (.of_some (b := s) h5 ?_)
          refine .orStep ?_ (within_winOpen ..) ?_
          · exact .refl ..
          · exact .refl ..
        assumption
      · rename_i v7 h8
        refine .mk_fst ?_
        exact .refl ..
    · refine .mk_fst ?_
      exact .refl ..
  clear_value x1
  refine .ite_on ?_ ?_
  · refine .mk_fst ?_
    refine .getD ?_ ?_
    · assumption
    · refine .orStep ?_ (within_winClose ..) ?_
      · assumption
      · assumption
  · assumption

theorem within_winWrite (s : State) (o : Nat) (spec : RegSpec) (m : Word) (v : Word) : Within 8388610 s (s.winWrite o spec m v).fst := by
  unfold State.winWrite
  extract_lets +onlyGivenNames x1
  have h2 : Within 8388610 s x1 := by
    subst x1
    refine .step ?_ (within_setReg ..)
    exact .refl ..
  clear_value x1
  refine .ite_on ?_ ?_
  · refine .ite_on ?_ ?_
    · refine .step ?_ (within_winCtlWrite ..)
      exact .refl ..
    · refine .ite_on ?_ ?_
      · refine .mk_fst ?_
        exact .refl ..
      · assumption
  · assumption

theorem within_whlCtlWrite (s : State) (v : Word) : Within 4194498 s (s.whlCtlWrite v).fst := by
  unfold State.whlCtlWrite
  extract_lets +onlyGivenNames x1
  clear_value x1
  extract_lets +onlyGivenNames x2
  have h3 : Within 4194498 s x2 := by
    subst x2
    refine .step ?_ (within_setFlag ..)
    exact .refl ..
  clear_value x2
  extract_lets +onlyGivenNames x4
  have h5 : Within 4194498 s x4 := by
    subst x4
    refine .ite ?_ ?_
    · refine .step ?_ (within_setNomark ..)
      assumption
    · assumption
  clear_value x4
  refine .mk_fst ?_
  refine .ite ?_ ?_
  · refine .step ?_ (within_clearCount ..)
    assumption
  · assumption

theorem within_mgtMbWrite (s : State) (v : Word) : Within 194 s (s.mgtMbWrite v).fst := by
  unfold State.mgtMbWrite
  extract_lets +onlyGivenNames x1
  have h2 : Within 194 s x1 := by
    subst x1
    refine .step ?_ (within_set ..)
    exact .refl ..
  clear_value x1
  extract_lets +onlyGivenNames x3
  have h4 : Within 194 s x3 := by
    subst x3
    refine .ite ?_ ?_
    · refine .step ?_ (within_setFlag ..)
      assumption
    · assumption
  clear_value x3
  refine .ite_on ?_ ?_
  · split
    · rename_i v5 v6 h7
      have h8 : Within 194 s v6 := by
        refine (.of_some (b := s) h7 ?_)
        refine .orStep ?_ (within_m2hSend ..) ?_
        · assumption
        · exact .refl ..
      assumption
    · rename_i v9 h10
      assumption
  · assumption

theorem within_opCtlWrite (s : State) (v : Word) : Within 32962 s (s.opCtlWrite v).fst := by
  unfold State.opCtlWrite
  extract_lets +onlyGivenNames x1
  clear_value x1
  refine .ite_on ?_ ?_
  · refine .mk_fst ?_
    exact .refl ..
  · refine .mk_fst ?_
    refine .step ?_ (within_tierOp ..)
    exact .refl ..

theorem within_pendWrite (s : State) (d : Nat) (v : Word) : Within 67108864 s (s.pendWrite d v) := by
  unfold State.pendWrite
  extract_lets +onlyGivenNames x1
  clear_value x1
  refine .step ?_ (within_setLayer ..)
  exact .refl ..

theorem within_unmask (s : State) (k : Nat) : Within 66 s (s.unmask k) := by
  unfold State.unmask
  extract_lets +onlyGivenNames x1
  clear_value x1
  refine .ite ?_ ?_
  · refine .step ?_ (within_signal ..)
    refine .step ?_ (within_setReg ..)
    exact .refl ..
  · exact .refl ..

theorem within_regEffect (s : State) (a : Nat) (spec : RegSpec) (m : Word) (d : Word) : Within 8555639006 s (s.regEffect a spec m d).fst := by
  unfold State.regEffect
  extract_lets +onlyGivenNames x1
  clear_value x1
  extract_lets +onlyGivenNames x2
  subst x2
  refine .ite_on ?_ ?_
  · refine within_tileEffect ?_ ?_
    · exact .refl ..
    · dsimp -zeta only
      split
      · rename_i v3 v4 h5
        refine .step ?_ (within_setReg ..)
        exact .refl ..
      · rename_i v6 h7
        exact .refl ..
  · refine .ite_on ?_ ?_
    · refine .step ?_ (within_ringWrite ..)
      exact .refl ..
    · refine .ite_on ?_ ?_
      · refine .step ?_ (within_hrnWrite ..)
        exact .refl ..
      · refine .ite_on ?_ ?_
        · refine .mk_fst ?_
          refine .step ?_ (within_parkWrite ..)
          exact .refl ..
        · refine .ite_on ?_ ?_
          · extract_lets +onlyGivenNames x8
            have h9 : Within 8555639006 s x8.1 := by
              subst x8
              refine .step ?_ (within_readmitReq ..)
              exact .refl ..
            clear_value x8
            assumption
          · refine .ite_on ?_ ?_
            · refine .mk_fst ?_
              refine .ite ?_ ?_
              · refine .step ?_ (within_clearMirror ..)
                exact .refl ..
              · exact .refl ..
            · refine .ite_on ?_ ?_
              · refine .step ?_ (within_difWrite ..)
                exact .refl ..
              · refine .ite_on ?_ ?_
                · refine .step ?_ (within_lnkCtlWrite ..)
                  exact .refl ..
                · refine .ite_on ?_ ?_
                  · refine .step ?_ (within_winWrite ..)
                    exact .refl ..
                  · refine .ite_on ?_ ?_
                    · refine .step ?_ (within_whlCtlWrite ..)
                      exact .refl ..
                    · refine .ite_on ?_ ?_
                      · split
                        · rename_i v10 v11 h12
                          have h13 : Within 8555639006 s v11 := by
                            refine (.of_some (b := s) h12 ?_)
                            refine .orStep ?_ (within_cancelJseq ..) ?_
                            · exact .refl ..
                            · exact .refl ..
                          assumption
                        · rename_i v14 h15
                          refine .mk_fst ?_
                          exact .refl ..
                      · refine .ite_on ?_ ?_
                        · refine .step ?_ (within_evtCfgWrite ..)
                          exact .refl ..
                        · refine .ite_on ?_ ?_
                          · refine .step ?_ (within_hifMbWrite ..)
                            exact .refl ..
                          · refine .ite_on ?_ ?_
                            · refine .step ?_ (within_mgtMbWrite ..)
                              exact .refl ..
                            · refine .ite_on ?_ ?_
                              · refine .step ?_ (within_opCtlWrite ..)
                                exact .refl ..
                              · refine .ite_on ?_ ?_
                                · refine .mk_fst ?_
                                  refine .ite ?_ ?_
                                  · refine .step ?_ (within_pendWrite ..)
                                    exact .refl ..
                                  · exact .refl ..
                                · refine .ite_on ?_ ?_
                                  · refine .mk_fst ?_
                                    refine .step ?_ (within_unmask ..)
                                    dsimp -zeta only
                                    split
                                    · rename_i v16 v17 h18
                                      refine .step ?_ (within_setReg ..)
                                      exact .refl ..
                                    · rename_i v19 h20
                                      exact .refl ..
                                  · refine .ite_on ?_ ?_
                                    · refine .mk_fst ?_
                                      refine .step ?_ (within_alertAfter ..)
                                      dsimp -zeta only
                                      split
                                      · rename_i v21 v22 h23
                                        refine .step ?_ (within_setReg ..)
                                        exact .refl ..
                                      · rename_i v24 h25
                                        exact .refl ..
                                    · refine .mk_fst ?_
                                      dsimp -zeta only
                                      split
                                      · rename_i v26 v27 h28
                                        refine .step ?_ (within_setReg ..)
                                        exact .refl ..
                                      · rename_i v29 h30
                                        exact .refl ..

theorem within_writeOne (s : State) (src : RegSrc) (a : Nat) (size : Nat) (data : Word) : Within 8555639262 s (s.writeOne src a size data) := by
  unfold State.writeOne
  extract_lets +onlyGivenNames x1
  clear_value x1
  split
  · rename_i v2 h3
    refine .step ?_ (within_record_ ..)
    exact .refl ..
  · rename_i v4 h5
    refine .step ?_ (within_record_ ..)
    refine .step ?_ (within_unavail ..)
    exact .refl ..
  · rename_i v6 v7 v8 h9
    extract_lets +onlyGivenNames x10
    clear_value x10
    extract_lets +onlyGivenNames x11
    clear_value x11
    extract_lets +onlyGivenNames x12
    clear_value x12
    extract_lets +onlyGivenNames x13
    clear_value x13
    extract_lets +onlyGivenNames x14
    clear_value x14
    extract_lets +onlyGivenNames x15
    have h16 : Within 8555639262 s x15.1 := by
      subst x15
      refine .ite_on ?_ ?_
      · refine .step ?_ (within_regEffect ..)
        exact .refl ..
      · refine .mk_fst ?_
        exact .refl ..
    clear_value x15
    refine .step ?_ (within_record_ ..)
    assumption

theorem within_serialWrite (s : State) (src : RegSrc) (a : Nat) (size : Nat) (data : Word) : Within 8555639262 s (s.serialWrite src a size data) := by
  unfold State.serialWrite
  extract_lets +onlyGivenNames x1
  have h2 : Within 8555639262 s x1 := by
    subst x1
    split
    · rename_i v3 v4 h5
      refine .step ?_ (within_dropLatch ..)
      exact .refl ..
    · rename_i v6 h7
      exact .refl ..
  clear_value x1
  refine .ite ?_ ?_
  · refine .step ?_ (within_record_ ..)
    refine .step ?_ (within_accErr ..)
    assumption
  · refine .ite ?_ ?_
    · refine .step ?_ (within_writeOne ..)
      refine .step ?_ (within_writeOne ..)
      assumption
    · refine .step ?_ (within_writeOne ..)
      assumption

theorem within_remoteWrite (s : State) (off : Nat) (w : Word) (src : Nat) : Within 8555639262 s (s.remoteWrite off w src) := by
  unfold State.remoteWrite
  refine .step ?_ (within_serialWrite ..)
  exact .refl ..

theorem within_write (s : State) (src : RegSrc) (a : Nat) (size : Nat) (data : Word) : Within 8555639262 s (s.write src a size data) := by
  unfold State.write
  refine .ite ?_ ?_
  · exact .refl ..
  · refine .step ?_ (within_serialWrite ..)
    exact .refl ..

theorem within_write32 (s : State) (src : RegSrc) (a : Nat) (v : BitVec 32) : Within 8555639262 s (s.write32 src a v) := by
  unfold State.write32
  refine .step ?_ (within_write ..)
  exact .refl ..

theorem within_loadReadFailed (s : State) (j : Nat) (st : Status) : Within 84967634 s (s.loadReadFailed j st) := by
  unfold State.loadReadFailed
  refine .ite ?_ ?_
  · refine .step ?_ (within_finish ..)
    exact .refl ..
  · exact .refl ..

theorem within_pump (s : State) : Within 805306432 s s.pump := by
  unfold State.pump
  refine .step ?_ (within_importPump ..)
  refine .step ?_ (within_pumpFill ..)
  refine .step ?_ (within_stageMore ..)
  exact .refl ..

theorem within_readData (s : State) (r : RdReq) (bs : List Byte) : Within 890274014 s (s.readData r bs) := by
  unfold State.readData
  split
  · rename_i v1 v2 v3 v4 v5 h6
    refine .step ?_ (within_fetchData ..)
    exact .refl ..
  · rename_i v7 v8 v9 v10 h11
    refine .step ?_ (within_copyData ..)
    exact .refl ..
  · rename_i v12 v13 v14 v15 h16
    refine .step ?_ (within_hostLoaded ..)
    exact .refl ..
  · rename_i v17 v18 h19
    refine .step ?_ (within_flushEnd ..)
    exact .refl ..
  · rename_i v20 v21 v22 h23
    refine .step ?_ (within_stageData ..)
    exact .refl ..
  · rename_i v24 v25 v26 v27 h28
    refine .step ?_ (within_fillData ..)
    exact .refl ..
  · rename_i v29 v30 v31 h32
    refine .step ?_ (within_importData ..)
    exact .refl ..

theorem within_readFailed (s : State) (r : RdReq) (timedOut : Bool) : Within 1032892638 s (s.readFailed r timedOut) := by
  unfold State.readFailed
  extract_lets +onlyGivenNames x1
  clear_value x1
  split
  · rename_i v2 v3 v4 v5 v6 h7
    refine .step ?_ (within_fetchFailed ..)
    exact .refl ..
  · rename_i v8 v9 v10 v11 h12
    refine .step ?_ (within_copyFailed ..)
    exact .refl ..
  · rename_i v13 v14 v15 v16 h17
    refine .step ?_ (within_loadReadFailed ..)
    exact .refl ..
  · rename_i v18 v19 h20
    refine .step ?_ (within_flushEnd ..)
    exact .refl ..
  · rename_i v21 v22 v23 h24
    refine .step ?_ (within_stageFailed ..)
    exact .refl ..
  · rename_i v25 v26 v27 v28 h29
    refine .step ?_ (within_fillFailed ..)
    exact .refl ..
  · rename_i v30 v31 v32 h33
    refine .step ?_ (within_importFailed ..)
    exact .refl ..

theorem within_execD3hot (busMaster : Bool) (d3 : Bool) (s : State) : Within 805306434 s (nextOr s (execD3hot busMaster d3 s)) := by
  unfold execD3hot
  refine .ite_on ?_ ?_
  · refine .mk_next ?_
    exact .refl ..
  · refine .mk_next ?_
    refine .step ?_ (within_pump ..)
    refine .step ?_ (within_release ..)
    refine .step ?_ (within_setFlag ..)
    refine .step ?_ (within_setFlag ..)
    exact .refl ..

theorem within_execPcieLinkUp (speed : PcieSpeed) (width : Nat) (tagBits : Nat) (s : State) : Within 805306434 s (nextOr s (execPcieLinkUp speed width tagBits s)) := by
  unfold execPcieLinkUp
  refine .ite_on ?_ ?_
  · refine .mk_next ?_
    exact .refl ..
  · extract_lets +onlyGivenNames x1
    clear_value x1
    extract_lets +onlyGivenNames x2
    have h3 : Within 805306434 s x2 := by
      subst x2
      refine .step ?_ (within_setFlag ..)
      refine .step ?_ (within_setFlag ..)
      refine .step ?_ (within_set ..)
      refine .step ?_ (within_set ..)
      exact .refl ..
    clear_value x2
    refine .mk_next ?_
    refine .step ?_ (within_pump ..)
    refine .step ?_ (within_release ..)
    refine .step ?_ (within_capChange ..)
    refine .step ?_ (within_hmod ..)
    assumption

theorem within_execReadCompletion (tag : Nat) (status : CplStatus) (data : List Byte) (s : State) : Within 1032892638 s (nextOr s (execReadCompletion tag status data s)) := by
  unfold execReadCompletion
  refine .ite_on ?_ ?_
  · refine .mk_next ?_
    exact .refl ..
  · split
    · rename_i v1 h2
      refine .ite_on ?_ ?_
      · refine .mk_next ?_
        refine .step ?_ (within_count ..)
        exact .refl ..
      · refine .mk_next ?_
        exact .refl ..
    · rename_i v3 v4 h5
      split
      · rename_i v6
        refine .ite_on ?_ ?_
        · refine .mk_next ?_
          exact .refl ..
        · refine .mk_next ?_
          refine .step ?_ (within_pump ..)
          refine .step ?_ (within_readData ..)
          refine .step ?_ (within_endRead ..)
          exact .refl ..
      · rename_i v7
        refine .mk_next ?_
        refine .step ?_ (within_pump ..)
        refine .step ?_ (within_readFailed ..)
        refine .step ?_ (within_endRead ..)
        exact .refl ..
      · rename_i v8
        refine .mk_next ?_
        refine .step ?_ (within_pump ..)
        refine .step ?_ (within_readFailed ..)
        refine .step ?_ (within_endRead ..)
        exact .refl ..
      · rename_i v9
        refine .mk_next ?_
        refine .step ?_ (within_pump ..)
        refine .step ?_ (within_readFailed ..)
        refine .step ?_ (within_endRead ..)
        exact .refl ..

theorem within_execReadTimeout (tag : Nat) (s : State) : Within 1032892638 s (nextOr s (execReadTimeout tag s)) := by
  unfold execReadTimeout
  split
  · rename_i v1 h2
    refine .mk_next ?_
    exact .refl ..
  · rename_i v3 v4 h5
    refine .mk_next ?_
    refine .step ?_ (within_pump ..)
    refine .step ?_ (within_readFailed ..)
    refine .step ?_ (within_quarantine ..)
    exact .refl ..

theorem within_execTagQuarantineEnd (tag : Nat) (s : State) : Within 805306432 s (nextOr s (execTagQuarantineEnd tag s)) := by
  unfold execTagQuarantineEnd
  refine .mk_next ?_
  refine .step ?_ (within_pump ..)
  refine .step ?_ (within_hmod ..)
  exact .refl ..

theorem within_writeRegs (src : Nat) (a1 : State) (a2 : Nat) (a3 : List Word) : Within 8555639262 a1 (writeRegs State.remoteWrite src a1 a2 a3) := by
  fun_induction writeRegs State.remoteWrite src a1 a2 a3
  · rename_i v1 v2
    exact .refl ..
  · rename_i v3 v4 v5 v6 h7
    refine .trans ?_ (h7)
    refine .step ?_ (within_remoteWrite ..)
    exact .refl ..

theorem within_recvWrite (s : State) (bad : List Nat) : Within 8555639262 s (s.recvWrite State.remoteWrite bad) := by
  unfold State.recvWrite
  extract_lets +onlyGivenNames x1
  have h2 : Within 8555639262 s x1 := by
    subst x1
    refine .step ?_ (within_wakeByMsg ..)
    exact .refl ..
  clear_value x1
  split
  · rename_i v3 h4
    assumption
  · rename_i v5 v6 h7
    extract_lets +onlyGivenNames x8
    have h9 : Within 8555639262 s x8 := by
      subst x8
      refine .step ?_ (within_dropMsg ..)
      assumption
    clear_value x8
    split
    · rename_i v10 v11 h12
      refine .step ?_ (within_refuse ..)
      assumption
    · rename_i v13 h14
      split
      · rename_i v15 v16 h17
        refine .step ?_ (within_refuse ..)
        assumption
      · rename_i v18 h19
        refine .step ?_ (within_winSettle ..)
        refine .step ?_ (within_count ..)
        assumption
      · rename_i v20 v21 h22
        refine .step ?_ (within_winSettle ..)
        refine .step ?_ (within_sendAck ..)
        refine .step ?_ (within_count ..)
        assumption
      · rename_i v23 v24 h25
        extract_lets +onlyGivenNames x26
        have h27 : Within 8555639262 s x26 := by
          subst x26
          refine .step ?_ (within_putRx ..)
          assumption
        clear_value x26
        extract_lets +onlyGivenNames x28
        clear_value x28
        extract_lets +onlyGivenNames x29
        clear_value x29
        split
        · rename_i v30 h31
          refine .step ?_ (within_commitWrite ..)
          refine .step ?_ (within_writeRegs ..)
          assumption
        · rename_i v32 h33
          refine .step ?_ (within_writeRing ..)
          assumption
        · rename_i v34 h35 h36
          split
          · rename_i v37 v38 h39
            have h40 : Within 8555639262 s v38 := by
              refine (.of_snd h39 ?_)
              refine .step ?_ (within_writeTarget ..)
              assumption
            refine .ite ?_ ?_
            · refine .step ?_ (within_refuse ..)
              assumption
            · refine .step ?_ (within_commitWrite ..)
              assumption
          · rename_i v41 v42 h43
            have h44 : Within 8555639262 s v42 := by
              refine (.of_snd h43 ?_)
              refine .step ?_ (within_writeTarget ..)
              assumption
            refine .step ?_ (within_refuse ..)
            assumption

theorem within_execAbort (src : RegSrc) (value : BitVec 32) (s : State) : Within 8555639262 s (nextOr s (execAbort src value s)) := by
  unfold execAbort
  refine .mk_next ?_
  refine .step ?_ (within_write32 ..)
  exact .refl ..

theorem within_execBaseMark (src : RegSrc) (value : BitVec 32) (s : State) : Within 8555639262 s (nextOr s (execBaseMark src value s)) := by
  unfold execBaseMark
  refine .mk_next ?_
  refine .step ?_ (within_write32 ..)
  exact .refl ..

theorem within_execCancel (src : RegSrc) (ring : Nat) (value : BitVec 32) (s : State) : Within 8555639262 s (nextOr s (execCancel src ring value s)) := by
  unfold execCancel
  refine .ite_on ?_ ?_
  · refine .mk_next ?_
    exact .refl ..
  · refine .mk_next ?_
    refine .step ?_ (within_write32 ..)
    exact .refl ..

theorem within_execClrErr (src : RegSrc) (ring : Nat) (value : BitVec 32) (s : State) : Within 8555639262 s (nextOr s (execClrErr src ring value s)) := by
  unfold execClrErr
  refine .ite_on ?_ ?_
  · refine .mk_next ?_
    exact .refl ..
  · refine .mk_next ?_
    refine .step ?_ (within_write32 ..)
    exact .refl ..

theorem within_execClrcount (src : RegSrc) (value : BitVec 32) (s : State) : Within 8555639262 s (nextOr s (execClrcount src value s)) := by
  unfold execClrcount
  refine .mk_next ?_
  refine .step ?_ (within_write32 ..)
  exact .refl ..

theorem within_execDifCons (src : RegSrc) (value : Word) (s : State) : Within 8555639262 s (nextOr s (execDifCons src value s)) := by
  unfold execDifCons
  refine .mk_next ?_
  refine .step ?_ (within_write ..)
  exact .refl ..

theorem within_execDifEnable (src : RegSrc) (value : BitVec 32) (s : State) : Within 8555639262 s (nextOr s (execDifEnable src value s)) := by
  unfold execDifEnable
  refine .mk_next ?_
  refine .step ?_ (within_write32 ..)
  exact .refl ..

theorem within_execErase (src : RegSrc) (value : BitVec 32) (s : State) : Within 8555639262 s (nextOr s (execErase src value s)) := by
  unfold execErase
  refine .mk_next ?_
  refine .step ?_ (within_write32 ..)
  exact .refl ..

theorem within_execFullLoad (src : RegSrc) (value : BitVec 32) (s : State) : Within 8555639262 s (nextOr s (execFullLoad src value s)) := by
  unfold execFullLoad
  refine .mk_next ?_
  refine .step ?_ (within_write32 ..)
  exact .refl ..

theorem within_execH2mAck (src : RegSrc) (value : BitVec 32) (s : State) : Within 8555639262 s (nextOr s (execH2mAck src value s)) := by
  unfold execH2mAck
  refine .mk_next ?_
  refine .step ?_ (within_write32 ..)
  exact .refl ..

theorem within_execH2mSend (src : RegSrc) (value : BitVec 32) (s : State) : Within 8555639262 s (nextOr s (execH2mSend src value s)) := by
  unfold execH2mSend
  refine .mk_next ?_
  refine .step ?_ (within_write32 ..)
  exact .refl ..

theorem within_execHerdCheck (req : HerdReq) (s : State) : Within 8555639262 s (nextOr s (execHerdCheck req s)) := by
  unfold execHerdCheck
  split
  · rename_i v1 v2 v3
    refine .mk_next ?_
    refine .step ?_ (within_write32 ..)
    exact .refl ..
  · rename_i v4
    refine .mk_next ?_
    refine .step ?_ (within_herdTry ..)
    exact .refl ..

theorem within_execHifCancel (src : RegSrc) (jseq : Word) (s : State) : Within 8555639262 s (nextOr s (execHifCancel src jseq s)) := by
  unfold execHifCancel
  refine .mk_next ?_
  refine .step ?_ (within_write ..)
  exact .refl ..

theorem within_execHolddown (src : RegSrc) (port : Nat) (value : BitVec 32) (s : State) : Within 8555639262 s (nextOr s (execHolddown src port value s)) := by
  unfold execHolddown
  refine .ite_on ?_ ?_
  · refine .mk_next ?_
    exact .refl ..
  · refine .mk_next ?_
    refine .step ?_ (within_write32 ..)
    exact .refl ..

theorem within_execImportEnable (src : RegSrc) (value : BitVec 32) (s : State) : Within 8555639262 s (nextOr s (execImportEnable src value s)) := by
  unfold execImportEnable
  refine .mk_next ?_
  refine .step ?_ (within_write32 ..)
  exact .refl ..

theorem within_execImportResume (src : RegSrc) (value : BitVec 32) (s : State) : Within 8555639262 s (nextOr s (execImportResume src value s)) := by
  unfold execImportResume
  refine .mk_next ?_
  refine .step ?_ (within_write32 ..)
  exact .refl ..

theorem within_execJrnPlclr (src : RegSrc) (value : BitVec 32) (s : State) : Within 8555639262 s (nextOr s (execJrnPlclr src value s)) := by
  unfold execJrnPlclr
  refine .mk_next ?_
  refine .step ?_ (within_write32 ..)
  exact .refl ..

theorem within_execJrnReadmit (src : RegSrc) (value : BitVec 32) (s : State) : Within 8555639262 s (nextOr s (execJrnReadmit src value s)) := by
  unfold execJrnReadmit
  refine .mk_next ?_
  refine .step ?_ (within_write32 ..)
  exact .refl ..

theorem within_execM2hAck (src : RegSrc) (value : BitVec 32) (s : State) : Within 8555639262 s (nextOr s (execM2hAck src value s)) := by
  unfold execM2hAck
  refine .mk_next ?_
  refine .step ?_ (within_write32 ..)
  exact .refl ..

theorem within_execM2hSend (src : RegSrc) (value : BitVec 32) (s : State) : Within 8555639262 s (nextOr s (execM2hSend src value s)) := by
  unfold execM2hSend
  refine .mk_next ?_
  refine .step ?_ (within_write32 ..)
  exact .refl ..

theorem within_execPark (src : RegSrc) (value : BitVec 32) (s : State) : Within 8555639262 s (nextOr s (execPark src value s)) := by
  unfold execPark
  refine .mk_next ?_
  refine .step ?_ (within_write32 ..)
  exact .refl ..

theorem within_execPartialLoad (src : RegSrc) (value : BitVec 32) (s : State) : Within 8555639262 s (nextOr s (execPartialLoad src value s)) := by
  unfold execPartialLoad
  refine .mk_next ?_
  refine .step ?_ (within_write32 ..)
  exact .refl ..

theorem within_execPend (src : RegSrc) (cluster : Nat) (value : BitVec 32) (s : State) : Within 8555639262 s (nextOr s (execPend src cluster value s)) := by
  unfold execPend
  refine .ite_on ?_ ?_
  · refine .mk_next ?_
    exact .refl ..
  · refine .mk_next ?_
    refine .step ?_ (within_write32 ..)
    exact .refl ..

theorem within_execReadmit (src : RegSrc) (port : Nat) (value : BitVec 32) (s : State) : Within 8555639262 s (nextOr s (execReadmit src port value s)) := by
  unfold execReadmit
  refine .ite_on ?_ ?_
  · refine .mk_next ?_
    exact .refl ..
  · refine .mk_next ?_
    refine .step ?_ (within_write32 ..)
    exact .refl ..

theorem within_execRegisterWrite (src : RegSrc) (offset : Nat) (size : Nat) (data : Word) (s : State) : Within 8555639262 s (nextOr s (execRegisterWrite src offset size data s)) := by
  unfold execRegisterWrite
  refine .mk_next ?_
  refine .step ?_ (within_write ..)
  exact .refl ..

theorem within_execRetrain (src : RegSrc) (port : Nat) (value : BitVec 32) (s : State) : Within 8555639262 s (nextOr s (execRetrain src port value s)) := by
  unfold execRetrain
  refine .ite_on ?_ ?_
  · refine .mk_next ?_
    exact .refl ..
  · refine .mk_next ?_
    refine .step ?_ (within_write32 ..)
    exact .refl ..

theorem within_execRingEnable (src : RegSrc) (ring : Nat) (value : BitVec 32) (s : State) : Within 8555639262 s (nextOr s (execRingEnable src ring value s)) := by
  unfold execRingEnable
  refine .ite_on ?_ ?_
  · refine .mk_next ?_
    exact .refl ..
  · refine .mk_next ?_
    refine .step ?_ (within_write32 ..)
    exact .refl ..

theorem within_execStoreAction (src : RegSrc) (value : BitVec 32) (s : State) : Within 8555639262 s (nextOr s (execStoreAction src value s)) := by
  unfold execStoreAction
  refine .mk_next ?_
  refine .step ?_ (within_write32 ..)
  exact .refl ..

theorem within_execTierAbort (src : RegSrc) (value : BitVec 32) (s : State) : Within 8555639262 s (nextOr s (execTierAbort src value s)) := by
  unfold execTierAbort
  refine .mk_next ?_
  refine .step ?_ (within_write32 ..)
  exact .refl ..

theorem within_execTierEvict (src : RegSrc) (value : BitVec 32) (s : State) : Within 8555639262 s (nextOr s (execTierEvict src value s)) := by
  unfold execTierEvict
  refine .mk_next ?_
  refine .step ?_ (within_write32 ..)
  exact .refl ..

theorem within_execTierFill (src : RegSrc) (value : BitVec 32) (s : State) : Within 8555639262 s (nextOr s (execTierFill src value s)) := by
  unfold execTierFill
  refine .mk_next ?_
  refine .step ?_ (within_write32 ..)
  exact .refl ..

theorem within_execTierFlush (src : RegSrc) (value : BitVec 32) (s : State) : Within 8555639262 s (nextOr s (execTierFlush src value s)) := by
  unfold execTierFlush
  refine .mk_next ?_
  refine .step ?_ (within_write32 ..)
  exact .refl ..

theorem within_execTierInvalidate (src : RegSrc) (value : BitVec 32) (s : State) : Within 8555639262 s (nextOr s (execTierInvalidate src value s)) := by
  unfold execTierInvalidate
  refine .mk_next ?_
  refine .step ?_ (within_write32 ..)
  exact .refl ..

theorem within_execTileArrInj (src : RegSrc) (phys : Nat) (value : BitVec 32) (s : State) : Within 8555639262 s (nextOr s (execTileArrInj src phys value s)) := by
  unfold execTileArrInj
  refine .ite_on ?_ ?_
  · refine .mk_next ?_
    exact .refl ..
  · refine .mk_next ?_
    refine .step ?_ (within_write32 ..)
    exact .refl ..

theorem within_execWinClose (src : RegSrc) (slot : Nat) (value : BitVec 32) (s : State) : Within 8555639262 s (nextOr s (execWinClose src slot value s)) := by
  unfold execWinClose
  refine .ite_on ?_ ?_
  · refine .mk_next ?_
    exact .refl ..
  · refine .mk_next ?_
    refine .step ?_ (within_write32 ..)
    exact .refl ..

theorem within_execWinOpen (src : RegSrc) (slot : Nat) (value : BitVec 32) (s : State) : Within 8555639262 s (nextOr s (execWinOpen src slot value s)) := by
  unfold execWinOpen
  refine .ite_on ?_ ?_
  · refine .mk_next ?_
    exact .refl ..
  · refine .mk_next ?_
    refine .step ?_ (within_write32 ..)
    exact .refl ..

theorem within_execWrite (bad : List Nat) (s : State) : Within 8555639262 s (nextOr s (execWrite bad s)) := by
  unfold execWrite
  refine .ite_on ?_ ?_
  · refine .mk_next ?_
    refine .step ?_ (within_recvWrite ..)
    exact .refl ..
  · refine .mk_next ?_
    exact .refl ..

theorem within_mgmod (s : State) (f : MgmtState → MgmtState) : Within 128 s (s.mgmod f) := by
  unfold State.mgmod
  refine .upd s 128 ?_
  exact .refl ..

theorem within_selectMode (s : State) (m : Nat) : Within 130 s (s.selectMode m) := by
  unfold State.selectMode
  refine .ite ?_ ?_
  · refine .step ?_ (within_capChange ..)
    refine .step ?_ (within_mgmod ..)
    exact .refl ..
  · exact .refl ..

theorem within_mgmtStart (s : State) (a : Nat) : Within 130 s (s.mgmtStart a) := by
  unfold State.mgmtStart
  refine .ite ?_ ?_
  · refine .step ?_ (within_selectMode ..)
    exact .refl ..
  · exact .refl ..

theorem within_keepReply {n : Nat} {s : State} {r : List Byte × State} (h : Within n s r.2) (hm : 128 ||| n = n := by decide) : Within n s (keepReply r) :=
  h.step (within_mgmod ..) hm

theorem within_mgmtRead (s : State) (reader : ReadBy) (offset : Nat) (size : Nat) : Within 1073741954 s (s.mgmtRead reader offset size) := by
  unfold State.mgmtRead
  refine .ite ?_ ?_
  · exact .refl ..
  · split
    · rename_i v1
      refine within_keepReply ?_
      · refine .step ?_ (within_serialRead ..)
        exact .refl ..
    · rename_i v2 v3 v4
      extract_lets +onlyGivenNames x5
      have h6 : Within 1073741954 s x5 := by
        subst x5
        refine .step ?_ (within_mgmtStart ..)
        exact .refl ..
      clear_value x5
      refine .ite ?_ ?_
      · assumption
      · split
        · rename_i v7 v8 h9
          refine .step ?_ (within_count ..)
          assumption
        · rename_i v10 h11
          refine within_keepReply ?_
          · refine .step ?_ (within_serialRead ..)
            assumption

theorem within_mgmtWrite (s : State) (a : Nat) (check : MgmtCheck) (offset : Nat) (size : Nat) (data : Word) : Within 8555639262 s (s.mgmtWrite a check offset size data) := by
  unfold State.mgmtWrite
  refine .ite ?_ ?_
  · exact .refl ..
  · extract_lets +onlyGivenNames x1
    have h2 : Within 8555639262 s x1 := by
      subst x1
      refine .step ?_ (within_mgmtStart ..)
      exact .refl ..
    clear_value x1
    refine .ite ?_ ?_
    · assumption
    · split
      · rename_i v3 v4 h5
        refine .step ?_ (within_count ..)
        assumption
      · rename_i v6 h7
        refine .step ?_ (within_serialWrite ..)
        assumption

theorem within_tapLoad (s : State) (i : TapInstr) (pins : Bool) : Within 128 s (s.tapLoad i pins) := by
  unfold State.tapLoad
  refine .ite ?_ ?_
  · exact .refl ..
  · refine .step ?_ (within_mgmod ..)
    exact .refl ..

theorem within_execAlertResponse (s : State) : Within 128 s (nextOr s (execAlertResponse s)) := by
  unfold execAlertResponse
  refine .ite_on ?_ ?_
  · refine .mk_next ?_
    exact .refl ..
  · refine .mk_next ?_
    refine .step ?_ (within_mgmod ..)
    exact .refl ..

theorem within_execBypass (s : State) : Within 128 s (nextOr s (execBypass s)) := by
  unfold execBypass
  refine .mk_next ?_
  refine .step ?_ (within_tapLoad ..)
  exact .refl ..

theorem within_execCcc (kind : CccKind) (s : State) : Within 130 s (nextOr s (execCcc kind s)) := by
  unfold execCcc
  refine .ite_on ?_ ?_
  · refine .mk_next ?_
    exact .refl ..
  · extract_lets +onlyGivenNames x1
    have h2 : Within 130 s x1 := by
      subst x1
      refine .step ?_ (within_selectMode ..)
      exact .refl ..
    clear_value x1
    refine .ite_on ?_ ?_
    · refine .mk_next ?_
      assumption
    · split
      · rename_i v3 v4 v5
        refine .ite_on ?_ ?_
        · refine .mk_next ?_
          refine .step ?_ (within_mgmod ..)
          assumption
        · refine .mk_next ?_
          assumption
      · rename_i v6 v7
        refine .ite_on ?_ ?_
        · refine .mk_next ?_
          refine .step ?_ (within_mgmod ..)
          assumption
        · refine .mk_next ?_
          assumption
      · rename_i v8
        refine .mk_next ?_
        assumption

theorem within_execClamp (s : State) : Within 128 s (nextOr s (execClamp s)) := by
  unfold execClamp
  refine .mk_next ?_
  refine .step ?_ (within_tapLoad ..)
  exact .refl ..

theorem within_execExtest (s : State) : Within 128 s (nextOr s (execExtest s)) := by
  unfold execExtest
  refine .mk_next ?_
  refine .step ?_ (within_tapLoad ..)
  exact .refl ..

theorem within_execExtestPulse (s : State) : Within 128 s (nextOr s (execExtestPulse s)) := by
  unfold execExtestPulse
  refine .mk_next ?_
  refine .step ?_ (within_tapLoad ..)
  exact .refl ..

theorem within_execExtestTrain (s : State) : Within 128 s (nextOr s (execExtestTrain s)) := by
  unfold execExtestTrain
  refine .mk_next ?_
  refine .step ?_ (within_tapLoad ..)
  exact .refl ..

theorem within_execHighz (s : State) : Within 128 s (nextOr s (execHighz s)) := by
  unfold execHighz
  refine .mk_next ?_
  refine .step ?_ (within_tapLoad ..)
  exact .refl ..

theorem within_execIdcode (s : State) : Within 128 s (nextOr s (execIdcode s)) := by
  unfold execIdcode
  refine .mk_next ?_
  refine .step ?_ (within_tapLoad ..)
  exact .refl ..

theorem within_execRead32 (reader : ReadBy) (offset : Nat) (s : State) : Within 1073741954 s (nextOr s (execRead32 reader offset s)) := by
  unfold execRead32
  refine .mk_next ?_
  refine .step ?_ (within_mgmtRead ..)
  exact .refl ..

theorem within_execRead64 (reader : ReadBy) (offset : Nat) (s : State) : Within 1073741954 s (nextOr s (execRead64 reader offset s)) := by
  unfold execRead64
  refine .mk_next ?_
  refine .step ?_ (within_mgmtRead ..)
  exact .refl ..

theorem within_execSamplePreload (s : State) : Within 128 s (nextOr s (execSamplePreload s)) := by
  unfold execSamplePreload
  refine .mk_next ?_
  refine .step ?_ (within_tapLoad ..)
  exact .refl ..

theorem within_execTrstN (low : Bool) (s : State) : Within 128 s (nextOr s (execTrstN low s)) := by
  unfold execTrstN
  refine .ite_on ?_ ?_
  · refine .mk_next ?_
    refine .step ?_ (within_mgmod ..)
    exact .refl ..
  · refine .mk_next ?_
    refine .step ?_ (within_mgmod ..)
    exact .refl ..

theorem within_execWrite32 (addr : Nat) (check : MgmtCheck) (offset : Nat) (data : BitVec 32) (s : State) : Within 8555639262 s (nextOr s (execWrite32 addr check offset data s)) := by
  unfold execWrite32
  refine .mk_next ?_
  refine .step ?_ (within_mgmtWrite ..)
  exact .refl ..

theorem within_execWrite64 (addr : Nat) (check : MgmtCheck) (offset : Nat) (data : Word) (s : State) : Within 8555639262 s (nextOr s (execWrite64 addr check offset data s)) := by
  unfold execWrite64
  refine .mk_next ?_
  refine .step ?_ (within_mgmtWrite ..)
  exact .refl ..

end Sys2Proof.Machine
end

