-- ==== Sys2Proof/Laws/Life.lean ====
section
/-! SUPPORT. What the end of a command's execution does to the journal: `finish`, `settle` and the release of a ring's held commits (R3, R180, R184). -/

set_option Elab.async false

namespace Sys2Proof.Machine

theorem Within.journal_eq {m : Nat} {s t : State} (h : Within m s t) (hm : m.testBit 4 = false := by decide) : t.journal = s.journal := h.same .journal hm

theorem Within.cmd_eq {m : Nat} {s t : State} (h : Within m s t) (j : Nat) (hm : m.testBit 4 = false := by decide) : t.cmd j = s.cmd j := by
  unfold State.cmd
  rw [h.journal_eq hm]

theorem Within.rb_eq {m : Nat} {s t : State} (h : Within m s t) (a : Nat) (hm : m.testBit 2 = false := by decide) : t.rb a = s.rb a := by
  unfold State.rb
  rw [show t.mem = s.mem from h.same .mem hm]

theorem Within.reg_eq {m : Nat} {s t : State} (h : Within m s t) (a : Nat) (hm : m.testBit 1 = false := by decide) : t.reg a = s.reg a := by
  unfold State.reg
  rw [show t.regs = s.regs from h.same .regs hm]

/-- What becomes of a command's journal entry when its commit is applied. -/
def JEntry.settledWith (e x : JEntry) (n : Nat) : JEntry :=
  { x with st := (if e.refusal.isSome ∨ e.st = .accepted then x.st else .committed), status := n, settled := true, reported := true, unit := .none, resv := [] }

/-- A command's commit changes its own journal entry and no other. -/
theorem cmd_settleOne (s : State) (j : Nat) (e : JEntry) (n i : Nat) :
    (s.settleOne j e n).cmd i = if i = j then (s.cmd j).map (fun x => { x with st := (if x.refusal.isSome ∨ x.st = .accepted then x.st else .committed), status := n, settled := true, reported := true, unit := .none, resv := [] }) else s.cmd i := by
  unfold State.settleOne
  have key : ∀ t : State, t.journal = s.journal → (t.jmod j (fun e => { e with st := (if e.refusal.isSome ∨ e.st = .accepted then e.st else .committed), status := n, settled := true, reported := true, unit := .none, resv := [] })).cmd i
      = if i = j then (s.cmd j).map (fun x => { x with st := (if x.refusal.isSome ∨ x.st = .accepted then x.st else .committed), status := n, settled := true, reported := true, unit := .none, resv := [] }) else s.cmd i := by
    intro t ht
    by_cases hi : i = j
    · subst hi
      rw [cmd_jmod_same, if_pos rfl]
      unfold State.cmd
      rw [ht]
    · rw [cmd_jmod_other _ _ hi, if_neg hi]
      unfold State.cmd
      rw [ht]
  apply key
  split
  · have h1 := within_signalMarks (s.controlCommit e) e.dstTile e.sigs
    have h0 := within_controlCommit s e
    have h2 : ∀ t : State, t.journal = s.journal → (if e.isStream then t.commitResv e.tile j e.words else t).journal = s.journal := by
      intro t ht
      split
      · rw [(within_commitResv t e.tile j e.words).journal_eq, ht]
      · exact ht
    have h3 : ∀ t : State, t.journal = s.journal → (if e.onTile ∧ e.give.n ≠ 0 then t.giveCredit e.tile e.give.idx e.give.n else t).journal = s.journal := by
      intro t ht
      split
      · rw [(within_giveCredit t e.tile e.give.idx e.give.n).journal_eq, ht]
      · exact ht
    apply h3
    apply h2
    rw [h1.journal_eq, h0.journal_eq]
  · rw [(within_poisonSignals _ e).journal_eq, (within_dropResv s j).journal_eq]

/-- Entry `e'` has what `e` ended with. -/
structure JEntry.SameEnd (e e' : JEntry) : Prop where
  fin : e'.fin = e.fin
  res0 : e'.res0 = e.res0
  res1 : e'.res1 = e.res1
  words : e'.words = e.words
  parent : e'.parent = e.parent
  ring : e'.ring = e.ring
  idx : e'.idx = e.idx
  target : e'.target = e.target
  disp : e'.disp = e.disp

theorem JEntry.SameEnd.refl (e : JEntry) : e.SameEnd e := ⟨rfl, rfl, rfl, rfl, rfl, rfl, rfl, rfl, rfl⟩

theorem JEntry.SameEnd.trans {a b c : JEntry} (h : a.SameEnd b) (k : b.SameEnd c) : a.SameEnd c :=
  ⟨k.fin.trans h.fin, k.res0.trans h.res0, k.res1.trans h.res1, k.words.trans h.words, k.parent.trans h.parent, k.ring.trans h.ring, k.idx.trans h.idx, k.target.trans h.target, k.disp.trans h.disp⟩

/-- A command of the host that has ended, and no instance of a job, stays in the journal with what it ended with. -/
def State.KeepsEnded (s t : State) : Prop :=
  ∀ j e, s.cmd j = some e → e.fin.isSome → e.parent = 0 → ∃ e', t.cmd j = some e' ∧ e.SameEnd e'

theorem State.KeepsEnded.refl (s : State) : s.KeepsEnded s := fun _ e h _ _ => ⟨e, h, .refl e⟩

theorem State.KeepsEnded.trans {a b c : State} (h : a.KeepsEnded b) (k : b.KeepsEnded c) : a.KeepsEnded c := by
  intro j e he hf hp
  obtain ⟨e1, h1, s1⟩ := h j e he hf hp
  obtain ⟨e2, h2, s2⟩ := k j e1 h1 (by rw [s1.fin]; exact hf) (by rw [s1.parent]; exact hp)
  exact ⟨e2, h2, s1.trans s2⟩

theorem State.KeepsEnded.of_journal {s t : State} (h : t.journal = s.journal) : s.KeepsEnded t := by
  intro j e he _ _
  exact ⟨e, by unfold State.cmd at *; rw [h]; exact he, .refl e⟩

theorem keepsEnded_jmod (s : State) (j : Nat) (f : JEntry → JEntry) (hf : ∀ e : JEntry, e.fin.isSome → e.parent = 0 → e.SameEnd (f e)) : s.KeepsEnded (s.jmod j f) := by
  intro i e he h1 h2
  by_cases hi : i = j
  · subst hi
    exact ⟨f e, by rw [cmd_jmod_same, he]; rfl, hf e h1 h2⟩
  · exact ⟨e, by rw [cmd_jmod_other _ _ hi]; exact he, .refl e⟩

theorem keepsEnded_settleOne (s : State) (j : Nat) (e : JEntry) (n : Nat) : s.KeepsEnded (s.settleOne j e n) := by
  intro i x hx h1 h2
  rw [cmd_settleOne]
  by_cases hi : i = j
  · subst hi
    rw [if_pos rfl, hx]
    exact ⟨_, rfl, ⟨rfl, rfl, rfl, rfl, rfl, rfl, rfl, rfl, rfl⟩⟩
  · rw [if_neg hi]
    exact ⟨x, hx, .refl x⟩

theorem keepsEnded_releaseBufs (s : State) (j : Nat) (p : HeldBuf → Bool) : s.KeepsEnded (s.releaseBufs j p) := .of_journal (within_releaseBufs s j p).journal_eq

theorem keepsEnded_failRoute (s : State) (j : Nat) : s.KeepsEnded (s.failRoute j) := by
  unfold State.failRoute
  split
  · rename_i e r he hr
    split
    · exact .refl _
    · rename_i hn
      refine .trans ?_ (.of_journal (within_routeMod _ _ _).journal_eq)
      refine .trans ?_ (keepsEnded_settleOne _ _ _ _)
      intro i x hx h1 h2
      have hij : i ≠ j := by
        intro hij
        subst hij
        rw [he] at hx
        cases hx
        exact hn (Or.inr (Or.inl h1))
      exact ⟨x, by rw [cmd_jmod_other _ _ hij, (within_releaseBufs s j (fun _ => true)).cmd_eq]; exact hx, .refl x⟩
  · exact .refl _

/-- An instance's report takes its own entry out and leaves every ended command of the host alone. -/
theorem keepsEnded_reportInstance (s : State) (j : Nat) (e : JEntry) (n : Nat) (h : ∀ x, s.cmd j = some x → x.parent ≠ 0) : s.KeepsEnded (s.reportInstance j e n) := by
  unfold State.reportInstance
  refine .trans ?_ (keepsEnded_failRoute _ _)
  intro i x hx h1 h2
  have hij : i ≠ j := by
    intro hij
    subst hij
    exact h x hx h2
  refine ⟨x, ?_, .refl x⟩
  show sfind (serase _ j) i = some x
  rw [sfind_serase_other _ hij]
  exact hx

theorem keepsEnded_settle (s : State) (j : Nat) (e : JEntry) (n : Nat) (h : ∀ x, s.cmd j = some x → x.parent = e.parent) : s.KeepsEnded (s.settle j e n) := by
  unfold State.settle
  dsimp only
  split
  · exact keepsEnded_settleOne _ _ _ _
  · rename_i hp
    refine .trans (keepsEnded_settleOne s j e n) (keepsEnded_reportInstance _ _ _ _ ?_)
    intro x hx
    rw [cmd_settleOne, if_pos rfl] at hx
    cases hc : s.cmd j with
    | none => rw [hc] at hx; cases hx
    | some y => rw [hc] at hx; cases hx; exact fun h0 => hp (by rw [← h y hc]; exact h0)

/-- No entry of `t`'s journal is new, and none has another source. -/
def State.ParentsKept (s t : State) : Prop := ∀ i y, t.cmd i = some y → ∃ x, s.cmd i = some x ∧ y.parent = x.parent

theorem State.ParentsKept.of_journal {s t : State} (h : t.journal = s.journal) : s.ParentsKept t :=
  fun i y hy => ⟨y, by unfold State.cmd at *; rw [← h]; exact hy, rfl⟩

theorem State.ParentsKept.trans {a b c : State} (h : a.ParentsKept b) (k : b.ParentsKept c) : a.ParentsKept c := by
  intro i y hy
  obtain ⟨x, hx, e1⟩ := k i y hy
  obtain ⟨w, hw, e2⟩ := h i x hx
  exact ⟨w, hw, e1.trans e2⟩

theorem parentsKept_settleOne (s : State) (j : Nat) (e : JEntry) (n : Nat) : s.ParentsKept (s.settleOne j e n) := by
  intro i y hy
  rw [cmd_settleOne] at hy
  split at hy
  · rename_i hi
    subst hi
    cases hc : s.cmd i with
    | none => rw [hc] at hy; cases hy
    | some x => rw [hc] at hy; cases hy; exact ⟨x, rfl, rfl⟩
  · exact ⟨y, hy, rfl⟩

theorem parentsKept_jmod (s : State) (j : Nat) (f : JEntry → JEntry) (hf : ∀ e : JEntry, (f e).parent = e.parent) : s.ParentsKept (s.jmod j f) := by
  intro i y hy
  by_cases hi : i = j
  · subst hi
    rw [cmd_jmod_same] at hy
    cases hc : s.cmd i with
    | none => rw [hc] at hy; cases hy
    | some x => rw [hc] at hy; cases hy; exact ⟨x, rfl, hf x⟩
  · rw [cmd_jmod_other _ _ hi] at hy
    exact ⟨y, hy, rfl⟩

theorem parentsKept_failRoute (s : State) (j : Nat) : s.ParentsKept (s.failRoute j) := by
  unfold State.failRoute
  split
  · split
    · exact .of_journal rfl
    · refine .trans ?_ (.of_journal (within_routeMod _ _ _).journal_eq)
      refine .trans ?_ (parentsKept_settleOne _ _ _ _)
      exact .trans (.of_journal (within_releaseBufs s j (fun _ => true)).journal_eq) (parentsKept_jmod _ _ _ (fun _ => rfl))
  · exact .of_journal rfl

theorem parentsKept_settle (s : State) (j : Nat) (e : JEntry) (n : Nat) : s.ParentsKept (s.settle j e n) := by
  unfold State.settle
  dsimp only
  split
  · exact parentsKept_settleOne _ _ _ _
  · refine .trans (parentsKept_settleOne s j e n) ?_
    unfold State.reportInstance
    refine .trans ?_ (parentsKept_failRoute _ _)
    intro i y hy
    by_cases hi : i = j
    · subst hi
      exfalso
      have : sfind (serase (s.settleOne i e n).journal i) i = some y := hy
      rw [sfind_serase_same] at this
      cases this
    · refine ⟨y, ?_, rfl⟩
      have : sfind (serase (s.settleOne j e n).journal j) i = some y := hy
      rw [sfind_serase_other _ hi] at this
      exact this

/-- A table's entries are what it finds under their keys. -/
theorem sfind_of_mem {β : Type} {l : SMap β} {k : Nat} {v : β} (h : srises l = true) (hm : (k, v) ∈ l) : sfind l k = some v := by
  have from_ : ∀ (l : SMap β) (lo : Nat), srisesFrom lo l = true → (k, v) ∈ l → lo < k ∧ sfind l k = some v := by
    intro l
    induction l with
    | nil => intro _ _ hm; cases hm
    | cons e r ih =>
      intro lo h hm
      obtain ⟨k', v'⟩ := e
      simp only [srisesFrom, Bool.and_eq_true, decide_eq_true_eq] at h
      cases List.mem_cons.mp hm with
      | inl he =>
        cases he
        exact ⟨h.1, by simp [sfind]⟩
      | inr hr =>
        obtain ⟨h1, h2⟩ := ih k' h.2 hr
        refine ⟨by omega, ?_⟩
        simp only [sfind]
        rw [if_neg (by omega), h2]
  cases l with
  | nil => cases hm
  | cons e r =>
    obtain ⟨k', v'⟩ := e
    simp only [srises] at h
    cases List.mem_cons.mp hm with
    | inl he =>
      cases he
      simp [sfind]
    | inr hr =>
      obtain ⟨h1, h2⟩ := from_ r k' h hr
      simp only [sfind]
      rw [if_neg (by omega), h2]

theorem keepsEnded_settleFrom (l : List (Nat × JEntry)) (s : State) (h : ∀ p ∈ l, ∀ x, s.cmd p.1 = some x → x.parent = p.2.parent) : s.KeepsEnded (s.settleFrom l) := by
  induction l generalizing s with
  | nil => exact .refl s
  | cons p r ih =>
    obtain ⟨j, e⟩ := p
    unfold State.settleFrom
    split
    · rename_i n _
      refine .trans (keepsEnded_settle s j e n (h (j, e) (List.mem_cons_self ..))) (ih _ ?_)
      intro p hp x hx
      obtain ⟨y, hy, e1⟩ := parentsKept_settle s j e n p.1 x hx
      exact e1.trans (h p (List.mem_cons_of_mem _ hp) y hy)
    · exact .refl s

theorem keepsEnded_settleRing (s : State) (r : Nat) (h : srises s.journal = true) : s.KeepsEnded (s.settleRing r) := by
  refine keepsEnded_settleFrom _ s ?_
  intro p hp x hx
  have : sfind s.journal p.1 = some p.2 := sfind_of_mem h (List.mem_filter.mp hp).1
  rw [State.cmd, this] at hx
  cases hx
  rfl

/-- A command of the host that had not ended ends with the status and the result given, and stays in the journal until its completion. -/
theorem finish_cmd (s : State) (j : Nat) (st : Status) (r0 r1 : Word) (e : JEntry) (hw : srises s.journal = true) (h : s.cmd j = some e) (hf : e.fin = none) (hp : e.parent = 0) :
    ∃ e', (s.finish j st r0 r1).cmd j = some e' ∧ e'.fin = some st.num ∧ e'.res0 = r0 ∧ e'.res1 = r1 ∧ e'.words = e.words ∧ e'.parent = 0 ∧ e'.ring = e.ring ∧ e'.idx = e.idx := by
  unfold State.finish
  rw [h]
  simp only [hf, Option.isSome_none, Bool.false_eq_true, if_false]
  generalize hx : (if e.isStream = true then _ else _ : State) = x
  have hxj : x.journal = (s.jmod j (fun e => { e with fin := some st.num, res0 := r0, res1 := r1, unit := if e.onTile then e.unit else .none })).journal := by
    rw [← hx]
    split
    · exact (within_unpinAll _ j).journal_eq
    · rfl
  have hxw : srises x.journal = true := by
    rw [hxj]
    exact srises_smodify _ _ hw
  have hxc : x.cmd j = some { e with fin := some st.num, res0 := r0, res1 := r1, unit := if e.onTile then e.unit else .none } := by
    unfold State.cmd
    rw [hxj]
    show (s.jmod j _).cmd j = _
    rw [cmd_jmod_same, h]
    rfl
  split
  · have h2 : (x.jmod j (fun e => { e with unit := .none })).cmd j = some { e with fin := some st.num, res0 := r0, res1 := r1, unit := .none } := by
      rw [cmd_jmod_same, hxc]
      rfl
    obtain ⟨e', h3, h4⟩ := keepsEnded_settleRing (x.jmod j (fun e => { e with unit := .none })) e.tileRing (srises_smodify _ _ hxw) j _ h2 rfl hp
    exact ⟨e', h3, h4.fin, h4.res0, h4.res1, h4.words, h4.parent.trans hp, h4.ring, h4.idx⟩
  · obtain ⟨e', h3, h4⟩ := keepsEnded_settle x j { e with fin := some st.num } st.num (by intro y hy; rw [hxc] at hy; cases hy; rfl) j _ hxc rfl hp
    exact ⟨e', h3, h4.fin, h4.res0, h4.res1, h4.words, h4.parent.trans hp, h4.ring, h4.idx⟩

/-- A host operation or another command of no tile commits at once. -/
theorem finish_commits (s : State) (j : Nat) (st : Status) (r0 r1 : Word) (e : JEntry) (h : s.cmd j = some e) (hf : e.fin = none) (hp : e.parent = 0) (ht : e.onTile = false) :
    (s.finish j st r0 r1).cmd j = some { e with fin := some st.num, res0 := r0, res1 := r1, unit := .none, resv := [], status := st.num, settled := true, reported := true,
                                                st := if e.refusal.isSome ∨ e.st = .accepted then e.st else .committed } := by
  have hs : e.isStream = false := by unfold JEntry.isStream; rw [ht]; rfl
  unfold State.finish
  rw [h]
  simp only [hf, Option.isSome_none, Bool.false_eq_true, if_false, hs, ht, State.settle, hp, if_true]
  rw [cmd_settleOne, if_pos rfl, cmd_jmod_same, h]
  simp only [Option.map_some, hp]

end Sys2Proof.Machine
end

