-- ==== Sys2Proof/Laws/Events.lean ====
section
/-! SUPPORT. What raising an event, signalling a vector and recording a write may change, register by register (R478, R479, R565). -/

set_option Elab.async false

namespace Sys2Proof.Machine

/-- A register that no event, interrupt or completion entry writes. -/
structure Quiet (a : Nat) : Prop where
  evt : a ≠ Reg.GLB_EVTSUM
  mgt : a ≠ Reg.MGT_EVTSUM
  lost : a ≠ Reg.HIF_EVTLOST
  idx : ∀ c, a ≠ Reg.RING_IDX c
  pba : ∀ k, a ≠ Reg.MSIX_PBA k

theorem Quiet.of_range {a : Nat} (h1 : a ≠ 0x10100) (h2 : a < 0x30000 ∨ 0x31000 ≤ a) (h3 : a < 0xD0000 ∨ 0xF0000 ≤ a) (h4 : a < 0xF8000)  : Quiet a where
  evt := by simp only [Reg.GLB_EVTSUM]; omega
  mgt := by simp only [Reg.MGT_EVTSUM]; omega
  lost := by simp only [Reg.HIF_EVTLOST]; omega
  idx c := by simp only [Reg.RING_IDX]; omega
  pba k := by simp only [Reg.MSIX_PBA]; omega

theorem reg_setClass (s : State) (b : Nat) {a : Nat} (h : Quiet a) : (s.setClass b).reg a = s.reg a := by
  unfold State.setClass
  rw [(within_raiseIbi _).reg_eq, reg_setReg_other _ _ h.mgt, reg_setReg_other _ _ h.evt]

theorem reg_sendVector (s : State) (v : Nat) {a : Nat} (h : Quiet a) : (s.sendVector v).reg a = s.reg a := by
  unfold State.sendVector
  split
  · exact reg_setReg_other _ _ (h.pba _)
  · rfl

theorem reg_signal (s : State) (v : Nat) {a : Nat} (h : Quiet a) : (s.signal v).reg a = s.reg a := by
  unfold State.signal
  split
  · rfl
  · split
    · exact reg_sendVector s v h
    · rfl

theorem reg_signalRing (s : State) (c : Nat) {a : Nat} (h : Quiet a) : (s.signalRing c).reg a = s.reg a := by
  unfold State.signalRing
  rw [reg_signal _ _ h]
  rfl

theorem reg_writeEntry (s : State) (c : Nat) (w0 w1 w2 w3 : Word) (now : Bool) {a : Nat} (h : Quiet a) : (s.writeEntry c w0 w1 w2 w3 now).reg a = s.reg a := by
  have key : ∀ x : State, x.regs = ((s.tx (.write (s.slotAddr c (s.get (Fld.RING_IDX_IDX c)) 32) (bytesOfWords [putBits w0 63 1 (s.phase c (s.get (Fld.RING_IDX_IDX c))), w1, w2, w3]))).wrap (Fld.RING_IDX_IDX c) 1).regs →
      x.reg a = s.reg a := by
    intro x hx
    have : x.reg a = ((s.tx (.write (s.slotAddr c (s.get (Fld.RING_IDX_IDX c)) 32) (bytesOfWords [putBits w0 63 1 (s.phase c (s.get (Fld.RING_IDX_IDX c))), w1, w2, w3]))).wrap (Fld.RING_IDX_IDX c) 1).reg a := by
      unfold State.reg
      rw [hx]
    rw [this, reg_wrap_other _ _ (h.idx c)]
    rfl
  unfold State.writeEntry
  dsimp only
  split
  · rw [reg_signalRing _ _ h]
    exact key _ rfl
  · exact key _ rfl

theorem reg_raise (s : State) (e : Event) (inst : Nat) (d0 d1 : Word) {a : Nat} (h : Quiet a) : (s.raise e inst d0 d1).reg a = s.reg a := by
  unfold State.raise
  dsimp only
  split
  · exact reg_setClass _ _ h
  · split
    · split
      · unfold State.writeRecord
        rw [reg_writeEntry _ _ _ _ _ _ _ h, reg_setClass _ _ h]
      · show (s.setClass e.classBit).reg a = s.reg a
        exact reg_setClass _ _ h
    · rw [reg_setClass _ _ h, reg_set_other _ _ (show a ≠ Fld.HIF_EVTLOST_CODE.reg from h.lost), reg_count_other _ _ (show a ≠ Fld.HIF_EVTLOST_COUNT.reg from h.lost), reg_setClass _ _ h]

theorem get_raise (s : State) (e : Event) (inst : Nat) (d0 d1 : Word) {f : Fld} (h : Quiet f.reg) : (s.raise e inst d0 d1).get f = s.get f := by
  unfold State.get
  rw [reg_raise _ _ _ _ _ h]

theorem get_signal (s : State) (v : Nat) {f : Fld} (h : Quiet f.reg) : (s.signal v).get f = s.get f := by
  unfold State.get
  rw [reg_signal _ _ h]

/-! The class bits of GLB_EVTSUM (R479). -/

theorem bit_putBits_one (w : Word) (b c : Nat) (hb : b < 64) (hc : c < 64) : bit (putBits w b 1 1) c = (decide (c = b) || bit w c) := by
  unfold bit
  rw [getLsbD_putBits _ _ _ _ _ hc]
  by_cases h : c = b
  · subst h
    simp
  · rw [if_neg (by omega)]
    simp [h]

theorem classSet_setClass (s : State) (b c : Nat) (hb : b < 64) (hc : c < 64) : bit ((s.setClass b).reg Reg.GLB_EVTSUM) c = (decide (c = b) || bit (s.reg Reg.GLB_EVTSUM) c) := by
  unfold State.setClass
  rw [(within_raiseIbi _).reg_eq, reg_setReg_other _ _ (by decide), reg_setReg_same]
  exact bit_putBits_one _ _ _ hb hc

theorem classBit_lt (e : Event) : e.classBit < 64 := by cases e <;> decide

theorem evtsum_signal (s : State) (v : Nat) : (s.signal v).reg Reg.GLB_EVTSUM = s.reg Reg.GLB_EVTSUM := by
  unfold State.signal
  split
  · rfl
  · split
    · unfold State.sendVector
      split
      · exact reg_setReg_other _ _ (by simp only [Reg.GLB_EVTSUM, Reg.MSIX_PBA]; omega)
      · rfl
    · rfl

theorem evtsum_writeEntry (s : State) (c : Nat) (w0 w1 w2 w3 : Word) (now : Bool) : (s.writeEntry c w0 w1 w2 w3 now).reg Reg.GLB_EVTSUM = s.reg Reg.GLB_EVTSUM := by
  have key : ∀ (y : State) (x : HostTx), y.regs = ((s.tx x).wrap (Fld.RING_IDX_IDX c) 1).regs → y.reg Reg.GLB_EVTSUM = s.reg Reg.GLB_EVTSUM := by
    intro y x hy
    have : y.reg Reg.GLB_EVTSUM = ((s.tx x).wrap (Fld.RING_IDX_IDX c) 1).reg Reg.GLB_EVTSUM := by
      unfold State.reg
      rw [hy]
    rw [this, reg_wrap_other _ _ (show Reg.GLB_EVTSUM ≠ Reg.RING_IDX c by simp only [Reg.GLB_EVTSUM, Reg.RING_IDX]; omega)]
    rfl
  unfold State.writeEntry
  dsimp only
  split
  · unfold State.signalRing
    rw [evtsum_signal]
    exact key _ _ rfl
  · exact key _ _ rfl

/-- An event sets its class bit, and clears none. -/
theorem class_raise (s : State) (e : Event) (inst : Nat) (d0 d1 : Word) (c : Nat) (hc : c < 64) (h : c = e.classBit ∨ bit (s.reg Reg.GLB_EVTSUM) c = true) :
    bit ((s.raise e inst d0 d1).reg Reg.GLB_EVTSUM) c = true := by
  have h0 : bit ((s.setClass e.classBit).reg Reg.GLB_EVTSUM) c = true := by
    rw [classSet_setClass _ _ _ (classBit_lt e) hc]
    cases h with
    | inl h => simp [h]
    | inr h => simp [h]
  unfold State.raise
  dsimp only
  split
  · exact h0
  · split
    · split
      · unfold State.writeRecord
        rw [evtsum_writeEntry]
        exact h0
      · exact h0
    · rw [classSet_setClass _ _ _ (by decide) hc, reg_set_other _ _ (by decide), reg_count_other _ _ (by decide), h0, Bool.or_true]

/-! The change journal (R564). -/

theorem reg_record (s : State) (c : Change) {a : Nat} (h : a ≠ Reg.MGT_CHJNEXT) : (s.record_ c).reg a = s.reg a := by
  unfold State.record_
  dsimp only
  rw [reg_wrap_other _ _ (show a ≠ Fld.MGT_CHJNEXT_SEQ.reg from h)]
  rfl

end Sys2Proof.Machine
end

