-- ==== Sys2Proof/Tests/Slice0.lean ====
section
/-! SUPPORT. Tests: ill-formed commands that the check of operands refuses; the spec's worked examples; and a witness for the hypotheses of every statement that has some. -/

set_option linter.unusedVariables false
set_option maxRecDepth 4000
set_option Elab.async false

namespace Sys2Proof.Tests

open Sys2Proof.Machine

/-! Ill-formed terms: one for each check of `Instr.wf`. -/

theorem test_wf_units : [Instr.tileDispatch 64, .scrub 68 ⟨[], []⟩, .patrolScrub 20 ⟨[], []⟩, .chunkCopy 640 [], .flashStackRetired 4, .unitRetired 12, .stepClose 4 0, .stepClose 0 64,
    .railFault 7, .thermN 64 0, .fatal 0, .fatal 6].all (fun c => !c.wf) = true := by decide

theorem test_wf_rings_and_ports : [Instr.doorbell 16384 0 4 0, .completion 16384, .vote 8192, .portRetired 6, .laneRetired 0 8 0, .idle 0 ⟨0, 0, [], 0⟩, .winOpen (.host 0) 256 0,
    .resend 65536 0, .resend 0 256, .porstN true 4].all (fun c => !c.wf) = true := by decide

theorem test_wf_writers : [Instr.park (.host 65536) 0, .park (.mgmt 128) 0, .park (.remote 65536) 0, .park (.device 16 0 0) 0, .park (.device 0 16384 0) 0, .read32 (.mgmt 128 .good) 0,
    .write32 128 .good 0 0, .ccc (.setdasa 128 0), .ccc (.setdasa 0 128), .ccc (.entdaa 128), .herdCheck (.request (.host 65536) 0)].all (fun c => !c.wf) = true := by decide

/-! The spec's worked examples. -/

/-- 01: the tag of a token of sequence 3, position 1,048,577, micro-batch 5, sent to expert 713 in slot 2. -/
theorem test_copy_tag : copyTag (wordOf [(44, 20, 3), (22, 22, 1048577), (10, 8, 5)]) 2 713 = 0x0000_3400_0048_16C9 := by decide +kernel

/-- 10: the tag of token row 700's copy for expert 5. -/
theorem test_copy_tag_row : copyTag 0x0000_2008_CA00_0C00 1 5 = 0x0000_2008_CA04_0C05 := by decide +kernel

/-- 04, R109: amax 0.9 gives scale code 0x77, and 0.3 is stored as 0x6A and 0xE5. -/
theorem test_g8r : (let x := encodeG8R ([ofF32 0x3F666666, ofF32 0x3E99999A] ++ List.replicate 30 (ofF32 0)); (x.1, x.2.1.getD 1 0, x.2.2.1.getD 1 0)) = (0x77, 0x6A, 0xE5) := by decide +kernel

/-- 04: MXFP4 codes of 2.6 either side of f = 39,321, of 5.3 either side of 42,598, and of -0.2 either side of 26,214. -/
theorem test_mxfp4 : [(39320, 0x40266666), (39321, 0x40266666), (42597, 0x40A9999A), (42598, 0x40A9999A), (26213, 0xBE4CCCCD), (26214, 0xBE4CCCCD)].map
    (fun x => ((FmtRow.ofBuiltin 10 1).encodeElt x.1 (ofF32 (BitVec.ofNat 32 x.2))).1) = [5, 4, 7, 6, 9, 8] := by decide +kernel

/-- 10: the passes of the example's job, by tile, with each segment's expert, first row, rows and first copy. -/
theorem test_passes : (buildPasses 16 48 (fun x => (40 + x / 4, 192)) (fun x => [150, 130, 175, 40, 160, 520, 120, 30, 140, 110, 165, 0, 20, 148, 100, 40].getD x 0)).drop 4 =
    [⟨41, [⟨4, 0, 160, 0⟩]⟩, ⟨41, [⟨5, 0, 192, 0⟩]⟩, ⟨41, [⟨5, 0, 192, 192⟩]⟩, ⟨41, [⟨5, 0, 136, 384⟩]⟩, ⟨41, [⟨6, 0, 120, 0⟩]⟩, ⟨41, [⟨7, 0, 30, 0⟩]⟩, ⟨42, [⟨8, 0, 140, 0⟩]⟩, ⟨42, [⟨9, 0, 110, 0⟩]⟩,
      ⟨42, [⟨10, 0, 165, 0⟩]⟩, ⟨43, [⟨12, 0, 20, 0⟩, ⟨15, 20, 40, 0⟩]⟩, ⟨43, [⟨13, 0, 148, 0⟩]⟩, ⟨43, [⟨14, 0, 100, 0⟩]⟩] := by decide +kernel

/-- 11: the detector of the example: a mean of 3.91 above 1.5 × 2.40 skips with reason SPIKE. -/
theorem test_spike : (let r := decide_ ⟨0, 0xFFFFFFFF, 0x4050000000000000, 0x3FC00000, 0x3F7D70A4, 200, 4, 7⟩ ⟨false, false, 0x4094400000000000, 0x40DF47AE147AE148, 8192⟩ 0x4003333333333333 1850 0 7331 0
    (r.verdict, r.reason, r.g, r.a)) = (2, 3, 0x4042000000000000, 1850) := by decide +kernel

/-- 11: the next VOTE entry of the example: a mean of 2.38 applies, and A becomes 1,851. -/
theorem test_apply : (let r := decide_ ⟨0, 0xFFFFFFFF, 0x4050000000000000, 0x3FC00000, 0x3F7D70A4, 200, 4, 7⟩ ⟨false, false, 0x4094400000000000, 0x40D30A8F5C28F5C3, 8192⟩ 0x4003333333333333 1850 0 7332 0
    (r.verdict, r.reason, r.a)) = (1, 0, 1851) := by decide +kernel

/-- A running package: every unit up, logical tiles 0 to 3 on physical tiles 0 to 3. -/
def base : State := { State.reset with
  power := { PowerState.reset with phase := .running, down := [], flashStage := false },
  tileMap := (numsFrom 0 4).map some ++ List.replicate 60 none }
def flds (l : List (Fld × Nat)) (s : State) : State := l.foldl (fun s x => s.set x.1 x.2) s
def regs (l : List (Nat × Word)) (s : State) : State := l.foldl (fun s x => s.setReg x.1 x.2) s
/-- The PCIe link up, host memory open. -/
def linked (s : State) : State := { (flds [(Fld.HIF_STAT_LINKUP, 1), (Fld.HIF_STAT_BME, 1), (Fld.HIF_TAGS_LIMIT, 64)] s) with host := { s.host with msixEnable := true } }
/-- Submission ring 1 paired with completion ring 2. -/
def ringed (on : Nat) (s : State) : State := flds [(Fld.RING_CFG_ROLE 1, 1), (Fld.RING_CFG_PAIR 1, 2), (Fld.RING_CFG_LOG2SIZE 1, 4), (Fld.RING_CFG_ROLE 2, 2), (Fld.RING_CFG_LOG2SIZE 2, 4),
  (Fld.RING_CTL_ENABLE 1, on), (Fld.RING_CTL_ENABLE 2, 1)] s
def entry (t : Target) (ws : List Word) (st : CmdState) : JEntry :=
  ⟨1, 0, 0, false, 0, 0, t, 0, ws, 0, st, (if st = .accepted then 0 else 1), false, none, false, none, 0, false, false, 0, 0, .none, none, [], 0, [], [], false, false, []⟩
def with1 (j : Nat) (e : JEntry) (s : State) : State := { s with journal := sinsert s.journal j e }
def hosts (f : HostState → HostState) (s : State) : State := { s with host := f s.host }
def ws16 (l : List (Nat × Word)) : List Word := l.foldl (fun ws x => setAt ws x.1 x.2) (List.replicate 16 0)
def uda (a : Nat) : Word := wordOf [(16, 48, a / 16)]
def pad (n : Nat) : List Byte := (numsFrom 0 n).map (fun i => BitVec.ofNat 8 (i * 7 + 3))
/-- A host operation in the journal: its op and words. -/
def hostCmd (op : Nat) (l : List (Nat × Word)) (st : CmdState) : JEntry := entry .host (ws16 ((0, wordOf [(56, 8, op)]) :: l)) st
/-- A format table of one row, FP32. -/
def fmts (s : State) : State := { s with sections := [⟨4, 0, 0, List.replicate 64 0 ++ [1, 3, 0, 0, 0, 0, 0, 0]⟩] }
/-- A tile command of ring 0 at tile 0. -/
def tileCmd (kind op : Nat) (l : List (Nat × Word)) (st : CmdState) : JEntry := entry (.tileRing 0) (ws16 ((0, wordOf [(56, 8, kind), (48, 8, op)]) :: l)) st
def bound (s : State) : State := flds [(Fld.TILE_RINGBIND_VALID 0 0, 1), (Fld.TILE_RINGBIND_RING 0 0, 0)] s
def opn (base stride form : Nat) : Word := wordOf [(44, 20, base), (24, 20, stride), (17, 3, form)]
/-- An element or array command over one row of K = 2, N = 2. -/
def rows1 (m : Nat) (a b c d : Word) (l : List (Nat × Word)) : List (Nat × Word) :=
  [(4, wordOf [(40, 24, m), (16, 24, 2)]), (5, wordOf [(40, 24, 2)]), (6, a), (7, b), (8, c), (9, d), (12, 0x3F800000)] ++ l
/-- A STREAM of 8-bit elements, `n` a row, two rows of pitch 64, on channel 0. -/
def stream (op far n rows segrows fa : Nat) (l : List (Nat × Word)) : JEntry :=
  { tileCmd 4 op ([(4, wordOf [(60, 4, far), (57, 3, 2), (0, 40, 1)]), (5, wordOf [(48, 16, segrows), (42, 6, 7), (0, 40, n)]), (6, wordOf [(54, 10, 3), (49, 5, 2), (48, 1, 1)]),
    (10, wordOf [(39, 25, n), (14, 25, rows)]), (11, wordOf [(39, 25, 1), (14, 25, 1)]), (12, wordOf [(39, 25, 1), (14, 25, 1)]), (13, BitVec.ofNat 64 (fa / 16)), (14, wordOf [(24, 20, 4)])] ++ l) .dispatched
    with unit := .channel 0 }
def streaming (j : Nat) (e : JEntry) (r : StreamRun) (s : State) : State := { with1 j e s with streams := [(j, r)] }
def pools (n : Nat) (s : State) : State := flds [(Fld.TILE_CREDIT_COUNT 0 2, n)] s
/-- `n` zero bytes with little-endian words at offsets. -/
def secOf (n : Nat) (l : List (Nat × Word)) : List Byte := bytesOfWords ((numsFrom 0 (n / 8)).map (fun i => ((l.find? (fun x => x.1 == 8 * i)).map (·.2)).getD 0))
def withSec (t : Nat) (b : List Byte) (s : State) : State := { s with sections := ⟨t, 0, 0, b⟩ :: s.sections }
/-- One route plan: cluster 0, layer slot 2, two experts, one copy a token; both experts at tile 0. -/
def planSec : List Byte := secOf (0x200 + 144) [(0, 1), (64, wordOf [(56, 6, 2), (45, 11, 2), (40, 5, 1), (26, 11, 4)]), (72, wordOf [(49, 15, 8), (33, 16, 1), (17, 16, 1)]),
  (80, wordOf [(32, 32, 0x3F800000), (12, 20, 1)]), (88, wordOf [(32, 32, 0xC0000000), (0, 32, 0x40000000)]), (96, wordOf [(40, 24, 16), (16, 24, 20), (11, 5, 1)]), (104, wordOf [(40, 24, 32), (35, 5, 1)]), (120, uda 0x18000),
  (0x100, wordOf [(42, 8, 1), (34, 8, 255), (26, 8, 255), (20, 6, 5), (15, 5, 3)]), (0x120, wordOf [(42, 8, 1), (34, 8, 255), (26, 8, 255), (20, 6, 5), (15, 5, 3)]),
  (0x140, wordOf [(0, 32, 0x40000000)]), (0x148, wordOf [(32, 32, 0x3D800000), (0, 32, 0xBD800000)]),
  (0x210, wordOf [(56, 8, 2), (48, 8, 1)]), (0x230, wordOf [(40, 24, 4), (16, 24, 4)]), (0x240, wordOf [(44, 20, 0), (24, 20, 1), (17, 3, 1)]), (0x250, wordOf [(44, 20, 0x400), (24, 20, 1), (17, 3, 1)])]
/-- A pass record of capacity 8 and a weight record at tile 0. -/
def resvSec : List Byte := secOf 128 [(0, 2), (64, wordOf [(50, 8, 1), (36, 14, 0), (21, 15, 4), (20, 1, 1)]), (72, wordOf [(32, 24, 8)]), (96, wordOf [(50, 8, 2), (36, 14, 8), (21, 15, 4)])]
def planned (s : State) : State := fmts s |> fun s => withSec 6 planSec (withSec 0xC resvSec s)
/-- A route job of `m` tokens. -/
def rjCmd (dir m : Nat) (st : CmdState) : JEntry := entry (.drover 0) (ws16 [(0, wordOf [(54, 2, dir), (52, 2, 1), (44, 8, 1), (0, 32, 7)]), (1, 0x77), (4, wordOf [(49, 15, m)]), (5, uda 0x10000), (6, uda 0x11000), (7, uda 0x12000), (8, uda 0x13000), (9, uda 0x14000), (10, uda 0x15000)]) st
def job (r : RouteRun) (e : JEntry) (s : State) : State := { with1 5 e s with drover := { s.drover with jobs := [(5, r)] } }
/-- A herd of 4 × 4 × 4, this package at (x, y, z), every port UP. -/
def herd (x y z : Nat) (s : State) : State :=
  flds ((numsFrom 0 6).map (fun p => (Fld.LNK_STAT_STATE p, 2))) { s with image := some ⟨0, 0, 0, 64, 0, 0, 0, 0, 0, 1, herdOf x y z, 0, 0, 3, 3, 3, 0⟩ }
/-- One calendar entry; the Wheel LOCKED with its count from the herd, at revolution 9 and spoke `sp`. -/
def calendar (a b : Word) (sp : Nat) (s : State) : State :=
  withSec 8 (secOf 80 [(0, 1), (64, a), (72, b)]) (regs [(Reg.CAL_ENT 0, a), (Reg.CAL_ENT_8 0, b)] (flds [(Fld.WHL_STAT_STATE, 2), (Fld.WHL_STAT_COUNTSRC, 2), (Fld.WHL_NOW_REV, 9), (Fld.WHL_NOW_SPOKE, sp), (Fld.WHL_NOW_CYCLE, 0)] s))
def inbox (l : List Msg) (s : State) : State := { s with net := { s.net with inbox := l } }
def msgOf (src mtype : Nat) (ws : List Word) : Msg := { Msg.blank 0 src mtype with extra := ws }
/-- A rule record of kind `kind`: matrices of 1 × `k`, FIRST-copy row FP32. -/
def ruleRec (i kind ex k rst : Nat) (ca : Bool) : List (Nat × Word) :=
  let w (n : Nat) (v : Word) : Nat × Word := (64 + 160 * i + 8 * n, v)
  [w 0 (wordOf [(60, 4, kind), (44, 2, rst), (39, 4, if kind = 3 ∨ kind = 4 then 1 else 0), (27, 12, if kind = 4 then 1 else 0), (16, 11, ex), (7, 1, if ca then 1 else 0), (0, 6, 9)]), w 1 (wordOf [(47, 17, 1), (30, 17, k)]),
   w 2 (uda 0x20000), w 3 (uda 0x21000), w 4 (uda 0x25000), w 5 (uda 0x26000), w 6 (uda 0x27000), w 7 (uda 0x30000), w 8 (uda 0x40000), w 9 (uda 0x28000), w 10 (uda 0x28800), w 11 (uda 0x29000),
   w 12 (wordOf [(32, 32, 0x3DCCCCCD), (0, 32, 0x3C23D70A)]), w 13 (wordOf [(32, 32, 0x3F666666), (0, 32, 0x3F7D70A4)]), w 14 (wordOf [(32, 32, 0x322BCC77), (0, 32, 0x3F800000)]), w 15 (wordOf [(32, 32, 0x3FC00000), (0, 32, 0xBF000000)]), w 16 0]
/-- Rules 0 to 4: SGD, ORTHO, PRECOND, SGD over two experts, SGD with a copy to restore from. -/
def ruleSec : List Byte := secOf (64 + 800) ([(0, 5), (8, uda 0x100000)] ++ ruleRec 0 1 0 32 0 true ++ ruleRec 1 3 0 32 0 false ++ ruleRec 2 4 0 32 0 false ++ ruleRec 3 1 2 32 0 false ++ ruleRec 4 1 0 32 1 false)
def gHdr (v r sc : Nat) : List Byte := bytesOfWords [32, uda v, uda r, uda sc, 0, 0, 0, 0]
def ruled (s : State) : State := withSec 0xD ruleSec (fmts ((((((s.wbs 0x21000 (gHdr 0x22000 0x23000 0x24000)).wbs 0x27000 (gHdr 0x2B000 0x2C000 0x2D000)).wbs 0x22000 (pad 32)).wbs 0x24000 [0x80]).wbs 0x2B000 (pad 32)).wbs 0x20000 (pad 64)))
def swCmd (first n fin : Nat) (st : CmdState) : JEntry := entry (.sequencer 0) (ws16 [(0, wordOf [(56, 8, 1), (55, 1, fin), (0, 32, 7)]), (4, wordOf [(54, 10, first), (43, 11, n)]), (5, uda 0x2A000), (6, wordOf [(32, 32, 0x3F800000), (0, 32, 0x3F800000)])]) st
def sweeps (r : SweepRun) (e : JEntry) (s : State) : State := { with1 5 e s with sweep := { s.sweep with jobs := [(5, r)] } }
def voted (v : Nat) (s : State) : State := { s with net := { s.net with vote := { s.net.vote with log := [(⟨7, v, 0, 0, 0, 0, 0, 0, 1000⟩ : Verdict).words] } } }
/-- A good flit. -/
def flitOf (link exch : Word) (pl : List Byte) : Flit := let p := pl ++ List.replicate (232 - pl.length) 0; ⟨link, exch, p, fcrcOf link exch p⟩
def link (ft vc seq ses n : Nat) (l : List (Nat × Nat × Nat)) : Word := wordOf ([(32, 4, ft), (36, 2, vc), (52, 12, seq), (0, 8, ses), (12, 8, n)] ++ l)
def ctl (m : List Word) : Flit := flitOf (link 2 0 0 0 32 []) 0 (bytesOfWords m)
def port (p : Nat) (f : Port → Port) (s : State) : State := s.pmod p f
/-- Header words of an image: generation `gen`, flags `fl`. -/
def hdrWords (gen fl : Nat) : List Word := [wordOf [(32, 32, 0x4B484152), (24, 8, 1), (0, 16, 0x40)], wordOf [(16, 16, 0x1216)], 1, wordOf [(32, 32, gen), (0, 16, fl)], 2, 0, 0, 0]
def sec (t : Nat) (b : List Byte) : Section := ⟨t, 0, 0, b⟩
def mapSec : List Byte := secOf 576 [(0, 1)]
/-- 64 tile work rings, one a tile, from ring 16 on. -/
def ringSec : List Byte := secOf (16 + 16 * 66) ([(0, 66), (16, wordOf [(50, 14, 1), (32, 4, 1), (18, 14, 2)]), (32, wordOf [(50, 14, 2), (32, 4, 2), (7, 11, 0)])] ++ (numsFrom 0 64).map (fun t => (48 + 16 * t, wordOf [(50, 14, 16 + t), (32, 4, 4), (0, 7, t)])))
def startSec : List Byte := secOf (64 + 8 * 88) ([(0, 88)] ++ (numsFrom 0 20).map (fun i => (64 + 8 * i, wordOf [(60, 4, 1), (52, 8, i), (0, 20, 200)])) ++
  (numsFrom 0 4).map (fun i => (64 + 8 * (20 + i), wordOf [(60, 4, 2), (52, 8, i), (51, 1, 1), (0, 20, 10)])) ++ (numsFrom 0 64).map (fun i => (64 + 8 * (24 + i), wordOf [(60, 4, 3), (52, 8, i), (0, 20, 2)])))
def powSec : List Byte := secOf 256 [(0, wordOf [(32, 12, 50), (16, 12, 4), (0, 12, 1000)]), (8, wordOf [(8, 8, 105), (0, 8, 90)]), (16, wordOf [(8, 4, 0), (0, 5, 2)]), (64, wordOf [(16, 16, 400), (0, 16, 600)]), (72, wordOf [(16, 16, 1650), (0, 16, 800)])]
def partImage : List Byte := buildImage (hdrWords 6 256) [sec 0xC (secOf 96 [(0, 1), (64, wordOf [(50, 8, 1), (36, 14, 0), (21, 15, 8)])])]

theorem phys_ok {o : Option Nat} (h : o.all (fun p => decide (p < 68)) = true) : ∀ p, o = some p → p < 68 := by
  intro p e; subst e; simpa using h
/-- `Plain` in DRAM, decided. -/
def plainB (s : State) (a n k : Nat) : Bool := (decide (regionOf a = .dramA) || decide (regionOf a = .dramB)) && decide (s.dramRange a n = .served) && k == a
theorem plain_ok {s : State} {a n k : Nat} (h : plainB s a n k = true) : s.Plain a n k := by
  simp [plainB] at h; exact .inl ⟨h.1.1, h.1.2, h.2⟩
def cleanB (s : State) (a n k : Nat) : Bool := plainB s a n k && !s.poisonedIn k n
theorem clean_ok {s : State} {a n k : Nat} (h : cleanB s a n k = true) : s.Clean a n k := by
  simp [cleanB] at h; exact ⟨plain_ok h.1, h.2⟩
theorem cleanAll_ok {s : State} {l : List (Nat × Nat)} (h : l.all (fun x => cleanB s x.1 x.2 x.1) = true) : s.CleanAll l := by
  intro x hx; exact clean_ok (by simpa using (List.all_eq_true.mp h) x hx)
theorem below_ok {n : Nat} {p : Nat → Bool} (h : (List.range n).all p = true) : ∀ i, i < n → p i = true := by
  intro i hi; exact (List.all_eq_true.mp h) i (List.mem_range.mpr hi)
theorem map_ok {α : Type} {l : SMap α} {p : Nat → α → Bool} (h : l.all (fun x => p x.1 x.2) = true) : ∀ k v, sfind l k = some v → p k v = true := by
  intro k v e
  induction l with
  | nil => simp [sfind] at e
  | cons x r ih =>
    obtain ⟨a, b⟩ := x
    simp only [List.all_cons, Bool.and_eq_true] at h
    by_cases hk : a = k
    · simp [sfind, hk] at e; subst e; subst hk; exact h.1
    · simp [sfind, hk] at e; exact ih h.2 e
def placeSpec : Place → RegSpec
  | .at _ r => r
  | _ => ⟨0, 32, 0, 0, []⟩
def placeAt : Place → Nat
  | .at b _ => b
  | _ => 0
def det7 : Detector := { Detector.default with actions := 7, gnmax := 0x3FF0000000000000, ratio := 0x3F800000 }
theorem belowF_ok {n : Nat} {p : Nat → Bool} (h : (List.range n).all (fun i => !p i) = true) : ∀ i, i < n → p i = false := by
  intro i hi; simpa using (List.all_eq_true.mp h) i (List.mem_range.mpr hi)
theorem mem_ok {α : Type} {l : List α} {p : α → Bool} (h : l.all p = true) : ∀ x, x ∈ l → p x = true := by
  intro x hx; exact (List.all_eq_true.mp h) x hx
theorem opt_ok {α : Type} {o : Option α} {p : α → Bool} (h : o.all p = true) : ∀ x, o = some x → p x = true := by
  intro x e; subst e; simpa using h
theorem empty_ok {α : Type} {l : List α} {x : α} (h : l.isEmpty = true) : x ∉ l := by
  have := List.isEmpty_iff.mp h; subst this; simp
theorem first_ok {i m : Nat} (h : 4096 * i < m) (c : m ≤ 4096) : i = 0 := by omega
theorem ok_ok {ε α : Type} [BEq α] [LawfulBEq α] {x : Except ε α} {y : α} (h : (match x with | .ok z => z == y | .error _ => false) = true) : x = .ok y := by
  cases x <;> simp_all
theorem dir_ok {o : Option (Nat × DirEnt)} (h : o.any (fun x => decide (x.2.st = .clean ∨ x.2.st = .dirty ∨ x.2.st = .cleaning)) = true) :
    ∃ n x, o = some (n, x) ∧ (x.st = .clean ∨ x.st = .dirty ∨ x.st = .cleaning) := by
  cases o with
  | none => simp at h
  | some v => exact ⟨v.1, v.2, rfl, by simpa using h⟩
theorem votes_ok {o : Option Partial} {n : Nat} (h : o.all (fun p => (combineVotes (p.inputs.map (fun x => x.2))).all (fun c => c.uns)) = true) :
    ∀ p c, o = some p → n ≤ p.inputs.length → combineVotes (p.inputs.map (fun x => x.2)) = some c → c.uns = true := by
  intro p c e _ g
  exact opt_ok (p := fun c => c.uns) (opt_ok (p := fun p => (combineVotes (p.inputs.map (fun x => x.2))).all (fun c => c.uns)) h p e) c g
theorem cleanBelow_ok {s : State} {n : Nat} {f m k : Nat → Nat} (h : (List.range n).all (fun i => cleanB s (f i) (m i) (k i)) = true) : ∀ i, i < n → s.Clean (f i) (m i) (k i) :=
  fun i hi => clean_ok (below_ok (p := fun i => cleanB s (f i) (m i) (k i)) h i hi)
theorem cleanSpan_ok {s : State} {a b : Nat} {f m k : Nat → Nat} {P : Prop} {Q : Nat → Prop} (h : (List.range b).all (fun q => cleanB s (f q) (m q) (k q)) = true) (e : ¬ P) :
    ∀ q, a ≤ q → q < b → s.Clean (f q) (m q) (k q) ∧ (P → Q q) :=
  fun q _ hq => ⟨cleanBelow_ok h q hq, fun x => absurd x e⟩
theorem plainSpan_ok {s : State} {a b : Nat} {f m k g l : Nat → Nat} {P : Prop} {Q : Nat → Prop} (h : (List.range b).all (fun q => plainB s (f q) (m q) (k q) && !s.poisonedIn (g q) (l q)) = true)
    (e : ¬ P) : ∀ q, a ≤ q → q < b → s.Plain (f q) (m q) (k q) ∧ s.poisonedIn (g q) (l q) = false ∧ (P → Q q) := by
  intro q _ hq
  have x := below_ok (p := fun q => plainB s (f q) (m q) (k q) && !s.poisonedIn (g q) (l q)) h q hq
  simp at x
  exact ⟨plain_ok x.1, x.2, fun y => absurd y e⟩
theorem cleanMem_ok {α : Type} {s : State} {l : List α} {f m k : α → Nat} (h : l.all (fun x => cleanB s (f x) (m x) (k x)) = true) : ∀ x, x ∈ l → s.Clean (f x) (m x) (k x) :=
  fun x hx => clean_ok (mem_ok (p := fun x => cleanB s (f x) (m x) (k x)) h x hx)
theorem plainMem_ok {α : Type} {s : State} {l : List α} {f m k : α → Nat} (h : l.all (fun x => plainB s (f x) (m x) (k x)) = true) : ∀ x, x ∈ l → s.Plain (f x) (m x) (k x) :=
  fun x hx => plain_ok (mem_ok (p := fun x => plainB s (f x) (m x) (k x)) h x hx)
theorem plainSome_ok {s : State} {l : List (Nat × List Byte)} (h : l.all (fun w => plainB s w.1 w.2.length w.1) = true) : ∀ w, w ∈ l → ∃ k, s.Plain w.1 w.2.length k :=
  fun w hw => ⟨w.1, plain_ok (mem_ok (p := fun w => plainB s w.1 w.2.length w.1) h w hw)⟩
theorem combine_ok {s : State} {n : Nat} {f m k c d g e : Nat → Nat} (h : (List.range n).all (fun i => cleanB s (f i) (m i) (k i) && decide (c i ≤ d i) && plainB s (g i) (c i) (e i)) = true) :
    ∀ i, i < n → s.Clean (f i) (m i) (k i) ∧ c i ≤ d i ∧ s.Plain (g i) (c i) (e i) := by
  intro i hi
  have x := below_ok (p := fun i => cleanB s (f i) (m i) (k i) && decide (c i ≤ d i) && plainB s (g i) (c i) (e i)) h i hi
  simp at x
  exact ⟨clean_ok x.1.1, x.1.2, plain_ok x.2⟩
theorem flashAtoms_ok {s : State} {n : Nat} {f : Nat → Nat} (h : (List.range n).all (fun q => decide (regionOf (f q) = .flash) &&
      (s.dirOf (s.objectOf (frameOf (f q))).1).any (fun x => decide (x.2.st = .clean ∨ x.2.st = .dirty ∨ x.2.st = .cleaning))) = true) :
    ∀ q, q < n → regionOf (f q) = .flash ∧ ∃ i x, s.dirOf (s.objectOf (frameOf (f q))).1 = some (i, x) ∧ (x.st = .clean ∨ x.st = .dirty ∨ x.st = .cleaning) := by
  intro q hq
  have x := below_ok (p := fun q => decide (regionOf (f q) = .flash) &&
      (s.dirOf (s.objectOf (frameOf (f q))).1).any (fun x => decide (x.2.st = .clean ∨ x.2.st = .dirty ∨ x.2.st = .cleaning))) h q hq
  rw [Bool.and_eq_true] at x
  exact ⟨of_decide_eq_true x.1, dir_ok x.2⟩
theorem jobs_ok {α : Type} {l : List (Nat × α)} {f : Nat → Bool} {j : Nat} (h : l.all (fun y => y.1 == j || !f y.1) = true) : ∀ i x, (i, x) ∈ l → i ≠ j → f i = false := by
  intro i x hx hj
  have y := mem_ok (p := fun y : Nat × α => y.1 == j || !f y.1) h (i, x) hx
  simp [hj] at y; exact y
theorem oldest_ok {l : SMap DirEnt} {p n c : Nat} (h : l.all (fun x => decide (x.2.st = .relocated → x.2.pch = p → x.1 ≠ n → c < x.2.chunk)) = true) :
    ∀ m x, sfind l m = some x → x.st = .relocated → x.pch = p → m ≠ n → c < x.chunk :=
  fun m x e => of_decide_eq_true (map_ok (p := fun m x => decide (x.st = .relocated → x.pch = p → m ≠ n → c < x.chunk)) h m x e)

/-! Rings, host operations, completions, the mailbox. -/

namespace Ring

def R := ringed 1 (linked base)
def bare1 : State := flds [(Fld.RING_PROD_PROD 1, 1)] (hosts (fun h => { h with fetched := [(1, [ws16 [(0, wordOf [(56,8,2)]) , (1, 77)]])] }) R)
def C1 := with1 5 (hostCmd 1 [] .accepted) R
def D : State := { R with mem := ((numsFrom 4096 64).map (fun i => (i, BitVec.ofNat 8 (i % 200 + 1)))) }
def cp (st : CmdState) (op : Nat) := hostCmd op [(4, 0x10000), (5, uda 4096), (6, 32)] st
def done5 : JEntry := { hostCmd 1 [] .committed with settled := true, fin := some 1, status := 1 }
def HO (n m : Nat) : State := flds [(Fld.RING_MOD_HOLDOFF_US 2, 5), (Fld.RING_CFG_VECTOR 2, 3)] (hosts (fun h => { h with unsignalled := [(2, 4)] }) (regs [(Reg.MSIX_CTRL 3, m)] (flds [(Fld.HIF_STAT_LINKUP, n)] R)))

theorem wit_DoorbellRule :
    (∃ page : Nat, ∃ offset : Nat, ∃ size : Nat, ∃ data : Word, ∃ s : State, s.flag Fld.HIF_STAT_LINKUP = true ∧ s.flag Fld.HIF_STAT_D3 = false ∧ page < 16384 ∧ let v := bits data 0 32; let taken : Prop := offset = 0 ∧ (size = 4 ∨ size = 8) ∧ s.hostRingOn page = true ∧ (v + 2 ^ 32 - s.prod page) % 2 ^ 32 < 2 ^ 31 ∧ (s.role page = 1 → (v + 2 ^ 32 - s.ringIdx page) % 2 ^ 32 ≤ s.ringSize page) ∧ (s.role page = 2 → (s.ringIdx page + 2 ^ 32 - v) % 2 ^ 32 ≤ s.ringSize page); taken) ∧
    (∃ page : Nat, ∃ offset : Nat, ∃ size : Nat, ∃ data : Word, ∃ s : State, s.flag Fld.HIF_STAT_LINKUP = true ∧ s.flag Fld.HIF_STAT_D3 = false ∧ page < 16384 ∧ let v := bits data 0 32; let taken : Prop := offset = 0 ∧ (size = 4 ∨ size = 8) ∧ s.hostRingOn page = true ∧ (v + 2 ^ 32 - s.prod page) % 2 ^ 32 < 2 ^ 31 ∧ (s.role page = 1 → (v + 2 ^ 32 - s.ringIdx page) % 2 ^ 32 ≤ s.ringSize page) ∧ (s.role page = 2 → (s.ringIdx page + 2 ^ 32 - v) % 2 ^ 32 ≤ s.ringSize page); ¬ taken) :=
  ⟨⟨1, 0, 4, (0 : Word), ringed 1 (linked base), by decide +kernel, by decide +kernel, by decide +kernel, ⟨by decide +kernel, by decide +kernel, by decide +kernel, by decide +kernel, by decide +kernel, by decide +kernel⟩⟩,
   ⟨0, 0, 0, (0 : Word), ringed 1 (linked base), by decide +kernel, by decide +kernel, by decide +kernel, by decide +kernel⟩⟩

theorem wit_FetchReadsNextEntries : ∃ s : State, ∃ r : Nat, ∃ tag : Nat, (s.servedFrom s.host.rrFetch).find? s.wantsFetch = some r ∧ s.hostOpen = true ∧ s.live = true ∧ s.host.reads.length < s.readLimit ∧ s.freeTag = some tag :=
  ⟨flds [(Fld.RING_PROD_PROD 1, 3)] R, 1, 0, by decide +kernel, by decide +kernel, by decide +kernel, by decide +kernel, by decide +kernel⟩

theorem wit_HostReadsEnd :
    (∃ s : State, ∃ tag : Nat, ∃ r : Nat, ∃ start : Nat, ∃ n : Nat, ∃ fails : Nat, ∃ addr : Nat, ∃ data : List Byte, s.flag Fld.HIF_STAT_LINKUP = true ∧ s.power.porst = false ∧ sfind s.host.reads tag = some ⟨.fetch r start n fails, addr, 128 * n⟩ ∧ s.fetchLive r start n = true ∧ data.length = 128 * n) ∧
    (∃ s : State, ∃ tag : Nat, ∃ r : Nat, ∃ start : Nat, ∃ n : Nat, ∃ fails : Nat, ∃ addr : Nat, ∃ len : Nat, sfind s.host.reads tag = some ⟨.fetch r start n fails, addr, len⟩ ∧ s.fetchLive r start n = true ∧ s.get Fld.HIF_CTL_FETCHRETRY ≤ fails) ∧
    (∃ s : State, ∃ tag : Nat, ∃ r : Nat, ∃ start : Nat, ∃ n : Nat, ∃ fails : Nat, ∃ addr : Nat, ∃ len : Nat, sfind s.host.reads tag = some ⟨.fetch r start n fails, addr, len⟩ ∧ s.fetchLive r start n = true ∧ s.get Fld.HIF_CTL_FETCHRETRY ≤ fails ∧ s.flag Fld.HIF_STAT_LINKUP = true ∧ s.power.porst = false ∧ ∃ st : CplStatus, st ≠ .data) ∧
    (∃ s : State, ∃ tag : Nat, s.flag Fld.HIF_STAT_LINKUP = true ∧ nmem s.host.quarantined tag = true) ∧
    (∃ s : State, ∃ r : Nat, ∃ c : Nat, r < 16384 ∧ sfind s.host.failed r = some c ∧ c < 16) :=
  ⟨⟨flds [(Fld.RING_PROD_PROD 1, 1)] (hosts (fun h => { h with reads := [(0, ⟨.fetch 1 0 1 0, 4096, 128⟩)], fetching := [(1, 1)] }) R), 0, 1, 0, 1, 0, 4096, (pad 128), by decide +kernel, by decide +kernel, by decide +kernel, by decide +kernel, by decide +kernel⟩,
   ⟨flds [(Fld.RING_PROD_PROD 1, 1)] (hosts (fun h => { h with reads := [(0, ⟨.fetch 1 0 1 15, 4096, 128⟩)], fetching := [(1, 1)] }) R), 0, 1, 0, 1, 15, 4096, 128, by decide +kernel, by decide +kernel, by decide +kernel⟩,
   ⟨flds [(Fld.RING_PROD_PROD 1, 1)] (hosts (fun h => { h with reads := [(0, ⟨.fetch 1 0 1 15, 4096, 128⟩)], fetching := [(1, 1)] }) R), 0, 1, 0, 1, 15, 4096, 128, by decide +kernel, by decide +kernel, by decide +kernel, by decide +kernel, by decide +kernel, CplStatus.unsupported, by decide +kernel⟩,
   ⟨hosts (fun h => { h with quarantined := [3] }) R, 3, by decide +kernel, by decide +kernel⟩,
   ⟨hosts (fun h => { h with failed := [(1, 2)] }) R, 1, 2, by decide +kernel, by decide +kernel, by decide +kernel⟩⟩

theorem wit_AcceptanceJournals :
    (∃ s : State, ∃ r : Nat, ∃ ws : List Word, r < 16384 ∧ s.acceptOpen r = true ∧ s.ringHeadOf r = .host ws ∧ s.completionRoom r = true ∧ s.journalFull = false) ∧
    (∃ s : State, ∃ r : Nat, ∃ g : Group, ∃ ws : List Word, ∃ first : Bool, r < 16384 ∧ s.acceptOpen r = true ∧ s.ringHeadOf r = .command g ws first ∧ s.completionRoom r = true ∧ s.headRoom (.command g ws first) = true ∧ s.journalFull = false) ∧
    (∃ s : State, ∃ r : Nat, ∃ g : Group, ∃ ws : List Word, ∃ first : Bool, r < 16384 ∧ s.ringHeadOf r = .command g ws first ∧ g.count ≤ g.next + 1) ∧
    (∃ s : State, ∃ r : Nat, ∃ env : List Word, r < 16384 ∧ s.acceptOpen r = true ∧ s.ringHeadOf r = .bare env ∧ s.completionRoom r = true) :=
  ⟨⟨hosts (fun h => { h with fetched := [(1, [ws16 [(0, wordOf [(56,8,1)]) , (1, 77)]])] }) R, 1, (ws16 [(0, wordOf [(56,8,1)]) , (1, 77)]), by decide +kernel, by decide +kernel, by decide +kernel, by decide +kernel, by decide +kernel⟩,
   ⟨hosts (fun h => { h with groups := [(1, ⟨ws16 [(0, wordOf [(56,8,2), (34, 5, 2)]), (1, 9)], 0, 2, false⟩)], fetched := [(1, [ws16 [(0, 5)], ws16 []])] }) R, 1, ⟨ws16 [(0, wordOf [(56,8,2), (34, 5, 2)]), (1, 9)], 0, 2, false⟩, (ws16 [(0, 5)]), false, by decide +kernel, by decide +kernel, by decide +kernel, by decide +kernel, by decide +kernel, by decide +kernel⟩,
   ⟨hosts (fun h => { h with groups := [(1, ⟨ws16 [(0, wordOf [(56,8,2), (34, 5, 2)]), (1, 9)], 1, 2, false⟩)], fetched := [(1, [ws16 [(0, 5)], ws16 []])] }) R, 1, ⟨ws16 [(0, wordOf [(56,8,2), (34, 5, 2)]), (1, 9)], 1, 2, false⟩, (ws16 [(0, 5)]), false, by decide +kernel, by decide +kernel, by decide +kernel⟩,
   ⟨bare1, 1, (ws16 [(0, wordOf [(56,8,2)]) , (1, 77)]), by decide +kernel, by decide +kernel, by decide +kernel, by decide +kernel⟩⟩

theorem wit_RingControl :
    (∃ s : State, ∃ r : Nat, ∃ v : BitVec 32, r < 16384 ∧ s.power.porst = false ∧ s.isHostRing r = true ∧ s.flag (Fld.RING_CTL_ENABLE r) = false ∧ v.getLsbD 0 = true ∧ v.getLsbD 1 = false ∧ v.getLsbD 2 = false ∧ s.enableBad r = false) ∧
    (∃ s : State, ∃ r : Nat, ∃ v : BitVec 32, r < 16384 ∧ s.power.porst = false ∧ s.isHostRing r = true ∧ s.flag (Fld.RING_CTL_ENABLE r) = true ∧ v.getLsbD 0 = false ∧ v.getLsbD 1 = false ∧ v.getLsbD 2 = false ∧ s.disableBad r = false) ∧
    (∃ s : State, ∃ r : Nat, ∃ v : BitVec 32, r < 16384 ∧ s.power.porst = false ∧ s.isHostRing r = true ∧ v.getLsbD 0 = s.flag (Fld.RING_CTL_ENABLE r) ∧ v.getLsbD 2 = false ∧ s.get (Fld.RING_STAT_ERR r) ≠ 0) ∧
    (∃ s : State, ∃ r : Nat, ∃ v : BitVec 32, ∃ j : Nat, ∃ e : JEntry, s.Canonical ∧ r < 16384 ∧ s.power.porst = false ∧ s.isHostRing r = true ∧ v.getLsbD 0 = s.flag (Fld.RING_CTL_ENABLE r) ∧ v.getLsbD 1 = false ∧ s.cmd j = some e ∧ e.ring = r ∧ e.parent = 0 ∧ e.target = .host ∧ e.st = .accepted ∧ e.refusal = none ∧ e.fin = none ∧ sfind s.drover.jobs j = none) ∧
    (∃ s : State, ∃ j : Word, ∃ e : JEntry, s.power.porst = false ∧ s.cmd j.toNat = some e ∧ e.parent = 0 ∧ e.target = .host ∧ e.st = .accepted ∧ e.refusal = none ∧ e.fin = none) :=
  ⟨⟨ringed 0 (linked base), 1, (1 : BitVec 32), by decide +kernel, by decide +kernel, by decide +kernel, by decide +kernel, by decide +kernel, by decide +kernel, by decide +kernel, by decide +kernel⟩,
   ⟨ringed 0 (linked base), 2, (0 : BitVec 32), by decide +kernel, by decide +kernel, by decide +kernel, by decide +kernel, by decide +kernel, by decide +kernel, by decide +kernel, by decide +kernel⟩,
   ⟨flds [(Fld.RING_STAT_ERR 1, 2)] R, 1, (1 : BitVec 32), by decide +kernel, by decide +kernel, by decide +kernel, by decide +kernel, by decide +kernel, by decide +kernel⟩,
   ⟨C1, 1, (1 : BitVec 32), 5, (Option.get (C1.cmd 5) (by decide +kernel)), ⟨by decide +kernel, by decide +kernel, by decide +kernel, by decide +kernel⟩, by decide +kernel, by decide +kernel, by decide +kernel, by decide +kernel, by decide +kernel, by decide +kernel, by decide +kernel, by decide +kernel, by decide +kernel, by decide +kernel, by decide +kernel, by decide +kernel, by decide +kernel⟩,
   ⟨C1, (5 : Word), (Option.get (C1.cmd (5 : Word).toNat) (by decide +kernel)), by decide +kernel, by decide +kernel, by decide +kernel, by decide +kernel, by decide +kernel, by decide +kernel, by decide +kernel⟩⟩

theorem wit_HostOperations :
    (∃ s : State, ∃ j : Nat, ∃ e : JEntry, s.Ready j e ∧ e.target = .host ∧ hostOp e.words = 1) ∧
    (∃ s : State, ∃ j : Nat, ∃ e : JEntry, ∃ k : Nat, s.Ready j e ∧ e.target = .host ∧ hostOp e.words = 3 ∧ s.Plain (inlineDst e.words) (inlineData e.words).length k ∧ 0 < (inlineData e.words).length) ∧
    (∃ s : State, ∃ j : Nat, ∃ e : JEntry, ∃ tag : Nat, s.Ready j e ∧ e.target = .host ∧ hostOp e.words = 4 ∧ s.copiesRunning < 8 ∧ e.empty = false ∧ 0 < copyLen e.words ∧ e.segs = 0 ∧ e.payload = [] ∧ e.cancelled = false ∧ s.pieceInFlight j = false ∧ s.hostOpen = true ∧ s.host.reads.length < s.readLimit ∧ s.freeTag = some tag) ∧
    (∃ s : State, ∃ j : Nat, ∃ e : JEntry, ∃ tag : Nat, ∃ addr : Nat, ∃ k : Nat, ∃ data : List Byte, s.flag Fld.HIF_STAT_LINKUP = true ∧ s.power.porst = false ∧ s.cmd j = some e ∧ e.parent = 0 ∧ e.target = .host ∧ hostOp e.words = 4 ∧ e.st = .dispatched ∧ e.refusal = none ∧ e.fin = none ∧ e.cancelled = false ∧ e.payload = [] ∧ sfind s.host.reads tag = some ⟨.hcopy j (4096 * e.segs) data.length, addr, data.length⟩ ∧ (∀ q ∈ s.host.reads, q.1 ≠ tag → ∀ o n, q.2.kind ≠ .hcopy j o n) ∧ 0 < data.length ∧ data.length ≤ 4096 ∧ copyLen e.words ≤ 4096 * (e.segs + 1) ∧ s.Plain (copyUda e.words + 4096 * e.segs) data.length k) ∧
    (∃ s : State, ∃ j : Nat, ∃ e : JEntry, ∃ k : Nat → Nat, s.Ready j e ∧ e.target = .host ∧ hostOp e.words = 5 ∧ s.copiesRunning < 8 ∧ e.empty = false ∧ e.segs = 0 ∧ s.hostOpen = true ∧ (∀ i, 4096 * i < copyLen e.words → s.Plain (copyUda e.words + 4096 * i) (min 4096 (copyLen e.words - 4096 * i)) (k i) ∧ s.poisonedIn (k i) (min 4096 (copyLen e.words - 4096 * i)) = false)) ∧
    (∃ s : State, ∃ j : Nat, ∃ e : JEntry, s.Ready j e ∧ e.target = .host ∧ hostOp e.words = 6 ∧ s.scopeDone j e = true) ∧
    (∃ s : State, ∃ j : Nat, ∃ e : JEntry, ∃ tag : Nat, s.Ready j e ∧ e.target = .host ∧ hostOp e.words = 7 ∧ s.scopeDone j e = true ∧ s.get Fld.DIF_STAT_STATE = 0 ∧ e.header = [] ∧ e.sent = false ∧ s.hostOpen = true ∧ s.host.reads.length < s.readLimit ∧ s.freeTag = some tag) ∧
    (∃ s : State, ∃ j : Nat, ∃ e : JEntry, ∃ tag : Nat, ∃ addr : Nat, s.flag Fld.HIF_STAT_LINKUP = true ∧ s.power.porst = false ∧ s.cmd j = some e ∧ e.parent = 0 ∧ e.target = .host ∧ e.st = .dispatched ∧ e.refusal = none ∧ e.fin = none ∧ e.sent = true ∧ sfind s.host.reads tag = some ⟨.flush j, addr, 0⟩) :=
  ⟨⟨with1 5 (hostCmd 1 [] .accepted) R, 5, (Option.get ((with1 5 (hostCmd 1 [] .accepted) R).cmd 5) (by decide +kernel)), ⟨by decide +kernel, by decide +kernel, by decide +kernel, by decide +kernel, by decide +kernel, by decide +kernel, by decide +kernel, by decide +kernel⟩, by decide +kernel, by decide +kernel⟩,
   ⟨(with1 5 (hostCmd 3 [(2, wordOf [(16,48,4096/16),(0,3,1)]), (3, 0x1234), (4, wordOf [(16,48,4096/16),(0,3,1)]), (5, wordOf [(16,48,4096/16),(0,3,1)])] .accepted) (linked base)), 5, (Option.get ((with1 5 (hostCmd 3 [(2, wordOf [(16,48,4096/16),(0,3,1)]), (3, 0x1234), (4, wordOf [(16,48,4096/16),(0,3,1)]), (5, wordOf [(16,48,4096/16),(0,3,1)])] .accepted) (linked base)).cmd 5) (by decide +kernel)), 4096, ⟨by decide +kernel, by decide +kernel, by decide +kernel, by decide +kernel, by decide +kernel, by decide +kernel, by decide +kernel, by decide +kernel⟩, by decide +kernel, by decide +kernel, plain_ok (by decide +kernel), by decide +kernel⟩,
   ⟨with1 5 (cp .accepted 4) R, 5, (Option.get ((with1 5 (cp .accepted 4) R).cmd 5) (by decide +kernel)), 0, ⟨by decide +kernel, by decide +kernel, by decide +kernel, by decide +kernel, by decide +kernel, by decide +kernel, by decide +kernel, by decide +kernel⟩, by decide +kernel, by decide +kernel, by decide +kernel, by decide +kernel, by decide +kernel, by decide +kernel, by decide +kernel, by decide +kernel, by decide +kernel, by decide +kernel, by decide +kernel, by decide +kernel⟩,
   ⟨hosts (fun h => { h with reads := [(0, ⟨.hcopy 5 0 32, 0x10000, 32⟩)] }) (with1 5 (cp .dispatched 4) R), 5, (Option.get ((hosts (fun h => { h with reads := [(0, ⟨.hcopy 5 0 32, 0x10000, 32⟩)] }) (with1 5 (cp .dispatched 4) R)).cmd 5) (by decide +kernel)), 0, 65536, 4096, (pad 32), by decide +kernel, by decide +kernel, by decide +kernel, by decide +kernel, by decide +kernel, by decide +kernel, by decide +kernel, by decide +kernel, by decide +kernel, by decide +kernel, by decide +kernel, by decide +kernel, fun q hq h => absurd (of_decide_eq_true (mem_ok (p := fun q => decide (q.1 = 0)) (by decide +kernel) q hq)) h, by decide +kernel, by decide +kernel, by decide +kernel, plain_ok (by decide +kernel)⟩,
   ⟨with1 5 (cp .accepted 5) D, 5, (Option.get ((with1 5 (cp .accepted 5) D).cmd 5) (by decide +kernel)), (fun i => 4096 + 4096 * i), ⟨by decide +kernel, by decide +kernel, by decide +kernel, by decide +kernel, by decide +kernel, by decide +kernel, by decide +kernel, by decide +kernel⟩, by decide +kernel, by decide +kernel, by decide +kernel, by decide +kernel, by decide +kernel, by decide +kernel, fun i h => by cases first_ok h (by decide +kernel); exact ⟨.inl (by decide +kernel), by decide +kernel⟩⟩,
   ⟨with1 5 (hostCmd 6 [] .accepted) R, 5, (Option.get ((with1 5 (hostCmd 6 [] .accepted) R).cmd 5) (by decide +kernel)), ⟨by decide +kernel, by decide +kernel, by decide +kernel, by decide +kernel, by decide +kernel, by decide +kernel, by decide +kernel, by decide +kernel⟩, by decide +kernel, by decide +kernel, by decide +kernel⟩,
   ⟨with1 5 (hostCmd 7 [] .accepted) R, 5, (Option.get ((with1 5 (hostCmd 7 [] .accepted) R).cmd 5) (by decide +kernel)), 0, ⟨by decide +kernel, by decide +kernel, by decide +kernel, by decide +kernel, by decide +kernel, by decide +kernel, by decide +kernel, by decide +kernel⟩, by decide +kernel, by decide +kernel, by decide +kernel, by decide +kernel, by decide +kernel, by decide +kernel, by decide +kernel, by decide +kernel, by decide +kernel⟩,
   ⟨hosts (fun h => { h with reads := [(0, ⟨.flush 5, 0, 0⟩)] }) (with1 5 { hostCmd 7 [] .dispatched with sent := true } R), 5, (Option.get ((hosts (fun h => { h with reads := [(0, ⟨.flush 5, 0, 0⟩)] }) (with1 5 { hostCmd 7 [] .dispatched with sent := true } R)).cmd 5) (by decide +kernel)), 0, 0, by decide +kernel, by decide +kernel, by decide +kernel, by decide +kernel, by decide +kernel, by decide +kernel, by decide +kernel, by decide +kernel, by decide +kernel, by decide +kernel⟩⟩

theorem wit_CompletionRule :
    (∃ s : State, ∃ r : Nat, ∃ j : Nat, ∃ e : JEntry, ∃ rest : List (Nat × JEntry), r < 16384 ∧ s.mayComplete r = true ∧ s.bareTurn r = none ∧ s.hostCmds r = (j, e) :: rest ∧ e.settled = true) ∧
    (∃ s : State, ∃ r : Nat, ∃ b : BareDone, r < 16384 ∧ s.mayComplete r = true ∧ s.bareTurn r = some b) ∧
    (∃ s : State, ∃ r : Nat, r < 16384 ∧ s.role r = 2 ∧ s.get (Fld.RING_MOD_HOLDOFF_US r) ≠ 0 ∧ 0 < s.unsignalled r ∧ s.halt ≠ .powerWarning) :=
  ⟨⟨with1 5 done5 R, 1, 5, (Option.get ((with1 5 done5 R).cmd 5) (by decide +kernel)), [], by decide +kernel, by decide +kernel, by decide +kernel, by decide +kernel, by decide +kernel⟩,
   ⟨hosts (fun h => { h with bare := [(1, [⟨0, 7, false, 1⟩])] }) R, 1, (Option.get ((hosts (fun h => { h with bare := [(1, [⟨0, 7, false, 1⟩])] }) R).bareTurn 1) (by decide +kernel)), by decide +kernel, by decide +kernel, by decide +kernel⟩,
   ⟨HO 1 0, 2, by decide +kernel, by decide +kernel, by decide +kernel, by decide +kernel, by decide +kernel⟩⟩

theorem wit_MailboxRule :
    (∃ s : State, s.power.porst = false ∧ s.flag Fld.HIF_MBCTL_H2MFULL = false) ∧
    (∃ s : State, ∃ v : BitVec 32, s.power.porst = false ∧ v.getLsbD 0 = false) ∧
    (∃ s : State, s.power.porst = false ∧ s.flag Fld.HIF_MBCTL_M2HFULL = false) :=
  ⟨⟨R, by decide +kernel, by decide +kernel⟩,
   ⟨R, (0 : BitVec 32), by decide +kernel, by decide +kernel⟩,
   ⟨R, by decide +kernel, by decide +kernel⟩⟩

theorem wit_PcieLinkRule :
    (∃ s : State, s.flag Fld.HIF_STAT_LINKUP = false ∧ s.power.porst = false) ∧
    (∃ s : State, s.flag Fld.HIF_STAT_LINKUP = true) :=
  ⟨⟨base, by decide +kernel, by decide +kernel⟩,
   ⟨R, by decide +kernel⟩⟩

end Ring

/-! Marks and credits, dispatch, element and array commands. -/

namespace Tile

def B0 := bound base
def el (op : Nat) (st : CmdState) : JEntry := { tileCmd 3 op (rows1 1 (opn 0 0 1) (opn 16 0 4) (opn 32 0 1) (opn 48 0 1) []) st with unit := if st = .accepted then .none else .element }
def F : State := fmts { B0 with mem := (numsFrom 0 64).map (fun i => (spKey 0 i, BitVec.ofNat 8 (i * 37 % 120 + 1))) }
def ctl (op : Nat) := with1 5 { tileCmd 5 op [(4, wordOf [(63, 1, 1), (48, 8, 3), (0, 16, 9)]), (3, wordOf [(10, 6, 2), (0, 10, 4)])] .dispatched with disp := 1 } F
def E (op : Nat) := with1 5 { el op .dispatched with unit := .element } F
def A1 (k op : Nat) (u : TileUnit) := with1 5 { tileCmd k op (rows1 1 (opn 0 0 1) (opn 16 1 1) (opn 32 0 1) 0 []) .dispatched with unit := u } F
def ent : JEntry := { stream 1 1 32 2 1 4096 [] with st := .accepted, disp := 0, unit := .none }

theorem wit_MarksAndCredits :
    (∃ s : State, ∃ t : Nat, ∃ m : Nat, m < 64 ∧ (∀ p, s.phys t = some p → p < 68)) ∧
    (∃ s : State, ∃ t : Nat, ∃ m : Nat, m < 64 ∧ (∀ p, s.phys t = some p → p < 68) ∧ ∃ m', m' ≠ m ∧ m' < 64) ∧
    (∃ s : State, ∃ t : Nat, ∃ m : Nat, ∃ inc : Nat, m < 64 ∧ (∀ p, s.phys t = some p → p < 68) ∧ let v := s.markCount t m + inc; 65535 < v ∧ ∃ p, s.phys t = some p) ∧
    (∃ s : State, ∃ t : Nat, ∃ q : Nat, q < 32 ∧ (∀ p, s.phys t = some p → p < 68)) ∧
    (∃ s : State, ∃ t : Nat, ∃ q : Nat, q < 32 ∧ (∀ p, s.phys t = some p → p < 68) ∧ ∃ q', q' ≠ q ∧ q' < 32) ∧
    (∃ s : State, ∃ l : List Slot, slotsRepeat (usedSlots l) = false ∧ (∀ x ∈ l, x.idx < 64) ∧ ∃ x, x ∈ usedSlots l) ∧
    (∃ s : State, ∃ l : List Slot, slotsRepeat (usedSlots l) = false ∧ (∀ x ∈ l, x.idx < 64) ∧ ∃ m, m < 64 ∧ (∀ x ∈ usedSlots l, x.idx ≠ m)) ∧
    (∃ s : State, ∃ l : List Slot, slotsRepeat (usedSlots l) = false ∧ (∀ x ∈ l, x.idx < 64)) :=
  ⟨⟨B0, 0, 0, by decide +kernel, phys_ok (by decide +kernel)⟩,
   ⟨B0, 0, 0, by decide +kernel, phys_ok (by decide +kernel), 1, by decide +kernel, by decide +kernel⟩,
   ⟨B0, 0, 0, 70000, by decide +kernel, phys_ok (by decide +kernel), by decide +kernel, (Option.get (B0.phys 0) (by decide +kernel)), by decide +kernel⟩,
   ⟨B0, 0, 0, by decide +kernel, phys_ok (by decide +kernel)⟩,
   ⟨B0, 0, 0, by decide +kernel, phys_ok (by decide +kernel), 1, by decide +kernel, by decide +kernel⟩,
   ⟨B0, [⟨3, 5⟩], by decide +kernel, by decide +kernel, ⟨3, 5⟩, by decide +kernel⟩,
   ⟨B0, [], by decide +kernel, by decide +kernel, 0, by decide +kernel, by decide +kernel⟩,
   ⟨B0, [], by decide +kernel, by decide +kernel⟩⟩

theorem wit_TileDispatchRule :
    (∃ s : State, ∃ t : Nat, ∃ p : Nat, ∃ j : Nat, ∃ e : JEntry, ∃ u : TileUnit, t < 64 ∧ s.phys t = some p ∧ p < 68 ∧ s.live = true ∧ s.unitDown 3 t = false ∧ (∀ q ∈ s.journal, q.2.refusal = none ∧ s.strayMember t q.2 = false) ∧ s.Canonical ∧ s.pickHead t p = some (j, e) ∧ s.waitPoisoned e = false ∧ s.unitFor t p e = some u ∧ e.empty = false ∧ e.take.n = 0 ∧ e.isStream = false ∧ let n := leNat (s.rbs (spKey p (tMind e.words)) 4); let reads := tMindir e.words && (e.kind == 1 || e.kind == 3); (reads = true → s.poisonedIn (spKey p (tMind e.words)) 4 = false ∧ 0 < n ∧ n ≤ tMmax e.words)) ∧
    (∃ s : State, ∃ t : Nat, ∃ p : Nat, ∃ j : Nat, ∃ e : JEntry, ∃ u : TileUnit, t < 64 ∧ s.phys t = some p ∧ p < 68 ∧ s.live = true ∧ s.unitDown 3 t = false ∧ (∀ q ∈ s.journal, q.2.refusal = none ∧ s.strayMember t q.2 = false) ∧ s.Canonical ∧ s.pickHead t p = some (j, e) ∧ s.waitPoisoned e = false ∧ s.unitFor t p e = some u ∧ e.empty = false ∧ e.take.n = 0 ∧ e.isStream = true ∧ (tOp e.words = 1 ∨ tOp e.words = 2) ∧ sFar e.words = 1 ∧ s.freeChannel t ≠ none) :=
  ⟨⟨with1 5 (el 2 .accepted) F, 0, 0, 5, (Option.get ((with1 5 (el 2 .accepted) F).pickHead 0 0) (by decide +kernel)).2, (TileUnit.element), by decide +kernel, by decide +kernel, by decide +kernel, by decide +kernel, by decide +kernel, by decide +kernel, ⟨by decide +kernel, by decide +kernel, by decide +kernel, by decide +kernel⟩, by decide +kernel, by decide +kernel, by decide +kernel, by decide +kernel, by decide +kernel, by decide +kernel, by decide +kernel⟩,
   ⟨with1 5 ent (fmts B0), 0, 0, 5, (Option.get ((with1 5 ent (fmts B0)).pickHead 0 0) (by decide +kernel)).2, (TileUnit.channel 0), by decide +kernel, by decide +kernel, by decide +kernel, by decide +kernel, by decide +kernel, by decide +kernel, ⟨by decide +kernel, by decide +kernel, by decide +kernel, by decide +kernel⟩, by decide +kernel, by decide +kernel, by decide +kernel, by decide +kernel, by decide +kernel, by decide +kernel, by decide +kernel, by decide +kernel, by decide +kernel⟩⟩

theorem wit_ControlCommands :
    (∃ s : State, ∃ j : Nat, ∃ p : Nat, ∃ e : JEntry, s.Runs j e p ∧ e.kind = 5 ∧ e.parent = 0 ∧ e.refusal = none ∧ s.ringQueue e.tileRing = [(j, e)] ∧ e.op = 1) ∧
    (∃ s : State, ∃ j : Nat, ∃ p : Nat, ∃ e : JEntry, s.Runs j e p ∧ e.kind = 5 ∧ e.parent = 0 ∧ e.refusal = none ∧ s.ringQueue e.tileRing = [(j, e)] ∧ e.op = 2) ∧
    (∃ s : State, ∃ j : Nat, ∃ p : Nat, ∃ e : JEntry, s.Runs j e p ∧ e.kind = 5 ∧ e.parent = 0 ∧ e.refusal = none ∧ s.ringQueue e.tileRing = [(j, e)] ∧ e.op = 3) ∧
    (∃ s : State, ∃ j : Nat, ∃ p : Nat, ∃ e : JEntry, s.Runs j e p ∧ e.kind = 5 ∧ e.parent = 0 ∧ e.refusal = none ∧ s.ringQueue e.tileRing = [(j, e)] ∧ e.op = 4) :=
  ⟨⟨ctl 1, 5, 0, (Option.get ((ctl 1).cmd 5) (by decide +kernel)), ⟨by decide +kernel, by decide +kernel, by decide +kernel, by decide +kernel, by decide +kernel, by decide +kernel, by decide +kernel⟩, by decide +kernel, by decide +kernel, by decide +kernel, by decide +kernel, by decide +kernel⟩,
   ⟨ctl 2, 5, 0, (Option.get ((ctl 2).cmd 5) (by decide +kernel)), ⟨by decide +kernel, by decide +kernel, by decide +kernel, by decide +kernel, by decide +kernel, by decide +kernel, by decide +kernel⟩, by decide +kernel, by decide +kernel, by decide +kernel, by decide +kernel, by decide +kernel⟩,
   ⟨ctl 3, 5, 0, (Option.get ((ctl 3).cmd 5) (by decide +kernel)), ⟨by decide +kernel, by decide +kernel, by decide +kernel, by decide +kernel, by decide +kernel, by decide +kernel, by decide +kernel⟩, by decide +kernel, by decide +kernel, by decide +kernel, by decide +kernel, by decide +kernel⟩,
   ⟨ctl 4, 5, 0, (Option.get ((ctl 4).cmd 5) (by decide +kernel)), ⟨by decide +kernel, by decide +kernel, by decide +kernel, by decide +kernel, by decide +kernel, by decide +kernel, by decide +kernel⟩, by decide +kernel, by decide +kernel, by decide +kernel, by decide +kernel, by decide +kernel⟩⟩

theorem wit_ElementwiseOperations :
    (∃ s : State, ∃ j : Nat, ∃ p : Nat, ∃ e : JEntry, ∃ obs : EltObs, CleanElement s j e p 0x01 obs) ∧
    (∃ s : State, ∃ j : Nat, ∃ p : Nat, ∃ e : JEntry, ∃ obs : EltObs, CleanElement s j e p 0x02 obs) ∧
    (∃ s : State, ∃ j : Nat, ∃ p : Nat, ∃ e : JEntry, ∃ obs : EltObs, CleanElement s j e p 0x03 obs) ∧
    (∃ s : State, ∃ j : Nat, ∃ p : Nat, ∃ e : JEntry, ∃ obs : EltObs, CleanElement s j e p 0x04 obs) ∧
    (∃ s : State, ∃ j : Nat, ∃ p : Nat, ∃ e : JEntry, ∃ obs : EltObs, CleanElement s j e p 0x05 obs) ∧
    (∃ s : State, ∃ j : Nat, ∃ p : Nat, ∃ e : JEntry, ∃ obs : EltObs, CleanElement s j e p 0x06 obs) ∧
    (∃ s : State, ∃ j : Nat, ∃ p : Nat, ∃ e : JEntry, ∃ obs : EltObs, CleanElement s j e p 0x07 obs) ∧
    (∃ s : State, ∃ j : Nat, ∃ p : Nat, ∃ e : JEntry, ∃ obs : EltObs, CleanElement s j e p 0x08 obs) :=
  ⟨⟨E 1, 5, 0, (Option.get ((E 1).cmd 5) (by decide +kernel)), ({ faults := [], cycles := 0, paused := 0, waited := 0, ecc := { corrected := [], uncorrectable := [] } }), ⟨⟨by decide +kernel, by decide +kernel, by decide +kernel, by decide +kernel, by decide +kernel, by decide +kernel, by decide +kernel⟩, ⟨by decide +kernel, by decide +kernel, by decide +kernel, by decide +kernel⟩, by decide +kernel, by decide +kernel, by decide +kernel, by decide +kernel, by decide +kernel, by decide +kernel⟩⟩,
   ⟨E 2, 5, 0, (Option.get ((E 2).cmd 5) (by decide +kernel)), ({ faults := [], cycles := 0, paused := 0, waited := 0, ecc := { corrected := [], uncorrectable := [] } }), ⟨⟨by decide +kernel, by decide +kernel, by decide +kernel, by decide +kernel, by decide +kernel, by decide +kernel, by decide +kernel⟩, ⟨by decide +kernel, by decide +kernel, by decide +kernel, by decide +kernel⟩, by decide +kernel, by decide +kernel, by decide +kernel, by decide +kernel, by decide +kernel, by decide +kernel⟩⟩,
   ⟨E 3, 5, 0, (Option.get ((E 3).cmd 5) (by decide +kernel)), ({ faults := [], cycles := 0, paused := 0, waited := 0, ecc := { corrected := [], uncorrectable := [] } }), ⟨⟨by decide +kernel, by decide +kernel, by decide +kernel, by decide +kernel, by decide +kernel, by decide +kernel, by decide +kernel⟩, ⟨by decide +kernel, by decide +kernel, by decide +kernel, by decide +kernel⟩, by decide +kernel, by decide +kernel, by decide +kernel, by decide +kernel, by decide +kernel, by decide +kernel⟩⟩,
   ⟨E 4, 5, 0, (Option.get ((E 4).cmd 5) (by decide +kernel)), ({ faults := [], cycles := 0, paused := 0, waited := 0, ecc := { corrected := [], uncorrectable := [] } }), ⟨⟨by decide +kernel, by decide +kernel, by decide +kernel, by decide +kernel, by decide +kernel, by decide +kernel, by decide +kernel⟩, ⟨by decide +kernel, by decide +kernel, by decide +kernel, by decide +kernel⟩, by decide +kernel, by decide +kernel, by decide +kernel, by decide +kernel, by decide +kernel, by decide +kernel⟩⟩,
   ⟨E 5, 5, 0, (Option.get ((E 5).cmd 5) (by decide +kernel)), ({ faults := [], cycles := 0, paused := 0, waited := 0, ecc := { corrected := [], uncorrectable := [] } }), ⟨⟨by decide +kernel, by decide +kernel, by decide +kernel, by decide +kernel, by decide +kernel, by decide +kernel, by decide +kernel⟩, ⟨by decide +kernel, by decide +kernel, by decide +kernel, by decide +kernel⟩, by decide +kernel, by decide +kernel, by decide +kernel, by decide +kernel, by decide +kernel, by decide +kernel⟩⟩,
   ⟨E 6, 5, 0, (Option.get ((E 6).cmd 5) (by decide +kernel)), ({ faults := [], cycles := 0, paused := 0, waited := 0, ecc := { corrected := [], uncorrectable := [] } }), ⟨⟨by decide +kernel, by decide +kernel, by decide +kernel, by decide +kernel, by decide +kernel, by decide +kernel, by decide +kernel⟩, ⟨by decide +kernel, by decide +kernel, by decide +kernel, by decide +kernel⟩, by decide +kernel, by decide +kernel, by decide +kernel, by decide +kernel, by decide +kernel, by decide +kernel⟩⟩,
   ⟨E 7, 5, 0, (Option.get ((E 7).cmd 5) (by decide +kernel)), ({ faults := [], cycles := 0, paused := 0, waited := 0, ecc := { corrected := [], uncorrectable := [] } }), ⟨⟨by decide +kernel, by decide +kernel, by decide +kernel, by decide +kernel, by decide +kernel, by decide +kernel, by decide +kernel⟩, ⟨by decide +kernel, by decide +kernel, by decide +kernel, by decide +kernel⟩, by decide +kernel, by decide +kernel, by decide +kernel, by decide +kernel, by decide +kernel, by decide +kernel⟩⟩,
   ⟨E 8, 5, 0, (Option.get ((E 8).cmd 5) (by decide +kernel)), ({ faults := [], cycles := 0, paused := 0, waited := 0, ecc := { corrected := [], uncorrectable := [] } }), ⟨⟨by decide +kernel, by decide +kernel, by decide +kernel, by decide +kernel, by decide +kernel, by decide +kernel, by decide +kernel⟩, ⟨by decide +kernel, by decide +kernel, by decide +kernel, by decide +kernel⟩, by decide +kernel, by decide +kernel, by decide +kernel, by decide +kernel, by decide +kernel, by decide +kernel⟩⟩⟩

theorem wit_RowOperations :
    (∃ s : State, ∃ j : Nat, ∃ p : Nat, ∃ e : JEntry, ∃ obs : EltObs, CleanElement s j e p 0x09 obs) ∧
    (∃ s : State, ∃ j : Nat, ∃ p : Nat, ∃ e : JEntry, ∃ obs : EltObs, CleanElement s j e p 0x0A obs) ∧
    (∃ s : State, ∃ j : Nat, ∃ p : Nat, ∃ e : JEntry, ∃ obs : EltObs, CleanElement s j e p 0x0B obs) ∧
    (∃ s : State, ∃ j : Nat, ∃ p : Nat, ∃ e : JEntry, ∃ obs : EltObs, CleanElement s j e p 0x0C obs) ∧
    (∃ s : State, ∃ j : Nat, ∃ p : Nat, ∃ e : JEntry, ∃ obs : EltObs, CleanElement s j e p 0x0D obs) ∧
    (∃ s : State, ∃ j : Nat, ∃ p : Nat, ∃ e : JEntry, ∃ obs : EltObs, CleanElement s j e p 0x0E obs) :=
  ⟨⟨E 9, 5, 0, (Option.get ((E 9).cmd 5) (by decide +kernel)), ({ faults := [], cycles := 0, paused := 0, waited := 0, ecc := { corrected := [], uncorrectable := [] } }), ⟨⟨by decide +kernel, by decide +kernel, by decide +kernel, by decide +kernel, by decide +kernel, by decide +kernel, by decide +kernel⟩, ⟨by decide +kernel, by decide +kernel, by decide +kernel, by decide +kernel⟩, by decide +kernel, by decide +kernel, by decide +kernel, by decide +kernel, by decide +kernel, by decide +kernel⟩⟩,
   ⟨E 10, 5, 0, (Option.get ((E 10).cmd 5) (by decide +kernel)), ({ faults := [], cycles := 0, paused := 0, waited := 0, ecc := { corrected := [], uncorrectable := [] } }), ⟨⟨by decide +kernel, by decide +kernel, by decide +kernel, by decide +kernel, by decide +kernel, by decide +kernel, by decide +kernel⟩, ⟨by decide +kernel, by decide +kernel, by decide +kernel, by decide +kernel⟩, by decide +kernel, by decide +kernel, by decide +kernel, by decide +kernel, by decide +kernel, by decide +kernel⟩⟩,
   ⟨E 11, 5, 0, (Option.get ((E 11).cmd 5) (by decide +kernel)), ({ faults := [], cycles := 0, paused := 0, waited := 0, ecc := { corrected := [], uncorrectable := [] } }), ⟨⟨by decide +kernel, by decide +kernel, by decide +kernel, by decide +kernel, by decide +kernel, by decide +kernel, by decide +kernel⟩, ⟨by decide +kernel, by decide +kernel, by decide +kernel, by decide +kernel⟩, by decide +kernel, by decide +kernel, by decide +kernel, by decide +kernel, by decide +kernel, by decide +kernel⟩⟩,
   ⟨E 12, 5, 0, (Option.get ((E 12).cmd 5) (by decide +kernel)), ({ faults := [], cycles := 0, paused := 0, waited := 0, ecc := { corrected := [], uncorrectable := [] } }), ⟨⟨by decide +kernel, by decide +kernel, by decide +kernel, by decide +kernel, by decide +kernel, by decide +kernel, by decide +kernel⟩, ⟨by decide +kernel, by decide +kernel, by decide +kernel, by decide +kernel⟩, by decide +kernel, by decide +kernel, by decide +kernel, by decide +kernel, by decide +kernel, by decide +kernel⟩⟩,
   ⟨E 13, 5, 0, (Option.get ((E 13).cmd 5) (by decide +kernel)), ({ faults := [], cycles := 0, paused := 0, waited := 0, ecc := { corrected := [], uncorrectable := [] } }), ⟨⟨by decide +kernel, by decide +kernel, by decide +kernel, by decide +kernel, by decide +kernel, by decide +kernel, by decide +kernel⟩, ⟨by decide +kernel, by decide +kernel, by decide +kernel, by decide +kernel⟩, by decide +kernel, by decide +kernel, by decide +kernel, by decide +kernel, by decide +kernel, by decide +kernel⟩⟩,
   ⟨E 14, 5, 0, (Option.get ((E 14).cmd 5) (by decide +kernel)), ({ faults := [], cycles := 0, paused := 0, waited := 0, ecc := { corrected := [], uncorrectable := [] } }), ⟨⟨by decide +kernel, by decide +kernel, by decide +kernel, by decide +kernel, by decide +kernel, by decide +kernel, by decide +kernel⟩, ⟨by decide +kernel, by decide +kernel, by decide +kernel, by decide +kernel⟩, by decide +kernel, by decide +kernel, by decide +kernel, by decide +kernel, by decide +kernel, by decide +kernel⟩⟩⟩

theorem wit_ArrayCommands :
    (∃ s : State, ∃ j : Nat, ∃ p : Nat, ∃ e : JEntry, ∃ obs : ArrayObs, s.Runs j e p ∧ s.Canonical ∧ e.unit = .array ∧ s.flag (Fld.TILE_ARRSTAT_RESHAPING p) = false ∧ e.blocks = [] ∧ obs.faults = [] ∧ obs.ecc = ⟨[], []⟩ ∧ let ms := s.arrayMembers e.tile e.words (s.get (Fld.TILE_ARRSTAT_SHAPE p)); (∀ b ∈ commitBlocks (tEc e.words == 1) e.rowCount, ∀ m ∈ ms, s.spPoisoned m.p (s.arrayReads e.words (m.p == p) m.cols b.2.1 b.2.2) = false) ∧ e.kind = 1) ∧
    (∃ s : State, ∃ j : Nat, ∃ p : Nat, ∃ e : JEntry, ∃ obs : ArrayObs, s.Runs j e p ∧ s.Canonical ∧ e.unit = .array ∧ s.flag (Fld.TILE_ARRSTAT_RESHAPING p) = false ∧ e.blocks = [] ∧ obs.faults = [] ∧ obs.ecc = ⟨[], []⟩ ∧ let ms := s.arrayMembers e.tile e.words (s.get (Fld.TILE_ARRSTAT_SHAPE p)); (∀ b ∈ commitBlocks (tEc e.words == 1) e.rowCount, ∀ m ∈ ms, s.spPoisoned m.p (s.arrayReads e.words (m.p == p) m.cols b.2.1 b.2.2) = false) ∧ e.kind = 2 ∧ e.op = 0) ∧
    (∃ s : State, ∃ j : Nat, ∃ p : Nat, ∃ e : JEntry, ∃ obs : ArrayObs, s.Runs j e p ∧ s.Canonical ∧ e.unit = .array ∧ s.flag (Fld.TILE_ARRSTAT_RESHAPING p) = false ∧ e.blocks = [] ∧ obs.faults = [] ∧ obs.ecc = ⟨[], []⟩ ∧ let ms := s.arrayMembers e.tile e.words (s.get (Fld.TILE_ARRSTAT_SHAPE p)); (∀ b ∈ commitBlocks (tEc e.words == 1) e.rowCount, ∀ m ∈ ms, s.spPoisoned m.p (s.arrayReads e.words (m.p == p) m.cols b.2.1 b.2.2) = false) ∧ e.isMatvec = true) ∧
    (∃ s : State, ∃ j : Nat, ∃ p : Nat, ∃ e : JEntry, ∃ obs : EltObs, s.Runs j e p ∧ s.Canonical ∧ e.unit = .element ∧ e.isMatvec = true ∧ e.blocks = [] ∧ obs.faults = [] ∧ obs.ecc = ⟨[], []⟩ ∧ let ms : List Member := [⟨p, [(0, tN e.words)]⟩]; (∀ b ∈ commitBlocks (tEc e.words == 1) e.rowCount, ∀ m ∈ ms, s.spPoisoned m.p (s.arrayReads e.words (m.p == p) m.cols b.2.1 b.2.2) = false)) ∧
    (∃ s : State, ∃ t : Nat, ∃ p : Nat, ∃ j : Nat, ∃ e : JEntry, t < 64 ∧ s.phys t = some p ∧ s.flag (Fld.TILE_ARRSTAT_RESHAPING p) = true ∧ s.journal.find? (fun x => x.2.onTile && x.2.tile == t && x.2.fin.isNone && x.2.unit == .array) = some (j, e)) :=
  ⟨⟨A1 1 0 .array, 5, 0, (Option.get ((A1 1 0 .array).cmd 5) (by decide +kernel)), ({ faults := [], starved := 0, backed := 0, waited := 0, ecc := { corrected := [], uncorrectable := [] } }), ⟨by decide +kernel, by decide +kernel, by decide +kernel, by decide +kernel, by decide +kernel, by decide +kernel, by decide +kernel⟩, ⟨by decide +kernel, by decide +kernel, by decide +kernel, by decide +kernel⟩, by decide +kernel, by decide +kernel, by decide +kernel, by decide +kernel, by decide +kernel, by decide +kernel, by decide +kernel⟩,
   ⟨A1 2 0 .array, 5, 0, (Option.get ((A1 2 0 .array).cmd 5) (by decide +kernel)), ({ faults := [], starved := 0, backed := 0, waited := 0, ecc := { corrected := [], uncorrectable := [] } }), ⟨by decide +kernel, by decide +kernel, by decide +kernel, by decide +kernel, by decide +kernel, by decide +kernel, by decide +kernel⟩, ⟨by decide +kernel, by decide +kernel, by decide +kernel, by decide +kernel⟩, by decide +kernel, by decide +kernel, by decide +kernel, by decide +kernel, by decide +kernel, by decide +kernel, by decide +kernel, by decide +kernel⟩,
   ⟨A1 3 15 .array, 5, 0, (Option.get ((A1 3 15 .array).cmd 5) (by decide +kernel)), ({ faults := [], starved := 0, backed := 0, waited := 0, ecc := { corrected := [], uncorrectable := [] } }), ⟨by decide +kernel, by decide +kernel, by decide +kernel, by decide +kernel, by decide +kernel, by decide +kernel, by decide +kernel⟩, ⟨by decide +kernel, by decide +kernel, by decide +kernel, by decide +kernel⟩, by decide +kernel, by decide +kernel, by decide +kernel, by decide +kernel, by decide +kernel, by decide +kernel, by decide +kernel⟩,
   ⟨A1 3 15 .element, 5, 0, (Option.get ((A1 3 15 .element).cmd 5) (by decide +kernel)), ({ faults := [], cycles := 0, paused := 0, waited := 0, ecc := { corrected := [], uncorrectable := [] } }), ⟨by decide +kernel, by decide +kernel, by decide +kernel, by decide +kernel, by decide +kernel, by decide +kernel, by decide +kernel⟩, ⟨by decide +kernel, by decide +kernel, by decide +kernel, by decide +kernel⟩, by decide +kernel, by decide +kernel, by decide +kernel, by decide +kernel, by decide +kernel, by decide +kernel⟩,
   ⟨(A1 1 0 .array).setFlag (Fld.TILE_ARRSTAT_RESHAPING 0) true, 0, 0, 5, (Option.get (((A1 1 0 .array).setFlag (Fld.TILE_ARRSTAT_RESHAPING 0) true).journal.find? (fun x => x.2.onTile && x.2.tile == 0 && x.2.fin.isNone && x.2.unit == .array)) (by decide +kernel)).2, by decide +kernel, by decide +kernel, by decide +kernel, by decide +kernel⟩⟩

theorem wit_TileFaultRows :
    (∃ s : State, ∃ p : Nat, p < 68 ∧ s.power.porst = false ∧ s.unavailable (Reg.TILE_ARRINJ p) = false) ∧
    (∃ s : State, ∃ p : Nat, p < 68 ∧ s.live = true ∧ s.flag (Fld.TILE_SPCTL_SCRUB p) = true) :=
  ⟨⟨A1 1 0 .array, 5, by decide +kernel, by decide +kernel, by decide +kernel⟩,
   ⟨A1 1 0 .array, 5, by decide +kernel, by decide +kernel, by decide +kernel⟩⟩

end Tile

/-! STREAM commands, halts and gradients. -/

namespace Streams

def M0 : State := pools 3 { bound base with mem := (numsFrom 0 128).map (fun i => (4096 + i, BitVec.ofNat 8 (i * 37 % 120 + 1))) ++ (numsFrom 0 512).map (fun i => (spKey 0 i, BitVec.ofNat 8 (i * 29 % 120 + 1))) }
def go (e : JEntry) (s : State) : State := streaming 5 e StreamRun.start s
def fld (ws : List Word) (i lo n v : Nat) : List Word := setAt ws i (wget ws i ||| wordOf [(lo, n, v)])
def Z (op : Nat) : JEntry := let e := stream op 1 512 1 0 4096 [(15, wordOf [(16, 48, 8192 / 16)])]; { e with words := fld e.words 4 53 2 1 }
def H3 (op : Nat) := linked (go (stream op 3 64 1 0 4096 []) M0)
def RS (op n : Nat) (r : StreamRun) : State := streaming 5 (stream op (if op = 5 then 2 else 1) 32 2 1 4096 [(15, wordOf [(44, 20, 100)])]) r M0
def RS2 (op n : Nat) (r : StreamRun) : State := streaming 5 {stream op 1 32 2 1 4096 [] with segs := 1} r M0
def X0 := StreamRun.start
def P4 : State := let s := go (stream 4 1 32 2 1 flashBase []) M0
  { s with tier := { s.tier with dir := [(3, { DirEnt.blank with frame := 0, size := 32 })] } }
  /-- reservation records 0 and 1 of tile 0, of groups 1 and 2, sharing space -/
def RV : State := { M0 with sections := [⟨0xC, 0, 0, leBytes 8 2 ++ List.replicate 56 0 ++ leBytes 8 (wordOf [(50,8,1),(36,14,0),(21,15,4)]).toNat ++ List.replicate 24 0 ++ leBytes 8 (wordOf [(50,8,2),(36,14,2),(21,15,4)]).toNat ++ List.replicate 24 0⟩] }
def WDe : JEntry := { stream 1 1 32 2 1 4096 [] with resv := [0] }
def WDh : JEntry := { stream 1 1 32 2 1 4096 [(7, wordOf [(48, 16, 32768 + 1)])] with unit := .none, st := .accepted, disp := 0 }
def WD : State := { flds [(Fld.STR_WDOGCNT_HALTS 0, 4)] (pools 0 RV) with journal := [(5, WDe), (6, WDh)], streams := [(5, { StreamRun.start with wait := .credit, blocked := true })], resv := [(0, .inUse 5)] }
def hdrW : List Word := [64, wordOf [(16, 48, 0x1000 / 16)], wordOf [(16, 48, (0x1000 + 131072) / 16)], wordOf [(16, 48, 0x2000 / 16)], 0, 0, 0, 0]
def AC : JEntry := { stream 3 1 32 2 1 4096 [] with words := setAt (stream 3 1 32 2 1 4096 []).words 4 (wordOf [(60,4,1),(57,3,4),(51,1,1),(0,40,1)]), header := hdrW }
def AC' : JEntry := { AC with words := setAt AC.words 14 (wordOf [(24, 20, 8)]) }
def blk (l : List Nat) : StagedBlock := ⟨0x1000, 0x1000 + 131072, 0x2000, l⟩
def V0 : State := (M0.wbs 0x2000 [0x80]).wbs (spKey 0 0) ((numsFrom 0 32).flatMap (fun i => leBytes 4 (0x3F800000 + i * 0x10000)))
def conts : List Nat := (numsFrom 0 32).map (fun i => 0x3F800000 + i * 0x10000)
def G1 : State := let s := go AC' V0; { s with applying := [(99, ((s.gStage 0 AC' (numsFrom 0 1)).getD []))] }
def gapply : State := { with1 5 AC' V0 with applying := [(5, [blk conts])] }
def ZZ : State := (pools 3 (bound base)).wbs 8192 (leBytes 2 16384)
def zload : State := go (Z 1) ZZ
def zkeep : State := go { Z 2 with words := setAt (setAt (Z 2).words 10 (wordOf [(39, 25, 512), (14, 25, 2)])) 5 (wordOf [(48,16,1)]) } ZZ

theorem wit_StreamsMoveSegment :
    (∃ s : State, ∃ j : Nat, ∃ p : Nat, ∃ c : Nat, ∃ e : JEntry, ∃ k : Nat → Nat, ∃ ks : Nat → Nat, s.onChannel j = some (e, p, c) ∧ sFar e.words = 1 ∧ sCodec e.words ≠ 1 ∧ (s.segmentCredit j e).isSome = true ∧ let ws := e.words; let a := (s.run j).pos; let b := sSegEnd ws e.segs; a ≤ b ∧ tOp ws = 1 ∧ (∀ q, a ≤ q → q < b → s.Clean (sFarAt ws (posRow ws q) (posAtom ws q)) (sFarAtomBytes ws) (k q) ∧ (sScaled ws = true → s.Clean (sFarScaleAt ws (posRow ws q) (posAtom ws q)) 1 (ks q)))) ∧
    (∃ s : State, ∃ j : Nat, ∃ p : Nat, ∃ c : Nat, ∃ e : JEntry, ∃ k : Nat → Nat, ∃ ks : Nat → Nat, s.onChannel j = some (e, p, c) ∧ sFar e.words = 1 ∧ sCodec e.words ≠ 1 ∧ (s.segmentCredit j e).isSome = true ∧ let ws := e.words; let a := (s.run j).pos; let b := sSegEnd ws e.segs; a ≤ b ∧ tOp ws = 2 ∧ (∀ q, a ≤ q → q < b → s.Plain (sFarAt ws (posRow ws q) (posAtom ws q)) (sAtomBytes ws) (k q) ∧ s.poisonedIn (spKey p (sLocalAt ws (posRow ws q) (posAtom ws q))) (sAtomBytes ws) = false ∧ (sScaled ws = true → s.Plain (sFarScaleAt ws (posRow ws q) (posAtom ws q)) 1 (ks q) ∧ s.poisonedIn (spKey p (sLocalScaleAt ws (posRow ws q) (posAtom ws q))) 1 = false))) :=
  ⟨⟨go (stream 1 1 32 2 1 4096 []) M0, 5, 0, 0, (Option.get ((go (stream 1 1 32 2 1 4096 []) M0).onChannel 5) (by decide +kernel)).1, (fun q => 4096 + q), (fun q => 4096 + q), by decide +kernel, by decide +kernel, by decide +kernel, by decide +kernel, by decide +kernel, by decide +kernel, cleanSpan_ok (by decide +kernel) (by decide +kernel)⟩,
   ⟨go (stream 2 1 32 2 1 4096 []) M0, 5, 0, 0, (Option.get ((go (stream 2 1 32 2 1 4096 []) M0).onChannel 5) (by decide +kernel)).1, (fun q => 4096 + q), (fun q => 4096 + q), by decide +kernel, by decide +kernel, by decide +kernel, by decide +kernel, by decide +kernel, by decide +kernel, plainSpan_ok (by decide +kernel) (by decide +kernel)⟩⟩

theorem wit_StreamOtherForms :
    (∃ s : State, ∃ j : Nat, ∃ p : Nat, ∃ c : Nat, ∃ e : JEntry, s.onChannel j = some (e, p, c) ∧ (s.segmentCredit j e).isSome = true ∧ let ws := e.words; let q := (s.run j).pos; let r := posRow ws q; let k := posAtom ws q; sFar ws = 1 ∧ sCodec ws = 1 ∧ sSegEnd ws e.segs = q + 1 ∧ tOp ws = 1 ∧ ∃ kh : Nat, ∃ kp : Nat, ∃ bs : List Byte, s.Clean (sHeaderAt ws (sBlock ws r k)) 2 kh ∧ s.Clean (sFarAt ws r k) (16 * headerUnits (leNat (s.rbs kh 2))) kp ∧ decodeBlock512 (sBits ws / 8) (leNat (s.rbs kh 2)) (s.rbs kp (16 * headerUnits (leNat (s.rbs kh 2)))) = .ok bs) ∧
    (∃ s : State, ∃ j : Nat, ∃ p : Nat, ∃ c : Nat, ∃ e : JEntry, s.onChannel j = some (e, p, c) ∧ (s.segmentCredit j e).isSome = true ∧ let ws := e.words; let q := (s.run j).pos; let r := posRow ws q; let k := posAtom ws q; sFar ws = 1 ∧ sCodec ws = 1 ∧ sSegEnd ws e.segs = q + 1 ∧ tOp ws = 2 ∧ sBlock ws r k + 1 ≠ sRows ws * sRowAtoms ws ∧ ∃ kh : Nat, ∃ kp : Nat, s.poisonedIn (spKey p (sLocalAt ws r k)) (sAtomBytes ws) = false ∧ let x := encodeBlock512 (sBits ws / 8) (s.rbs (spKey p (sLocalAt ws r k)) (sAtomBytes ws)); s.Plain (sFarAt ws r k) x.payload.length kp ∧ s.Plain (sHeaderAt ws (sBlock ws r k)) 2 kh ∧ (kh + 2 ≤ kp ∨ kp + x.payload.length ≤ kh)) ∧
    (∃ s : State, ∃ j : Nat, ∃ p : Nat, ∃ c : Nat, ∃ e : JEntry, s.onChannel j = some (e, p, c) ∧ (s.segmentCredit j e).isSome = true ∧ let ws := e.words; sFar ws = 3 ∧ tOp ws = 1 ∧ ∃ tag, let m := hMessage ws (s.run j).asked; sUnitEnd ws e.segs = (s.run j).asked + max 1 m.2.2 ∧ s.hostOpen = true ∧ s.host.reads.length < s.readLimit ∧ s.freeTag = some tag) ∧
    (∃ s : State, ∃ j : Nat, ∃ p : Nat, ∃ c : Nat, ∃ e : JEntry, s.onChannel j = some (e, p, c) ∧ (s.segmentCredit j e).isSome = true ∧ let ws := e.words; sFar ws = 3 ∧ tOp ws = 2 ∧ ∃ body, let m := hMessage ws (s.run j).asked; sUnitEnd ws e.segs = (s.run j).asked + max 1 m.2.2 ∧ s.hostOpen = true ∧ s.msgBody p ws m.1 m.2.1 m.2.2 = some body) :=
  ⟨⟨zload, 5, 0, 0, (Option.get (zload.onChannel 5) (by decide +kernel)).1, by decide +kernel, by decide +kernel, by decide +kernel, by decide +kernel, by decide +kernel, by decide +kernel, 8192, 4096, (List.replicate 512 0), clean_ok (by decide +kernel), clean_ok (by decide +kernel), ok_ok (by decide +kernel)⟩,
   ⟨zkeep, 5, 0, 0, (Option.get (zkeep.onChannel 5) (by decide +kernel)).1, by decide +kernel, by decide +kernel, by decide +kernel, by decide +kernel, by decide +kernel, by decide +kernel, by decide +kernel, 8192, 4096, by decide +kernel, plain_ok (by decide +kernel), plain_ok (by decide +kernel), by decide +kernel⟩,
   ⟨H3 1, 5, 0, 0, (Option.get ((H3 1).onChannel 5) (by decide +kernel)).1, by decide +kernel, by decide +kernel, by decide +kernel, by decide +kernel, 0, by decide +kernel, by decide +kernel, by decide +kernel, by decide +kernel⟩,
   ⟨H3 2, 5, 0, 0, (Option.get ((H3 2).onChannel 5) (by decide +kernel)).1, by decide +kernel, by decide +kernel, by decide +kernel, by decide +kernel, (Option.get ((H3 2).msgBody 0 (((Option.get ((H3 2).onChannel 5) (by decide +kernel)).1).words) (hMessage (((Option.get ((H3 2).onChannel 5) (by decide +kernel)).1).words) ((H3 2).run 5).asked).1 (hMessage (((Option.get ((H3 2).onChannel 5) (by decide +kernel)).1).words) ((H3 2).run 5).asked).2.1 (hMessage (((Option.get ((H3 2).onChannel 5) (by decide +kernel)).1).words) ((H3 2).run 5).asked).2.2) (by decide +kernel)), by decide +kernel, by decide +kernel, by decide +kernel⟩⟩

theorem wit_StreamsEnd :
    (∃ s : State, ∃ j : Nat, ∃ e : JEntry, s.Canonical ∧ s.cmd j = some e ∧ e.isStream = true ∧ e.st = .dispatched ∧ e.fin = none ∧ s.live = true ∧ s.targetUp e = true ∧ tOp e.words ≠ 5 ∧ s.segmentDone j e = true ∧ e.pmark.idx < 64 ∧ (∀ p, s.phys e.tile = some p → p < 68) ∧ e.segs + 1 < sSegments e.words) ∧
    (∃ s : State, ∃ j : Nat, ∃ e : JEntry, s.Canonical ∧ s.cmd j = some e ∧ e.isStream = true ∧ e.st = .dispatched ∧ e.fin = none ∧ s.live = true ∧ s.targetUp e = true ∧ tOp e.words ≠ 5 ∧ s.segmentDone j e = true ∧ e.pmark.idx < 64 ∧ (∀ p, s.phys e.tile = some p → p < 68) ∧ sSegments e.words ≤ e.segs + 1) ∧
    (∃ s : State, ∃ j : Nat, ∃ e : JEntry, s.cmd j = some e ∧ e.isStream = true ∧ e.st = .dispatched ∧ e.fin = none ∧ s.live = true ∧ s.targetUp e = true ∧ tOp e.words = 5 ∧ e.segs < recvSegments e.words (s.run j).got false ∧ e.pmark.idx < 64 ∧ (∀ p, s.phys e.tile = some p → p < 68)) ∧
    (∃ s : State, ∃ j : Nat, ∃ p : Nat, ∃ c : Nat, ∃ e : JEntry, s.Canonical ∧ s.onChannel j = some (e, p, c) ∧ tOp e.words = 4 ∧ (∀ x ∈ s.tier.dir, x.2.evreq = false ∧ x.2.invreq = false) ∧ (s.run j).pos ≤ sTotal e.words ∧ (∀ q, q < sTotal e.words → regionOf (sFarAt e.words (posRow e.words q) (posAtom e.words q)) = .flash ∧ ∃ n x, s.dirOf (s.objectOf (frameOf (sFarAt e.words (posRow e.words q) (posAtom e.words q)))).1 = some (n, x) ∧ (x.st = .clean ∨ x.st = .dirty ∨ x.st = .cleaning))) ∧
    (∃ s : State, ∃ j : Nat, ∃ p : Nat, ∃ c : Nat, ∃ e : JEntry, s.Canonical ∧ s.onChannel j = some (e, p, c) ∧ tOp e.words = 5 ∧ (s.run j).staged = true) ∧
    (∃ s : State, ∃ j : Nat, ∃ p : Nat, ∃ c : Nat, ∃ e : JEntry, s.Canonical ∧ s.onChannel j = some (e, p, c) ∧ tOp e.words = 5 ∧ (s.run j).staged = false ∧ (s.run j).arrival = none) :=
  ⟨⟨RS 1 0 { X0 with pos := 32 }, 5, (Option.get ((RS 1 0 { X0 with pos := 32 }).cmd 5) (by decide +kernel)), ⟨by decide +kernel, by decide +kernel, by decide +kernel, by decide +kernel⟩, by decide +kernel, by decide +kernel, by decide +kernel, by decide +kernel, by decide +kernel, by decide +kernel, by decide +kernel, by decide +kernel, by decide +kernel, phys_ok (by decide +kernel), by decide +kernel⟩,
   ⟨RS2 1 0 { X0 with pos := 64 }, 5, (Option.get ((RS2 1 0 { X0 with pos := 64 }).cmd 5) (by decide +kernel)), ⟨by decide +kernel, by decide +kernel, by decide +kernel, by decide +kernel⟩, by decide +kernel, by decide +kernel, by decide +kernel, by decide +kernel, by decide +kernel, by decide +kernel, by decide +kernel, by decide +kernel, by decide +kernel, phys_ok (by decide +kernel), by decide +kernel⟩,
   ⟨RS 5 0 { X0 with got := 64 }, 5, (Option.get ((RS 5 0 { X0 with got := 64 }).cmd 5) (by decide +kernel)), by decide +kernel, by decide +kernel, by decide +kernel, by decide +kernel, by decide +kernel, by decide +kernel, by decide +kernel, by decide +kernel, by decide +kernel, phys_ok (by decide +kernel)⟩,
   ⟨P4, 5, 0, 0, (Option.get (P4.onChannel 5) (by decide +kernel)).1, ⟨by decide +kernel, by decide +kernel, by decide +kernel, by decide +kernel⟩, by decide +kernel, by decide +kernel, by decide +kernel, by decide +kernel, flashAtoms_ok (by decide +kernel)⟩,
   ⟨RS 5 0 { X0 with staged := true, arrival := some 64, got := 64 }, 5, 0, 0, (Option.get ((RS 5 0 { X0 with staged := true, arrival := some 64, got := 64 }).onChannel 5) (by decide +kernel)).1, ⟨by decide +kernel, by decide +kernel, by decide +kernel, by decide +kernel⟩, by decide +kernel, by decide +kernel, by decide +kernel⟩,
   ⟨RS 5 0 { X0 with got := 64 }, 5, 0, 0, (Option.get ((RS 5 0 { X0 with got := 64 }).onChannel 5) (by decide +kernel)).1, ⟨by decide +kernel, by decide +kernel, by decide +kernel, by decide +kernel⟩, by decide +kernel, by decide +kernel, by decide +kernel, by decide +kernel⟩⟩

theorem wit_HaltResumeWatchdog :
    (∃ s : State, ∃ j : Nat, ∃ p : Nat, ∃ c : Nat, ∃ n : Nat, ∃ e : JEntry, s.onChannel j = some (e, p, c) ∧ haltReason (s.run j).wait ≠ 0 ∧ s.waitOver e (s.run j) = false ∧ s.freeHalt e.tile = some n) ∧
    (∃ s : State, ∃ t : Nat, ∃ c : Nat, ∃ j : Nat, ∃ e : JEntry, s.Canonical ∧ t < 64 ∧ s.live = true ∧ s.unitDown 3 t = false ∧ s.mapped t = true ∧ s.freeChannel t = some c ∧ (s.streamsOf t).find? (fun x => s.resumable x.2 (s.run x.1)) = some (j, e)) ∧
    (∃ s : State, ∃ t : Nat, ∃ p : Nat, ∃ n : Nat, ∃ j : Nat, ∃ e : JEntry, s.Canonical ∧ t < 64 ∧ s.phys t = some p ∧ (((s.streamsOf t).filter (fun x => (s.run x.1).blocked && s.isBlocked x.1 x.2 && s.conflicts x.2)).filter (fun x => watchdogEligible x.2)).getLast? = some (j, e) ∧ (s.run j).halt = none ∧ s.freeHalt t = some n) :=
  ⟨⟨pools 0 (RS 1 0 { X0 with wait := .credit }), 5, 0, 0, 0, (Option.get ((pools 0 (RS 1 0 { X0 with wait := .credit })).onChannel 5) (by decide +kernel)).1, by decide +kernel, by decide +kernel, by decide +kernel, by decide +kernel⟩,
   ⟨with1 5 { stream 1 1 32 2 1 4096 [] with unit := .none } (RS 1 0 { X0 with wait := .credit, halt := some (0, 2) }), 0, 0, 5, (Option.get (((with1 5 { stream 1 1 32 2 1 4096 [] with unit := .none } (RS 1 0 { X0 with wait := .credit, halt := some (0, 2) })).streamsOf 0).find? (fun x => (with1 5 { stream 1 1 32 2 1 4096 [] with unit := .none } (RS 1 0 { X0 with wait := .credit, halt := some (0, 2) })).resumable x.2 ((with1 5 { stream 1 1 32 2 1 4096 [] with unit := .none } (RS 1 0 { X0 with wait := .credit, halt := some (0, 2) })).run x.1))) (by decide +kernel)).2, ⟨by decide +kernel, by decide +kernel, by decide +kernel, by decide +kernel⟩, by decide +kernel, by decide +kernel, by decide +kernel, by decide +kernel, by decide +kernel, by decide +kernel⟩,
   ⟨WD, 0, 0, 0, 5, (Option.get ((((WD.streamsOf 0).filter (fun x => (WD.run x.1).blocked && WD.isBlocked x.1 x.2 && WD.conflicts x.2)).filter (fun x => watchdogEligible x.2)).getLast?) (by decide +kernel)).2, ⟨by decide +kernel, by decide +kernel, by decide +kernel, by decide +kernel⟩, by decide +kernel, by decide +kernel, by decide +kernel, by decide +kernel, by decide +kernel⟩⟩

theorem wit_GradientRule :
    (∃ s : State, ∃ j : Nat, ∃ p : Nat, ∃ c : Nat, ∃ e : JEntry, ∃ bs : List StagedBlock, s.onChannel j = some (e, p, c) ∧ tOp e.words = 3 ∧ (s.segmentCredit j e).isSome = true ∧ nmem e.blocks e.segs = false ∧ (s.run j).staged = false ∧ (s.run j).pos < sSegEnd e.words e.segs ∧ s.gStage p e (numsFrom (s.run j).pos (sSegEnd e.words e.segs - (s.run j).pos)) = some bs ∧ s.stagingRoom bs = true) ∧
    (∃ s : State, ∃ j : Nat, ∃ p : Nat, ∃ c : Nat, ∃ e : JEntry, s.onChannel j = some (e, p, c) ∧ tOp e.words = 3 ∧ (s.run j).staged = true ∧ s.blocksStand (s.run j).held State.dramRange = .served) ∧
    (∃ s : State, ∃ j : Nat, ∃ b : StagedBlock, ∃ us : List FV, s.applying.find? (fun g => g.1 == j) = some (j, [b]) ∧ s.poisonedIn b.value 32 = false ∧ s.poisonedIn b.resid 32 = false ∧ s.poisonedIn b.scale 1 = false ∧ s.dramHeld b.value 32 = .served ∧ s.dramHeld b.resid 32 = .served ∧ s.dramHeld b.scale 1 = .served ∧ overlaps b.value 32 b.resid 32 = false ∧ overlaps b.value 32 b.scale 1 = false ∧ overlaps b.resid 32 b.scale 1 = false ∧ s.gSum b = some us) :=
  ⟨⟨G1, 5, 0, 0, (Option.get (G1.onChannel 5) (by decide +kernel)).1, (Option.get (G1.gStage 0 ((Option.get (G1.onChannel 5) (by decide +kernel)).1) (numsFrom (G1.run 5).pos (sSegEnd ((Option.get (G1.onChannel 5) (by decide +kernel)).1).words ((Option.get (G1.onChannel 5) (by decide +kernel)).1).segs - (G1.run 5).pos))) (by decide +kernel)), by decide +kernel, by decide +kernel, by decide +kernel, by decide +kernel, by decide +kernel, by decide +kernel, by decide +kernel, by decide +kernel⟩,
   ⟨streaming 5 AC' { X0 with staged := true, held := [blk conts], pos := 1 } V0, 5, 0, 0, (Option.get ((streaming 5 AC' { X0 with staged := true, held := [blk conts], pos := 1 } V0).onChannel 5) (by decide +kernel)).1, by decide +kernel, by decide +kernel, by decide +kernel, by decide +kernel⟩,
   ⟨gapply, 5, (List.head (Option.get (gapply.applying.find? (fun g => g.1 == 5)) (by decide +kernel)).2 (by decide +kernel)), (Option.get (gapply.gSum (List.head (Option.get (gapply.applying.find? (fun g => g.1 == 5)) (by decide +kernel)).2 (by decide +kernel))) (by decide +kernel)), by decide +kernel, by decide +kernel, by decide +kernel, by decide +kernel, by decide +kernel, by decide +kernel, by decide +kernel, by decide +kernel, by decide +kernel, by decide +kernel, by decide +kernel⟩⟩

end Streams

/-! Route jobs. -/

namespace Route

def tag (i : Nat) : Word := wordOf [(22, 32, i), (10, 8, 1)]
def M0 : State := planned (bound { base with mem := (numsFrom 0 64).map (fun i => (0x11000 + i, BitVec.ofNat 8 (i * 37 % 120 + 1))) })
def M1 : State := ((M0.wbs 0x10000 ((leBytes 4 0x3F800000) ++ leBytes 4 0x40000000 ++ leBytes 8 0 ++ leBytes 4 0x40400000 ++ leBytes 4 0x40000000)).wbs 0x12000 (leBytes 8 (tag 0).toNat ++ leBytes 8 (tag 1).toNat))
def r0 : RouteRun := RouteRun.start 0 0 .wait
def S1 : State := job r0 (rjCmd 0 2 .accepted) M1
def S1' : State := match exec (.routeJob 5) S1 with | .next t => t | _ => S1
def S2 : State := flds [(Fld.TILE_CREDIT_COUNT 0 3, 2)] S1'
def fillIt : State := match exec (.passFill 5 0) S2 with | .next t => t | _ => S2
def S3 : State := { fillIt with journal := fillIt.journal.filter (fun x => x.1 == 5) }
def S4 : State := with1 5 { rjCmd 0 2 .dispatched with st := .dispatched } { S3 with drover := { S3.drover with jobs := S3.drover.jobs.map (fun x => (x.1, { x.2 with st := .combine, rows := 2 })) } }
def LS (v : Nat) : State := { M0 with drover := { M0.drover with layers := [(2, ⟨true, some 7, 0, [(0, ⟨3, 2, 0x3F000000, 5, none⟩), (1, ⟨9, 2, 0x3F000000, 5, some 0x3F800000⟩)]⟩)] }, net := { M0.net with vote := { M0.net.vote with delivered := [(7, v)] } } }

theorem wit_RouteJobSelects : ∃ s : State, ∃ j : Nat, ∃ e : JEntry, ∃ r : RouteRun, ∃ p : RoutePlan, ∃ kt : Nat, ∃ ks : Nat → Nat, s.routeOf j = some (e, r, p) ∧ r.st = .wait ∧ s.routeFree j e r p = true ∧ s.waitPoisoned e = false ∧ s.waitsOk e = true ∧ e.empty = false ∧ rjMindir e.words = false ∧ rjMask e.words = 0 ∧ rjDir e.words ≠ 1 ∧ p.k ≤ p.e ∧ 0 < rjMmax e.words ∧ let ws := e.words; let m := rjMmax ws; s.Clean (rjTags ws) (8 * m) kt ∧ (∀ i, i < m → s.Clean (rjScores ws + i * p.scoreRow) (4 * p.e) (ks i)) ∧ let tags := wordsOfBytes m (s.rbs kt (8 * m)); let biases := (numsFrom 0 p.e).map (fun x => ((s.layer r.cluster p.lslot).expert x).bias); let sel := (numsFrom 0 m).map (fun i => routeToken p biases (numsFrom 0 p.e) (f32sOf p.e (s.rbs (ks i) (4 * p.e)))); tags.any (tagBad (rjMb ws)) = false ∧ (∀ w ∈ planeWrites p ws sel, ∃ k, s.Plain w.1 w.2.length k) :=
  ⟨S1, 5, (Option.get (S1.routeOf 5) (by decide +kernel)).1, (Option.get (S1.routeOf 5) (by decide +kernel)).2.1, (Option.get (S1.routeOf 5) (by decide +kernel)).2.2, 73728, (fun i => 0x10000 + 16 * i), by decide +kernel, by decide +kernel, by decide +kernel, by decide +kernel, by decide +kernel, by decide +kernel, by decide +kernel, by decide +kernel, by decide +kernel, by decide +kernel, by decide +kernel, clean_ok (by decide +kernel), cleanBelow_ok (by decide +kernel), by decide +kernel, plainSome_ok (by decide +kernel)⟩

theorem wit_PassFillRule : ∃ s : State, ∃ j : Nat, ∃ q : Nat, ∃ e : JEntry, ∃ r : RouteRun, ∃ p : RoutePlan, ∃ kr : Nat → Nat, s.routeOf j = some (e, r, p) ∧ r.st = .build ∧ r.err = false ∧ r.sets.length = r.issued ∧ r.sent = 0 ∧ let ps := r.passes.getD r.issued ⟨0, []⟩; let pl := placement (s.section_ 6) p ((ps.segs.head?.map (·.expert)).getD 0); let b := if pl.sets = 1 then 0 else sget 0 s.drover.turns (32 * pl.tile + pl.bpool); let copies := (ps.segs.map r.segCopies).flatten; s.phys pl.tile = some q ∧ q < 68 ∧ 0 < s.pool pl.tile pl.bpool ∧ pl.bpool < 32 ∧ pl.fillmark < 64 ∧ s.grantable pl.tile (pl.prec b) = true ∧ (∀ c ∈ copies, s.Clean (rjTokens e.words + c.1 * p.inBytes) p.inBytes (kr c.1)) :=
  ⟨S2, 5, 0, (Option.get (S2.routeOf 5) (by decide +kernel)).1, (Option.get (S2.routeOf 5) (by decide +kernel)).2.1, (Option.get (S2.routeOf 5) (by decide +kernel)).2.2, (fun i => 0x11000 + 16 * i), by decide +kernel, by decide +kernel, by decide +kernel, by decide +kernel, by decide +kernel, by decide +kernel, by decide +kernel, by decide +kernel, by decide +kernel, by decide +kernel, by decide +kernel, cleanMem_ok (by decide +kernel)⟩

theorem wit_ScatterAndCombine :
    (∃ s : State, ∃ j : Nat, ∃ pass : Nat, ∃ seg : Nat, ∃ q : Nat, ∃ e : JEntry, ∃ r : RouteRun, ∃ p : RoutePlan, ∃ kw : Nat → Nat, s.routeOf j = some (e, r, p) ∧ r.err = false ∧ (r.st = .build ∨ r.st = .run) ∧ let tpl := p.template (s.section_ 6) (rjDir e.words == 1); let segs := (r.passes.getD pass ⟨0, []⟩).segs; seg < segs.length ∧ nmem r.segsDone (8 * pass + seg) = false ∧ s.segmentOver j pass seg tpl.length r = true ∧ let g := segs.getD seg ⟨0, 0, 0, 0⟩; let pl := placement (s.section_ 6) p g.expert; let cap := s.capOf pl.tile pl.prec0; let start := s.bufStart pl.tile (pl.prec (r.sets.getD pass 0)); let o := opN (s.instance_ e r p pass seg (tpl.length - 1)) 2; s.phys pl.tile = some q ∧ (∀ i, i < g.rows → s.spPoisoned q [(o.rowOff i, p.outBytes), (start + 8 * (g.first + i), 8), (start + 8 * cap + 4 * (g.first + i), 4)] = false) ∧ let writes := (numsFrom 0 g.rows).map (fun i => let idx := leNat (s.rbs (spKey q (start + 8 * cap + 4 * (g.first + i))) 4); let slot := bits (wordAt (s.rbs (spKey q (start + 8 * (g.first + i))) 8) 0) 18 4; (rjStage e.words + (idx * p.k + slot) * p.outBytes, s.rbs (spKey q (o.rowOff i)) p.outBytes)); (∀ w ∈ writes, s.Plain w.1 w.2.length (kw w.1))) ∧
    (∃ s : State, ∃ j : Nat, ∃ ks : Nat, ∃ ko : Nat, ∃ e : JEntry, ∃ r : RouteRun, ∃ p : RoutePlan, s.routeOf j = some (e, r, p) ∧ e.st = .dispatched ∧ e.parent = 0 ∧ e.onTile = false ∧ r.st = .combine ∧ r.err = false ∧ r.blocks = [] ∧ let row (i : Nat) : List Byte := combineRow (s.fmt p.outFmt) p.outBytes p.k (s.rbs (ks + i * p.k * p.outBytes) (p.k * p.outBytes)); (∀ i, i < r.rows → s.Clean (rjStage e.words + i * p.k * p.outBytes) (p.k * p.outBytes) (ks + i * p.k * p.outBytes) ∧ (row i).length ≤ p.outBytes ∧ s.Plain (rjOut e.words + i * p.outBytes) (row i).length (ko + i * p.outBytes)) ∧ overlaps ks (r.rows * p.k * p.outBytes) ko (r.rows * p.outBytes) = false) :=
  ⟨⟨S3, 5, 0, 0, 0, (Option.get (S3.routeOf 5) (by decide +kernel)).1, (Option.get (S3.routeOf 5) (by decide +kernel)).2.1, (Option.get (S3.routeOf 5) (by decide +kernel)).2.2, (fun i => i), by decide +kernel, by decide +kernel, by decide +kernel, by decide +kernel, by decide +kernel, by decide +kernel, by decide +kernel, belowF_ok (by decide +kernel), plainMem_ok (by decide +kernel)⟩,
   ⟨S4, 5, 81920, 86016, (Option.get (S4.routeOf 5) (by decide +kernel)).1, (Option.get (S4.routeOf 5) (by decide +kernel)).2.1, (Option.get (S4.routeOf 5) (by decide +kernel)).2.2, by decide +kernel, by decide +kernel, by decide +kernel, by decide +kernel, by decide +kernel, by decide +kernel, by decide +kernel, combine_ok (by decide +kernel), by decide +kernel⟩⟩

theorem wit_StepCloseRule :
    (∃ s : State, ∃ d : Nat, ∃ slot : Nat, ∃ n : Nat, d < 4 ∧ slot < 64 ∧ (s.layer d slot).step = some n ∧ s.reached n = some 2 ∧ s.live = true ∧ s.unitDown 2 d = false ∧ s.clusterOn d = true ∧ s.stepBusy d slot n = false) ∧
    (∃ s : State, ∃ d : Nat, ∃ slot : Nat, ∃ n : Nat, ∃ i : Nat, ∃ k : Nat, ∃ p : RoutePlan, d < 4 ∧ slot < 64 ∧ (s.layer d slot).step = some n ∧ s.reached n = some 1 ∧ s.live = true ∧ s.unitDown 2 d = false ∧ s.clusterOn d = true ∧ s.stepBusy d slot n = false ∧ s.slotPlan d slot = some (i, p) ∧ s.Plain p.visit (visitBytes p.e (s.layer d slot)).length k) ∧
    (∃ s : State, ∃ d : Nat, d < 4 ∧ s.power.porst = false ∧ s.unavailable (Reg.DRV_EXPBIAS d) = false) :=
  ⟨⟨LS 2, 0, 2, 7, by decide +kernel, by decide +kernel, by decide +kernel, by decide +kernel, by decide +kernel, by decide +kernel, by decide +kernel, by decide +kernel⟩,
   ⟨LS 1, 0, 2, 7, 0, 98304, (Option.get ((LS 1).slotPlan 0 2) (by decide +kernel)).2, by decide +kernel, by decide +kernel, by decide +kernel, by decide +kernel, by decide +kernel, by decide +kernel, by decide +kernel, by decide +kernel, by decide +kernel, plain_ok (by decide +kernel)⟩,
   ⟨LS 2, 0, by decide +kernel, by decide +kernel, by decide +kernel⟩⟩

end Route

/-! The vote, verdicts and REDUCE. -/

namespace Vote

def col (op key : Nat) (st : CmdState) : JEntry := entry .collective (ws16 [(0, wordOf [(56, 8, op), (0, 32, key)]), (4, uda 0x10000), (5, uda 0x11000), (6, wordOf [(59, 5, 3), (56, 3, 1)])]) st
def M0 : State := (base.wbs 0x10000 ((leBytes 8 0x4000000000000000) ++ leBytes 8 5 ++ leBytes 8 7))
def voteE (sp : Nat) : Word := wordOf [(60, 4, 2), (48, 12, sp), (36, 12, 1)]
def spokeAt (v : Nat) : State → State := fun s => flds [(Fld.WHL_NOW_REV, v / 4096), (Fld.WHL_NOW_SPOKE, v % 4096)] s
def VL (x : Nat) : State := flds [(Fld.COL_VOTESTEP_OPEN, 3), (Fld.COL_VOTECFG_LEAD, 20)] (calendar (voteE 100) 0 80 (herd x 1 0 M0))
def ctb (src st v : Nat) : Msg := msgOf src 6 ([BitVec.ofNat 64 st, spokeWord v] ++ (⟨false, false, 0x4000000000000000, 0x4008000000000000, 4⟩ : Contrib).words)
def rootAt (x y z : Nat) (s : State) : State := spokeAt 36864 (herd x y z s)
def full (lvl v : Nat) : Partial := ⟨3, true, lvl, v, 0, 0, false, (numsFrom 0 3).map (fun i => (i, (⟨false, false, 0x4000000000000000, 0x4008000000000000, 4⟩ : Contrib).words))⟩
def reds (l : List Partial) (s : State) : State := { s with net := { s.net with reductions := l } }
def DV (l : List Partial) : State := reds l (flds [(Fld.COL_VOTESTEP_OPEN, 3)] (calendar (voteE 100) 0 100 (herd 0 0 0 M0)))
def full2 (u : Bool) : Partial := ⟨3, true, 2, 9 * 4096 + 100, 0, 0, false, (numsFrom 0 4).map (fun i => (i, (⟨false, u, 0x4000000000000000, 0x4008000000000000, 4⟩ : Contrib).words))⟩
def vrec : Verdict := ⟨3, 1, 0, 0x4000000000000000, 0x3FF0000000000000, 7, 8, 0, 40000⟩
def VR1 (v : Nat) (lg : List (List Word)) : State := let s := flds [(Fld.COL_VOTESTEP_OPEN, 3)] (herd 1 0 0 M0)
  { with1 5 { col 1 3 .dispatched with sent := true } s with net := { s.net with inbox := [msgOf 5 7 { vrec with verdict := v }.words], vote := { s.net.vote with opened := true, sealed_ := true, log := lg } } }
def VQ : State := let s := spokeAt 41000 (herd 1 0 0 M0)
  { s with net := { s.net with inbox := [msgOf (herdOf 2 0 0) 8 [3, spokeWord 39000]], vote := { s.net.vote with log := [vrec.words] } } }
def VP : State := let s := flds [(Fld.COL_VOTESTEP_OPEN, 3), (Fld.LNK_STAT_STATE 0, 0), (Fld.LNK_STAT_STATE 1, 0), (Fld.LNK_STAT_STATE 3, 0), (Fld.LNK_STAT_STATE 4, 0), (Fld.LNK_STAT_STATE 5, 0)] (spokeAt 41000 (herd 1 0 0 M0))
  { s with net := { s.net with vote := { s.net.vote with launched := some 40000 } } }
def rc (src : Nat) : Msg := msgOf src 9 (redWord 7 3 1 false :: [1, 2, 3])
def rpart : Partial := ⟨7, false, 0, 0, 3, 1, false, (numsFrom 0 3).map (fun i => (i, [1, 2, 3]))⟩
def rwait : JEntry := { col 2 7 .dispatched with sent := true }

theorem wit_VoteSealRule : ∃ s : State, ∃ j : Nat, ∃ k : Nat, ∃ e : JEntry, s.Ready j e ∧ e.target = .collective ∧ colOp e.words = 1 ∧ e.sent = false ∧ (colSrc e.words = 0 ∨ s.Clean (colSrc e.words) 16 k) :=
  ⟨with1 5 (col 1 3 .accepted) M0, 5, 65536, (Option.get ((with1 5 (col 1 3 .accepted) M0).cmd 5) (by decide +kernel)), ⟨by decide +kernel, by decide +kernel, by decide +kernel, by decide +kernel, by decide +kernel, by decide +kernel, by decide +kernel, by decide +kernel⟩, by decide +kernel, by decide +kernel, by decide +kernel, .inr ⟨.inl (by decide +kernel), by decide +kernel⟩⟩

theorem wit_VoteTreeRule :
    (∃ s : State, ∃ n : Nat, ∃ p : Nat, let c := s.calEntry n; let v := s.nowSpokes + s.voteLead; let up := levelRoot s.herdAddr 0; c.kind = 2 ∧ n < s.calSize ∧ c.dueAt (v / 4096) (v % 4096) = true ∧ s.hasFired (2 * n + 1) = false ∧ s.voteShared n v true = false ∧ s.calAllowed c = true ∧ s.flag Fld.WHL_STAT_PAUSED = false ∧ up ≠ s.herdAddr ∧ s.nextHop up = some p ∧ s.isRetired 2 p = false) ∧
    (∃ s : State, ∃ n : Nat, let c := s.calEntry n; let v := s.nowSpokes + s.voteLead; c.kind = 2 ∧ n < s.calSize ∧ c.dueAt (v / 4096) (v % 4096) = true ∧ s.hasFired (2 * n + 1) = false ∧ s.voteShared n v true = false ∧ s.calAllowed c = true ∧ s.flag Fld.WHL_STAT_PAUSED = false ∧ levelRoot s.herdAddr 0 = s.herdAddr ∧ s.partialOf true s.openStep v 0 = none ∧ 1 < s.levelSize 0) ∧
    (∃ s : State, ∃ m : Msg, ∃ level : Nat, s.net.inbox.find? (fun m => m.mtype == 6) = some m ∧ s.levelOf m.src = some level ∧ let step := (wget m.extra 0).toNat; let v := (wget m.extra 1).toNat / 16; let p := (s.partialOf true step v level).getD ⟨step, true, level, v, 0, 0, false, []⟩; let p' := { p with inputs := sinsert p.inputs (levelPlace m.src level) (Contrib.ofWords (m.extra.drop 2)).words }; s.nowSpokes < v ∧ sfind p.inputs (levelPlace m.src level) = none ∧ (p'.inputs.length < s.levelSize level ∨ level = 2)) ∧
    (∃ s : State, ∃ m : Msg, ∃ level : Nat, ∃ q : Nat, ∃ c : Contrib, s.net.inbox.find? (fun m => m.mtype == 6) = some m ∧ s.levelOf m.src = some level ∧ level < 2 ∧ let step := (wget m.extra 0).toNat; let v := (wget m.extra 1).toNat / 16; let p := (s.partialOf true step v level).getD ⟨step, true, level, v, 0, 0, false, []⟩; let inputs := sinsert p.inputs (levelPlace m.src level) (Contrib.ofWords (m.extra.drop 2)).words; let up := levelRoot s.herdAddr (level + 1); s.nowSpokes < v ∧ sfind p.inputs (levelPlace m.src level) = none ∧ s.levelSize level ≤ inputs.length ∧ combineVotes (inputs.map (fun x => x.2)) = some c ∧ up ≠ s.herdAddr ∧ s.nextHop up = some q ∧ s.isRetired 2 q = false) ∧
    (∃ s : State, ∃ m : Msg, s.net.inbox.find? (fun m => m.mtype == 6) = some m ∧ s.levelOf m.src = some 2 ∧ (wget m.extra 1).toNat / 16 < s.nowSpokes) :=
  ⟨⟨VL 1, 0, 1, by decide +kernel, by decide +kernel, by decide +kernel, by decide +kernel, by decide +kernel, by decide +kernel, by decide +kernel, by decide +kernel, by decide +kernel, by decide +kernel⟩,
   ⟨VL 0, 0, by decide +kernel, by decide +kernel, by decide +kernel, by decide +kernel, by decide +kernel, by decide +kernel, by decide +kernel, by decide +kernel, by decide +kernel, by decide +kernel⟩,
   ⟨inbox [ctb (herdOf 2 0 0) 3 40000] (rootAt 0 0 0 base), (Option.get ((inbox [ctb (herdOf 2 0 0) 3 40000] (rootAt 0 0 0 base)).net.inbox.find? (fun m => m.mtype == 6)) (by decide +kernel)), 0, by decide +kernel, by decide +kernel, by decide +kernel, by decide +kernel, by decide +kernel⟩,
   ⟨inbox [ctb (herdOf 3 1 0) 3 40000] (reds [full 0 40000] (rootAt 0 1 0 base)), (Option.get ((inbox [ctb (herdOf 3 1 0) 3 40000] (reds [full 0 40000] (rootAt 0 1 0 base))).net.inbox.find? (fun m => m.mtype == 6)) (by decide +kernel)), 0, 3, (Option.get (combineVotes ((sinsert (((inbox [ctb (herdOf 3 1 0) 3 40000] (reds [full 0 40000] (rootAt 0 1 0 base))).partialOf true ((wget (Option.get ((inbox [ctb (herdOf 3 1 0) 3 40000] (reds [full 0 40000] (rootAt 0 1 0 base))).net.inbox.find? (fun m => m.mtype == 6)) (by decide +kernel)).extra 0).toNat) ((wget (Option.get ((inbox [ctb (herdOf 3 1 0) 3 40000] (reds [full 0 40000] (rootAt 0 1 0 base))).net.inbox.find? (fun m => m.mtype == 6)) (by decide +kernel)).extra 1).toNat / 16) 0).getD ⟨((wget (Option.get ((inbox [ctb (herdOf 3 1 0) 3 40000] (reds [full 0 40000] (rootAt 0 1 0 base))).net.inbox.find? (fun m => m.mtype == 6)) (by decide +kernel)).extra 0).toNat), true, 0, ((wget (Option.get ((inbox [ctb (herdOf 3 1 0) 3 40000] (reds [full 0 40000] (rootAt 0 1 0 base))).net.inbox.find? (fun m => m.mtype == 6)) (by decide +kernel)).extra 1).toNat / 16), 0, 0, false, []⟩).inputs (levelPlace (Option.get ((inbox [ctb (herdOf 3 1 0) 3 40000] (reds [full 0 40000] (rootAt 0 1 0 base))).net.inbox.find? (fun m => m.mtype == 6)) (by decide +kernel)).src 0) (Contrib.ofWords ((Option.get ((inbox [ctb (herdOf 3 1 0) 3 40000] (reds [full 0 40000] (rootAt 0 1 0 base))).net.inbox.find? (fun m => m.mtype == 6)) (by decide +kernel)).extra.drop 2)).words).map (fun x => x.2))) (by decide +kernel)), by decide +kernel, by decide +kernel, by decide +kernel, by decide +kernel, by decide +kernel, by decide +kernel, by decide +kernel, by decide +kernel, by decide +kernel, by decide +kernel⟩,
   ⟨inbox [ctb (herdOf 0 0 2) 3 30000] (rootAt 0 0 0 base), (Option.get ((inbox [ctb (herdOf 0 0 2) 3 30000] (rootAt 0 0 0 base)).net.inbox.find? (fun m => m.mtype == 6)) (by decide +kernel)), by decide +kernel, by decide +kernel, by decide +kernel⟩⟩

theorem wit_DecisionRule :
    (∃ d : Detector, ∃ c : Contrib, let act (i : Nat) : Prop := d.actions / 2 ^ i % 2 = 1; let nonFinite : Prop := c.nf = true ∧ act 0; nonFinite) ∧
    (∃ d : Detector, ∃ c : Contrib, let act (i : Nat) : Prop := d.actions / 2 ^ i % 2 = 1; let nonFinite : Prop := c.nf = true ∧ act 0; let norm : Prop := fvLt (ofF64 d.gnmax) (ofF64 (f64Sqrt c.gn2)) = true ∧ act 1; ¬ nonFinite ∧ norm) ∧
    (∃ d : Detector, ∃ c : Contrib, ∃ e : F64, ∃ a : Word, let act (i : Nat) : Prop := d.actions / 2 ^ i % 2 = 1; let nonFinite : Prop := c.nf = true ∧ act 0; let norm : Prop := fvLt (ofF64 d.gnmax) (ofF64 (f64Sqrt c.gn2)) = true ∧ act 1; let mean := f64Div c.loss (toF64 (fvNat c.count.toNat)); let spike : Prop := c.count ≠ 0 ∧ d.warmup ≤ a.toNat ∧ a ≠ 0 ∧ fvLt (ofF64 (f64Mul (toF64 (ofF32 d.ratio)) e)) (ofF64 mean) = true ∧ act 2; ¬ nonFinite ∧ ¬ norm ∧ spike) ∧
    (∃ d : Detector, ∃ c : Contrib, ∃ e : F64, ∃ a : Word, let act (i : Nat) : Prop := d.actions / 2 ^ i % 2 = 1; let nonFinite : Prop := c.nf = true ∧ act 0; let norm : Prop := fvLt (ofF64 d.gnmax) (ofF64 (f64Sqrt c.gn2)) = true ∧ act 1; let mean := f64Div c.loss (toF64 (fvNat c.count.toNat)); let spike : Prop := c.count ≠ 0 ∧ d.warmup ≤ a.toNat ∧ a ≠ 0 ∧ fvLt (ofF64 (f64Mul (toF64 (ofF32 d.ratio)) e)) (ofF64 mean) = true ∧ act 2; (nonFinite ∨ norm ∨ spike)) ∧
    (∃ d : Detector, ∃ c : Contrib, ∃ e : F64, ∃ a : Word, let act (i : Nat) : Prop := d.actions / 2 ^ i % 2 = 1; let nonFinite : Prop := c.nf = true ∧ act 0; let norm : Prop := fvLt (ofF64 d.gnmax) (ofF64 (f64Sqrt c.gn2)) = true ∧ act 1; let mean := f64Div c.loss (toF64 (fvNat c.count.toNat)); let spike : Prop := c.count ≠ 0 ∧ d.warmup ≤ a.toNat ∧ a ≠ 0 ∧ fvLt (ofF64 (f64Mul (toF64 (ofF32 d.ratio)) e)) (ofF64 mean) = true ∧ act 2; ¬ nonFinite ∧ ¬ norm ∧ ¬ spike) ∧
    (∃ d : Detector, ∃ c : Contrib, ∃ e : F64, ∃ a : Word, let act (i : Nat) : Prop := d.actions / 2 ^ i % 2 = 1; let nonFinite : Prop := c.nf = true ∧ act 0; let norm : Prop := fvLt (ofF64 d.gnmax) (ofF64 (f64Sqrt c.gn2)) = true ∧ act 1; let mean := f64Div c.loss (toF64 (fvNat c.count.toNat)); let spike : Prop := c.count ≠ 0 ∧ d.warmup ≤ a.toNat ∧ a ≠ 0 ∧ fvLt (ofF64 (f64Mul (toF64 (ofF32 d.ratio)) e)) (ofF64 mean) = true ∧ act 2; ¬ nonFinite ∧ ¬ norm ∧ ¬ spike ∧ c.count = 0) ∧
    (∃ d : Detector, ∃ c : Contrib, ∃ e : F64, ∃ a : Word, let act (i : Nat) : Prop := d.actions / 2 ^ i % 2 = 1; let nonFinite : Prop := c.nf = true ∧ act 0; let norm : Prop := fvLt (ofF64 d.gnmax) (ofF64 (f64Sqrt c.gn2)) = true ∧ act 1; let mean := f64Div c.loss (toF64 (fvNat c.count.toNat)); let spike : Prop := c.count ≠ 0 ∧ d.warmup ≤ a.toNat ∧ a ≠ 0 ∧ fvLt (ofF64 (f64Mul (toF64 (ofF32 d.ratio)) e)) (ofF64 mean) = true ∧ act 2; ¬ nonFinite ∧ ¬ norm ∧ ¬ spike ∧ c.count ≠ 0) :=
  ⟨⟨Detector.default, ⟨true, false, 1, 2, 3⟩, ⟨by decide +kernel, by decide +kernel⟩⟩,
   ⟨det7, ⟨false, false, 0x4000000000000000, 0x4008000000000000, 1⟩, by decide +kernel, ⟨by decide +kernel, by decide +kernel⟩⟩,
   ⟨det7, ⟨false, false, 0, 0x4008000000000000, 2⟩, 0, 5, by decide +kernel, by decide +kernel, ⟨by decide +kernel, by decide +kernel, by decide +kernel, by decide +kernel, by decide +kernel⟩⟩,
   ⟨Detector.default, ⟨true, false, 1, 2, 3⟩, 0, 0, by decide +kernel⟩,
   ⟨Detector.default, ⟨false, false, 0x4000000000000000, 0x4008000000000000, 1⟩, 0, 0, by decide +kernel, by decide +kernel, by decide +kernel⟩,
   ⟨Detector.default, ⟨false, false, 0, 0, 0⟩, 0, 0, by decide +kernel, by decide +kernel, by decide +kernel, by decide +kernel⟩,
   ⟨Detector.default, ⟨false, false, 0x4000000000000000, 0x4008000000000000, 1⟩, 0, 0, by decide +kernel, by decide +kernel, by decide +kernel, by decide +kernel⟩⟩

theorem wit_VerdictRule :
    (∃ s : State, ∃ n : Nat, ∃ p : Partial, ∃ c : Contrib, let q := s.calEntry n; let v := s.nowSpokes; q.kind = 2 ∧ n < s.calSize ∧ s.calDue q = true ∧ s.hasFired (2 * n) = false ∧ s.voteShared n v true = false ∧ s.calAllowed q = true ∧ s.herdAddr = 0 ∧ s.live = true ∧ s.partialOf true s.openStep v 2 = some p ∧ s.levelSize 2 ≤ p.inputs.length ∧ combineVotes (p.inputs.map (fun x => x.2)) = some c ∧ c.uns = false ∧ s.hasVerdict s.openStep v = false) ∧
    (∃ s : State, ∃ n : Nat, let q := s.calEntry n; let v := s.nowSpokes; q.kind = 2 ∧ n < s.calSize ∧ s.calDue q = true ∧ s.hasFired (2 * n) = false ∧ s.voteShared n v true = false ∧ s.calAllowed q = true ∧ s.herdAddr = 0 ∧ s.live = true ∧ (∀ p c, s.partialOf true s.openStep v 2 = some p → s.levelSize 2 ≤ p.inputs.length → combineVotes (p.inputs.map (fun x => x.2)) = some c → c.uns = true) ∧ s.hasVerdict s.openStep v = false) ∧
    (∃ s : State, ∃ m : Msg, s.net.inbox.find? (fun m => m.mtype == 7) = some m ∧ let r := Verdict.ofWords m.extra; s.hasVerdict r.step r.spoke = false ∧ s.net.vote.opened = true ∧ r.step = s.openStep ∧ (r.verdict = 1 ∨ r.verdict = 2) ∧ s.Canonical ∧ (∀ i e, s.cmd i = some e → e.target = .collective → e.parent = 0)) ∧
    (∃ s : State, ∃ m : Msg, s.net.inbox.find? (fun m => m.mtype == 7) = some m ∧ s.hasVerdict (Verdict.ofWords m.extra).step (Verdict.ofWords m.extra).spoke = true ∧ s.parentOf ≠ some m.src) :=
  ⟨⟨DV [full2 false], 0, (Option.get ((DV [full2 false]).partialOf true (DV [full2 false]).openStep ((DV [full2 false]).nowSpokes) 2) (by decide +kernel)), (Option.get (combineVotes ((Option.get ((DV [full2 false]).partialOf true (DV [full2 false]).openStep ((DV [full2 false]).nowSpokes) 2) (by decide +kernel)).inputs.map (fun x => x.2))) (by decide +kernel)), by decide +kernel, by decide +kernel, by decide +kernel, by decide +kernel, by decide +kernel, by decide +kernel, by decide +kernel, by decide +kernel, by decide +kernel, by decide +kernel, by decide +kernel, by decide +kernel, by decide +kernel⟩,
   ⟨DV [full2 true], 0, by decide +kernel, by decide +kernel, by decide +kernel, by decide +kernel, by decide +kernel, by decide +kernel, by decide +kernel, by decide +kernel, votes_ok (by decide +kernel), by decide +kernel⟩,
   ⟨VR1 1 [], (Option.get ((VR1 1 []).net.inbox.find? (fun m => m.mtype == 7)) (by decide +kernel)), by decide +kernel, by decide +kernel, by decide +kernel, by decide +kernel, by decide +kernel, ⟨by decide +kernel, by decide +kernel, by decide +kernel, by decide +kernel⟩, fun i e h => of_decide_eq_true (map_ok (p := fun _ e => decide (e.target = .collective → e.parent = 0)) (by decide +kernel) i e h)⟩,
   ⟨VR1 1 [vrec.words], (Option.get ((VR1 1 [vrec.words]).net.inbox.find? (fun m => m.mtype == 7)) (by decide +kernel)), by decide +kernel, by decide +kernel, by decide +kernel⟩⟩

theorem wit_VerdictRequests :
    (∃ s : State, ∃ m : Msg, ∃ w : List Word, ∃ p : Nat, s.net.inbox.find? (fun m => m.mtype == 8) = some m ∧ (s.net.vote.log.filter (fun w => (Verdict.ofWords w).step == (wget m.extra 0).toNat && decide ((wget m.extra 1).toNat / 16 ≤ (Verdict.ofWords w).spoke))).getLast? = some w ∧ s.nextHop m.src = some p ∧ s.isRetired 2 p = false) ∧
    (∃ s : State, ∃ v : Nat, ∃ p : Nat, s.net.vote.launched = some v ∧ v + 256 ≤ s.nowSpokes ∧ s.hasVerdict s.openStep v = false ∧ s.live = true ∧ p < 6 ∧ s.lnkState p = lnkUp ∧ s.isRetired 2 p = false ∧ s.nextHop (s.neighbour p) = some p ∧ (∀ q, q < 6 → q ≠ p → s.lnkState q = lnkUp → s.nextHop (s.neighbour q) ≠ some p)) :=
  ⟨⟨VQ, (Option.get (VQ.net.inbox.find? (fun m => m.mtype == 8)) (by decide +kernel)), (Option.get ((VQ.net.vote.log.filter (fun w => (Verdict.ofWords w).step == (wget (Option.get (VQ.net.inbox.find? (fun m => m.mtype == 8)) (by decide +kernel)).extra 0).toNat && decide ((wget (Option.get (VQ.net.inbox.find? (fun m => m.mtype == 8)) (by decide +kernel)).extra 1).toNat / 16 ≤ (Verdict.ofWords w).spoke))).getLast?) (by decide +kernel)), 0, by decide +kernel, by decide +kernel, by decide +kernel, by decide +kernel⟩,
   ⟨VP, 40000, 2, by decide +kernel, by decide +kernel, by decide +kernel, by decide +kernel, by decide +kernel, by decide +kernel, by decide +kernel, by decide +kernel, by decide +kernel⟩⟩

theorem wit_ReduceRule :
    (∃ s : State, ∃ j : Nat, ∃ k : Nat, ∃ p : Nat, ∃ e : JEntry, s.Ready j e ∧ e.target = .collective ∧ colOp e.words = 2 ∧ e.sent = false ∧ e.disp = 0 ∧ let up := levelRoot s.herdAddr 0; let n := redCount e.words; up ≠ s.herdAddr ∧ s.nextHop up = some p ∧ s.portLost p j = false ∧ s.Clean (colSrc e.words) (8 * n) k) ∧
    (∃ s : State, ∃ m : Msg, ∃ level : Nat, s.net.inbox.find? (fun m => m.mtype == 9) = some m ∧ s.levelOf m.src = some level ∧ let w := wget m.extra 0; let p := (s.partialOf false (bits w 0 32) 0 level).getD ⟨bits w 0 32, false, level, 0, bits w 32 5, bits w 40 3, false, []⟩; let p' := { p with inputs := sinsert p.inputs (levelPlace m.src level) (m.extra.drop 1) }; sfind p.inputs (levelPlace m.src level) = none ∧ p.mismatch = false ∧ p.count = bits w 32 5 ∧ p.rop = bits w 40 3 ∧ p'.inputs.length < s.levelSize level) ∧
    (∃ s : State, ∃ m : Msg, ∃ level : Nat, ∃ q : Nat, s.net.inbox.find? (fun m => m.mtype == 9) = some m ∧ s.levelOf m.src = some level ∧ level < 2 ∧ let w := wget m.extra 0; let p := (s.partialOf false (bits w 0 32) 0 level).getD ⟨bits w 0 32, false, level, 0, bits w 32 5, bits w 40 3, false, []⟩; let inputs := sinsert p.inputs (levelPlace m.src level) (m.extra.drop 1); let up := levelRoot s.herdAddr (level + 1); sfind p.inputs (levelPlace m.src level) = none ∧ p.mismatch = false ∧ p.count = bits w 32 5 ∧ p.rop = bits w 40 3 ∧ s.levelSize level ≤ inputs.length ∧ up ≠ s.herdAddr ∧ s.nextHop up = some q ∧ s.isRetired 2 q = false) ∧
    (∃ s : State, ∃ m : Msg, ∃ j : Nat, ∃ k : Nat, ∃ e : JEntry, s.net.inbox.find? (fun m => m.mtype == 10) = some m ∧ s.redWaiting (bits (wget m.extra 0) 0 32) = some (j, e) ∧ s.cmd j = some e ∧ e.parent = 0 ∧ e.refusal = none ∧ let out := bytesOfWords ((m.extra.drop 1).take (redCount e.words)); bit (wget m.extra 0) 48 = false ∧ s.Plain (redDst e.words) out.length k) ∧
    (∃ s : State, ∃ m : Msg, ∃ j : Nat, ∃ e : JEntry, s.net.inbox.find? (fun m => m.mtype == 10) = some m ∧ s.redWaiting (bits (wget m.extra 0) 0 32) = some (j, e) ∧ s.cmd j = some e ∧ e.parent = 0 ∧ e.refusal = none ∧ bit (wget m.extra 0) 48 = true) ∧
    (∃ s : State, ∃ j : Nat, ∃ e : JEntry, s.cmd j = some e ∧ e.target = .collective ∧ colOp e.words = 2 ∧ e.st = .dispatched ∧ e.sent = true ∧ e.fin = none ∧ e.parent = 0 ∧ e.refusal = none) :=
  ⟨⟨with1 5 (col 2 7 .accepted) (herd 1 1 0 M0), 5, 65536, 1, (Option.get ((with1 5 (col 2 7 .accepted) (herd 1 1 0 M0)).cmd 5) (by decide +kernel)), ⟨by decide +kernel, by decide +kernel, by decide +kernel, by decide +kernel, by decide +kernel, by decide +kernel, by decide +kernel, by decide +kernel⟩, by decide +kernel, by decide +kernel, by decide +kernel, by decide +kernel, by decide +kernel, by decide +kernel, by decide +kernel, clean_ok (by decide +kernel)⟩,
   ⟨inbox [rc (herdOf 2 0 0)] (herd 0 0 0 M0), (Option.get ((inbox [rc (herdOf 2 0 0)] (herd 0 0 0 M0)).net.inbox.find? (fun m => m.mtype == 9)) (by decide +kernel)), 0, by decide +kernel, by decide +kernel, by decide +kernel, by decide +kernel, by decide +kernel, by decide +kernel, by decide +kernel⟩,
   ⟨inbox [rc (herdOf 3 1 0)] (reds [rpart] (herd 0 1 0 M0)), (Option.get ((inbox [rc (herdOf 3 1 0)] (reds [rpart] (herd 0 1 0 M0))).net.inbox.find? (fun m => m.mtype == 9)) (by decide +kernel)), 0, 3, by decide +kernel, by decide +kernel, by decide +kernel, by decide +kernel, by decide +kernel, by decide +kernel, by decide +kernel, by decide +kernel, by decide +kernel, by decide +kernel, by decide +kernel⟩,
   ⟨inbox [msgOf 0 10 (redWord 7 3 1 false :: [1, 2, 3])] (with1 5 rwait (herd 1 1 0 M0)), (Option.get ((inbox [msgOf 0 10 (redWord 7 3 1 false :: [1, 2, 3])] (with1 5 rwait (herd 1 1 0 M0))).net.inbox.find? (fun m => m.mtype == 10)) (by decide +kernel)), 5, 69632, (Option.get ((inbox [msgOf 0 10 (redWord 7 3 1 false :: [1, 2, 3])] (with1 5 rwait (herd 1 1 0 M0))).redWaiting (bits (wget (Option.get ((inbox [msgOf 0 10 (redWord 7 3 1 false :: [1, 2, 3])] (with1 5 rwait (herd 1 1 0 M0))).net.inbox.find? (fun m => m.mtype == 10)) (by decide +kernel)).extra 0) 0 32)) (by decide +kernel)).2, by decide +kernel, by decide +kernel, by decide +kernel, by decide +kernel, by decide +kernel, by decide +kernel, plain_ok (by decide +kernel)⟩,
   ⟨inbox [msgOf 0 10 (redWord 7 3 1 true :: [1, 2, 3])] (with1 5 rwait (herd 1 1 0 M0)), (Option.get ((inbox [msgOf 0 10 (redWord 7 3 1 true :: [1, 2, 3])] (with1 5 rwait (herd 1 1 0 M0))).net.inbox.find? (fun m => m.mtype == 10)) (by decide +kernel)), 5, (Option.get ((inbox [msgOf 0 10 (redWord 7 3 1 true :: [1, 2, 3])] (with1 5 rwait (herd 1 1 0 M0))).redWaiting (bits (wget (Option.get ((inbox [msgOf 0 10 (redWord 7 3 1 true :: [1, 2, 3])] (with1 5 rwait (herd 1 1 0 M0))).net.inbox.find? (fun m => m.mtype == 10)) (by decide +kernel)).extra 0) 0 32)) (by decide +kernel)).2, by decide +kernel, by decide +kernel, by decide +kernel, by decide +kernel, by decide +kernel, by decide +kernel⟩,
   ⟨inbox [msgOf 0 10 (redWord 7 3 1 false :: [1, 2, 3])] (with1 5 rwait (herd 1 1 0 M0)), 5, (Option.get ((inbox [msgOf 0 10 (redWord 7 3 1 false :: [1, 2, 3])] (with1 5 rwait (herd 1 1 0 M0))).cmd 5) (by decide +kernel)), by decide +kernel, by decide +kernel, by decide +kernel, by decide +kernel, by decide +kernel, by decide +kernel, by decide +kernel, by decide +kernel⟩⟩

end Vote

/-! The update sweep. -/

namespace Update

def M0 : State := ruled (bound base)
def sr : SweepRun := SweepRun.start 0 0
def srs (ph : SweepPhase) (b : Nat) : SweepRun := { sr with st := .sweep, cleared := true, phase := ph, mats := [⟨0, 0⟩], block := b }

theorem wit_SweepBegins :
    (∃ s : State, ∃ j : Nat, ∃ e : JEntry, ∃ r : SweepRun, s.Ready j e ∧ sfind s.sweep.jobs j = some r ∧ r.st = .wait ∧ s.sequencerOn r.seq = true ∧ s.flag (Fld.UPD_CTL_HOLD r.seq) = false ∧ s.sweepVerdict (swStep e.words) = none) ∧
    (∃ s : State, ∃ j : Nat, ∃ e : JEntry, ∃ r : SweepRun, ∃ u : Rule, s.Sweeping j e r ∧ r.st = .verdict ∧ s.sweepVerdict (swStep e.words) = some 1 ∧ s.MaySweep r.seq (swStep e.words) ∧ swResume e.words = false ∧ r.cleared = false ∧ s.rule (swFirst e.words) = some u ∧ u.experts = 0 ∧ 0 < u.bits_ ∧ 0 < swRules e.words) ∧
    (∃ s : State, ∃ j : Nat, ∃ e : JEntry, ∃ r : SweepRun, ∃ n : Nat, ∃ u : Rule, s.Sweeping j e r ∧ r.st = .sweep ∧ r.phase = .start ∧ r.ended < swRules e.words ∧ s.ruleInHand e r = some (n, u) ∧ 0 < u.experts ∧ s.Clean u.visit (visitLen u.experts) u.visit ∧ let ms := (s.touched r.seq u (swStep e.words) (s.rbs u.visit (visitLen u.experts))).map (·.1); ms ≠ []) :=
  ⟨⟨sweeps sr (swCmd 0 2 0 .accepted) M0, 5, (Option.get ((sweeps sr (swCmd 0 2 0 .accepted) M0).cmd 5) (by decide +kernel)), (Option.get (sfind (sweeps sr (swCmd 0 2 0 .accepted) M0).sweep.jobs 5) (by decide +kernel)), ⟨by decide +kernel, by decide +kernel, by decide +kernel, by decide +kernel, by decide +kernel, by decide +kernel, by decide +kernel, by decide +kernel⟩, by decide +kernel, by decide +kernel, by decide +kernel, by decide +kernel, by decide +kernel⟩,
   ⟨voted 1 (sweeps { sr with st := .verdict } (swCmd 0 2 0 .dispatched) (M0.wbs 0x2A000 (pad 16))), 5, (Option.get ((voted 1 (sweeps { sr with st := .verdict } (swCmd 0 2 0 .dispatched) (M0.wbs 0x2A000 (pad 16)))).cmd 5) (by decide +kernel)), (Option.get (sfind (voted 1 (sweeps { sr with st := .verdict } (swCmd 0 2 0 .dispatched) (M0.wbs 0x2A000 (pad 16)))).sweep.jobs 5) (by decide +kernel)), (Option.get ((voted 1 (sweeps { sr with st := .verdict } (swCmd 0 2 0 .dispatched) (M0.wbs 0x2A000 (pad 16)))).rule (swFirst (Option.get ((voted 1 (sweeps { sr with st := .verdict } (swCmd 0 2 0 .dispatched) (M0.wbs 0x2A000 (pad 16)))).cmd 5) (by decide +kernel)).words)) (by decide +kernel)), ⟨by decide +kernel, by decide +kernel, by decide +kernel, by decide +kernel, by decide +kernel, by decide +kernel, by decide +kernel, by decide +kernel, by decide +kernel, by decide +kernel⟩, by decide +kernel, by decide +kernel, ⟨by decide +kernel, by decide +kernel⟩, by decide +kernel, by decide +kernel, by decide +kernel, by decide +kernel, by decide +kernel, by decide +kernel⟩,
   ⟨voted 1 (sweeps { sr with st := .sweep, cleared := true } (swCmd 3 1 0 .dispatched) ((M0.wbs 0x29000 [3]).wbs 0x29010 (leBytes 4 7 ++ leBytes 4 6 ++ leBytes 4 2 ++ leBytes 4 3))), 5, (Option.get ((voted 1 (sweeps { sr with st := .sweep, cleared := true } (swCmd 3 1 0 .dispatched) ((M0.wbs 0x29000 [3]).wbs 0x29010 (leBytes 4 7 ++ leBytes 4 6 ++ leBytes 4 2 ++ leBytes 4 3)))).cmd 5) (by decide +kernel)), (Option.get (sfind (voted 1 (sweeps { sr with st := .sweep, cleared := true } (swCmd 3 1 0 .dispatched) ((M0.wbs 0x29000 [3]).wbs 0x29010 (leBytes 4 7 ++ leBytes 4 6 ++ leBytes 4 2 ++ leBytes 4 3)))).sweep.jobs 5) (by decide +kernel)), 3, (Option.get ((voted 1 (sweeps { sr with st := .sweep, cleared := true } (swCmd 3 1 0 .dispatched) ((M0.wbs 0x29000 [3]).wbs 0x29010 (leBytes 4 7 ++ leBytes 4 6 ++ leBytes 4 2 ++ leBytes 4 3)))).ruleInHand (Option.get ((voted 1 (sweeps { sr with st := .sweep, cleared := true } (swCmd 3 1 0 .dispatched) ((M0.wbs 0x29000 [3]).wbs 0x29010 (leBytes 4 7 ++ leBytes 4 6 ++ leBytes 4 2 ++ leBytes 4 3)))).cmd 5) (by decide +kernel)) (Option.get (sfind (voted 1 (sweeps { sr with st := .sweep, cleared := true } (swCmd 3 1 0 .dispatched) ((M0.wbs 0x29000 [3]).wbs 0x29010 (leBytes 4 7 ++ leBytes 4 6 ++ leBytes 4 2 ++ leBytes 4 3)))).sweep.jobs 5) (by decide +kernel))) (by decide +kernel)).2, ⟨by decide +kernel, by decide +kernel, by decide +kernel, by decide +kernel, by decide +kernel, by decide +kernel, by decide +kernel, by decide +kernel, by decide +kernel, by decide +kernel⟩, by decide +kernel, by decide +kernel, by decide +kernel, by decide +kernel, by decide +kernel, clean_ok (by decide +kernel), by decide +kernel⟩⟩

theorem wit_SweepRestores : ∃ s : State, ∃ j : Nat, ∃ e : JEntry, ∃ r : SweepRun, ∃ u : Rule, s.Sweeping j e r ∧ r.st = .verdict ∧ s.sweepVerdict (swStep e.words) = some 2 ∧ s.MaySweep r.seq (swStep e.words) ∧ swRules e.words = 1 ∧ swFinal e.words = false ∧ s.rule (swFirst e.words) = some u ∧ let planes (h : List Word) : List (Nat × Nat) := [(gValue h, gN h), (gResid h, gN h), (gScale h, gN h / 32)]; let h := s.gHeader u.g; let copy := planes (s.gHeader u.ccopy); s.Clean u.g 64 u.g ∧ (u.restore = 1 → s.CleanAll ((u.ccopy, 64) :: copy) ∧ gN (s.gHeader u.ccopy) = gN h) ∧ s.rangesHeld (planes h) = .served :=
  ⟨voted 2 (sweeps { sr with st := .verdict } (swCmd 4 1 0 .dispatched) M0), 5, (Option.get ((voted 2 (sweeps { sr with st := .verdict } (swCmd 4 1 0 .dispatched) M0)).cmd 5) (by decide +kernel)), (Option.get (sfind (voted 2 (sweeps { sr with st := .verdict } (swCmd 4 1 0 .dispatched) M0)).sweep.jobs 5) (by decide +kernel)), (Option.get ((voted 2 (sweeps { sr with st := .verdict } (swCmd 4 1 0 .dispatched) M0)).rule (swFirst (Option.get ((voted 2 (sweeps { sr with st := .verdict } (swCmd 4 1 0 .dispatched) M0)).cmd 5) (by decide +kernel)).words)) (by decide +kernel)), ⟨by decide +kernel, by decide +kernel, by decide +kernel, by decide +kernel, by decide +kernel, by decide +kernel, by decide +kernel, by decide +kernel, by decide +kernel, by decide +kernel⟩, by decide +kernel, by decide +kernel, ⟨by decide +kernel, by decide +kernel⟩, by decide +kernel, by decide +kernel, by decide +kernel, clean_ok (by decide +kernel), fun _ => ⟨cleanAll_ok (by decide +kernel), by decide +kernel⟩, by decide +kernel⟩

theorem wit_SweepFinalRule : ∃ s : State, ∃ j : Nat, ∃ e : JEntry, ∃ r : SweepRun, s.Sweeping j e r ∧ swFinal e.words = true ∧ r.st = .done ∧ s.difOn = false ∧ let step := swStep e.words; let ac := (s.acOf r.seq + if r.skip then 0 else 1) % 2 ^ 32; (∀ i x, (i, x) ∈ s.seqJobs r.seq → i ≠ j → s.cmdIs i (fun f => swStep f.words == step) = false) ∧ s.rangesHeld ((s.actabWrites r.seq step ac).map (fun x => (x.1, x.2.length))) = .served :=
  ⟨voted 1 (sweeps { sr with st := .done } (swCmd 0 1 1 .dispatched) M0), 5, (Option.get ((voted 1 (sweeps { sr with st := .done } (swCmd 0 1 1 .dispatched) M0)).cmd 5) (by decide +kernel)), (Option.get (sfind (voted 1 (sweeps { sr with st := .done } (swCmd 0 1 1 .dispatched) M0)).sweep.jobs 5) (by decide +kernel)), ⟨by decide +kernel, by decide +kernel, by decide +kernel, by decide +kernel, by decide +kernel, by decide +kernel, by decide +kernel, by decide +kernel, by decide +kernel, by decide +kernel⟩, by decide +kernel, by decide +kernel, by decide +kernel, jobs_ok (by decide +kernel), by decide +kernel⟩

theorem wit_MatrixRule :
    (∃ s : State, ∃ j : Nat, ∃ n : Nat, ∃ e : JEntry, ∃ r : SweepRun, ∃ u : Rule, ∃ m : SweepMat, s.inHand j .prep = some (e, r, n, u, m) ∧ let reads := s.prepReads u m.e; let writes := s.prepWrites u (swStep e.words) (s.acOf r.seq + 1) m (reads.map (fun x => s.rbs x.1 x.2)) ++ [s.bitWrite e.words u m.e]; s.CleanAll ((u.g, 64) :: reads) ∧ s.rangesHeld (writes.map (fun x => (x.1, x.2.length))) = .served) ∧
    (∃ s : State, ∃ j : Nat, ∃ n : Nat, ∃ e : JEntry, ∃ r : SweepRun, ∃ u : Rule, ∃ m : SweepMat, s.inHand j .copy = some (e, r, n, u, m) ∧ let w := bfList (s.rbs (u.w + 2 * m.e * u.matLen) (2 * u.matLen)); let step := swStep e.words; let writes := (if u.copyA then s.copyWrites u step m.e false w else []) ++ (if u.copyB then s.copyWrites u step m.e true w else []); s.Clean (u.w + 2 * m.e * u.matLen) (2 * u.matLen) (u.w + 2 * m.e * u.matLen) ∧ s.rangesHeld (writes.map (fun x => (x.1, x.2.length))) = .served) :=
  ⟨⟨voted 1 (sweeps (srs .prep 0) (swCmd 1 1 0 .dispatched) M0), 5, 1, (Option.get ((voted 1 (sweeps (srs .prep 0) (swCmd 1 1 0 .dispatched) M0)).inHand 5 .prep) (by decide +kernel)).1, (Option.get ((voted 1 (sweeps (srs .prep 0) (swCmd 1 1 0 .dispatched) M0)).inHand 5 .prep) (by decide +kernel)).2.1, (Option.get ((voted 1 (sweeps (srs .prep 0) (swCmd 1 1 0 .dispatched) M0)).inHand 5 .prep) (by decide +kernel)).2.2.2.1, (Option.get ((voted 1 (sweeps (srs .prep 0) (swCmd 1 1 0 .dispatched) M0)).inHand 5 .prep) (by decide +kernel)).2.2.2.2, by decide +kernel, cleanAll_ok (by decide +kernel), by decide +kernel⟩,
   ⟨voted 1 (sweeps (srs .copy 1) (swCmd 0 1 1 .dispatched) M0), 5, 0, (Option.get ((voted 1 (sweeps (srs .copy 1) (swCmd 0 1 1 .dispatched) M0)).inHand 5 .copy) (by decide +kernel)).1, (Option.get ((voted 1 (sweeps (srs .copy 1) (swCmd 0 1 1 .dispatched) M0)).inHand 5 .copy) (by decide +kernel)).2.1, (Option.get ((voted 1 (sweeps (srs .copy 1) (swCmd 0 1 1 .dispatched) M0)).inHand 5 .copy) (by decide +kernel)).2.2.2.1, (Option.get ((voted 1 (sweeps (srs .copy 1) (swCmd 0 1 1 .dispatched) M0)).inHand 5 .copy) (by decide +kernel)).2.2.2.2, by decide +kernel, clean_ok (by decide +kernel), by decide +kernel⟩⟩

theorem wit_CommitGroupRule :
    (∃ s : State, ∃ j : Nat, ∃ n : Nat, ∃ e : JEntry, ∃ r : SweepRun, ∃ u : Rule, ∃ m : SweepMat, s.inHand j .commit = some (e, r, n, u, m) ∧ s.difOn = false ∧ r.block < u.matBlocks ∧ s.commitBit e.words u (u.bitOf m.e r.block) = false ∧ let i := (u.blockSpan m.e r.block).1; let reads := s.groupReads u m.e r.block; let bss := reads.map (fun x => s.rbs x.1 x.2); let up := s.groupUpdate u e.words (s.acOf r.seq + 1) m i bss; let writes := [(u.w + 2 * i, bfBytes up.1)] ++ up.2 ++ s.carryWrites u i bss ++ [s.bitWrite e.words u (u.bitOf m.e r.block)]; s.CleanAll ((u.g, 64) :: reads) ∧ s.rangesHeld (writes.map (fun x => (x.1, x.2.length))) = .served) ∧
    (∃ s : State, ∃ j : Nat, ∃ n : Nat, ∃ e : JEntry, ∃ r : SweepRun, ∃ u : Rule, ∃ m : SweepMat, s.inHand j .commit = some (e, r, n, u, m) ∧ u.matBlocks ≤ r.block ∧ r.block < u.matBlocks + u.stateBlocks ∧ s.commitBit e.words u (u.bitOf m.e r.block) = false ∧ let mv := u.stateMoves m.e (r.block - u.matBlocks); let writes := mv.map (fun x => (x.2.1, s.rbs x.1 x.2.2)) ++ [s.bitWrite e.words u (u.bitOf m.e r.block)]; s.CleanAll (mv.map (fun x => (x.1, x.2.2))) ∧ s.rangesHeld (writes.map (fun x => (x.1, x.2.length))) = .served) :=
  ⟨⟨voted 1 (sweeps (srs .commit 0) (swCmd 0 1 0 .dispatched) M0), 5, 0, (Option.get ((voted 1 (sweeps (srs .commit 0) (swCmd 0 1 0 .dispatched) M0)).inHand 5 .commit) (by decide +kernel)).1, (Option.get ((voted 1 (sweeps (srs .commit 0) (swCmd 0 1 0 .dispatched) M0)).inHand 5 .commit) (by decide +kernel)).2.1, (Option.get ((voted 1 (sweeps (srs .commit 0) (swCmd 0 1 0 .dispatched) M0)).inHand 5 .commit) (by decide +kernel)).2.2.2.1, (Option.get ((voted 1 (sweeps (srs .commit 0) (swCmd 0 1 0 .dispatched) M0)).inHand 5 .commit) (by decide +kernel)).2.2.2.2, by decide +kernel, by decide +kernel, by decide +kernel, by decide +kernel, cleanAll_ok (by decide +kernel), by decide +kernel⟩,
   ⟨voted 1 (sweeps (srs .commit 1) (swCmd 2 1 0 .dispatched) M0), 5, 2, (Option.get ((voted 1 (sweeps (srs .commit 1) (swCmd 2 1 0 .dispatched) M0)).inHand 5 .commit) (by decide +kernel)).1, (Option.get ((voted 1 (sweeps (srs .commit 1) (swCmd 2 1 0 .dispatched) M0)).inHand 5 .commit) (by decide +kernel)).2.1, (Option.get ((voted 1 (sweeps (srs .commit 1) (swCmd 2 1 0 .dispatched) M0)).inHand 5 .commit) (by decide +kernel)).2.2.2.1, (Option.get ((voted 1 (sweeps (srs .commit 1) (swCmd 2 1 0 .dispatched) M0)).inHand 5 .commit) (by decide +kernel)).2.2.2.2, by decide +kernel, by decide +kernel, by decide +kernel, by decide +kernel, cleanAll_ok (by decide +kernel), by decide +kernel⟩⟩

end Update

/-! The memory tiers. -/

namespace Tier

def tiered (cfg : Nat) (f : TierState → TierState) (s : State) : State := let s := flds [(Fld.TIER_STAT_TIERCFG, cfg), (Fld.TIER_STAT_CACHE, 4)] s
  { s with tier := f { s.tier with flashRegions := [⟨0, 64, 1⟩], format := cfg, fstacks := [(0, ⟨true, false, false⟩), (1, ⟨true, false, false⟩)] } }
def ent (st : DirSt) (fr : Nat) (pins : List Nat) : DirEnt := { DirEnt.blank with st := st, frame := fr, size := 1, pins := pins, mask := 1 }
def c5 : JEntry := tileCmd 4 1 [] .dispatched
def P (pins : List Nat) (homes : SMap Nat) : State := with1 5 c5 (tiered 2 (fun t => { t with dir := [(3, ent .promoting 2 pins)], homes := homes, quarantine := [65536 * 2 + 9] }) (base.wbs (frameKey 2 0) (pad 64)))
def W (st : DirSt) (pins : List Nat) : State := tiered 2 (fun t => { t with dir := [(3, { ent st 2 pins with redirty := false })], homes := [(2, 1)] }) base
def Ws (st : DirSt) (pins : List Nat) : State := let s := W st pins; s.wbs (s.slotByte 3 0) (pad 64)
def O (cfg n : Nat) (d : SMap DirEnt) (op : Option TierOp) : State := flds [(Fld.TIER_OPBASE_FRAME, 2), (Fld.TIER_OPBASE_NFRAMES, n)] (tiered cfg (fun t => { t with dir := d, homes := [(2, 1), (3, 1)], op := op }) (linked base))
def fl5 (s : State) : State := { s with image := some ⟨0, 0, 0, 64, 0, 0, 0, 0, 0, 1, 0, 0x3F, 0, 3, 3, 3, 0⟩ }
def RC (p c n : Nat) (cb : Bool) : SMap DirEnt := [(n, { DirEnt.blank with st := .relocated, pch := p, chunk := c, copied := true })]
def tiedUp : State := O 2 1 [(3, ent .clean 2 [])] (some ⟨1, 2, 1, [(3, true)], [], none, [], false, false⟩)

theorem wit_PromotionRule :
    (∃ s : State, ∃ n : Nat, ∃ e : DirEnt, s.dirEnt n = some e ∧ e.st = .promoting ∧ nmem s.tier.lostObjs e.frame = false ∧ e.evreq = false ∧ e.invreq = false ∧ n < s.slotCount ∧ e.size ≤ 32) ∧
    (∃ s : State, ∃ n : Nat, ∃ j : Nat, ∃ f : Nat, ∃ e : DirEnt, ∃ c : JEntry, s.dirEnt n = some e ∧ e.st = .promoting ∧ sfind s.tier.homes e.frame = some f ∧ f < 4 ∧ e.pins = [j] ∧ s.cmd j = some c ∧ c.st = .dispatched ∧ c.fin = none ∧ s.Canonical) ∧
    (∃ s : State, ∃ tag : Nat, nmem s.tier.quarantine tag = true) :=
  ⟨⟨P [] [(2, 1)], 3, (Option.get ((P [] [(2, 1)]).dirEnt 3) (by decide +kernel)), by decide +kernel, by decide +kernel, by decide +kernel, by decide +kernel, by decide +kernel, by decide +kernel, by decide +kernel⟩,
   ⟨P [5] [(2, 1)], 3, 5, 1, (Option.get ((P [5] [(2, 1)]).dirEnt 3) (by decide +kernel)), (Option.get ((P [5] [(2, 1)]).cmd 5) (by decide +kernel)), by decide +kernel, by decide +kernel, by decide +kernel, by decide +kernel, by decide +kernel, by decide +kernel, by decide +kernel, by decide +kernel, ⟨by decide +kernel, by decide +kernel, by decide +kernel, by decide +kernel⟩⟩,
   ⟨P [] [(2, 1)], 131081, by decide +kernel⟩⟩

theorem wit_WriteBackRule :
    (∃ s : State, ∃ n : Nat, ∃ f : Nat, ∃ e : DirEnt, s.dirEnt n = some e ∧ (e.st = .cleaning ∨ e.st = .evicting) ∧ sfind s.tier.homes e.frame = some f ∧ f < 4 ∧ s.flashIn f = true ∧ (s.flashStack f).worn = false ∧ (e.st = .cleaning → s.tier.op = none ∧ e.evreq = false ∧ e.invreq = false) ∧ n < s.slotCount ∧ e.size ≤ 32) ∧
    (∃ s : State, srises s.tier.dir = true ∧ s.get Fld.TIER_STAT_TIERCFG = 2 ∧ s.flag Fld.TIER_DIRCTL_NOCLEAN = false) :=
  ⟨⟨Ws .cleaning [], 3, 1, (Option.get ((Ws .cleaning []).dirEnt 3) (by decide +kernel)), by decide +kernel, by decide +kernel, by decide +kernel, by decide +kernel, by decide +kernel, by decide +kernel, by decide +kernel, by decide +kernel, by decide +kernel⟩,
   ⟨Ws .cleaning [], by decide +kernel, by decide +kernel, by decide +kernel⟩⟩

theorem wit_FlashHomes :
    (∃ s : State, ∃ o : TierOp, ∃ fr : Nat, ∃ f : Nat, s.tier.op = some o ∧ o.programming = some fr ∧ s.dirOf fr = none ∧ sfind s.tier.homes fr = some f ∧ f < 4 ∧ s.flashIn f = true ∧ (s.flashStack f).worn = false) ∧
    (∃ s : State, ∃ fr : Nat, ∃ f : Nat, nmem s.tier.evac fr = true ∧ sfind s.tier.homes fr = some f ∧ s.flashIn f = false ∧ ∃ g, s.chooseHome (s.objectOf fr).2 = some g) ∧
    (∃ s : State, ∃ fr : Nat, ∃ f : Nat, nmem s.tier.evac fr = true ∧ sfind s.tier.homes fr = some f ∧ s.flashIn f = false) ∧
    (∃ s : State, ∃ k : Nat, k < 4 ∧ s.isRetired 4 (32 + k) = false ∧ s.live = true) :=
  ⟨⟨tiered 1 (fun t => { t with homes := [(2, 1)], op := some ⟨4, 2, 1, [], [], some 2, pad 32, false, false⟩ }) base, (Option.get ((tiered 1 (fun t => { t with homes := [(2, 1)], op := some ⟨4, 2, 1, [], [], some 2, pad 32, false, false⟩ }) base).tier.op) (by decide +kernel)), 2, 1, by decide +kernel, by decide +kernel, by decide +kernel, by decide +kernel, by decide +kernel, by decide +kernel, by decide +kernel⟩,
   ⟨let s := tiered 2 (fun t => { t with homes := [(2, 1)], evac := [2] }) base; { s with retired := [65536 * 4 + 33] }, 2, 1, by decide +kernel, by decide +kernel, by decide +kernel, (Option.get ((let s := tiered 2 (fun t => { t with homes := [(2, 1)], evac := [2] }) base; { s with retired := [65536 * 4 + 33] }).chooseHome ((let s := tiered 2 (fun t => { t with homes := [(2, 1)], evac := [2] }) base; { s with retired := [65536 * 4 + 33] }).objectOf 2).2) (by decide +kernel)), by decide +kernel⟩,
   ⟨let s := tiered 2 (fun t => { t with homes := [(2, 1)], evac := [2] }) base; { s with retired := [65536 * 4 + 33] }, 2, 1, by decide +kernel, by decide +kernel, by decide +kernel⟩,
   ⟨Ws .cleaning [], 3, by decide +kernel, by decide +kernel, by decide +kernel⟩⟩

theorem wit_TierOperations :
    (∃ s : State, s.power.porst = false ∧ s.unavailable Reg.TIER_OPCTL = false ∧ srises s.tier.dir = true ∧ let whole : Bool := s.get Fld.TIER_OPBASE_NFRAMES == 0; let lo := if whole then 0 else s.get Fld.TIER_OPBASE_FRAME; let hi := if whole then s.frameTop else lo + s.get Fld.TIER_OPBASE_NFRAMES; let good : Prop := s.tier.op = none ∧ hi ≤ s.frameTop ∧ s.onBoundary lo = true ∧ s.onBoundary hi = true; good ∧ s.get Fld.TIER_STAT_TIERCFG = 2) ∧
    (∃ s : State, s.power.porst = false ∧ s.unavailable Reg.TIER_OPCTL = false ∧ srises s.tier.dir = true ∧ let whole : Bool := s.get Fld.TIER_OPBASE_NFRAMES == 0; let lo := if whole then 0 else s.get Fld.TIER_OPBASE_FRAME; let hi := if whole then s.frameTop else lo + s.get Fld.TIER_OPBASE_NFRAMES; let good : Prop := s.tier.op = none ∧ hi ≤ s.frameTop ∧ s.onBoundary lo = true ∧ s.onBoundary hi = true; good ∧ s.get Fld.TIER_STAT_TIERCFG ≠ 0) ∧
    (∃ s : State, s.power.porst = false ∧ s.unavailable Reg.TIER_OPCTL = false ∧ srises s.tier.dir = true ∧ let whole : Bool := s.get Fld.TIER_OPBASE_NFRAMES == 0; let lo := if whole then 0 else s.get Fld.TIER_OPBASE_FRAME; let hi := if whole then s.frameTop else lo + s.get Fld.TIER_OPBASE_NFRAMES; let good : Prop := s.tier.op = none ∧ hi ≤ s.frameTop ∧ s.onBoundary lo = true ∧ s.onBoundary hi = true; ∃ tag, good ∧ s.get Fld.TIER_STAT_TIERCFG = 1 ∧ lo < hi ∧ s.hostOpen = true ∧ s.live = true ∧ s.host.reads.length < s.readLimit ∧ s.freeTag = some tag ∧ (∀ i r, (i, r) ∈ s.host.reads → ∀ a b c, r.kind ≠ .fill a b c)) ∧
    (∃ s : State, s.power.porst = false ∧ s.unavailable Reg.TIER_OPCTL = false ∧ srises s.tier.dir = true ∧ ∃ o, s.tier.op = some o ∧ o.programming = none ∧ (∀ n b, (n, b) ∈ o.slots → ∀ e, s.dirEnt n = some e → e.st ≠ .cleaning ∧ e.st ≠ .evicting)) :=
  ⟨⟨O 2 1 [(3, ent .dirty 2 [])] none, by decide +kernel, by decide +kernel, by decide +kernel, ⟨by decide +kernel, by decide +kernel, by decide +kernel, by decide +kernel⟩, by decide +kernel⟩,
   ⟨O 2 1 [(3, ent .clean 2 [])] none, by decide +kernel, by decide +kernel, by decide +kernel, ⟨by decide +kernel, by decide +kernel, by decide +kernel, by decide +kernel⟩, by decide +kernel⟩,
   ⟨O 1 1 [(3, ent .clean 2 [])] none, by decide +kernel, by decide +kernel, by decide +kernel, 0, ⟨by decide +kernel, by decide +kernel, by decide +kernel, by decide +kernel⟩, by decide +kernel, by decide +kernel, by decide +kernel, by decide +kernel, by decide +kernel, by decide +kernel, fun i r h => absurd h (empty_ok (by decide +kernel))⟩,
   ⟨tiedUp, by decide +kernel, by decide +kernel, by decide +kernel, (Option.get (tiedUp.tier.op) (by decide +kernel)), by decide +kernel, by decide +kernel, fun n b h e g => of_decide_eq_true (opt_ok (mem_ok (p := fun x => (tiedUp.dirEnt x.1).all (fun e => decide (e.st ≠ .cleaning ∧ e.st ≠ .evicting))) (by decide +kernel) (n, b) h) e g)⟩⟩

theorem wit_DramRetirement :
    (∃ s : State, ∃ k : Nat, k < 20 ∧ s.hflag 5 = true ∧ s.live = true ∧ s.unitDown 1 k = false ∧ s.isRetired 4 k = false) ∧
    (∃ s : State, ∃ p : Nat, p < 640 ∧ s.isRetired 3 p = false ∧ s.isRetired 4 (p / 32) = false ∧ s.live = true ∧ s.tier.pchs = [] ∧ s.tier.dir = [] ∧ s.tier.withdrawn = []) ∧
    (∃ s : State, ∃ p : Nat, ∃ c : Nat, ∃ n : Nat, p < 640 ∧ sfind s.tier.pchs p = some .relocating ∧ s.nextChunk p = some c ∧ s.freeSlot = some n) ∧
    (∃ s : State, ∃ p : Nat, ∃ n : Nat, ∃ e : DirEnt, p < 640 ∧ sfind s.tier.pchs p = some .copyingBack ∧ srises s.tier.dir = true ∧ s.dirEnt n = some e ∧ e.st = .relocated ∧ e.pch = p ∧ (∀ m x, s.dirEnt m = some x → x.st = .relocated → x.pch = p → m ≠ n → e.chunk < x.chunk)) ∧
    (∃ s : State, ∃ k : Nat, k < 20 ∧ s.isRetired 4 k = false ∧ s.live = true) :=
  ⟨⟨fl5 base, 0, by decide +kernel, by decide +kernel, by decide +kernel, by decide +kernel, by decide +kernel⟩,
   ⟨fl5 base, 0, by decide +kernel, by decide +kernel, by decide +kernel, by decide +kernel, by decide +kernel, by decide +kernel, by decide +kernel⟩,
   ⟨tiered 0 (fun t => { t with pchs := [(40, .relocating)], withdrawn := [1] }) base, 40, 0, 0, by decide +kernel, by decide +kernel, by decide +kernel, by decide +kernel⟩,
   ⟨tiered 0 (fun t => { t with pchs := [(40, .copyingBack)], dir := RC 40 0 7 false }) base, 40, 7, (Option.get ((tiered 0 (fun t => { t with pchs := [(40, .copyingBack)], dir := RC 40 0 7 false }) base).dirEnt 7) (by decide +kernel)), by decide +kernel, by decide +kernel, by decide +kernel, by decide +kernel, by decide +kernel, by decide +kernel, oldest_ok (by decide +kernel)⟩,
   ⟨fl5 base, 0, by decide +kernel, by decide +kernel, by decide +kernel⟩⟩

end Tier

/-! Link ports: reception and training. -/

namespace Port

def M0 : State := flds [(Fld.LNK_REPLAYCFG_BUDGET 1, 8)] (herd 1 1 0 base)
def body (m : Msg) : List Byte := (m.flits.headD (0, [])).2
def vm : Msg := { msgOf (herdOf 2 1 0) 6 [1,2,3,4,5,6] with dst := herdOf 1 1 0 }
def vme : Msg := { vm with dst := herdOf 1 3 0 }
def DF (seq : Nat) (m : Msg) : Flit := flitOf (link 1 m.vc seq 0 (body m).length []) (m.flits.headD (0, [])).1 (body m)
def nk (f : Flit) : Flit := { f with fcrc := f.fcrc + 1 }
def df : DFlit := ⟨1, 7, pad 16, false, none, 0⟩
def un (s : State) : State := port 1 (fun q => { q with unacked := [df, df, df], oldest := 4 }) s
def idle (l : List (Nat × Nat × Nat)) : Flit := flitOf (link 0 0 0 0 0 l) 0 []
def hdl (t : Nat) : List Word := [wordOf [(56, 8, t)], 99, 0, 0]
def LP (s : State) : State := flds [(Fld.LNK_STAT_USE_MIN 1, 3), (Fld.LNK_CTL_LPALLOW 1, 1)] s
def T (ph : Nat) (s : State) : State := flds [(Fld.LNK_STAT_STATE 1, 1), (Fld.LNK_STAT_PHASE 1, ph), (Fld.LNK_STAT_GOOD 1, 255), (Fld.LNK_TRAINCFG_ATTEMPTS 1, 3), (Fld.LNK_TRAINCFG_LOSTATTEMPTS 1, 2), (Fld.LNK_TRAINCFG_GAP_S 1, 5), (Fld.LNK_VERCFG_HI_MIN 1, 3)] s
def iw (seen : Nat) : List Word := [wordOf [(56, 8, 1), (55, 1, seen), (44, 4, 1), (40, 4, 2), (36, 4, 1), (32, 4, 0), (16, 16, herdOf 0 1 0)], 5, 6, wordOf [(32, 32, 8), (11, 8, 255)]]
def pt (f : Port → Port) (ph : Nat) := T ph (port 1 f M0)

theorem wit_FlitReception :
    (∃ s : State, ∃ p : Nat, ∃ f : Flit, s.Takes p f ∧ flitType f = 1 ∧ bits f.link 52 12 = ((s.takeReturn p f.link).port p).rxNext ∧ let r := s.takeReturn p f.link; let body := f.payload.take (bits f.link 12 8); r.nextHop (bits f.exch 48 16) = none ∧ bits f.exch 8 12 = 0 ∧ bit f.exch 7 = true ∧ let m := Msg.ofHeader (bits f.exch 48 16) (bits f.exch 32 16) (bits f.exch 20 12) r.slotOpen body; 0 < m.mtype ∧ m.mtype ≤ 10) ∧
    (∃ s : State, ∃ p : Nat, ∃ f : Flit, s.Takes p f ∧ flitType f = 1 ∧ bits f.link 52 12 = ((s.takeReturn p f.link).port p).rxNext ∧ let r := s.takeReturn p f.link; let body := f.payload.take (bits f.link 12 8); ∃ o, r.nextHop (bits f.exch 48 16) = some o ∧ r.isRetired 2 o = false ∧ (bit (wordAt body 0) 46 = false ∨ bits f.exch 8 12 ≠ 0) ∧ sfind r.net.transit (msgKey f.exch) = none ∧ o ≠ p) ∧
    (∃ s : State, ∃ p : Nat, ∃ f : Flit, s.Takes p f ∧ flitType f = 1 ∧ let r := s.takeReturn p f.link; let d := (bits f.link 52 12 + 4096 - (r.port p).rxNext) % 4096; 2048 ≤ d) ∧
    (∃ s : State, ∃ p : Nat, ∃ f : Flit, s.Takes p f ∧ flitType f = 1 ∧ let r := s.takeReturn p f.link; let d := (bits f.link 52 12 + 4096 - (r.port p).rxNext) % 4096; 0 < d ∧ d < 2048) ∧
    (∃ s : State, ∃ p : Nat, ∃ f : Flit, p < 6 ∧ s.lnkState p = lnkUp ∧ flitBroken f = true ∧ flitType f = 1) ∧
    (∃ s : State, ∃ p : Nat, ∃ f : Flit, s.Takes p f ∧ flitType f = 0 ∧ let q := s.port p; let d := (bits f.link 40 12 + 4096 - q.oldest) % 4096; bit f.link 39 = true ∧ bit f.link 38 = false ∧ d < q.unacked.length) ∧
    (∃ s : State, ∃ p : Nat, ∃ f : Flit, s.Takes p f ∧ flitType f = 0 ∧ let q := s.port p; bit f.link 39 = false ∧ bit f.link 38 = true ∧ q.unacked ≠ [] ∧ q.replayAt = none ∧ q.replays + 1 < max 1 (s.get (Fld.LNK_REPLAYCFG_BUDGET p))) :=
  ⟨⟨M0, 1, (DF 0 vm), ⟨by decide +kernel, by decide +kernel, by decide +kernel, by decide +kernel⟩, by decide +kernel, by decide +kernel, by decide +kernel, by decide +kernel, by decide +kernel, by decide +kernel, by decide +kernel⟩,
   ⟨M0, 1, (DF 0 vme), ⟨by decide +kernel, by decide +kernel, by decide +kernel, by decide +kernel⟩, by decide +kernel, by decide +kernel, (Option.get ((M0.takeReturn 1 (DF 0 vme).link).nextHop (bits (DF 0 vme).exch 48 16)) (by decide +kernel)), by decide +kernel, by decide +kernel, by decide +kernel, by decide +kernel, by decide +kernel⟩,
   ⟨M0, 1, (DF 4090 vm), ⟨by decide +kernel, by decide +kernel, by decide +kernel, by decide +kernel⟩, by decide +kernel, by decide +kernel⟩,
   ⟨M0, 1, (DF 5 vm), ⟨by decide +kernel, by decide +kernel, by decide +kernel, by decide +kernel⟩, by decide +kernel, by decide +kernel, by decide +kernel⟩,
   ⟨M0, 1, (nk (DF 0 vm)), by decide +kernel, by decide +kernel, by decide +kernel, by decide +kernel⟩,
   ⟨un M0, 1, (idle [(39, 1, 1), (40, 12, 5), (30, 2, 2), (20, 10, 7)]), ⟨by decide +kernel, by decide +kernel, by decide +kernel, by decide +kernel⟩, by decide +kernel, by decide +kernel, by decide +kernel, by decide +kernel⟩,
   ⟨un M0, 1, (idle [(38, 1, 1)]), ⟨by decide +kernel, by decide +kernel, by decide +kernel, by decide +kernel⟩, by decide +kernel, by decide +kernel, by decide +kernel, by decide +kernel, by decide +kernel, by decide +kernel⟩⟩

theorem wit_ControlMessages :
    (∃ s : State, ∃ p : Nat, ∃ f : Flit, ∃ m : List Word, s.TakesMsg p f m ∧ let r := s.takeReturn p f.link; ctlType m = 2 ∧ r.mayLowPower p = true) ∧
    (∃ s : State, ∃ p : Nat, ∃ f : Flit, ∃ m : List Word, s.TakesMsg p f m ∧ let r := s.takeReturn p f.link; ctlType m = 3 ∧ (r.port p).pmEnter = true ∧ r.mayLowPower p = true) ∧
    (∃ s : State, ∃ p : Nat, ∃ f : Flit, ∃ m : List Word, s.TakesMsg p f m ∧ let r := s.takeReturn p f.link; ctlType m = 4 ∧ r.lnkState p = lnkLow) ∧
    (∃ s : State, ∃ p : Nat, ∃ f : Flit, ∃ m : List Word, s.TakesMsg p f m ∧ ctlType m = 5) ∧
    (∃ s : State, ∃ p : Nat, ∃ f : Flit, ∃ m : List Word, s.TakesMsg p f m ∧ ctlType m = 6) ∧
    (∃ s : State, ∃ p : Nat, ∃ f : Flit, ∃ m : List Word, s.TakesMsg p f m ∧ let r := s.takeReturn p f.link; ctlType m = 8 ∧ r.lnkState p = lnkUp ∧ (r.port p).dying = false) :=
  ⟨⟨LP M0, 1, (ctl (hdl 2)), (hdl 2), ⟨⟨by decide +kernel, by decide +kernel, by decide +kernel, by decide +kernel⟩, by decide +kernel, by decide +kernel⟩, by decide +kernel, by decide +kernel⟩,
   ⟨LP (port 1 (fun q => { q with pmEnter := true }) M0), 1, (ctl (hdl 3)), (hdl 3), ⟨⟨by decide +kernel, by decide +kernel, by decide +kernel, by decide +kernel⟩, by decide +kernel, by decide +kernel⟩, by decide +kernel, by decide +kernel, by decide +kernel⟩,
   ⟨flds [(Fld.LNK_STAT_STATE 1, 5)] M0, 1, (ctl (hdl 4)), (hdl 4), ⟨⟨by decide +kernel, by decide +kernel, by decide +kernel, by decide +kernel⟩, by decide +kernel, by decide +kernel⟩, by decide +kernel, by decide +kernel⟩,
   ⟨LP M0, 1, (ctl (hdl 5)), (hdl 5), ⟨⟨by decide +kernel, by decide +kernel, by decide +kernel, by decide +kernel⟩, by decide +kernel, by decide +kernel⟩, by decide +kernel⟩,
   ⟨LP M0, 1, (ctl (hdl 6)), (hdl 6), ⟨⟨by decide +kernel, by decide +kernel, by decide +kernel, by decide +kernel⟩, by decide +kernel, by decide +kernel⟩, by decide +kernel⟩,
   ⟨LP M0, 1, (ctl (hdl 8)), (hdl 8), ⟨⟨by decide +kernel, by decide +kernel, by decide +kernel, by decide +kernel⟩, by decide +kernel, by decide +kernel⟩, by decide +kernel, by decide +kernel, by decide +kernel⟩⟩

theorem wit_IdentRule :
    (∃ s : State, ∃ p : Nat, ∃ f : Flit, ∃ m : List Word, p < 6 ∧ s.Trains p 3 ∧ flitBroken f = false ∧ flitType f = 2 ∧ flitMessages f = [m] ∧ ctlType m = 1 ∧ ((s.port p).sentSeen = false ∨ ((s.port p).identSeen = false ∧ bit (wget m 0) 55 = false))) ∧
    (∃ s : State, ∃ p : Nat, ∃ f : Flit, ∃ m : List Word, p < 6 ∧ s.Trains p 3 ∧ flitBroken f = false ∧ flitType f = 2 ∧ flitMessages f = [m] ∧ ctlType m = 1 ∧ let o := s.offers p; let lo := max (16 + o.1) (bits (wget m 0) 32 8); let hi := min (16 + o.2) (bits (wget m 0) 40 8); let good := maskBits 8 (s.goodLanes p &&& bits (wget m 3) 11 8); (s.port p).sentSeen = true ∧ bit (wget m 0) 55 = true ∧ ((s.port p).beenUp = false ∨ (s.port p).skipIdentity = true ∨ s.samePartner p m = true) ∧ lo ≤ hi ∧ 4 ≤ good.length) :=
  ⟨⟨T 3 M0, 1, (ctl (iw 0)), (List.head (flitMessages (ctl (iw 0))) (by decide +kernel)), by decide +kernel, ⟨by decide +kernel, by decide +kernel⟩, by decide +kernel, by decide +kernel, by decide +kernel, by decide +kernel, by decide +kernel⟩,
   ⟨pt (fun q => { q with sentSeen := true, locked := 255, unacked := [df] }) 3, 1, (ctl (iw 1)), (List.head (flitMessages (ctl (iw 1))) (by decide +kernel)), by decide +kernel, ⟨by decide +kernel, by decide +kernel⟩, by decide +kernel, by decide +kernel, by decide +kernel, by decide +kernel, by decide +kernel, by decide +kernel, by decide +kernel, by decide +kernel, by decide +kernel⟩⟩

theorem wit_TrainingRule :
    (∃ s : State, ∃ p : Nat, p < 6 ∧ s.Trains p 1) ∧
    (∃ s : State, ∃ p : Nat, p < 6 ∧ s.Trains p 0 ∧ (s.port p).fast = true ∧ (s.port p).downSlots = 0 ∧ (s.port p).dying = false) ∧
    (∃ s : State, ∃ p : Nat, p < 6 ∧ ∃ l, s.Trains p 2 ∧ 4 ≤ (maskBits 8 (s.get (Fld.LNK_STAT_GOOD p) &&& l)).length) ∧
    (∃ s : State, ∃ p : Nat, p < 6 ∧ ∃ l, s.lnkState p = lnkLow ∧ (s.port p).waking = true ∧ s.get (Fld.LNK_STAT_LANES p) &&& l = s.get (Fld.LNK_STAT_LANES p)) ∧
    (∃ s : State, ∃ p : Nat, p < 6 ∧ ∃ ph, s.Trains p ph ∧ ph ≠ 6 ∧ (s.port p).dying = false) ∧
    (∃ s : State, ∃ p : Nat, p < 6 ∧ s.lnkState p = lnkAbsent ∧ s.get (Fld.LNK_TRAINCFG_GAP_S p) ≠ 0) ∧
    (∃ s : State, ∃ p : Nat, p < 6 ∧ s.lnkState p = lnkUp ∧ (s.port p).dying = false) ∧
    (∃ s : State, ∃ p : Nat, p < 6 ∧ s.lnkState p = lnkUp ∧ (s.port p).unacked ≠ [] ∧ (s.port p).replayAt = none ∧ (s.port p).replays + 1 < max 1 (s.get (Fld.LNK_REPLAYCFG_BUDGET p))) ∧
    (∃ s : State, ∃ p : Nat, p < 6 ∧ ∃ i, ∃ n, i < 8 ∧ s.lnkState p = lnkUp ∧ s.get (Fld.LNK_STAT_GOOD p) / 2 ^ i % 2 = 1 ∧ 65536 * s.get (Fld.LNK_LANECFG_THRESH p) < n ∧ 5 ≤ (maskBits 8 (s.get (Fld.LNK_STAT_GOOD p))).length) :=
  ⟨⟨T 1 M0, 1, by decide +kernel, ⟨by decide +kernel, by decide +kernel⟩⟩,
   ⟨pt (fun q => { q with fast := true }) 0, 1, by decide +kernel, ⟨by decide +kernel, by decide +kernel⟩, by decide +kernel, by decide +kernel, by decide +kernel⟩,
   ⟨T 2 M0, 1, by decide +kernel, 255, ⟨by decide +kernel, by decide +kernel⟩, by decide +kernel⟩,
   ⟨flds [(Fld.LNK_STAT_LANES 1, 15), (Fld.LNK_STAT_STATE 1, 5)] (port 1 (fun q => { q with waking := true }) M0), 1, by decide +kernel, 255, by decide +kernel, by decide +kernel, by decide +kernel⟩,
   ⟨T 1 M0, 1, by decide +kernel, 1, ⟨by decide +kernel, by decide +kernel⟩, by decide +kernel, by decide +kernel⟩,
   ⟨flds [(Fld.LNK_STAT_STATE 1, 3), (Fld.LNK_TRAINCFG_GAP_S 1, 3)] M0, 1, by decide +kernel, by decide +kernel, by decide +kernel⟩,
   ⟨pt (fun q => { q with fast := true }) 2, 2, by decide +kernel, by decide +kernel, by decide +kernel⟩,
   ⟨un M0, 1, by decide +kernel, by decide +kernel, by decide +kernel, by decide +kernel, by decide +kernel⟩,
   ⟨flds [(Fld.LNK_STAT_GOOD 1, 255), (Fld.LNK_STAT_LANES 1, 15), (Fld.LNK_LANECFG_THRESH 1, 1)] M0, 1, by decide +kernel, 1, 70000, by decide +kernel, by decide +kernel, by decide +kernel, by decide +kernel, by decide +kernel⟩⟩

end Port

/-! Link ports: service and flit slots. -/

namespace Slots

def M0 : State := flds [(Fld.LNK_REPLAYCFG_BUDGET 1, 8)] (herd 1 1 0 base)
def df (v : Nat) : DFlit := ⟨v, 7 + BitVec.ofNat 64 v, pad 16, false, none, 0⟩
def T (ph : Nat) (s : State) : State := flds [(Fld.LNK_STAT_STATE 1, 1), (Fld.LNK_STAT_PHASE 1, ph)] s
def S5 (j : Nat) : State := with1 5 { tileCmd 4 2 [] .dispatched with unit := .channel 0 } (port 1 (fun q => { q with dying := true, unacked := [{ df 2 with jseq := 5 }] }) M0)
def st (n : Nat) : State := flds [(Fld.LNK_STAT_STATE 1, n)] M0
def hd (s : State) : State := flds [(Fld.LNK_CTL_HOLDDOWN 1, 1)] s
def cr (a b c d : Nat) (s : State) : State := flds [(creditFld 1 0, a), (creditFld 1 1, b), (creditFld 1 2, c), (creditFld 1 3, d)] s
def Q (vs : List Nat) (f : Port → Port) (s : State) : State := port 1 (fun q => f { q with queue := vs.map (fun v => (v, [df v, { df v with exch := 99 }])) }) (cr 9 9 9 9 s)
def gr (s : State) : State := { s with wheel := { s.wheel with grants := [⟨1, 1000⟩] } }

theorem wit_PortServiceRule :
    (∃ s : State, ∃ p : Nat, p < 6 ∧ (s.port p).dying = true ∧ (s.port p).downSlots = 0 ∧ s.Canonical ∧ (∀ j ∈ s.lostWith p, sfind s.drover.jobs j = none)) ∧
    (∃ s : State, ∃ p : Nat, ∃ l : Nat, p < 6 ∧ s.Trains p 6 ∧ 4 ≤ (maskBits 8 (l % 256)).length) ∧
    (∃ s : State, ∃ p : Nat, ∃ l : Nat, p < 6 ∧ s.Trains p 6 ∧ (maskBits 8 (l % 256)).length < 4) ∧
    (∃ s : State, ∃ p : Nat, ∃ v : BitVec 32, p < 6 ∧ s.power.porst = false ∧ s.unavailable (Reg.LNK_CTL p) = false ∧ v.getLsbD 5 = s.flag (Fld.LNK_CTL_HOLDDOWN p) ∧ v.getLsbD 0 = false ∧ s.lnkState p = lnkUp ∧ (s.port p).dying = false) ∧
    (∃ s : State, ∃ p : Nat, ∃ v : BitVec 32, p < 6 ∧ s.power.porst = false ∧ s.unavailable (Reg.LNK_CTL p) = false ∧ v.getLsbD 5 = s.flag (Fld.LNK_CTL_HOLDDOWN p) ∧ v.getLsbD 1 = false ∧ s.lnkState p = lnkRetired ∧ s.timesRetired 2 p < 3) ∧
    (∃ s : State, ∃ p : Nat, ∃ v : BitVec 32, p < 6 ∧ s.power.porst = false ∧ s.unavailable (Reg.LNK_CTL p) = false ∧ v.getLsbD 0 = false ∧ v.getLsbD 1 = false ∧ v.getLsbD 5 = true ∧ s.flag (Fld.LNK_CTL_HOLDDOWN p) = false ∧ s.lnkState p = lnkUp) ∧
    (∃ s : State, ∃ p : Nat, ∃ v : BitVec 32, p < 6 ∧ s.power.porst = false ∧ s.unavailable (Reg.LNK_CTL p) = false ∧ v.getLsbD 0 = false ∧ v.getLsbD 1 = false ∧ v.getLsbD 5 = true ∧ s.flag (Fld.LNK_CTL_HOLDDOWN p) = false ∧ (s.lnkState p = lnkTraining ∨ s.lnkState p = lnkAbsent)) ∧
    (∃ s : State, ∃ p : Nat, ∃ v : BitVec 32, p < 6 ∧ s.power.porst = false ∧ s.unavailable (Reg.LNK_CTL p) = false ∧ v.getLsbD 0 = false ∧ v.getLsbD 1 = false ∧ v.getLsbD 5 = false ∧ s.flag (Fld.LNK_CTL_HOLDDOWN p) = true ∧ s.lnkState p = lnkDown ∧ s.unitDown 4 p = false) :=
  ⟨⟨S5 0, 1, by decide +kernel, by decide +kernel, by decide +kernel, ⟨by decide +kernel, by decide +kernel, by decide +kernel, by decide +kernel⟩, by decide +kernel⟩,
   ⟨T 6 M0, 1, 255, by decide +kernel, ⟨by decide +kernel, by decide +kernel⟩, by decide +kernel⟩,
   ⟨T 6 M0, 1, 1, by decide +kernel, ⟨by decide +kernel, by decide +kernel⟩, by decide +kernel⟩,
   ⟨T 6 M0, 3, (0 : BitVec 32), by decide +kernel, by decide +kernel, by decide +kernel, by decide +kernel, by decide +kernel, by decide +kernel, by decide +kernel⟩,
   ⟨st 4, 1, (0 : BitVec 32), by decide +kernel, by decide +kernel, by decide +kernel, by decide +kernel, by decide +kernel, by decide +kernel, by decide +kernel⟩,
   ⟨M0, 1, (32 : BitVec 32), by decide +kernel, by decide +kernel, by decide +kernel, by decide +kernel, by decide +kernel, by decide +kernel, by decide +kernel, by decide +kernel⟩,
   ⟨st 3, 1, (32 : BitVec 32), by decide +kernel, by decide +kernel, by decide +kernel, by decide +kernel, by decide +kernel, by decide +kernel, by decide +kernel, by decide +kernel⟩,
   ⟨hd (st 0), 1, (0 : BitVec 32), by decide +kernel, by decide +kernel, by decide +kernel, by decide +kernel, by decide +kernel, by decide +kernel, by decide +kernel, by decide +kernel, by decide +kernel⟩⟩

theorem wit_FlitSlotRule :
    (∃ s : State, ∃ p : Nat, ∃ again : Bool, p < 6 ∧ let q := s.port p; let noControl : Prop := q.urgent = [] ∧ (q.sinceControl < 64 ∨ (q.control = [] ∧ ¬ (q.pmEnter = true ∧ again = true))); s.lnkState p = lnkUp ∧ q.downSlots = 0 ∧ noControl ∧ q.replayAt = none ∧ ∃ f, ∃ r, q.queueOf 1 = f :: r ∧ s.sendable p 1 = true) ∧
    (∃ s : State, ∃ p : Nat, ∃ again : Bool, p < 6 ∧ let q := s.port p; let noControl : Prop := q.urgent = [] ∧ (q.sinceControl < 64 ∨ (q.control = [] ∧ ¬ (q.pmEnter = true ∧ again = true))); s.lnkState p = lnkUp ∧ q.downSlots = 0 ∧ noControl ∧ q.replayAt = none ∧ ∃ f, ∃ r, s.sendable p 1 = false ∧ s.grantOpen p = true ∧ q.queueOf 0 = f :: r ∧ s.sendable p 0 = true) ∧
    (∃ s : State, ∃ p : Nat, ∃ again : Bool, p < 6 ∧ let q := s.port p; let noControl : Prop := q.urgent = [] ∧ (q.sinceControl < 64 ∨ (q.control = [] ∧ ¬ (q.pmEnter = true ∧ again = true))); s.lnkState p = lnkUp ∧ q.downSlots = 0 ∧ noControl ∧ q.replayAt = none ∧ ∃ f, ∃ r, s.sendable p 1 = false ∧ s.grantOpen p = false ∧ 15 ≤ q.waited2 ∧ q.queueOf 2 = f :: r ∧ s.sendable p 2 = true) ∧
    (∃ s : State, ∃ p : Nat, ∃ again : Bool, p < 6 ∧ let q := s.port p; let noControl : Prop := q.urgent = [] ∧ (q.sinceControl < 64 ∨ (q.control = [] ∧ ¬ (q.pmEnter = true ∧ again = true))); s.lnkState p = lnkUp ∧ q.downSlots = 0 ∧ noControl ∧ q.replayAt = none ∧ ∃ f, ∃ r, s.sendable p 1 = false ∧ (s.grantOpen p = false ∨ s.sendable p 0 = false) ∧ (q.waited2 < 15 ∨ s.grantOpen p = true ∨ s.sendable p 2 = false) ∧ q.queueOf 3 = f :: r ∧ s.sendable p 3 = true) ∧
    (∃ s : State, ∃ p : Nat, ∃ again : Bool, p < 6 ∧ let q := s.port p; let noControl : Prop := q.urgent = [] ∧ (q.sinceControl < 64 ∨ (q.control = [] ∧ ¬ (q.pmEnter = true ∧ again = true))); s.lnkState p = lnkUp ∧ q.downSlots = 0 ∧ noControl ∧ q.replayAt = none ∧ ∃ f, ∃ r, s.sendable p 1 = false ∧ (s.grantOpen p = false ∨ s.sendable p 0 = false) ∧ s.sendable p 3 = false ∧ q.queueOf 2 = f :: r ∧ s.sendable p 2 = true) ∧
    (∃ s : State, ∃ p : Nat, ∃ again : Bool, p < 6 ∧ let q := s.port p; let noControl : Prop := q.urgent = [] ∧ (q.sinceControl < 64 ∨ (q.control = [] ∧ ¬ (q.pmEnter = true ∧ again = true))); s.lnkState p = lnkUp ∧ q.downSlots = 0 ∧ noControl ∧ q.replayAt = none ∧ s.sendable p 0 = false ∧ s.sendable p 1 = false ∧ s.sendable p 2 = false ∧ s.sendable p 3 = false) ∧
    (∃ s : State, ∃ p : Nat, ∃ again : Bool, p < 6 ∧ let q := s.port p; let noControl : Prop := q.urgent = [] ∧ (q.sinceControl < 64 ∨ (q.control = [] ∧ ¬ (q.pmEnter = true ∧ again = true))); s.lnkState p = lnkUp ∧ q.downSlots = 0 ∧ ∃ i, ∃ f, ∃ r, noControl ∧ q.replayAt = some i ∧ q.unacked.drop i = f :: r) ∧
    (∃ s : State, ∃ p : Nat, p < 6 ∧ let q := s.port p; s.lnkState p = lnkUp ∧ q.downSlots = 0 ∧ q.urgent ≠ [] ∧ q.pmEnter = false) ∧
    (∃ s : State, ∃ p : Nat, ∃ again : Bool, p < 6 ∧ let q := s.port p; s.Trains p 3 ∧ q.downSlots = 0 ∧ again = true ∧ q.ident = none) ∧
    (∃ s : State, ∃ p : Nat, p < 6 ∧ let q := s.port p; s.lnkState p = lnkLow ∧ q.waking = false ∧ (∃ v f, f ∈ q.queueOf v)) :=
  ⟨⟨Q [0, 1, 2, 3] id M0, 1, false, by decide +kernel, by decide +kernel, by decide +kernel, ⟨by decide +kernel, by decide +kernel⟩, by decide +kernel, (List.head (((Q [0, 1, 2, 3] id M0).port 1).queueOf 1) (by decide +kernel)), (List.tail (((Q [0, 1, 2, 3] id M0).port 1).queueOf 1)), by decide +kernel, by decide +kernel⟩,
   ⟨gr (Q [0, 2, 3] id M0), 1, false, by decide +kernel, by decide +kernel, by decide +kernel, ⟨by decide +kernel, by decide +kernel⟩, by decide +kernel, (List.head (((gr (Q [0, 2, 3] id M0)).port 1).queueOf 0) (by decide +kernel)), (List.tail (((gr (Q [0, 2, 3] id M0)).port 1).queueOf 0)), by decide +kernel, by decide +kernel, by decide +kernel, by decide +kernel⟩,
   ⟨Q [0, 2, 3] (fun q => { q with waited2 := 15 }) M0, 1, false, by decide +kernel, by decide +kernel, by decide +kernel, ⟨by decide +kernel, by decide +kernel⟩, by decide +kernel, (List.head (((Q [0, 2, 3] (fun q => { q with waited2 := 15 }) M0).port 1).queueOf 2) (by decide +kernel)), (List.tail (((Q [0, 2, 3] (fun q => { q with waited2 := 15 }) M0).port 1).queueOf 2)), by decide +kernel, by decide +kernel, by decide +kernel, by decide +kernel, by decide +kernel⟩,
   ⟨Q [2, 3] id M0, 1, false, by decide +kernel, by decide +kernel, by decide +kernel, ⟨by decide +kernel, by decide +kernel⟩, by decide +kernel, (List.head (((Q [2, 3] id M0).port 1).queueOf 3) (by decide +kernel)), (List.tail (((Q [2, 3] id M0).port 1).queueOf 3)), by decide +kernel, by decide +kernel, by decide +kernel, by decide +kernel, by decide +kernel⟩,
   ⟨Q [2] id M0, 1, false, by decide +kernel, by decide +kernel, by decide +kernel, ⟨by decide +kernel, by decide +kernel⟩, by decide +kernel, (List.head (((Q [2] id M0).port 1).queueOf 2) (by decide +kernel)), (List.tail (((Q [2] id M0).port 1).queueOf 2)), by decide +kernel, by decide +kernel, by decide +kernel, by decide +kernel, by decide +kernel⟩,
   ⟨Q [] id M0, 1, false, by decide +kernel, by decide +kernel, by decide +kernel, ⟨by decide +kernel, by decide +kernel⟩, by decide +kernel, by decide +kernel, by decide +kernel, by decide +kernel, by decide +kernel⟩,
   ⟨Q [] (fun q => { q with unacked := [df 1, df 2], replayAt := some 1 }) M0, 1, false, by decide +kernel, by decide +kernel, by decide +kernel, 1, (List.head (((Q [] (fun q => { q with unacked := [df 1, df 2], replayAt := some 1 }) M0).port 1).unacked.drop 1) (by decide +kernel)), (List.tail (((Q [] (fun q => { q with unacked := [df 1, df 2], replayAt := some 1 }) M0).port 1).unacked.drop 1)), ⟨by decide +kernel, by decide +kernel⟩, by decide +kernel, by decide +kernel⟩,
   ⟨Q [1] (fun q => { q with urgent := [[5,6,7,8]] }) M0, 1, by decide +kernel, by decide +kernel, by decide +kernel, by decide +kernel, by decide +kernel⟩,
   ⟨T 3 M0, 1, true, by decide +kernel, ⟨by decide +kernel, by decide +kernel⟩, by decide +kernel, by decide +kernel, by decide +kernel⟩,
   ⟨Q [2] id (st 5), 1, by decide +kernel, by decide +kernel, by decide +kernel, ⟨2, df 2, by decide +kernel⟩⟩⟩

end Slots

/-! Windows, remote writes and reads. -/

namespace Remote

def M0 : State := pools 3 (bound (herd 1 1 0 base))
def win (st ty tgt : Nat) (s : State) : State := flds [(Fld.WIN_CTL_STATE 3, st), (Fld.WIN_TGT_TYPE 3, ty), (Fld.WIN_TGT_TARGET 3, tgt / 16), (Fld.WIN_CFG_PERMW 3, 1), (Fld.WIN_CFG_PERMR 3, 1), (Fld.WIN_CFG_SRCANY 3, 1), (Fld.WIN_CFG_NTILE 3, 0), (Fld.WIN_CFG_NMARK 3, 7), (Fld.WIN_CFG_NINC 3, 2)] s
def src : Nat := herdOf 2 1 0
def wm (last : Bool) (off eseq : Nat) (b : List Byte) : Msg := { msgOf src 1 [] with slot := 3, last := last, opened := true, off := off, len := b.length, eseq := eseq, flow := 9, body := b }
def rx (pos : Nat) (s : State) : State := { s with net := { s.net with rxFlows := [(flowKey src 3, ⟨9, pos, 65536⟩)] } }
def sp0 : Nat := 0x080000000000
def rr : Msg := { msgOf src 2 [] with slot := 3, opened := true, off := 16, len := 32, rtag := 77, jseq := 6 }
def LD : State := { with1 5 (stream 1 2 32 2 1 0 [(13, wordOf [(0, 48, (inboundBase + 3 * 2 ^ 34) / 16), (48, 16, herdOf 2 1 0)])]) M0 with net := { M0.net with reads := [(77, ⟨5, 1, 0, 32, false⟩)] } }
def STq (op : Nat) : State := { LD with journal := [(5, stream op 2 32 2 1 0 [(13, wordOf [(0, 48, (inboundBase + 3 * 2 ^ 34) / 16), (48, 16, herdOf 2 1 0)])])], streams := [(5, StreamRun.start)], net := { M0.net with txFlows := [(flowKey src 3, ⟨9, 132, 50, 1000, [], 0⟩)] } }

theorem wit_WindowRule :
    (∃ s : State, ∃ w : Nat, ∃ v : BitVec 32, w < 256 ∧ s.power.porst = false ∧ s.unavailable (Reg.WIN_CTL w) = false ∧ v.getLsbD 0 = false ∧ s.get (Fld.WIN_CTL_STATE w) = 0 ∧ s.winEntryOk w = true) ∧
    (∃ s : State, ∃ w : Nat, ∃ v : BitVec 32, w < 256 ∧ s.power.porst = false ∧ s.unavailable (Reg.WIN_CTL w) = false ∧ v.getLsbD 0 = false ∧ s.get (Fld.WIN_CTL_STATE w) = 0 ∧ s.winEntryOk w = false) ∧
    (∃ s : State, ∃ w : Nat, ∃ v : BitVec 32, w < 256 ∧ s.power.porst = false ∧ s.unavailable (Reg.WIN_CTL w) = false ∧ v.getLsbD 1 = false ∧ s.get (Fld.WIN_CTL_STATE w) = 1) :=
  ⟨⟨win 0 1 0x50000 M0, 3, (0 : BitVec 32), by decide +kernel, by decide +kernel, by decide +kernel, by decide +kernel, by decide +kernel, by decide +kernel⟩,
   ⟨win 0 1 0x50000 M0, 0, (0 : BitVec 32), by decide +kernel, by decide +kernel, by decide +kernel, by decide +kernel, by decide +kernel, by decide +kernel⟩,
   ⟨win 1 1 0x50000 M0, 3, (0 : BitVec 32), by decide +kernel, by decide +kernel, by decide +kernel, by decide +kernel, by decide +kernel⟩⟩

theorem wit_WriteRule :
    (∃ s : State, ∃ m : Msg, ∃ q : Nat, s.live = true ∧ s.nextWrite = some m ∧ s.power.phase ≠ .parked ∧ m.slot < 256 ∧ s.nextHop m.src = some q ∧ s.isRetired 2 q = false ∧ ∃ f, ∃ k, s.headerFault m true = none ∧ s.flowCase m = .expected f ∧ (s.winType m.slot = 1 ∨ s.winType m.slot = 2) ∧ m.data.2 = false ∧ s.Clean (s.winBase m.slot + m.off) m.data.1.length k ∧ (regionOf (s.winBase m.slot + m.off) = .scratch → (s.winBase m.slot + m.off) % 0x1000000 + m.data.1.length ≤ 0x1000000) ∧ (∀ p, s.phys (s.get (Fld.WIN_CFG_NTILE m.slot)) = some p → p < 68)) ∧
    (∃ s : State, ∃ m : Msg, ∃ q : Nat, s.live = true ∧ s.nextWrite = some m ∧ s.power.phase ≠ .parked ∧ m.slot < 256 ∧ s.nextHop m.src = some q ∧ s.isRetired 2 q = false ∧ ∃ f, s.headerFault m true = none ∧ s.flowCase m = .expected f ∧ s.winType m.slot = 3 ∧ m.data.1.length = 8) ∧
    (∃ s : State, ∃ m : Msg, ∃ q : Nat, s.live = true ∧ s.nextWrite = some m ∧ s.power.phase ≠ .parked ∧ m.slot < 256 ∧ s.nextHop m.src = some q ∧ s.isRetired 2 q = false ∧ ∃ f, s.headerFault m true = none ∧ s.flowCase m = .duplicate f) ∧
    (∃ s : State, ∃ m : Msg, ∃ q : Nat, s.live = true ∧ s.nextWrite = some m ∧ s.power.phase ≠ .parked ∧ m.slot < 256 ∧ s.nextHop m.src = some q ∧ s.isRetired 2 q = false ∧ s.headerFault m true = none ∧ s.flowCase m = .ahead) ∧
    (∃ s : State, ∃ m : Msg, ∃ q : Nat, s.live = true ∧ s.nextWrite = some m ∧ s.power.phase ≠ .parked ∧ m.slot < 256 ∧ s.nextHop m.src = some q ∧ s.isRetired 2 q = false ∧ ∃ r, (s.headerFault m true = some r ∨ (s.headerFault m true = none ∧ s.flowCase m = .refused r)) ∧ r < 16) :=
  ⟨⟨inbox [wm true 32 100 (pad 32)] (rx 100 (win 1 1 0x50000 M0)), (Option.get ((inbox [wm true 32 100 (pad 32)] (rx 100 (win 1 1 0x50000 M0))).nextWrite) (by decide +kernel)), 0, by decide +kernel, by decide +kernel, by decide +kernel, by decide +kernel, by decide +kernel, by decide +kernel, (Option.get (sfind (inbox [wm true 32 100 (pad 32)] (rx 100 (win 1 1 0x50000 M0))).net.rxFlows (flowKey (Option.get ((inbox [wm true 32 100 (pad 32)] (rx 100 (win 1 1 0x50000 M0))).nextWrite) (by decide +kernel)).src (Option.get ((inbox [wm true 32 100 (pad 32)] (rx 100 (win 1 1 0x50000 M0))).nextWrite) (by decide +kernel)).slot)) (by decide +kernel)), 327712, by decide +kernel, by decide +kernel, by decide +kernel, by decide +kernel, clean_ok (by decide +kernel), by decide +kernel, phys_ok (by decide +kernel)⟩,
   ⟨inbox [wm false 0x38 100 (pad 8)] (rx 100 (win 1 3 0xFFFFFFE000000 M0)), (Option.get ((inbox [wm false 0x38 100 (pad 8)] (rx 100 (win 1 3 0xFFFFFFE000000 M0))).nextWrite) (by decide +kernel)), 0, by decide +kernel, by decide +kernel, by decide +kernel, by decide +kernel, by decide +kernel, by decide +kernel, (Option.get (sfind (inbox [wm false 0x38 100 (pad 8)] (rx 100 (win 1 3 0xFFFFFFE000000 M0))).net.rxFlows (flowKey (Option.get ((inbox [wm false 0x38 100 (pad 8)] (rx 100 (win 1 3 0xFFFFFFE000000 M0))).nextWrite) (by decide +kernel)).src (Option.get ((inbox [wm false 0x38 100 (pad 8)] (rx 100 (win 1 3 0xFFFFFFE000000 M0))).nextWrite) (by decide +kernel)).slot)) (by decide +kernel)), by decide +kernel, by decide +kernel, by decide +kernel, by decide +kernel⟩,
   ⟨inbox [wm false 32 60 (pad 32)] (rx 100 (win 1 2 sp0 M0)), (Option.get ((inbox [wm false 32 60 (pad 32)] (rx 100 (win 1 2 sp0 M0))).nextWrite) (by decide +kernel)), 0, by decide +kernel, by decide +kernel, by decide +kernel, by decide +kernel, by decide +kernel, by decide +kernel, (Option.get (sfind (inbox [wm false 32 60 (pad 32)] (rx 100 (win 1 2 sp0 M0))).net.rxFlows (flowKey (Option.get ((inbox [wm false 32 60 (pad 32)] (rx 100 (win 1 2 sp0 M0))).nextWrite) (by decide +kernel)).src (Option.get ((inbox [wm false 32 60 (pad 32)] (rx 100 (win 1 2 sp0 M0))).nextWrite) (by decide +kernel)).slot)) (by decide +kernel)), by decide +kernel, by decide +kernel⟩,
   ⟨inbox [wm false 32 300 (pad 32)] (rx 100 (win 1 2 sp0 M0)), (Option.get ((inbox [wm false 32 300 (pad 32)] (rx 100 (win 1 2 sp0 M0))).nextWrite) (by decide +kernel)), 0, by decide +kernel, by decide +kernel, by decide +kernel, by decide +kernel, by decide +kernel, by decide +kernel, by decide +kernel, by decide +kernel⟩,
   ⟨inbox [wm false 5000 300 (pad 32)] (rx 100 (win 1 2 sp0 M0)), (Option.get ((inbox [wm false 5000 300 (pad 32)] (rx 100 (win 1 2 sp0 M0))).nextWrite) (by decide +kernel)), 0, by decide +kernel, by decide +kernel, by decide +kernel, by decide +kernel, by decide +kernel, by decide +kernel, 4, by decide +kernel, by decide +kernel⟩⟩

theorem wit_EndToEndRule :
    (∃ s : State, ∃ m : Msg, ∃ f : TxFlow, s.net.inbox.find? (fun m => m.mtype == 4) = some m ∧ sfind s.net.txFlows (flowKey m.src m.slot) = some f ∧ f.flow = m.flow) ∧
    (∃ s : State, ∃ m : Msg, ∃ f : TxFlow, ∃ e : JEntry, s.Canonical ∧ s.net.inbox.find? (fun m => m.mtype == 5) = some m ∧ sfind s.net.txFlows (flowKey m.src m.slot) = some f ∧ f.flow = m.flow ∧ (∃ x ∈ f.sent, x.jseq = m.jseq ∧ x.pos = m.eseq) ∧ s.cmd m.jseq = some e ∧ e.fin = none) ∧
    (∃ s : State, ∃ dst : Nat, ∃ slot : Nat, ∃ q : Nat, ∃ p : Nat, ∃ f : TxFlow, ∃ x : SentMsg, ∃ e : JEntry, ∃ body : List Byte, sfind s.net.txFlows (flowKey dst slot) = some f ∧ f.sent = [x] ∧ f.resends < max 1 (s.get Fld.COL_XCHCFG_BUDGET) ∧ s.nextHop dst = some q ∧ s.lnkState q = lnkUp ∧ s.isRetired 2 q = false ∧ s.cmd x.jseq = some e ∧ s.phys e.tile = some p ∧ s.msgBody p e.words x.row x.atom x.atoms = some body ∧ sCodec e.words ≠ 1) ∧
    (∃ s : State, ∃ dst : Nat, ∃ slot : Nat, ∃ q : Nat, ∃ f : TxFlow, ∃ x : SentMsg, ∃ e : JEntry, s.Canonical ∧ sfind s.net.txFlows (flowKey dst slot) = some f ∧ f.sent = [x] ∧ max 1 (s.get Fld.COL_XCHCFG_BUDGET) ≤ f.resends ∧ s.nextHop dst = some q ∧ s.lnkState q = lnkUp ∧ s.cmd x.jseq = some e ∧ e.fin = none) :=
  ⟨⟨inbox [{ msgOf src 4 [] with slot := 3, flow := 9, eseq := 100, alen := 9999 }] { M0 with net := { M0.net with txFlows := [(flowKey src 3, ⟨9, 132, 50, 1000, [⟨68, 32, 5, 0, false, 0, 0, 0, 1⟩, ⟨100, 32, 5, 0, false, 0, 0, 0, 1⟩], 2⟩)] } }, (Option.get ((inbox [{ msgOf src 4 [] with slot := 3, flow := 9, eseq := 100, alen := 9999 }] { M0 with net := { M0.net with txFlows := [(flowKey src 3, ⟨9, 132, 50, 1000, [⟨68, 32, 5, 0, false, 0, 0, 0, 1⟩, ⟨100, 32, 5, 0, false, 0, 0, 0, 1⟩], 2⟩)] } }).net.inbox.find? (fun m => m.mtype == 4)) (by decide +kernel)), (Option.get (sfind (inbox [{ msgOf src 4 [] with slot := 3, flow := 9, eseq := 100, alen := 9999 }] { M0 with net := { M0.net with txFlows := [(flowKey src 3, ⟨9, 132, 50, 1000, [⟨68, 32, 5, 0, false, 0, 0, 0, 1⟩, ⟨100, 32, 5, 0, false, 0, 0, 0, 1⟩], 2⟩)] } }).net.txFlows (flowKey (Option.get ((inbox [{ msgOf src 4 [] with slot := 3, flow := 9, eseq := 100, alen := 9999 }] { M0 with net := { M0.net with txFlows := [(flowKey src 3, ⟨9, 132, 50, 1000, [⟨68, 32, 5, 0, false, 0, 0, 0, 1⟩, ⟨100, 32, 5, 0, false, 0, 0, 0, 1⟩], 2⟩)] } }).net.inbox.find? (fun m => m.mtype == 4)) (by decide +kernel)).src (Option.get ((inbox [{ msgOf src 4 [] with slot := 3, flow := 9, eseq := 100, alen := 9999 }] { M0 with net := { M0.net with txFlows := [(flowKey src 3, ⟨9, 132, 50, 1000, [⟨68, 32, 5, 0, false, 0, 0, 0, 1⟩, ⟨100, 32, 5, 0, false, 0, 0, 0, 1⟩], 2⟩)] } }).net.inbox.find? (fun m => m.mtype == 4)) (by decide +kernel)).slot)) (by decide +kernel)), by decide +kernel, by decide +kernel, by decide +kernel⟩,
   ⟨inbox [{ msgOf src 5 [] with slot := 3, flow := 9, eseq := 100, jseq := 5 }] (with1 5 (stream 2 2 32 2 1 4096 []) { M0 with net := { M0.net with txFlows := [(flowKey src 3, ⟨9, 132, 50, 1000, [⟨68, 32, 5, 0, false, 0, 0, 0, 1⟩, ⟨100, 32, 5, 0, false, 0, 0, 0, 1⟩], 2⟩)] } }), (Option.get ((inbox [{ msgOf src 5 [] with slot := 3, flow := 9, eseq := 100, jseq := 5 }] (with1 5 (stream 2 2 32 2 1 4096 []) { M0 with net := { M0.net with txFlows := [(flowKey src 3, ⟨9, 132, 50, 1000, [⟨68, 32, 5, 0, false, 0, 0, 0, 1⟩, ⟨100, 32, 5, 0, false, 0, 0, 0, 1⟩], 2⟩)] } })).net.inbox.find? (fun m => m.mtype == 5)) (by decide +kernel)), (Option.get (sfind (inbox [{ msgOf src 5 [] with slot := 3, flow := 9, eseq := 100, jseq := 5 }] (with1 5 (stream 2 2 32 2 1 4096 []) { M0 with net := { M0.net with txFlows := [(flowKey src 3, ⟨9, 132, 50, 1000, [⟨68, 32, 5, 0, false, 0, 0, 0, 1⟩, ⟨100, 32, 5, 0, false, 0, 0, 0, 1⟩], 2⟩)] } })).net.txFlows (flowKey (Option.get ((inbox [{ msgOf src 5 [] with slot := 3, flow := 9, eseq := 100, jseq := 5 }] (with1 5 (stream 2 2 32 2 1 4096 []) { M0 with net := { M0.net with txFlows := [(flowKey src 3, ⟨9, 132, 50, 1000, [⟨68, 32, 5, 0, false, 0, 0, 0, 1⟩, ⟨100, 32, 5, 0, false, 0, 0, 0, 1⟩], 2⟩)] } })).net.inbox.find? (fun m => m.mtype == 5)) (by decide +kernel)).src (Option.get ((inbox [{ msgOf src 5 [] with slot := 3, flow := 9, eseq := 100, jseq := 5 }] (with1 5 (stream 2 2 32 2 1 4096 []) { M0 with net := { M0.net with txFlows := [(flowKey src 3, ⟨9, 132, 50, 1000, [⟨68, 32, 5, 0, false, 0, 0, 0, 1⟩, ⟨100, 32, 5, 0, false, 0, 0, 0, 1⟩], 2⟩)] } })).net.inbox.find? (fun m => m.mtype == 5)) (by decide +kernel)).slot)) (by decide +kernel)), (Option.get ((inbox [{ msgOf src 5 [] with slot := 3, flow := 9, eseq := 100, jseq := 5 }] (with1 5 (stream 2 2 32 2 1 4096 []) { M0 with net := { M0.net with txFlows := [(flowKey src 3, ⟨9, 132, 50, 1000, [⟨68, 32, 5, 0, false, 0, 0, 0, 1⟩, ⟨100, 32, 5, 0, false, 0, 0, 0, 1⟩], 2⟩)] } })).cmd (Option.get ((inbox [{ msgOf src 5 [] with slot := 3, flow := 9, eseq := 100, jseq := 5 }] (with1 5 (stream 2 2 32 2 1 4096 []) { M0 with net := { M0.net with txFlows := [(flowKey src 3, ⟨9, 132, 50, 1000, [⟨68, 32, 5, 0, false, 0, 0, 0, 1⟩, ⟨100, 32, 5, 0, false, 0, 0, 0, 1⟩], 2⟩)] } })).net.inbox.find? (fun m => m.mtype == 5)) (by decide +kernel)).jseq) (by decide +kernel)), ⟨by decide +kernel, by decide +kernel, by decide +kernel, by decide +kernel⟩, by decide +kernel, by decide +kernel, by decide +kernel, by decide +kernel, by decide +kernel, by decide +kernel⟩,
   ⟨flds [(Fld.COL_XCHCFG_BUDGET, 4)] (with1 5 (stream 2 2 32 2 1 4096 []) { M0 with net := { M0.net with txFlows := [(flowKey src 3, ⟨9, 132, 50, 1000, [⟨100, 32, 5, 0, false, 0, 1, 0, 32⟩], 1⟩)] } }), 4160, 3, 0, 0, (Option.get (sfind (flds [(Fld.COL_XCHCFG_BUDGET, 4)] (with1 5 (stream 2 2 32 2 1 4096 []) { M0 with net := { M0.net with txFlows := [(flowKey src 3, ⟨9, 132, 50, 1000, [⟨100, 32, 5, 0, false, 0, 1, 0, 32⟩], 1⟩)] } })).net.txFlows (flowKey 4160 3)) (by decide +kernel)), (List.head ((Option.get (sfind (flds [(Fld.COL_XCHCFG_BUDGET, 4)] (with1 5 (stream 2 2 32 2 1 4096 []) { M0 with net := { M0.net with txFlows := [(flowKey src 3, ⟨9, 132, 50, 1000, [⟨100, 32, 5, 0, false, 0, 1, 0, 32⟩], 1⟩)] } })).net.txFlows (flowKey 4160 3)) (by decide +kernel)).sent) (by decide +kernel)), (Option.get ((flds [(Fld.COL_XCHCFG_BUDGET, 4)] (with1 5 (stream 2 2 32 2 1 4096 []) { M0 with net := { M0.net with txFlows := [(flowKey src 3, ⟨9, 132, 50, 1000, [⟨100, 32, 5, 0, false, 0, 1, 0, 32⟩], 1⟩)] } })).cmd (List.head ((Option.get (sfind (flds [(Fld.COL_XCHCFG_BUDGET, 4)] (with1 5 (stream 2 2 32 2 1 4096 []) { M0 with net := { M0.net with txFlows := [(flowKey src 3, ⟨9, 132, 50, 1000, [⟨100, 32, 5, 0, false, 0, 1, 0, 32⟩], 1⟩)] } })).net.txFlows (flowKey 4160 3)) (by decide +kernel)).sent) (by decide +kernel)).jseq) (by decide +kernel)), (Option.get ((flds [(Fld.COL_XCHCFG_BUDGET, 4)] (with1 5 (stream 2 2 32 2 1 4096 []) { M0 with net := { M0.net with txFlows := [(flowKey src 3, ⟨9, 132, 50, 1000, [⟨100, 32, 5, 0, false, 0, 1, 0, 32⟩], 1⟩)] } })).msgBody 0 (Option.get ((flds [(Fld.COL_XCHCFG_BUDGET, 4)] (with1 5 (stream 2 2 32 2 1 4096 []) { M0 with net := { M0.net with txFlows := [(flowKey src 3, ⟨9, 132, 50, 1000, [⟨100, 32, 5, 0, false, 0, 1, 0, 32⟩], 1⟩)] } })).cmd (List.head ((Option.get (sfind (flds [(Fld.COL_XCHCFG_BUDGET, 4)] (with1 5 (stream 2 2 32 2 1 4096 []) { M0 with net := { M0.net with txFlows := [(flowKey src 3, ⟨9, 132, 50, 1000, [⟨100, 32, 5, 0, false, 0, 1, 0, 32⟩], 1⟩)] } })).net.txFlows (flowKey 4160 3)) (by decide +kernel)).sent) (by decide +kernel)).jseq) (by decide +kernel)).words (List.head ((Option.get (sfind (flds [(Fld.COL_XCHCFG_BUDGET, 4)] (with1 5 (stream 2 2 32 2 1 4096 []) { M0 with net := { M0.net with txFlows := [(flowKey src 3, ⟨9, 132, 50, 1000, [⟨100, 32, 5, 0, false, 0, 1, 0, 32⟩], 1⟩)] } })).net.txFlows (flowKey 4160 3)) (by decide +kernel)).sent) (by decide +kernel)).row (List.head ((Option.get (sfind (flds [(Fld.COL_XCHCFG_BUDGET, 4)] (with1 5 (stream 2 2 32 2 1 4096 []) { M0 with net := { M0.net with txFlows := [(flowKey src 3, ⟨9, 132, 50, 1000, [⟨100, 32, 5, 0, false, 0, 1, 0, 32⟩], 1⟩)] } })).net.txFlows (flowKey 4160 3)) (by decide +kernel)).sent) (by decide +kernel)).atom (List.head ((Option.get (sfind (flds [(Fld.COL_XCHCFG_BUDGET, 4)] (with1 5 (stream 2 2 32 2 1 4096 []) { M0 with net := { M0.net with txFlows := [(flowKey src 3, ⟨9, 132, 50, 1000, [⟨100, 32, 5, 0, false, 0, 1, 0, 32⟩], 1⟩)] } })).net.txFlows (flowKey 4160 3)) (by decide +kernel)).sent) (by decide +kernel)).atoms) (by decide +kernel)), by decide +kernel, by decide +kernel, by decide +kernel, by decide +kernel, by decide +kernel, by decide +kernel, by decide +kernel, by decide +kernel, by decide +kernel, by decide +kernel⟩,
   ⟨flds [(Fld.COL_XCHCFG_BUDGET, 4)] (with1 5 (stream 2 2 32 2 1 4096 []) { M0 with net := { M0.net with txFlows := [(flowKey src 3, ⟨9, 132, 50, 1000, [⟨100, 32, 5, 0, false, 0, 1, 0, 32⟩], 8⟩)] } }), 4160, 3, 0, (Option.get (sfind (flds [(Fld.COL_XCHCFG_BUDGET, 4)] (with1 5 (stream 2 2 32 2 1 4096 []) { M0 with net := { M0.net with txFlows := [(flowKey src 3, ⟨9, 132, 50, 1000, [⟨100, 32, 5, 0, false, 0, 1, 0, 32⟩], 8⟩)] } })).net.txFlows (flowKey 4160 3)) (by decide +kernel)), (List.head ((Option.get (sfind (flds [(Fld.COL_XCHCFG_BUDGET, 4)] (with1 5 (stream 2 2 32 2 1 4096 []) { M0 with net := { M0.net with txFlows := [(flowKey src 3, ⟨9, 132, 50, 1000, [⟨100, 32, 5, 0, false, 0, 1, 0, 32⟩], 8⟩)] } })).net.txFlows (flowKey 4160 3)) (by decide +kernel)).sent) (by decide +kernel)), (Option.get ((flds [(Fld.COL_XCHCFG_BUDGET, 4)] (with1 5 (stream 2 2 32 2 1 4096 []) { M0 with net := { M0.net with txFlows := [(flowKey src 3, ⟨9, 132, 50, 1000, [⟨100, 32, 5, 0, false, 0, 1, 0, 32⟩], 8⟩)] } })).cmd (List.head ((Option.get (sfind (flds [(Fld.COL_XCHCFG_BUDGET, 4)] (with1 5 (stream 2 2 32 2 1 4096 []) { M0 with net := { M0.net with txFlows := [(flowKey src 3, ⟨9, 132, 50, 1000, [⟨100, 32, 5, 0, false, 0, 1, 0, 32⟩], 8⟩)] } })).net.txFlows (flowKey 4160 3)) (by decide +kernel)).sent) (by decide +kernel)).jseq) (by decide +kernel)), ⟨by decide +kernel, by decide +kernel, by decide +kernel, by decide +kernel⟩, by decide +kernel, by decide +kernel, by decide +kernel, by decide +kernel, by decide +kernel, by decide +kernel, by decide +kernel⟩⟩

theorem wit_RemoteReadRule :
    (∃ s : State, ∃ m : Msg, ∃ k : Nat, ∃ q : Nat, s.net.inbox.head? = some m ∧ m.mtype = 2 ∧ s.power.phase ≠ .parked ∧ s.headerFault m false = none ∧ ((s.winType m.slot = 1 ∧ s.dramRange (s.winBase m.slot + m.off) m.len ≠ .waits) ∨ (s.winType m.slot = 2 ∧ s.unitDown 3 (slotTile (s.winBase m.slot + m.off)).1 = false)) ∧ s.Clean (s.winBase m.slot + m.off) m.len k ∧ s.nextHop m.src = some q ∧ s.isRetired 2 q = false) ∧
    (∃ s : State, ∃ m : Msg, ∃ r : RemoteRead, ∃ e : JEntry, ∃ p : Nat, s.net.inbox.find? (fun m => m.mtype == 3) = some m ∧ sfind s.net.reads m.rtag = some r ∧ s.cmd r.jseq = some e ∧ s.phys e.tile = some p ∧ e.fin = none ∧ e.st = .dispatched) ∧
    (∃ s : State, ∃ m : Msg, s.net.inbox.find? (fun m => m.mtype == 3) = some m ∧ sfind s.net.reads m.rtag = none) ∧
    (∃ s : State, ∃ tag : Nat, ∃ r : RemoteRead, ∃ e : JEntry, s.Canonical ∧ sfind s.net.reads tag = some r ∧ s.cmd r.jseq = some e ∧ e.fin = none) :=
  ⟨⟨inbox [rr] ((win 1 1 0x50000 M0).wbs 0x50010 (pad 32)), (Option.get ((inbox [rr] ((win 1 1 0x50000 M0).wbs 0x50010 (pad 32))).net.inbox.head?) (by decide +kernel)), 327696, 0, by decide +kernel, by decide +kernel, by decide +kernel, by decide +kernel, by decide +kernel, clean_ok (by decide +kernel), by decide +kernel, by decide +kernel⟩,
   ⟨inbox [{ msgOf src 3 [] with rtag := 77, len := 32, body := pad 32 }] LD, (Option.get ((inbox [{ msgOf src 3 [] with rtag := 77, len := 32, body := pad 32 }] LD).net.inbox.find? (fun m => m.mtype == 3)) (by decide +kernel)), (Option.get (sfind (inbox [{ msgOf src 3 [] with rtag := 77, len := 32, body := pad 32 }] LD).net.reads (Option.get ((inbox [{ msgOf src 3 [] with rtag := 77, len := 32, body := pad 32 }] LD).net.inbox.find? (fun m => m.mtype == 3)) (by decide +kernel)).rtag) (by decide +kernel)), (Option.get ((inbox [{ msgOf src 3 [] with rtag := 77, len := 32, body := pad 32 }] LD).cmd (Option.get (sfind (inbox [{ msgOf src 3 [] with rtag := 77, len := 32, body := pad 32 }] LD).net.reads (Option.get ((inbox [{ msgOf src 3 [] with rtag := 77, len := 32, body := pad 32 }] LD).net.inbox.find? (fun m => m.mtype == 3)) (by decide +kernel)).rtag) (by decide +kernel)).jseq) (by decide +kernel)), 0, by decide +kernel, by decide +kernel, by decide +kernel, by decide +kernel, by decide +kernel, by decide +kernel⟩,
   ⟨inbox [{ msgOf src 3 [] with rtag := 78, len := 32, body := pad 32 }] LD, (Option.get ((inbox [{ msgOf src 3 [] with rtag := 78, len := 32, body := pad 32 }] LD).net.inbox.find? (fun m => m.mtype == 3)) (by decide +kernel)), by decide +kernel, by decide +kernel⟩,
   ⟨LD, 77, (Option.get (sfind LD.net.reads 77) (by decide +kernel)), (Option.get (LD.cmd (Option.get (sfind LD.net.reads 77) (by decide +kernel)).jseq) (by decide +kernel)), ⟨by decide +kernel, by decide +kernel, by decide +kernel, by decide +kernel⟩, by decide +kernel, by decide +kernel, by decide +kernel⟩⟩

theorem wit_RemoteStreams :
    (∃ s : State, ∃ j : Nat, ∃ p : Nat, ∃ c : Nat, ∃ q : Nat, ∃ e : JEntry, s.onChannel j = some (e, p, c) ∧ (s.segmentCredit j e).isSome = true ∧ sFar e.words = 2 ∧ let ws := e.words; let u := (s.run j).asked; let m := sMessage ws u; let len := sMsgBytes ws m.2.2; let slot := slotOfUda (sMsgFar ws m.1 m.2.1 m.2.2); u < sUnitEnd ws e.segs ∧ sUnitEnd ws e.segs = u + max 1 m.2.2 ∧ s.nextHop (sHerd ws) = some q ∧ s.isRetired 2 q = false ∧ ∃ f, ∃ body, tOp ws = 2 ∧ sCodec ws ≠ 1 ∧ sfind s.net.txFlows (flowKey (sHerd ws) slot) = some f ∧ f.next + len ≤ f.credLim ∧ s.msgBody p ws m.1 m.2.1 m.2.2 = some body) ∧
    (∃ s : State, ∃ j : Nat, ∃ p : Nat, ∃ c : Nat, ∃ q : Nat, ∃ e : JEntry, s.onChannel j = some (e, p, c) ∧ (s.segmentCredit j e).isSome = true ∧ sFar e.words = 2 ∧ let ws := e.words; let u := (s.run j).asked; let m := sMessage ws u; u < sUnitEnd ws e.segs ∧ sUnitEnd ws e.segs = u + max 1 m.2.2 ∧ s.nextHop (sHerd ws) = some q ∧ s.isRetired 2 q = false ∧ ∃ tag, tOp ws = 1 ∧ s.freeRtag = some tag) :=
  ⟨⟨STq 2, 5, 0, 0, 0, (Option.get ((STq 2).onChannel 5) (by decide +kernel)).1, by decide +kernel, by decide +kernel, by decide +kernel, by decide +kernel, by decide +kernel, by decide +kernel, by decide +kernel, (Option.get (sfind (STq 2).net.txFlows (flowKey (sHerd (((Option.get ((STq 2).onChannel 5) (by decide +kernel)).1).words)) (slotOfUda (sMsgFar (((Option.get ((STq 2).onChannel 5) (by decide +kernel)).1).words) (sMessage (((Option.get ((STq 2).onChannel 5) (by decide +kernel)).1).words) (((STq 2).run 5).asked)).1 (sMessage (((Option.get ((STq 2).onChannel 5) (by decide +kernel)).1).words) (((STq 2).run 5).asked)).2.1 (sMessage (((Option.get ((STq 2).onChannel 5) (by decide +kernel)).1).words) (((STq 2).run 5).asked)).2.2)))) (by decide +kernel)), (Option.get ((STq 2).msgBody 0 (((Option.get ((STq 2).onChannel 5) (by decide +kernel)).1).words) (sMessage (((Option.get ((STq 2).onChannel 5) (by decide +kernel)).1).words) (((STq 2).run 5).asked)).1 (sMessage (((Option.get ((STq 2).onChannel 5) (by decide +kernel)).1).words) (((STq 2).run 5).asked)).2.1 (sMessage (((Option.get ((STq 2).onChannel 5) (by decide +kernel)).1).words) (((STq 2).run 5).asked)).2.2) (by decide +kernel)), by decide +kernel, by decide +kernel, by decide +kernel, by decide +kernel, by decide +kernel⟩,
   ⟨STq 1, 5, 0, 0, 0, (Option.get ((STq 1).onChannel 5) (by decide +kernel)).1, by decide +kernel, by decide +kernel, by decide +kernel, by decide +kernel, by decide +kernel, by decide +kernel, by decide +kernel, 0, by decide +kernel, by decide +kernel⟩⟩

end Remote

/-! The Wheel and the calendar. -/

namespace Wheel

def M0 : State := herd 1 1 0 base
def whl (f : WheelState → WheelState) (s : State) : State := { s with wheel := f s.wheel }
def W (st cyc : Nat) (f : WheelState → WheelState) : State := whl (fun w => f { w with refIn := true, cycles := 100000 }) (flds [(Fld.WHL_STAT_STATE, st), (Fld.WHL_STAT_COUNTSRC, 2), (Fld.WHL_NOW_REV, 9), (Fld.WHL_NOW_SPOKE, cyc / 16), (Fld.WHL_NOW_CYCLE, cyc % 16)] M0)
def wp (st rev : Nat) : List Word := [wordOf [(56, 8, 7), (54, 2, 1), (52, 2, st), (32, 16, 3)], wordOf [(16, 48, rev)], 0, 0]
def gE (k pt dur : Nat) : State := calendar (wordOf [(60, 4, k), (48, 12, 100), (36, 12, 1)]) (if k = 1 then wordOf [(58, 6, pt), (45, 13, dur)] else wordOf [(58, 6, pt), (52, 6, 9), (42, 10, 3)]) 100 M0

theorem wit_MarkRule :
    (∃ s : State, s.flag Fld.WHL_CTL_NOMARK = true) ∧
    (∃ s : State, s.power.porst = false ∧ s.flag Fld.WHL_CTL_NOMARK = false ∧ s.wheel.fault = false ∧ 4 ≤ s.wheel.edges) ∧
    (∃ s : State, ∃ h : Nat, s.power.porst = false ∧ s.flag Fld.WHL_CTL_NOMARK = false ∧ s.wheel.fault = false ∧ s.wheel.edges < 4 ∧ h < 2) ∧
    (∃ s : State, ∃ h : Nat, s.power.porst = false ∧ s.flag Fld.WHL_CTL_NOMARK = false ∧ s.wheel.fault = false ∧ s.wheel.edges < 4 ∧ 2 ≤ h ∧ s.wheel.refIn = false) ∧
    (∃ s : State, ∃ h : Nat, s.power.porst = false ∧ s.flag Fld.WHL_CTL_NOMARK = false ∧ s.wheel.fault = false ∧ let off := s.markOffset; let near : Prop := -2 ≤ off ∧ off ≤ 2; s.wheel.edges < 4 ∧ 2 ≤ h ∧ s.wheel.refIn = true ∧ (s.whlState = whlLocked ∨ (s.whlState = whlAcquire ∧ s.wheel.held = true)) ∧ near) ∧
    (∃ s : State, ∃ h : Nat, s.power.porst = false ∧ s.flag Fld.WHL_CTL_NOMARK = false ∧ s.wheel.fault = false ∧ let off := s.markOffset; let near : Prop := -2 ≤ off ∧ off ≤ 2; s.wheel.edges < 4 ∧ 2 ≤ h ∧ s.wheel.refIn = true ∧ (s.whlState = whlLocked ∨ (s.whlState = whlAcquire ∧ s.wheel.held = true)) ∧ ¬ near) ∧
    (∃ s : State, ∃ h : Nat, s.power.porst = false ∧ s.flag Fld.WHL_CTL_NOMARK = false ∧ s.wheel.fault = false ∧ s.wheel.edges < 4 ∧ 2 ≤ h ∧ s.wheel.refIn = true ∧ s.whlState = whlFreeRun ∧ s.wheel.acq = 0) ∧
    (∃ s : State, ∃ h : Nat, s.power.porst = false ∧ s.flag Fld.WHL_CTL_NOMARK = false ∧ s.wheel.fault = false ∧ let off := s.markOffset; let near : Prop := -2 ≤ off ∧ off ≤ 2; s.wheel.edges < 4 ∧ 2 ≤ h ∧ s.wheel.refIn = true ∧ s.whlState = whlAcquire ∧ s.wheel.held = false ∧ s.wheel.acq = 3 ∧ s.wheel.cycles = s.wheel.lastMark + 65536 ∧ near) ∧
    (∃ s : State, ∃ h : Nat, s.power.porst = false ∧ s.flag Fld.WHL_CTL_NOMARK = false ∧ s.wheel.fault = false ∧ let off := s.markOffset; let near : Prop := -2 ≤ off ∧ off ≤ 2; s.wheel.edges < 4 ∧ 2 ≤ h ∧ s.wheel.refIn = true ∧ s.whlState = whlHoldover ∧ near) ∧
    (∃ s : State, s.power.porst = false ∧ s.flag Fld.WHL_CTL_NOMARK = false ∧ s.wheel.fault = false) :=
  ⟨⟨flds [(Fld.WHL_CTL_NOMARK, 1)] M0, by decide +kernel⟩,
   ⟨W 2 0 (fun w => { w with edges := 4 }), by decide +kernel, by decide +kernel, by decide +kernel, by decide +kernel⟩,
   ⟨W 2 65534 id, 0, by decide +kernel, by decide +kernel, by decide +kernel, by decide +kernel, by decide +kernel⟩,
   ⟨W 2 1 (fun w => { w with refIn := false }), 2, by decide +kernel, by decide +kernel, by decide +kernel, by decide +kernel, by decide +kernel, by decide +kernel⟩,
   ⟨W 2 65534 id, 2, by decide +kernel, by decide +kernel, by decide +kernel, by decide +kernel, by decide +kernel, by decide +kernel, by decide +kernel, ⟨by decide +kernel, by decide +kernel⟩⟩,
   ⟨W 2 50 (fun w => { w with held := true }), 2, by decide +kernel, by decide +kernel, by decide +kernel, by decide +kernel, by decide +kernel, by decide +kernel, by decide +kernel, by decide +kernel⟩,
   ⟨W 0 0 id, 2, by decide +kernel, by decide +kernel, by decide +kernel, by decide +kernel, by decide +kernel, by decide +kernel, by decide +kernel, by decide +kernel⟩,
   ⟨W 1 1 (fun w => { w with acq := 3, lastMark := 34464 }), 2, by decide +kernel, by decide +kernel, by decide +kernel, by decide +kernel, by decide +kernel, by decide +kernel, by decide +kernel, by decide +kernel, by decide +kernel, by decide +kernel, ⟨by decide +kernel, by decide +kernel⟩⟩,
   ⟨W 3 1 id, 2, by decide +kernel, by decide +kernel, by decide +kernel, by decide +kernel, by decide +kernel, by decide +kernel, by decide +kernel, ⟨by decide +kernel, by decide +kernel⟩⟩,
   ⟨W 2 0 (fun w => { w with edges := 4 }), by decide +kernel, by decide +kernel, by decide +kernel⟩⟩

theorem wit_RevolutionRule :
    (∃ s : State, s.power.porst = false ∧ s.flag Fld.WHL_STAT_PAUSED = false) ∧
    (∃ s : State, s.wheel.refIn = true) ∧
    (∃ s : State, s.wheel.refIn = false) ∧
    (∃ s : State, s.flag Fld.WHL_STAT_PAUSED = true) :=
  ⟨⟨M0, by decide +kernel, by decide +kernel⟩,
   ⟨M0, by decide +kernel⟩,
   ⟨(W 2 5 (fun w => { w with refIn := false })), by decide +kernel⟩,
   ⟨(flds [(Fld.WHL_STAT_PAUSED, 1)] (W 2 5 (fun w => { w with owedLaunch := some 40000 }))), by decide +kernel⟩⟩

theorem wit_HerdCountRule :
    (∃ s : State, ∃ p : Nat, ∃ f : Flit, ∃ m : List Word, s.TakesMsg p f m ∧ ctlType m = 7) ∧
    (∃ s : State, ∃ v : BitVec 32, s.power.porst = false ∧ s.unavailable Reg.WHL_CTL = false ∧ v.getLsbD 1 = s.flag Fld.WHL_CTL_NOMARK) :=
  ⟨⟨W 2 5000 id, 1, (ctl (wp 2 9)), (wp 2 9), ⟨⟨by decide +kernel, by decide +kernel, by decide +kernel, by decide +kernel⟩, by decide +kernel, by decide +kernel⟩, by decide +kernel⟩,
   ⟨M0, (0 : BitVec 32), by decide +kernel, by decide +kernel, by decide +kernel⟩⟩

theorem wit_CalendarRule :
    (∃ s : State, ∃ n : Nat, let e := s.calEntry n; let shares (p : Nat) (f : CalEntry) : Bool := f.kind == 1 && decide (f.ports / 2 ^ p % 2 = 1); let mine (p : Nat) : Prop := p < 6 ∧ e.ports / 2 ^ p % 2 = 1 ∧ s.keyShared n true (shares p) = false; e.kind = 1 ∧ n < s.calSize ∧ s.calDue e = true ∧ s.hasFired (2 * n) = false ∧ (∃ p, mine p) ∧ s.calAllowed e = true) ∧
    (∃ s : State, ∃ n : Nat, let e := s.calEntry n; let shares (p : Nat) (f : CalEntry) : Bool := f.kind == 1 && decide (f.ports / 2 ^ p % 2 = 1); let mine (p : Nat) : Prop := p < 6 ∧ e.ports / 2 ^ p % 2 = 1 ∧ s.keyShared n true (shares p) = false; e.kind = 1 ∧ n < s.calSize ∧ s.calDue e = true ∧ s.hasFired (2 * n) = false ∧ (∃ p, mine p) ∧ s.calAllowed e = false) ∧
    (∃ s : State, ∃ p : Nat, p < 6) ∧
    (∃ s : State, ∃ n : Nat, let e := s.calEntry n; let shares (f : CalEntry) : Bool := f.kind == 3 && f.ports == e.ports && f.markno == e.markno; e.kind = 3 ∧ n < s.calSize ∧ s.calDue e = true ∧ s.hasFired (2 * n) = false ∧ s.keyShared n true shares = false ∧ ∃ p, s.calAllowed e = true ∧ s.power.wrst = false ∧ s.unitDown 3 e.ports = false ∧ s.phys e.ports = some p ∧ p < 68 ∧ e.markno < 64) ∧
    (∃ s : State, ∃ n : Nat, let e := s.calEntry n; let shares (f : CalEntry) : Bool := f.kind == 3 && f.ports == e.ports && f.markno == e.markno; e.kind = 3 ∧ n < s.calSize ∧ s.calDue e = true ∧ s.hasFired (2 * n) = false ∧ s.keyShared n true shares = false ∧ s.calAllowed e = false) :=
  ⟨⟨gE 1 3 40, 0, by decide +kernel, by decide +kernel, by decide +kernel, by decide +kernel, by decide +kernel, by decide +kernel⟩,
   ⟨flds [(Fld.WHL_STAT_STATE, 0)] (gE 1 3 40), 0, by decide +kernel, by decide +kernel, by decide +kernel, by decide +kernel, by decide +kernel, by decide +kernel⟩,
   ⟨gE 1 3 40, 0, by decide +kernel⟩,
   ⟨gE 3 2 0, 0, by decide +kernel, by decide +kernel, by decide +kernel, by decide +kernel, by decide +kernel, 2, by decide +kernel, by decide +kernel, by decide +kernel, by decide +kernel, by decide +kernel, by decide +kernel⟩,
   ⟨flds [(Fld.WHL_STAT_STATE, 0)] (gE 3 2 0), 0, by decide +kernel, by decide +kernel, by decide +kernel, by decide +kernel, by decide +kernel, by decide +kernel⟩⟩

end Wheel

/-! The loader and the start order. -/

namespace Load

def H0 : State := flds [(Fld.HRN_SRCLEN_LEN, 20544)] (regs [(Reg.HRN_SRCADDR, 0x900000)] (linked base))
def slotOK (k : Nat) (s : State) : State := flds [((if k = 0 then Fld.HRN_STORE0_VALID else Fld.HRN_STORE1_VALID), 1), ((if k = 0 then Fld.HRN_STORE0_GENERATION else Fld.HRN_STORE1_GENERATION), 5), ((if k = 0 then Fld.HRN_STORE0_AUTOLOAD else Fld.HRN_STORE1_AUTOLOAD), 1)] (s.wbs (areaKey k 0) partImage)
def la (k o : Nat) : LoadAct := ⟨k, .software, 0, 0, 0, 256, 256, false, none, false, []⟩
def act (l : LoadAct) (ph : Nat) (s : State) : State := { flds [(Fld.HRN_STATUS_BUSY, 1), (Fld.HRN_STATUS_PHASE, ph)] s with load := some l, holdFrom := if l.kind = 2 then some 3 else none }
def putImg (a : Nat) (b : List Byte) (s : State) : State := s.wbs (areaKey a 0) b
def ld (k src len : Nat) (o : LoadBy) (due : Bool) : LoadAct := { la k 0 with len := len, source := src, origin := o, due := due }
def V (l : LoadAct) (ph : Nat) (img : List Byte) (s : State) : State := act l ph (putImg 2 img s)
def auto2 (s : State) : State := { s with power := { s.power with flashStage := true } }
def act4 : State := { flds [(Fld.HRN_ACTIVE_FMT_MAJ, 1), (Fld.HRN_ACTIVE_AREA, 1)] (V (ld 2 0 256 .software false) 2 partImage base) with sections := [sec 1 mapSec, sec 9 ringSec, sec 0xA startSec, sec 0xB powSec, sec 0xC (secOf 96 [(0, 1), (64, wordOf [(50, 8, 1), (36, 14, 0), (21, 15, 4)])])], image := some ⟨0x4B484152, 1, 0, 64, 20544, 0x1216, 0, 7, 1, 5, 0, 128, 2, 0, 0, 0, 0⟩ }
def act6 : State := V (ld 1 0 256 .software true) 3 partImage base
def so (s : State) : State := { s with sections := [sec 0xA startSec] }
def SO (n : Nat) (down begun : List Nat) (ph : PowerPhase) : State := so { base with power := { base.power with ordering := true, next := n, down := down, begun := begun, phase := ph } }
def k (c i : Nat) := 65536 * c + i
def p4 : List Byte := secOf 80 [(0, 2), (64, wordOf [(60, 4, 4), (52, 8, 1), (0, 20, 200)]), (72, wordOf [(60, 4, 1), (52, 8, 1), (0, 20, 200)])]
def P4 : State := { SO 0 [k 4 1, k 1 1] [] .starting with sections := [sec 0xA p4] }
def P5 (ph : Nat) : State := { flds [(Fld.HRN_STATUS_PHASE, ph)] (SO 2 [k 1 1] [k 1 1] .starting) with sections := [sec 0xA p4], load := if ph = 5 then some ⟨1, .software, 0, 0, 0, 256, 256, false, none, false, []⟩ else none }

theorem wit_LoaderActions :
    (∃ s : State, ∃ v : BitVec 32, s.power.porst = false ∧ let source := v.toNat / 16 % 16; let hostImage (tag : Nat) : Prop := source = 0 ∧ s.get Fld.HRN_SRCLEN_LEN ≠ 0 ∧ s.get Fld.HRN_SRCLEN_LEN % 64 = 0 ∧ s.get Fld.HRN_SRCLEN_LEN ≤ maxImage ∧ s.hostOpen = true ∧ s.live = true ∧ s.host.reads.length < s.readLimit ∧ s.freeTag = some tag; ∃ tag, s.load = none ∧ s.anyOutstanding = false ∧ s.anyFlash = true ∧ hostImage tag) ∧
    (∃ s : State, ∃ v : BitVec 32, s.power.porst = false ∧ let source := v.toNat / 16 % 16; let storeImage : Prop := s.Canonical ∧ 0 < source ∧ source < 3 ∧ (s.slotState (source - 1)).1 = true; s.load = none ∧ s.anyOutstanding = false ∧ s.anyFlash = true ∧ storeImage) ∧
    (∃ s : State, ∃ v : BitVec 32, s.power.porst = false ∧ let source := v.toNat / 16 % 16; let hostImage (tag : Nat) : Prop := source = 0 ∧ s.get Fld.HRN_SRCLEN_LEN ≠ 0 ∧ s.get Fld.HRN_SRCLEN_LEN % 64 = 0 ∧ s.get Fld.HRN_SRCLEN_LEN ≤ maxImage ∧ s.hostOpen = true ∧ s.live = true ∧ s.host.reads.length < s.readLimit ∧ s.freeTag = some tag; ∃ tag, s.load = none ∧ s.anyFlash = true ∧ hostImage tag) ∧
    (∃ s : State, ∃ v : BitVec 32, s.power.porst = false ∧ let source := v.toNat / 16 % 16; let storeImage : Prop := s.Canonical ∧ 0 < source ∧ source < 3 ∧ (s.slotState (source - 1)).1 = true; s.load = none ∧ s.anyFlash = true ∧ storeImage) ∧
    (∃ s : State, ∃ v : BitVec 32, s.power.porst = false ∧ let source := v.toNat / 16 % 16; let slot := v.toNat / 256 % 4; let hostImage (tag : Nat) : Prop := source = 0 ∧ s.get Fld.HRN_SRCLEN_LEN ≠ 0 ∧ s.get Fld.HRN_SRCLEN_LEN % 64 = 0 ∧ s.get Fld.HRN_SRCLEN_LEN ≤ maxImage ∧ s.hostOpen = true ∧ s.live = true ∧ s.host.reads.length < s.readLimit ∧ s.freeTag = some tag; ∃ tag, s.load = none ∧ s.anyFlash = true ∧ slot < 2 ∧ hostImage tag) ∧
    (∃ s : State, ∃ v : BitVec 32, s.power.porst = false ∧ let source := v.toNat / 16 % 16; let slot := v.toNat / 256 % 4; let storeImage : Prop := s.Canonical ∧ 0 < source ∧ source < 3 ∧ (s.slotState (source - 1)).1 = true; s.load = none ∧ s.anyFlash = true ∧ slot < 2 ∧ source ≠ slot + 1 ∧ storeImage) ∧
    (∃ s : State, ∃ v : BitVec 32, s.power.porst = false ∧ let source := v.toNat / 16 % 16; let slot := v.toNat / 256 % 4; s.load = none ∧ slot < 2 ∧ source = slot + 1) ∧
    (∃ s : State, ∃ v : BitVec 32, s.power.porst = false ∧ let slot := v.toNat / 256 % 4; s.load = none ∧ slot < 2 ∧ s.anyFlash = true) ∧
    (∃ s : State, s.power.porst = false ∧ ∃ l, s.load = some l ∧ l.kind < 16 ∧ s.hrnPhase < 4 ∧ l.origin = .software) ∧
    (∃ s : State, s.power.porst = false ∧ s.load = none ∧ s.image.isSome = true ∧ s.power.phase ≠ .starting ∧ s.herdPorts.any (fun p => s.lnkState p == lnkTraining) = false) ∧
    (∃ s : State, s.power.porst = false ∧ s.load = none ∧ s.image = none) ∧
    (∃ s : State, s.power.porst = false ∧ ∃ l, s.load = some l ∧ l.kind < 16 ∧ s.hrnPhase = 6 ∧ l.origin = .software ∧ s.herdPorts.any (fun p => s.lnkState p == lnkTraining) = false) :=
  ⟨⟨H0, (0 : BitVec 32), by decide +kernel, 0, by decide +kernel, by decide +kernel, by decide +kernel, by decide +kernel⟩,
   ⟨slotOK 0 H0, (16 : BitVec 32), by decide +kernel, by decide +kernel, by decide +kernel, by decide +kernel, ⟨⟨by decide +kernel, by decide +kernel, by decide +kernel, by decide +kernel⟩, by decide +kernel, by decide +kernel, by decide +kernel⟩⟩,
   ⟨H0, (0 : BitVec 32), by decide +kernel, 0, by decide +kernel, by decide +kernel, by decide +kernel⟩,
   ⟨slotOK 0 H0, (16 : BitVec 32), by decide +kernel, by decide +kernel, by decide +kernel, ⟨⟨by decide +kernel, by decide +kernel, by decide +kernel, by decide +kernel⟩, by decide +kernel, by decide +kernel, by decide +kernel⟩⟩,
   ⟨H0, (0 : BitVec 32), by decide +kernel, 0, by decide +kernel, by decide +kernel, by decide +kernel, by decide +kernel⟩,
   ⟨slotOK 0 H0, (272 : BitVec 32), by decide +kernel, by decide +kernel, by decide +kernel, by decide +kernel, by decide +kernel, ⟨⟨by decide +kernel, by decide +kernel, by decide +kernel, by decide +kernel⟩, by decide +kernel, by decide +kernel, by decide +kernel⟩⟩,
   ⟨slotOK 0 H0, (16 : BitVec 32), by decide +kernel, by decide +kernel, by decide +kernel, by decide +kernel⟩,
   ⟨H0, (0 : BitVec 32), by decide +kernel, by decide +kernel, by decide +kernel, by decide +kernel⟩,
   ⟨act (la 1 0) 1 H0, by decide +kernel, (Option.get ((act (la 1 0) 1 H0).load) (by decide +kernel)), by decide +kernel, by decide +kernel, by decide +kernel, by decide +kernel⟩,
   ⟨herd 0 0 0 H0, by decide +kernel, by decide +kernel, by decide +kernel, by decide +kernel, by decide +kernel⟩,
   ⟨H0, by decide +kernel, by decide +kernel, by decide +kernel⟩,
   ⟨act (la 1 0) 6 (herd 0 0 0 H0), by decide +kernel, (Option.get ((act (la 1 0) 6 (herd 0 0 0 H0)).load) (by decide +kernel)), by decide +kernel, by decide +kernel, by decide +kernel, by decide +kernel, by decide +kernel⟩⟩

theorem wit_LoaderProgress :
    (∃ s : State, ∃ l : LoadAct, s.load = some l ∧ s.live = true ∧ s.hrnPhase = 2 ∧ l.origin = .software) ∧
    (∃ s : State, ∃ l : LoadAct, let img := if l.source = 0 ∧ l.origin = .software then s.rbs (areaKey (s.loadArea l) 0) l.len else s.areaImage (s.loadArea l); ∃ e, s.load = some l ∧ s.live = true ∧ s.hrnPhase = 2 ∧ l.origin = .software ∧ s.verify l.kind img.length img = some e) ∧
    (∃ s : State, ∃ l : LoadAct, let img := if l.source = 0 ∧ l.origin = .software then s.rbs (areaKey (s.loadArea l) 0) l.len else s.areaImage (s.loadArea l); s.load = some l ∧ s.live = true ∧ s.hrnPhase = 2 ∧ l.kind = 2 ∧ s.verify 2 img.length img = none) ∧
    (∃ s : State, ∃ l : LoadAct, let img := if l.source = 0 ∧ l.origin = .software then s.rbs (areaKey (s.loadArea l) 0) l.len else s.areaImage (s.loadArea l); s.load = some l ∧ s.live = true ∧ s.hrnPhase = 2 ∧ l.kind = 3 ∧ l.origin = .software ∧ l.slot < 2 ∧ s.Canonical ∧ s.verify 3 img.length img = none) ∧
    (∃ s : State, ∃ l : LoadAct, s.load = some l ∧ s.live = true ∧ s.hrnPhase = 3 ∧ l.due = true ∧ l.kind = 1 ∧ let bs := s.areaImage (s.loadArea l); s.repeatPhases (ImgHeader.ofBytes bs) (sectionsOf bs) = none) ∧
    (∃ s : State, ∃ l : LoadAct, s.load = some l ∧ s.live = true ∧ s.hrnPhase = 3 ∧ l.due = true ∧ l.kind = 2 ∧ s.drained = true) ∧
    (∃ s : State, ∃ l : LoadAct, ∃ e, s.load = some l ∧ s.live = true ∧ s.hrnPhase = 3 ∧ l.due = true ∧ l.kind = 1 ∧ l.origin = .software ∧ let bs := s.areaImage (s.loadArea l); s.repeatPhases (ImgHeader.ofBytes bs) (sectionsOf bs) = some e) ∧
    (∃ s : State, ∃ l : LoadAct, s.load = some l ∧ s.live = true ∧ l.kind = 2 ∧ l.origin = .software ∧ s.hrnPhase < 4 ∧ s.drained = false) ∧
    (∃ s : State, ∃ k, ∃ r, s.power.flashStage = true ∧ s.live = true ∧ s.load = none ∧ s.anyFlash = true ∧ s.Canonical ∧ s.autoSlots = k :: r) ∧
    (∃ s : State, s.power.flashStage = true ∧ s.live = true ∧ s.load = none ∧ s.autoSlots = []) :=
  ⟨⟨V (ld 1 0 256 .software false) 2 partImage base, (Option.get ((V (ld 1 0 256 .software false) 2 partImage base).load) (by decide +kernel)), by decide +kernel, by decide +kernel, by decide +kernel, by decide +kernel⟩,
   ⟨V (ld 1 0 256 .software false) 2 partImage base, (Option.get ((V (ld 1 0 256 .software false) 2 partImage base).load) (by decide +kernel)), (Option.get ((V (ld 1 0 256 .software false) 2 partImage base).verify (Option.get ((V (ld 1 0 256 .software false) 2 partImage base).load) (by decide +kernel)).kind (if (Option.get ((V (ld 1 0 256 .software false) 2 partImage base).load) (by decide +kernel)).source = 0 ∧ (Option.get ((V (ld 1 0 256 .software false) 2 partImage base).load) (by decide +kernel)).origin = .software then (V (ld 1 0 256 .software false) 2 partImage base).rbs (areaKey ((V (ld 1 0 256 .software false) 2 partImage base).loadArea (Option.get ((V (ld 1 0 256 .software false) 2 partImage base).load) (by decide +kernel))) 0) (Option.get ((V (ld 1 0 256 .software false) 2 partImage base).load) (by decide +kernel)).len else (V (ld 1 0 256 .software false) 2 partImage base).areaImage ((V (ld 1 0 256 .software false) 2 partImage base).loadArea (Option.get ((V (ld 1 0 256 .software false) 2 partImage base).load) (by decide +kernel)))).length (if (Option.get ((V (ld 1 0 256 .software false) 2 partImage base).load) (by decide +kernel)).source = 0 ∧ (Option.get ((V (ld 1 0 256 .software false) 2 partImage base).load) (by decide +kernel)).origin = .software then (V (ld 1 0 256 .software false) 2 partImage base).rbs (areaKey ((V (ld 1 0 256 .software false) 2 partImage base).loadArea (Option.get ((V (ld 1 0 256 .software false) 2 partImage base).load) (by decide +kernel))) 0) (Option.get ((V (ld 1 0 256 .software false) 2 partImage base).load) (by decide +kernel)).len else (V (ld 1 0 256 .software false) 2 partImage base).areaImage ((V (ld 1 0 256 .software false) 2 partImage base).loadArea (Option.get ((V (ld 1 0 256 .software false) 2 partImage base).load) (by decide +kernel))))) (by decide +kernel)), by decide +kernel, by decide +kernel, by decide +kernel, by decide +kernel, by decide +kernel⟩,
   ⟨act4, (Option.get (act4.load) (by decide +kernel)), by decide +kernel, by decide +kernel, by decide +kernel, by decide +kernel, by decide +kernel⟩,
   ⟨V (ld 3 0 256 .software false) 2 partImage base, (Option.get ((V (ld 3 0 256 .software false) 2 partImage base).load) (by decide +kernel)), by decide +kernel, by decide +kernel, by decide +kernel, by decide +kernel, by decide +kernel, by decide +kernel, ⟨by decide +kernel, by decide +kernel, by decide +kernel, by decide +kernel⟩, by decide +kernel⟩,
   ⟨act6, (Option.get (act6.load) (by decide +kernel)), by decide +kernel, by decide +kernel, by decide +kernel, by decide +kernel, by decide +kernel, by decide +kernel⟩,
   ⟨act (ld 2 0 256 .software true) 3 base, (Option.get ((act (ld 2 0 256 .software true) 3 base).load) (by decide +kernel)), by decide +kernel, by decide +kernel, by decide +kernel, by decide +kernel, by decide +kernel, by decide +kernel⟩,
   ⟨V (ld 1 0 256 .software true) 3 (buildImage (hdrWords 6 0) [sec 0xC (secOf 96 [(0, 1), (64, wordOf [(50, 8, 1), (36, 14, 0), (21, 15, 20000)])])]) base, (Option.get ((V (ld 1 0 256 .software true) 3 (buildImage (hdrWords 6 0) [sec 0xC (secOf 96 [(0, 1), (64, wordOf [(50, 8, 1), (36, 14, 0), (21, 15, 20000)])])]) base).load) (by decide +kernel)), (Option.get ((V (ld 1 0 256 .software true) 3 (buildImage (hdrWords 6 0) [sec 0xC (secOf 96 [(0, 1), (64, wordOf [(50, 8, 1), (36, 14, 0), (21, 15, 20000)])])]) base).repeatPhases (ImgHeader.ofBytes ((V (ld 1 0 256 .software true) 3 (buildImage (hdrWords 6 0) [sec 0xC (secOf 96 [(0, 1), (64, wordOf [(50, 8, 1), (36, 14, 0), (21, 15, 20000)])])]) base).areaImage ((V (ld 1 0 256 .software true) 3 (buildImage (hdrWords 6 0) [sec 0xC (secOf 96 [(0, 1), (64, wordOf [(50, 8, 1), (36, 14, 0), (21, 15, 20000)])])]) base).loadArea (Option.get ((V (ld 1 0 256 .software true) 3 (buildImage (hdrWords 6 0) [sec 0xC (secOf 96 [(0, 1), (64, wordOf [(50, 8, 1), (36, 14, 0), (21, 15, 20000)])])]) base).load) (by decide +kernel))))) (sectionsOf ((V (ld 1 0 256 .software true) 3 (buildImage (hdrWords 6 0) [sec 0xC (secOf 96 [(0, 1), (64, wordOf [(50, 8, 1), (36, 14, 0), (21, 15, 20000)])])]) base).areaImage ((V (ld 1 0 256 .software true) 3 (buildImage (hdrWords 6 0) [sec 0xC (secOf 96 [(0, 1), (64, wordOf [(50, 8, 1), (36, 14, 0), (21, 15, 20000)])])]) base).loadArea (Option.get ((V (ld 1 0 256 .software true) 3 (buildImage (hdrWords 6 0) [sec 0xC (secOf 96 [(0, 1), (64, wordOf [(50, 8, 1), (36, 14, 0), (21, 15, 20000)])])]) base).load) (by decide +kernel)))))) (by decide +kernel)), by decide +kernel, by decide +kernel, by decide +kernel, by decide +kernel, by decide +kernel, by decide +kernel, by decide +kernel⟩,
   ⟨act (ld 2 0 256 .software true) 3 { base with journal := [(2, entry .collective [] .dispatched)] }, (Option.get ((act (ld 2 0 256 .software true) 3 { base with journal := [(2, entry .collective [] .dispatched)] }).load) (by decide +kernel)), by decide +kernel, by decide +kernel, by decide +kernel, by decide +kernel, by decide +kernel, by decide +kernel⟩,
   ⟨auto2 (slotOK 1 base), 1, [], by decide +kernel, by decide +kernel, by decide +kernel, by decide +kernel, ⟨by decide +kernel, by decide +kernel, by decide +kernel, by decide +kernel⟩, by decide +kernel⟩,
   ⟨auto2 base, by decide +kernel, by decide +kernel, by decide +kernel, by decide +kernel⟩⟩

theorem wit_StartOrderRule :
    (∃ s : State, ∃ e : StartEntry, let n := s.power.next; s.order[n]? = some e ∧ n + 1 < s.order.length ∧ n < 128 ∧ s.power.ordering = true ∧ s.live = true ∧ s.orderMay n = true ∧ s.orderSkips e = false ∧ s.unitDown e.cls e.idx = true ∧ e.cls ≠ 4) ∧
    (∃ s : State, ∃ e : StartEntry, let n := s.power.next; s.order[n]? = some e ∧ n + 1 < s.order.length ∧ n < 128 ∧ s.power.ordering = true ∧ s.live = true ∧ s.orderMay n = true ∧ s.orderSkips e = false ∧ s.unitDown e.cls e.idx = true ∧ e.cls = 4 ∧ e.idx < 6 ∧ s.lnkState e.idx = lnkDown ∧ s.flag (Fld.LNK_CTL_HOLDDOWN e.idx) = false) ∧
    (∃ s : State, ∃ cls : Nat, ∃ idx : Nat, let k := 65536 * cls + idx; s.power.ordering = true ∧ s.live = true ∧ k ∈ s.power.begun ∧ cls ≠ 4 ∧ (cls = 1 → idx < 20) ∧ s.power.next < s.order.length) ∧
    (∃ s : State, ∃ cls : Nat, ∃ idx : Nat, let k := 65536 * cls + idx; s.power.ordering = true ∧ s.live = true ∧ k ∈ s.power.begun ∧ cls ≠ 4 ∧ (cls = 1 → idx < 20) ∧ s.order.length ≤ s.power.next ∧ (∀ e ∈ s.order, (e.cls = cls ∧ e.idx = idx) ∨ s.entryUp e = true) ∧ s.power.startKind ≠ .parkExit ∧ (s.hrnPhase = 5 → s.herdPorts = [] ∧ s.load ≠ none)) :=
  ⟨⟨(SO 0 [k 1 0] [] .starting), (Option.get ((SO 0 [k 1 0] [] .starting).order[((SO 0 [k 1 0] [] .starting).power.next)]?) (by decide +kernel)), by decide +kernel, by decide +kernel, by decide +kernel, by decide +kernel, by decide +kernel, by decide +kernel, by decide +kernel, by decide +kernel, by decide +kernel⟩,
   ⟨P4, (Option.get (P4.order[(P4.power.next)]?) (by decide +kernel)), by decide +kernel, by decide +kernel, by decide +kernel, by decide +kernel, by decide +kernel, by decide +kernel, by decide +kernel, by decide +kernel, by decide +kernel, by decide +kernel, by decide +kernel, by decide +kernel⟩,
   ⟨(SO 3 [k 1 3, k 2 0] [k 1 0] .starting), 1, 0, by decide +kernel, by decide +kernel, by decide +kernel, by decide +kernel, by decide +kernel, by decide +kernel⟩,
   ⟨(P5 0), 1, 1, by decide +kernel, by decide +kernel, by decide +kernel, by decide +kernel, by decide +kernel, by decide +kernel, by decide +kernel, by decide +kernel, by decide +kernel⟩⟩

end Load

/-! Power, park, resets, halts. -/

namespace Power

def pw (f : PowerState → PowerState) (s : State) : State := { s with power := f s.power }
def PC (l : List Nat) : State := pw (fun p => { p with classes := l.map (fun x => ⟨x, 0, 0, 0⟩), window := [8000000, 8000000] }) (withSec 0xB powSec base)
def ph (x : PowerPhase) (s : State) : State := pw (fun p => { p with phase := x }) s
def J : State := with1 5 (stream 1 1 32 2 1 4096 []) (with1 7 (entry .collective (ws16 []) .accepted) (linked (herd 0 0 0 base)))
def R (f : PowerState → PowerState) (s : State) := pw f s

theorem wit_PowerCapRule :
    (∃ s : State, s.power.porst = false) ∧
    (∃ f : Nat, 400 ≤ f ∧ f ≤ 1650) ∧
    (∃ f : Nat, 400 ≤ f ∧ f ≤ 1650 ∧ let bound := lineAt (fun k => vminBounds.getD k 0) f; ∃ mv, bound ≤ mv) :=
  ⟨⟨PC [3, 15, 2, 3], by decide +kernel⟩,
   ⟨400, by decide +kernel, by decide +kernel⟩,
   ⟨400, by decide +kernel, by decide +kernel, 1000, by decide +kernel⟩⟩

theorem wit_ParkRule :
    (∃ s : State, s.power.porst = false) ∧
    (∃ s : State, s.power.phase = .parking ∧ s.live = true ∧ s.mayPark = true) ∧
    (∃ s : State, s.power.phase = .waking ∧ s.power.ordering = false ∧ s.live = true ∧ s.order ≠ []) :=
  ⟨⟨base, by decide +kernel⟩,
   ⟨(ph .parking base), by decide +kernel, by decide +kernel, by decide +kernel⟩,
   ⟨ph .waking (port 1 (fun q => { q with pmEnter := true }) (withSec 0xA startSec base)), by decide +kernel, by decide +kernel, by decide +kernel, by decide +kernel⟩⟩

theorem wit_ResetRule :
    (∃ s : State, s.power.porst = false) ∧
    (∃ s : State, s.power.porst = true) ∧
    (∃ s : State, s.power.porst = false ∧ s.power.wrst = false ∧ s.halt = .running) ∧
    (∃ s : State, s.power.porst = false ∧ s.power.wrst = true ∧ s.halt = .running ∧ s.image = none) ∧
    (∃ s : State, s.Canonical ∧ s.power.porst = false ∧ s.power.wrst = true ∧ s.halt = .running ∧ s.image ≠ none ∧ s.anyFlash = true) :=
  ⟨⟨J, by decide +kernel⟩,
   ⟨(R (fun p => { p with porst := true }) J), by decide +kernel⟩,
   ⟨J, by decide +kernel, by decide +kernel, by decide +kernel⟩,
   ⟨(R (fun p => { p with wrst := true }) base), by decide +kernel, by decide +kernel, by decide +kernel, by decide +kernel⟩,
   ⟨(R (fun p => { p with wrst := true }) J), ⟨by decide +kernel, by decide +kernel, by decide +kernel, by decide +kernel⟩, by decide +kernel, by decide +kernel, by decide +kernel, by decide +kernel, by decide +kernel⟩⟩

theorem wit_HaltRule :
    (∃ s : State, s.power.porst = false ∧ s.power.warned = true) ∧
    (∃ s : State, s.power.porst = false ∧ s.power.warned = false ∧ s.halt = .running) ∧
    (∃ s : State, s.power.porst = false ∧ s.power.warned = false ∧ s.halt = .running ∧ ∃ rail, 0 < rail ∧ rail < 7) ∧
    (∃ s : State, s.power.porst = false ∧ s.power.warned = false ∧ s.halt = .running ∧ ∃ sensor, ∃ temp, sensor < 64 ∧ s.flag Fld.PWR_THERM_TRIPPED = false ∧ 8 * (s.tripOf sensor : Int) < signed 16 (temp % 2 ^ 16)) ∧
    (∃ s : State, ∃ cause : Nat, s.power.porst = false ∧ s.halt = .running ∧ 0 < cause ∧ cause < 6) :=
  ⟨⟨(R (fun p => { p with warned := true }) J), by decide +kernel, by decide +kernel⟩,
   ⟨J, by decide +kernel, by decide +kernel, by decide +kernel⟩,
   ⟨J, by decide +kernel, by decide +kernel, by decide +kernel, 1, by decide +kernel, by decide +kernel⟩,
   ⟨J, by decide +kernel, by decide +kernel, by decide +kernel, 0, 1040, by decide +kernel, by decide +kernel, by decide +kernel⟩,
   ⟨J, 1, by decide +kernel, by decide +kernel, by decide +kernel, by decide +kernel⟩⟩

end Power

/-! Retirement and re-admission. -/

namespace Retire

def noSpare (s : State) : State := { s with retired := (numsFrom 4 13).map (fun i => 65536 + i) }
def T (s : State) : State := with1 6 (tileCmd 2 1 [] .accepted) (with1 5 (tileCmd 2 1 [] .dispatched) (bound (s.wbs (spKey 0 0) (pad 64))))
def rt (k n : Nat) (s : State) : State := { s with retired := [k], retireTimes := [(k, n)] }
def k (c i : Nat) := 65536 * c + i
def ts (kk : Nat) (s : State) : State := { rt kk 1 s with readmit := { s.readmit with tests := [kk] } }

theorem wit_RetirementRule :
    (∃ s : State, ∃ p : Nat, p < 68 ∧ s.live = true ∧ s.isRetired 1 p = false ∧ s.logicalOf p = none) ∧
    (∃ s : State, ∃ p : Nat, ∃ q : Nat, ∃ l : Nat, s.Canonical ∧ p < 68 ∧ s.live = true ∧ s.isRetired 1 p = false ∧ s.logicalOf p = some l ∧ s.replacement (p / 17) = some q) ∧
    (∃ s : State, ∃ p : Nat, ∃ l : Nat, s.Canonical ∧ p < 68 ∧ s.live = true ∧ s.isRetired 1 p = false ∧ s.logicalOf p = some l ∧ s.replacement (p / 17) = none) ∧
    (∃ s : State, ∃ u : Nat, u < 12 ∧ s.live = true ∧ s.isRetired 5 u = false) ∧
    (∃ s : State, ∃ r : Nat, s.Canonical ∧ r < 16384 ∧ s.live = true ∧ s.isRetired 6 r = false) :=
  ⟨⟨base, 4, by decide +kernel, by decide +kernel, by decide +kernel, by decide +kernel⟩,
   ⟨(T base), 0, 16, 0, ⟨by decide +kernel, by decide +kernel, by decide +kernel, by decide +kernel⟩, by decide +kernel, by decide +kernel, by decide +kernel, by decide +kernel, by decide +kernel⟩,
   ⟨(noSpare (T base)), 0, 0, ⟨by decide +kernel, by decide +kernel, by decide +kernel, by decide +kernel⟩, by decide +kernel, by decide +kernel, by decide +kernel, by decide +kernel, by decide +kernel⟩,
   ⟨base, 0, by decide +kernel, by decide +kernel, by decide +kernel⟩,
   ⟨base, 0, ⟨by decide +kernel, by decide +kernel, by decide +kernel, by decide +kernel⟩, by decide +kernel, by decide +kernel, by decide +kernel⟩⟩

theorem wit_ReadmissionRule :
    (∃ s : State, ∃ v : BitVec 32, s.power.porst = false ∧ let cls := v.toNat / 65536 % 16; let idx := v.toNat % 16384; let k := 65536 * cls + idx; 0 < cls ∧ cls < 7 ∧ readmitRange cls idx = true ∧ s.isRetired cls idx = true ∧ s.timesRetired cls idx < 3 ∧ cls ≠ 2 ∧ nmem s.readmit.tests k = false ∧ nmem s.readmit.joining k = false) ∧
    (∃ s : State, ∃ v : BitVec 32, s.power.porst = false ∧ let cls := v.toNat / 65536 % 16; let idx := v.toNat % 16384; 0 < cls ∧ cls < 7 ∧ readmitRange cls idx = true ∧ s.isRetired cls idx = true ∧ s.timesRetired cls idx < 3 ∧ cls = 2 ∧ s.lnkState idx = lnkRetired) ∧
    (∃ s : State, ∃ v : BitVec 32, s.power.porst = false ∧ let cls := v.toNat / 65536 % 16; let idx := v.toNat % 16384; 0 < cls ∧ cls < 7 ∧ readmitRange cls idx = true ∧ s.isRetired cls idx = true ∧ 3 ≤ s.timesRetired cls idx) ∧
    (∃ s : State, ∃ v : BitVec 32, s.power.porst = false ∧ let cls := v.toNat / 65536 % 16; let idx := v.toNat % 16384; 0 < cls ∧ cls < 7 ∧ readmitRange cls idx = true ∧ s.isRetired cls idx = false) ∧
    (∃ s : State, ∃ cls : Nat, ∃ idx : Nat, let k := 65536 * cls + idx; nmem s.readmit.tests k = true ∧ s.live = true) ∧
    (∃ s : State, s.power.porst = false) :=
  ⟨⟨(rt (k 1 5) 1 base), (65541 : BitVec 32), by decide +kernel, by decide +kernel, by decide +kernel, by decide +kernel, by decide +kernel, by decide +kernel, by decide +kernel, by decide +kernel, by decide +kernel⟩,
   ⟨(rt (k 2 1) 1 (flds [(Fld.LNK_STAT_STATE 1, lnkRetired)] base)), (131073 : BitVec 32), by decide +kernel, by decide +kernel, by decide +kernel, by decide +kernel, by decide +kernel, by decide +kernel, by decide +kernel, by decide +kernel⟩,
   ⟨(rt (k 1 5) 3 base), (65541 : BitVec 32), by decide +kernel, by decide +kernel, by decide +kernel, by decide +kernel, by decide +kernel, by decide +kernel⟩,
   ⟨base, (196609 : BitVec 32), by decide +kernel, by decide +kernel, by decide +kernel, by decide +kernel, by decide +kernel⟩,
   ⟨(ts (k 1 5) ((flds [(Fld.JRN_RASTAT_CLASS, 1), (Fld.JRN_RASTAT_INDEX, 5)] base).wbs (spKey 5 0) (pad 32))), 1, 5, by decide +kernel, by decide +kernel⟩,
   ⟨base, by decide +kernel⟩⟩

end Retire

/-! The difference stream and import. -/

namespace Diff

def stg (s : State) : State := flds [(Fld.DIF_STGBASE_BASE, 0x1000000 / 16), (Fld.DIF_STGLEN_LEN, 256), (Fld.DIF_CFG_HLOG2, 20), (Fld.DIF_HOSTBASE_ADDR, 0x7000), (Fld.DIF_IMPCFG_ILOG2, 20), (Fld.DIF_IMPBASE_ADDR, 0x9000)]
  { linked s with image := some ⟨0, 0, 0, 64, 0, 0, 0, 0, 0, 1, 0, 8, 0, 3, 3, 3, 0⟩ }
def onS (s : State) : State := match exec (.difEnable (.host 0) 1) (stg s) with | .next t => t | _ => stg s
def imp (buf : List Byte) (s : State) : State := let s := flds [(Fld.DIF_IMPCTL_ENABLE, 1)] (stg s); { s with diff := { s.diff with buf := buf } }
def errI (n : Nat) (s : State) : State := flds [(Fld.DIF_IMPSTAT_ERR, n)] s
def ck (c : Chunk) : List Byte := c.bytes 0
def delta (rule : Nat) (crc : Nat) : Chunk := { Chunk.plain 1 0 (pad 32 ++ pad 32) with rule := rule, hlen := 32, llen := 32, hmode := 1, lmode := 1, nelem := 32, newcrc := crc }
def mark (g : Nat) : Chunk := Chunk.plain 4 0 (bytesOfWords ([0, 0, wordOf [(32, 32, g)]] ++ List.replicate 9 0))
def R0 : State := imp [] (ruled base)
def good : Nat := crc32c (List.zipWith (fun x y => x ^^^ y) (R0.rbs 0x20000 64) (List.zipWith (fun lo hi => [lo, hi]) (pad 32) (pad 32)).flatten)

theorem wit_DifferenceStreamRule :
    (∃ s : State, ∃ v : BitVec 32, s.power.porst = false ∧ s.flag Fld.DIF_CTL_ENABLE = false ∧ v.getLsbD 0 = true ∧ v.getLsbD 2 = false ∧ s.difEnableBad = false) ∧
    (∃ s : State, ∃ v : BitVec 32, s.power.porst = false ∧ s.flag Fld.DIF_CTL_ENABLE = true ∧ v.getLsbD 0 = false ∧ v.getLsbD 2 = false ∧ s.get Fld.DIF_STAT_STATE = 1) ∧
    (∃ s : State, ∃ v : BitVec 32, s.power.porst = false ∧ s.difOn = true ∧ v.getLsbD 0 = true ∧ s.stgRoom 144 = true ∧ s.diff.gap = none ∧ s.diff.marks = []) ∧
    (∃ s : State, ∃ v : Word, s.power.porst = false ∧ s.get Fld.DIF_CONS_POS ≤ v.toNat ∧ v.toNat ≤ s.get Fld.DIF_DELIV_POS) ∧
    (∃ s : State, ∃ c : Staged, ∃ r : List Staged, let size := 2 ^ s.get Fld.DIF_CFG_HLOG2; let pos := s.get Fld.DIF_DELIV_POS; let from_ := ringPieces s.stgBase s.stgBytes pos (List.replicate c.len 0); s.diff.queue = c :: r ∧ (s.get Fld.DIF_STAT_STATE = 1 ∨ s.get Fld.DIF_STAT_STATE = 2) ∧ s.hostOpen = true ∧ s.live = true ∧ s.get Fld.DIF_WRITE_POS < s.get Fld.DIF_CONS_POS + size ∧ s.diff.marks = [] ∧ s.diff.gap = none ∧ (∀ p ∈ from_, s.poisonedIn p.1 p.2.length = false ∧ s.dramHeld p.1 p.2.length = .served)) :=
  ⟨⟨(stg (ruled base)), (1 : BitVec 32), by decide +kernel, by decide +kernel, by decide +kernel, by decide +kernel, by decide +kernel⟩,
   ⟨(onS (ruled base)), (0 : BitVec 32), by decide +kernel, by decide +kernel, by decide +kernel, by decide +kernel, by decide +kernel⟩,
   ⟨(onS (ruled base)), (1 : BitVec 32), by decide +kernel, by decide +kernel, by decide +kernel, by decide +kernel, by decide +kernel, by decide +kernel⟩,
   ⟨(stg (ruled base)), (0 : Word), by decide +kernel, by decide +kernel, by decide +kernel⟩,
   ⟨(onS (ruled base)), (List.head ((onS (ruled base)).diff.queue) (by decide +kernel)), (List.tail ((onS (ruled base)).diff.queue)), by decide +kernel, by decide +kernel, by decide +kernel, by decide +kernel, by decide +kernel, by decide +kernel, by decide +kernel, by decide +kernel⟩⟩

theorem wit_ImportRule :
    (∃ s : State, ∃ v : BitVec 32, s.power.porst = false ∧ s.flag Fld.DIF_IMPCTL_ENABLE = false ∧ v.getLsbD 0 = true ∧ v.getLsbD 1 = false ∧ 20 ≤ s.get Fld.DIF_IMPCFG_ILOG2 ∧ s.get Fld.DIF_IMPCFG_ILOG2 ≤ 36) ∧
    (∃ s : State, ∃ v : BitVec 32, s.power.porst = false ∧ s.flag Fld.DIF_IMPCTL_ENABLE = true ∧ v.getLsbD 0 = false) ∧
    (∃ s : State, ∃ v : BitVec 32, s.power.porst = false ∧ s.flag Fld.DIF_IMPCTL_ENABLE = true ∧ v.getLsbD 0 = true ∧ (s.get Fld.DIF_IMPSTAT_ERR = 6 ∨ s.get Fld.DIF_IMPSTAT_ERR = 7)) ∧
    (∃ s : State, ∃ tag : Nat, let pos := s.get Fld.DIF_IMPPOS_POS + s.diff.buf.length; s.live = true ∧ s.importState = 2 ∧ s.diff.reading = false ∧ s.importNeed ≠ 0 ∧ pos + s.importNeed ≤ s.get Fld.DIF_IMPPROD_POS ∧ s.hostOpen = true ∧ s.host.reads.length < s.readLimit ∧ s.freeTag = some tag) ∧
    (∃ s : State, let bs := s.diff.buf; s.live = true ∧ s.importState = 2 ∧ 48 ≤ bs.length ∧ s.importNeed = 0 ∧ chunkBad bs = true) ∧
    (∃ s : State, let bs := s.diff.buf; s.live = true ∧ s.importState = 2 ∧ 48 ≤ bs.length ∧ s.importNeed = 0 ∧ chunkBad bs = false ∧ wordAt bs 8 ≠ s.reg Reg.DIF_IMPSEQ) ∧
    (∃ s : State, let bs := s.diff.buf; let c := chunkOf bs; s.live = true ∧ s.importState = 2 ∧ 48 ≤ bs.length ∧ s.importNeed = 0 ∧ chunkBad bs = false ∧ wordAt bs 8 = s.reg Reg.DIF_IMPSEQ ∧ c.type = 3) ∧
    (∃ s : State, let bs := s.diff.buf; let c := chunkOf bs; s.live = true ∧ s.importState = 2 ∧ 48 ≤ bs.length ∧ s.importNeed = 0 ∧ chunkBad bs = false ∧ wordAt bs 8 = s.reg Reg.DIF_IMPSEQ ∧ c.type = 4 ∧ wordAt c.payload 8 = s.reg Reg.HRN_ACTID ∧ bits (wordAt c.payload 16) 32 32 = s.get Fld.HRN_ACTIVE_GENERATION) ∧
    (∃ s : State, let bs := s.diff.buf; let c := chunkOf bs; s.live = true ∧ s.importState = 2 ∧ 48 ≤ bs.length ∧ s.importNeed = 0 ∧ chunkBad bs = false ∧ wordAt bs 8 = s.reg Reg.DIF_IMPSEQ ∧ c.type = 4 ∧ wordAt c.payload 8 ≠ s.reg Reg.HRN_ACTID) ∧
    (∃ s : State, let bs := s.diff.buf; let c := chunkOf bs; s.live = true ∧ s.importState = 2 ∧ 48 ≤ bs.length ∧ s.importNeed = 0 ∧ chunkBad bs = false ∧ wordAt bs 8 = s.reg Reg.DIF_IMPSEQ ∧ c.type = 1 ∧ s.rule c.rule = none) ∧
    (∃ s : State, let bs := s.diff.buf; let c := chunkOf bs; s.live = true ∧ s.importState = 2 ∧ 48 ≤ bs.length ∧ s.importNeed = 0 ∧ chunkBad bs = false ∧ wordAt bs 8 = s.reg Reg.DIF_IMPSEQ ∧ ∃ r, ∃ a, ∃ h, ∃ l, c.type = 1 ∧ s.rule c.rule = some r ∧ r.chunkAt c = some a ∧ c.planes = some (h, l) ∧ s.CleanAll [(a, 2 * c.nelem)] ∧ s.rangesHeld [(a, 2 * c.nelem)] = .served ∧ let new := List.zipWith (fun x y => x ^^^ y) (s.rbs a (2 * c.nelem)) (List.zipWith (fun lo hi => [lo, hi]) l h).flatten; crc32c new ≠ c.newcrc) ∧
    (∃ s : State, let bs := s.diff.buf; let c := chunkOf bs; s.live = true ∧ s.importState = 2 ∧ 48 ≤ bs.length ∧ s.importNeed = 0 ∧ chunkBad bs = false ∧ wordAt bs 8 = s.reg Reg.DIF_IMPSEQ ∧ ∃ r, ∃ a, ∃ h, ∃ l, c.type = 1 ∧ s.rule c.rule = some r ∧ r.chunkAt c = some a ∧ c.planes = some (h, l) ∧ s.CleanAll [(a, 2 * c.nelem)] ∧ s.rangesHeld [(a, 2 * c.nelem)] = .served ∧ let new := List.zipWith (fun x y => x ^^^ y) (s.rbs a (2 * c.nelem)) (List.zipWith (fun lo hi => [lo, hi]) l h).flatten; crc32c new = c.newcrc) ∧
    (∃ s : State, let bs := s.diff.buf; let c := chunkOf bs; s.live = true ∧ s.importState = 2 ∧ 48 ≤ bs.length ∧ s.importNeed = 0 ∧ chunkBad bs = false ∧ wordAt bs 8 = s.reg Reg.DIF_IMPSEQ ∧ c.type = 2 ∧ s.diff.touched.filter (fun t => t.seq == c.seqr && t.step == c.step) = [] ∧ s.actab c.seqr = 0) :=
  ⟨⟨(stg (ruled base)), (1 : BitVec 32), by decide +kernel, by decide +kernel, by decide +kernel, by decide +kernel, by decide +kernel, by decide +kernel⟩,
   ⟨imp (List.replicate 48 0) (ruled base), (0 : BitVec 32), by decide +kernel, by decide +kernel, by decide +kernel⟩,
   ⟨(errI 6 (imp [] (ruled base))), (1 : BitVec 32), by decide +kernel, by decide +kernel, by decide +kernel, by decide +kernel⟩,
   ⟨(flds [(Fld.DIF_IMPPROD_POS, 500)] (imp [] (ruled base))), 0, by decide +kernel, by decide +kernel, by decide +kernel, by decide +kernel, by decide +kernel, by decide +kernel, by decide +kernel, by decide +kernel⟩,
   ⟨imp (List.replicate 48 0) (ruled base), by decide +kernel, by decide +kernel, by decide +kernel, by decide +kernel, by decide +kernel⟩,
   ⟨imp ((mark 0).bytes 5) (ruled base), by decide +kernel, by decide +kernel, by decide +kernel, by decide +kernel, by decide +kernel, by decide +kernel⟩,
   ⟨imp (ck (Chunk.plain 3 0 [])) (ruled base), by decide +kernel, by decide +kernel, by decide +kernel, by decide +kernel, by decide +kernel, by decide +kernel, by decide +kernel⟩,
   ⟨imp (ck (mark 0)) (ruled base), by decide +kernel, by decide +kernel, by decide +kernel, by decide +kernel, by decide +kernel, by decide +kernel, by decide +kernel, by decide +kernel, by decide +kernel⟩,
   ⟨imp (ck { mark 0 with payload := (mark 0).payload.set 8 7 }) (ruled base), by decide +kernel, by decide +kernel, by decide +kernel, by decide +kernel, by decide +kernel, by decide +kernel, by decide +kernel, by decide +kernel⟩,
   ⟨imp (ck (delta 999 0)) (ruled base), by decide +kernel, by decide +kernel, by decide +kernel, by decide +kernel, by decide +kernel, by decide +kernel, by decide +kernel, by decide +kernel⟩,
   ⟨imp (ck (delta 0 0)) (ruled base), by decide +kernel, by decide +kernel, by decide +kernel, by decide +kernel, by decide +kernel, by decide +kernel, (Option.get ((imp (ck (delta 0 0)) (ruled base)).rule (chunkOf ((imp (ck (delta 0 0)) (ruled base)).diff.buf)).rule) (by decide +kernel)), 131072, (Option.get ((chunkOf ((imp (ck (delta 0 0)) (ruled base)).diff.buf)).planes) (by decide +kernel)).1, (Option.get ((chunkOf ((imp (ck (delta 0 0)) (ruled base)).diff.buf)).planes) (by decide +kernel)).2, by decide +kernel, by decide +kernel, by decide +kernel, by decide +kernel, cleanAll_ok (by decide +kernel), by decide +kernel, by decide +kernel⟩,
   ⟨imp (ck (delta 0 good)) (ruled base), by decide +kernel, by decide +kernel, by decide +kernel, by decide +kernel, by decide +kernel, by decide +kernel, (Option.get ((imp (ck (delta 0 good)) (ruled base)).rule (chunkOf ((imp (ck (delta 0 good)) (ruled base)).diff.buf)).rule) (by decide +kernel)), 131072, (Option.get ((chunkOf ((imp (ck (delta 0 good)) (ruled base)).diff.buf)).planes) (by decide +kernel)).1, (Option.get ((chunkOf ((imp (ck (delta 0 good)) (ruled base)).diff.buf)).planes) (by decide +kernel)).2, by decide +kernel, by decide +kernel, by decide +kernel, by decide +kernel, cleanAll_ok (by decide +kernel), by decide +kernel, by decide +kernel⟩,
   ⟨imp (ck (Chunk.plain 2 3 (List.replicate 16 0))) (ruled base), by decide +kernel, by decide +kernel, by decide +kernel, by decide +kernel, by decide +kernel, by decide +kernel, by decide +kernel, by decide +kernel, by decide +kernel⟩⟩

end Diff

/-! Registers and the management ports. -/

namespace Bus

def mg (mode dyn : Nat) (s : State) : State := { s with mgmt := { s.mgmt with mode := mode, dynAddr := dyn } }
def lat (s : State) : State := { s with mgmt := { s.mgmt with latches := [(0, ⟨Reg.HRN_SRCADDR, 77⟩), (1, ⟨Reg.HRN_SRCADDR, 78⟩)] } }

theorem wit_RegisterReads :
    (∃ s : State, ∃ who : ReadBy, ∃ m : Nat, ∃ a : Nat, s.power.porst = false ∧ s.Served who m a ∧ ∃ b, ∃ r, a % 4 = 0 ∧ s.place a = .at b r ∧ r.width = 32 ∧ r.fields.all (fun f => f.acc != .rc) = true) ∧
    (∃ s : State, ∃ who : ReadBy, ∃ m : Nat, ∃ a : Nat, s.power.porst = false ∧ s.Served who m a ∧ ∃ b, ∃ r, a % 8 = 0 ∧ s.place a = .at b r ∧ r.width = 64 ∧ r.fields.all (fun f => f.acc != .rc) = true ∧ s.is32 a = false ∧ s.is32 (a + 4) = false) ∧
    (∃ s : State, ∃ who : ReadBy, ∃ m : Nat, ∃ a : Nat, s.power.porst = false ∧ s.Served who m a ∧ ∃ b, ∃ r, ∃ h, a % 8 = 4 ∧ s.place a = .at b r ∧ r.width = 64 ∧ sfind s.mgmt.latches m = some ⟨b, h⟩) ∧
    (∃ s : State, ∃ who : ReadBy, ∃ m : Nat, ∃ a : Nat, s.power.porst = false ∧ s.Served who m a ∧ a % 4 ≠ 0) ∧
    (∃ s : State, ∃ who : ReadBy, ∃ m : Nat, ∃ a : Nat, s.power.porst = false ∧ s.Served who m a ∧ a % 4 = 0 ∧ s.place a = .unassigned) ∧
    (∃ s : State, ∃ who : ReadBy, ∃ m : Nat, ∃ a : Nat, s.power.porst = false ∧ s.Served who m a ∧ a % 4 = 0 ∧ s.place a = .unavailable) :=
  ⟨⟨(mg 1 0 base), (ReadBy.host), 1, 8, by decide +kernel, rfl, 8, (placeSpec ((mg 1 0 base).place 8)), by decide +kernel, by decide +kernel, by decide +kernel, by decide +kernel⟩,
   ⟨(mg 1 0 base), (ReadBy.host), 1, 0, by decide +kernel, rfl, 0, (placeSpec ((mg 1 0 base).place 0)), by decide +kernel, by decide +kernel, by decide +kernel, by decide +kernel, by decide +kernel, by decide +kernel⟩,
   ⟨(lat (mg 1 0 base)), (ReadBy.host), 1, 131092, by decide +kernel, rfl, 131088, (placeSpec ((lat (mg 1 0 base)).place 131092)), 78, by decide +kernel, by decide +kernel, by decide +kernel, by decide +kernel⟩,
   ⟨(mg 1 0 base), (ReadBy.host), 1, 1, by decide +kernel, rfl, by decide +kernel⟩,
   ⟨(mg 1 0 base), (ReadBy.host), 1, 8323072, by decide +kernel, rfl, by decide +kernel, by decide +kernel⟩,
   ⟨(mg 1 0 base), (ReadBy.host), 1, 17432576, by decide +kernel, rfl, by decide +kernel, by decide +kernel⟩⟩

theorem wit_RegisterWrites :
    (∃ s : State, ∃ addr : Nat, ∃ a : Nat, ∃ check : MgmtCheck, s.power.porst = false ∧ s.mgmt.mode ≠ 0 ∧ s.addressed addr = true ∧ s.mgmtCheck check a true = .served) ∧
    (∃ s : State, ∃ addr : Nat, ∃ a : Nat, ∃ check : MgmtCheck, ∃ f : Fld, s.power.porst = false ∧ s.mgmt.mode ≠ 0 ∧ s.addressed addr = true ∧ s.mgmtCheck check a true = .refused f) ∧
    (∃ s : State, ∃ a : Nat, ∃ size : Nat, s.power.porst = false ∧ (size = 4 ∨ size = 8) ∧ a % size ≠ 0) ∧
    (∃ s : State, ∃ a : Nat, ∃ size : Nat, s.power.porst = false ∧ size = 4 ∧ a % 4 = 0 ∧ s.place a = .unassigned) ∧
    (∃ s : State, ∃ a : Nat, ∃ size : Nat, s.power.porst = false ∧ size = 4 ∧ a % 4 = 0 ∧ s.place a = .unavailable) ∧
    (∃ s : State, ∃ a : Nat, ∃ size : Nat, s.power.porst = false ∧ ∃ b, ∃ r, size = 4 ∧ a % 4 = 0 ∧ s.place a = .at b r ∧ r.fields.all (fun f => !f.acc.writable) = true ∧ r.width = 32) ∧
    (∃ s : State, ∃ a : Nat, ∃ size : Nat, s.power.porst = false ∧ a = Reg.HRN_SRCADDR ∧ size = 8) :=
  ⟨⟨(mg 2 0 base), 88, 88, MgmtCheck.good, by decide +kernel, by decide +kernel, by decide +kernel, by decide +kernel⟩,
   ⟨(mg 2 0 base), 88, 88, MgmtCheck.pecBad, (Fld.MGT_ERR_PEC), by decide +kernel, by decide +kernel, by decide +kernel, by decide +kernel⟩,
   ⟨(mg 1 0 base), 1, 4, by decide +kernel, by decide +kernel, by decide +kernel⟩,
   ⟨(mg 1 0 base), 88, 4, by decide +kernel, by decide +kernel, by decide +kernel, by decide +kernel⟩,
   ⟨(mg 1 0 base), 17432576, 4, by decide +kernel, by decide +kernel, by decide +kernel, by decide +kernel⟩,
   ⟨(mg 1 0 base), 8, 4, by decide +kernel, 8, (placeSpec ((mg 1 0 base).place 8)), by decide +kernel, by decide +kernel, by decide +kernel, by decide +kernel, by decide +kernel⟩,
   ⟨(mg 1 0 base), 131088, 8, by decide +kernel, by decide +kernel, by decide +kernel⟩⟩

theorem wit_ManagementPorts :
    (∃ s : State, s.power.porst = false ∧ s.mgmt.mode ≠ 2) ∧
    (∃ s : State, s.power.porst = false ∧ s.mgmt.mode = 2 ∧ s.alert = true) ∧
    (∃ s : State, s.mgmt.trst = false) :=
  ⟨⟨base, by decide +kernel, by decide +kernel⟩,
   ⟨(mg 2 0 (flds [(Fld.MGT_EVTSUM_CLASS, 1)] base)), by decide +kernel, by decide +kernel, by decide +kernel⟩,
   ⟨base, by decide +kernel⟩⟩

end Bus

/-! The whole machine. -/

theorem wit_StepRunsFrontCommand : ∃ s : State, s.pending = [] ∧ s.power.porst = true := ⟨{ base with power := { base.power with porst := true } }, by decide +kernel⟩

theorem wit_QueueServedInOrder : ∃ s t : State, step s = .next t := ⟨{ base with pending := [.msiXEnable, .delivery] }, _, rfl⟩

theorem wit_CommandsKeepToTheirParts : ∃ c s t, exec c s = .next t := ⟨.msiXEnable, base, _, rfl⟩

theorem wit_StepKeepsCanonicalForm : ∃ s t : State, s.Canonical ∧ step s = .next t := ⟨{ base with pending := [.msiXEnable] }, _, ⟨by decide +kernel, by decide +kernel, by decide +kernel, by decide +kernel⟩, rfl⟩

theorem wit_CapabilityListWalk : (∃ s : State, ∃ o w, s.capWord o = some w) ∧ (∃ s : State, ∃ e post, s.capEntries = [] ++ e :: post ∧ post ≠ []) ∧ (∃ s : State, ∃ pre e, s.capEntries = pre ++ e :: []) :=
  ⟨⟨base, 0x100, Option.get (base.capWord 0x100) (by decide +kernel), by decide +kernel⟩,
   ⟨base, base.capEntries.head (by decide +kernel), base.capEntries.tail, by simp, by decide +kernel⟩,
   ⟨base, base.capEntries.dropLast, base.capEntries.getLast (by decide +kernel), (List.dropLast_concat_getLast _).symm⟩⟩

theorem wit_CapabilityListWalk_body : ∃ (s : State) (e : CapEntry) (x : Word), e ∈ s.capEntries ∧ e.body[0]? = some x :=
  ⟨base, base.capEntries.head (by decide +kernel), _, List.head_mem _, rfl⟩

theorem wit_RailFaultRule : ∃ s : State, ∃ rail w, s.power.porst = false ∧ 0 < rail ∧ rail < 7 ∧ s.power.warned = false ∧ exec .pwrWarnN s = .next w :=
  ⟨base, 6, _, by decide +kernel, by decide +kernel, by decide +kernel, by decide +kernel, rfl⟩

/-! The row engines. -/

namespace Rows

/-- A row command over two wide rows, one done. -/
def rowE (op : Nat) : JEntry := { entry .rowEngines (ws16 [(0, wordOf [(56, 8, op), (0, 10, 2)]), (4, uda dramBBase), (5, uda (dramBBase + 0x100000)), (6, uda (dramBBase + 0x200000)), (7, uda (dramBBase + 0x300000))]) .dispatched with segs := if op < 10 then 1 else 0 }
/-- Region 0 from the start of DRAM's upper half. -/
def rowS (op cls : Nat) : State := with1 5 (rowE op) { base with tier := { base.tier with rowRegions := [⟨0, 4, 1, cls⟩] } }

theorem wit_RowEngineOperations :
    (∃ (s : State) (j : Nat) (e : JEntry), s.RowStepping j e 1) ∧
    (∃ (s : State) (j : Nat) (e : JEntry), s.RowStepping j e 2) ∧
    (∃ (s : State) (j : Nat) (e : JEntry), s.RowStepping j e 3) ∧
    (∃ (s : State) (j : Nat) (e : JEntry), s.RowStepping j e 4) ∧
    (∃ (s : State) (j : Nat) (e : JEntry), s.RowStepping j e 5) ∧
    (∃ (s : State) (j : Nat) (e : JEntry), s.RowStepping j e 6) ∧
    (∃ (s : State) (j : Nat) (e : JEntry), s.RowStepping j e 7) ∧
    (∃ (s : State) (j : Nat) (e : JEntry), s.RowStepping j e 8) ∧
    (∃ (s : State) (j : Nat) (e : JEntry), s.RowStepping j e 9) :=
  ⟨⟨rowS 1 1, 5, rowE 1, ⟨by decide +kernel, by decide +kernel, by decide +kernel, by decide +kernel, by decide +kernel, by decide +kernel, by decide +kernel, by decide +kernel, by decide +kernel, by decide +kernel, by decide +kernel, by decide +kernel⟩⟩,
   ⟨rowS 2 1, 5, rowE 2, ⟨by decide +kernel, by decide +kernel, by decide +kernel, by decide +kernel, by decide +kernel, by decide +kernel, by decide +kernel, by decide +kernel, by decide +kernel, by decide +kernel, by decide +kernel, by decide +kernel⟩⟩,
   ⟨rowS 3 1, 5, rowE 3, ⟨by decide +kernel, by decide +kernel, by decide +kernel, by decide +kernel, by decide +kernel, by decide +kernel, by decide +kernel, by decide +kernel, by decide +kernel, by decide +kernel, by decide +kernel, by decide +kernel⟩⟩,
   ⟨rowS 4 1, 5, rowE 4, ⟨by decide +kernel, by decide +kernel, by decide +kernel, by decide +kernel, by decide +kernel, by decide +kernel, by decide +kernel, by decide +kernel, by decide +kernel, by decide +kernel, by decide +kernel, by decide +kernel⟩⟩,
   ⟨rowS 5 1, 5, rowE 5, ⟨by decide +kernel, by decide +kernel, by decide +kernel, by decide +kernel, by decide +kernel, by decide +kernel, by decide +kernel, by decide +kernel, by decide +kernel, by decide +kernel, by decide +kernel, by decide +kernel⟩⟩,
   ⟨rowS 6 1, 5, rowE 6, ⟨by decide +kernel, by decide +kernel, by decide +kernel, by decide +kernel, by decide +kernel, by decide +kernel, by decide +kernel, by decide +kernel, by decide +kernel, by decide +kernel, by decide +kernel, by decide +kernel⟩⟩,
   ⟨rowS 7 1, 5, rowE 7, ⟨by decide +kernel, by decide +kernel, by decide +kernel, by decide +kernel, by decide +kernel, by decide +kernel, by decide +kernel, by decide +kernel, by decide +kernel, by decide +kernel, by decide +kernel, by decide +kernel⟩⟩,
   ⟨rowS 8 1, 5, rowE 8, ⟨by decide +kernel, by decide +kernel, by decide +kernel, by decide +kernel, by decide +kernel, by decide +kernel, by decide +kernel, by decide +kernel, by decide +kernel, by decide +kernel, by decide +kernel, by decide +kernel⟩⟩,
   ⟨rowS 9 1, 5, rowE 9, ⟨by decide +kernel, by decide +kernel, by decide +kernel, by decide +kernel, by decide +kernel, by decide +kernel, by decide +kernel, by decide +kernel, by decide +kernel, by decide +kernel, by decide +kernel, by decide +kernel⟩⟩⟩

theorem wit_SealRule :
    (∃ (s : State) (j : Nat) (e : JEntry) (i : Nat) (r : RowRegion), s.RowStepping j e 10 ∧ s.rowRegionAt (rowDst e.words) = some (i, r)) ∧
    (∃ (s : State) (j : Nat) (e : JEntry) (i : Nat) (r : RowRegion), s.RowStepping j e 11 ∧ s.rowRegionAt (rowDst e.words) = some (i, r)) :=
  ⟨⟨rowS 10 1, 5, rowE 10, 0, ⟨0, 4, 1, 1⟩, ⟨by decide +kernel, by decide +kernel, by decide +kernel, by decide +kernel, by decide +kernel, by decide +kernel, by decide +kernel, by decide +kernel, by decide +kernel, by decide +kernel, by decide +kernel, by decide +kernel⟩, by decide +kernel⟩,
   ⟨rowS 11 2, 5, rowE 11, 0, ⟨0, 4, 1, 2⟩, ⟨by decide +kernel, by decide +kernel, by decide +kernel, by decide +kernel, by decide +kernel, by decide +kernel, by decide +kernel, by decide +kernel, by decide +kernel, by decide +kernel, by decide +kernel, by decide +kernel⟩, by decide +kernel⟩⟩

end Rows

end Sys2Proof.Tests
end

section
/-! PROOFS. Reads of registers (R17, R48, R49, R559). -/

set_option Elab.async false

namespace Sys2Proof.Machine

/-! Frames and counters. -/

/-- What `Within` bounds is a frame: the parts in its bit set are those listed. -/
theorem Within.sameBut {m : Nat} {l : List Part} {s t : State} (h : Within m s t)
    (hl : ∀ p : Part, m.testBit p.num = true → p ∈ l := by intro p; cases p <;> decide) : SameBut l s t := by
  intro p hp
  refine h.same p ?_
  cases hm : m.testBit p.num with
  | false => rfl
  | true => exact absurd (hl p hm) hp

/-- A saturating counter raised by one goes one up. -/
theorem up_count (s : State) (f : Fld) (h : f.lo + f.n ≤ 64) : s.Up (s.count f 1) f := get_count_same s f 1 h

/-! The latch of a master (R49): nothing that a register shows depends on it. -/

/-- A flow record is found or made whatever latch the state holds. -/
theorem txFlow_dropLatch (s : State) (m dst slot : Nat) :
    (s.dropLatch m).txFlow dst slot = (s.txFlow dst slot).map (fun x => (x.1, x.2.dropLatch m)) := by
  unfold State.txFlow
  cases hf : sfind s.net.txFlows (flowKey dst slot) with
  | some f => simp only [State.dropLatch, hf, Option.map_some]
  | none =>
    simp only [State.dropLatch, hf, apply_ite (Option.map _), Option.map_none, Option.map_some]
    rfl

theorem allocObject_isSome (s : State) (fr n : Nat) : (s.allocObject fr n).isSome = (s.chooseHome n).isSome := Option.isSome_map

theorem fitHome_isSome_dropLatch (s : State) (m fr n : Nat) : ((s.dropLatch m).fitHome fr n).isSome = (s.fitHome fr n).isSome := by
  have ht : (s.dropLatch m).tier = s.tier := rfl
  unfold State.fitHome
  rw [ht]
  split
  · simp only [apply_ite Option.isSome, allocObject_isSome]
    rfl
  · simp only [allocObject_isSome]
    rfl

theorem victim_dropLatch (s : State) (m : Nat) : (s.dropLatch m).victim = s.victim := by
  simp only [State.victim, State.canWriteBack, fitHome_isSome_dropLatch]
  rfl

theorem tierReady_dropLatch (s : State) (m : Nat) (w : TierWait) : (s.dropLatch m).tierReady w = s.tierReady w := by
  simp only [State.tierReady, victim_dropLatch]
  rfl

theorem remoteReady_dropLatch (s : State) (m : Nat) (e : JEntry) (r : StreamRun) :
    (s.dropLatch m).remoteReady e r = s.remoteReady e r := by
  simp only [State.remoteReady, txFlow_dropLatch]
  cases s.txFlow (sHerd e.words) _ <;> rfl

theorem waitOver_dropLatch (s : State) (m : Nat) (e : JEntry) (r : StreamRun) : (s.dropLatch m).waitOver e r = s.waitOver e r := by
  unfold State.waitOver
  cases r.wait with
  | tier w => exact tierReady_dropLatch s m w
  | remote => exact remoteReady_dropLatch s m e r
  | _ => rfl

theorem resumable_dropLatch (s : State) (m : Nat) (e : JEntry) (r : StreamRun) : (s.dropLatch m).resumable e r = s.resumable e r := by
  unfold State.resumable
  rw [waitOver_dropLatch]
  rfl

theorem channelFor_dropLatch (s : State) (m t : Nat) (e : JEntry) : (s.dropLatch m).channelFor t e = s.channelFor t e := by
  simp only [State.channelFor, resumable_dropLatch]
  rfl

theorem unitFor_dropLatch (s : State) (m t p : Nat) (e : JEntry) : (s.dropLatch m).unitFor t p e = s.unitFor t p e := by
  simp only [State.unitFor, channelFor_dropLatch]
  rfl

theorem headBlock_dropLatch (s : State) (m t p j : Nat) (e : JEntry) : (s.dropLatch m).headBlock t p j e = s.headBlock t p j e := by
  simp only [State.headBlock, unitFor_dropLatch]
  rfl

theorem tileRingStat_dropLatch (s : State) (m p i : Nat) : (s.dropLatch m).tileRingStat p i = s.tileRingStat p i := by
  simp only [State.tileRingStat, headBlock_dropLatch]
  rfl

theorem tileLive_dropLatch (s : State) (m p o : Nat) (w : Word) : (s.dropLatch m).tileLive p o w = s.tileLive p o w := by
  simp only [State.tileLive, tileRingStat_dropLatch]
  rfl

@[simp] theorem peek_dropLatch (s : State) (m b : Nat) : (s.dropLatch m).peek b = s.peek b := by
  simp only [State.peek, tileLive_dropLatch]
  rfl

theorem listedAt_dropLatch (s : State) (m : Nat) : (s.dropLatch m).listedAt = s.listedAt := rfl

theorem unavailable_dropLatch (s : State) (m : Nat) : (s.dropLatch m).unavailable = s.unavailable := rfl

theorem phys_dropLatch (s : State) (m : Nat) : (s.dropLatch m).phys = s.phys := rfl

@[simp] theorem place_dropLatch (s : State) (m a : Nat) : (s.dropLatch m).place a = s.place a := by
  unfold State.place
  rw [listedAt_dropLatch, unavailable_dropLatch, phys_dropLatch]

@[simp] theorem is32_dropLatch (s : State) (m a : Nat) : (s.dropLatch m).is32 a = s.is32 a := by
  unfold State.is32
  rw [listedAt_dropLatch]

/-! A served read (R48, R49, R559). -/

theorem mgmtRead_of_served {s : State} {who : ReadBy} {m a : Nat} (hp : s.power.porst = false) (h : s.Served who m a) (size : Nat) :
    s.mgmtRead who a size = keepReply (s.serialRead m a size) := by
  cases who with
  | host =>
    obtain rfl : m = 1 := h
    simp [State.mgmtRead, hp]
  | mgmt addr check =>
    obtain ⟨rfl, hmode, haddr, hcheck⟩ := h
    have hstart : s.mgmtStart addr = s := by simp [State.mgmtStart, State.selectMode, hmode]
    simp [State.mgmtRead, hp, hstart, haddr, hcheck]

theorem exec_read32_of_served {s : State} {who : ReadBy} {m a : Nat} (hp : s.power.porst = false) (h : s.Served who m a) :
    exec (.read32 who a) s = .next (keepReply (s.serialRead m a 4)) :=
  congrArg Host.Outcome.next (mgmtRead_of_served hp h 4)

theorem exec_read64_of_served {s : State} {who : ReadBy} {m a : Nat} (hp : s.power.porst = false) (h : s.Served who m a) :
    exec (.read64 who a) s = .next (keepReply (s.serialRead m a 8)) :=
  congrArg Host.Outcome.next (mgmtRead_of_served hp h 8)

/-- An aligned 4-byte read is one read of one register. -/
theorem serialRead_word (s : State) (m a : Nat) (ha : a % 4 = 0) :
    s.serialRead m a 4 = (leBytes 4 ((s.dropLatch m).readOne m (sfind s.mgmt.latches m) a 4).1, ((s.dropLatch m).readOne m (sfind s.mgmt.latches m) a 4).2) := by
  simp [State.serialRead, ha]

/-- An aligned 8-byte read that covers no 32-bit register is one read of one register. -/
theorem serialRead_double (s : State) (m a : Nat) (ha : a % 8 = 0) (h0 : s.is32 a = false) (h4 : s.is32 (a + 4) = false) :
    s.serialRead m a 8 = (leBytes 8 ((s.dropLatch m).readOne m (sfind s.mgmt.latches m) a 8).1, ((s.dropLatch m).readOne m (sfind s.mgmt.latches m) a 8).2) := by
  simp [State.serialRead, ha, is32_dropLatch, h0, h4]

theorem serialRead_misaligned (s : State) (m a : Nat) (ha : a % 4 ≠ 0) : s.serialRead m a 4 = ([255, 255, 255, 255], (s.dropLatch m).accErr a 4) := by
  simp [State.serialRead, ha, List.replicate]

theorem leBytes_four_zero : leBytes 4 0 = [0, 0, 0, 0] := by decide

/-! One register read. -/

/-- A register without RC fields is left as it is by its read (R17). -/
theorem clearRc_of_no_rc (s : State) (b : Nat) {r : RegSpec} (hr : r.fields.all (fun f => f.acc != .rc) = true) (high : Bool) : s.clearRc b r high = s := by
  have hfs : r.fields.filter (fun f => f.acc == .rc && (!high || decide (32 ≤ f.lo))) = [] := by
    rw [List.filter_eq_nil_iff]
    intro f hf
    have hf' : (f.acc == .rc) = false := by simpa [bne] using List.all_eq_true.mp hr f hf
    simp [hf']
  unfold State.clearRc
  rw [hfs]
  cases s.home b <;> rfl

theorem readOne_unassigned {s : State} {a : Nat} (h : s.place a = .unassigned) (m : Nat) (l : Option HalfLatch) (size : Nat) :
    s.readOne m l a size = (0, s) := by
  simp only [State.readOne, h]

theorem readOne_unavailable {s : State} {a : Nat} (h : s.place a = .unavailable) (m : Nat) (l : Option HalfLatch) (size : Nat) :
    s.readOne m l a size = (0, s.unavail) := by
  simp only [State.readOne, h]

/-- A register read whole. -/
theorem readOne_whole {s : State} {a b size : Nat} {r : RegSpec} (h : s.place a = .at b r) (hw : ¬ (r.width = 64 ∧ size = 4))
    (hr : r.fields.all (fun f => f.acc != .rc) = true) (m : Nat) (l : Option HalfLatch) : s.readOne m l a size = ((s.peek b).toNat, s) := by
  simp only [State.readOne, h, hw, if_false, clearRc_of_no_rc s b hr]

/-- The low half of a 64-bit register read by itself: the high half is latched (R49). -/
theorem readOne_low {s : State} {a b : Nat} {r : RegSpec} (h : s.place a = .at b r) (hw : r.width = 64) (ha : a % 8 = 0)
    (hr : r.fields.all (fun f => f.acc != .rc) = true) (m : Nat) (l : Option HalfLatch) :
    s.readOne m l a 4 = ((s.peek b).toNat % 2 ^ 32,
      { s with mgmt := { s.mgmt with latches := sinsert s.mgmt.latches m ⟨b, (s.peek b).toNat / 2 ^ 32⟩ } }) := by
  simp only [State.readOne, h, hw, ha, clearRc_of_no_rc s b hr]
  rfl

/-- The high half read after its low half: the latched value (R49). -/
theorem readOne_latched {s : State} {a b x : Nat} {r : RegSpec} (h : s.place a = .at b r) (hw : r.width = 64) (ha : a % 8 = 4) (m : Nat) :
    s.readOne m (some ⟨b, x⟩) a 4 = (x, s) := by
  simp [State.readOne, h, hw, ha]

/-! What a read leaves unchanged. -/

theorem sameBut_mgmt (s : State) (g : MgmtState) : SameBut [.mgmt] s { s with mgmt := g } := Within.sameBut (within_mgmod s (fun _ => g))

theorem sameBut_keepReply_dropLatch (s : State) (m : Nat) (bs : List Byte) : SameBut [.mgmt] s (keepReply (bs, s.dropLatch m)) :=
  Within.sameBut (within_keepReply (within_dropLatch s m))

/-- A read that an operation on registers alone counts. -/
theorem sameBut_keepReply_counted {s t : State} {m : Nat} (bs : List Byte) (h : Within 2 (s.dropLatch m) t) : SameBut [.regs, .mgmt] s (keepReply (bs, t)) :=
  Within.sameBut (m := 130) (within_keepReply (Within.step ((within_dropLatch s m).mono (by decide)) h))

theorem up_accErr (s : State) (a : Nat) : s.Up (s.accErr a 4) Fld.CAP_ACCERR_COUNT := by
  have h := up_count s Fld.CAP_ACCERR_COUNT (by decide)
  unfold State.Up State.accErr at *
  rw [get_set_other _ _ _ _ (by decide), get_set_other _ _ _ _ (by decide), h]

theorem get_accErr_offset (s : State) (a : Nat) : (s.accErr a 4).get Fld.CAP_ACCERR_OFFSET = a % 2 ^ 25 := by
  unfold State.accErr
  rw [get_set_same _ _ _ (by decide)]
  exact Nat.mod_mod _ _

end Sys2Proof.Machine

open Sys2Proof Sys2Proof.Machine

/-- Settles O58: each kind of read is one read of the register that stands at its place, after the master's latch is taken off, which no register shows. -/
theorem registerReads : Obligations.RegisterReads := by
  intro s who m a hp hs
  have h32 := exec_read32_of_served hp hs
  have h64 := exec_read64_of_served hp hs
  refine ⟨fun b r ha hb hw hr => ?word, fun b r ha hb hw hr h0 h4 => ⟨?double, ?low⟩, fun b r x ha hb hw hl => ?high, fun ha => ?misaligned, fun ha hb => ?unassigned, fun ha hb => ?unavailable⟩
  case word =>
    refine ⟨_, h32, ?_⟩
    rw [serialRead_word s m a ha, readOne_whole ((place_dropLatch s m a).trans hb) (by omega) hr, peek_dropLatch]
    exact ⟨rfl, sameBut_keepReply_dropLatch s m _⟩
  case double =>
    refine ⟨_, h64, ?_⟩
    rw [serialRead_double s m a ha h0 h4, readOne_whole ((place_dropLatch s m a).trans hb) (by omega) hr, peek_dropLatch]
    exact ⟨rfl, sameBut_keepReply_dropLatch s m _⟩
  case low =>
    refine ⟨_, h32, ?_⟩
    rw [serialRead_word s m a (by omega), readOne_low ((place_dropLatch s m a).trans hb) hw ha hr, peek_dropLatch]
    exact ⟨rfl, sfind_sinsert_same _ _ _, sameBut_mgmt s _⟩
  case high =>
    refine ⟨_, h32, ?_⟩
    rw [serialRead_word s m a (by omega), hl, readOne_latched ((place_dropLatch s m a).trans hb) hw ha]
    exact ⟨rfl, sfind_serase_same _ _, sameBut_keepReply_dropLatch s m _⟩
  case misaligned =>
    refine ⟨_, h32, ?_⟩
    rw [serialRead_misaligned s m a ha]
    exact ⟨rfl, up_accErr (s.dropLatch m) a, get_accErr_offset (s.dropLatch m) a, sameBut_keepReply_counted _ (within_accErr _ _ _)⟩
  case unassigned =>
    refine ⟨_, h32, ?_⟩
    rw [serialRead_word s m a ha, readOne_unassigned ((place_dropLatch s m a).trans hb)]
    exact ⟨leBytes_four_zero, sameBut_keepReply_dropLatch s m _⟩
  case unavailable =>
    refine ⟨_, h32, ?_⟩
    rw [serialRead_word s m a ha, readOne_unavailable ((place_dropLatch s m a).trans hb)]
    exact ⟨leBytes_four_zero, up_count (s.dropLatch m) Fld.MGT_ERR_UNAVAIL (by decide), sameBut_keepReply_counted _ (within_unavail _)⟩

end

section
/-! PROOFS. The state right after reset, and resumption after a warm reset (R18, R524, R525). -/

set_option Elab.async false

namespace Sys2Proof.Machine

/-! The state right after reset (R18, R552). -/

theorem reg_reset (a : Nat) : State.reset.reg a = regReset a := rfl

theorem get_reset (f : Fld) : State.reset.get f = bits (regReset f.reg) f.lo f.n := rfl

theorem canonical_reset : State.reset.Canonical := ⟨rfl, rfl, rfl, rfl⟩

/-! Resumption of a stream whose local rows are poisoned (R409, R525). -/

/-- The words of a STREAM STORE with far kind 0x2, to a window of this package: one row of 32 bytes from local offset 0. -/
def loopbackWords : List Word :=
  [wordOf [(56, 8, 4), (48, 8, 2)], 0, 0, 0, wordOf [(60, 4, 2), (57, 3, 2), (0, 40, 1)], wordOf [(48, 16, 1), (0, 40, 32)], 0, 0, 0, 0,
    wordOf [(39, 25, 32), (14, 25, 1)], wordOf [(39, 25, 1), (14, 25, 1)], wordOf [(39, 25, 1), (14, 25, 1)], 0, wordOf [(24, 20, 2)], 0]

/-- That STORE in the journal, dispatched on channel 0 of logical tile 0. -/
def loopbackStore : JEntry where
  ring := 1
  idx := 0
  sub := 0
  irq := false
  user := 0
  task := 0
  target := .tileRing 16
  tile := 0
  words := loopbackWords
  parent := 0
  st := .dispatched
  disp := 1
  empty := false
  refusal := none
  mute := false
  fin := none
  status := 0
  settled := false
  reported := false
  res0 := 0
  res1 := 0
  unit := .channel 0
  rows := none
  blocks := []
  segs := 0
  header := []
  resv := []
  cancelled := false
  sent := false
  payload := []

/-- Its one message, sent and not acknowledged. -/
def loopbackMsg : SentMsg where
  pos := 0
  len := 32
  jseq := 1
  off := 0
  last := true
  alen := 32
  row := 0
  atom := 0
  atoms := 32

/-- The header of an image of a herd of one package at address 0. -/
def lonePackage : ImgHeader := ⟨0x4B484152, 1, 0, 64, 0, 0x1216, 0, 0, 1, 1, 0, 0, 0, 0, 0, 0, 0⟩

/-- A package in warm reset, the STORE in its journal and the first granule of its local row poisoned. -/
def poisonedStore : State :=
  { State.reset with
    tileMap := some 0 :: List.replicate 63 none
    poison := [spKey 0 0 / 32]
    journal := [(1, loopbackStore)]
    image := some lonePackage
    net := { NetState.reset with txFlows := [(flowKey 0 0, ⟨0, 32, 0, 65536, [loopbackMsg], 0⟩)] }
    power := { PowerState.reset with wrst := true } }

/-- The replay reads the local row anew (R409), finds the poison and ends the STORE, which commits. -/
theorem resumption_commits_poisonedStore :
    ((nextOr poisonedStore (exec .resumption poisonedStore)).cmd 1).map (fun e => (e.st, e.fin)) = some (.committed, some Status.memError.num) := by
  decide +kernel

theorem canonical_poisonedStore : poisonedStore.Canonical := ⟨by decide +kernel, by decide +kernel, by decide +kernel, by decide +kernel⟩

theorem anyFlash_poisonedStore : poisonedStore.anyFlash = true := by decide +kernel

end Sys2Proof.Machine

open Sys2Proof Sys2Proof.Machine

/-- Settles O5: the tables are empty, so every register reads its Reset value; the two fields named are evaluated from it. -/
theorem resetState : Obligations.ResetState := by
  refine ⟨reg_reset, rfl, rfl, rfl, rfl, rfl, rfl, fun _ => rfl, canonical_reset, ?_, ?_⟩
  · rw [get_reset]
    decide +kernel
  · rw [get_reset]
    decide +kernel

/-- Refutes O53, by the last clause: a dispatched STORE whose unacknowledged message lies on a poisoned local row does not stay dispatched, since its replay sends that message again, meets the poison and ends it MEM_ERROR. -/
theorem not_resetRule : ¬ Obligations.ResetRule := by
  rintro ⟨-, -, -, -, -, hresume⟩
  obtain ⟨t, hnext, -, -, -, -, -, hreplayed, -⟩ :=
    hresume poisonedStore canonical_poisonedStore rfl rfl rfl (by decide +kernel) anyFlash_poisonedStore
  obtain ⟨e, hcmd, -, hst, -⟩ := hreplayed 1 loopbackStore rfl rfl rfl
  have h := resumption_commits_poisonedStore
  rw [hnext] at h
  simp only [nextOr, hcmd, Option.map_some, hst] at h
  cases h

end

section
/-! PROOFS. The capability list (R50, R51), and the I3C commands of the management port (R55, R558). -/

set_option Elab.async false

namespace Sys2Proof.Machine

/-! Fields of an assembled word (R14). -/

@[simp] theorem bits_zero (lo n : Nat) : bits 0 lo n = 0 := by simp [bits]

theorem bits_wordOf_same (lo n v : Nat) (r : List (Nat × Nat × Nat)) (h : lo + n ≤ 64) : bits (wordOf ((lo, n, v) :: r)) lo n = v % 2 ^ n :=
  bits_putBits_same _ _ _ _ h

theorem bits_wordOf_other (lo n v : Nat) (r : List (Nat × Nat × Nat)) {lo' n' : Nat} (h : lo' + n' ≤ lo ∨ lo + n ≤ lo') :
    bits (wordOf ((lo, n, v) :: r)) lo' n' = bits (wordOf r) lo' n' :=
  bits_putBits_other _ _ _ _ _ _ h

@[simp] theorem bits_wordOf_nil (lo n : Nat) : bits (wordOf []) lo n = 0 := bits_zero lo n

theorem b2n_lt_two (b : Bool) : b2n b < 2 := by cases b <;> decide

/-! The header of an entry (R51). -/

/-- The header of an entry at offset `o`: `last` says that no entry follows. -/
def CapEntry.header (e : CapEntry) (o : Nat) (last : Bool) : Word :=
  wordOf [(48, 16, if last then 0 else o + 8 * (1 + e.body.length)), (36, 12, e.id), (35, 1, b2n e.dynamic), (34, 1, b2n e.enabled), (24, 8, 1), (0, 16, 8 * (1 + e.body.length))]

section
variable (e : CapEntry) (o : Nat) (last : Bool)

theorem header_next : bits (e.header o last) 48 16 = (if last then 0 else o + 8 * (1 + e.body.length)) % 2 ^ 16 :=
  bits_wordOf_same _ _ _ _ (by decide)

theorem header_id : bits (e.header o last) 36 12 = e.id % 2 ^ 12 := by
  simp [CapEntry.header, bits_wordOf_other, bits_wordOf_same]

theorem header_dynamic : bits (e.header o last) 35 1 = b2n e.dynamic := by
  simp [CapEntry.header, bits_wordOf_other, bits_wordOf_same, Nat.mod_eq_of_lt (b2n_lt_two _)]

theorem header_enabled : bits (e.header o last) 34 1 = b2n e.enabled := by
  simp [CapEntry.header, bits_wordOf_other, bits_wordOf_same, Nat.mod_eq_of_lt (b2n_lt_two _)]

theorem header_reserved : bits (e.header o last) 32 2 = 0 := by
  simp [CapEntry.header, bits_wordOf_other]

theorem header_vmaj : bits (e.header o last) 24 8 = 1 := by
  simp [CapEntry.header, bits_wordOf_other, bits_wordOf_same]

theorem header_vmin : bits (e.header o last) 16 8 = 0 := by
  simp [CapEntry.header, bits_wordOf_other]

theorem header_length : bits (e.header o last) 0 16 = 8 * (1 + e.body.length) % 2 ^ 16 := by
  simp [CapEntry.header, bits_wordOf_other, bits_wordOf_same]

end

/-! The list's words (R50; the entries follow one another without a gap, log entry 42). -/

/-- The words that entries take: a header and a body for each. -/
def capSize (l : List CapEntry) : Nat := (l.map (fun e => 1 + e.body.length)).sum

@[simp] theorem capSize_nil : capSize [] = 0 := rfl

@[simp] theorem capSize_cons (e : CapEntry) (l : List CapEntry) : capSize (e :: l) = 1 + e.body.length + capSize l := by simp [capSize]

@[simp] theorem capSize_append (l m : List CapEntry) : capSize (l ++ m) = capSize l + capSize m := by simp [capSize]

/-- The bytes that entries take, summed entry by entry. -/
theorem foldl_bytes_eq_capSize (l : List CapEntry) : (l.map (fun e => 8 * (1 + e.body.length))).foldl (· + ·) 0 = 8 * capSize l := by
  rw [← List.sum_eq_foldl]
  induction l with
  | nil => rfl
  | cons e r ih =>
    rw [List.map_cons, List.sum_cons, ih, capSize_cons, ← Nat.mul_add]

theorem capWords_cons (o : Nat) (e : CapEntry) (r : List CapEntry) :
    capWords o (e :: r) = e.header o r.isEmpty :: (e.body ++ capWords (o + 8 * (1 + e.body.length)) r) := rfl

theorem length_capWords (l : List CapEntry) (o : Nat) : (capWords o l).length = capSize l := by
  induction l generalizing o with
  | nil => rfl
  | cons e r ih =>
    simp only [capWords_cons, List.length_cons, List.length_append, ih, capSize_cons]
    omega

/-- The words after those of the first entries are the words of the others, from the offset they begin at. -/
theorem drop_capWords (pre l : List CapEntry) (o : Nat) : (capWords o (pre ++ l)).drop (capSize pre) = capWords (o + 8 * capSize pre) l := by
  induction pre generalizing o with
  | nil => rfl
  | cons e r ih =>
    have hskip : capSize (e :: r) = e.body.length + capSize r + 1 := by rw [capSize_cons]; omega
    have hoff : o + 8 * (1 + e.body.length) + 8 * capSize r = o + 8 * (e.body.length + capSize r + 1) := by omega
    rw [List.cons_append, capWords_cons, hskip, List.drop_succ_cons, ← List.drop_drop, List.drop_left, ih, hoff]

theorem capWord_eq (s : State) (k : Nat) : s.capWord (0x100 + 8 * k) = (capWords 0x100 s.capEntries)[k]? := by
  have h : ¬ (0x100 + 8 * k < 0x100 ∨ (0x100 + 8 * k) % 8 ≠ 0) := by omega
  have hk : (0x100 + 8 * k - 0x100) / 8 = k := by omega
  rw [State.capWord, if_neg h, hk, List.head?_drop]

/-- A word stands only at an aligned offset of the list's own span. -/
theorem capWord_some_bound {s : State} {o : Nat} {w : Word} (h : s.capWord o = some w) :
    ∃ k, o = 0x100 + 8 * k ∧ k < capSize s.capEntries := by
  have ho : ¬ (o < 0x100 ∨ o % 8 ≠ 0) := by
    intro ho
    rw [State.capWord, if_pos ho] at h
    cases h
  obtain ⟨k, rfl⟩ : ∃ k, o = 0x100 + 8 * k := ⟨(o - 0x100) / 8, by omega⟩
  rw [capWord_eq] at h
  obtain ⟨hk, -⟩ := List.getElem?_eq_some_iff.mp h
  exact ⟨k, rfl, by rwa [length_capWords] at hk⟩

section
variable {s : State} {pre post : List CapEntry} {e : CapEntry} (h : s.capEntries = pre ++ e :: post)
include h

/-- The words of the list from the header of one entry on. -/
theorem capWord_from_entry (k : Nat) :
    s.capWord (0x100 + 8 * capSize pre + 8 * k) = (capWords (0x100 + 8 * capSize pre) (e :: post))[k]? := by
  rw [Nat.add_assoc, ← Nat.mul_add, capWord_eq, h, ← drop_capWords, List.getElem?_drop]

theorem capWord_header : s.capWord (0x100 + 8 * capSize pre) = some (e.header (0x100 + 8 * capSize pre) post.isEmpty) :=
  capWord_from_entry h 0

theorem capWord_body {k : Nat} {x : Word} (hx : e.body[k]? = some x) : s.capWord (0x100 + 8 * capSize pre + 8 * (k + 1)) = some x := by
  rw [capWord_from_entry h, capWords_cons, List.getElem?_cons_succ, List.getElem?_append_left (List.getElem?_eq_some_iff.mp hx).1, hx]

end

/-! The entries of B0 (R52): how many words they take and their IDs. -/

theorem capSize_capAlways (s : State) : capSize s.capAlways = 28 := rfl

theorem capSize_capLoaded (s : State) : capSize s.capLoaded = 35 := rfl

theorem capSize_capEntries_le (s : State) : capSize s.capEntries ≤ 63 := by
  rw [State.capEntries, capSize_append, capSize_capAlways]
  split
  · exact Nat.le_of_eq (congrArg (28 + ·) (capSize_capLoaded s))
  · decide

theorem ids_capAlways (s : State) : s.capAlways.map CapEntry.id = [1, 2, 3, 4, 5, 6] := rfl

theorem ids_capLoaded (s : State) : s.capLoaded.map CapEntry.id = [7, 8, 9, 10, 11, 12, 13, 14, 15, 16, 17, 18, 19] := rfl

/-- Every ID fits the header's field. -/
theorem id_lt_of_mem_capEntries {s : State} {e : CapEntry} (he : e ∈ s.capEntries) : e.id < 2 ^ 12 := by
  have hids : ∀ n ∈ s.capEntries.map CapEntry.id, n < 2 ^ 12 := by
    rw [State.capEntries, List.map_append, ids_capAlways]
    split
    · rw [ids_capLoaded]
      decide
    · decide
  exact hids _ (List.mem_map_of_mem he)

/-! The I3C commands (R55, R558). -/

/-- An I3C command under a mode that is neither open nor I3C does nothing. -/
theorem exec_ccc_of_other_mode {s : State} (k : CccKind) (h0 : s.mgmt.mode ≠ 0) (h1 : s.mgmt.mode ≠ 1) : exec (.ccc k) s = .next s := by
  have hsel : s.selectMode 1 = s := if_neg h0
  show execCcc k s = .next s
  simp only [execCcc, hsel, if_pos h1, ite_self]

/-- The dynamic address after an I3C command that the port takes: given once (R558, log entry 76). -/
def State.dynAddrAfter (s : State) : CccKind → Nat
  | .setdasa stat dyn => if stat = s.statAddr ∧ s.mgmt.dynAddr = 0 then dyn % 128 else s.mgmt.dynAddr
  | .entdaa dyn => if s.mgmt.dynAddr = 0 then dyn % 128 else s.mgmt.dynAddr
  | .other => s.mgmt.dynAddr

theorem mgmt_selectMode (s : State) (m : Nat) : (s.selectMode m).mgmt = if s.mgmt.mode = 0 then { s.mgmt with mode := m } else s.mgmt := by
  unfold State.selectMode
  split <;> rfl

@[simp] theorem dynAddr_selectMode (s : State) (m : Nat) : (s.selectMode m).mgmt.dynAddr = s.mgmt.dynAddr := by
  rw [mgmt_selectMode]
  split <;> rfl

@[simp] theorem statAddr_selectMode (s : State) (m : Nat) : (s.selectMode m).statAddr = s.statAddr := by
  unfold State.statAddr
  rw [mgmt_selectMode]
  split <;> rfl

theorem mode_selectMode_i3c {s : State} (hm : s.mgmt.mode = 0 ∨ s.mgmt.mode = 1) : (s.selectMode 1).mgmt.mode = 1 := by
  rw [mgmt_selectMode]
  split
  · rfl
  · next h => exact hm.resolve_left h

theorem reg_selectMode_other (s : State) (m : Nat) {a : Nat} (h : a ≠ Reg.CAP_GEN) : (s.selectMode m).reg a = s.reg a := by
  unfold State.selectMode
  split
  · exact reg_wrap_other _ 2 h
  · rfl

/-- The choice of the mode is a change of the capability list (R55). -/
theorem get_capGen_selectMode {s : State} (m : Nat) (h : s.mgmt.mode = 0) :
    (s.selectMode m).get Fld.CAP_GEN_GEN = (s.get Fld.CAP_GEN_GEN + 2) % 2 ^ Fld.CAP_GEN_GEN.n := by
  rw [State.selectMode, if_pos h]
  exact get_wrap_same _ Fld.CAP_GEN_GEN 2 (by decide)

theorem exec_ccc {s : State} (k : CccKind) (hp : s.power.porst = false) (hm : s.mgmt.mode = 0 ∨ s.mgmt.mode = 1) :
    exec (.ccc k) s = .next ((s.selectMode 1).mgmod (fun g => { g with dynAddr := s.dynAddrAfter k })) := by
  have hsel := mode_selectMode_i3c hm
  have hkeep : s.selectMode 1 = (s.selectMode 1).mgmod (fun g => { g with dynAddr := s.mgmt.dynAddr }) := by
    rw [← dynAddr_selectMode s 1]
    rfl
  show execCcc k s = _
  simp only [execCcc, hp, hsel, Bool.false_eq_true, if_false, ne_eq, not_true_eq_false, dynAddr_selectMode, statAddr_selectMode]
  cases k with
  | setdasa stat dyn =>
    simp only [State.dynAddrAfter]
    split
    · rfl
    · exact congrArg _ hkeep
  | entdaa dyn =>
    simp only [State.dynAddrAfter]
    split
    · rfl
    · exact congrArg _ hkeep
  | other => exact congrArg _ hkeep

/-- What an I3C command does while the mode is open or I3C. -/
theorem answers_ccc {s : State} (k : CccKind) (hp : s.power.porst = false) (hm : s.mgmt.mode = 0 ∨ s.mgmt.mode = 1) :
    Answers (exec (.ccc k) s) fun t =>
      t.mgmt.mode = 1 ∧ (s.mgmt.mode = 0 → t.get Fld.CAP_GEN_GEN = (s.get Fld.CAP_GEN_GEN + 2) % 2 ^ Fld.CAP_GEN_GEN.n) ∧
      t.mgmt.dynAddr = s.dynAddrAfter k ∧ RegsBut [Reg.CAP_GEN] s t ∧ SameBut [.regs, .mgmt] s t :=
  ⟨_, exec_ccc k hp hm, mode_selectMode_i3c hm, get_capGen_selectMode 1, rfl,
    fun _ ha => reg_selectMode_other s 1 (by simpa using ha),
    Within.sameBut ((within_selectMode s 1).step (within_mgmod _ _))⟩

/-- An I3C command selects I3C exactly while the mode is open or already I3C. -/
theorem answers_ccc_mode_iff {s : State} (k : CccKind) (hp : s.power.porst = false) :
    Answers (exec (.ccc k) s) (fun t => t.mgmt.mode = 1) ↔ s.mgmt.mode = 0 ∨ s.mgmt.mode = 1 := by
  constructor
  · rintro ⟨t, hnext, hmode⟩
    refine Decidable.byContradiction fun hm => ?_
    obtain ⟨h0, h1⟩ := not_or.mp hm
    rw [exec_ccc_of_other_mode k h0 h1] at hnext
    cases hnext
    exact h1 hmode
  · intro hm
    obtain ⟨t, hnext, hmode, -⟩ := answers_ccc k hp hm
    exact ⟨t, hnext, hmode⟩

/-! A state whose mode is a number that names none. -/

/-- The state after reset, released, its mode none of the three of R558. -/
def unnamedMode : State :=
  { State.reset with
    power := { PowerState.reset with porst := false }
    mgmt := { MgmtState.reset with mode := 3 } }

end Sys2Proof.Machine

open Sys2Proof Sys2Proof.Machine

/-- Settles O6: entry by entry the words split at the entries' sizes, and all the entries together take at most 63 words, so no offset overflows its field. -/
theorem capabilityListWalk : Obligations.CapabilityListWalk := by
  refine ⟨by decide +kernel, fun s => ⟨fun o w ho => ?span, fun pre e post h => ?entry⟩⟩
  case span =>
    obtain ⟨k, rfl, hk⟩ := capWord_some_bound ho
    have hsize := capSize_capEntries_le s
    omega
  case entry =>
    have hid : e.id < 2 ^ 12 := id_lt_of_mem_capEntries (s := s) (by simp [h])
    have hsize : capSize pre + (1 + e.body.length + capSize post) ≤ 63 := by
      rw [← capSize_cons, ← capSize_append, ← h]
      exact capSize_capEntries_le s
    intro at_
    have hat : ∀ l, at_ l = 0x100 + 8 * capSize l := fun l => congrArg (0x100 + ·) (foldl_bytes_eq_capSize l)
    simp only [hat, capSize_append, capSize_cons, capSize_nil]
    refine ⟨_, capWord_header h, by omega, ?_, header_dynamic .., header_enabled .., header_reserved .., header_vmaj .., header_vmin .., ?_,
      fun k x hx => capWord_body h hx, fun hlast => ?last, fun hmore => ?more⟩
    · rw [header_id, Nat.mod_eq_of_lt hid]
    · rw [header_length, Nat.mod_eq_of_lt (by omega)]
    case last =>
      subst hlast
      rw [header_next]
      rfl
    case more =>
      have hne : post.isEmpty = false := by simpa using hmore
      rw [header_next, hne, if_neg Bool.false_ne_true, Nat.mod_eq_of_lt (by omega)]
      omega

/-- Refutes O60, by its first clause: it admits every number but 2 as the mode, and under mode 3, which names none of R558's, an I3C command selects nothing. Under modes 0 and 1 the clause holds (`answers_ccc`). -/
theorem not_managementPorts : ¬ Obligations.ManagementPorts := by
  rintro ⟨hccc, -, -, -⟩
  obtain ⟨t, hnext, hmode, -⟩ := hccc unnamedMode .other rfl (by decide)
  have hnamed : (3 : Nat) = 0 ∨ (3 : Nat) = 1 := (answers_ccc_mode_iff (s := unnamedMode) .other rfl).mp ⟨t, hnext, hmode⟩
  omega

end

section
/-! PROOFS. A command's end on a tile: what the release of a ring's held commits leaves of the statuses (R184, R263). -/

set_option Elab.async false

namespace Sys2Proof.Machine

/-- Every command of `t`'s journal was in `s`'s, and one that had ended there keeps its status. -/
def State.FinsKept (s t : State) : Prop := ∀ i y, t.cmd i = some y → ∃ x, s.cmd i = some x ∧ (x.fin.isSome → y.fin = x.fin)

theorem State.FinsKept.of_journal {s t : State} (h : t.journal = s.journal) : s.FinsKept t :=
  fun i y hy => ⟨y, by unfold State.cmd at *; rw [← h]; exact hy, fun _ => rfl⟩

theorem State.FinsKept.trans {a b c : State} (h : a.FinsKept b) (k : b.FinsKept c) : a.FinsKept c := by
  intro i y hy
  obtain ⟨x, hx, hxy⟩ := k i y hy
  obtain ⟨w, hw, hwx⟩ := h i x hx
  exact ⟨w, hw, fun hfin => (hxy (by rwa [hwx hfin])).trans (hwx hfin)⟩

theorem finsKept_jmod (s : State) (j : Nat) (f : JEntry → JEntry) (hf : ∀ x, s.cmd j = some x → x.fin.isSome → (f x).fin = x.fin) :
    s.FinsKept (s.jmod j f) := by
  intro i y hy
  by_cases hi : i = j
  · subst hi
    rw [cmd_jmod_same] at hy
    obtain ⟨x, hx, rfl⟩ := Option.map_eq_some_iff.mp hy
    exact ⟨x, hx, hf x hx⟩
  · rw [cmd_jmod_other _ _ hi] at hy
    exact ⟨y, hy, fun _ => rfl⟩

theorem finsKept_jdel (s : State) (j : Nat) : s.FinsKept (s.jdel j) := by
  intro i y hy
  have hy' : sfind (serase s.journal j) i = some y := hy
  by_cases hi : i = j
  · subst hi
    rw [sfind_serase_same] at hy'
    cases hy'
  · rw [sfind_serase_other _ hi] at hy'
    exact ⟨y, hy', fun _ => rfl⟩

theorem finsKept_settleOne (s : State) (j : Nat) (e : JEntry) (n : Nat) : s.FinsKept (s.settleOne j e n) := by
  intro i y hy
  rw [cmd_settleOne] at hy
  split at hy
  · next hi =>
    subst hi
    obtain ⟨x, hx, rfl⟩ := Option.map_eq_some_iff.mp hy
    exact ⟨x, hx, fun _ => rfl⟩
  · exact ⟨y, hy, fun _ => rfl⟩

/-- A route job that fails had not ended. -/
theorem finsKept_failRoute (s : State) (j : Nat) : s.FinsKept (s.failRoute j) := by
  unfold State.failRoute
  split
  · next e r he hr =>
    split
    · exact .of_journal rfl
    · next hopen =>
      have hbufs := within_releaseBufs s j (fun _ => true)
      refine .trans ?_ (.of_journal (within_routeMod _ _ _).journal_eq)
      refine .trans ?_ (finsKept_settleOne _ _ _ _)
      refine .trans (.of_journal hbufs.journal_eq) (finsKept_jmod _ _ _ fun x hx hfin => ?_)
      rw [hbufs.cmd_eq, he] at hx
      cases hx
      exact absurd (Or.inr (Or.inl hfin)) hopen
  · exact .of_journal rfl

theorem finsKept_settle (s : State) (j : Nat) (e : JEntry) (n : Nat) : s.FinsKept (s.settle j e n) := by
  unfold State.settle
  dsimp only
  split
  · exact finsKept_settleOne s j e n
  · refine .trans (finsKept_settleOne s j e n) ?_
    unfold State.reportInstance
    refine .trans (.trans (.of_journal ?_) (finsKept_jdel _ j)) (finsKept_failRoute _ _)
    exact (within_routeMod _ _ _).journal_eq

theorem finsKept_settleFrom (l : List (Nat × JEntry)) (s : State) : s.FinsKept (s.settleFrom l) := by
  induction l generalizing s with
  | nil => exact .of_journal rfl
  | cons q r ih =>
    obtain ⟨j, e⟩ := q
    unfold State.settleFrom
    split
    · exact .trans (finsKept_settle s j e _) (ih _)
    · exact .of_journal rfl

/-- A command that had not ended ends with the status given, unless its report to a route job took it out of the journal. -/
theorem ranTo_finish {s : State} {j : Nat} {e : JEntry} (st : Status) (r0 r1 : Word) (h : s.cmd j = some e) (hf : e.fin = none) :
    (s.finish j st r0 r1).RanTo j st := by
  intro y hy
  unfold State.finish at hy
  rw [h] at hy
  simp only [hf, Option.isSome_none, Bool.false_eq_true, if_false] at hy
  generalize hx : (if e.isStream = true then _ else _ : State) = x at hy
  have hjournal : x.journal = (s.jmod j (fun e => { e with fin := some st.num, res0 := r0, res1 := r1, unit := if e.onTile then e.unit else .none })).journal := by
    rw [← hx]
    split
    · exact (within_unpinAll _ j).journal_eq
    · rfl
  have hcmd : x.cmd j = some { e with fin := some st.num, res0 := r0, res1 := r1, unit := if e.onTile then e.unit else .none } := by
    have hx' : x.cmd j = (s.jmod j _).cmd j := congrArg (sfind · j) hjournal
    rw [hx', cmd_jmod_same, h]
    rfl
  have hkept : x.FinsKept (if e.onTile = true then (x.jmod j (fun e => { e with unit := .none })).settleRing e.tileRing else x.settle j { e with fin := some st.num } st.num) := by
    split
    · exact .trans (finsKept_jmod x j (fun e => { e with unit := .none }) fun _ _ _ => rfl) (finsKept_settleFrom _ _)
    · exact finsKept_settle _ _ _ _
  obtain ⟨w, hw, hfin⟩ := hkept j y hy
  rw [hcmd] at hw
  cases hw
  exact hfin rfl

end Sys2Proof.Machine
end

section
/-! PROOFS. Array commands, a MATVEC on either path and a Drover's pass: the rows of each commit block (R95, R120, R129, R161, R256), the array's new shape (R125), armed faults (R143) and the scrubber (R174, R175). -/

set_option Elab.async false

namespace Sys2Proof.Machine

/-! What a row is computed from: memory and the sections of the active image. -/

/-- `t` has the memory and the image's sections of `s`. -/
structure State.SameData (s t : State) : Prop where
  mem : t.mem = s.mem
  sections : t.sections = s.sections

theorem Within.sameData {m : Nat} {s t : State} (h : Within m s t) (hmem : m.testBit 2 = false := by decide) (hsec : m.testBit 11 = false := by decide) :
    s.SameData t := ⟨h.same .mem hmem, h.same .sections hsec⟩

theorem rbs_congr {s t : State} (h : t.mem = s.mem) (a n : Nat) : t.rbs a n = s.rbs a n := by
  induction n generalizing a with
  | zero => rfl
  | succ n ih => simp only [State.rbs, State.rb, h, ih]

theorem section_congr {s t : State} (h : t.sections = s.sections) (i : Nat) : t.section_ i = s.section_ i := by
  unfold State.section_
  rw [h]

theorem fmt_congr {s t : State} (h : t.sections = s.sections) (r : Nat) : t.fmt r = s.fmt r := by
  unfold State.fmt
  rw [section_congr h]

theorem seed_congr {s t : State} (h : t.sections = s.sections) : t.seed = s.seed := by
  unfold State.seed
  rw [section_congr h]

theorem State.SameData.readRow {s t : State} (h : s.SameData t) (p : Nat) (r : FmtRow) (o : OpRef) (n i : Nat) : t.readRow p r o n i = s.readRow p r o n i := by
  simp only [State.readRow, rbs_congr h.mem]

theorem State.SameData.rowKey {s t : State} (h : s.SameData t) (p : Nat) (ws : List Word) (n i : Nat) : t.rowKey p ws n i = s.rowKey p ws n i := by
  simp only [State.rowKey, rbs_congr h.mem, seed_congr h.sections]

theorem State.SameData.arrayRow {s t : State} (h : s.SameData t) (pl p : Nat) (ws : List Word) (runs : List (Nat × Nat)) :
    t.arrayRow pl p ws runs = s.arrayRow pl p ws runs := by
  funext i
  simp only [State.arrayRow, fmt_congr h.sections, h.readRow, h.rowKey]

theorem arrayReads_congr {s t : State} (h : t.sections = s.sections) (ws : List Word) (lead : Bool) (nl a b : Nat) :
    t.arrayReads ws lead nl a b = s.arrayReads ws lead nl a b := by
  simp only [State.arrayReads, fmt_congr h]

/-! Rows put into the scratchpad. -/

/-- Local writes made in the scratchpad of physical tile `p`; granules they cover whole lose their poison. -/
def State.putWrites (s : State) (p : Nat) (l : List (Nat × List Byte)) : State :=
  l.foldl (fun s w => (s.wbs (spKey p w.1) w.2).cleanse (spKey p w.1) w.2.length) s

theorem mem_putWrites (s : State) (p : Nat) (l : List (Nat × List Byte)) :
    (s.putWrites p l).mem = l.foldl (fun m w => memPuts m (spKey p w.1) w.2) s.mem :=
  (List.foldl_hom State.mem fun _ _ => rfl).symm

theorem poison_putWrites_subset (s : State) (p : Nat) (l : List (Nat × List Byte)) : (s.putWrites p l).poison ⊆ s.poison := by
  refine List.foldlRecOn (motive := fun t : State => t.poison ⊆ s.poison) l _ (List.Subset.refl _) fun t ht w _ => ?_
  exact fun g hg => ht (List.mem_filter.mp hg).1

/-- Beside its writes a row changes counters and records alone. -/
theorem within_putRow_of_putWrites (s : State) (p : Nat) (tid : Word) (curve : Nat) (o : RowOut) : Within 2 (s.putWrites p o.writes) (s.putRow p tid curve o) := by
  unfold State.putRow State.putWrites
  extract_lets s1 s2 s3
  have h2 : Within 2 s1 s2 := .foldl (.refl ..) fun _ _ => within_encEvent ..
  have h3 : Within 2 s1 s3 := .ite h2 (.step (.step h2 (within_count ..)) (within_set ..))
  exact .ite h3 (.step h3 (within_count ..))

theorem poison_putRow_subset (s : State) (p : Nat) (tid : Word) (curve : Nat) (o : RowOut) : (s.putRow p tid curve o).poison ⊆ s.poison := by
  have h : (s.putRow p tid curve o).poison = (s.putWrites p o.writes).poison := (within_putRow_of_putWrites s p tid curve o).same .poison (by decide)
  rw [h]
  exact poison_putWrites_subset _ _ _

theorem State.SameData.putRow {s t : State} (h : s.SameData t) (p : Nat) (tid : Word) (curve : Nat) (o : RowOut) :
    (s.putRow p tid curve o).SameData (t.putRow p tid curve o) where
  mem := by
    have hrow : ∀ u : State, (u.putRow p tid curve o).mem = (u.putWrites p o.writes).mem :=
      fun u => (within_putRow_of_putWrites u p tid curve o).same .mem (by decide)
    rw [hrow, hrow, mem_putWrites, mem_putWrites, h.mem]
  sections := by
    have hrow : ∀ u : State, (u.putRow p tid curve o).sections = u.sections := fun u => (within_putRow u p tid curve o).same .sections (by decide)
    rw [hrow, hrow, h.sections]

/-! The rows of a commit block at every member (R129). -/

theorem within_commitMembers (pl : Nat) (ws : List Word) (ms : List Member) (s : State) (b : Nat × Nat × Nat) : Within 14 s (s.commitMembers pl ws ms b) :=
  .foldl (.refl ..) fun _ _ => .foldl (.refl ..) fun _ _ => within_putRow ..

theorem poison_commitMembers_subset (pl : Nat) (ws : List Word) (ms : List Member) (s : State) (b : Nat × Nat × Nat) :
    (s.commitMembers pl ws ms b).poison ⊆ s.poison := by
  refine List.foldlRecOn (motive := fun t : State => t.poison ⊆ s.poison) _ _ (List.Subset.refl _) fun t ht x _ => ?_
  exact List.foldlRecOn (motive := fun u : State => u.poison ⊆ s.poison) _ _ ht fun u hu o _ => List.Subset.trans (poison_putRow_subset ..) hu

theorem State.SameData.commitMembers {s t : State} (h : s.SameData t) (pl : Nat) (ws : List Word) (ms : List Member) (b : Nat × Nat × Nat) :
    (s.commitMembers pl ws ms b).SameData (t.commitMembers pl ws ms b) := by
  simp only [State.commitMembers, h.arrayRow]
  exact List.foldl_rel h fun _ _ _ _ hx => List.foldl_rel hx fun _ _ _ _ ho => ho.putRow ..

theorem State.SameData.foldl_commitMembers {s t : State} (h : s.SameData t) (pl : Nat) (ws : List Word) (ms : List Member) (l : List (Nat × Nat × Nat)) :
    (l.foldl (State.commitMembers pl ws ms) s).SameData (l.foldl (State.commitMembers pl ws ms) t) :=
  List.foldl_rel h fun _ _ _ _ hb => hb.commitMembers ..

/-! The blocks of a command that meets no error (R174, R187). -/

theorem spPoisoned_of_poison_subset {s t : State} (h : t.poison ⊆ s.poison) {p : Nat} {l : List (Nat × Nat)} (hs : s.spPoisoned p l = false) :
    t.spPoisoned p l = false := by
  rw [Bool.eq_false_iff] at *
  intro ht
  refine hs ?_
  obtain ⟨x, hx, hpois⟩ := List.any_eq_true.mp ht
  obtain ⟨hn, hany⟩ := Bool.and_eq_true_iff.mp hpois
  obtain ⟨g, hg, hin⟩ := List.any_eq_true.mp hany
  exact List.any_eq_true.mpr ⟨x, hx, Bool.and_eq_true_iff.mpr ⟨hn, List.any_eq_true.mpr ⟨g, h hg, hin⟩⟩⟩

/-- Block `b` reads no poison at any member. -/
def State.CleanBlock (s : State) (pl : Nat) (ws : List Word) (ms : List Member) (b : Nat × Nat × Nat) : Prop :=
  ∀ m ∈ ms, s.spPoisoned m.p (s.arrayReads ws (m.p == pl) m.cols b.2.1 b.2.2) = false

theorem State.CleanBlock.mono {s t : State} {pl : Nat} {ws : List Word} {ms : List Member} {b : Nat × Nat × Nat} (h : s.CleanBlock pl ws ms b)
    (hp : t.poison ⊆ s.poison) (hs : t.sections = s.sections) : t.CleanBlock pl ws ms b := by
  intro m hm
  rw [arrayReads_congr hs]
  exact spPoisoned_of_poison_subset hp (h m hm)

/-- A block that has not committed and reads no poison commits its rows. -/
theorem runArrayBlocks_cons {s : State} {j pl : Nat} {ws : List Word} {ms : List Member} {b : Nat × Nat × Nat} {e : JEntry} (h : s.cmd j = some e)
    (hb : nmem e.blocks b.1 = false) (hc : s.CleanBlock pl ws ms b) (r : List (Nat × Nat × Nat)) :
    s.runArrayBlocks j pl ws ms none (b :: r) =
      ((s.commitMembers pl ws ms b).jmod j (fun e => { e with blocks := nadd e.blocks b.1 })).runArrayBlocks j pl ws ms none r := by
  obtain ⟨i, lo, hi⟩ := b
  have hset : s.cmdIs j (fun e => nmem e.blocks i) = false := by
    unfold State.cmdIs
    rw [h]
    exact hb
  have hpois : ms.any (fun m => s.spPoisoned m.p (s.arrayReads ws (m.p == pl) m.cols lo hi)) = false :=
    List.any_eq_false.mpr fun m hm => Bool.eq_false_iff.mp (hc m hm)
  rw [State.runArrayBlocks, hset, hpois]
  rfl

/-- Blocks none of which has committed or reads poison commit in order, and the command ends OK. -/
theorem runArrayBlocks_commits {j pl : Nat} {ws : List Word} {ms : List Member} (l : List (Nat × Nat × Nat)) (hl : (l.map (·.1)).Nodup) :
    ∀ {s : State} {e : JEntry}, s.cmd j = some e → e.fin = none → (∀ b ∈ l, nmem e.blocks b.1 = false) → (∀ b ∈ l, s.CleanBlock pl ws ms b) →
      (s.runArrayBlocks j pl ws ms none l).RanTo j .ok ∧ ∀ x, (s.runArrayBlocks j pl ws ms none l).rb x = (l.foldl (State.commitMembers pl ws ms) s).rb x := by
  induction l with
  | nil =>
    intro s e h hf _ _
    exact ⟨ranTo_finish .ok 0 0 h hf, fun x => (within_finish s j .ok 0 0).rb_eq x⟩
  | cons b r ih =>
    intro s e h hf hset hclean
    obtain ⟨hnew, hr⟩ := List.nodup_cons.mp hl
    have hw := within_commitMembers pl ws ms s b
    rw [runArrayBlocks_cons h (hset b (List.mem_cons_self ..)) (hclean b (List.mem_cons_self ..))]
    obtain ⟨hran, hrb⟩ := ih hr (s := (s.commitMembers pl ws ms b).jmod j (fun e => { e with blocks := nadd e.blocks b.1 }))
      (e := { e with blocks := nadd e.blocks b.1 }) (by rw [cmd_jmod_same, hw.cmd_eq, h]; rfl) hf
      (fun c hc => by
        have hne : c.1 ≠ b.1 := fun heq => hnew (List.mem_map.mpr ⟨c, hc, heq⟩)
        rw [nmem_nadd, hset c (List.mem_cons_of_mem _ hc), Bool.false_or]
        exact beq_false_of_ne hne)
      (fun c hc => (hclean c (List.mem_cons_of_mem _ hc)).mono (poison_commitMembers_subset pl ws ms s b) (hw.same .sections (by decide)))
    refine ⟨hran, fun x => (hrb x).trans ?_⟩
    have hdata := (within_jmod (s.commitMembers pl ws ms b) j (fun e => { e with blocks := nadd e.blocks b.1 })).sameData.foldl_commitMembers pl ws ms r
    exact congrArg (fun m => sget unwritten m x) hdata.mem

theorem numsFrom_eq_range' (a n : Nat) : numsFrom a n = List.range' a n := by
  induction n generalizing a with
  | zero => rfl
  | succ n ih => rw [numsFrom, ih, List.range'_succ]

/-- The commit blocks of a command are numbered one by one (R187). -/
theorem nodup_commitBlocks (inPlace : Bool) (m : Nat) : ((commitBlocks inPlace m).map (·.1)).Nodup := by
  unfold commitBlocks
  split
  · rw [List.map_map, numsFrom_eq_range']
    exact (List.map_id' _).symm ▸ List.nodup_range'
  · exact List.nodup_cons.mpr ⟨List.not_mem_nil, List.nodup_nil⟩

/-- A command on a tile none of whose blocks has committed, brought to its blocks by changes of counters, armed faults and free values alone, commits its blocks from the memory it began with. -/
theorem commits_of_within {s u : State} {j p : Nat} {e : JEntry} {ms : List Member} (hr : s.Runs j e p) (hb : e.blocks = [])
    (hc : ∀ b ∈ commitBlocks (tEc e.words == 1) e.rowCount, s.CleanBlock p e.words ms b) (hu : Within 262147 s u) :
    let t := u.runArrayBlocks j p e.words ms none (commitBlocks (tEc e.words == 1) e.rowCount)
    t.RanTo j .ok ∧ ∀ x, t.rb x = ((commitBlocks (tEc e.words == 1) e.rowCount).foldl (State.commitMembers p e.words ms) s).rb x := by
  have hpoison : u.poison ⊆ s.poison := fun g hg => (hu.same .poison (by decide) : u.poison = s.poison) ▸ hg
  obtain ⟨hran, hrb⟩ := runArrayBlocks_commits (j := j) (pl := p) (ws := e.words) (ms := ms) _ (nodup_commitBlocks (tEc e.words == 1) e.rowCount)
    ((hu.cmd_eq j).trans hr.entry) hr.unended (fun b _ => by rw [hb]; rfl) (fun b hm => (hc b hm).mono hpoison hu.sameData.sections)
  exact ⟨hran, fun x => (hrb x).trans (congrArg (fun m => sget unwritten m x) (hu.sameData.foldl_commitMembers p e.words ms _).mem)⟩

/-! The array's run and the fallback's, without errors or faults. -/

theorem spErrors_none (s : State) (p : Nat) : s.spErrors p ⟨[], []⟩ = s := rfl

/-- A command on the array without memory errors or failing passes comes to its blocks with counters, armed faults and free values changed alone (R120, R143). -/
theorem runArray_eq_runArrayBlocks {obs : ArrayObs} (hf : obs.faults = []) (he : obs.ecc = ⟨[], []⟩) (s : State) (j t p : Nat) (e : JEntry) :
    ∃ u, Within 262147 s u ∧ s.runArray j t p e obs =
      u.runArrayBlocks j p e.words (s.arrayMembers t e.words (s.get (Fld.TILE_ARRSTAT_SHAPE p))) none (commitBlocks (tEc e.words == 1) e.rowCount) := by
  unfold State.runArray
  rw [hf, he]
  simp only [spErrors_none, State.arrayFaults, Option.map_none]
  refine ⟨_, ?_, rfl⟩
  refine .foldl ?_ fun x m => ?_
  · split
    · exact .foldl (.refl ..) fun _ _ => within_useInjection ..
    · exact .refl ..
  · refine .step ?_ (within_count ..)
    refine .step ?_ (within_count ..)
    refine .step ?_ (within_count ..)
    refine .step ?_ (within_count ..)
    refine .step ?_ (within_count ..)
    refine .step ?_ (within_count ..)
    exact .refl ..

/-- A MATVEC on the fallback without memory errors or failing comparisons comes to its blocks with counters changed alone (R161 to R166). -/
theorem runFallback_eq_runArrayBlocks {obs : EltObs} (hf : obs.faults = []) (he : obs.ecc = ⟨[], []⟩) (s : State) (j p : Nat) (e : JEntry) :
    ∃ u, Within 262147 s u ∧ s.runFallback j p e obs =
      u.runArrayBlocks j p e.words [⟨p, [(0, tN e.words)]⟩] none (commitBlocks (tEc e.words == 1) e.rowCount) := by
  unfold State.runFallback
  rw [hf, he]
  simp only [spErrors_none, State.euFaults]
  refine ⟨_, ?_, rfl⟩
  refine .step ?_ (within_count ..)
  refine .step ?_ (within_count ..)
  refine .step ?_ (within_count ..)
  refine .step ?_ (within_count ..)
  exact .refl ..

theorem State.Runs.runsOn {s : State} {j p : Nat} {e : JEntry} (h : s.Runs j e p) {k : JEntry → Bool} (hk : k e = true) : s.runsOn j k = some (e, p) := by
  simp [State.runsOn, h.entry, h.tile, h.onTile, h.state, h.unended, h.live, h.up, hk]

/-- A command that runs on an array in its shape runs there in its passes. -/
theorem State.Runs.arrayRun {s : State} {j p : Nat} {e : JEntry} (h : s.Runs j e p) (hu : e.unit = .array)
    (hs : s.flag (Fld.TILE_ARRSTAT_RESHAPING p) = false) (obs : ArrayObs) {k : JEntry → Bool} (hk : k e = true) : s.arrayRun j obs k = s.runArray j e.tile p e obs := by
  have hon : s.runsOn j (fun e => e.unit == .array && k e) = some (e, p) := h.runsOn (by simp [hu, hk])
  simp only [State.arrayRun, hon, hs, Bool.false_eq_true, if_false]

theorem exec_array (s : State) (j : Nat) (obs : ArrayObs) : exec (.array j obs) s = .next (s.arrayRun j obs (fun e => e.kind == 1)) := rfl

theorem exec_expertPass_matrix {s : State} {j p : Nat} {e : JEntry} (h : s.Runs j e p) (hk : e.kind = 2) (ho : e.op = 0) (obs : ArrayObs) (elt : EltObs) :
    exec (.expertPass j obs elt) s = .next (s.arrayRun j obs (fun e => e.kind == 2)) := by
  have hon : s.runsOn j (fun e => e.kind == 2) = some (e, p) := h.runsOn (by simp [hk])
  show execExpertPass j obs elt s = _
  simp only [execExpertPass, hon, ho, if_true]

theorem exec_matvec_array {s : State} {j p : Nat} {e : JEntry} (h : s.Runs j e p) (hm : e.isMatvec = true) (hu : e.unit = .array) (obs : ArrayObs) (elt : EltObs) :
    exec (.matvec j obs elt) s = .next (s.arrayRun j obs (fun e => e.isMatvec)) := by
  show execMatvec j obs elt s = _
  simp only [execMatvec, h.runsOn hm, hu, reduceCtorEq, if_false]

theorem exec_matvec_fallback {s : State} {j p : Nat} {e : JEntry} (h : s.Runs j e p) (hm : e.isMatvec = true) (hu : e.unit = .element) (arr : ArrayObs) (obs : EltObs) :
    exec (.matvec j arr obs) s = .next (s.runFallback j p e obs) := by
  show execMatvec j arr obs s = _
  simp only [execMatvec, h.runsOn hm, hu, if_true]

/-! Folds that leave a trace of each element. -/

/-- What the step of element `x` brings about and no step undoes holds after a fold over `x`. -/
theorem foldl_of_mem {σ α : Type} {f : σ → α → σ} {P : σ → Prop} {x : α} (made : ∀ t, P (f t x)) (kept : ∀ t y, P t → P (f t y)) {l : List α} (hx : x ∈ l) (s : σ) :
    P (l.foldl f s) := by
  obtain ⟨l₁, l₂, rfl⟩ := List.append_of_mem hx
  rw [List.foldl_append, List.foldl_cons]
  exact List.foldlRecOn (motive := P) l₂ f (made _) fun t ht y _ => kept t y ht

/-! The array takes its new shape (R125). -/

/-- A counter's step changes no field of another register, or with no bit in common. -/
theorem get_count_other (s : State) (f g : Fld) (k : Nat) (h : g.reg ≠ f.reg ∨ g.lo + g.n ≤ f.lo ∨ f.lo + f.n ≤ g.lo) : (s.count f k).get g = s.get g :=
  get_set_other s f g _ h

/-- Physical tile `q` takes shape `v` for its array and counts the change. -/
def State.takeShape (v : Nat) (s : State) (q : Nat) : State :=
  ((s.setFlag (Fld.TILE_ARRSTAT_RESHAPING q) false).set (Fld.TILE_ARRSTAT_SHAPE q) v).count (Fld.TILE_ARRSHP_COUNT q) 1

/-- The array of physical tile `q` stands in shape `v`. -/
def State.HasShape (q v : Nat) (s : State) : Prop := s.flag (Fld.TILE_ARRSTAT_RESHAPING q) = false ∧ s.get (Fld.TILE_ARRSTAT_SHAPE q) = v % 4

theorem get_takeShape_other (v : Nat) (s : State) (q : Nat) {f : Fld} (h : f.reg ≠ Reg.TILE_ARRSTAT q) (hc : f.reg ≠ Reg.TILE_ARRSHP q) :
    (s.takeShape v q).get f = s.get f := by
  unfold State.takeShape State.setFlag
  rw [get_count_other _ _ _ _ (.inl hc), get_set_other _ _ _ _ (.inl h), get_set_other _ _ _ _ (.inl h)]

theorem arrstat_ne_arrshp (q r : Nat) : Reg.TILE_ARRSTAT q ≠ Reg.TILE_ARRSHP r := by
  simp only [Reg.TILE_ARRSTAT, Reg.TILE_ARRSHP]
  omega

theorem hasShape_takeShape (v : Nat) (s : State) (q : Nat) : (s.takeShape v q).HasShape q v := by
  unfold State.takeShape State.HasShape State.flag
  rw [get_count_other _ _ _ _ (.inl (arrstat_ne_arrshp q q)), get_count_other _ _ _ _ (.inl (arrstat_ne_arrshp q q))]
  constructor
  · rw [get_set_other _ _ _ _ (.inr (.inr (show 0 + 2 ≤ 9 by decide)))]
    exact flag_setFlag_same s (Fld.TILE_ARRSTAT_RESHAPING q) false (show 9 + 1 ≤ 64 by decide) Nat.one_pos
  · exact get_set_same _ _ _ (show 0 + 2 ≤ 64 by decide)

theorem State.HasShape.takeShape {q v : Nat} {s : State} (h : s.HasShape q v) (r : Nat) : (s.takeShape v r).HasShape q v := by
  by_cases hq : q = r
  · exact hq ▸ hasShape_takeShape v s q
  · have hreg : Reg.TILE_ARRSTAT q ≠ Reg.TILE_ARRSTAT r := by
      simp only [Reg.TILE_ARRSTAT]
      omega
    unfold State.HasShape State.flag
    rw [get_takeShape_other v s r (f := Fld.TILE_ARRSTAT_RESHAPING q) hreg (arrstat_ne_arrshp q r),
      get_takeShape_other v s r (f := Fld.TILE_ARRSTAT_SHAPE q) hreg (arrstat_ne_arrshp q r)]
    exact h

theorem within_takeShape (v : Nat) (s : State) (q : Nat) : Within 2 s (s.takeShape v q) :=
  .step (.step (within_setFlag ..) (within_set ..)) (within_count ..)

theorem exec_reForming {s : State} {t p j : Nat} {e : JEntry} (ht : t < 64) (hp : s.phys t = some p) (hr : s.flag (Fld.TILE_ARRSTAT_RESHAPING p) = true)
    (hj : s.journal.find? (fun x => x.2.onTile && x.2.tile == t && x.2.fin.isNone && x.2.unit == .array) = some (j, e)) :
    exec (.reForming t) s = .next (((s.yokeMembers t).filterMap s.phys).foldl (State.takeShape (s.shapeFor p e.words)) s) := by
  show execReForming t s = _
  unfold execReForming
  rw [if_neg (by omega), hp, hj]
  simp only [hr, not_true_eq_false, if_false]
  rfl

/-! An armed fault (R143). -/

theorem exec_tileArrInj {s : State} {p : Nat} (hp : p < 68) (hpor : s.power.porst = false) (src : RegSrc) (v : BitVec 32) :
    exec (.tileArrInj src p v) s = .next (s.serialWrite src (Reg.TILE_ARRINJ p) 4 (BitVec.ofNat 64 v.toNat)) := by
  show execTileArrInj src p v s = _
  rw [execTileArrInj, if_neg (by omega), State.write32, State.write, if_neg (by simp [hpor])]

/-- The state with the read latch of a writer's master discarded (R49). -/
def State.unlatch (s : State) (src : RegSrc) : State :=
  match srcMaster src with
  | some m => s.dropLatch m
  | none => s

theorem within_unlatch (s : State) (src : RegSrc) : Within 128 s (s.unlatch src) := by
  unfold State.unlatch
  split
  · exact within_dropLatch ..
  · exact .refl ..

theorem place_unlatch (s : State) (src : RegSrc) (a : Nat) : (s.unlatch src).place a = s.place a := by
  unfold State.unlatch
  split
  · exact place_dropLatch ..
  · rfl

theorem word_of_bitVec32 (v : BitVec 32) : BitVec.ofNat 64 v.toNat &&& 0xFFFFFFFF = BitVec.ofNat 64 v.toNat := by
  apply BitVec.eq_of_toNat_eq
  have hv : v.toNat % 2 ^ 64 = v.toNat := Nat.mod_eq_of_lt (by omega)
  rw [BitVec.toNat_and, BitVec.toNat_ofNat, hv]
  exact (Nat.and_two_pow_sub_one_eq_mod v.toNat 32).trans (Nat.mod_eq_of_lt v.isLt)

/-- An aligned write of 4 bytes is one write of one register. -/
theorem serialWrite_word (s : State) (src : RegSrc) {a : Nat} (ha : a % 4 = 0) (v : BitVec 32) :
    s.serialWrite src a 4 (BitVec.ofNat 64 v.toNat) = (s.unlatch src).writeOne src a 4 (BitVec.ofNat 64 v.toNat) := by
  cases hm : srcMaster src <;>
    simp only [State.serialWrite, State.unlatch, hm, ha, ne_eq, not_true_eq_false, false_and, or_self, if_false, if_true, word_of_bitVec32, show ¬ (4 : Nat) = 8 by decide]

/-- A 4-byte write of a register at a multiple of 8 that has a field to write has the register's effect and is recorded. -/
theorem writeOne_word {s : State} {a : Nat} {r : RegSpec} (h : s.place a = .at a r) (hw : r.fields.any (fun f => f.acc.writable) = true) (ha : a % 8 = 0)
    (src : RegSrc) (v : BitVec 32) :
    ∃ c, s.writeOne src a 4 (BitVec.ofNat 64 v.toNat) = (s.regEffect a r (mask64 0 32) (BitVec.ofNat 64 v.toNat)).1.record_ c := by
  have hdata : (BitVec.ofNat 64 v.toNat <<< 0) &&& mask64 0 32 = BitVec.ofNat 64 v.toNat := by
    rw [BitVec.shiftLeft_zero]
    exact word_of_bitVec32 v
  unfold State.writeOne
  simp only [h, hw, ha, if_true, show ¬ (0 : Nat) = 4 by decide, and_false, if_false, hdata]
  exact ⟨_, rfl⟩

theorem regSpecAt_arrInj : ∀ p : Fin 68,
    (regSpecAt (Reg.TILE_ARRINJ p)).map (fun x => (x.2, x.1.fields.any (fun f => f.acc.writable))) = some (Reg.TILE_ARRINJ p, true) := by
  decide +kernel

theorem place_arrInj {s : State} {p : Nat} (hp : p < 68) (hu : s.unavailable (Reg.TILE_ARRINJ p) = false) :
    ∃ r, s.place (Reg.TILE_ARRINJ p) = .at (Reg.TILE_ARRINJ p) r ∧ r.fields.any (fun f => f.acc.writable) = true := by
  obtain ⟨⟨r, b⟩, hr, heq⟩ := Option.map_eq_some_iff.mp (regSpecAt_arrInj ⟨p, hp⟩)
  obtain ⟨rfl, hw⟩ := Prod.mk.inj heq
  have hlow : 0x800000 ≤ Reg.TILE_ARRINJ p ∧ Reg.TILE_ARRINJ p < 0x1000000 := by
    simp only [Reg.TILE_ARRINJ]
    omega
  have hlisted : s.listedAt (Reg.TILE_ARRINJ p) = some (Reg.TILE_ARRINJ p, r) := by
    unfold State.listedAt
    rw [if_neg (by omega), if_neg (by omega), if_neg (by omega)]
    simp only at hr
    rw [hr]
    rfl
  refine ⟨r, ?_, hw⟩
  unfold State.place
  rw [if_neg (by omega), hlisted]
  simp only [hu, Bool.false_eq_true, if_false]

theorem regEffect_arrInj (s : State) (p : Nat) (r : RegSpec) (m d : Word) : (s.regEffect (Reg.TILE_ARRINJ p) r m d).1 = s.armInjection p d := by
  have ho : Reg.TILE_ARRINJ p - 0x800000 = 0x2058 + 0x10000 * p := by
    simp only [Reg.TILE_ARRINJ]
    omega
  have hmod : (0x2058 + 0x10000 * p) % 0x10000 = 0x2058 := by omega
  have hdiv : (0x2058 + 0x10000 * p) / 0x10000 = p := by omega
  unfold State.regEffect
  dsimp only
  rw [if_pos (by simp only [Reg.TILE_ARRINJ]; omega), ho, State.tileEffect, if_pos hmod, hdiv]

/-- A write to TILE_ARRINJ arms or disarms the tile's fault and is recorded. -/
theorem serialWrite_arrInj {s : State} {p : Nat} (hp : p < 68) (hu : s.unavailable (Reg.TILE_ARRINJ p) = false) (src : RegSrc) (v : BitVec 32) :
    ∃ c, s.serialWrite src (Reg.TILE_ARRINJ p) 4 (BitVec.ofNat 64 v.toNat) = ((s.unlatch src).armInjection p (BitVec.ofNat 64 v.toNat)).record_ c := by
  obtain ⟨r, hplace, hw⟩ := place_arrInj hp hu
  have h8 : Reg.TILE_ARRINJ p % 8 = 0 := by
    simp only [Reg.TILE_ARRINJ]
    omega
  obtain ⟨c, hc⟩ := writeOne_word ((place_unlatch s src _).trans hplace) hw h8 src v
  refine ⟨c, ?_⟩
  rw [serialWrite_word s src (by omega) v, hc, regEffect_arrInj]

theorem bits_ofNat (x lo n : Nat) (hx : x < 2 ^ 64) : bits (BitVec.ofNat 64 x) lo n = x / 2 ^ lo % 2 ^ n := by
  unfold bits
  rw [BitVec.extractLsb'_toNat, BitVec.toNat_ofNat, Nat.mod_eq_of_lt hx, Nat.shiftRight_eq_div_pow]

theorem sfind_armInjection (s : State) (p : Nat) (v : BitVec 32) :
    sfind (s.armInjection p (BitVec.ofNat 64 v.toNat)).arrInj p = if v.getLsbD 21 then some (v.toNat / 2 ^ 10 % 2 ^ 10, v.toNat % 2 ^ 10) else none := by
  have hv : v.toNat < 2 ^ 64 := by
    have := v.isLt
    omega
  have hbit : bit (BitVec.ofNat 64 v.toNat) 21 = v.getLsbD 21 := by
    simp [bit]
  unfold State.armInjection
  rw [hbit, bits_ofNat _ _ _ hv, bits_ofNat _ _ _ hv]
  split
  · rw [sfind_sinsert_same]
    simp
  · exact sfind_serase_same _ _

/-! The scrubber (R174, R175). -/

theorem get_spErrors {p : Nat} {f : Fld} (hc : f.reg ≠ Reg.TILE_SPCE p) (hu : f.reg ≠ Reg.TILE_SPUE p) (s : State) (e : EccObs) : (s.spErrors p e).get f = s.get f := by
  have hpoison : ∀ (t : State) (g : Nat), (t.poisonGranule g).get f = t.get f := fun _ _ => rfl
  unfold State.spErrors
  refine List.foldlRecOn (motive := fun t : State => t.get f = s.get f) _ _ ?_ fun t ht o _ => ?_
  · refine List.foldlRecOn (motive := fun t : State => t.get f = s.get f) _ _ rfl fun t ht o _ => ?_
    rw [get_set_other _ _ _ _ (.inl hc), get_set_other _ _ _ _ (.inl hc), get_count_other _ _ _ _ (.inl hc), ht]
  · rw [hpoison, get_set_other _ _ _ _ (.inl hu), get_set_other _ _ _ _ (.inl hu), get_count_other _ _ _ _ (.inl hu), ht]

/-- The granule of an uncorrectable error is poisoned. -/
theorem poison_spErrors (s : State) (p : Nat) (e : EccObs) {o : Nat} (ho : o ∈ e.uncorrectable) : nmem (s.spErrors p e).poison (spKey p o / 32) = true := by
  unfold State.spErrors
  refine foldl_of_mem (P := fun t : State => nmem t.poison (spKey p o / 32) = true) (fun t => ?_) (fun t y ht => ?_) ho _
  · exact (nmem_nadd ..).trans (by rw [beq_self_eq_true, Bool.or_true])
  · refine (nmem_nadd ..).trans ?_
    rw [Bool.or_eq_true]
    exact .inl ht

/-- The errors that lie in one row across the banks. -/
def errorsInRow (e : EccObs) (row : Nat) : EccObs := ⟨e.corrected.filter (fun o => o / 1024 == row), e.uncorrectable.filter (fun o => o / 1024 == row)⟩

/-- The scrubber's place after a row: the next one, or the first and one pass more. -/
def State.scrubNext (s : State) (p row : Nat) : State :=
  if 15360 ≤ row + 1 then (s.set (Fld.TILE_SPSCRUB_NEXT p) 0).count (Fld.TILE_SPSCRUB_PASSES p) 1 else s.set (Fld.TILE_SPSCRUB_NEXT p) (row + 1)

theorem exec_scrub {s : State} {p : Nat} (hp : p < 68) (hl : s.live = true) (hs : s.flag (Fld.TILE_SPCTL_SCRUB p) = true) (obs : EccObs) :
    exec (.scrub p obs) s =
      .next ((s.spErrors p (errorsInRow obs (s.get (Fld.TILE_SPSCRUB_NEXT p)))).scrubNext p (s.get (Fld.TILE_SPSCRUB_NEXT p))) := by
  show execScrub p obs s = _
  unfold execScrub State.scrubNext
  rw [if_neg (by omega)]
  simp only [hl, hs, not_true_eq_false, or_self, if_false, apply_ite Host.Outcome.next]
  rfl

theorem within_scrubNext (s : State) (p row : Nat) : Within 2 s (s.scrubNext p row) :=
  .ite (.step (within_set ..) (within_count ..)) (within_set ..)

theorem get_scrubNext_next (s : State) (p row : Nat) : (s.scrubNext p row).get (Fld.TILE_SPSCRUB_NEXT p) = if 15360 ≤ row + 1 then 0 else row + 1 := by
  unfold State.scrubNext
  split
  · rw [get_count_other _ _ _ _ (.inr (.inl (show 0 + 14 ≤ 32 by decide))), get_set_same _ _ _ (show 0 + 14 ≤ 64 by decide)]
    rfl
  · next h =>
    rw [get_set_same _ _ _ (show 0 + 14 ≤ 64 by decide)]
    exact Nat.mod_eq_of_lt (show row + 1 < 2 ^ 14 by omega)

theorem get_lt (s : State) (f : Fld) : s.get f < 2 ^ f.n := BitVec.isLt _

theorem get_scrubNext_passes (s : State) (p row : Nat) :
    (s.scrubNext p row).get (Fld.TILE_SPSCRUB_PASSES p) = min (2 ^ 32 - 1) (s.get (Fld.TILE_SPSCRUB_PASSES p) + if 15360 ≤ row + 1 then 1 else 0) := by
  have hother : ∀ v, (s.set (Fld.TILE_SPSCRUB_NEXT p) v).get (Fld.TILE_SPSCRUB_PASSES p) = s.get (Fld.TILE_SPSCRUB_PASSES p) :=
    fun v => get_set_other _ (Fld.TILE_SPSCRUB_NEXT p) _ _ (.inr (.inr (show 0 + 14 ≤ 32 by decide)))
  unfold State.scrubNext
  split
  · rw [get_count_same _ _ _ (show 32 + 32 ≤ 64 by decide), hother]
    rfl
  · have hlt : s.get (Fld.TILE_SPSCRUB_PASSES p) < 2 ^ 32 := get_lt s _
    rw [hother]
    omega

end Sys2Proof.Machine

open Sys2Proof Sys2Proof.Machine

/-- Settles O20: on either path a clean run reaches its commit blocks with only counters, armed faults and free values changed, and the blocks commit one by one; the array's registers, TILE_ARRINJ and the scrubber's row are read back from what was written. -/
theorem arrayCommandsAndFaults : Obligations.ArrayCommandsAndFaults := by
  refine ⟨⟨?array, ?fallback, ?reForming⟩, ?inject, ?scrub⟩
  case array =>
    intro s j p e obs hr _ hunit hshape hblocks hfaults hecc ms hclean done
    obtain ⟨u, hu, hrun⟩ := runArray_eq_runArrayBlocks hfaults hecc s j e.tile p e
    have hdone : ∀ k : JEntry → Bool, k e = true → done (.next (s.arrayRun j obs k)) := fun k hk =>
      ⟨_, rfl, by rw [hr.arrayRun hunit hshape obs hk, hrun]; exact commits_of_within hr hblocks hclean hu⟩
    refine ⟨fun hk => ?_, fun elt hk ho => ?_, fun elt hm => ?_⟩
    · rw [exec_array]
      exact hdone _ (by simp [hk])
    · rw [exec_expertPass_matrix hr hk ho]
      exact hdone _ (by simp [hk])
    · rw [exec_matvec_array hr hm hunit]
      exact hdone _ hm
  case fallback =>
    intro s j p e arr obs hr _ hunit hm hblocks hfaults hecc ms hclean
    obtain ⟨u, hu, hrun⟩ := runFallback_eq_runArrayBlocks hfaults hecc s j p e
    refine ⟨_, exec_matvec_fallback hr hm hunit arr obs, ?_⟩
    rw [hrun]
    exact commits_of_within hr hblocks hclean hu
  case reForming =>
    intro s t p j e ht hp hreshaping hj
    refine ⟨_, exec_reForming ht hp hreshaping hj, fun m hm q hq _ => ?_, Within.sameBut (m := 2) (.foldl (.refl ..) fun _ _ => within_takeShape ..)⟩
    exact foldl_of_mem (P := State.HasShape q (s.shapeFor p e.words)) (fun t => hasShape_takeShape _ t q) (fun t r ht => ht.takeShape r)
      (List.mem_filterMap.mpr ⟨m, hm, hq⟩) s
  case inject =>
    intro s src p v hp hpor hu
    obtain ⟨c, hc⟩ := serialWrite_arrInj hp hu src v
    refine ⟨_, (exec_tileArrInj hp hpor src v).trans (congrArg Host.Outcome.next hc), sfind_armInjection (s.unlatch src) p v, ?_⟩
    exact Within.sameBut (m := 262530) (.step (.step ((within_unlatch s src).mono (by decide)) (within_armInjection ..)) (within_record_ ..))
  case scrub =>
    intro s p obs hp hl hs row
    have hnext := within_scrubNext (s.spErrors p (errorsInRow obs row)) p row
    have hall : Within 10 s ((s.spErrors p (errorsInRow obs row)).scrubNext p row) := .step (within_spErrors ..) hnext
    refine ⟨_, exec_scrub hp hl hs obs, get_scrubNext_next .., ?_, fun o ho hrow => ?_, hall.same .mem (by decide), hall.sameBut⟩
    · rw [get_scrubNext_passes, get_spErrors (f := Fld.TILE_SPSCRUB_PASSES p)]
      · simp only [Fld.TILE_SPSCRUB_PASSES, Reg.TILE_SPSCRUB, Reg.TILE_SPCE]
        omega
      · simp only [Fld.TILE_SPSCRUB_PASSES, Reg.TILE_SPSCRUB, Reg.TILE_SPUE]
        omega
    · have hpoison : ((s.spErrors p (errorsInRow obs row)).scrubNext p row).poison = (s.spErrors p (errorsInRow obs row)).poison := hnext.same .poison (by decide)
      rw [hpoison]
      exact poison_spErrors _ _ _ (List.mem_filter.mpr ⟨ho, beq_iff_eq.mpr hrow⟩)

end

section
/-! PROOFS. The element unit's operations: the rows of each commit block, for the elementwise operations and REDUCE (R149 to R153) and the whole-row operations (R155 to R160). -/

set_option Elab.async false

namespace Sys2Proof.Machine

/-! What an output row of the element unit is computed from (R149 to R160). -/

theorem State.SameData.symm {s t : State} (h : s.SameData t) : t.SameData s := ⟨h.mem.symm, h.sections.symm⟩

theorem State.SameData.trans {s t u : State} (h : s.SameData t) (k : t.SameData u) : s.SameData u := ⟨k.mem.trans h.mem, k.sections.trans h.sections⟩

theorem curve_congr {s t : State} (h : t.sections = s.sections) (c : Nat) : t.curve c = s.curve c := by
  unfold State.curve
  rw [section_congr h]

theorem State.SameData.readFlex {s t : State} (h : s.SameData t) (p : Nat) (r : FmtRow) (o : OpRef) (n i : Nat) : t.readFlex p r o n i = s.readFlex p r o n i := by
  simp only [State.readFlex, State.readElt, rbs_congr h.mem, h.readRow]

theorem State.SameData.visible {s t : State} (h : s.SameData t) (p : Nat) (ws : List Word) (i : Nat) : t.visible p ws i = s.visible p ws i := by
  simp only [State.visible, State.rb, rbs_congr h.mem, h.mem]

theorem State.SameData.attnState {s t : State} (h : s.SameData t) (p : Nat) (o : OpRef) (i : Nat) : t.attnState p o i = s.attnState p o i := by
  simp only [State.attnState, rbs_congr h.mem]

theorem State.SameData.eltRow {s t : State} (h : s.SameData t) (p : Nat) (ws : List Word) (op i : Nat) : t.eltRow p ws op i = s.eltRow p ws op i := by
  simp only [State.eltRow, fmt_congr h.sections, curve_congr h.sections, h.readRow, h.readFlex, h.rowKey, h.visible, h.attnState]

theorem eltReads_congr {s t : State} (h : t.sections = s.sections) (ws : List Word) (op a b : Nat) : t.eltReads ws op a b = s.eltReads ws op a b := by
  simp only [State.eltReads, fmt_congr h]

/-! The rows of a commit block (R187). -/

theorem mem_putRow (s : State) (p : Nat) (tid : Word) (curve : Nat) (o : RowOut) : (s.putRow p tid curve o).mem = (s.putWrites p o.writes).mem :=
  (within_putRow_of_putWrites s p tid curve o).same .mem (by decide)

/-- Of a row's outcome only its writes reach memory: events and a curve's misses are counted in registers. -/
theorem State.SameData.putRow_of_writes {s t : State} (h : s.SameData t) (p : Nat) (tid : Word) (curve : Nat) {o o' : RowOut} (ho : o.writes = o'.writes) :
    (s.putRow p tid curve o).SameData (t.putRow p tid curve o') := by
  refine (h.putRow p tid curve o).trans ⟨?_, ?_⟩
  · rw [mem_putRow, mem_putRow, ho]
  · have hrow : ∀ o, (t.putRow p tid curve o).sections = t.sections := fun o => (within_putRow t p tid curve o).same .sections (by decide)
    rw [hrow, hrow]

theorem within_commitRows (p : Nat) (ws : List Word) (row : State → Nat → RowOut) (s : State) (b : Nat × Nat × Nat) : Within 14 s (s.commitRows p ws row b) :=
  .foldl (.refl ..) fun _ _ => within_putRow ..

theorem poison_commitRows_subset (p : Nat) (ws : List Word) (row : State → Nat → RowOut) (s : State) (b : Nat × Nat × Nat) :
    (s.commitRows p ws row b).poison ⊆ s.poison :=
  List.foldlRecOn (motive := fun t : State => t.poison ⊆ s.poison) _ _ (List.Subset.refl _) fun _ ht _ _ => List.Subset.trans (poison_putRow_subset ..) ht

theorem State.SameData.commitRows_of_writes {s t : State} (h : s.SameData t) (p : Nat) (ws : List Word) {row row' : State → Nat → RowOut}
    (hrow : ∀ i, (row s i).writes = (row' t i).writes) (b : Nat × Nat × Nat) : (s.commitRows p ws row b).SameData (t.commitRows p ws row' b) := by
  unfold State.commitRows
  rw [List.foldl_map, List.foldl_map]
  exact List.foldl_rel h fun i _ _ _ hx => hx.putRow_of_writes p _ _ (hrow i)

/-- `row` gives the writes of operation `op`'s output rows. -/
def GivesRows (p : Nat) (ws : List Word) (op : Nat) (row : State → Nat → RowOut) : Prop := ∀ (x : State) (i : Nat), (x.eltRow p ws op i).writes = (row x i).writes

/-- A commit block of an operation brings states of the same data to the same data, whichever function gives its rows. -/
theorem State.SameData.commitRows_eltRow {s t : State} (h : s.SameData t) {p : Nat} {ws : List Word} {op : Nat} {row : State → Nat → RowOut}
    (hrow : GivesRows p ws op row) (b : Nat × Nat × Nat) : (s.commitRows p ws (fun x => x.eltRow p ws op) b).SameData (t.commitRows p ws row b) :=
  h.commitRows_of_writes p ws (fun i => (congrArg RowOut.writes (h.eltRow p ws op i)).symm.trans (hrow t i)) b

/-! The blocks of an element operation that meets no error (R174, R187). -/

/-- The reads of block `b` of an element operation meet no poison. -/
def State.CleanRows (s : State) (p : Nat) (ws : List Word) (op : Nat) (b : Nat × Nat × Nat) : Prop := s.spPoisoned p (s.eltReads ws op b.2.1 b.2.2) = false

theorem State.CleanRows.mono {s t : State} {p : Nat} {ws : List Word} {op : Nat} {b : Nat × Nat × Nat} (h : s.CleanRows p ws op b)
    (hp : t.poison ⊆ s.poison) (hs : t.sections = s.sections) : t.CleanRows p ws op b := by
  unfold State.CleanRows
  rw [eltReads_congr hs]
  exact spPoisoned_of_poison_subset hp h

/-- A block that has not committed and reads no poison commits its rows. -/
theorem runBlocks_cons {s : State} {j p : Nat} {ws : List Word} {op : Nat} {b : Nat × Nat × Nat} {e : JEntry} (h : s.cmd j = some e)
    (hb : nmem e.blocks b.1 = false) (hc : s.CleanRows p ws op b) (r : List (Nat × Nat × Nat)) :
    s.runBlocks j p ws op none (b :: r) =
      ((s.commitRows p ws (fun x => x.eltRow p ws op) b).jmod j (fun e => { e with blocks := nadd e.blocks b.1 })).runBlocks j p ws op none r := by
  obtain ⟨i, lo, hi⟩ := b
  have hset : s.cmdIs j (fun e => nmem e.blocks i) = false := by
    unfold State.cmdIs
    rw [h]
    exact hb
  have hpois : s.spPoisoned p (s.eltReads ws op lo hi) = false := hc
  rw [State.runBlocks, hset, hpois]
  rfl

/-- Blocks none of which has committed or reads poison commit in order, and the command ends OK. The run's state may differ from `t`, at which the rows are taken, in all that rows are not computed from. -/
theorem runBlocks_commits {j p : Nat} {ws : List Word} {op : Nat} {row : State → Nat → RowOut} (hrow : GivesRows p ws op row)
    (l : List (Nat × Nat × Nat)) (hl : (l.map (·.1)).Nodup) :
    ∀ {s t : State} {e : JEntry}, s.SameData t → s.cmd j = some e → e.fin = none → (∀ b ∈ l, nmem e.blocks b.1 = false) → (∀ b ∈ l, s.CleanRows p ws op b) →
      (s.runBlocks j p ws op none l).RanTo j .ok ∧ ∀ x, (s.runBlocks j p ws op none l).rb x = (l.foldl (State.commitRows p ws row) t).rb x := by
  induction l with
  | nil =>
    intro s t e hdata h hf _ _
    exact ⟨ranTo_finish .ok 0 0 h hf, fun x => ((within_finish s j .ok 0 0).rb_eq x).trans (congrArg (fun m => sget unwritten m x) hdata.mem.symm)⟩
  | cons b r ih =>
    intro s t e hdata h hf hset hclean
    obtain ⟨hnew, hr⟩ := List.nodup_cons.mp hl
    have hw := within_commitRows p ws (fun x => x.eltRow p ws op) s b
    rw [runBlocks_cons h (hset b (List.mem_cons_self ..)) (hclean b (List.mem_cons_self ..))]
    refine ih hr (e := { e with blocks := nadd e.blocks b.1 }) ?data ?cmd hf ?unset ?clean
    case data => exact (within_jmod ..).sameData.symm.trans (hdata.commitRows_eltRow hrow b)
    case cmd =>
      rw [cmd_jmod_same, hw.cmd_eq, h]
      rfl
    case unset =>
      intro c hc
      have hne : c.1 ≠ b.1 := fun heq => hnew (List.mem_map.mpr ⟨c, hc, heq⟩)
      rw [nmem_nadd, hset c (List.mem_cons_of_mem _ hc), Bool.false_or]
      exact beq_false_of_ne hne
    case clean =>
      exact fun c hc => (hclean c (List.mem_cons_of_mem _ hc)).mono (poison_commitRows_subset p ws _ s b) (hw.same .sections (by decide))

/-! An element operation's run without errors or failing comparisons. -/

/-- An element operation without memory errors or failing comparisons comes to its blocks with counters changed alone (R149, R166). -/
theorem runElement_eq_runBlocks {obs : EltObs} (hf : obs.faults = []) (he : obs.ecc = ⟨[], []⟩) (s : State) (j p : Nat) (e : JEntry) (op : Nat) :
    ∃ u, Within 2 s u ∧ s.runElement j p e op obs = u.runBlocks j p e.words op none (commitBlocks (tEc e.words == 1) e.rowCount) := by
  unfold State.runElement
  rw [hf, he]
  simp only [spErrors_none, State.euFaults]
  exact ⟨_, .step (.step (within_count ..) (within_count ..)) (within_count ..), rfl⟩

/-- A clean element command commits, block after block, the rows of its operation. -/
theorem commitsRows_elementRun {s : State} {j p op : Nat} {e : JEntry} {obs : EltObs} {row : State → Nat → RowOut} (h : CleanElement s j e p op obs)
    (hrow : GivesRows p e.words op row) : CommitsRows (.next (s.elementRun j op obs)) s j e p row := by
  obtain ⟨hruns, _, hkind, hop, hblocks, hfaults, hecc, hclean⟩ := h
  have hon : s.runsOn j (fun e => e.kind == 3 && e.op == op) = some (e, p) := hruns.runsOn (by simp [hkind, hop])
  obtain ⟨u, hu, hrun⟩ := runElement_eq_runBlocks hfaults hecc s j p e op
  have hpoison : u.poison ⊆ s.poison := fun g hg => (hu.same .poison (by decide) : u.poison = s.poison) ▸ hg
  refine ⟨_, rfl, ?_⟩
  simp only [State.elementRun, hon, hrun]
  exact runBlocks_commits hrow _ (nodup_commitBlocks ..) hu.sameData.symm ((hu.cmd_eq j).trans hruns.entry) hruns.unended
    (fun b _ => by rw [hblocks]; rfl) (fun b hb => State.CleanRows.mono (hclean b hb) hpoison hu.sameData.sections)

/-- CURVE writes the values of its curve: what the evaluation missed or matched twice is counted and adds no write (R153). -/
theorem givesRows_curve (p : Nat) (ws : List Word) :
    GivesRows p ws 0x07 fun x i => encoded p ws (tK ws) x i
      (((x.curve (tCurve ws)).evalRow (x.fmt (opN ws 0).row) (x.readRow p (x.fmt (opN ws 0).row) (opN ws 0) (tK ws) i)).map (·.y)) :=
  fun _ _ => List.append_nil _

end Sys2Proof.Machine

open Sys2Proof Sys2Proof.Machine

/-- Settles O19: a clean run reaches its commit blocks with counters changed alone and the blocks commit one by one. The writes of an operation's rows are by definition those of the formula stated; only for CURVE do its counts stand beside them, and add none. -/
theorem elementOperations : Obligations.ElementOperations := by
  refine ⟨fun s j p e obs => ⟨?convert, ?add, ?mul, ?fma, ?max, ?min, ?curve, ?reduce⟩,
    fun s j p e obs => ⟨?rmsNorm, ?layerNorm, ?softmax, ?attnOnline, ?attnFinal, ?resid⟩⟩
  case curve => exact fun h => commitsRows_elementRun h (givesRows_curve p e.words)
  case convert | add | mul | fma | max | min | reduce | rmsNorm | layerNorm | softmax | attnOnline | attnFinal | resid =>
    exact fun h => commitsRows_elementRun h fun _ _ => rfl

end

section
/-! PROOFS. Ready marks and credit pools (R177, R178): what raising a mark, giving or taking credits and subtracting wait slots do to the counts of a logical tile. -/

set_option Elab.async false

namespace Sys2Proof.Machine

/-! The registers of marks, of pools and of their overflows. -/

theorem mark_ne_mark (t : Nat) {m m' : Nat} (h : m' ≠ m) : Reg.TILE_MARK t m' ≠ Reg.TILE_MARK t m := by
  simp only [Reg.TILE_MARK]
  omega

theorem credit_ne_credit (t : Nat) {q q' : Nat} (h : q' ≠ q) : Reg.TILE_CREDIT t q' ≠ Reg.TILE_CREDIT t q := by
  simp only [Reg.TILE_CREDIT]
  omega

/-- A logical tile's marks lie above every physical tile's registers. -/
theorem mark_ne_markovf (t m : Nat) {p : Nat} (hp : p < 68) : Reg.TILE_MARK t m ≠ Reg.TILE_MARKOVF p := by
  simp only [Reg.TILE_MARK, Reg.TILE_MARKOVF]
  omega

theorem credit_ne_crdovf (t q : Nat) {p : Nat} (hp : p < 68) : Reg.TILE_CREDIT t q ≠ Reg.TILE_CRDOVF p := by
  simp only [Reg.TILE_CREDIT, Reg.TILE_CRDOVF]
  omega

/-! Counts that rise and saturate. -/

/-- A counter raised by `k` stands at its width's largest value at most. -/
theorem get_count_min (s : State) (f : Fld) (k : Nat) (h : f.lo + f.n ≤ 64) : (s.count f k).get f = min (2 ^ f.n - 1) (s.get f + k) := get_count_same s f k h

/-- A field lowered by `k` stands at 0 at least. -/
theorem get_lower_same (s : State) (f : Fld) (k : Nat) (h : f.lo + f.n ≤ 64) : (s.lower f k).get f = s.get f - k := by
  have hlt : s.get f < 2 ^ f.n := get_lt s f
  unfold State.lower
  rw [get_set_same _ _ _ h]
  exact Nat.mod_eq_of_lt (by omega)

theorem get_lower_other (s : State) (f g : Fld) (k : Nat) (h : g.reg ≠ f.reg ∨ g.lo + g.n ≤ f.lo ∨ f.lo + f.n ≤ g.lo) : (s.lower f k).get g = s.get g :=
  get_set_other s f g _ h

/-! Marks and pools raised: a count that stops at 65,535 and an overflow noted at the physical tile. -/

/-- Count `f` of logical tile `t` raised by `n`; an overflow is counted and its index `i` noted at the physical tile. -/
def State.raiseCount (s : State) (t : Nat) (f : Fld) (n : Nat) (overflows last : Nat → Fld) (i : Nat) : State :=
  if 65535 < s.get f + n then
    match s.phys t with
    | some p => ((s.set f 65535).count (overflows p) 1).set (last p) i
    | none => s.set f 65535
  else s.set f (s.get f + n)

theorem raiseMark_eq_raiseCount (s : State) (t m inc : Nat) :
    s.raiseMark t m inc = s.raiseCount t (Fld.TILE_MARK_COUNT t m) inc Fld.TILE_MARKOVF_COUNT Fld.TILE_MARKOVF_MARK m := rfl

theorem giveCredit_eq_raiseCount (s : State) (t q n : Nat) :
    s.giveCredit t q n = s.raiseCount t (Fld.TILE_CREDIT_COUNT t q) n Fld.TILE_CRDOVF_COUNT Fld.TILE_CRDOVF_POOL q := rfl

theorem raiseCount_of_overflow {s : State} {t p : Nat} (hp : s.phys t = some p) {f : Fld} {n : Nat} (hv : 65535 < s.get f + n) (overflows last : Nat → Fld) (i : Nat) :
    s.raiseCount t f n overflows last i = ((s.set f 65535).count (overflows p) 1).set (last p) i := by
  rw [State.raiseCount, if_pos hv, hp]

/-- Registers but those of the overflow read what they read after the count is written. -/
theorem get_raiseCount {s : State} {t : Nat} {overflows last : Nat → Fld} {g : Fld}
    (h : ∀ p, s.phys t = some p → g.reg ≠ (overflows p).reg ∧ g.reg ≠ (last p).reg) (f : Fld) (n i : Nat) :
    (s.raiseCount t f n overflows last i).get g = (s.set f (min 65535 (s.get f + n))).get g := by
  unfold State.raiseCount
  split
  · next hover =>
    rw [Nat.min_eq_left (by omega)]
    cases hp : s.phys t with
    | none => rfl
    | some p =>
      obtain ⟨hcount, hlast⟩ := h p hp
      exact (get_set_other _ _ _ _ (.inl hlast)).trans (get_count_other _ _ _ _ (.inl hcount))
  · rw [Nat.min_eq_right (by omega)]

/-- A saturated count of 16 bits reads back. -/
theorem get_set_saturated (s : State) {f : Fld} (hn : f.n = 16) (hf : f.lo + f.n ≤ 64) (v : Nat) : (s.set f (min 65535 v)).get f = min 65535 v := by
  rw [get_set_same _ _ _ hf, hn]
  exact Nat.mod_eq_of_lt (by omega)

section
variable {s : State} {t : Nat} (hp : ∀ p, s.phys t = some p → p < 68)
include hp

theorem get_raiseMark (m inc m' : Nat) {g : Fld} (hg : g.reg = Reg.TILE_MARK t m') :
    (s.raiseMark t m inc).get g = (s.set (Fld.TILE_MARK_COUNT t m) (min 65535 (s.markCount t m + inc))).get g := by
  rw [raiseMark_eq_raiseCount]
  exact get_raiseCount (fun p h => hg ▸ ⟨mark_ne_markovf t m' (hp p h), mark_ne_markovf t m' (hp p h)⟩) _ _ _

theorem markCount_raiseMark_same (m inc : Nat) : (s.raiseMark t m inc).markCount t m = min 65535 (s.markCount t m + inc) :=
  (get_raiseMark hp m inc m rfl).trans (get_set_saturated s rfl (by decide : 0 + 16 ≤ 64) _)

theorem markPoison_raiseMark (m inc : Nat) : (s.raiseMark t m inc).markPoison t m = s.markPoison t m := by
  unfold State.markPoison State.flag
  rw [get_raiseMark hp m inc m rfl, get_set_other _ _ _ _ (.inr (.inr (by decide : 0 + 16 ≤ 16)))]

theorem markCount_raiseMark_other {m m' : Nat} (h : m' ≠ m) (inc : Nat) : (s.raiseMark t m inc).markCount t m' = s.markCount t m' :=
  (get_raiseMark hp m inc m' rfl).trans (get_set_other _ _ _ _ (.inl (mark_ne_mark t h)))

theorem pool_giveCredit (q n q' : Nat) : (s.giveCredit t q n).pool t q' = (s.set (Fld.TILE_CREDIT_COUNT t q) (min 65535 (s.pool t q + n))).pool t q' := by
  rw [giveCredit_eq_raiseCount]
  exact get_raiseCount (fun p h => ⟨credit_ne_crdovf t q' (hp p h), credit_ne_crdovf t q' (hp p h)⟩) _ _ _

theorem pool_giveCredit_same (q n : Nat) : (s.giveCredit t q n).pool t q = min 65535 (s.pool t q + n) :=
  (pool_giveCredit hp q n q).trans (get_set_saturated s rfl (by decide : 0 + 16 ≤ 64) _)

theorem pool_giveCredit_other {q q' : Nat} (h : q' ≠ q) (n : Nat) : (s.giveCredit t q n).pool t q' = s.pool t q' :=
  (pool_giveCredit hp q n q').trans (get_set_other _ _ _ _ (.inl (credit_ne_credit t h)))

end

/-- A mark that overflows is counted and named in TILE_MARKOVF of its physical tile (R177). -/
theorem get_markovf_raiseMark {s : State} {t p : Nat} (hp : s.phys t = some p) (h68 : p < 68) {m inc : Nat} (hm : m < 64) (hv : 65535 < s.markCount t m + inc) :
    (s.raiseMark t m inc).get (Fld.TILE_MARKOVF_COUNT p) = min (2 ^ 32 - 1) (s.get (Fld.TILE_MARKOVF_COUNT p) + 1) ∧
      (s.raiseMark t m inc).get (Fld.TILE_MARKOVF_MARK p) = m := by
  rw [raiseMark_eq_raiseCount, raiseCount_of_overflow hp hv]
  constructor
  · rw [get_set_other _ _ _ _ (.inr (.inr (by decide : 0 + 6 ≤ 32))), get_count_min _ _ _ (by decide : 32 + 32 ≤ 64),
      get_set_other _ _ _ _ (.inl (mark_ne_markovf t m h68).symm)]
    rfl
  · rw [get_set_same _ _ _ (by decide : 0 + 6 ≤ 64)]
    exact Nat.mod_eq_of_lt hm

theorem pool_takeCredit (s : State) (t q n : Nat) : (s.takeCredit t q n).pool t q = s.pool t q - n := get_lower_same _ _ _ (by decide : 0 + 16 ≤ 64)

/-! Wait slots subtracted, one after another (R177). -/

/-- The counts of slots `l` subtracted. -/
def State.lowerMarks (s : State) (t : Nat) (l : List Slot) : State := l.foldl (fun s x => s.lower (Fld.TILE_MARK_COUNT t x.idx) x.n) s

theorem consumeWaits_eq_lowerMarks (s : State) (t : Nat) (l : List Slot) : s.consumeWaits t l = s.lowerMarks t (usedSlots l) := rfl

theorem markCount_lower_same (s : State) (t m n : Nat) : (s.lower (Fld.TILE_MARK_COUNT t m) n).markCount t m = s.markCount t m - n :=
  get_lower_same _ _ _ (by decide : 0 + 16 ≤ 64)

theorem markCount_lower_other (s : State) (t n : Nat) {m m' : Nat} (h : m' ≠ m) : (s.lower (Fld.TILE_MARK_COUNT t m) n).markCount t m' = s.markCount t m' :=
  get_lower_other _ _ _ _ (.inl (mark_ne_mark t h))

theorem markCount_lowerMarks_other {t m : Nat} {l : List Slot} (h : ∀ x ∈ l, x.idx ≠ m) (s : State) : (s.lowerMarks t l).markCount t m = s.markCount t m :=
  List.foldlRecOn (motive := fun u : State => u.markCount t m = s.markCount t m) l _ rfl
    fun u hu x hx => (markCount_lower_other u t x.n (h x hx).symm).trans hu

theorem slotsRepeat_cons_eq_false {x : Slot} {l : List Slot} (h : slotsRepeat (x :: l) = false) : (∀ y ∈ l, y.idx ≠ x.idx) ∧ slotsRepeat l = false := by
  obtain ⟨hx, hl⟩ := Bool.or_eq_false_iff.mp h
  exact ⟨fun y hy heq => List.any_eq_false.mp hx y hy (beq_iff_eq.mpr heq), hl⟩

/-- Slots that name different marks take each its own count off its own mark. -/
theorem markCount_lowerMarks_of_mem (t : Nat) {l : List Slot} (hl : slotsRepeat l = false) {x : Slot} (hx : x ∈ l) (s : State) :
    (s.lowerMarks t l).markCount t x.idx = s.markCount t x.idx - x.n := by
  induction l generalizing s with
  | nil => cases hx
  | cons y r ih =>
    obtain ⟨hy, hr⟩ := slotsRepeat_cons_eq_false hl
    have hcons : s.lowerMarks t (y :: r) = (s.lower (Fld.TILE_MARK_COUNT t y.idx) y.n).lowerMarks t r := rfl
    rw [hcons]
    cases hx with
    | head => rw [markCount_lowerMarks_other hy, markCount_lower_same]
    | tail _ hmem => rw [ih hr hmem, markCount_lower_other _ _ _ (hy x hmem)]

end Sys2Proof.Machine

open Sys2Proof Sys2Proof.Machine

/-- Settles O16: a raise writes one count, saturated, and on overflow a register of the physical tile, which is no mark or pool; slots that name different marks are subtracted independently. -/
theorem marksAndCredits : Obligations.MarksAndCredits := by
  refine ⟨fun s t m inc hm hp => ?raise, fun s t q n _ hp => ?give, fun s t q n => ?take, fun s t l hl _ => ?consume⟩
  case raise =>
    exact ⟨markCount_raiseMark_same hp m inc, markPoison_raiseMark hp m inc, fun m' h _ => markCount_raiseMark_other hp h inc,
      fun hv p hphys => get_markovf_raiseMark hphys (hp p hphys) hm hv, (within_raiseMark ..).sameBut⟩
  case give => exact ⟨pool_giveCredit_same hp q n, fun q' h _ => pool_giveCredit_other hp h n, (within_giveCredit ..).sameBut⟩
  case take => exact ⟨pool_takeCredit s t q n, (within_takeCredit ..).sameBut⟩
  case consume =>
    rw [consumeWaits_eq_lowerMarks]
    exact ⟨fun x hx => markCount_lowerMarks_of_mem t hl hx s, fun m _ hm => markCount_lowerMarks_other hm s, (within_consumeWaits s t l).sameBut⟩

end

section
/-! PROOFS. The dispatch of a STREAM (R183, R221): a record of an earlier run under its number keeps it off its channel. -/

set_option Elab.async false

namespace Sys2Proof.Machine

/-- The words of a STREAM LOAD from DRAM, far kind 0x1: one row of 32 bytes from device address 4096 to local offset 0. -/
def loadWords : List Word :=
  [wordOf [(56, 8, 4), (48, 8, 1)], 0, 0, 0, wordOf [(60, 4, 1), (57, 3, 2), (0, 40, 1)], wordOf [(48, 16, 1), (0, 40, 32)], 0, 0, 0, 0,
    wordOf [(39, 25, 32), (14, 25, 1)], wordOf [(39, 25, 1), (14, 25, 1)], wordOf [(39, 25, 1), (14, 25, 1)], 256, wordOf [(24, 20, 2)], 0]

/-- That LOAD in the journal, accepted for ring 16 and logical tile 0. -/
def acceptedLoad : JEntry := { loopbackStore with words := loadWords, st := .accepted, disp := 0, unit := .none }

/-- A package that runs, ring 16 bound to logical tile 0 and the LOAD at its head; the streams' table holds, under the LOAD's number, a run halted for reservations of which none is left to be granted. -/
def leftoverRun : State :=
  { State.reset with
    regs := [(Reg.TILE_RINGBIND 0 0, wordOf [(50, 14, 16), (0, 1, 1)])]
    tileMap := some 0 :: List.replicate 63 none
    journal := [(1, acceptedLoad)]
    streams := [(1, { StreamRun.start with halt := some (0, 5) })]
    power := { PowerState.reset with phase := .running, down := [] } }

theorem canonical_leftoverRun : leftoverRun.Canonical := ⟨by decide +kernel, by decide +kernel, by decide +kernel, by decide +kernel⟩

theorem pickHead_leftoverRun : leftoverRun.pickHead 0 0 = some (1, acceptedLoad) := by decide +kernel

/-- While the LOAD is accepted, channel 0 is free for it. -/
theorem unitFor_leftoverRun : leftoverRun.unitFor 0 0 acceptedLoad = some (.channel 0) := by decide +kernel

/-- Once it counts as dispatched, its own record is that of a halted stream that can resume, which goes before it (R221): it is left without a channel. -/
theorem tileDispatch_leftoverRun :
    ((nextOr leftoverRun (exec (.tileDispatch 0) leftoverRun)).cmd 1).map (fun e => (e.disp, e.unit)) = some (1, .none) := by
  decide +kernel

end Sys2Proof.Machine

open Sys2Proof Sys2Proof.Machine

/-- Refutes O17, by its clause on STREAMs: no hypothesis says that the head's number is without a record of an earlier run. With a halted one, the head, counted as dispatched before its channel is sought, bars its own way. -/
theorem not_tileDispatchRule : ¬ Obligations.TileDispatchRule := by
  intro h
  obtain ⟨-, hstream⟩ := h leftoverRun 0 0 1 acceptedLoad (.channel 0) (by decide) rfl (by decide) rfl rfl (by decide +kernel) canonical_leftoverRun
    pickHead_leftoverRun (by decide +kernel) unitFor_leftoverRun rfl (by decide +kernel)
  obtain ⟨r, hnext, ⟨e, hcmd, -, -, hunit, -⟩, -⟩ := hstream (by decide +kernel) (.inl (by decide +kernel)) (by decide +kernel) (by decide +kernel)
  have hleft := tileDispatch_leftoverRun
  rw [hnext] at hleft
  simp [nextOr, hcmd, hunit] at hleft

end

section
/-! PROOFS. The CONTROL commands (R193, R194): a command alone on its ring commits as it ends (R184), its entries applied before its signals. -/

set_option Elab.async false

namespace Sys2Proof.Machine

/-! Operations on the counts of marks and pools leave the journal aside. -/

/-- The state with another journal. -/
def State.withJournal (l : SMap JEntry) (s : State) : State := { s with journal := l }

theorem set_withJournal (l : SMap JEntry) (s : State) (f : Fld) (v : Nat) : (s.withJournal l).set f v = (s.set f v).withJournal l := rfl

theorem raiseCount_withJournal (l : SMap JEntry) (s : State) (t : Nat) (f : Fld) (n : Nat) (overflows last : Nat → Fld) (i : Nat) :
    (s.withJournal l).raiseCount t f n overflows last i = (s.raiseCount t f n overflows last i).withJournal l := by
  have hget : (s.withJournal l).get f = s.get f := rfl
  have hphys : (s.withJournal l).phys t = s.phys t := rfl
  unfold State.raiseCount
  rw [hget, hphys]
  split
  · cases s.phys t <;> rfl
  · rfl

theorem signalMarks_withJournal (l : SMap JEntry) (s : State) (t : Nat) (sigs : List Slot) :
    (s.withJournal l).signalMarks t sigs = (s.signalMarks t sigs).withJournal l :=
  List.foldl_hom (State.withJournal l) fun _ _ => raiseCount_withJournal ..

theorem giveCredit_withJournal (l : SMap JEntry) (s : State) (t q n : Nat) : (s.withJournal l).giveCredit t q n = (s.giveCredit t q n).withJournal l :=
  raiseCount_withJournal ..

theorem applyMarkSet_withJournal (l : SMap JEntry) (s : State) (t : Nat) (w : Word) : (s.withJournal l).applyMarkSet t w = (s.applyMarkSet t w).withJournal l := by
  unfold State.applyMarkSet
  dsimp only
  rw [set_withJournal, set_withJournal]
  exact (apply_ite (State.withJournal l) ..).symm

theorem controlCommit_withJournal (l : SMap JEntry) (s : State) (e : JEntry) : (s.withJournal l).controlCommit e = (s.controlCommit e).withJournal l := by
  unfold State.controlCommit
  split
  · exact List.foldl_hom (State.withJournal l) fun _ _ => applyMarkSet_withJournal ..
  · split
    · exact List.foldl_hom (State.withJournal l) fun _ _ => rfl
    · rfl

/-! What a CONTROL command does at its commit (R193, R194). -/

theorem controlCommit_markSet {e : JEntry} (hon : e.onTile = true) (hk : e.kind = 5) (ho : e.op = 2) (s : State) :
    s.controlCommit e = (setEntries e.words).foldl (fun (x : State) w => x.applyMarkSet e.tile w) s :=
  if_pos ⟨hon, hk, ho⟩

theorem controlCommit_creditSet {e : JEntry} (hon : e.onTile = true) (hk : e.kind = 5) (ho : e.op = 3) (s : State) :
    s.controlCommit e = (setEntries e.words).foldl (fun (x : State) w => x.applyCreditSet e.tile w) s :=
  (if_neg (by simp [ho])).trans (if_pos ⟨hon, hk, ho⟩)

theorem controlCommit_other {e : JEntry} (h2 : e.op ≠ 2) (h3 : e.op ≠ 3) (s : State) : s.controlCommit e = s :=
  (if_neg fun h => h2 h.2.2).trans (if_neg fun h => h3 h.2.2)

/-- The signals of command `e` and the credit it gives (R177, R178). -/
def State.signalAndGive (e : JEntry) (s : State) : State :=
  if e.give.n ≠ 0 then (s.signalMarks e.tile e.sigs).giveCredit e.tile e.give.idx e.give.n else s.signalMarks e.tile e.sigs

theorem within_signalAndGive (e : JEntry) (s : State) : Within 2 s (s.signalAndGive e) :=
  .ite (.step (within_signalMarks ..) (within_giveCredit ..)) (within_signalMarks ..)

theorem signalAndGive_withJournal (l : SMap JEntry) (s : State) (e : JEntry) : (s.withJournal l).signalAndGive e = (s.signalAndGive e).withJournal l := by
  unfold State.signalAndGive
  rw [signalMarks_withJournal, giveCredit_withJournal]
  split <;> rfl

theorem not_isStream_of_control {e : JEntry} (hk : e.kind = 5) : e.isStream = false := by simp [JEntry.isStream, hk]

theorem dstTile_of_onTile {e : JEntry} (hon : e.onTile = true) : e.dstTile = e.tile := by
  unfold JEntry.onTile at hon
  unfold JEntry.dstTile
  split at hon
  · next ht => rw [ht]
  · cases hon

/-- A CONTROL command that ended OK commits: its entries, its signals and its credit. -/
theorem settleOne_control {e : JEntry} (hon : e.onTile = true) (hk : e.kind = 5) (s : State) (j : Nat) :
    s.settleOne j e Status.ok.num = ((s.controlCommit e).signalAndGive e).jmod j (fun x => x.settledWith x Status.ok.num) := by
  have hgood : goodStatus Status.ok.num = true := by decide
  simp only [State.settleOne, hgood, if_true, not_isStream_of_control hk, Bool.false_eq_true, if_false, hon, true_and, dstTile_of_onTile hon]
  rfl

/-! A tile command's end, alone on its ring (R184). -/

/-- Entry `e` once its execution has ended on its unit. -/
def JEntry.endedWith (st : Status) (r0 r1 : Word) (e : JEntry) : JEntry := { e with fin := some st.num, res0 := r0, res1 := r1, unit := .none }

theorem smap_eq_map {β : Type} (f : Nat → β → β) (l : SMap β) : smap f l = l.map (fun x => (x.1, f x.1 x.2)) := by
  induction l with
  | nil => rfl
  | cons x r ih => rw [smap, ih, List.map_cons]

theorem jmod_jmod (s : State) (j : Nat) (f g : JEntry → JEntry) : (s.jmod j f).jmod j g = s.jmod j (g ∘ f) := by
  have h : smodify (smodify s.journal j f) j g = smodify s.journal j (g ∘ f) := by
    simp only [smodify, smap_eq_map, List.map_map]
    refine List.map_congr_left fun x _ => ?_
    by_cases hx : x.1 = j <;> simp [hx]
  exact congrArg (State.withJournal · s) h

/-- A tile command that is no STREAM and ends frees its unit, and its ring's held commits are released. -/
theorem finish_of_onTile {s : State} {j : Nat} {e : JEntry} (h : s.cmd j = some e) (hf : e.fin = none) (hon : e.onTile = true) (hs : e.isStream = false)
    (st : Status) (r0 r1 : Word) : s.finish j st r0 r1 = (s.jmod j (JEntry.endedWith st r0 r1)).settleRing e.tileRing := by
  simp only [State.finish, h, hf, Option.isSome_none, Bool.false_eq_true, if_false, hs, hon, if_true, jmod_jmod]
  rfl

/-- A change of a command that leaves it on its ring changes it in the ring's queue. -/
theorem ringQueue_jmod {f : JEntry → JEntry} (hf : ∀ x, (f x).target = x.target ∧ (f x).reported = x.reported) (s : State) (j r : Nat) :
    (s.jmod j f).ringQueue r = smodify (s.ringQueue r) j f := by
  simp only [State.ringQueue, State.jmod, smodify, smap_eq_map, List.filter_map]
  congr 1
  refine List.filter_congr fun x _ => ?_
  obtain ⟨ht, hr⟩ := hf x.2
  by_cases hx : x.1 = j <;> simp [hx, JEntry.onTile, JEntry.tileRing, ht, hr]

/-- A ring whose only command has ended commits it. -/
theorem settleRing_of_single {s : State} {r j n : Nat} {e : JEntry} (hq : s.ringQueue r = [(j, e)]) (hf : e.fin = some n) (hp : e.parent = 0) :
    s.settleRing r = s.settleOne j e n := by
  simp only [State.settleRing, hq, State.settleFrom, hf, State.settle, hp, if_true]

/-- A running CONTROL command that is its ring's only one ends and commits in one step. -/
theorem controlRun_alone {s : State} {j p op : Nat} {e : JEntry} (hruns : s.Runs j e p) (hk : e.kind = 5) (ho : e.op = op) (hp : e.parent = 0)
    (hq : s.ringQueue e.tileRing = [(j, e)]) :
    s.controlRun j op = (s.jmod j (JEntry.endedWith .ok 0 0)).settleOne j (e.endedWith .ok 0 0) Status.ok.num := by
  have hon : s.runsOn j (fun e => e.kind == 5 && e.op == op) = some (e, p) := hruns.runsOn (by simp [hk, ho])
  have hqueue : (s.jmod j (JEntry.endedWith .ok 0 0)).ringQueue e.tileRing = [(j, e.endedWith .ok 0 0)] := by
    rw [ringQueue_jmod (f := JEntry.endedWith .ok 0 0) (fun _ => ⟨rfl, rfl⟩), hq]
    simp [smodify, smap]
  simp only [State.controlRun, hon, finish_of_onTile hruns.entry hruns.unended hruns.onTile (not_isStream_of_control hk)]
  exact settleRing_of_single hqueue rfl hp

/-- It commits OK, and beside the journal its registers change as its entries, signals and credit say. -/
theorem controlRun_commits {s : State} {j p op : Nat} {e : JEntry} (hruns : s.Runs j e p) (hk : e.kind = 5) (hp : e.parent = 0) (hr : e.refusal = none)
    (hq : s.ringQueue e.tileRing = [(j, e)]) (ho : e.op = op) :
    (s.controlRun j op).Committed j .ok 0 0 ∧ (∀ a, (s.controlRun j op).reg a = ((s.controlCommit e).signalAndGive e).reg a) ∧
      SameBut [.regs, .journal] s (s.controlRun j op) := by
  have hon : (e.endedWith .ok 0 0).onTile = true := hruns.onTile
  rw [controlRun_alone hruns hk ho hp hq]
  refine ⟨?committed, fun a => ?regs, ?rest⟩
  case committed =>
    have hcmd : (s.jmod j (JEntry.endedWith .ok 0 0)).cmd j = some (e.endedWith .ok 0 0) := by rw [cmd_jmod_same, hruns.entry, Option.map_some]
    have hst : ¬ (e.refusal.isSome = true ∨ e.st = .accepted) := by simp [hr, hruns.state]
    refine ⟨(e.endedWith .ok 0 0).settledWith (e.endedWith .ok 0 0) Status.ok.num, ?_, if_neg hst, rfl, rfl, rfl, rfl, rfl⟩
    rw [cmd_settleOne, if_pos rfl, hcmd]
    rfl
  case regs =>
    have heffect : ((s.jmod j (JEntry.endedWith .ok 0 0)).controlCommit e).signalAndGive e =
        ((s.controlCommit e).signalAndGive e).withJournal (smodify s.journal j (JEntry.endedWith .ok 0 0)) :=
      (congrArg (State.signalAndGive e) (controlCommit_withJournal ..)).trans (signalAndGive_withJournal ..)
    have hreg := congrArg (fun t : State => t.reg a) heffect
    rw [settleOne_control hon hk]
    exact hreg
  case rest =>
    rw [settleOne_control hon hk]
    exact Within.sameBut (m := 18) (.step (.step (.step ((within_jmod ..).mono (by decide)) (within_controlCommit ..)) (within_signalAndGive ..)) (within_jmod ..))

end Sys2Proof.Machine

open Sys2Proof Sys2Proof.Machine

/-- Settles O18: the command's end finds it at the head of its ring's held commits, so it commits at once: its entries, then its signals, then its credit. -/
theorem controlCommands : Obligations.ControlCommands := by
  intro s j p e hruns hk hp hr hq after
  refine ⟨fun ho => ⟨_, rfl, ?nop⟩, fun ho => ⟨_, rfl, ?markSet⟩, fun ho => ⟨_, rfl, ?creditSet⟩, fun ho => ⟨_, rfl, ?fence⟩⟩
  all_goals obtain ⟨hcommitted, hregs, hrest⟩ := controlRun_commits hruns hk hp hr hq ho
  case nop | fence =>
    rw [controlCommit_other (by omega) (by omega)] at hregs
    exact ⟨hcommitted, hregs, hrest⟩
  case markSet =>
    rw [controlCommit_markSet hruns.onTile hk ho] at hregs
    exact ⟨hcommitted, hregs, hrest⟩
  case creditSet =>
    rw [controlCommit_creditSet hruns.onTile hk ho] at hregs
    exact ⟨hcommitted, hregs, hrest⟩

end

section
/-! PROOFS. LOAD and STORE over a relocated chunk (R329, R337): the pins that a stream's first access gives up can take the chunk's copy away from its second. -/

set_option Elab.async false

namespace Sys2Proof.Machine

/-- The LOAD of `loadWords`, 32 atoms of one byte from device address 4096 on, dispatched on channel 0 of logical tile 0. -/
def runningLoad : JEntry := { acceptedLoad with st := .dispatched, disp := 1, unit := .channel 0 }

/-- Slot 0 of the tier cache, RELOCATED: the committed copy of chunk 0 of pseudo-channel 1. It is pinned by command 1, and its invalidation, requested, waits for that pin. -/
def pinnedCopy : DirEnt := { DirEnt.blank with st := .relocated, invreq := true, pins := [1], pch := 1, chunk := 0, copied := true }

/-- A package that runs; the LOAD's far bytes lie in the chunk that `pinnedCopy` holds. -/
def relocatedSource : State :=
  { State.reset with
    tileMap := some 0 :: List.replicate 63 none
    journal := [(1, runningLoad)]
    tier := { State.reset.tier with pchs := [(1, .relocating)], dir := [(0, pinnedCopy)] }
    power := { PowerState.reset with phase := .running, down := [] } }

theorem onChannel_relocatedSource : relocatedSource.onChannel 1 = some (runningLoad, 0, 0) := by decide +kernel

/-- A DRAM range that serves an access and holds no poison is clean. -/
theorem clean_of_dramA {s : State} {a n : Nat} (hr : regionOf a = .dramA) (hd : s.dramRange a n = .served) (hp : s.poisonedIn a n = false) : s.Clean a n a :=
  ⟨.inl ⟨.inl hr, hd, rfl⟩, hp⟩

/-- Before the LOAD runs, every atom of its segment is served from the copy. -/
theorem clean_relocatedSource (q : Nat) (hq : q < 32) :
    let a := sFarAt loadWords (posRow loadWords q) (posAtom loadWords q)
    relocatedSource.Clean a (sFarAtomBytes loadWords) a := by
  have hall : ∀ q < 32, let a := sFarAt loadWords (posRow loadWords q) (posAtom loadWords q)
      regionOf a = .dramA ∧ relocatedSource.dramRange a (sFarAtomBytes loadWords) = .served ∧ relocatedSource.poisonedIn a (sFarAtomBytes loadWords) = false := by
    decide +kernel
  obtain ⟨hregion, hserved, hclean⟩ := hall q hq
  exact clean_of_dramA hregion hserved hclean

/-- The LOAD moves one atom and waits for the chunk. -/
theorem load_relocatedSource : ((nextOr relocatedSource (exec (.load 1 StreamObs.none) relocatedSource)).run 1).pos = 1 := by decide +kernel

end Sys2Proof.Machine

open Sys2Proof Sys2Proof.Machine

/-- Refutes O21, by its clause on LOADs of far kind 0x1: no hypothesis keeps the stream from holding a pin under which an invalidation waits. The read of atom 0 gives the pins up, the invalidation frees the slot that holds the atoms' relocated chunk, and atom 1 waits for that chunk. -/
theorem not_streamLoadsAndStores : ¬ Obligations.StreamLoadsAndStores := by
  rintro ⟨hmove, -⟩
  obtain ⟨hload, -⟩ := hmove relocatedSource 1 0 0 runningLoad (fun q => sFarAt loadWords (posRow loadWords q) (posAtom loadWords q)) (fun _ => 0)
    onChannel_relocatedSource (by decide +kernel) (by decide +kernel) (by decide +kernel) (by decide +kernel)
  have hend : sSegEnd loadWords 0 = 32 := by decide +kernel
  obtain ⟨t, hnext, hpos, -⟩ := hload (by decide +kernel) fun q _ hq =>
    ⟨clean_relocatedSource q (hend ▸ hq), fun hscaled => absurd hscaled (by decide +kernel)⟩
  have hone := load_relocatedSource
  rw [hnext] at hone
  have hall : (t.run 1).pos = 32 := hpos.trans hend
  exact absurd (hone.symm.trans hall) (by decide)

end

section
/-! PROOFS. How streams end, halt and resume (R202, R212, R213, R219 to R221, R225). -/

set_option Elab.async false

namespace Sys2Proof.Machine

/-! A stream's record. -/

theorem run_rmod_same (s : State) (j : Nat) (f : StreamRun → StreamRun) : (s.rmod j f).run j = f (s.run j) := by
  simp [State.run, State.rmod, sget, sfind_sinsert_same]

theorem run_rmod_other (s : State) {i j : Nat} (f : StreamRun → StreamRun) (h : j ≠ i) : (s.rmod i f).run j = s.run j := by
  simp [State.run, State.rmod, sget, sfind_sinsert_other _ _ h]

theorem Within.run_eq {m : Nat} {s t : State} (h : Within m s t) (j : Nat) (hm : m.testBit 24 = false := by decide) : t.run j = s.run j := by
  unfold State.run
  rw [show t.streams = s.streams from h.same .streams hm]

theorem Within.mem_eq {m : Nat} {s t : State} (h : Within m s t) (hm : m.testBit 2 = false := by decide) : t.mem = s.mem := h.same .mem hm

/-- A stream on a channel runs on its tile. -/
theorem runs_of_onChannel {s : State} {j p c : Nat} {e : JEntry} (h : s.onChannel j = some (e, p, c)) : s.Runs j e p := by
  unfold State.onChannel at h
  split at h
  · next e' hcmd =>
    split at h
    · next c' p' hunit hphys =>
      obtain ⟨hcond, heq⟩ := Option.ite_none_right_eq_some.mp h
      obtain ⟨hstream, hst, hfin, hlive, hup⟩ := hcond
      cases heq
      exact ⟨hcmd, hphys, (Bool.and_eq_true_iff.mp hstream).1, hst, Option.isNone_iff_eq_none.mp hfin, hlive, hup⟩
    · cases h
  · cases h

/-! Segments delivered (R212, R213). -/

theorem deliverSegment_eq (s : State) (j : Nat) (e : JEntry) :
    s.deliverSegment j e =
      if sSegments e.words ≤ e.segs + 1 then ((s.deliverArrived j e).rmod j (fun r => { r with credited := false, staged := false })).finish j .ok 0 0
      else (s.deliverArrived j e).rmod j (fun r => { r with credited := false, staged := false }) := rfl

theorem cmd_deliverArrived {s : State} {j : Nat} {x : JEntry} (h : s.cmd j = some x) (e : JEntry) :
    (s.deliverArrived j e).cmd j = some { x with segs := x.segs + 1 } := by
  have hraise : Within 2 s (if e.pmark.n = 0 then s else s.raiseMark e.tile e.pmark.idx e.pmark.n) := .ite (.refl ..) (within_raiseMark ..)
  unfold State.deliverArrived
  rw [cmd_jmod_same, hraise.cmd_eq, h]
  rfl

/-- PINC goes on the progress mark, which saturates. -/
theorem markCount_deliverArrived {s : State} {e : JEntry} (hp : ∀ p, s.phys e.tile = some p → p < 68) (hn : e.pmark.n ≠ 0) (j : Nat) :
    (s.deliverArrived j e).markCount e.tile e.pmark.idx = min 65535 (s.markCount e.tile e.pmark.idx + e.pmark.n) := by
  unfold State.deliverArrived
  rw [if_neg hn]
  exact markCount_raiseMark_same hp e.pmark.idx e.pmark.n

theorem exec_segmentDelivered {s : State} {j : Nat} {e : JEntry} (hcmd : s.cmd j = some e) (hstream : e.isStream = true) (hst : e.st = .dispatched)
    (hfin : e.fin = none) (hlive : s.live = true) (hup : s.targetUp e = true) :
    exec (.segmentDelivered j) s =
      if tOp e.words = 5 then .next (if e.segs < recvSegments e.words (s.run j).got false then s.deliverArrived j e else s)
      else .next (if s.segmentDone j e then s.deliverSegment j e else s) := by
  show execSegmentDelivered j s = _
  simp [execSegmentDelivered, hcmd, hstream, hst, hfin, hlive, hup]

/-! The directory under lookups that find their objects resident (R323, R324, R329). -/

/-- A directory entry without what a lookup changes: its pins and its age. -/
def DirEnt.unpinned (e : DirEnt) : DirEnt := { e with pins := [], age := 0 }

/-- The tier's record without the pins and ages of its directory. -/
def State.tierFrame (s : State) : TierState := { s.tier with dir := s.tier.dir.map (fun x => (x.1, x.2.unpinned)) }

/-- No eviction or invalidation is requested of any entry. -/
def State.NoRequests (s : State) : Prop := ∀ x ∈ s.tier.dir, x.2.evreq = false ∧ x.2.invreq = false

/-- The object of frame `fr` lies in a slot that serves it. -/
def State.Resident (s : State) (fr : Nat) : Prop :=
  ∃ n x, s.dirOf (s.objectOf fr).1 = some (n, x) ∧ (x.st = .clean ∨ x.st = .dirty ∨ x.st = .cleaning)

theorem tierFrame_congr {s t : State} (h : t.tier = s.tier) : t.tierFrame = s.tierFrame := by
  unfold State.tierFrame
  rw [h]

theorem tierFrame_dirMod {f : DirEnt → DirEnt} (hf : ∀ e, (f e).unpinned = e.unpinned) (s : State) (n : Nat) : (s.dirMod n f).tierFrame = s.tierFrame := by
  have hdir : (smodify s.tier.dir n f).map (fun x => (x.1, x.2.unpinned)) = s.tier.dir.map (fun x => (x.1, x.2.unpinned)) := by
    simp only [smodify, smap_eq_map, List.map_map]
    refine List.map_congr_left fun x _ => ?_
    by_cases hx : x.1 = n <;> simp [hx, hf]
  simp only [State.tierFrame, State.dirMod, State.tmod, hdir]

section
variable {s t : State} (h : t.tierFrame = s.tierFrame)
include h

theorem objectOf_of_tierFrame (fr : Nat) : t.objectOf fr = s.objectOf fr := by
  have hregions : t.tier.flashRegions = s.tier.flashRegions := (congrArg TierState.flashRegions h :)
  simp only [State.objectOf, hregions]

theorem dirOf_of_tierFrame (fr : Nat) : (t.dirOf fr).map (fun x => (x.1, x.2.unpinned)) = (s.dirOf fr).map (fun x => (x.1, x.2.unpinned)) := by
  have hfind : ∀ u : State, (u.dirOf fr).map (fun x => (x.1, x.2.unpinned)) = u.tierFrame.dir.find? (fun e => e.2.st != .relocated && e.2.frame == fr) :=
    fun u => by
      simp only [State.tierFrame, List.find?_map]
      rfl
  rw [hfind, hfind, h]

theorem State.NoRequests.of_tierFrame (hs : s.NoRequests) : t.NoRequests := by
  have hframe : ∀ u : State, u.NoRequests ↔ ∀ x ∈ u.tierFrame.dir, x.2.evreq = false ∧ x.2.invreq = false := fun u => by
    simp only [State.NoRequests, State.tierFrame, List.forall_mem_map]
    rfl
  rw [hframe] at *
  rwa [h]

theorem State.Resident.of_tierFrame {fr : Nat} (hs : s.Resident fr) : t.Resident fr := by
  obtain ⟨n, x, hdir, hst⟩ := hs
  have hmap := dirOf_of_tierFrame h (s.objectOf fr).1
  rw [hdir, Option.map_some, Option.map_eq_some_iff] at hmap
  obtain ⟨⟨m, y⟩, hy, hxy⟩ := hmap
  have hsame : y.st = x.st := congrArg (fun z : Nat × DirEnt => z.2.st) hxy
  exact ⟨m, y, by rw [objectOf_of_tierFrame h, hy], by rwa [hsame]⟩

end

/-- What a table finds is one of its entries. -/
theorem mem_of_sfind {β : Type} {l : SMap β} {k : Nat} {v : β} (h : sfind l k = some v) : (k, v) ∈ l := by
  induction l with
  | nil => cases h
  | cons x r ih =>
    obtain ⟨k', v'⟩ := x
    simp only [sfind] at h
    split at h
    · next hk =>
      cases h
      exact hk ▸ List.mem_cons_self ..
    · exact List.mem_cons_of_mem _ (ih h)

theorem evalRequest_of_noRequests {s : State} (h : s.NoRequests) (n : Nat) : s.evalRequest n = s := by
  unfold State.evalRequest
  split
  · rfl
  · next e he =>
    obtain ⟨hev, hinv⟩ := h (n, e) (mem_of_sfind he)
    simp only at hev hinv
    simp [hev, hinv]

/-- Without requests, pins released change pins alone. -/
theorem tierFrame_unpinAll {s : State} (h : s.NoRequests) (j : Nat) : (s.unpinAll j).tierFrame = s.tierFrame := by
  refine List.foldlRecOn (motive := fun t : State => t.tierFrame = s.tierFrame) s.tier.dir _ rfl fun t ht x _ => ?_
  split
  · have hmod := (tierFrame_dirMod (f := fun e => { e with pins := e.pins.filter (· != j) }) (fun _ => rfl) t x.1).trans ht
    rwa [evalRequest_of_noRequests (h.of_tierFrame hmod)]
  · exact ht

/-- Slot `n` pinned by a lookup of command `j`; a slot that replacement would have taken next is counted (R324, R329). -/
def State.pinSlot (s : State) (n j : Nat) : State :=
  let t := if s.spared n then s.count Fld.TIER_XCNT_CANCELLED 1 else s
  t.dirMod n (fun e => { e with pins := j :: e.pins, age := t.revNow })

theorem tierFrame_pinSlot (s : State) (n j : Nat) : (s.pinSlot n j).tierFrame = s.tierFrame := by
  unfold State.pinSlot
  refine (tierFrame_dirMod ?_ _ n).trans (tierFrame_congr ?_)
  · exact fun _ => rfl
  · split <;> rfl

/-- A read's lookup of a resident object serves it from the slot, which it pins. -/
theorem lookup_of_resident {s : State} {fr : Nat} (h : s.Resident fr) (j : Nat) : ∃ n, s.lookup j fr false = (.serve n, s.pinSlot n j) := by
  obtain ⟨n, x, hdir, hst⟩ := h
  refine ⟨n, ?_⟩
  simp only [State.lookup, hdir]
  obtain hst | hst | hst := hst <;> rw [hst] <;> rfl

/-- A PREFETCH finds the atom of a resident object, and changes pins and ages alone. -/
theorem prefetchAtom_of_resident {s : State} {e : JEntry} {q : Nat} (hr : s.NoRequests)
    (hflash : regionOf (sFarAt e.words (posRow e.words q) (posAtom e.words q)) = .flash)
    (hres : s.Resident (frameOf (sFarAt e.words (posRow e.words q) (posAtom e.words q)))) (j : Nat) :
    ∃ t, s.prefetchAtom j e q = (.moved, t) ∧ t.tierFrame = s.tierFrame := by
  obtain ⟨n, hlookup⟩ := lookup_of_resident hres j
  have hframe := tierFrame_pinSlot s n j
  refine ⟨(s.pinSlot n j).unpinAll j, ?_, (tierFrame_unpinAll (hr.of_tierFrame hframe) j).trans hframe⟩
  simp only [State.prefetchAtom, State.access, hflash, State.accessFlash, hlookup]

/-! Atoms moved one after another. -/

/-- While every atom moves, a stream reaches its limit; what each atom and each change of the record keeps still holds there. -/
theorem moveAtoms_reaches {I : State → Prop} {j lim : Nat} {one : State → Nat → Moving × State} (hrun : ∀ s f, I s → I (s.rmod j f))
    (hone : ∀ s q, I s → q < lim → ∃ t, one s q = (.moved, t) ∧ I t) (fuel : Nat) :
    ∀ {s : State}, I s → lim < (s.run j).pos + fuel → I (s.moveAtoms j one lim fuel) ∧ lim ≤ ((s.moveAtoms j one lim fuel).run j).pos := by
  induction fuel with
  | zero => exact fun hs hfuel => ⟨hs, by simp only [State.moveAtoms]; omega⟩
  | succ fuel ih =>
    intro s hs hfuel
    unfold State.moveAtoms
    dsimp only
    split
    · next hend =>
      exact ⟨hrun _ _ hs, by rwa [run_rmod_same]⟩
    · next hmore =>
      obtain ⟨t, ht, hI⟩ := hone s (s.run j).pos hs (by omega)
      rw [ht]
      refine ih (hrun _ _ hI) ?_
      rw [run_rmod_same]
      dsimp only
      omega

/-- A PREFETCH whose range is resident goes through it, and changes registers, events, the tier's record and its own alone. -/
theorem moveAtoms_prefetch {s : State} {e : JEntry} (hr : s.NoRequests)
    (hres : ∀ q, q < sTotal e.words → regionOf (sFarAt e.words (posRow e.words q) (posAtom e.words q)) = .flash ∧
      s.Resident (frameOf (sFarAt e.words (posRow e.words q) (posAtom e.words q)))) (j : Nat) :
    let t := s.moveAtoms j (fun s pos => s.prefetchAtom j e pos) (sTotal e.words) (sTotal e.words + 1)
    Within 16810178 s t ∧ sTotal e.words ≤ (t.run j).pos := by
  have hreach := moveAtoms_reaches (I := fun t : State => Within 16810178 s t ∧ t.tierFrame = s.tierFrame) (j := j) (lim := sTotal e.words)
    (one := fun s pos => s.prefetchAtom j e pos) (fun t f ht => ⟨ht.1.step (within_rmod t j f), ht.2⟩)
    (fun t q ⟨hwithin, hframe⟩ hq => by
      obtain ⟨hflash, hresident⟩ := hres q hq
      obtain ⟨u, hmoved, hu⟩ := prefetchAtom_of_resident (hr.of_tierFrame hframe) hflash (hresident.of_tierFrame hframe) j
      exact ⟨u, hmoved, hwithin.step (.of_snd hmoved (within_prefetchAtom t j e q)), hu.trans hframe⟩)
    (sTotal e.words + 1) (s := s) ⟨.refl .., rfl⟩ (by omega)
  exact ⟨hreach.1.1, hreach.2⟩

theorem exec_prefetch {s : State} {j p c : Nat} {e : JEntry} (h : s.onChannel j = some (e, p, c)) (ho : tOp e.words = 4) :
    exec (.prefetch j StreamObs.none) s =
      let t := s.moveAtoms j (fun s pos => s.prefetchAtom j e pos) (sTotal e.words) (sTotal e.words + 1)
      .next (if sTotal e.words ≤ (t.run j).pos then t.finish j .ok 0 0 else t) := by
  have herrors : s.streamErrors p StreamObs.none = s := rfl
  show execPrefetch j StreamObs.none s = _
  simp only [execPrefetch, h, ho, ne_eq, not_true_eq_false, if_false, herrors]

/-! The end of an arrival (R213). -/

theorem length_leBytes (n v : Nat) : (leBytes n v).length = n := by
  induction n generalizing v with
  | zero => rfl
  | succ n ih => rw [leBytes, List.length_cons, ih]

theorem length_rbs (s : State) (a n : Nat) : (s.rbs a n).length = n := by
  induction n generalizing a with
  | zero => rfl
  | succ n ih => rw [State.rbs, List.length_cons, ih]

theorem getElem_rbs (s : State) {a n i : Nat} (h : i < (s.rbs a n).length) : (s.rbs a n)[i] = s.rb (a + i) := by
  induction n generalizing a i with
  | zero => cases h
  | succ n ih =>
    cases i with
    | zero => rfl
    | succ i =>
      simp only [State.rbs, List.getElem_cons_succ, ih]
      congr 1
      omega

/-- Bytes written read back as a whole. -/
theorem rbs_wbs_same (s : State) (a : Nat) (bs : List Byte) : (s.wbs a bs).rbs a bs.length = bs :=
  List.ext_getElem (length_rbs ..) fun i _ h => (getElem_rbs ..).trans (rb_wbs_same s a bs i h)

/-- Segments of an arrival delivered one after another: memory and the stream's record stand, and the command stays unfinished. -/
theorem foldl_deliverArrived {s : State} {j : Nat} {e x : JEntry} (h : s.cmd j = some x) (hf : x.fin = none) (l : List Nat) :
    let t := l.foldl (fun (s : State) _ => s.deliverArrived j e) s
    Within 18 s t ∧ ∃ y, t.cmd j = some y ∧ y.fin = none := by
  refine List.foldlRecOn (motive := fun t : State => Within 18 s t ∧ ∃ y, t.cmd j = some y ∧ y.fin = none) l _ ⟨.refl .., x, h, hf⟩ fun t ht _ _ => ?_
  obtain ⟨hwithin, y, hy, hyf⟩ := ht
  exact ⟨hwithin.step (within_deliverArrived ..), _, cmd_deliverArrived hy e, hyf⟩

/-- The last act of a RECEIVE: its row count written and its end. -/
def State.endArrival (s : State) (j p c : Nat) (ws : List Word) (rows : Nat) : State := (s.spPut p c (sLcount ws) (leBytes 4 rows)).finish j .ok 0 0

theorem mem_endArrival (s : State) (j p c : Nat) (ws : List Word) (rows : Nat) :
    (s.endArrival j p c ws rows).mem = (s.wbs (spKey p (sLcount ws)) (leBytes 4 rows)).mem := (within_finish ..).mem_eq

theorem rbs_endArrival (s : State) (j p c : Nat) (ws : List Word) (rows : Nat) : (s.endArrival j p c ws rows).rbs (spKey p (sLcount ws)) 4 = leBytes 4 rows := by
  have hread := rbs_wbs_same s (spKey p (sLcount ws)) (leBytes 4 rows)
  rw [length_leBytes] at hread
  rw [rbs_congr (mem_endArrival ..), hread]

theorem bytesBut_endArrival (s : State) (j p c : Nat) (ws : List Word) (rows : Nat) : BytesBut (spKey p (sLcount ws)) 4 s (s.endArrival j p c ws rows) := by
  intro x hx
  unfold State.rb
  rw [mem_endArrival]
  exact rb_wbs_other s _ _ (by rwa [length_leBytes])

theorem ranTo_endArrival {s : State} {j : Nat} {e : JEntry} (h : s.cmd j = some e) (hf : e.fin = none) (p c : Nat) (ws : List Word) (rows : Nat) :
    (s.endArrival j p c ws rows).RanTo j .ok :=
  ranTo_finish .ok 0 0 (((within_spPut ..).cmd_eq j).trans h) hf

theorem exec_receive_ended {s : State} {j p c : Nat} {e : JEntry} (h : s.onChannel j = some (e, p, c)) (ho : tOp e.words = 5) (hs : (s.run j).staged = true) :
    let got := (s.run j).got
    exec (.receive j) s =
      .next (((numsFrom 0 (recvSegments e.words got true - e.segs)).foldl (fun (s : State) _ => s.deliverArrived j e) s).endArrival j p c e.words
        (got / max 1 (arrRowBytes e.words))) := by
  intro got
  show execReceive j s = _
  simp only [execReceive, h, ho, hs, ne_eq, not_true_eq_false, if_false]
  rfl

theorem exec_receive_unbegun {s : State} {j p c : Nat} {e : JEntry} (h : s.onChannel j = some (e, p, c)) (ho : tOp e.words = 5)
    (hs : (s.run j).staged = false) (ha : (s.run j).arrival = none) : exec (.receive j) s = .next (s.rmod j (fun r => { r with wait := .arrival })) := by
  show execReceive j s = _
  simp [execReceive, h, ho, hs, ha]

/-! Halts and resumes (R219 to R221). -/

theorem exec_halt {s : State} {j p c n : Nat} {e : JEntry} (h : s.onChannel j = some (e, p, c)) (hr : haltReason (s.run j).wait ≠ 0)
    (hw : s.waitOver e (s.run j) = false) (hn : s.freeHalt e.tile = some n) :
    let reason := haltReason (s.run j).wait
    exec (.halt j) s =
      .next (((s.jmod j (fun e => { e with unit := .none })).rmod j (fun r => { r with halt := some (n, reason), full := false })).countHalt p reason) := by
  show execHalt j s = _
  simp [execHalt, h, hr, hw, hn]

theorem exec_streamResume {s : State} {t c j : Nat} {e : JEntry} (ht : t < 64) (hl : s.live = true) (hu : s.unitDown 3 t = false) (hm : s.mapped t = true)
    (hc : s.freeChannel t = some c) (hj : (s.streamsOf t).find? (fun x => s.resumable x.2 (s.run x.1)) = some (j, e)) :
    let back := (s.run j).released
    exec (.streamResume t) s =
      .next (((s.takeResv t j back).jmod j (fun x => { x with unit := .channel c, resv := x.resv ++ back })).rmod j
        (fun r => { r with halt := none, released := [], wait := .ready })) := by
  show execStreamResume t s = _
  simp [execStreamResume, Nat.not_le.mpr ht, hc, hj, hl, hu, hm]

/-- The streams of a tile are commands of the journal. -/
theorem cmd_of_mem_streamsOf {s : State} (hw : s.Canonical) {t j : Nat} {e : JEntry} (h : (j, e) ∈ s.streamsOf t) : s.cmd j = some e :=
  sfind_of_mem hw.2.2.2 (List.mem_filter.mp h).1

/-! The credit watchdog (R225). -/

/-- The examination's last act: each stream of the list is noted as blocked or not. -/
def State.noteBlocked (l : List (Nat × JEntry)) (s : State) : State :=
  l.foldl (fun (s : State) x => s.rmod x.1 (fun r => { r with blocked := s.isBlocked x.1 x.2 && r.halt.all (fun h => h.2 != 5) })) s

theorem within_noteBlocked (l : List (Nat × JEntry)) (s : State) : Within 16777216 s (s.noteBlocked l) := .foldl (.refl ..) fun _ _ => within_rmod ..

theorem run_noteBlocked (l : List (Nat × JEntry)) (s : State) (j : Nat) :
    ((s.noteBlocked l).run j).halt = (s.run j).halt ∧ ((s.noteBlocked l).run j).released = (s.run j).released := by
  refine List.foldlRecOn (motive := fun t : State => (t.run j).halt = (s.run j).halt ∧ (t.run j).released = (s.run j).released) l _ ⟨rfl, rfl⟩ fun t ht x _ => ?_
  by_cases hx : j = x.1
  · subst hx
    rwa [run_rmod_same]
  · rwa [run_rmod_other _ _ hx]

theorem exec_creditWatchdog {s : State} {t p n j : Nat} {e : JEntry} (ht : t < 64) (hp : s.phys t = some p)
    (hj : (((s.streamsOf t).filter (fun x => (s.run x.1).blocked && s.isBlocked x.1 x.2 && s.conflicts x.2)).filter (fun x => watchdogEligible x.2)).getLast? = some (j, e))
    (hh : (s.run j).halt = none) (hn : s.freeHalt t = some n) :
    exec (.creditWatchdog t) s = .next ((s.watchdogHalt j e p n).noteBlocked (s.streamsOf t)) := by
  show execCreditWatchdog t s = _
  simp only [execCreditWatchdog, Nat.not_le.mpr ht, if_false, hp, hj, hh, Option.map_none, Option.orElse_none, hn]
  rfl

theorem within_freeResvs (s : State) (t : Nat) (l : List Nat) : Within 1048576 s (l.foldl (fun (s : State) r => s.freeResv t r) s) :=
  .foldl (.refl ..) fun _ _ => within_freeResv ..

theorem cmd_watchdogHalt {s : State} {j : Nat} {e : JEntry} (h : s.cmd j = some e) (p n : Nat) :
    (s.watchdogHalt j e p n).cmd j = some { e with unit := .none, resv := [] } := by
  have hfreed := (within_freeResvs s e.tile e.resv).cmd_eq j
  show (State.jmod _ j _).cmd j = _
  rw [cmd_jmod_same, hfreed, h]
  rfl

theorem run_watchdogHalt (s : State) (j : Nat) (e : JEntry) (p n : Nat) :
    ((s.watchdogHalt j e p n).run j).halt = some (n, 5) ∧ ((s.watchdogHalt j e p n).run j).released = e.resv := by
  have hrun : ∀ (u : State) (f : StreamRun → StreamRun), ((u.rmod j f).count (Fld.STR_WDOGCNT_HALTS p) 1).run j = f (u.run j) := fun u f => run_rmod_same u j f
  unfold State.watchdogHalt
  simp only [hrun, and_self]

theorem get_watchdogHalt (s : State) (j : Nat) (e : JEntry) (p n : Nat) :
    (s.watchdogHalt j e p n).get (Fld.STR_WDOGCNT_HALTS p) = min (2 ^ (Fld.STR_WDOGCNT_HALTS p).n - 1) (s.get (Fld.STR_WDOGCNT_HALTS p) + 1) := by
  have hfreed : (e.resv.foldl (fun (s : State) r => s.freeResv e.tile r) s).get (Fld.STR_WDOGCNT_HALTS p) = s.get (Fld.STR_WDOGCNT_HALTS p) := by
    unfold State.get
    rw [(within_freeResvs s e.tile e.resv).reg_eq]
  rw [← hfreed]
  exact get_count_min _ _ _ (show 32 + 32 ≤ 64 by decide)

end Sys2Proof.Machine

open Sys2Proof Sys2Proof.Machine

/-- Settles O22: segments and arrivals raise the progress mark and end by `finish`; a PREFETCH whose objects are resident moves every atom, since its lookups change pins and ages alone; halts, resumes and the watchdog each change one stream. -/
theorem streamsEndAndHalt : Obligations.StreamsEndAndHalt := by
  refine ⟨⟨fun s j e _ hcmd hstream hst hfin hlive hup ho hdone _ hp => ⟨fun hmore => ?segment, fun hlast => ?lastSegment⟩,
      fun s j e hcmd hstream hst hfin hlive hup ho hgot _ hp => ?arrivedSegment,
      fun s j p c e _ hon ho hreq _ hres => ?prefetch,
      fun s j p c e _ hon ho => ⟨fun hs => ?arrivalEnded, fun hs ha => ?arrivalUnbegun⟩⟩,
    fun s j p c n e hon hr hw hn => ?halt,
    fun s t c j e hcan ht hl hu hm hc hj => ?resume,
    fun s t p n j e hcan ht hp hj hh hn => ?watchdog⟩
  case segment =>
    have hnext : exec (.segmentDelivered j) s = .next ((s.deliverArrived j e).rmod j (fun r => { r with credited := false, staged := false })) := by
      rw [exec_segmentDelivered hcmd hstream hst hfin hlive hup, if_neg ho, if_pos hdone, deliverSegment_eq, if_neg (by omega)]
    refine ⟨_, hnext, cmd_deliverArrived hcmd e, fun hn => markCount_deliverArrived hp hn j, ?_, ?_⟩
    · rw [run_rmod_same]
    · exact Within.sameBut (m := 16777234) (.step ((within_deliverArrived ..).mono (by decide)) (within_rmod ..))
  case lastSegment =>
    refine ⟨s.deliverSegment j e, by rw [exec_segmentDelivered hcmd hstream hst hfin hlive hup, if_neg ho, if_pos hdone], ?_, (within_deliverSegment ..).mem_eq⟩
    rw [deliverSegment_eq, if_pos hlast]
    exact ranTo_finish .ok 0 0 (cmd_deliverArrived hcmd e) hfin
  case arrivedSegment =>
    refine ⟨s.deliverArrived j e, ?_, cmd_deliverArrived hcmd e, fun hn => markCount_deliverArrived hp hn j, (within_deliverArrived ..).sameBut⟩
    rw [exec_segmentDelivered hcmd hstream hst hfin hlive hup, if_pos ho, if_pos hgot]
  case prefetch =>
    have hruns := runs_of_onChannel hon
    obtain ⟨hwithin, hend⟩ := moveAtoms_prefetch hreq hres j
    refine ⟨_, (exec_prefetch hon ho).trans (congrArg Host.Outcome.next (if_pos hend)), ?_, (within_finish ..).mem_eq.trans hwithin.mem_eq⟩
    exact ranTo_finish .ok 0 0 ((hwithin.cmd_eq j).trans hruns.entry) hruns.unended
  case arrivalEnded =>
    have hruns := runs_of_onChannel hon
    obtain ⟨hwithin, x, hx, hxf⟩ := foldl_deliverArrived (e := e) hruns.entry hruns.unended (numsFrom 0 (recvSegments e.words (s.run j).got true - e.segs))
    exact ⟨_, exec_receive_ended hon ho hs, ranTo_endArrival hx hxf _ _ _ _, rbs_endArrival .., fun a ha => (bytesBut_endArrival _ _ _ _ _ _ a ha).trans (hwithin.rb_eq a)⟩
  case arrivalUnbegun =>
    exact ⟨_, exec_receive_unbegun hon ho hs ha, by rw [run_rmod_same], (within_rmod ..).sameBut⟩
  case halt =>
    refine ⟨_, exec_halt hon hr hw hn, ?_, ?_, ?_, ?_⟩
    · rw [(within_countHalt ..).cmd_eq]
      show (s.jmod j _).cmd j = _
      rw [cmd_jmod_same, (runs_of_onChannel hon).entry, Option.map_some]
    · rw [(within_countHalt ..).run_eq, run_rmod_same]
    · rw [(within_countHalt ..).run_eq, run_rmod_same]
      rfl
    · exact Within.sameBut (m := 16777234) (.step (.step ((within_jmod ..).mono (by decide)) (within_rmod ..)) (within_countHalt ..))
  case resume =>
    have hcmd := cmd_of_mem_streamsOf hcan (List.mem_of_find?_eq_some hj)
    have htaken := within_takeResv s t j (s.run j).released
    refine ⟨_, exec_streamResume ht hl hu hm hc hj, ?_, ?_, ?_, ?_, htaken.mem_eq⟩
    · show (State.jmod _ j _).cmd j = _
      rw [cmd_jmod_same, htaken.cmd_eq, hcmd, Option.map_some]
    · rw [run_rmod_same]
    · rw [run_rmod_same]
    · rw [run_rmod_same]
      exact (congrArg StreamRun.pos (htaken.run_eq j) :)
  case watchdog =>
    have hcmd := cmd_of_mem_streamsOf hcan (List.mem_filter.mp (List.mem_filter.mp (List.mem_of_getLast? hj)).1).1
    have hnoted := within_noteBlocked (s.streamsOf t) (s.watchdogHalt j e p n)
    obtain ⟨hhalt, hreleased⟩ := run_noteBlocked (s.streamsOf t) (s.watchdogHalt j e p n) j
    obtain ⟨hslot, hresv⟩ := run_watchdogHalt s j e p n
    refine ⟨_, exec_creditWatchdog ht hp hj hh hn, (hnoted.cmd_eq j).trans (cmd_watchdogHalt hcmd p n), hhalt.trans hslot, hreleased.trans hresv, ?_,
      hnoted.mem_eq.trans (within_watchdogHalt ..).mem_eq⟩
    refine Eq.trans ?_ (get_watchdogHalt s j e p n)
    unfold State.get
    rw [hnoted.reg_eq]

end

section
/-! PROOFS. Route jobs over a relocated chunk (R243 to R252, R258, R329, R337): the pins that a job's first access gives up can take the chunk's copy away from its next. -/

set_option Elab.async false

namespace Sys2Proof.Machine

/-! DRAM ranges that serve in place. -/

theorem plain_of_dramA {s : State} {a n : Nat} (hr : regionOf a = .dramA) (hd : s.dramRange a n = .served) : s.Plain a n a := .inl ⟨.inl hr, hd, rfl⟩

/-- Every write of a list whose ranges serve in place goes to plain memory. -/
theorem plain_of_allDramA {s : State} {l : List (Nat × List Byte)} (h : ∀ w ∈ l, regionOf w.1 = .dramA ∧ s.dramRange w.1 w.2.length = .served) :
    ∀ w ∈ l, ∃ k, s.Plain w.1 w.2.length k :=
  fun w hw => ⟨w.1, plain_of_dramA (h w hw).1 (h w hw).2⟩

/-! A route job whose pin keeps a relocated chunk. -/

/-- A route plans section of one plan: cluster 0, layer slot 0, one expert, one copy a token, output rows of 16 bytes. -/
def onePlan : List Byte :=
  bytesOfWords [1, 0, 0, 0, 0, 0, 0, 0, wordOf [(45, 11, 1), (40, 5, 1)], wordOf [(17, 16, 1)], 0, 0, 0, 0, 0, 0]

/-- A package that runs, with that section applied. -/
def plannedPackage : State :=
  { State.reset with
    sections := [⟨6, 0, 0, onePlan⟩]
    power := { PowerState.reset with phase := .running, down := [] } }

/-- The words of a forward job of one token: its scores and its output row lie from device address 4096 on, its tag, its planes and its staged row from 0. -/
def oneTokenWords : List Word :=
  [0, 0, 0, 0, wordOf [(49, 15, 1)], wordOf [(16, 48, 256)], 0, 0, 0, 0, wordOf [(16, 48, 256)], 0, 0, 0, 0, 0]

/-- That job in the journal. -/
def oneTokenJob (st : CmdState) : JEntry := { acceptedLoad with target := .drover 0, words := oneTokenWords, st := st }

/-- The job as command 1 with record `r`. Device address 4096 lies in the chunk that `pinnedCopy` holds: the job pins that slot, and the slot's invalidation, requested, waits for the pin. -/
def pinningJob (st : CmdState) (r : RouteRun) : State :=
  { plannedPackage with
    journal := [(1, oneTokenJob st)]
    tier := relocatedSource.tier
    drover := ⟨[], [(1, r)], []⟩ }

/-- The job just accepted. -/
def waitingJob : State := pinningJob .accepted (RouteRun.start 0 0 .wait)

/-- The job's record once its row is staged. -/
def stagedRun : RouteRun := { RouteRun.start 0 0 .combine with rows := 1 }

/-- The job about to combine its row. -/
def combiningJob : State := pinningJob .dispatched stagedRun

theorem routeOf_waitingJob : waitingJob.routeOf 1 = some (oneTokenJob .accepted, RouteRun.start 0 0 .wait, routePlan onePlan 0) := by decide +kernel

theorem routeOf_combiningJob : combiningJob.routeOf 1 = some (oneTokenJob .dispatched, stagedRun, routePlan onePlan 0) := by decide +kernel

/-- The job reads its tag and then waits in SELECT for the chunk of its scores. -/
theorem routeJob_waitingJob : (sfind (nextOr waitingJob (exec (.routeJob 1) waitingJob)).drover.jobs 1).map RouteRun.st = some .select := by decide +kernel

/-- The job reads its staged row and then waits for the chunk of its output row. -/
theorem combine_combiningJob : ((nextOr combiningJob (exec (.combine 1) combiningJob)).cmd 1).map JEntry.fin = some none := by decide +kernel

end Sys2Proof.Machine

open Sys2Proof Sys2Proof.Machine

/-- Refutes O24, by its clause on a job that leaves WAIT: no hypothesis keeps the job from holding a pin under which an invalidation waits. The read of the tag gives the pin up, the invalidation frees the slot that holds the relocated chunk of the scores, and the job stays in SELECT until that chunk is copied. -/
theorem not_routeJobRule : ¬ Obligations.RouteJobRule := by
  rintro ⟨hselect, -⟩
  have hscores : ∀ i, i < 1 → waitingJob.Clean (4096 + i * 16) 4 4096 := fun i hi => by
    obtain rfl : i = 0 := Nat.lt_one_iff.mp hi
    exact clean_of_dramA (by decide) (by decide +kernel) (by decide +kernel)
  obtain ⟨t, hnext, r, hjob, hbuild, -⟩ := hselect waitingJob 1 _ _ _ 0 (fun _ => 4096) routeOf_waitingJob rfl (by decide +kernel) (by decide +kernel) (by decide +kernel)
    rfl (by decide +kernel) (by decide +kernel) (by decide +kernel) (by decide +kernel) (by decide +kernel)
    (clean_of_dramA (by decide +kernel) (by decide +kernel) (by decide +kernel)) hscores (by decide +kernel) (plain_of_allDramA (by decide +kernel))
  have hwaits := routeJob_waitingJob
  rw [hnext] at hwaits
  simp [nextOr, hjob, hbuild] at hwaits

/-- Refutes O25, by its clause on COMBINE: no hypothesis keeps the job from holding a pin under which an invalidation waits. The read of the staged row gives the pin up, the invalidation frees the slot that holds the relocated chunk of the output row, and the job does not end until that chunk is copied. -/
theorem not_scatterAndCombine : ¬ Obligations.ScatterAndCombine := by
  rintro ⟨-, hcombine⟩
  obtain ⟨t, hnext, ⟨e, hcmd, -, hfin, -⟩, -⟩ := hcombine combiningJob 1 0 4096 _ _ _ routeOf_combiningJob rfl rfl rfl rfl rfl rfl
    (fun i hi => by
      obtain rfl : i = 0 := Nat.lt_one_iff.mp hi
      exact ⟨clean_of_dramA (by decide +kernel) (by decide +kernel) (by decide +kernel), by decide +kernel, plain_of_dramA (by decide +kernel) (by decide +kernel)⟩)
    (by decide +kernel)
  have hunended := combine_combiningJob
  rw [hnext] at hunended
  simp [nextOr, hcmd, hfin] at hunended

end

section
/-! PROOFS. The close of a step (R248, R264): what a layer slot's close leaves of a table that lists an expert twice. -/

set_option Elab.async false

namespace Sys2Proof.Machine

/-- An expert that only the step before the open one counted: its close leaves it fresh. -/
def idleExpert : ExpertSt := { ExpertSt.fresh with prev := 1 }

/-- An expert that the open step has counted. -/
def countedExpert : ExpertSt := { ExpertSt.fresh with cur := 1 }

/-- Layer slot 0 of cluster 0 with step 7 open, listing expert 0 twice. -/
def doubledSlot : LayerSlot := ⟨true, some 7, 0, [(0, idleExpert), (0, countedExpert)]⟩

/-- A package with that slot, where the verdict skip has arrived for step 7. -/
def doubledExpert : State :=
  { plannedPackage with
    drover := ⟨[(0, doubledSlot)], [], []⟩
    net := { NetState.reset with vote := { NetState.reset.vote with delivered := [(7, 2)] } } }

/-- The first entry becomes fresh and leaves the table, and the second takes its place. -/
theorem expert_stepClose_doubledExpert :
    ((nextOr doubledExpert (exec (.stepClose 0 0) doubledExpert)).layer 0 0).expert 0 = countedExpert.roll := by decide +kernel

end Sys2Proof.Machine

open Sys2Proof Sys2Proof.Machine

/-- Refutes O26, by its clause on the verdict skip: no hypothesis says that a layer slot lists an expert once. An expert that the close leaves fresh leaves the table, and what a second entry says of the expert, hidden till then, becomes its state. -/
theorem not_stepCloseRule : ¬ Obligations.StepCloseRule := by
  rintro ⟨hskip, -, -⟩
  obtain ⟨t, hnext, -, -, hexperts, -⟩ := hskip doubledExpert 0 0 7 (by decide) (by decide) (by decide +kernel) (by decide +kernel) (by decide +kernel) (by decide +kernel)
    (by decide +kernel) (by decide +kernel)
  have hlast := expert_stepClose_doubledExpert
  rw [hnext] at hlast
  have hrolled : countedExpert.roll = idleExpert.roll := hlast.symm.trans (hexperts 0)
  exact absurd hrolled (by decide)

end

section
/-! PROOFS. Gradient accumulation (R214, R272, R275): the room that a segment's own credit can take from its staging. -/

set_option Elab.async false

namespace Sys2Proof.Machine

/-- The words of a STREAM ACCUM from local offset 0 to device address 0: one row of 32 values of 32 bits, each segment asking pool 0 for a credit. -/
def accumWords : List Word :=
  [wordOf [(56, 8, 4), (48, 8, 3)], 0, 0, 0, wordOf [(60, 4, 1), (57, 3, 4), (0, 40, 1)], wordOf [(48, 16, 1), (0, 40, 32)], wordOf [(48, 1, 1)], 0, 0, 0,
    wordOf [(39, 25, 32), (14, 25, 1)], wordOf [(39, 25, 1), (14, 25, 1)], wordOf [(39, 25, 1), (14, 25, 1)], 0, wordOf [(24, 20, 8)], 0]

/-- That ACCUM in the journal, dispatched on channel 0 of logical tile 0. -/
def runningAccum : JEntry := { loopbackStore with words := accumWords }

/-- The record of a stream that holds 1,024 blocks on stack 0: half of what the staging buffer of its base die takes. -/
def halfStaged : StreamRun := { StreamRun.start with held := List.replicate 1024 ⟨0, 0, 0, []⟩ }

/-- A package that runs, with one credit in pool 0. The streams' table is out of order: the ACCUM's record stands after one of a higher number. -/
def unsortedStreams : State :=
  { State.reset with
    regs := [(Reg.TILE_CREDIT 0 0, 1)]
    tileMap := some 0 :: List.replicate 63 none
    journal := [(1, runningAccum)]
    streams := [(2, StreamRun.start), (1, halfStaged)]
    power := { PowerState.reset with phase := .running, down := [] } }

theorem onChannel_unsortedStreams : unsortedStreams.onChannel 1 = some (runningAccum, 0, 0) := by decide +kernel

/-- The segment in hand is one block. -/
theorem gStage_unsortedStreams :
    unsortedStreams.gStage 0 runningAccum (numsFrom (unsortedStreams.run 1).pos (sSegEnd runningAccum.words runningAccum.segs - (unsortedStreams.run 1).pos)) =
      some [⟨0, 0, 0, List.replicate 32 0⟩] := by
  decide +kernel

/-- Before the ACCUM runs there is room for it beside the 1,024 blocks. -/
theorem stagingRoom_unsortedStreams : unsortedStreams.stagingRoom [⟨0, 0, 0, List.replicate 32 0⟩] = true := by decide +kernel

/-- The credit of the segment is noted in a second record of the ACCUM, the held blocks count twice, and nothing is staged. -/
theorem accum_unsortedStreams : ((nextOr unsortedStreams (exec (.accum 1 StreamObs.none) unsortedStreams)).run 1).staged = false := by decide +kernel

end Sys2Proof.Machine

open Sys2Proof Sys2Proof.Machine

/-- Refutes O23, by its clause on ACCUM: no hypothesis says that the streams' table lists a number once. Where the record stands out of order, the credit of the segment in hand is noted in a second one, and the blocks that both hold leave the segment no room. -/
theorem not_gradientRule : ¬ Obligations.GradientRule := by
  rintro ⟨hstage, -, -⟩
  obtain ⟨t, hnext, hstaged, -⟩ := hstage unsortedStreams 1 0 0 runningAccum _ onChannel_unsortedStreams (by decide +kernel) (by decide +kernel) (by decide +kernel)
    (by decide +kernel) (by decide +kernel) gStage_unsortedStreams stagingRoom_unsortedStreams
  have hunstaged := accum_unsortedStreams
  rw [hnext] at hunstaged
  exact absurd (hunstaged.symm.trans hstaged) (by decide)

end

section
/-! PROOFS. The registers of the Wheel and of the collective unit (R280 to R286, R441): what ends a command, subtracts its waits or gives up its pins leaves them alone. -/

set_option Elab.async false

namespace Sys2Proof.Machine

/-- A register of WHL, of the exchange path or of COL, by its BAR0 offset. -/
def ColReg (a : Nat) : Prop := 0x60000 ≤ a ∧ a < 0x80000

theorem ColReg.quiet {a : Nat} (h : ColReg a) : Quiet a :=
  .of_range (by have := h.1; omega) (.inr (by have := h.1; omega)) (.inl (by have := h.2; omega)) (by have := h.2; omega)

/-- Those registers hold in `t` what they hold in `s`. -/
structure State.KeepsCol (s t : State) : Prop where
  reg : ∀ a, ColReg a → t.reg a = s.reg a

namespace State.KeepsCol

theorem refl (s : State) : s.KeepsCol s := ⟨fun _ _ => rfl⟩

theorem trans {a b c : State} (h : a.KeepsCol b) (k : b.KeepsCol c) : a.KeepsCol c := ⟨fun r hr => (k.reg r hr).trans (h.reg r hr)⟩

theorem of_regs {s t : State} (h : t.regs = s.regs) : s.KeepsCol t := ⟨fun _ _ => by rw [State.reg, State.reg, h]⟩

theorem of_within {m : Nat} {s t : State} (h : Within m s t) (hm : m.testBit 1 = false := by decide) : s.KeepsCol t := ⟨fun a _ => h.reg_eq a hm⟩

theorem get {s t : State} (h : s.KeepsCol t) (f : Fld) (hf : ColReg f.reg) : t.get f = s.get f := by
  unfold State.get
  rw [h.reg _ hf]

theorem foldl {α : Type} {f : State → α → State} (l : List α) (s : State) (hf : ∀ (t : State) (x : α), t.KeepsCol (f t x)) : s.KeepsCol (l.foldl f s) :=
  List.foldlRecOn (motive := fun t => s.KeepsCol t) l _ (refl s) fun t ht x _ => ht.trans (hf t x)

theorem ite {c : Prop} [Decidable c] {s t u : State} (ht : s.KeepsCol t) (hu : s.KeepsCol u) : s.KeepsCol (if c then t else u) := by
  split <;> assumption

end State.KeepsCol

theorem keepsCol_set (s : State) (f : Fld) (v : Nat) (hf : f.reg < 0x60000 ∨ 0x80000 ≤ f.reg) : s.KeepsCol (s.set f v) :=
  ⟨fun a ha => reg_set_other s v (by obtain ⟨hlow, hhigh⟩ := ha; omega)⟩

theorem keepsCol_count (s : State) (f : Fld) (k : Nat) (hf : f.reg < 0x60000 ∨ 0x80000 ≤ f.reg) : s.KeepsCol (s.count f k) := keepsCol_set s f _ hf

theorem keepsCol_raise (s : State) (e : Event) (inst : Nat) (d0 d1 : Word) : s.KeepsCol (s.raise e inst d0 d1) :=
  ⟨fun _ ha => reg_raise s e inst d0 d1 ha.quiet⟩

/-! Marks and pools lie above. -/

theorem mark_high (t m : Nat) : 0x80000 ≤ Reg.TILE_MARK t m := by
  simp only [Reg.TILE_MARK]
  omega

theorem credit_high (t q : Nat) : 0x80000 ≤ Reg.TILE_CREDIT t q := by
  simp only [Reg.TILE_CREDIT]
  omega

theorem keepsCol_raiseCount (s : State) (t : Nat) {f : Fld} (n : Nat) {overflows last : Nat → Fld} (i : Nat) (hf : 0x80000 ≤ f.reg)
    (ho : ∀ p, 0x80000 ≤ (overflows p).reg) (hl : ∀ p, 0x80000 ≤ (last p).reg) : s.KeepsCol (s.raiseCount t f n overflows last i) := by
  have hset : ∀ v, s.KeepsCol (s.set f v) := fun v => keepsCol_set s f v (.inr hf)
  unfold State.raiseCount
  refine .ite ?_ (hset _)
  split
  · next p _ => exact ((hset _).trans (keepsCol_count _ _ _ (.inr (ho p)))).trans (keepsCol_set _ _ _ (.inr (hl p)))
  · exact hset _

theorem keepsCol_raiseMark (s : State) (t m inc : Nat) : s.KeepsCol (s.raiseMark t m inc) := by
  have ho : ∀ p, 0x80000 ≤ Reg.TILE_MARKOVF p := fun p => by simp only [Reg.TILE_MARKOVF]; omega
  exact keepsCol_raiseCount s t inc m (mark_high t m) ho ho

theorem keepsCol_giveCredit (s : State) (t q n : Nat) : s.KeepsCol (s.giveCredit t q n) := by
  have ho : ∀ p, 0x80000 ≤ Reg.TILE_CRDOVF p := fun p => by simp only [Reg.TILE_CRDOVF]; omega
  exact keepsCol_raiseCount s t n q (credit_high t q) ho ho

theorem keepsCol_signalMarks (s : State) (t : Nat) (l : List Slot) : s.KeepsCol (s.signalMarks t l) :=
  .foldl _ s fun u x => keepsCol_raiseMark u t x.idx x.n

theorem keepsCol_poisonSignals (s : State) (e : JEntry) : s.KeepsCol (s.poisonSignals e) :=
  .ite (.refl s) (.foldl _ s fun u x => keepsCol_set u (Fld.TILE_MARK_POISON e.dstTile x.idx) 1 (.inr (mark_high _ _)))

theorem keepsCol_consumeWaits (s : State) (t : Nat) (l : List Slot) : s.KeepsCol (s.consumeWaits t l) :=
  .foldl _ s fun u x => keepsCol_set u (Fld.TILE_MARK_COUNT t x.idx) _ (.inr (mark_high _ _))

/-! The end of a command (R3, R180, R184). -/

theorem keepsCol_applyMarkSet (s : State) (t : Nat) (w : Word) : s.KeepsCol (s.applyMarkSet t w) := by
  have hcount := keepsCol_set s (Fld.TILE_MARK_COUNT t (bits w 56 6)) (bits w 40 16) (.inr (mark_high _ _))
  exact .ite (hcount.trans (keepsCol_set _ (Fld.TILE_MARK_POISON t (bits w 56 6)) 0 (.inr (mark_high _ _)))) hcount

theorem keepsCol_controlCommit (s : State) (e : JEntry) : s.KeepsCol (s.controlCommit e) := by
  have hmarks := State.KeepsCol.foldl (setEntries e.words) s fun u w => keepsCol_applyMarkSet u e.tile w
  have hcredits := State.KeepsCol.foldl (setEntries e.words) s fun u w => keepsCol_set u (Fld.TILE_CREDIT_COUNT e.tile (bits w 56 5)) (bits w 40 16) (.inr (credit_high _ _))
  exact .ite hmarks (.ite hcredits (.refl s))

theorem keepsCol_commitResv (s : State) (t j : Nat) (ws : List Word) : s.KeepsCol (s.commitResv t j ws) := by
  have herr : ∀ p, 0x80000 ≤ Reg.STR_RESVERR p := fun p => by simp only [Reg.STR_RESVERR]; omega
  refine .foldl _ s fun u x => ?_
  split
  · exact .ite (.of_regs rfl) (.refl u)
  · exact .ite (.of_regs rfl) (.refl u)
  · exact .of_regs rfl
  · split
    · next p _ => exact (keepsCol_count u (Fld.STR_RESVERR_COUNT p) 1 (.inr (herr p))).trans (keepsCol_set _ (Fld.STR_RESVERR_RECORD p) _ (.inr (herr p)))
    · exact .refl u
  · exact .refl u

theorem keepsCol_settleOne (s : State) (j : Nat) (e : JEntry) (n : Nat) : s.KeepsCol (s.settleOne j e n) := by
  have hsignal := (keepsCol_controlCommit s e).trans (keepsCol_signalMarks _ e.dstTile e.sigs)
  have hresv := State.KeepsCol.ite (c := e.isStream = true) (hsignal.trans (keepsCol_commitResv _ e.tile j e.words)) hsignal
  unfold State.settleOne
  refine .trans (.ite ?_ ?_) (.of_within (within_jmod ..))
  · exact .ite (hresv.trans (keepsCol_giveCredit ..)) hresv
  · exact (State.KeepsCol.of_within (within_dropResv s j)).trans (keepsCol_poisonSignals _ e)

theorem keepsCol_releaseBufs (s : State) (j : Nat) (p : HeldBuf → Bool) : s.KeepsCol (s.releaseBufs j p) := by
  unfold State.releaseBufs
  split
  · exact .refl s
  · refine .trans (.foldl _ s fun u h => ?_) (.of_within (within_routeMod ..))
    exact (keepsCol_giveCredit u h.tile h.pool 1).trans (.of_regs rfl)

theorem keepsCol_failRoute (s : State) (j : Nat) : s.KeepsCol (s.failRoute j) := by
  unfold State.failRoute
  split
  · refine .ite (.refl s) ?_
    exact ((keepsCol_releaseBufs s j _).trans (.of_within (within_jmod ..))).trans ((keepsCol_settleOne ..).trans (.of_within (within_routeMod ..)))
  · exact .refl s

theorem keepsCol_settle (s : State) (j : Nat) (e : JEntry) (n : Nat) : s.KeepsCol (s.settle j e n) := by
  have hone := keepsCol_settleOne s j e n
  exact .ite hone (hone.trans (((State.KeepsCol.of_within (within_routeMod ..)).trans (.of_within (within_jdel ..))).trans (keepsCol_failRoute ..)))

theorem keepsCol_settleFrom (l : List (Nat × JEntry)) (s : State) : s.KeepsCol (s.settleFrom l) := by
  induction l generalizing s with
  | nil => exact .refl s
  | cons x r ih =>
    obtain ⟨j, e⟩ := x
    unfold State.settleFrom
    split
    · exact (keepsCol_settle ..).trans (ih _)
    · exact .refl s

/-! The tier controller's part: pins given up and requests carried out (R323, R329). -/

theorem keepsCol_checkTierOp (s : State) : s.KeepsCol s.checkTierOp := by
  have hend : ∀ code, s.KeepsCol (s.endTierOp code) := fun code =>
    ((State.KeepsCol.of_within (within_tmod ..)).trans (keepsCol_set _ Fld.TIER_OPSTAT_CODE code (by decide))).trans (keepsCol_raise ..)
  unfold State.checkTierOp
  split
  · exact .refl s
  · exact .ite (hend _) (.refl s)

theorem keepsCol_opFinished (s : State) (n : Nat) : s.KeepsCol (s.opFinished n) := by
  unfold State.opFinished
  split
  · exact .refl s
  · exact .ite (.refl s) (((keepsCol_count s Fld.TIER_OPSTAT_OBJECTS 1 (by decide)).trans (.of_within (within_tmod ..))).trans (keepsCol_checkTierOp _))

theorem keepsCol_opFailed (s : State) (n : Nat) : s.KeepsCol (s.opFailed n) := by
  unfold State.opFailed
  split
  · exact .refl s
  · exact .ite (.refl s) ((State.KeepsCol.of_within (within_tmod ..)).trans (keepsCol_checkTierOp _))

theorem keepsCol_startWriteBack {s t : State} {n : Nat} {st : DirSt} (h : s.startWriteBack n st = some t) : s.KeepsCol t :=
  .of_within (Within.of_some (b := s) h (within_startWriteBack s n st))

theorem keepsCol_evalRequest (s : State) (n : Nat) : s.KeepsCol (s.evalRequest n) := by
  have hfree : s.KeepsCol (s.dirFree n) := .of_within (within_dirFree ..)
  have hclean : s.KeepsCol (s.freeClean n) := (hfree.trans (keepsCol_count _ Fld.TIER_EVCNT_CLEAN 1 (by decide))).trans (keepsCol_opFinished ..)
  unfold State.evalRequest
  split
  · exact .refl s
  · refine .ite (.refl s) (.ite (hfree.trans (keepsCol_opFinished ..)) (.ite ?_ (.refl s)))
    split
    · exact hclean
    · split
      · next h => exact keepsCol_startWriteBack h
      · exact (State.KeepsCol.of_within (within_dirMod ..)).trans (keepsCol_opFailed ..)
    · exact .refl s

theorem keepsCol_unpinAll (s : State) (j : Nat) : s.KeepsCol (s.unpinAll j) :=
  .foldl _ s fun t _ => .ite ((State.KeepsCol.of_within (within_dirMod ..)).trans (keepsCol_evalRequest ..)) (.refl t)

/-- A stream's end gives up its pins and its record. -/
theorem keepsCol_endStream (s : State) (j : Nat) : s.KeepsCol { (s.unpinAll j) with streams := serase s.streams j } :=
  (keepsCol_unpinAll s j).trans (.of_regs rfl)

theorem keepsCol_finish (s : State) (j : Nat) (st : Status) (r0 r1 : Word) : s.KeepsCol (s.finish j st r0 r1) := by
  unfold State.finish
  split
  · exact .refl s
  · next e _ =>
    refine .ite (.refl s) ?_
    have hended : s.KeepsCol (s.jmod j fun x => { x with fin := some st.num, res0 := r0, res1 := r1, unit := if x.onTile then x.unit else .none }) := .of_within (within_jmod ..)
    have hstream := State.KeepsCol.ite (c := e.isStream = true) (hended.trans (keepsCol_endStream _ j)) hended
    exact .ite (hstream.trans ((State.KeepsCol.of_within (within_jmod ..)).trans (keepsCol_settleFrom ..))) (hstream.trans (keepsCol_settle ..))

end Sys2Proof.Machine
end

section
/-! PROOFS. Messages on their way (R396, R397, R399): what a send leaves in the queues of the ports. -/

set_option Elab.async false

namespace Sys2Proof.Machine

/-! One port. -/

theorem port_pmod_same (s : State) (p : Nat) (f : Port → Port) : (s.pmod p f).port p = f (s.port p) := sget_sput_same _ _ _ _

theorem port_pmod_other (s : State) {p q : Nat} (f : Port → Port) (h : q ≠ p) : (s.pmod p f).port q = s.port q := sget_sput_other _ _ _ _ h

theorem queueOf_enqueue_same (s : State) (p : Nat) (f : DFlit) : ((s.enqueue p f).port p).queueOf f.vc = (s.port p).queueOf f.vc ++ [f] := by
  unfold State.enqueue
  rw [port_pmod_same]
  exact sget_sput_same _ _ _ _

/-- Flits of one class put at the end of a port's queue stand there in order. -/
theorem queueOf_foldl_enqueue {α : Type} (p v : Nat) (g : α → DFlit) (hg : ∀ x, (g x).vc = v) (l : List α) (s : State) :
    ((l.foldl (fun (s : State) x => s.enqueue p (g x)) s).port p).queueOf v = (s.port p).queueOf v ++ l.map g := by
  induction l generalizing s with
  | nil => simp
  | cons x r ih =>
    have hx := queueOf_enqueue_same s p (g x)
    rw [hg x] at hx
    rw [List.foldl_cons, ih, hx, List.map_cons, List.append_assoc, List.singleton_append]

/-- A message that is not compressed is queued flit by flit. -/
theorem queueMsg_plain {m : Msg} (hc : m.codec = false) (s : State) (p : Nat) (turn : Bool) (j : Nat) :
    s.queueMsg p m turn j = m.flits.foldl (fun (s : State) f => s.enqueue p ⟨m.vc, f.1, f.2, turn, none, j⟩) s := by
  have hplain : ¬ (m.codec = true ∧ s.get (Fld.LNK_STAT_USE_MIN p) < 2) := by simp [hc]
  unfold State.queueMsg
  rw [if_neg hplain]

/-- A message queued on one port leaves the others, the inbox and the vote alone. -/
theorem queueMsg_other (s : State) (p : Nat) (m : Msg) (turn : Bool) (j : Nat) :
    (∀ q, q ≠ p → (s.queueMsg p m turn j).port q = s.port q) ∧ (s.queueMsg p m turn j).net.inbox = s.net.inbox ∧ (s.queueMsg p m turn j).net.vote = s.net.vote := by
  unfold State.queueMsg
  refine List.foldlRecOn (motive := fun t : State => (∀ q, q ≠ p → t.port q = s.port q) ∧ t.net.inbox = s.net.inbox ∧ t.net.vote = s.net.vote) _ _ ⟨fun _ _ => rfl, rfl, rfl⟩ ?_
  rintro t ⟨hports, hinbox, hvote⟩ f _
  exact ⟨fun q hq => (port_pmod_other t _ hq).trans (hports q hq), hinbox, hvote⟩

/-! One message. -/

/-- Message `m` as package `s` sends it: from here, under the next tag. -/
def State.stamped (s : State) (m : Msg) : Msg := { m with src := s.herdAddr, tag := s.net.nextTag }

/-- The state once a tag has been taken. -/
def State.nextTagged (s : State) : State := s.nmod (fun n => { n with nextTag := (n.nextTag + 1) % 4096 })

theorem sendMsg_here {s : State} {m : Msg} (h : s.nextHop m.dst = none) (j : Nat) :
    s.sendMsg m j = s.nextTagged.arrive { s.stamped m with opened := s.slotOpen m.slot } := by
  have hhop : s.nextTagged.nextHop m.dst = none := h
  simp only [State.sendMsg, State.stamped]
  rw [show (s.nmod fun n => { n with nextTag := (n.nextTag + 1) % 4096 }) = s.nextTagged from rfl, hhop]
  rfl

theorem sendMsg_away {s : State} {m : Msg} {p : Nat} (h : s.nextHop m.dst = some p) (j : Nat) :
    s.sendMsg m j = if s.isRetired 2 p then s.nextTagged else s.nextTagged.queueMsg p (s.stamped m) true j := by
  have hhop : s.nextTagged.nextHop m.dst = some p := h
  simp only [State.sendMsg, State.stamped]
  rw [show (s.nmod fun n => { n with nextTag := (n.nextTag + 1) % 4096 }) = s.nextTagged from rfl, hhop]
  rfl

/-- A message that is not compressed joins the queue of its route's first port. -/
theorem queued_sendMsg {s : State} {m : Msg} {p : Nat} (h : s.nextHop m.dst = some p) (hr : s.isRetired 2 p = false) (hc : m.codec = false) (j : Nat) :
    s.Queued (s.sendMsg m j) p (s.stamped m) j := by
  have hflits := queueOf_foldl_enqueue p (s.stamped m).vc (fun f : Word × List Byte => ⟨(s.stamped m).vc, f.1, f.2, true, none, j⟩) (fun _ => rfl) (s.stamped m).flits s.nextTagged
  have hport : s.nextTagged.port p = s.port p := rfl
  rw [sendMsg_away h, if_neg (by simp [hr]), queueMsg_plain (m := s.stamped m) hc]
  unfold State.Queued
  rw [hflits, hport]

/-- A message that takes another port, or none, leaves a port as it is. -/
theorem port_sendMsg_other {s : State} {m : Msg} {p : Nat} (h : s.nextHop m.dst ≠ some p) (j : Nat) : (s.sendMsg m j).port p = s.port p := by
  cases hhop : s.nextHop m.dst with
  | none =>
    rw [sendMsg_here hhop]
    rfl
  | some q =>
    have hpq : p ≠ q := fun heq => h (heq ▸ hhop)
    rw [sendMsg_away hhop]
    split
    · rfl
    · exact (queueMsg_other s.nextTagged q (s.stamped m) true j).1 p hpq

theorem vote_sendMsg (s : State) (m : Msg) (j : Nat) : (s.sendMsg m j).net.vote = s.net.vote := by
  cases hhop : s.nextHop m.dst with
  | none =>
    rw [sendMsg_here hhop]
    rfl
  | some p =>
    rw [sendMsg_away hhop]
    split
    · rfl
    · exact (queueMsg_other s.nextTagged p (s.stamped m) true j).2.2

theorem inbox_sendMsg {s : State} {m : Msg} {p : Nat} (h : s.nextHop m.dst = some p) (j : Nat) : (s.sendMsg m j).net.inbox = s.net.inbox := by
  rw [sendMsg_away h]
  split
  · rfl
  · exact (queueMsg_other s.nextTagged p (s.stamped m) true j).2.1

theorem vote_broadcast (s : State) (mtype : Nat) (ws : List Word) : (s.broadcast mtype ws).net.vote = s.net.vote :=
  List.foldlRecOn (motive := fun t : State => t.net.vote = s.net.vote) _ _ rfl fun _ ht _ _ => (vote_sendMsg ..).trans ht

/-- A message queued from a state whose ports are those of `s`. -/
theorem State.Queued.of_ports {s u t : State} {p j : Nat} {m : Msg} (h : u.Queued t p m j) (hp : u.net.ports = s.net.ports) : s.Queued t p m j := by
  have hport : u.port p = s.port p := congrArg (fun l => sget Port.reset l p) hp
  unfold State.Queued at *
  rw [← hport]
  exact h

theorem herdAddr_congr {s t : State} (h : t.image = s.image) : t.herdAddr = s.herdAddr := by
  unfold State.herdAddr
  rw [h]

theorem nextHop_congr {s t : State} (h : t.image = s.image) (dst : Nat) : t.nextHop dst = s.nextHop dst := by
  unfold State.nextHop State.extents
  rw [herdAddr_congr h, h]

/-- A collective message with words `ws`, as an operation hands it to `sendMsg`. -/
def Msg.collective (dst mtype : Nat) (ws : List Word) : Msg := { (Msg.blank dst 0 mtype) with extra := ws }

/-- A collective message sent from state `u` joins the queue of its route's first port as a message of package `s`. -/
theorem queued_collective {s u : State} (hi : u.image = s.image) (hr : u.retired = s.retired) (hn : u.net.ports = s.net.ports) {dst p : Nat}
    (h : s.nextHop dst = some p) (hp : s.isRetired 2 p = false) (mtype : Nat) (ws : List Word) :
    s.Queued (u.sendMsg (Msg.collective dst mtype ws) 0) p { s.newMsg dst mtype ws with tag := u.net.nextTag } 0 := by
  have hin : u.isRetired 2 p = false := by
    unfold State.isRetired at *
    rwa [hr]
  have hmsg : u.stamped (Msg.collective dst mtype ws) = { s.newMsg dst mtype ws with tag := u.net.nextTag } := by
    unfold State.stamped
    rw [herdAddr_congr hi]
    rfl
  rw [← hmsg]
  exact (queued_sendMsg (m := Msg.collective dst mtype ws) ((nextHop_congr hi dst).trans h) hin rfl 0).of_ports hn

/-! A message taken from the inbox. -/

theorem takeMsg_of_find {s : State} {t : Nat} {m : Msg} (h : s.net.inbox.find? (fun m => m.mtype == t) = some m) : s.takeMsg t = some (m, s.dropMsg m) := by
  rw [State.takeMsg, h, Option.map_some]

end Sys2Proof.Machine
end

section
/-! PROOFS. The step vote up to its vote spoke (R281, R282, R416, R417): seals, launches and contributions. -/

set_option Elab.async false

namespace Sys2Proof.Machine

/-! A read of plain memory (R40, R314). -/

/-- What serves a DRAM range: the tier controller, the units that have started, and the blocks not yet applied. -/
theorem dramRange_congr {s t : State} (ht : t.tier = s.tier) (hp : t.power = s.power) (ha : t.applying = s.applying)
    (hc : t.get Fld.TIER_STAT_CACHE = s.get Fld.TIER_STAT_CACHE) (a n : Nat) : t.dramRange a n = s.dramRange a n := by
  have hrow : t.rowRegionAt = s.rowRegionAt := by
    funext x
    simp only [State.rowRegionAt, ht]
  have hplace : t.dramPlace = s.dramPlace := by
    funext x
    simp only [State.dramPlace, hrow]
  have haccess : t.dramAccess = s.dramAccess := by
    funext x
    unfold State.dramAccess State.unitDown State.chunksOfPch State.chunkSlot
    rw [hplace, ht, hp, hc]
  unfold State.dramRange State.dramHeld State.unapplied
  rw [haccess, ht, hp, ha]

/-- An access to plain memory is served where it lies, and changes nothing. -/
theorem access_of_plain {s : State} {a n k : Nat} (h : s.Plain a n k) (j : Nat) (write : Bool) : s.access j write a n = (.serve (.plain k), s) := by
  unfold State.access
  obtain ⟨hr | hr, hd, hk⟩ | ⟨hr, p, hp, hk⟩ := h
  · simp only [hr, hd, hk]
  · simp only [hr, hd, hk]
  · simp only [hr, hp, hk]

theorem accessLen_of_plain {s : State} {a n k : Nat} (h : s.Plain a n k) : accessLen a n = n := by
  refine if_neg fun hf => ?_
  obtain ⟨hr | hr, -⟩ | ⟨hr, -⟩ := h <;> rw [hf] at hr <;> cases hr

theorem pieces_plain (s : State) (k n : Nat) : s.pieces (.plain k) n = [(k, n)] := rfl

theorem locRead_plain (s : State) (k n : Nat) : s.locRead (.plain k) n = s.rbs k n := by simp [State.locRead, pieces_plain]

/-- A read of clean memory gives its bytes, and the command gives its pins up. -/
theorem readUda_of_clean {s : State} {a n k : Nat} (h : s.Clean a n k) (hn : n ≠ 0) (j : Nat) : s.readUda j a n = (.done (s.rbs k n), s.unpinAll j) := by
  obtain ⟨hplain, hpoison⟩ := h
  have hwithin := within_unpinAll s j
  have hclean : (s.unpinAll j).locPoisoned (.plain k) n = false := by
    have hsame : (s.unpinAll j).poison = s.poison := hwithin.same .poison (by decide)
    simpa [State.locPoisoned, pieces_plain, State.poisonedIn, hsame] using hpoison
  have hbytes : (s.unpinAll j).rbs k n = s.rbs k n := rbs_congr hwithin.mem_eq k n
  simp only [State.readUda, State.readFrom, hn, if_false, accessLen_of_plain hplain, access_of_plain hplain, hclean, Bool.false_eq_true, Nat.sub_self, if_true,
    locRead_plain, hbytes, List.nil_append]

theorem Within.get_eq {m : Nat} {s t : State} (h : Within m s t) (f : Fld) (hm : m.testBit 1 = false := by decide) : t.get f = s.get f := by
  unfold State.get
  rw [h.reg_eq _ hm]

/-! VOTE_SEAL (R281). -/

/-- Entry `e` once it has been dispatched. -/
def JEntry.dispatchedAgain (e : JEntry) : JEntry := { e with st := .dispatched, disp := e.disp + 1 }

theorem live_of_gate {s : State} {j : Nat} {e : JEntry} (h : s.gate j e = true) : s.live = true := by
  simp only [State.gate, Bool.and_eq_true] at h
  exact h.1.1.1

/-- A command of the collective unit that nothing holds is dispatched, its wait slots subtracted. -/
theorem colDispatch_of_ready {s : State} {j op : Nat} {e : JEntry} (h : s.Ready j e) (ht : e.target = .collective) (ho : colOp e.words = op) :
    s.colDispatch j op = ((s.consumeWaits e.srcTile e.waits).jmod j JEntry.dispatchedAgain, some e.dispatchedAgain) := by
  simp [State.colDispatch, h.entry, ht, ho, h.accepted, h.unended, live_of_gate h.open_, h.state, h.open_, h.clean, h.waits, JEntry.dispatchedAgain]
  rfl

/-- The wait slots that a dispatch subtracts lie above the tier controller's registers. -/
theorem reg_consumeWaits (s : State) (t : Nat) (l : List Slot) {a : Nat} (ha : a < 0x1000000) : (s.consumeWaits t l).reg a = s.reg a :=
  List.foldlRecOn (motive := fun u : State => u.reg a = s.reg a) _ _ rfl fun u hu x _ =>
    (reg_set_other u _ (show a ≠ Reg.TILE_MARK t x.idx by simp only [Reg.TILE_MARK]; omega)).trans hu

/-- The state in which a dispatched VOTE_SEAL reads LOSS and COUNT. -/
def State.sealing (s : State) (j : Nat) (e : JEntry) : State := (s.consumeWaits e.srcTile e.waits).jmod j JEntry.dispatchedAgain

theorem within_sealing (s : State) (j : Nat) (e : JEntry) : Within 18 s (s.sealing j e) :=
  .step ((within_consumeWaits ..).mono (by decide)) (within_jmod ..)

theorem clean_sealing {s : State} {a n k : Nat} (h : s.Clean a n k) (j : Nat) (e : JEntry) : (s.sealing j e).Clean a n k := by
  have hw := within_sealing s j e
  have hpoison : (s.sealing j e).poison = s.poison := hw.same .poison (by decide)
  have htiles : (s.sealing j e).tileMap = s.tileMap := hw.same .tileMap (by decide)
  have hcache : (s.sealing j e).get Fld.TIER_STAT_CACHE = s.get Fld.TIER_STAT_CACHE := by
    unfold State.get
    exact congrArg (fun w => bits w _ _) (reg_consumeWaits s e.srcTile e.waits (by decide))
  have hrange := dramRange_congr (hw.same .tier (by decide)) (hw.same .power (by decide)) (hw.same .applying (by decide)) hcache
  unfold State.Clean State.Plain State.poisonedIn State.phys at *
  rw [hpoison, htiles, hrange]
  exact h

/-- LOSS and COUNT as a VOTE_SEAL with its values at memory key `k` reads them. -/
def State.sealWord (s : State) (e : JEntry) (k o : Nat) : Word := if colSrc e.words = 0 then 0 else wordAt (s.rbs k 16) o

/-- A VOTE_SEAL that is ready reads LOSS and COUNT and seals; up to the seal, no register of the vote has changed. -/
theorem exec_voteSeal {s : State} {j k : Nat} {e : JEntry} (h : s.Ready j e) (ht : e.target = .collective) (ho : colOp e.words = 1) (hs : e.sent = false)
    (hsrc : colSrc e.words = 0 ∨ s.Clean (colSrc e.words) 16 k) :
    ∃ u, exec (.voteSeal j) s = .next (u.sealStep j (colKey e.words) (s.sealWord e k 0) (s.sealWord e k 8)) ∧
      s.KeepsCol u ∧ u.cmd j = some e.dispatchedAgain ∧ Within 32978 s u := by
  have hwithin := within_sealing s j e
  have hkeeps : s.KeepsCol (s.sealing j e) := (keepsCol_consumeWaits ..).trans (.of_within (within_jmod ..))
  have hcmd : (s.sealing j e).cmd j = some e.dispatchedAgain := by
    show (State.jmod _ j _).cmd j = _
    rw [cmd_jmod_same, (within_consumeWaits ..).cmd_eq, h.entry, Option.map_some]
  have hexec : exec (.voteSeal j) s = execVoteSeal j s := rfl
  have hdispatch : s.colDispatch j 1 = (s.sealing j e, some e.dispatchedAgain) := colDispatch_of_ready h ht ho
  have hsent : ¬ (e.dispatchedAgain.sent = true) := by simp [JEntry.dispatchedAgain, hs]
  by_cases h0 : colSrc e.words = 0
  · refine ⟨s.sealing j e, ?_, hkeeps, hcmd, hwithin.mono (by decide)⟩
    have hsrc0 : colSrc e.dispatchedAgain.words = 0 := h0
    simp only [hexec, execVoteSeal, hdispatch, hsent, hsrc0, if_true, State.sealWord, h0]
    rfl
  · have hread := readUda_of_clean (clean_sealing (hsrc.resolve_left h0) j e) (by decide) j
    have hbytes : (s.sealing j e).rbs k 16 = s.rbs k 16 := rbs_congr hwithin.mem_eq k 16
    refine ⟨(s.sealing j e).unpinAll j, ?_, hkeeps.trans (keepsCol_unpinAll ..), ((within_unpinAll ..).cmd_eq j).trans hcmd, .step (hwithin.mono (by decide)) (within_unpinAll ..)⟩
    have hsrc0 : ¬ colSrc e.dispatchedAgain.words = 0 := h0
    have hread' : (s.sealing j e).readUda j (colSrc e.dispatchedAgain.words) 16 = _ := hread
    simp only [hexec, execVoteSeal, hdispatch, hsent, hsrc0, if_false, hread', hbytes, State.sealWord, h0]
    rfl

/-- What a LOSS leaves in the non-finite latch: R279's source 1 is raised by one that is not finite. -/
def State.sealLatch (s : State) (loss : F64) : Nat :=
  s.get Fld.COL_VOTESTEP_LATCH ||| (if fvFinite (ofF64 loss) = false ∧ s.get Fld.COL_VOTECFG_NFSRC / 2 % 2 = 1 then 2 else 0)

/-- The latch before the seal samples it. -/
def State.latched (s : State) (loss : F64) : State := if fvFinite (ofF64 loss) then s else s.raiseLatch 1

theorem get_latched (s : State) (loss : F64) : (s.latched loss).get Fld.COL_VOTESTEP_LATCH = s.sealLatch loss := by
  have hlt : s.get Fld.COL_VOTESTEP_LATCH < 2 ^ 4 := get_lt s _
  unfold State.latched State.sealLatch State.raiseLatch
  by_cases hf : fvFinite (ofF64 loss) = true
  · simp [hf]
  · by_cases hn : s.get Fld.COL_VOTECFG_NFSRC / 2 % 2 = 1
    · have hwide : s.get Fld.COL_VOTESTEP_LATCH ||| 2 < 2 ^ 4 := Nat.or_lt_two_pow hlt (by decide)
      simp only [hf, hn, Nat.pow_one, and_self, if_true, if_false, Bool.false_eq_true]
      rw [get_set_same _ _ _ (by decide)]
      exact Nat.mod_eq_of_lt hwide
    · simp [hf, hn]

theorem get_latched_open (s : State) (loss : F64) : (s.latched loss).get Fld.COL_VOTESTEP_OPEN = s.get Fld.COL_VOTESTEP_OPEN := by
  have hraise : (s.raiseLatch 1).get Fld.COL_VOTESTEP_OPEN = s.get Fld.COL_VOTESTEP_OPEN := by
    unfold State.raiseLatch
    split
    · exact get_set_other _ _ _ _ (by decide)
    · rfl
  unfold State.latched
  split
  · rfl
  · exact hraise

theorem within_latched (s : State) (loss : F64) : Within 2 s (s.latched loss) := .ite (.refl ..) (within_raiseLatch ..)

/-- The registers of the seal: the record written with the latch and the norm partial as sampled, and the latch cleared. -/
def State.sealRegs (s : State) (step : Nat) (loss : F64) (count : Word) : State :=
  (((((((s.latched loss).setReg Reg.COL_VOTEREC s.normRounded).setReg Reg.COL_VOTEREC_8 loss).setReg Reg.COL_VOTEREC_10 count).set
    Fld.COL_VOTEREC_18_NFBITS (s.sealLatch loss)).set Fld.COL_VOTEREC_18_STEP step).set Fld.COL_VOTESTEP_LATCH 0).set Fld.COL_VOTESTEP_STATE 1

theorem within_sealRegs (s : State) (step : Nat) (loss : F64) (count : Word) : Within 2 s (s.sealRegs step loss count) :=
  (((((((within_latched s loss).trans (within_setReg ..)).trans (within_setReg ..)).trans (within_setReg ..)).trans (within_set ..)).trans (within_set ..)).trans
    (within_set ..)).trans (within_set ..)

theorem sealStep_eq (s : State) (j step : Nat) (loss : F64) (count : Word) :
    s.sealStep j step loss count = ((s.sealRegs step loss count).vmod (fun v => { v with norm := 0, sealed_ := true })).jmod j (fun e => { e with sent := true }) := by
  have hnorm : (s.latched loss).normRounded = s.normRounded := by
    unfold State.normRounded
    rw [show (s.latched loss).net = s.net from (within_latched s loss).same .net (by decide)]
  have hsample : ((((s.latched loss).setReg Reg.COL_VOTEREC s.normRounded).setReg Reg.COL_VOTEREC_8 loss).setReg Reg.COL_VOTEREC_10 count).get
      Fld.COL_VOTESTEP_LATCH = s.sealLatch loss := by
    rw [get_setReg_other _ _ (by decide), get_setReg_other _ _ (by decide), get_setReg_other _ _ (by decide), get_latched]
  unfold State.sealRegs
  rw [← hsample, ← hnorm]
  rfl

/-- No register depends on the vote's state or on the journal. -/
theorem reg_vmod_jmod (s : State) (f : VoteState → VoteState) (j : Nat) (g : JEntry → JEntry) (a : Nat) : ((s.vmod f).jmod j g).reg a = s.reg a := rfl

theorem get_vmod_jmod (s : State) (f : VoteState → VoteState) (j : Nat) (g : JEntry → JEntry) (x : Fld) : ((s.vmod f).jmod j g).get x = s.get x := rfl

/-- The record that a seal writes, and the vote's step register after it. -/
theorem sealStep_record (s : State) (j step : Nat) (loss : F64) (count : Word) :
    let t := s.sealStep j step loss count
    t.reg Reg.COL_VOTEREC = s.normRounded ∧ t.reg Reg.COL_VOTEREC_8 = loss ∧ t.reg Reg.COL_VOTEREC_10 = count ∧
      t.get Fld.COL_VOTEREC_18_STEP = step % 2 ^ 32 ∧ t.get Fld.COL_VOTEREC_18_NFBITS = s.sealLatch loss ∧
      t.get Fld.COL_VOTESTEP_LATCH = 0 ∧ t.get Fld.COL_VOTESTEP_STATE = 1 ∧ t.openStep = s.openStep := by
  have hlt : s.sealLatch loss < 2 ^ 4 := get_latched s loss ▸ get_lt _ _
  simp only [sealStep_eq, State.openStep, reg_vmod_jmod, get_vmod_jmod]
  unfold State.sealRegs
  refine ⟨?_, ?_, ?_, ?_, ?_, ?_, ?_, ?_⟩
  · simp (disch := decide) only [reg_set_other, reg_setReg_other, reg_setReg_same]
  · simp (disch := decide) only [reg_set_other, reg_setReg_other, reg_setReg_same]
  · simp (disch := decide) only [reg_set_other, reg_setReg_same]
  · simp (disch := decide) only [get_set_other, get_set_same]
    rfl
  · simp (disch := decide) only [get_set_other, get_set_same]
    exact Nat.mod_eq_of_lt hlt
  · simp (disch := decide) only [get_set_other, get_set_same, Nat.zero_mod]
  · exact get_set_same _ _ _ (by decide)
  · simp (disch := decide) only [get_set_other, get_setReg_other, get_latched_open]

theorem cmd_sealStep {s : State} {j : Nat} {e : JEntry} (h : s.cmd j = some e) (step : Nat) (loss : F64) (count : Word) :
    (s.sealStep j step loss count).cmd j = some { e with sent := true } := by
  rw [sealStep_eq, cmd_jmod_same, (within_vmod ..).cmd_eq, (within_sealRegs ..).cmd_eq, h, Option.map_some]

theorem vote_sealStep (s : State) (j step : Nat) (loss : F64) (count : Word) :
    (s.sealStep j step loss count).net.vote = { s.net.vote with norm := 0, sealed_ := true } := by
  have hnet : (s.sealRegs step loss count).net = s.net := (within_sealRegs ..).same .net (by decide)
  rw [sealStep_eq, ← hnet]
  rfl

/-! A launch (R282, R441). -/

/-- The contribution that a package sends or takes in at a launch for vote spoke `v`. -/
def State.launching (s : State) (v : Nat) : State := (s.set Fld.COL_VOTESTEP_STATE 2).vmod (fun x => { x with launched := some v })

theorem within_launching (s : State) (v : Nat) : Within 8388610 s (s.launching v) := .step ((within_set ..).mono (by decide)) (within_vmod ..)

theorem openStep_launching (s : State) (v : Nat) : (s.launching v).openStep = s.openStep := get_set_other s Fld.COL_VOTESTEP_STATE Fld.COL_VOTESTEP_OPEN 2 (by decide)

theorem get_launching_state (s : State) (v : Nat) : (s.launching v).get Fld.COL_VOTESTEP_STATE = 2 := get_set_same s Fld.COL_VOTESTEP_STATE 2 (by decide)

theorem launchVote_root {s : State} (h : levelRoot s.herdAddr 0 = s.herdAddr) (v : Nat) :
    s.launchVote v = (s.launching v).voteInput s.openStep v 3 0 (levelPlace s.herdAddr 0) s.ownContrib := by
  rw [← openStep_launching s v]
  exact if_pos h

theorem launchVote_away {s : State} (h : levelRoot s.herdAddr 0 ≠ s.herdAddr) (v : Nat) :
    s.launchVote v = (s.launching v).sendMsg { (Msg.blank (levelRoot s.herdAddr 0) 0 6) with extra := [BitVec.ofNat 64 s.openStep, spokeWord v] ++ s.ownContrib.words } 0 := by
  rw [← openStep_launching s v]
  exact if_neg h

/-- A VOTE entry that may fire, V − LEAD spokes before its vote spoke and outside a pause, launches. -/
theorem exec_vote {s : State} {n : Nat} (hk : (s.calEntry n).kind = 2) (hn : n < s.calSize)
    (hdue : (s.calEntry n).dueAt ((s.nowSpokes + s.voteLead) / 4096) ((s.nowSpokes + s.voteLead) % 4096) = true) (hf : s.hasFired (2 * n + 1) = false)
    (hshared : s.voteShared n (s.nowSpokes + s.voteLead) true = false) (hall : s.calAllowed (s.calEntry n) = true) (hp : s.flag Fld.WHL_STAT_PAUSED = false) :
    exec (.vote n) s = .next ((s.noteFired (2 * n + 1)).launchVote (s.nowSpokes + s.voteLead)) := by
  have hshared' : (s.noteFired (2 * n + 1)).voteShared n (s.nowSpokes + s.voteLead) true = false := hshared
  have hall' : (s.noteFired (2 * n + 1)).calAllowed (s.calEntry n) = true := hall
  have hp' : (s.noteFired (2 * n + 1)).flag Fld.WHL_STAT_PAUSED = false := hp
  have hexec : exec (.vote n) s = execVote n s := rfl
  simp [hexec, execVote, hk, Nat.not_le.mpr hn, hdue, hf, hshared', hall', hp']

/-! Contributions at a level root (R416, R417). -/

/-- The inputs of a vote so far at a level root here. -/
def State.roundOf (s : State) (step v level : Nat) : Partial := (s.partialOf true step v level).getD ⟨step, true, level, v, 0, 0, false, []⟩

/-- Those inputs with one more. -/
def Partial.withInput (p : Partial) (place : Nat) (c : Contrib) : Partial := { p with inputs := sinsert p.inputs place c.words }

theorem mem_putPartial (s : State) (p : Partial) : p ∈ (s.putPartial p).net.reductions := List.mem_append_right _ (List.mem_singleton.mpr rfl)

/-- The state with an input of a level taken. -/
def State.tookInput (s : State) (step v level place : Nat) (c : Contrib) : State := s.putPartial ((s.roundOf step v level).withInput place c)

/-- An input that leaves its level incomplete, or at the herd root, is held. -/
theorem voteInput_held {s : State} {step v level place : Nat} {c : Contrib} (hnew : sfind (s.roundOf step v level).inputs place = none)
    (h : level = 2 ∨ ((s.roundOf step v level).withInput place c).inputs.length < s.levelSize level) (fuel : Nat) :
    s.voteInput step v (fuel + 1) level place c = s.tookInput step v level place c := by
  have hseen : ¬ ((sfind (s.roundOf step v level).inputs place).isSome = true) := by simp [hnew]
  exact (if_neg hseen).trans (if_pos h)

/-- The last input of a level sends the level's combination to the next root. -/
theorem voteInput_sent {s : State} {step v level place : Nat} {c x : Contrib} (hnew : sfind (s.roundOf step v level).inputs place = none) (hl : level ≠ 2)
    (hfull : s.levelSize level ≤ ((s.roundOf step v level).withInput place c).inputs.length)
    (hx : combineVotes (((s.roundOf step v level).withInput place c).inputs.map (fun y => y.2)) = some x) (hup : levelRoot s.herdAddr (level + 1) ≠ s.herdAddr) (fuel : Nat) :
    s.voteInput step v (fuel + 1) level place c =
      (s.tookInput step v level place c).sendMsg { (Msg.blank (levelRoot s.herdAddr (level + 1)) 0 6) with extra := [BitVec.ofNat 64 step, spokeWord v] ++ x.words } 0 := by
  have hseen : ¬ ((sfind (s.roundOf step v level).inputs place).isSome = true) := by simp [hnew]
  have hopen : ¬ (level = 2 ∨ ((s.roundOf step v level).withInput place c).inputs.length < s.levelSize level) := by omega
  refine (if_neg hseen).trans ((if_neg hopen).trans ?_)
  split
  · next hnone => cases hx.symm.trans hnone
  · next y hsome =>
    obtain rfl : x = y := Option.some.inj (hx.symm.trans hsome)
    exact if_neg hup

/-- A contribution that comes before its vote spoke is an input of its level. -/
theorem exec_contrib {s : State} {m : Msg} {level : Nat} (hm : s.net.inbox.find? (fun m => m.mtype == 6) = some m) (hl : s.levelOf m.src = some level)
    (hv : s.nowSpokes < (wget m.extra 1).toNat / 16) :
    exec .contrib s = .next ((s.dropMsg m).voteInput (wget m.extra 0).toNat ((wget m.extra 1).toNat / 16) 3 level (levelPlace m.src level) (Contrib.ofWords (m.extra.drop 2))) := by
  have hl' : (s.dropMsg m).levelOf m.src = some level := hl
  have hearly : ¬ ((wget m.extra 1).toNat / 16 < (s.dropMsg m).nowSpokes ∨
      ((wget m.extra 1).toNat / 16 = (s.dropMsg m).nowSpokes ∧ (s.dropMsg m).calEntries.any (fun e => e.2.kind == 2 && (s.dropMsg m).calDue e.2 && (s.dropMsg m).hasFired (2 * e.1)) = true)) := by
    have hnow : (s.dropMsg m).nowSpokes = s.nowSpokes := rfl
    omega
  have hexec : exec .contrib s = execContrib s := rfl
  simp only [hexec, execContrib, takeMsg_of_find hm, hl', hearly, if_false]

/-- A contribution of the herd's level that comes after its vote spoke is counted and dropped. -/
theorem exec_contrib_late {s : State} {m : Msg} (hm : s.net.inbox.find? (fun m => m.mtype == 6) = some m) (hl : s.levelOf m.src = some 2)
    (hv : (wget m.extra 1).toNat / 16 < s.nowSpokes) : exec .contrib s = .next ((s.dropMsg m).count Fld.COL_REDCNT_LATE 1) := by
  have hl' : (s.dropMsg m).levelOf m.src = some 2 := hl
  have hlate : (wget m.extra 1).toNat / 16 < (s.dropMsg m).nowSpokes := hv
  have hexec : exec .contrib s = execContrib s := rfl
  simp only [hexec, execContrib, takeMsg_of_find hm, hl', hlate, true_or, if_true]

end Sys2Proof.Machine

open Sys2Proof Sys2Proof.Machine

/-- Settles O27, by an equation for what each event leads to: what a seal reads changes no register of the vote, a launch and a complete level each send one message to the next root, and every other input is held or counted. -/
theorem voteRule : Obligations.VoteRule := by
  refine ⟨fun s j k e hready ht ho hs hsrc => ?record, fun s n p hk hn hdue hf hshared hall hp hup hhop hret => ?launchAway, fun s n hk hn hdue hf hshared hall hp hroot hnone hsize => ?launchHere,
    fun s m level hm hl hv hnew hopen => ?held, fun s m level q c hm hl hlt hv hnew hfull hc hup hhop hret => ?sent, fun s m hm hl hv => ?late⟩
  case record =>
    obtain ⟨u, hexec, hkeeps, hcmd, hwithin⟩ := exec_voteSeal hready ht ho hs hsrc
    have hnet : u.net = s.net := hwithin.same .net (by decide)
    have hnorm : u.normRounded = s.normRounded := by
      unfold State.normRounded
      rw [hnet]
    have hlatch : u.sealLatch (s.sealWord e k 0) = s.sealLatch (s.sealWord e k 0) := by
      unfold State.sealLatch
      rw [hkeeps.get Fld.COL_VOTESTEP_LATCH ⟨by decide, by decide⟩, hkeeps.get Fld.COL_VOTECFG_NFSRC ⟨by decide, by decide⟩]
    have hopen : u.openStep = s.openStep := hkeeps.get Fld.COL_VOTESTEP_OPEN ⟨by decide, by decide⟩
    obtain ⟨hgn2, hloss, hcount, hstep, hbits, hcleared, hstate, hopened⟩ := sealStep_record u j (colKey e.words) (s.sealWord e k 0) (s.sealWord e k 8)
    refine ⟨_, hexec, hgn2.trans hnorm, hloss, hcount, hstep.trans (Nat.mod_eq_of_lt (BitVec.isLt _)), hbits.trans hlatch, hcleared, hstate, hopened.trans hopen, ?_,
      ⟨_, cmd_sealStep hcmd _ _ _, rfl, rfl, hready.unended⟩, Within.sameBut (m := 8421586) (.step (hwithin.mono (by decide)) (within_sealStep ..))⟩
    rw [vote_sealStep, hnet]
  case launchAway =>
    have hexec := exec_vote hk hn hdue hf hshared hall hp
    rw [launchVote_away (s := s.noteFired (2 * n + 1)) hup] at hexec
    refine ⟨_, hexec, ?_, vote_sendMsg .., ?_, fun a ha => ?_, ?_⟩
    · exact ((within_sendMsg ..).get_eq _).trans (get_launching_state ..)
    · exact queued_collective (u := (s.noteFired (2 * n + 1)).launching (s.nowSpokes + s.voteLead)) rfl rfl rfl hhop hret 6 _
    · have hset := reg_set_other (s.noteFired (2 * n + 1)) (f := Fld.COL_VOTESTEP_STATE) 2 (fun heq => ha (List.mem_singleton.mpr heq))
      exact ((within_sendMsg ..).reg_eq a).trans hset
    · exact Within.sameBut (m := 12582914) (.step (.step ((within_noteFired ..).mono (by decide)) (within_launching ..)) (within_sendMsg ..))
  case launchHere =>
    have hexec := exec_vote hk hn hdue hf hshared hall hp
    have hround : ((s.noteFired (2 * n + 1)).launching (s.nowSpokes + s.voteLead)).roundOf s.openStep (s.nowSpokes + s.voteLead) 0 =
        ⟨s.openStep, true, 0, s.nowSpokes + s.voteLead, 0, 0, false, []⟩ := congrArg (Option.getD · _) hnone
    have hheld := voteInput_held (s := (s.noteFired (2 * n + 1)).launching (s.nowSpokes + s.voteLead)) (step := s.openStep) (v := s.nowSpokes + s.voteLead) (level := 0)
      (place := levelPlace s.herdAddr 0) (c := s.ownContrib) (by rw [hround]; rfl) (.inr (by rw [hround]; exact hsize)) 2
    have hmem := mem_putPartial ((s.noteFired (2 * n + 1)).launching (s.nowSpokes + s.voteLead))
      (Partial.withInput ⟨s.openStep, true, 0, s.nowSpokes + s.voteLead, 0, 0, false, []⟩ (levelPlace s.herdAddr 0) s.ownContrib)
    rw [launchVote_root (s := s.noteFired (2 * n + 1)) hroot] at hexec
    refine ⟨_, hexec.trans (congrArg Host.Outcome.next hheld), ?_, ?_, ?_⟩
    · exact ((within_putPartial ..).get_eq _).trans (get_launching_state ..)
    · rfl
    · rw [State.tookInput, hround]
      exact hmem
  case held =>
    refine ⟨_, (exec_contrib hm hl hv).trans (congrArg Host.Outcome.next (voteInput_held (s := s.dropMsg m) hnew hopen.symm 2)), mem_putPartial .., rfl, rfl, ?_⟩
    exact Within.sameBut (m := 8388608) (.step (within_dropMsg ..) (within_putPartial ..))
  case sent =>
    have hsent := voteInput_sent (s := s.dropMsg m) hnew (by omega) hfull hc hup 2
    refine ⟨_, (exec_contrib hm hl hv).trans (congrArg Host.Outcome.next hsent), ?_, inbox_sendMsg hhop 0, ?_⟩
    · exact queued_collective (u := (s.dropMsg m).tookInput _ _ level _ _) rfl rfl rfl hhop hret 6 _
    · exact Within.sameBut (m := 8388608) (.step (.step (within_dropMsg ..) (within_putPartial ..)) (within_sendMsg ..))
  case late =>
    refine ⟨_, exec_contrib_late hm hl hv, up_count (s.dropMsg m) Fld.COL_REDCNT_LATE (by decide), rfl, fun a ha => ?_, ?_⟩
    · exact reg_count_other (s.dropMsg m) 1 (fun heq => ha (List.mem_singleton.mpr heq))
    · exact Within.sameBut (m := 8388610) (.step ((within_dropMsg ..).mono (by decide)) (within_count ..))

end

section
/-! PROOFS. The decision on a complete record (R283). -/

set_option Elab.async false

namespace Sys2Proof.Machine

/-- Action `i` of a detector is on. -/
def Detector.Acts (d : Detector) (i : Nat) : Prop := d.actions / 2 ^ i % 2 = 1

/-- The mean loss of a record that counts samples. -/
def Contrib.mean (c : Contrib) : F64 := f64Div c.loss (toF64 (fvNat c.count.toNat))

/-- The record has a value that is not finite, and the detector acts on it. -/
def Detector.NonFinite (d : Detector) (c : Contrib) : Prop := c.nf = true ∧ d.Acts 0

/-- The gradient norm is above its bound, and the detector acts on it. -/
def Detector.Norm (d : Detector) (c : Contrib) : Prop := fvLt (ofF64 d.gnmax) (ofF64 (f64Sqrt c.gn2)) = true ∧ d.Acts 1

/-- After the warm-up the mean loss is above RATIO times its average `e`, and the detector acts on it. -/
def Detector.Spike (d : Detector) (c : Contrib) (e : F64) (a : Word) : Prop :=
  c.count ≠ 0 ∧ d.warmup ≤ a.toNat ∧ a ≠ 0 ∧ fvLt (ofF64 (f64Mul (toF64 (ofF32 d.ratio)) e)) (ofF64 c.mean) = true ∧ d.Acts 2

section
variable (d : Detector) (c : Contrib) (e : F64) (a : Word) (skips step v : Nat)

theorem decide_reason_nonFinite (h : d.NonFinite c) : (decide_ d c e a skips step v).reason = 1 := if_pos (by simpa [Detector.NonFinite, Detector.Acts] using h)

theorem decide_reason_norm (hn : ¬ d.NonFinite c) (h : d.Norm c) : (decide_ d c e a skips step v).reason = 2 :=
  (if_neg (by simpa [Detector.NonFinite, Detector.Acts] using hn)).trans (if_pos (by simpa [Detector.Norm, Detector.Acts] using h))

/-- The model's test of the loss spike. -/
theorem spike_iff : d.Spike c e a ↔ ((c.count != 0) = true ∧ d.warmup ≤ a.toNat ∧ a ≠ 0 ∧
    fvLt (ofF64 (f64Mul (toF64 (ofF32 d.ratio)) e)) (ofF64 (if (c.count != 0) = true then f64Div c.loss (toF64 (fvNat c.count.toNat)) else nan64)) = true ∧
    decide (d.actions / 2 ^ 2 % 2 = 1) = true) := by
  have hmean : c.count ≠ 0 → (if (c.count != 0) = true then f64Div c.loss (toF64 (fvNat c.count.toNat)) else nan64) = c.mean := fun h0 => if_pos (bne_iff_ne.mpr h0)
  constructor
  · rintro ⟨hcount, hwarm, ha, hlt, hact⟩
    exact ⟨bne_iff_ne.mpr hcount, hwarm, ha, (hmean hcount).symm ▸ hlt, decide_eq_true (p := d.actions / 2 ^ 2 % 2 = 1) hact⟩
  · rintro ⟨hcount, hwarm, ha, hlt, hact⟩
    have h0 := bne_iff_ne.mp hcount
    exact ⟨h0, hwarm, ha, hmean h0 ▸ hlt, of_decide_eq_true (p := d.actions / 2 ^ 2 % 2 = 1) hact⟩

theorem decide_reason_spike (hn : ¬ d.NonFinite c) (hg : ¬ d.Norm c) (h : d.Spike c e a) : (decide_ d c e a skips step v).reason = 3 :=
  (if_neg (by simpa [Detector.NonFinite, Detector.Acts] using hn)).trans ((if_neg (by simpa [Detector.Norm, Detector.Acts] using hg)).trans
    (if_pos ((spike_iff d c e a).mp h)))

theorem decide_reason_apply (hn : ¬ d.NonFinite c) (hg : ¬ d.Norm c) (hs : ¬ d.Spike c e a) : (decide_ d c e a skips step v).reason = 0 :=
  (if_neg (by simpa [Detector.NonFinite, Detector.Acts] using hn)).trans ((if_neg (by simpa [Detector.Norm, Detector.Acts] using hg)).trans
    (if_neg (fun h => hs ((spike_iff d c e a).mpr h))))

variable {d c e a skips step v}

theorem decide_reason_ne_zero (h : d.NonFinite c ∨ d.Norm c ∨ d.Spike c e a) : (decide_ d c e a skips step v).reason ≠ 0 := by
  by_cases hn : d.NonFinite c
  · simp [decide_reason_nonFinite d c e a skips step v hn]
  by_cases hg : d.Norm c
  · simp [decide_reason_norm d c e a skips step v hn hg]
  have hs : d.Spike c e a := (h.resolve_left hn).resolve_left hg
  simp [decide_reason_spike d c e a skips step v hn hg hs]

/-- A decision with a reason skips and moves no average. -/
theorem decide_skips (h : (decide_ d c e a skips step v).reason ≠ 0) :
    (decide_ d c e a skips step v).verdict = 2 ∧ (decide_ d c e a skips step v).e = e ∧ (decide_ d c e a skips step v).a = a ∧
      (decide_ d c e a skips step v).skips = min 255 (skips + 1) := by
  have happly : ¬ ((decide_ d c e a skips step v).reason == 0) = true := fun hzero => h (beq_iff_eq.mp hzero)
  have hupd : ¬ ((decide_ d c e a skips step v).reason == 0 && c.count != 0) = true := fun hboth => happly (Bool.and_eq_true_iff.mp hboth).1
  exact ⟨if_neg happly, if_neg hupd, if_neg hupd, if_neg happly⟩

/-- A decision without a reason applies, and moves the averages if the record counts samples. -/
theorem decide_applies (h : (decide_ d c e a skips step v).reason = 0) :
    (decide_ d c e a skips step v).verdict = 1 ∧ (decide_ d c e a skips step v).skips = 0 ∧
      (c.count = 0 → (decide_ d c e a skips step v).e = e ∧ (decide_ d c e a skips step v).a = a) ∧
      (c.count ≠ 0 → (decide_ d c e a skips step v).a = a + 1 ∧
        (decide_ d c e a skips step v).e = if a = 0 then c.mean else toF64 (fvAdd (fvMul (ofF32 d.beta) (ofF64 (f64Sub e c.mean))) (ofF64 c.mean))) := by
  have happly : ((decide_ d c e a skips step v).reason == 0) = true := beq_iff_eq.mpr h
  refine ⟨if_pos happly, if_pos happly, fun h0 => ?_, fun h0 => ?_⟩
  · have hupd : ¬ ((decide_ d c e a skips step v).reason == 0 && c.count != 0) = true := by simp [h0]
    exact ⟨if_neg hupd, if_neg hupd⟩
  · have hcount : (c.count != 0) = true := bne_iff_ne.mpr h0
    have hupd : ((decide_ d c e a skips step v).reason == 0 && c.count != 0) = true := Bool.and_eq_true_iff.mpr ⟨happly, hcount⟩
    have hmean : (decide_ d c e a skips step v).mean = c.mean := if_pos hcount
    refine ⟨if_pos hupd, ?_⟩
    rw [← hmean]
    exact if_pos hupd

/-- Whatever skips, the verdict is one of the two. -/
theorem decide_verdict : (decide_ d c e a skips step v).verdict = 1 ∨ (decide_ d c e a skips step v).verdict = 2 := by
  by_cases h : (decide_ d c e a skips step v).reason = 0
  · exact .inl (decide_applies h).1
  · exact .inr (decide_skips h).1

theorem decide_skips_le : (decide_ d c e a skips step v).skips ≤ 255 := by
  by_cases h : (decide_ d c e a skips step v).reason = 0
  · rw [(decide_applies h).2.1]
    omega
  · obtain ⟨-, -, -, hskips⟩ := decide_skips h
    omega

/-- The norm and the mean that a decision records. -/
theorem decide_mean : (decide_ d c e a skips step v).mean = if c.count = 0 then nan64 else c.mean := by
  simp [decide_, Contrib.mean]

end

end Sys2Proof.Machine
end

section
/-! PROOFS. What a package does with a verdict record (R283, R284, R418). -/

set_option Elab.async false

namespace Sys2Proof.Machine

/-! The words of a record. -/

theorem step_ofWords (r : Verdict) : (Verdict.ofWords r.words).step = r.step % 2 ^ 32 := bits_wordOf_same 32 32 r.step _ (by decide)

theorem spoke_ofWords {r : Verdict} (h : r.spoke < 2 ^ 60) : (Verdict.ofWords r.words).spoke = r.spoke := by
  have hnat : (spokeWord r.spoke).toNat = 16 * r.spoke := by
    rw [spokeWord, BitVec.toNat_ofNat]
    exact Nat.mod_eq_of_lt (by omega)
  show (spokeWord r.spoke).toNat / 16 = r.spoke
  rw [hnat]
  omega

/-- The Wheel's time in spokes fits the SPOKE word of a record. -/
theorem nowSpokes_lt (s : State) : s.nowSpokes < 2 ^ 60 := by
  have hrev : s.get Fld.WHL_NOW_REV < 2 ^ 48 := get_lt s _
  have hspoke : s.get Fld.WHL_NOW_SPOKE < 2 ^ 12 := get_lt s _
  unfold State.nowSpokes
  omega

theorem openStep_lt (s : State) : s.openStep < 2 ^ 32 := get_lt s _

theorem hasVerdict_congr {s t : State} (h : t.net.vote = s.net.vote) (step v : Nat) : t.hasVerdict step v = s.hasVerdict step v := by
  unfold State.hasVerdict
  rw [h]

/-- The newest record is in the log, whatever it displaces. -/
theorem mem_logVerdict (s : State) (r : Verdict) : r.words ∈ (s.logVerdict r).net.vote.log := by
  show r.words ∈ (s.net.vote.log ++ [r.words]).drop (s.net.vote.log.length + 1 - 64)
  rw [List.drop_append_of_le_length (by omega)]
  exact List.mem_append_right _ (List.mem_singleton.mpr rfl)

theorem hasVerdict_logVerdict (s : State) {r : Verdict} (hs : r.step < 2 ^ 32) (hv : r.spoke < 2 ^ 60) : (s.logVerdict r).hasVerdict r.step r.spoke = true := by
  refine List.any_eq_true.mpr ⟨_, mem_logVerdict s r, ?_⟩
  rw [step_ofWords, spoke_ofWords hv, Nat.mod_eq_of_lt hs, beq_self_eq_true, beq_self_eq_true, Bool.and_self]

/-! A record for the open step (R283, R284). -/

/-- Record `r` in the log and in COL_VERDICT. -/
def State.recorded (s : State) (r : Verdict) : State :=
  ((((s.logVerdict r).setReg Reg.COL_VERDICT (wget r.words 0)).setReg Reg.COL_VERDICT_8 r.g).setReg Reg.COL_VERDICT_10 r.e).setReg Reg.COL_VERDICT_18 r.a

theorem within_recorded (s : State) (r : Verdict) : Within 8388610 s (s.recorded r) :=
  .step (.step (.step (.step ((within_logVerdict ..).mono (by decide)) (within_setReg ..)) (within_setReg ..)) (within_setReg ..)) (within_setReg ..)

theorem reg_recorded (s : State) (r : Verdict) :
    (s.recorded r).reg Reg.COL_VERDICT_8 = r.g ∧ (s.recorded r).reg Reg.COL_VERDICT_10 = r.e ∧ (s.recorded r).reg Reg.COL_VERDICT_18 = r.a := by
  unfold State.recorded
  refine ⟨?_, ?_, ?_⟩ <;> simp (disch := decide) only [reg_setReg_other, reg_setReg_same]

/-- A register below COL_VERDICT or above it. -/
theorem reg_recorded_other (s : State) (r : Verdict) {a : Nat} (h : a < Reg.COL_VERDICT ∨ Reg.COL_VERDICT_18 < a) : (s.recorded r).reg a = s.reg a := by
  simp only [Reg.COL_VERDICT, Reg.COL_VERDICT_18] at h
  have hne : a ≠ Reg.COL_VERDICT ∧ a ≠ Reg.COL_VERDICT_8 ∧ a ≠ Reg.COL_VERDICT_10 ∧ a ≠ Reg.COL_VERDICT_18 := by
    simp only [Reg.COL_VERDICT, Reg.COL_VERDICT_8, Reg.COL_VERDICT_10, Reg.COL_VERDICT_18]
    omega
  obtain ⟨h0, h8, h10, h18⟩ := hne
  unfold State.recorded
  rw [reg_setReg_other _ _ h18, reg_setReg_other _ _ h10, reg_setReg_other _ _ h8, reg_setReg_other _ _ h0]
  exact (within_logVerdict ..).reg_eq a

theorem get_recorded_other (s : State) (r : Verdict) {f : Fld} (h : f.reg < Reg.COL_VERDICT ∨ Reg.COL_VERDICT_18 < f.reg) : (s.recorded r).get f = s.get f := by
  unfold State.get
  rw [reg_recorded_other s r h]

/-- A record of the open step that is not in the log is acted on. -/
theorem actVerdict_open {s : State} {r : Verdict} (hnew : s.hasVerdict r.step r.spoke = false) (hopen : r.step = s.openStep) :
    s.actVerdict r = if r.verdict = 3 then (s.recorded r).deferVote else (s.recorded r).closeVote r := by
  have hlog : (s.logVerdict r).openStep = s.openStep := rfl
  have hrecorded : (s.recorded r).openStep = s.openStep := get_recorded_other s r (by decide)
  have hstale : ¬ (((s.logVerdict r).net.vote.opened && decide (r.step < (s.logVerdict r).openStep)) = true) := by simp [hlog, hopen]
  have hother : ¬ ((s.recorded r).net.vote.opened = true ∧ r.step ≠ (s.recorded r).openStep) := by simp [hrecorded, hopen]
  exact (if_neg (by simp [hnew])).trans ((if_neg hstale).trans (if_neg hother))

/-! A verdict deferred (R283). -/

/-- What `deferVote` leaves of the vote's registers. -/
theorem deferVote_regs (s : State) :
    s.deferVote.openStep = s.openStep ∧ s.deferVote.get Fld.COL_VOTESTEP_LAST = 3 ∧ s.Up s.deferVote Fld.COL_VOTESTEP_DEFERS ∧ s.Up s.deferVote Fld.COL_VOTECNT_DEFER := by
  have hquiet : ∀ {f : Fld}, ColReg f.reg → s.deferVote.get f =
      ((((s.count Fld.COL_VOTECNT_DEFER 1).count Fld.COL_VOTESTEP_DEFERS 1).set Fld.COL_VOTESTEP_LAST 3).set Fld.COL_VOTESTEP_STATE (b2n s.net.vote.sealed_)).get f :=
    fun hf => (keepsCol_raise ..).get _ hf
  refine ⟨(hquiet ⟨by decide, by decide⟩).trans ?_, (hquiet ⟨by decide, by decide⟩).trans ?_, (hquiet ⟨by decide, by decide⟩).trans ?_, (hquiet ⟨by decide, by decide⟩).trans ?_⟩
  · simp (disch := decide) only [get_set_other, get_count_other, State.openStep]
  · simp (disch := decide) only [get_set_other, get_set_same]
    rfl
  · simp (disch := decide) only [get_set_other, get_count_same, get_count_other]
    rfl
  · simp (disch := decide) only [get_set_other, get_count_same, get_count_other]
    rfl

/-- The averages stay. -/
theorem reg_deferVote_other (s : State) {a : Nat} (h : ColReg a) (h0 : a ≠ Reg.COL_VOTECNT) (h1 : a ≠ Reg.COL_VOTESTEP) : s.deferVote.reg a = s.reg a := by
  refine ((keepsCol_raise ..).reg a h).trans ?_
  rw [reg_set_other _ _ h1, reg_set_other _ _ h1, reg_count_other _ _ h1, reg_count_other _ _ h0]

/-! A step closed (R284). -/

/-- The state with the seal of `r`'s step completed and the next step open. -/
def State.advanced (s : State) (r : Verdict) : State :=
  ((((((s.completeSeal r).set Fld.COL_VOTESTEP_OPEN ((r.step + 1) % 2 ^ 32)).set Fld.COL_VOTESTEP_STATE 0).set Fld.COL_VOTESTEP_LAST r.verdict).set
    Fld.COL_VOTESTEP_DEFERS 0).set Fld.COL_VOTESTEP_SKIPS r.skips).vmod (fun x => { x with sealed_ := false, launched := none, delivered := sinsert x.delivered r.step r.verdict })

theorem keepsCol_completeSeal (s : State) (r : Verdict) : s.KeepsCol (s.completeSeal r) := .foldl _ s fun _ _ => keepsCol_finish ..

theorem vote_advanced (s : State) (r : Verdict) :
    (s.advanced r).net.vote = { s.net.vote with sealed_ := false, launched := none, delivered := sinsert s.net.vote.delivered r.step r.verdict } := by
  have hnet : (s.completeSeal r).net = s.net := (within_completeSeal s r).same .net (by decide)
  rw [← hnet]
  rfl

theorem cmd_advanced (s : State) (r : Verdict) (j : Nat) : (s.advanced r).cmd j = (s.completeSeal r).cmd j := rfl

theorem votestep_advanced (s : State) (r : Verdict) :
    (s.advanced r).openStep = (r.step + 1) % 2 ^ 32 ∧ (s.advanced r).get Fld.COL_VOTESTEP_STATE = 0 ∧ (s.advanced r).get Fld.COL_VOTESTEP_LAST = r.verdict % 2 ^ 2 ∧
      (s.advanced r).get Fld.COL_VOTESTEP_DEFERS = 0 ∧ (s.advanced r).get Fld.COL_VOTESTEP_SKIPS = r.skips % 2 ^ 8 := by
  have hvmod : ∀ (t : State) (f : VoteState → VoteState) (x : Fld), (t.vmod f).get x = t.get x := fun _ _ _ => rfl
  unfold State.advanced State.openStep
  refine ⟨?_, ?_, ?_, ?_, ?_⟩
  · simp (disch := decide) only [hvmod, get_set_other, get_set_same]
    exact Nat.mod_mod _ _
  · simp (disch := decide) only [hvmod, get_set_other, get_set_same, Nat.zero_mod]
  · simp (disch := decide) only [hvmod, get_set_other, get_set_same]
    rfl
  · simp (disch := decide) only [hvmod, get_set_other, get_set_same, Nat.zero_mod]
  · simp (disch := decide) only [hvmod, get_set_same]
    rfl

theorem reg_advanced (s : State) (r : Verdict) {a : Nat} (h : ColReg a) (hne : a ≠ Reg.COL_VOTESTEP) : (s.advanced r).reg a = s.reg a := by
  have hvmod : ∀ (t : State) (f : VoteState → VoteState), (t.vmod f).reg a = t.reg a := fun _ _ => rfl
  unfold State.advanced
  rw [hvmod, reg_set_other _ _ hne, reg_set_other _ _ hne, reg_set_other _ _ hne, reg_set_other _ _ hne, reg_set_other _ _ hne]
  exact (keepsCol_completeSeal s r).reg a h

/-- The counter that a closed step raises. -/
def Verdict.counter (r : Verdict) : Fld :=
  if r.verdict = 1 then Fld.COL_VOTECNT_APPLY else if r.reason = 1 then Fld.COL_VOTECNT_NONFINITE else if r.reason = 2 then Fld.COL_VOTECNT_NORM else Fld.COL_VOTECNT_SPIKE

theorem countSkip_eq (s : State) {r : Verdict} (h : r.verdict ≠ 1) : s.countSkip r.reason = s.count r.counter 1 := by
  unfold State.countSkip Verdict.counter
  rw [if_neg h]
  split
  · next h1 => simp [h1]
  · next h2 => simp [h2]
  · next h1 h2 => rw [if_neg h1, if_neg h2]

/-- What a skip adds: the match of the detector and the alert after as many skips in a row as it asks for. -/
def State.alerted (s : State) (r : Verdict) : State :=
  if (s.detector r.step).1.skipAlert ≠ 0 ∧ r.skips = (s.detector r.step).1.skipAlert then ((s.detector r.step).2.count Fld.COL_VOTECNT_ALERT 1).voteEvent 2 else (s.detector r.step).2

theorem closeVote_eq (s : State) (r : Verdict) :
    s.closeVote r = if r.verdict = 1 then (s.advanced r).count r.counter 1 else ((s.advanced r).count r.counter 1).alerted r := by
  by_cases h : r.verdict = 1
  · have hc : r.counter = Fld.COL_VOTECNT_APPLY := if_pos h
    rw [if_pos h, hc]
    exact if_pos h
  · rw [if_neg h, ← countSkip_eq _ h]
    exact if_neg h

theorem within_alerted (s : State) (r : Verdict) : Within 194 s (s.alerted r) :=
  have hdetector : Within 194 s (s.detector r.step).2 := (within_detector ..).mono (by decide)
  .ite (.step (.step hdetector (within_count ..)) (within_voteEvent ..)) hdetector

theorem keepsCol_detector (s : State) (step : Nat) : s.KeepsCol (s.detector step).2 := by
  unfold State.detector
  split
  · exact .refl s
  · exact .refl s
  · exact keepsCol_count s (Fld.HRN_MMATCH_COUNT 0xE) 1 (.inl (by decide))

theorem get_alerted (s : State) (r : Verdict) {f : Fld} (hf : ColReg f.reg) (h : f.reg ≠ Reg.COL_VOTECNT ∨ 8 ≤ f.lo) : (s.alerted r).get f = s.get f := by
  have hdetector := (keepsCol_detector s r.step).get f hf
  have hraised := (keepsCol_raise ((s.detector r.step).2.count Fld.COL_VOTECNT_ALERT 1) .vote 0 (((s.detector r.step).2.count Fld.COL_VOTECNT_ALERT 1).reg Reg.COL_VOTESTEP) 2).get f hf
  have hcount := get_count_other (s.detector r.step).2 Fld.COL_VOTECNT_ALERT f 1 (h.imp id .inr)
  unfold State.alerted
  split
  · exact hraised.trans (hcount.trans hdetector)
  · exact hdetector

theorem reg_alerted (s : State) (r : Verdict) {a : Nat} (h : ColReg a) (hne : a ≠ Reg.COL_VOTECNT) : (s.alerted r).reg a = s.reg a := by
  have hdetector := (keepsCol_detector s r.step).reg a h
  unfold State.alerted
  split
  · exact ((keepsCol_raise ..).reg a h).trans ((reg_count_other _ _ hne).trans hdetector)
  · exact hdetector

/-- The counters of a closed step share a register; none of them is the alert's. -/
theorem counter_spec (r : Verdict) : r.counter.reg = Reg.COL_VOTECNT ∧ 8 ≤ r.counter.lo ∧ r.counter.lo + r.counter.n ≤ 64 := by
  unfold Verdict.counter
  split
  · decide
  · split
    · decide
    · split <;> decide

/-- What follows the opening of the next step: a counter, and for a skip the match of its detector and the alert. -/
theorem within_closeVote_advanced (s : State) (r : Verdict) : Within 194 (s.advanced r) (s.closeVote r) := by
  have hcount : Within 194 (s.advanced r) ((s.advanced r).count r.counter 1) := (within_count ..).mono (by decide)
  rw [closeVote_eq]
  exact .ite hcount (.step hcount (within_alerted ..))

theorem reg_closeVote (s : State) (r : Verdict) {a : Nat} (h : ColReg a) (hne : a ≠ Reg.COL_VOTECNT) : (s.closeVote r).reg a = (s.advanced r).reg a := by
  have hcount : ((s.advanced r).count r.counter 1).reg a = (s.advanced r).reg a := reg_count_other _ _ (by rwa [(counter_spec r).1])
  rw [closeVote_eq]
  split
  · exact hcount
  · exact (reg_alerted _ r h hne).trans hcount

theorem get_closeVote (s : State) (r : Verdict) {f : Fld} (h : ColReg f.reg) (hne : f.reg ≠ Reg.COL_VOTECNT) : (s.closeVote r).get f = (s.advanced r).get f := by
  unfold State.get
  rw [reg_closeVote s r h hne]

theorem up_closeVote (s : State) (r : Verdict) : s.Up (s.closeVote r) r.counter := by
  obtain ⟨hreg, hlo, hn⟩ := counter_spec r
  have hcol : ColReg r.counter.reg := by
    rw [hreg]
    exact ⟨by decide, by decide⟩
  have hadvanced : (s.advanced r).get r.counter = s.get r.counter := by
    unfold State.get
    rw [reg_advanced s r hcol (by rw [hreg]; decide)]
  have hup := up_count (s.advanced r) r.counter hn
  unfold State.Up at *
  rw [← hadvanced, ← hup, closeVote_eq]
  split
  · rfl
  · exact get_alerted _ r hcol (.inr hlo)

/-- A closed step, in the vote's registers and its state. -/
theorem closeVote_closes (s : State) {r : Verdict} (hverdict : r.verdict < 2 ^ 2) :
    (s.closeVote r).openStep = (r.step + 1) % 2 ^ 32 ∧ (s.closeVote r).get Fld.COL_VOTESTEP_STATE = 0 ∧ (s.closeVote r).get Fld.COL_VOTESTEP_LAST = r.verdict ∧
      (s.closeVote r).get Fld.COL_VOTESTEP_DEFERS = 0 ∧ (s.closeVote r).get Fld.COL_VOTESTEP_SKIPS = r.skips % 2 ^ 8 := by
  have hget : ∀ {f : Fld}, f.reg = Reg.COL_VOTESTEP → (s.closeVote r).get f = (s.advanced r).get f := fun hf => get_closeVote s r (by rw [hf]; exact ⟨by decide, by decide⟩) (by rw [hf]; decide)
  obtain ⟨hopen, hstate, hlast, hdefers, hskip⟩ := votestep_advanced s r
  exact ⟨(hget rfl).trans hopen, (hget rfl).trans hstate, (hget rfl).trans (hlast.trans (Nat.mod_eq_of_lt hverdict)), (hget rfl).trans hdefers,
    (hget rfl).trans hskip⟩

theorem vote_closeVote (s : State) (r : Verdict) :
    (s.closeVote r).net.vote = { s.net.vote with sealed_ := false, launched := none, delivered := sinsert s.net.vote.delivered r.step r.verdict } := by
  rw [show (s.closeVote r).net = (s.advanced r).net from (within_closeVote_advanced s r).same .net (by decide), vote_advanced]

theorem reg_closeVote_kept (s : State) (r : Verdict) {a : Nat} (h : ColReg a) (h0 : a ≠ Reg.COL_VOTECNT) (h1 : a ≠ Reg.COL_VOTESTEP) : (s.closeVote r).reg a = s.reg a :=
  (reg_closeVote s r h h0).trans (reg_advanced s r h h1)

theorem cmd_closeVote (s : State) (r : Verdict) (j : Nat) : (s.closeVote r).cmd j = (s.completeSeal r).cmd j :=
  ((within_closeVote_advanced s r).cmd_eq j).trans (cmd_advanced s r j)

end Sys2Proof.Machine
end

section
/-! PROOFS. The seals that a verdict completes (R281, R284). -/

set_option Elab.async false

namespace Sys2Proof.Machine

/-- A command of the host that runs on no tile, under way: its end commits it and changes no other. -/
structure JEntry.Alone (e : JEntry) : Prop where
  unended : e.fin = none
  host : e.parent = 0
  offTile : e.onTile = false

/-- Such a command at its end. -/
def JEntry.endedAlone (e : JEntry) (st : Status) (r0 r1 : Word) : JEntry :=
  { e with fin := some st.num, res0 := r0, res1 := r1, unit := .none, resv := [], status := st.num, settled := true, reported := true,
           st := if e.refusal.isSome ∨ e.st = .accepted then e.st else .committed }

theorem finish_alone {s : State} {j : Nat} {e : JEntry} (h : s.cmd j = some e) (ha : e.Alone) (st : Status) (r0 r1 : Word) :
    s.finish j st r0 r1 = (s.jmod j fun x => { x with fin := some st.num, res0 := r0, res1 := r1, unit := if x.onTile then x.unit else .none }).settleOne j { e with fin := some st.num } st.num := by
  obtain ⟨hf, hp, ht⟩ := ha
  have hs : e.isStream = false := by unfold JEntry.isStream; rw [ht]; rfl
  unfold State.finish
  rw [h]
  simp only [hf, Option.isSome_none, Bool.false_eq_true, if_false, hs, ht, State.settle, hp, if_true]

theorem cmd_finish_same {s : State} {j : Nat} {e : JEntry} (h : s.cmd j = some e) (ha : e.Alone) (st : Status) (r0 r1 : Word) :
    (s.finish j st r0 r1).cmd j = some (e.endedAlone st r0 r1) :=
  finish_commits s j st r0 r1 e h ha.unended ha.host ha.offTile

theorem cmd_finish_other {s : State} {i j : Nat} {e : JEntry} (h : s.cmd j = some e) (ha : e.Alone) (hne : i ≠ j) (st : Status) (r0 r1 : Word) :
    (s.finish j st r0 r1).cmd i = s.cmd i := by
  rw [finish_alone h ha, cmd_settleOne, if_neg hne, cmd_jmod_other _ _ hne]

/-- Commands that end one after the other, each alone: each of them has ended, and the others are as they were. -/
theorem cmd_foldl_finish (st : Status) (r0 r1 : Word) (l : List (Nat × JEntry)) (s : State) (hnodup : (l.map (·.1)).Nodup) (hl : ∀ x ∈ l, s.cmd x.1 = some x.2 ∧ x.2.Alone) :
    (∀ i, i ∉ l.map (·.1) → (l.foldl (fun t x => t.finish x.1 st r0 r1) s).cmd i = s.cmd i) ∧
      ∀ x ∈ l, (l.foldl (fun t x => t.finish x.1 st r0 r1) s).cmd x.1 = some (x.2.endedAlone st r0 r1) := by
  induction l generalizing s with
  | nil => exact ⟨fun _ _ => rfl, by simp⟩
  | cons x l ih =>
    obtain ⟨hx, hrest⟩ := List.forall_mem_cons.mp hl
    obtain ⟨hcmd, halone⟩ := hx
    rw [List.map_cons, List.nodup_cons] at hnodup
    obtain ⟨hnot, hnodup⟩ := hnodup
    have hother : ∀ i, i ≠ x.1 → (s.finish x.1 st r0 r1).cmd i = s.cmd i := fun i hi => cmd_finish_other hcmd halone hi st r0 r1
    have hl' : ∀ y ∈ l, (s.finish x.1 st r0 r1).cmd y.1 = some y.2 ∧ y.2.Alone := fun y hy =>
      ⟨(hother y.1 fun heq => hnot (heq ▸ List.mem_map_of_mem hy)).trans (hrest y hy).1, (hrest y hy).2⟩
    obtain ⟨hout, hin⟩ := ih (s.finish x.1 st r0 r1) hnodup hl'
    refine ⟨fun i hi => ?_, fun y hy => ?_⟩
    · rw [List.map_cons, List.mem_cons, not_or] at hi
      exact (hout i hi.2).trans (hother i hi.1)
    · obtain rfl | hy := List.mem_cons.mp hy
      · exact (hout y.1 hnot).trans (cmd_finish_same hcmd halone st r0 r1)
      · exact hin y hy

/-- The keys of a table in order are distinct. -/
theorem nodup_keys_of_srises {β : Type} {l : SMap β} (h : srises l = true) : (l.map (·.1)).Nodup := by
  have above : ∀ (l : SMap β) (lo : Nat), srisesFrom lo l = true → (∀ k ∈ l.map (·.1), lo < k) ∧ (l.map (·.1)).Nodup := by
    intro l
    induction l with
    | nil => exact fun _ _ => ⟨by simp, List.nodup_nil⟩
    | cons x r ih =>
      intro lo hlo
      simp only [srisesFrom, Bool.and_eq_true, decide_eq_true_eq] at hlo
      obtain ⟨hx, hr⟩ := hlo
      obtain ⟨hgt, hnodup⟩ := ih x.1 hr
      refine ⟨List.forall_mem_cons.mpr ⟨hx, fun k hk => Nat.lt_trans hx (hgt k hk)⟩, List.nodup_cons.mpr ⟨fun hmem => Nat.lt_irrefl _ (hgt _ hmem), hnodup⟩⟩
  cases l with
  | nil => exact List.nodup_nil
  | cons x r =>
    obtain ⟨hgt, hnodup⟩ := above r x.1 h
    exact List.nodup_cons.mpr ⟨fun hmem => Nat.lt_irrefl _ (hgt _ hmem), hnodup⟩

/-- Entry `e` is a sealed VOTE_SEAL of a step, under way. -/
def JEntry.sealedFor (e : JEntry) (step : Nat) : Bool := e.target == .collective && colOp e.words == 1 && colKey e.words == step && e.sent && e.fin.isNone

/-- The result that a verdict gives its seals. -/
def State.sealResult (s : State) (r : Verdict) : Word × Word := Machine.sealResult r (s.get Fld.COL_VOTESTEP_DEFERS)

theorem completeSeal_eq (s : State) (r : Verdict) :
    s.completeSeal r = (s.journal.filter (fun x => x.2.sealedFor r.step)).foldl
      (fun t x => t.finish x.1 (if r.verdict = 2 then .skippedStep else .ok) (s.sealResult r).1 (s.sealResult r).2) s := rfl

/-- A sealed VOTE_SEAL of the step ends with the verdict's status and result. -/
theorem cmd_completeSeal {s : State} {r : Verdict} {j : Nat} {e : JEntry} (hw : srises s.journal = true) (halone : ∀ i x, s.cmd i = some x → x.target = .collective → x.parent = 0)
    (h : s.cmd j = some e) (hs : e.sealedFor r.step = true) :
    (s.completeSeal r).cmd j = some (e.endedAlone (if r.verdict = 2 then .skippedStep else .ok) (s.sealResult r).1 (s.sealResult r).2) := by
  have hl : ∀ x ∈ s.journal.filter (fun x => x.2.sealedFor r.step), s.cmd x.1 = some x.2 ∧ x.2.Alone := by
    intro x hx
    obtain ⟨hmem, hseal⟩ := List.mem_filter.mp hx
    have hcmd : s.cmd x.1 = some x.2 := sfind_of_mem hw hmem
    simp only [JEntry.sealedFor, Bool.and_eq_true, beq_iff_eq, Option.isNone_iff_eq_none] at hseal
    obtain ⟨⟨⟨⟨htarget, -⟩, -⟩, -⟩, hfin⟩ := hseal
    exact ⟨hcmd, hfin, halone _ _ hcmd htarget, by unfold JEntry.onTile; rw [htarget]⟩
  rw [completeSeal_eq]
  exact (cmd_foldl_finish _ _ _ _ s (nodup_keys_of_srises (srises_filter _ hw)) hl).2 (j, e) (List.mem_filter.mpr ⟨mem_of_sfind h, hs⟩)

/-- A dispatched command that ends alone is committed. -/
theorem committed_of_endedAlone {t : State} {j : Nat} {e : JEntry} {st : Status} {r0 r1 : Word} (h : t.cmd j = some (e.endedAlone st r0 r1)) (hst : e.st = .dispatched)
    (href : e.refusal = none) : t.Committed j st r0 r1 :=
  ⟨_, h, by simp [JEntry.endedAlone, hst, href], rfl, rfl, rfl, rfl, rfl⟩

end Sys2Proof.Machine
end

section
/-! PROOFS. The vote spoke at the herd root, and the verdict messages (R283, R284, R418). -/

set_option Elab.async false

namespace Sys2Proof.Machine

/-! The vote spoke. -/

/-- The state in which the herd root decides at the vote spoke of calendar entry `n`. -/
def State.deciding (s : State) (n : Nat) : State := ((s.noteFired (2 * n)).calMatch (s.voteShared n s.nowSpokes false)).count Fld.WHL_CALCNT_FIRED 1

theorem within_deciding (s : State) (n : Nat) : Within 4194306 s (s.deciding n) :=
  .step (.step ((within_noteFired ..).mono (by decide)) (within_calMatch ..)) (within_count ..)

theorem reg_deciding (s : State) (n : Nat) {a : Nat} (h : ColReg a) (hne : a ≠ Reg.WHL_CALCNT) : (s.deciding n).reg a = s.reg a := by
  have hmatch : (s.noteFired (2 * n)).KeepsCol ((s.noteFired (2 * n)).calMatch (s.voteShared n s.nowSpokes false)) :=
    .ite (keepsCol_count _ (Fld.HRN_MMATCH_COUNT 8) 1 (.inl (by decide))) (.refl _)
  exact (reg_count_other _ _ hne).trans (hmatch.reg a h)

theorem get_deciding (s : State) (n : Nat) {f : Fld} (h : ColReg f.reg) (hne : f.reg ≠ Reg.WHL_CALCNT) : (s.deciding n).get f = s.get f := by
  unfold State.get
  rw [reg_deciding s n h hne]

theorem up_deciding (s : State) (n : Nat) : s.Up (s.deciding n) Fld.WHL_CALCNT_FIRED := by
  have hmatch : ((s.noteFired (2 * n)).calMatch (s.voteShared n s.nowSpokes false)).get Fld.WHL_CALCNT_FIRED = s.get Fld.WHL_CALCNT_FIRED := by
    unfold State.calMatch
    split
    · exact get_count_other _ _ _ _ (.inl (by decide))
    · rfl
  have hup := up_count ((s.noteFired (2 * n)).calMatch (s.voteShared n s.nowSpokes false)) Fld.WHL_CALCNT_FIRED (by decide)
  unfold State.Up at *
  rw [← hmatch]
  exact hup

theorem calAllowed_calMatch (s : State) (b : Bool) (e : CalEntry) : (s.calMatch b).calAllowed e = s.calAllowed e := by
  have hget : ∀ {f : Fld}, f.reg ≠ (Fld.HRN_MMATCH_COUNT 8).reg → (s.calMatch b).get f = s.get f := by
    intro f hf
    unfold State.calMatch
    split
    · exact get_count_other _ _ _ _ (.inl hf)
    · rfl
  unfold State.calAllowed State.whlState
  rw [hget (by decide), hget (by decide)]

/-- The herd's record of the open step for vote spoke `v`, if the herd's level is complete. -/
def State.herdRecord (s : State) (v : Nat) : Option Contrib :=
  (s.partialOf true s.openStep v 2).bind (fun p => if p.inputs.length < s.levelSize 2 then none else combineVotes (p.inputs.map (fun x => x.2)))

/-- The herd root's DEFER. -/
def State.deferral (s : State) (v : Nat) : Verdict × State := s.deferRecord (s.reg Reg.COL_VERDICT_10) (s.reg Reg.COL_VERDICT_18) (s.get Fld.COL_VOTESTEP_SKIPS) v

/-- The herd root's decision on record `c`. -/
def State.decision (s : State) (c : Contrib) (v : Nat) : Verdict :=
  decide_ (s.detector s.openStep).1 c (s.reg Reg.COL_VERDICT_10) (s.reg Reg.COL_VERDICT_18) (s.get Fld.COL_VOTESTEP_SKIPS) s.openStep v

/-- The verdict of the herd root at vote spoke `v`. -/
def State.verdictAt (s : State) (v : Nat) : Verdict × State :=
  match s.herdRecord v with
  | none => s.deferral v
  | some c => if c.uns then s.deferral v else (s.decision c v, (s.detector s.openStep).2)

/-- The round closed and the verdict `x.1` sent to the herd, from state `x.2`. -/
def State.told (x : Verdict × State) (v : Nat) : State := (x.2.endRound v).broadcast 7 x.1.words

/-- That verdict acted on here as well. -/
def State.announced (x : Verdict × State) (v : Nat) : State := (State.told x v).actVerdict x.1

/-- At a vote spoke that its entry may serve, the running herd root decides. -/
theorem exec_voteDecision {s : State} {n : Nat} (hk : (s.calEntry n).kind = 2) (hn : n < s.calSize) (hdue : s.calDue (s.calEntry n) = true) (hf : s.hasFired (2 * n) = false)
    (hshared : s.voteShared n s.nowSpokes true = false) (hall : s.calAllowed (s.calEntry n) = true) (hroot : s.herdAddr = 0) (hlive : s.live = true) :
    exec (.voteDecision n) s = .next (State.announced ((s.deciding n).verdictAt s.nowSpokes) s.nowSpokes) := by
  have hwithin := within_deciding s n
  have hidle : ¬ ((s.calEntry n).kind ≠ 2 ∨ s.calSize ≤ n ∨ ¬ s.calDue (s.calEntry n) = true ∨ s.hasFired (2 * n) = true) := by
    simp [hk, hdue, hf, Nat.not_le.mpr hn]
  have hlower : ¬ ((s.noteFired (2 * n)).voteShared n s.nowSpokes true = true) := by
    rw [show (s.noteFired (2 * n)).voteShared n s.nowSpokes true = s.voteShared n s.nowSpokes true from rfl, hshared]
    decide
  have hallowed : ¬ (¬ ((s.noteFired (2 * n)).calMatch (s.voteShared n s.nowSpokes false)).calAllowed (s.calEntry n) = true) := by
    rw [calAllowed_calMatch]
    exact fun hnot => hnot hall
  have hhere : ¬ ((s.deciding n).herdAddr ≠ 0 ∨ ¬ (s.deciding n).live = true) := by
    have haddr : (s.deciding n).herdAddr = s.herdAddr := herdAddr_congr (hwithin.same .image (by decide))
    have hrun : (s.deciding n).live = s.live := by
      unfold State.live
      rw [show (s.deciding n).halt = s.halt from hwithin.same .halt (by decide), show (s.deciding n).power = s.power from hwithin.same .power (by decide)]
    simp [haddr, hroot, hrun, hlive]
  have hexec : exec (.voteDecision n) s = execVoteDecision n s := rfl
  exact hexec.trans ((if_neg hidle).trans ((if_neg hlower).trans ((if_neg hallowed).trans (if_neg hhere))))



/-! What the deciding state has in common with the state before it. -/

theorem detector_congr {s t : State} (h : t.sections = s.sections) (step : Nat) : (t.detector step).1 = (s.detector step).1 := by
  have hentries : (if t.hasSection 0xE then t.detectorsOf step else []) = (if s.hasSection 0xE then s.detectorsOf step else []) := by
    unfold State.hasSection State.detectorsOf State.section_
    rw [h]
  unfold State.detector
  rw [hentries]
  split <;> rfl

theorem openStep_deciding (s : State) (n : Nat) : (s.deciding n).openStep = s.openStep := get_deciding s n ⟨by decide, by decide⟩ (by decide)

theorem herdRecord_deciding (s : State) (n v : Nat) : (s.deciding n).herdRecord v = s.herdRecord v := by
  have hwithin := within_deciding s n
  have hsize : (s.deciding n).levelSize 2 = s.levelSize 2 := by
    unfold State.levelSize State.extents
    rw [show (s.deciding n).image = s.image from hwithin.same .image (by decide)]
  unfold State.herdRecord State.partialOf
  rw [openStep_deciding, hsize, show (s.deciding n).net = s.net from hwithin.same .net (by decide)]

theorem decision_deciding (s : State) (n : Nat) (c : Contrib) (v : Nat) : (s.deciding n).decision c v = s.decision c v := by
  unfold State.decision
  rw [openStep_deciding, detector_congr ((within_deciding s n).same .sections (by decide)), reg_deciding s n (a := Reg.COL_VERDICT_10) ⟨by decide, by decide⟩ (by decide),
    reg_deciding s n (a := Reg.COL_VERDICT_18) ⟨by decide, by decide⟩ (by decide), get_deciding s n (f := Fld.COL_VOTESTEP_SKIPS) ⟨by decide, by decide⟩ (by decide)]

/-- A complete and sealed record of the herd is decided. -/
theorem verdictAt_decides {s : State} {c : Contrib} {v : Nat} (h : s.herdRecord v = some c) (hc : c.uns = false) (n : Nat) :
    (s.deciding n).verdictAt v = (s.decision c v, ((s.deciding n).detector s.openStep).2) := by
  unfold State.verdictAt
  rw [herdRecord_deciding, h, ← decision_deciding s n, ← openStep_deciding s n]
  exact if_neg (by simp [hc])

/-- Any other record defers. -/
theorem verdictAt_defers {s : State} {v : Nat} (h : ∀ c, s.herdRecord v = some c → c.uns = true) (n : Nat) : (s.deciding n).verdictAt v = (s.deciding n).deferral v := by
  unfold State.verdictAt
  rw [herdRecord_deciding]
  split
  · rfl
  · next c hc => exact if_pos (h c hc)

/-- State `w`, in which the herd root of `s` acts on its verdict: the vote, its registers and the journal are those of `s`. -/
structure State.Acting (s w : State) : Prop where
  vote : w.net.vote = s.net.vote
  reg : ∀ a, ColReg a → a ≠ Reg.WHL_CALCNT → w.reg a = s.reg a
  fired : s.Up w Fld.WHL_CALCNT_FIRED
  journal : w.journal = s.journal

theorem State.Acting.get {s w : State} (h : s.Acting w) {f : Fld} (hf : ColReg f.reg) (hne : f.reg ≠ Reg.WHL_CALCNT) : w.get f = s.get f := by
  unfold State.get
  rw [h.reg _ hf hne]

/-- To send the verdict changes none of them. -/
theorem acting_told {s : State} {n : Nat} {x : Verdict × State} (hw : Within 3 (s.deciding n) x.2) (hk : (s.deciding n).KeepsCol x.2) (v : Nat) : s.Acting (State.told x v) := by
  have hsent : Within 8388608 x.2 (State.told x v) := .step (within_endRound ..) (within_broadcast ..)
  have hfrom : x.2.net = (s.deciding n).net := hw.same .net (by decide)
  have hnet : x.2.net = s.net := hfrom.trans ((within_deciding s n).same .net (by decide))
  refine ⟨?_, fun a ha hne => ?_, ?_, ?_⟩
  · rw [State.told, vote_broadcast, ← hnet]
    rfl
  · exact (hsent.reg_eq a).trans ((hk.reg a ha).trans (reg_deciding s n ha hne))
  · exact (hsent.get_eq _).trans ((hk.get _ ⟨by decide, by decide⟩).trans (up_deciding s n))
  · exact hsent.journal_eq.trans (hw.journal_eq.trans (within_deciding s n).journal_eq)

/-! Verdict messages (R418). -/

/-- A package with a verdict that came from its parent sends it on. -/
def State.relayed (s : State) (m : Msg) : State := if s.parentOf = some m.src then (s.dropMsg m).broadcast 7 m.extra else s.dropMsg m

theorem exec_verdict {s : State} {m : Msg} (h : s.net.inbox.find? (fun m => m.mtype == 7) = some m) : exec .verdict s = .next ((s.relayed m).actVerdict (Verdict.ofWords m.extra)) := by
  have hexec : exec .verdict s = execVerdict s := rfl
  rw [hexec, execVerdict, takeMsg_of_find h]
  rfl

theorem within_relayed (s : State) (m : Msg) : Within 8388608 s (s.relayed m) := .ite (.step (within_dropMsg ..) (within_broadcast ..)) (within_dropMsg ..)

theorem vote_relayed (s : State) (m : Msg) : (s.relayed m).net.vote = s.net.vote := by
  unfold State.relayed
  split
  · exact vote_broadcast ..
  · rfl

/-- A record that is already in the log changes nothing. -/
theorem actVerdict_again {s : State} {r : Verdict} (h : s.hasVerdict r.step r.spoke = true) : s.actVerdict r = s := if_pos h

/-! A package that misses a verdict asks its neighbours (R418). -/

/-- A package without a verdict for vote spoke `v` asks the neighbour at port `p`. -/
def State.ask (v : Nat) (s : State) (p : Nat) : State := s.sendMsg (Msg.collective (s.neighbour p) 8 [BitVec.ofNat 64 s.openStep, spokeWord v]) 0

theorem within_foldl_ask (v : Nat) (l : List Nat) (s : State) : Within 8388608 s (l.foldl (State.ask v) s) := .foldl (.refl ..) fun _ _ => .step (.refl ..) (within_sendMsg ..)

theorem vote_foldl_ask (v : Nat) (l : List Nat) (s : State) : (l.foldl (State.ask v) s).net.vote = s.net.vote :=
  List.foldlRecOn (motive := fun t : State => t.net.vote = s.net.vote) _ _ rfl fun _ ht _ _ => (vote_sendMsg ..).trans ht

theorem neighbour_congr {s t : State} (h : t.image = s.image) (p : Nat) : t.neighbour p = s.neighbour p := by
  unfold State.neighbour State.extents
  rw [herdAddr_congr h, h]

/-- Neighbours that lie over other ports leave port `p` as it is. -/
theorem port_foldl_ask {p : Nat} (v : Nat) (l : List Nat) (s : State) (h : ∀ q ∈ l, s.nextHop (s.neighbour q) ≠ some p) : (l.foldl (State.ask v) s).port p = s.port p := by
  induction l generalizing s with
  | nil => rfl
  | cons q l ih =>
    obtain ⟨hq, hl⟩ := List.forall_mem_cons.mp h
    have himage : (s.ask v q).image = s.image := (within_sendMsg s (Msg.collective (s.neighbour q) 8 [BitVec.ofNat 64 s.openStep, spokeWord v]) 0).same .image (by decide)
    refine (ih (s.ask v q) fun x hx => ?_).trans (port_sendMsg_other hq 0)
    rw [neighbour_congr himage, nextHop_congr himage]
    exact hl x hx

/-- The question to the neighbour at port `p`, among those to the neighbours over other ports. -/
theorem queued_foldl_ask {s : State} {p : Nat} (hhop : s.nextHop (s.neighbour p) = some p) (hret : s.isRetired 2 p = false) (v : Nat) {l l' : List Nat}
    (hl : ∀ q ∈ l, s.nextHop (s.neighbour q) ≠ some p) (hl' : ∀ q ∈ l', s.nextHop (s.neighbour q) ≠ some p) :
    ∃ tag, s.Queued ((l ++ p :: l').foldl (State.ask v) s) p { (s.newMsg (s.neighbour p) 8 [BitVec.ofNat 64 s.openStep, spokeWord v]) with tag := tag } 0 := by
  have hwithin := within_foldl_ask v l s
  generalize hu : l.foldl (State.ask v) s = u at hwithin
  have himage : u.image = s.image := hwithin.same .image (by decide)
  have hport : u.port p = s.port p := hu ▸ port_foldl_ask v l s hl
  have hasked := within_sendMsg u (Msg.collective (u.neighbour p) 8 [BitVec.ofNat 64 u.openStep, spokeWord v]) 0
  have himage' : (u.ask v p).image = s.image := .trans (hasked.same .image (by decide)) himage
  have hafter : (l'.foldl (State.ask v) (u.ask v p)).port p = (u.ask v p).port p := port_foldl_ask v l' (u.ask v p) fun q hq => by
    rw [neighbour_congr himage', nextHop_congr himage']
    exact hl' q hq
  have hopen : u.openStep = s.openStep := hwithin.get_eq _
  have hqueued := queued_collective (u := u) rfl rfl rfl ((nextHop_congr himage _).trans hhop) ((congrArg (fun x => nmem x _) (hwithin.same .retired (by decide) : u.retired = s.retired)).trans hret) 8
    [BitVec.ofNat 64 s.openStep, spokeWord v]
  have hmsg : u.newMsg (s.neighbour p) 8 [BitVec.ofNat 64 s.openStep, spokeWord v] =
      { s.newMsg (s.neighbour p) 8 [BitVec.ofNat 64 s.openStep, spokeWord v] with tag := u.net.nextTag } := by
    unfold State.newMsg
    rw [herdAddr_congr himage]
  rw [List.foldl_append, hu, List.foldl_cons]
  refine ⟨u.net.nextTag, ?_⟩
  unfold State.Queued at *
  rw [hafter, ← hport, State.ask, neighbour_congr himage, hopen]
  rw [hmsg] at hqueued
  exact hqueued

/-- The ports whose state is UP, of which `p` is one. -/
theorem split_up {s : State} {p : Nat} (hp : p < 6) (hup : s.lnkState p = lnkUp) :
    ∃ l l', (numsFrom 0 6).filter (fun p => s.lnkState p == lnkUp) = l ++ p :: l' ∧ ∀ q, q ∈ l ∨ q ∈ l' → q < 6 ∧ q ≠ p ∧ s.lnkState q = lnkUp := by
  have hmem : p ∈ (numsFrom 0 6).filter (fun p => s.lnkState p == lnkUp) := by
    simp [numsFrom_eq_range', hp, hup]
  have hnodup : ((numsFrom 0 6).filter (fun p => s.lnkState p == lnkUp)).Nodup := (numsFrom_eq_range' 0 6 ▸ List.nodup_range').filter _
  obtain ⟨l, l', heq⟩ := List.append_of_mem hmem
  refine ⟨l, l', heq, fun q hq => ?_⟩
  have hq' : q ∈ (numsFrom 0 6).filter (fun p => s.lnkState p == lnkUp) := by
    rw [heq, List.mem_append, List.mem_cons]
    exact hq.imp id .inr
  have hne : q ≠ p := by
    rintro rfl
    rw [heq, List.nodup_append, List.nodup_cons] at hnodup
    obtain ⟨-, ⟨hafter, -⟩, hapart⟩ := hnodup
    exact hq.elim (fun hbefore => hapart q hbefore q (List.mem_cons_self ..) rfl) hafter
  simp only [numsFrom_eq_range', List.mem_filter, List.mem_range', beq_iff_eq] at hq'
  obtain ⟨⟨i, hi, rfl⟩, hstate⟩ := hq'
  exact ⟨by omega, hne, hstate⟩

/-! A record of the open step, acted on in state `w`. -/

theorem actVerdict_closes {w : State} {r : Verdict} (hnew : w.hasVerdict r.step r.spoke = false) (hopen : r.step = w.openStep) (hverdict : r.verdict = 1 ∨ r.verdict = 2) :
    w.actVerdict r = (w.recorded r).closeVote r :=
  (actVerdict_open hnew hopen).trans (if_neg (by omega))

theorem actVerdict_defers {w : State} {r : Verdict} (hnew : w.hasVerdict r.step r.spoke = false) (hopen : r.step = w.openStep) (hverdict : r.verdict = 3) :
    w.actVerdict r = (w.recorded r).deferVote :=
  (actVerdict_open hnew hopen).trans (if_pos hverdict)

theorem reg_recorded_closeVote (w : State) (r : Verdict) :
    ((w.recorded r).closeVote r).reg Reg.COL_VERDICT_8 = r.g ∧ ((w.recorded r).closeVote r).reg Reg.COL_VERDICT_10 = r.e ∧ ((w.recorded r).closeVote r).reg Reg.COL_VERDICT_18 = r.a := by
  obtain ⟨hg, he, ha⟩ := reg_recorded w r
  exact ⟨(reg_closeVote_kept _ r ⟨by decide, by decide⟩ (by decide) (by decide)).trans hg, (reg_closeVote_kept _ r ⟨by decide, by decide⟩ (by decide) (by decide)).trans he,
    (reg_closeVote_kept _ r ⟨by decide, by decide⟩ (by decide) (by decide)).trans ha⟩

theorem reached_closeVote (s : State) (r : Verdict) : (s.closeVote r).reached r.step = some r.verdict := by
  rw [State.reached, vote_closeVote]
  exact sfind_sinsert_same ..

theorem hasVerdict_closeVote (s : State) (r : Verdict) (step v : Nat) : (s.closeVote r).hasVerdict step v = s.hasVerdict step v := by
  unfold State.hasVerdict
  rw [vote_closeVote]

theorem hasVerdict_recorded (s : State) {r : Verdict} (hs : r.step < 2 ^ 32) (hv : r.spoke < 2 ^ 60) : (s.recorded r).hasVerdict r.step r.spoke = true :=
  hasVerdict_logVerdict s hs hv

/-- A decided record, announced and acted on. -/
theorem decided_announced {s : State} (c : Contrib) (n : Nat) (hnew : s.hasVerdict s.openStep s.nowSpokes = false) :
    let r := s.decision c s.nowSpokes
    let t := State.announced (r, ((s.deciding n).detector s.openStep).2) s.nowSpokes
    t.openStep = (s.openStep + 1) % 2 ^ 32 ∧ t.get Fld.COL_VOTESTEP_LAST = r.verdict ∧ t.get Fld.COL_VOTESTEP_SKIPS = r.skips ∧ t.get Fld.COL_VOTESTEP_DEFERS = 0 ∧
      t.get Fld.COL_VOTESTEP_STATE = 0 ∧ t.reg Reg.COL_VERDICT_8 = r.g ∧ t.reg Reg.COL_VERDICT_10 = r.e ∧ t.reg Reg.COL_VERDICT_18 = r.a ∧ t.reached s.openStep = some r.verdict ∧
      t.hasVerdict s.openStep s.nowSpokes = true ∧ s.Up t Fld.WHL_CALCNT_FIRED ∧ s.Up t r.counter := by
  intro r t
  have hacting : s.Acting (State.told (r, ((s.deciding n).detector s.openStep).2) s.nowSpokes) := acting_told ((within_detector ..).mono (by decide)) (keepsCol_detector ..) _
  have ht : t = ((State.told (r, ((s.deciding n).detector s.openStep).2) s.nowSpokes).recorded r).closeVote r :=
    actVerdict_closes ((hasVerdict_congr hacting.vote ..).trans hnew) (hacting.get ⟨by decide, by decide⟩ (by decide)).symm decide_verdict
  generalize State.told (r, ((s.deciding n).detector s.openStep).2) s.nowSpokes = w at hacting ht
  have hverdict : r.verdict < 2 ^ 2 := by have h : r.verdict = 1 ∨ r.verdict = 2 := decide_verdict; omega
  have hskips : r.skips % 2 ^ 8 = r.skips := Nat.mod_eq_of_lt (by have h : r.skips ≤ 255 := decide_skips_le; omega)
  have hcounter : (w.recorded r).get r.counter = s.get r.counter := by
    have hreg := (counter_spec r).1
    exact (get_recorded_other w r (by rw [hreg]; decide)).trans (hacting.get (by rw [hreg]; exact ⟨by decide, by decide⟩) (by rw [hreg]; decide))
  obtain ⟨hopen, hstate, hlast, hdefers, hskip⟩ := closeVote_closes (w.recorded r) hverdict
  obtain ⟨hg, he, ha⟩ := reg_recorded_closeVote w r
  rw [ht]
  refine ⟨hopen, hlast, hskip.trans hskips, hdefers, hstate, hg, he, ha, reached_closeVote _ r, ?_, ?_, ?_⟩
  · exact (hasVerdict_closeVote ..).trans (hasVerdict_recorded w (openStep_lt s) (nowSpokes_lt s))
  · have hfired : ((w.recorded r).closeVote r).get Fld.WHL_CALCNT_FIRED = w.get Fld.WHL_CALCNT_FIRED := by
      unfold State.get
      rw [reg_closeVote_kept _ r ⟨by decide, by decide⟩ (by decide) (by decide), reg_recorded_other w r (by decide)]
    exact hfired.trans hacting.fired
  · have hup := up_closeVote (w.recorded r) r
    unfold State.Up at *
    rw [← hcounter, hup]

/-- A deferred one: the averages, the seal and the journal stay as they are. -/
theorem deferred_announced {s : State} (n : Nat) (hnew : s.hasVerdict s.openStep s.nowSpokes = false) :
    let t := State.announced ((s.deciding n).deferral s.nowSpokes) s.nowSpokes
    t.openStep = s.openStep ∧ t.get Fld.COL_VOTESTEP_LAST = 3 ∧ s.Up t Fld.COL_VOTESTEP_DEFERS ∧ s.Up t Fld.COL_VOTECNT_DEFER ∧ t.net.vote.sealed_ = s.net.vote.sealed_ ∧
      t.net.vote.delivered = s.net.vote.delivered ∧ t.journal = s.journal ∧ t.reg Reg.COL_VERDICT_10 = s.reg Reg.COL_VERDICT_10 ∧ t.reg Reg.COL_VERDICT_18 = s.reg Reg.COL_VERDICT_18 := by
  intro t
  have hrecord : Within 1 (s.deciding n) ((s.deciding n).deferral s.nowSpokes).2 := within_deferRecord ..
  have hacting : s.Acting (State.told ((s.deciding n).deferral s.nowSpokes) s.nowSpokes) := acting_told (hrecord.mono (by decide)) (.of_within hrecord) _
  have hstep : ((s.deciding n).deferral s.nowSpokes).1.step = s.openStep := openStep_deciding s n
  have he : ((s.deciding n).deferral s.nowSpokes).1.e = s.reg Reg.COL_VERDICT_10 := reg_deciding s n ⟨by decide, by decide⟩ (by decide)
  have ha : ((s.deciding n).deferral s.nowSpokes).1.a = s.reg Reg.COL_VERDICT_18 := reg_deciding s n ⟨by decide, by decide⟩ (by decide)
  have hspoke : ((s.deciding n).deferral s.nowSpokes).1.spoke = s.nowSpokes := rfl
  have hverdict : ((s.deciding n).deferral s.nowSpokes).1.verdict = 3 := rfl
  have ht : t = (State.told ((s.deciding n).deferral s.nowSpokes) s.nowSpokes).actVerdict ((s.deciding n).deferral s.nowSpokes).1 := rfl
  clear_value t
  generalize State.told ((s.deciding n).deferral s.nowSpokes) s.nowSpokes = w at hacting ht
  generalize ((s.deciding n).deferral s.nowSpokes).1 = r at hstep he ha hspoke hverdict ht
  have hopen : w.openStep = s.openStep := hacting.get ⟨by decide, by decide⟩ (by decide)
  rw [actVerdict_defers (by rw [hstep, hspoke, hasVerdict_congr hacting.vote, hnew]) (hstep.trans hopen.symm) hverdict] at ht
  subst ht
  obtain ⟨hkept, hlast, hdefers, hcount⟩ := deferVote_regs (w.recorded r)
  obtain ⟨-, hre, hra⟩ := reg_recorded w r
  have hget : ∀ {f : Fld}, f.reg = Reg.COL_VOTESTEP ∨ f.reg = Reg.COL_VOTECNT → (w.recorded r).get f = s.get f := by
    rintro f (hf | hf) <;>
      exact (get_recorded_other w r (by rw [hf]; decide)).trans (hacting.get (by rw [hf]; exact ⟨by decide, by decide⟩) (by rw [hf]; decide))
  have hnet : (w.recorded r).deferVote.net = (w.logVerdict r).net := (within_deferVote (w.recorded r)).same .net (by decide)
  refine ⟨hkept.trans (hget (.inl rfl)), hlast, ?_, ?_, ?_, ?_, ?_, ?_, ?_⟩
  · unfold State.Up at *
    rw [hdefers, hget (.inl rfl)]
  · unfold State.Up at *
    rw [hcount, hget (.inr rfl)]
  · rw [hnet, ← hacting.vote]
    rfl
  · rw [hnet, ← hacting.vote]
    rfl
  · exact (within_deferVote _).journal_eq.trans ((within_recorded w r).journal_eq.trans hacting.journal)
  · exact (reg_deferVote_other _ ⟨by decide, by decide⟩ (by decide) (by decide)).trans (hre.trans he)
  · exact (reg_deferVote_other _ ⟨by decide, by decide⟩ (by decide) (by decide)).trans (hra.trans ha)


/-! Verdict messages, acted on and answered (R284, R418). -/

/-- A sealed VOTE_SEAL of the step of a verdict that arrives has the verdict's status and result. -/
theorem cmd_delivered {s : State} {m : Msg} {j : Nat} {e : JEntry} {r : Verdict} (hcan : s.Canonical) (hhost : ∀ i x, s.cmd i = some x → x.target = .collective → x.parent = 0)
    (h : s.cmd j = some e) (hs : e.sealedFor r.step = true) :
    (((s.relayed m).recorded r).closeVote r).cmd j = some (e.endedAlone (if r.verdict = 2 then .skippedStep else .ok) (s.sealResult r).1 (s.sealResult r).2) := by
  obtain ⟨-, -, -, hrises⟩ := hcan
  have hjournal : ((s.relayed m).recorded r).journal = s.journal := (within_recorded ..).journal_eq.trans (within_relayed ..).journal_eq
  have hcmd : ∀ i, ((s.relayed m).recorded r).cmd i = s.cmd i := fun i => congrArg (fun l => sfind l i) hjournal
  have hresult : ((s.relayed m).recorded r).sealResult r = s.sealResult r := by
    unfold State.sealResult
    rw [get_recorded_other _ r (by decide), (within_relayed ..).get_eq]
  rw [cmd_closeVote, ← hresult]
  exact cmd_completeSeal (by rw [hjournal]; exact hrises) (fun i x hx => hhost i x (hcmd i ▸ hx)) ((hcmd j).trans h) hs

/-- A neighbour that asks gets the newest record it may have. -/
theorem exec_verdictReq {s : State} {m : Msg} {w : List Word} (h : s.net.inbox.find? (fun m => m.mtype == 8) = some m)
    (hw : (s.net.vote.log.filter (fun w => (Verdict.ofWords w).step == (wget m.extra 0).toNat && decide ((wget m.extra 1).toNat / 16 ≤ (Verdict.ofWords w).spoke))).getLast? = some w) :
    exec .verdictReq s = .next ((s.dropMsg m).sendMsg (Msg.collective m.src 7 w) 0) := by
  have hexec : exec .verdictReq s = execVerdictReq s := rfl
  have hlog : (s.dropMsg m).net.vote.log = s.net.vote.log := rfl
  simp only [hexec, execVerdictReq, takeMsg_of_find h, hlog, hw]
  rfl

/-- 256 spokes after a vote spoke with no verdict, a running package asks over every port that is UP. -/
theorem exec_verdictReqRepeat {s : State} {v : Nat} (hl : s.net.vote.launched = some v) (hlate : v + 256 ≤ s.nowSpokes) (hnew : s.hasVerdict s.openStep v = false) (hlive : s.live = true) :
    exec .verdictReqRepeat s = .next (((numsFrom 0 6).filter (fun p => s.lnkState p == lnkUp)).foldl (State.ask v) s) := by
  have hexec : exec .verdictReqRepeat s = execVerdictReqRepeat s := rfl
  have hdue : ¬ (s.nowSpokes < v + 256 ∨ s.hasVerdict s.openStep v = true ∨ ¬ s.live = true) := by simp [hnew, hlive, Nat.not_lt.mpr hlate]
  rw [hexec, execVerdictReqRepeat, hl]
  exact if_neg hdue

end Sys2Proof.Machine

open Sys2Proof Sys2Proof.Machine

/-- Settles O28: a decision's reason is the first of R283's tests that holds; a record of the open step is logged and then closes the step or defers it; the seals it completes have distinct numbers, so each ends as if alone; and the questions to other neighbours leave a port's queue as it is. -/
theorem verdictRule : Obligations.VerdictRule := by
  refine ⟨fun d c e a skips step v => ⟨rfl, decide_mean, fun hn => ?nonFinite, fun hn hg => ?norm, fun hn hg hs => ?spike, fun h => (decide_skips (decide_reason_ne_zero h)).2, fun hn hg hs => ?apply⟩,
    ⟨fun s n p c hk hn hdue hf hshared hall hroot hlive hp hfull hc huns hnew => ?decided, fun s n hk hn hdue hf hshared hall hroot hlive hnone hnew => ?deferred,
      fun s m hm hnew hopened hopen hverdict hcan hhost => ?delivered, fun s m hm hold hparent => ?again⟩,
    fun s m w p hm hw hhop hret => ?asked, fun s v p hlaunched hlate hnew hlive hp hup hret hhop hothers => ?asks⟩
  case nonFinite =>
    have hreason := decide_reason_nonFinite d c e a skips step v hn
    exact ⟨(decide_skips (by rw [hreason]; decide)).1, hreason⟩
  case norm =>
    have hreason := decide_reason_norm d c e a skips step v hn hg
    exact ⟨(decide_skips (by rw [hreason]; decide)).1, hreason⟩
  case spike =>
    have hreason := decide_reason_spike d c e a skips step v hn hg hs
    exact ⟨(decide_skips (by rw [hreason]; decide)).1, hreason⟩
  case apply =>
    have hreason := decide_reason_apply d c e a skips step v hn hg hs
    obtain ⟨hverdict, hskips, hkept, hmoved⟩ := decide_applies hreason
    exact ⟨hverdict, hreason, hskips, hkept, hmoved⟩
  case decided =>
    have hrecord : s.herdRecord s.nowSpokes = some c := by
      rw [State.herdRecord, hp, Option.bind_some, if_neg (Nat.not_lt.mpr hfull), hc]
    have hexec := exec_voteDecision hk hn hdue hf hshared hall hroot hlive
    rw [verdictAt_decides hrecord huns] at hexec
    exact ⟨_, hexec, decided_announced c n hnew⟩
  case deferred =>
    have hrecord : ∀ c, s.herdRecord s.nowSpokes = some c → c.uns = true := by
      intro c hc
      obtain ⟨p, hp, hcomb⟩ := Option.bind_eq_some_iff.mp hc
      split at hcomb
      · cases hcomb
      · next hfull => exact hnone p c hp (Nat.not_lt.mp hfull) hcomb
    have hexec := exec_voteDecision hk hn hdue hf hshared hall hroot hlive
    rw [verdictAt_defers hrecord] at hexec
    exact ⟨_, hexec, deferred_announced n hnew⟩
  case delivered =>
    have hwithin := within_relayed s m
    have hwopen : (Verdict.ofWords m.extra).step = (s.relayed m).openStep := hopen.trans (hwithin.get_eq _).symm
    have hact := actVerdict_closes ((hasVerdict_congr (vote_relayed s m) ..).trans hnew) hwopen hverdict
    obtain ⟨hstep, -, hlast, hdefers, -⟩ := closeVote_closes ((s.relayed m).recorded (Verdict.ofWords m.extra)) (r := Verdict.ofWords m.extra) (by omega)
    obtain ⟨hg, he, ha⟩ := reg_recorded_closeVote (s.relayed m) (Verdict.ofWords m.extra)
    refine ⟨_, (exec_verdict hm).trans (congrArg Host.Outcome.next hact), hopen ▸ hstep, hlast, hdefers, ?_, reached_closeVote .., hg, he, ha,
      fun j e hcmd ht ho hkey hst hsent hfin href => committed_of_endedAlone ?_ hst href⟩
    · rw [vote_closeVote]
    · exact cmd_delivered hcan hhost hcmd (by simp [JEntry.sealedFor, ht, ho, hkey, hsent, hfin])
  case again =>
    have hrelayed : s.relayed m = s.dropMsg m := if_neg hparent
    have hexec := exec_verdict hm
    rw [hrelayed, actVerdict_again (s := s.dropMsg m) hold] at hexec
    exact ⟨_, hexec, rfl, Within.sameBut (m := 8388608) (within_dropMsg ..)⟩
  case asked =>
    refine ⟨_, exec_verdictReq hm hw, queued_collective (u := s.dropMsg m) rfl rfl rfl hhop hret 7 w, inbox_sendMsg hhop 0, vote_sendMsg .., ?_⟩
    exact Within.sameBut (m := 8388608) (.step (within_dropMsg ..) (within_sendMsg ..))
  case asks =>
    obtain ⟨l, l', hports, hothers'⟩ := split_up hp hup
    have hexec := exec_verdictReqRepeat hlaunched hlate hnew hlive
    rw [hports] at hexec
    refine ⟨_, hexec, queued_foldl_ask hhop hret v (fun q hq => ?_) (fun q hq => ?_), vote_foldl_ask .., Within.sameBut (m := 8388608) (within_foldl_ask ..)⟩
    · obtain ⟨hlt, hne, hup'⟩ := hothers' q (.inl hq)
      exact hothers q hlt hne hup'
    · obtain ⟨hlt, hne, hup'⟩ := hothers' q (.inr hq)
      exact hothers q hlt hne hup'

end

section
/-! PROOFS. The update sweep over a relocated chunk (R298, R301, R306, R308, R329, R337): the pins that a SWEEP job's first read gives up can take the chunk's copy away from what the job accesses next. -/

set_option Elab.async false

namespace Sys2Proof.Machine

/-- Ranges of DRAM set A that serve in place and hold no poison are clean. -/
theorem cleanAll_of_dramA {s : State} {l : List (Nat × Nat)} (h : ∀ x ∈ l, regionOf x.1 = .dramA ∧ s.dramRange x.1 x.2 = .served ∧ s.poisonedIn x.1 x.2 = false) : s.CleanAll l := by
  intro x hx
  obtain ⟨hregion, hserved, hclean⟩ := h x hx
  exact clean_of_dramA hregion hserved hclean

/-! A sweep job whose pin keeps a relocated chunk. -/

/-- An update rules section of one rule: ORTHO in one iteration over a matrix of 1 × 32 elements, its G8R buffer at device address 0, RESTORE ZERO, no copies. -/
def orthoSection : List Byte :=
  bytesOfWords [1, wordOf [(16, 48, 0x10000)], 0, 0, 0, 0, 0, 0,
    wordOf [(60, 4, 3), (47, 5, 1), (39, 4, 1)], wordOf [(47, 17, 1), (30, 17, 32)], wordOf [(16, 48, 0x200)], 0, wordOf [(16, 48, 0x400)], 0, 0, 0, wordOf [(16, 48, 0x4000)], 0, 0, 0,
    0, 0, 0, 0, 0, 0, 0, 0]

/-- That rule. -/
def orthoRule : Rule := ruleOf orthoSection 0

/-- The header of the rule's G8R buffer: 32 elements, the value plane from device address 4096 on. -/
def orthoHeader : List Byte :=
  bytesOfWords [32, wordOf [(16, 48, 0x100)], wordOf [(16, 48, 0x2100)], wordOf [(16, 48, 0x300)], 0, 0, 0, 0]

/-- A SWEEP of that rule for step 7 on sequencer 0, dispatched: not FINAL, its commit bitmap at device address 0x6000, its rates scaled by 1. -/
def orthoSweep : JEntry :=
  { acceptedLoad with
    target := .sequencer 0
    words := [wordOf [(56, 8, 1), (52, 2, 1), (0, 32, 7)], 0, 0, 0, wordOf [(43, 11, 1)], wordOf [(16, 48, 0x600)], wordOf [(32, 32, 0x3F800000), (0, 32, 0x3F800000)], 0, 0, 0, 0, 0, 0, 0, 0, 0]
    st := .dispatched
    disp := 1 }

/-- A package that runs, with the SWEEP as command 1 with record `r`. The rule's value plane lies in the chunk that `pinnedCopy` holds: the job pins that slot, and the slot's invalidation, requested, waits for the pin. -/
def pinningSweep (r : SweepRun) : State :=
  { State.reset with
    mem := memPuts [] 0 orthoHeader
    sections := [⟨0xD, 0, 0, orthoSection⟩]
    journal := [(1, orthoSweep)]
    tier := relocatedSource.tier
    sweep := ⟨[(1, r)], [], []⟩
    power := { PowerState.reset with phase := .running, down := [] } }

/-- The job's record while it awaits its verdict. -/
def awaitingRun : SweepRun := { SweepRun.start 0 0 with st := .verdict }

/-- The job with the verdict of its step in the vote log: skip. -/
def skippedSweep : State :=
  { pinningSweep awaitingRun with
    net := { State.reset.net with vote := { VoteState.reset with log := [(⟨7, 2, 1, 0, 0, 0, 0, 1, 0⟩ : Verdict).words] } } }

/-- The job's record with the rule's one matrix in hand, in phase `ph`. -/
def matrixRun (ph : SweepPhase) : SweepRun := { SweepRun.start 0 0 with st := .sweep, cleared := true, phase := ph, mats := [⟨0, 0⟩] }

theorem sweeping_skippedSweep : skippedSweep.Sweeping 1 orthoSweep awaitingRun where
  entry := rfl
  record := rfl
  state := rfl
  source := rfl
  offTile := rfl
  accepted := rfl
  unended := rfl
  live := by decide +kernel
  up := by decide +kernel
  on := by decide +kernel

theorem maySweep_skippedSweep : skippedSweep.MaySweep 0 7 := ⟨by decide +kernel, by decide +kernel⟩

theorem inHand_prep : (pinningSweep (matrixRun .prep)).inHand 1 .prep = some (orthoSweep, matrixRun .prep, 0, orthoRule, ⟨0, 0⟩) := by decide +kernel

theorem inHand_commit : (pinningSweep (matrixRun .commit)).inHand 1 .commit = some (orthoSweep, matrixRun .commit, 0, orthoRule, ⟨0, 0⟩) := by decide +kernel

/-- The job reads the buffer's header and then waits for the chunk of the plane it is to fill with zeros. -/
theorem sweep_skippedSweep : ((nextOr skippedSweep (exec (.sweep 1) skippedSweep)).cmd 1).map JEntry.fin = some none := by decide +kernel

/-- PREP reads the buffer's header and then waits for the chunk of its value plane. -/
theorem prep_waits :
    (sfind (nextOr State.reset (exec (.prep 1) (pinningSweep (matrixRun .prep)))).sweep.jobs 1).map SweepRun.phase = some .prep := by decide +kernel

/-- COMMIT_GROUP reads the buffer's header and then waits for the chunk of its value plane. -/
theorem commitGroup_waits :
    (sfind (nextOr State.reset (exec (.commitGroup 1) (pinningSweep (matrixRun .commit)))).sweep.jobs 1).map SweepRun.committed = some 0 := by decide +kernel

end Sys2Proof.Machine

open Sys2Proof Sys2Proof.Machine

/-- Refutes O30, by its clause on the skip: no hypothesis keeps the job from holding a pin under which an invalidation waits. The read of the header gives the pin up, the invalidation frees the slot that holds the relocated chunk of the value plane, and the job does not complete until that chunk is copied. -/
theorem not_sweepJobs : ¬ Obligations.SweepJobs := by
  rintro ⟨-, hskip, -⟩
  obtain ⟨t, hnext, ⟨e, hcmd, -, hfin, -⟩, -⟩ := hskip skippedSweep 1 orthoSweep awaitingRun orthoRule sweeping_skippedSweep rfl (by decide +kernel) maySweep_skippedSweep
    (by decide +kernel) (by decide +kernel) (by decide +kernel) (clean_of_dramA (by decide +kernel) (by decide +kernel) (by decide +kernel))
    (fun hcopy => absurd hcopy (by decide +kernel)) (by decide +kernel)
  have hwaits := sweep_skippedSweep
  rw [hnext] at hwaits
  simp [nextOr, hcmd, hfin] at hwaits

/-- Refutes O31, by its clause on PREP: no hypothesis keeps the job from holding a pin under which an invalidation waits. The read of the header gives the pin up, the invalidation frees the slot that holds the relocated chunk of the value plane, and the matrix stays unprepared until that chunk is copied. -/
theorem not_matrixRule : ¬ Obligations.MatrixRule := by
  rintro ⟨hprep, -⟩
  obtain ⟨t, hnext, -, ⟨r, hjob, -, hphase, -⟩, -⟩ := hprep _ 1 0 _ _ _ _ inHand_prep (cleanAll_of_dramA (by decide +kernel)) (by decide +kernel)
  have hwaits := prep_waits
  rw [hnext] at hwaits
  simp [nextOr, hjob, hphase] at hwaits

/-- Refutes O32, by its clause on weight blocks: no hypothesis keeps the job from holding a pin under which an invalidation waits. The read of the header gives the pin up, the invalidation frees the slot that holds the relocated chunk of the value plane, and the block is not committed until that chunk is copied. -/
theorem not_commitGroupRule : ¬ Obligations.CommitGroupRule := by
  rintro ⟨hcommit, -⟩
  obtain ⟨t, hnext, -, -, r, hjob, hcommitted, -⟩ := hcommit _ 1 0 _ _ _ _ inHand_commit (by decide +kernel) (by decide +kernel) (by decide +kernel)
    (cleanAll_of_dramA (by decide +kernel)) (by decide +kernel)
  have hwaits := commitGroup_waits
  rw [hnext] at hwaits
  simp [nextOr, hjob, hcommitted] at hwaits

end

section
/-! PROOFS. The registers below the tile blocks (R45): the commit of a command, with its signals and its credit, leaves them alone (R177, R180, R184). -/

set_option Elab.async false

namespace Sys2Proof.Machine

/-- Every register below the tile blocks holds in `t` what it holds in `s`. -/
structure State.KeepsLow (s t : State) : Prop where
  reg : ∀ a, a < 0x800000 → t.reg a = s.reg a

namespace State.KeepsLow

theorem refl (s : State) : s.KeepsLow s := ⟨fun _ _ => rfl⟩

theorem trans {a b c : State} (h : a.KeepsLow b) (k : b.KeepsLow c) : a.KeepsLow c := ⟨fun r hr => (k.reg r hr).trans (h.reg r hr)⟩

theorem of_regs {s t : State} (h : t.regs = s.regs) : s.KeepsLow t := ⟨fun _ _ => by rw [State.reg, State.reg, h]⟩

theorem of_within {m : Nat} {s t : State} (h : Within m s t) (hm : m.testBit 1 = false := by decide) : s.KeepsLow t := ⟨fun a _ => h.reg_eq a hm⟩

theorem foldl {α : Type} {f : State → α → State} (l : List α) (s : State) (hf : ∀ (t : State) (x : α), t.KeepsLow (f t x)) : s.KeepsLow (l.foldl f s) :=
  List.foldlRecOn (motive := fun t => s.KeepsLow t) l _ (refl s) fun t ht x _ => ht.trans (hf t x)

theorem ite {c : Prop} [Decidable c] {s t u : State} (ht : s.KeepsLow t) (hu : s.KeepsLow u) : s.KeepsLow (if c then t else u) := by
  split <;> assumption

end State.KeepsLow

theorem keepsLow_set (s : State) (f : Fld) (v : Nat) (hf : 0x800000 ≤ f.reg) : s.KeepsLow (s.set f v) :=
  ⟨fun a ha => reg_set_other s v (by omega)⟩

theorem mark_above (t m : Nat) : 0x800000 ≤ Reg.TILE_MARK t m := by
  simp only [Reg.TILE_MARK]
  omega

theorem credit_above (t q : Nat) : 0x800000 ≤ Reg.TILE_CREDIT t q := by
  simp only [Reg.TILE_CREDIT]
  omega

theorem keepsLow_raiseCount (s : State) (t : Nat) {f : Fld} (n : Nat) {overflows last : Nat → Fld} (i : Nat) (hf : 0x800000 ≤ f.reg)
    (ho : ∀ p, 0x800000 ≤ (overflows p).reg) (hl : ∀ p, 0x800000 ≤ (last p).reg) : s.KeepsLow (s.raiseCount t f n overflows last i) := by
  have hset : ∀ v, s.KeepsLow (s.set f v) := fun v => keepsLow_set s f v hf
  unfold State.raiseCount
  refine .ite ?_ (hset _)
  split
  · next p _ => exact ((hset _).trans (keepsLow_set _ (overflows p) _ (ho p))).trans (keepsLow_set _ _ _ (hl p))
  · exact hset _

theorem keepsLow_raiseMark (s : State) (t m inc : Nat) : s.KeepsLow (s.raiseMark t m inc) := by
  have ho : ∀ p, 0x800000 ≤ Reg.TILE_MARKOVF p := fun p => by simp only [Reg.TILE_MARKOVF]; omega
  exact keepsLow_raiseCount s t inc m (mark_above t m) ho ho

theorem keepsLow_giveCredit (s : State) (t q n : Nat) : s.KeepsLow (s.giveCredit t q n) := by
  have ho : ∀ p, 0x800000 ≤ Reg.TILE_CRDOVF p := fun p => by simp only [Reg.TILE_CRDOVF]; omega
  exact keepsLow_raiseCount s t n q (credit_above t q) ho ho

theorem keepsLow_applyMarkSet (s : State) (t : Nat) (w : Word) : s.KeepsLow (s.applyMarkSet t w) := by
  have hcount := keepsLow_set s (Fld.TILE_MARK_COUNT t (bits w 56 6)) (bits w 40 16) (mark_above _ _)
  exact .ite (hcount.trans (keepsLow_set _ (Fld.TILE_MARK_POISON t (bits w 56 6)) 0 (mark_above _ _))) hcount

theorem keepsLow_controlCommit (s : State) (e : JEntry) : s.KeepsLow (s.controlCommit e) :=
  .ite (.foldl _ s fun u w => keepsLow_applyMarkSet u e.tile w)
    (.ite (.foldl _ s fun u w => keepsLow_set u (Fld.TILE_CREDIT_COUNT e.tile (bits w 56 5)) _ (credit_above _ _)) (.refl s))

theorem keepsLow_commitResv (s : State) (t j : Nat) (ws : List Word) : s.KeepsLow (s.commitResv t j ws) := by
  have herr : ∀ p, 0x800000 ≤ Reg.STR_RESVERR p := fun p => by simp only [Reg.STR_RESVERR]; omega
  refine .foldl _ s fun u x => ?_
  split
  · exact .ite (.of_regs rfl) (.refl u)
  · exact .ite (.of_regs rfl) (.refl u)
  · exact .of_regs rfl
  · split
    · next p _ => exact (keepsLow_set u (Fld.STR_RESVERR_COUNT p) _ (herr p)).trans (keepsLow_set _ (Fld.STR_RESVERR_RECORD p) _ (herr p))
    · exact .refl u
  · exact .refl u

/-- A commit's signals, reservation entries and credit, or the poison of a failure. -/
theorem keepsLow_settleOne (s : State) (j : Nat) (e : JEntry) (n : Nat) : s.KeepsLow (s.settleOne j e n) := by
  have hsignal := (keepsLow_controlCommit s e).trans (.foldl (usedSlots e.sigs) _ fun u x => keepsLow_raiseMark u e.dstTile x.idx x.n)
  have hresv := State.KeepsLow.ite (c := e.isStream = true) (hsignal.trans (keepsLow_commitResv _ e.tile j e.words)) hsignal
  have hpoison : ∀ u : State, u.KeepsLow (u.poisonSignals e) := fun u =>
    .ite (.refl u) (.foldl _ u fun v x => keepsLow_set v (Fld.TILE_MARK_POISON e.dstTile x.idx) 1 (mark_above _ _))
  unfold State.settleOne
  refine .trans (.ite ?_ ?_) (.of_within (within_jmod ..))
  · exact .ite (hresv.trans (keepsLow_giveCredit ..)) hresv
  · exact (State.KeepsLow.of_within (within_dropResv s j)).trans (hpoison _)

theorem keepsLow_releaseBufs (s : State) (j : Nat) (p : HeldBuf → Bool) : s.KeepsLow (s.releaseBufs j p) := by
  unfold State.releaseBufs
  split
  · exact .refl s
  · refine .trans (.foldl _ s fun u h => ?_) (.of_within (within_routeMod ..))
    exact (keepsLow_giveCredit u h.tile h.pool 1).trans (.of_regs rfl)

theorem keepsLow_failRoute (s : State) (j : Nat) : s.KeepsLow (s.failRoute j) := by
  unfold State.failRoute
  split
  · refine .ite (.refl s) ?_
    exact ((keepsLow_releaseBufs s j _).trans (.of_within (within_jmod ..))).trans ((keepsLow_settleOne ..).trans (.of_within (within_routeMod ..)))
  · exact .refl s

theorem keepsLow_settle (s : State) (j : Nat) (e : JEntry) (n : Nat) : s.KeepsLow (s.settle j e n) := by
  have hone := keepsLow_settleOne s j e n
  exact .ite hone (hone.trans (((State.KeepsLow.of_within (within_routeMod ..)).trans (.of_within (within_jdel ..))).trans (keepsLow_failRoute ..)))

theorem keepsLow_settleFrom (l : List (Nat × JEntry)) (s : State) : s.KeepsLow (s.settleFrom l) := by
  induction l generalizing s with
  | nil => exact .refl s
  | cons x r ih =>
    obtain ⟨j, e⟩ := x
    unfold State.settleFrom
    split
    · exact (keepsLow_settle ..).trans (ih _)
    · exact .refl s

/-! Events and completion entries write below the tier controller's registers, or above them in the rings' contexts (R45, R478, R479). -/

/-- A register between the interrupt table and the rings' contexts, by its BAR0 offset. -/
def BlockReg (a : Nat) : Prop := 0x100000 ≤ a ∧ a < 0x400000

theorem reg_signal_block (s : State) {v : Nat} (hv : v < 2 ^ 11) {a : Nat} (h : BlockReg a) : (s.signal v).reg a = s.reg a := by
  obtain ⟨hlow, -⟩ := h
  have hpba : a ≠ Reg.MSIX_PBA (v / 64) := by
    simp only [Reg.MSIX_PBA]
    omega
  unfold State.signal
  split
  · rfl
  · split
    · unfold State.sendVector
      split
      · exact reg_setReg_other _ _ hpba
      · rfl
    · rfl

theorem reg_writeEntry_block (s : State) (c : Nat) (w0 w1 w2 w3 : Word) (now : Bool) {a : Nat} (h : BlockReg a) : (s.writeEntry c w0 w1 w2 w3 now).reg a = s.reg a := by
  have hidx : a ≠ (Fld.RING_IDX_IDX c).reg := by
    have hhigh := h.2
    simp only [Fld.RING_IDX_IDX, Reg.RING_IDX]
    omega
  have hmoved : ∀ x : State, x.regs = (s.wrap (Fld.RING_IDX_IDX c) 1).regs → x.reg a = s.reg a := by
    intro x hx
    rw [State.reg, hx]
    exact reg_wrap_other s 1 hidx
  unfold State.writeEntry
  dsimp only
  split
  · exact (reg_signal_block _ (get_lt _ _) h).trans (hmoved _ rfl)
  · exact hmoved _ rfl

theorem reg_raise_block (s : State) (e : Event) (inst : Nat) (d0 d1 : Word) {a : Nat} (h : BlockReg a) : (s.raise e inst d0 d1).reg a = s.reg a := by
  have hlow := h.1
  have hclass : ∀ (x : State) (b : Nat), (x.setClass b).reg a = x.reg a := by
    intro x b
    unfold State.setClass
    rw [(within_raiseIbi _).reg_eq, reg_setReg_other _ _ (by simp only [Reg.MGT_EVTSUM]; omega), reg_setReg_other _ _ (by simp only [Reg.GLB_EVTSUM]; omega)]
  have hlost : a ≠ Reg.HIF_EVTLOST := by
    simp only [Reg.HIF_EVTLOST]
    omega
  unfold State.raise
  dsimp only
  split
  · exact hclass ..
  · split
    · split
      · exact (reg_writeEntry_block _ _ _ _ _ _ _ h).trans (hclass ..)
      · exact hclass s e.classBit
    · rw [hclass, reg_set_other _ _ (show a ≠ Fld.HIF_EVTLOST_CODE.reg from hlost), reg_count_other _ _ (show a ≠ Fld.HIF_EVTLOST_COUNT.reg from hlost), hclass]

theorem get_raise_block (s : State) (e : Event) (inst : Nat) (d0 d1 : Word) {f : Fld} (h : BlockReg f.reg) : (s.raise e inst d0 d1).get f = s.get f := by
  rw [State.get, State.get, reg_raise_block _ _ _ _ _ h]

end Sys2Proof.Machine

end

section
/-! PROOFS. The tier controller's counters and records (R323, R329 to R331, R337): what requests carried out, operations that go on and the end of a command leave of them. -/

set_option Elab.async false

namespace Sys2Proof.Machine

/-! The operation in progress (R330, R331). -/

/-- The tier controller's state beside the operation in progress. -/
def State.tierIdle (s : State) : TierState := { s.tier with op := none }

theorem tierIdle_congr {s t : State} (h : t.tier = s.tier) : t.tierIdle = s.tierIdle := by
  rw [State.tierIdle, State.tierIdle, h]

theorem dir_of_tierIdle {s t : State} (h : t.tierIdle = s.tierIdle) : t.tier.dir = s.tier.dir :=
  show t.tierIdle.dir = s.tierIdle.dir from congrArg TierState.dir h

theorem Within.tier_eq {m : Nat} {s t : State} (h : Within m s t) (hm : m.testBit 15 = false := by decide) : t.tier = s.tier := h.same .tier hm

theorem Within.retired_eq {m : Nat} {s t : State} (h : Within m s t) (hm : m.testBit 16 = false := by decide) : t.retired = s.retired := h.same .retired hm

theorem tierIdle_endTierOp (s : State) (code : Nat) : (s.endTierOp code).tierIdle = s.tierIdle :=
  (tierIdle_congr (t := s.endTierOp code) (within_raise ..).tier_eq).trans rfl

theorem tierIdle_checkTierOp (s : State) : s.checkTierOp.tierIdle = s.tierIdle := by
  unfold State.checkTierOp
  split
  · rfl
  · split
    · exact tierIdle_endTierOp ..
    · rfl

theorem tierIdle_opFinished (s : State) (n : Nat) : (s.opFinished n).tierIdle = s.tierIdle := by
  unfold State.opFinished
  split
  · rfl
  · split
    · rfl
    · exact tierIdle_checkTierOp _

theorem tierIdle_opFailed (s : State) (n : Nat) : (s.opFailed n).tierIdle = s.tierIdle := by
  unfold State.opFailed
  split
  · rfl
  · split
    · rfl
    · exact tierIdle_checkTierOp _

/-- The end of an operation writes its code and no other field of TIER_OPSTAT. -/
theorem get_checkTierOp (s : State) {f : Fld} (hf : BlockReg f.reg) (hcode : f.reg ≠ Reg.TIER_OPSTAT ∨ 8 ≤ f.lo) : s.checkTierOp.get f = s.get f := by
  have hend : ∀ code, (s.endTierOp code).get f = s.get f := fun code =>
    (get_raise_block _ _ _ _ _ hf).trans (get_set_other (s.tmod fun t => { t with op := none }) Fld.TIER_OPSTAT_CODE f code (hcode.imp_right .inr))
  unfold State.checkTierOp
  split
  · rfl
  · split
    · exact hend _
    · rfl

/-! Homes (R321, R339, R342). -/

/-- An object's home takes programs as it is: a stack in service that is not worn. -/
def State.Fit (s : State) (fr f : Nat) : Prop := sfind s.tier.homes fr = some f ∧ s.flashIn f = true ∧ (s.flashStack f).worn = false

theorem fitHome_of_fit {s : State} {fr f : Nat} (h : s.Fit fr f) (n : Nat) : s.fitHome fr n = some s := by
  obtain ⟨hhome, hin, hworn⟩ := h
  simp [State.fitHome, hhome, hin, hworn]

/-- A home made fit is the one that was fit already, or another of that object alone. -/
theorem fitHome_cases {s t : State} {fr n : Nat} (h : s.fitHome fr n = some t) :
    t = s ∨ (∀ f, ¬ s.Fit fr f) ∧ ∃ homes lost, t = s.tmod (fun x => { x with homes := homes, lostObjs := lost }) ∧
      ∀ fr', fr' ≠ fr → sfind homes fr' = sfind s.tier.homes fr' := by
  unfold State.fitHome State.allocObject at h
  split at h
  · next f hf =>
    split at h
    · exact .inl (Option.some.inj h).symm
    · next hunfit =>
      obtain ⟨g, -, rfl⟩ := Option.map_eq_some_iff.mp h
      refine .inr ⟨fun f' hfit => hunfit ?_, _, _, rfl, fun fr' hne => (sfind_sinsert_other _ g hne).trans (sfind_serase_other _ hne)⟩
      obtain ⟨hhome, hin, hworn⟩ := hfit
      obtain rfl : f' = f := Option.some.inj (hhome.symm.trans hf)
      simp [hin, hworn]
  · next hnone =>
    obtain ⟨g, -, rfl⟩ := Option.map_eq_some_iff.mp h
    refine .inr ⟨fun f hfit => ?_, _, _, rfl, fun fr' hne => sfind_sinsert_other _ g hne⟩
    cases hnone.symm.trans hfit.1

/-! What an operation, a request or a command's end leaves. -/

/-- A field of TIER, DRM or FLS that neither the progress of a tier operation nor the freeing of a CLEAN entry writes. -/
def TierFld (f : Fld) : Prop :=
  0x100000 ≤ f.reg ∧ f.reg < 0x1E0000 ∧ (f.reg = Reg.TIER_OPSTAT → 8 ≤ f.lo ∧ f.lo + f.n ≤ 32) ∧ (f.reg = Reg.TIER_EVCNT → f.lo + f.n ≤ 40)

/-- The tier controller's state beside the directory, the homes, the lost objects and the operation in progress. -/
def State.tierRest (s : State) : TierState := { s.tier with dir := [], homes := [], lostObjs := [], op := none }

theorem tierRest_of_tierIdle {s t : State} (h : t.tierIdle = s.tierIdle) : t.tierRest = s.tierRest :=
  show ({ t.tierIdle with dir := [], homes := [], lostObjs := [] } : TierState) = { s.tierIdle with dir := [], homes := [], lostObjs := [] } by rw [h]

/-- The fields of `TierFld` and the tier controller's rest are in `t` what they are in `s`. -/
structure State.KeepsTier (s t : State) : Prop where
  fld : ∀ f, TierFld f → t.get f = s.get f
  rest : t.tierRest = s.tierRest

namespace State.KeepsTier

theorem refl (s : State) : s.KeepsTier s := ⟨fun _ _ => rfl, rfl⟩

theorem trans {a b c : State} (h : a.KeepsTier b) (k : b.KeepsTier c) : a.KeepsTier c :=
  ⟨fun f hf => (k.fld f hf).trans (h.fld f hf), k.rest.trans h.rest⟩

theorem of_within {m : Nat} {s t : State} (h : Within m s t) (hr : m.testBit 1 = false := by decide) (ht : m.testBit 15 = false := by decide) : s.KeepsTier t :=
  ⟨fun f _ => h.get_eq f hr, tierRest_of_tierIdle (tierIdle_congr (h.tier_eq ht))⟩

theorem of_low {s t : State} (h : s.KeepsLow t) (ht : t.tier = s.tier) : s.KeepsTier t :=
  ⟨fun f hf => by rw [State.get, State.get, h.reg f.reg (by have := hf.2.1; omega)], tierRest_of_tierIdle (tierIdle_congr ht)⟩

theorem of_regs {s t : State} (hr : t.regs = s.regs) (ht : t.tierRest = s.tierRest) : s.KeepsTier t :=
  ⟨fun _ _ => by rw [State.get, State.get, State.reg, State.reg, hr], ht⟩

theorem foldl {α : Type} {f : State → α → State} (l : List α) (s : State) (hf : ∀ (t : State) (x : α), t.KeepsTier (f t x)) : s.KeepsTier (l.foldl f s) :=
  List.foldlRecOn (motive := fun t => s.KeepsTier t) l _ (refl s) fun t ht x _ => ht.trans (hf t x)

theorem ite {c : Prop} [Decidable c] {s t u : State} (ht : s.KeepsTier t) (hu : s.KeepsTier u) : s.KeepsTier (if c then t else u) := by
  split <;> assumption

theorem pchs {s t : State} (h : s.KeepsTier t) : t.tier.pchs = s.tier.pchs :=
  show t.tierRest.pchs = s.tierRest.pchs from congrArg TierState.pchs h.rest

theorem withdrawn {s t : State} (h : s.KeepsTier t) : t.tier.withdrawn = s.tier.withdrawn :=
  show t.tierRest.withdrawn = s.tierRest.withdrawn from congrArg TierState.withdrawn h.rest

theorem quarantine {s t : State} (h : s.KeepsTier t) : t.tier.quarantine = s.tier.quarantine :=
  show t.tierRest.quarantine = s.tierRest.quarantine from congrArg TierState.quarantine h.rest

end State.KeepsTier

/-- A write of a field outside `TierFld`'s reach. -/
theorem keepsTier_set (s : State) (f : Fld) (v : Nat) (hf : ∀ g, TierFld g → g.reg ≠ f.reg ∨ g.lo + g.n ≤ f.lo ∨ f.lo + f.n ≤ g.lo) : s.KeepsTier (s.set f v) :=
  ⟨fun g hg => get_set_other s f g v (hf g hg), rfl⟩

theorem keepsTier_set_outside (s : State) (f : Fld) (v : Nat) (hf : f.reg < 0x100000 ∨ 0x1E0000 ≤ f.reg) : s.KeepsTier (s.set f v) :=
  keepsTier_set s f v fun g hg => by
    obtain ⟨hlow, hhigh, -⟩ := hg
    omega

theorem keepsTier_raise (s : State) (e : Event) (inst : Nat) (d0 d1 : Word) : s.KeepsTier (s.raise e inst d0 d1) :=
  ⟨fun f hf => get_raise_block _ _ _ _ _ ⟨hf.1, by have := hf.2.1; omega⟩, tierRest_of_tierIdle (tierIdle_congr (within_raise ..).tier_eq)⟩

/-- The operation in progress changed. -/
theorem keepsTier_op (s : State) (f : TierState → Option TierOp) : s.KeepsTier (s.tmod fun t => { t with op := f t }) := .of_regs rfl rfl

theorem keepsTier_checkTierOp (s : State) : s.KeepsTier s.checkTierOp where
  fld f hf := by
    obtain ⟨hlow, hhigh, hop, -⟩ := hf
    exact get_checkTierOp s ⟨hlow, by omega⟩ (by omega)
  rest := tierRest_of_tierIdle (tierIdle_checkTierOp s)

theorem keepsTier_opFinished (s : State) (n : Nat) : s.KeepsTier (s.opFinished n) := by
  have hcount : s.KeepsTier (s.count Fld.TIER_OPSTAT_OBJECTS 1) := keepsTier_set s _ _ fun g hg => by
    obtain ⟨-, -, hop, -⟩ := hg
    simp only [Fld.TIER_OPSTAT_OBJECTS]
    omega
  unfold State.opFinished
  split
  · exact .refl s
  · exact .ite (.refl s) ((hcount.trans (keepsTier_op _ _)).trans (keepsTier_checkTierOp _))

theorem keepsTier_opFailed (s : State) (n : Nat) : s.KeepsTier (s.opFailed n) := by
  unfold State.opFailed
  split
  · exact .refl s
  · exact .ite (.refl s) ((keepsTier_op s _).trans (keepsTier_checkTierOp _))

theorem keepsTier_dirFree (s : State) (n : Nat) : s.KeepsTier (s.dirFree n) := .of_regs rfl rfl

theorem keepsTier_dirMod (s : State) (n : Nat) (f : DirEnt → DirEnt) : s.KeepsTier (s.dirMod n f) := .of_regs rfl rfl

theorem keepsTier_freeClean (s : State) (n : Nat) : s.KeepsTier (s.freeClean n) := by
  have hcount : ∀ u : State, u.KeepsTier (u.count Fld.TIER_EVCNT_CLEAN 1) := fun u => keepsTier_set u _ _ fun g hg => by
    obtain ⟨-, -, -, hev⟩ := hg
    simp only [Fld.TIER_EVCNT_CLEAN]
    omega
  exact ((keepsTier_dirFree s n).trans (hcount _)).trans (keepsTier_opFinished ..)

theorem keepsTier_startWriteBack {s t : State} {n : Nat} {st : DirSt} (h : s.startWriteBack n st = some t) : s.KeepsTier t := by
  unfold State.startWriteBack at h
  split at h
  · cases h
  · obtain ⟨u, hu, rfl⟩ := Option.map_eq_some_iff.mp h
    refine .trans ?_ (keepsTier_dirMod u n _)
    obtain rfl | ⟨-, homes, lost, rfl, -⟩ := fitHome_cases hu
    · exact .refl _
    · exact .of_regs rfl rfl

theorem keepsTier_evalRequest (s : State) (n : Nat) : s.KeepsTier (s.evalRequest n) := by
  unfold State.evalRequest
  split
  · exact .refl s
  · refine .ite (.refl s) (.ite ((keepsTier_dirFree ..).trans (keepsTier_opFinished ..)) (.ite ?_ (.refl s)))
    split
    · exact keepsTier_freeClean ..
    · split
      · next h => exact keepsTier_startWriteBack h
      · exact (keepsTier_dirMod ..).trans (keepsTier_opFailed ..)
    · exact .refl s

theorem keepsTier_unpinAll (s : State) (j : Nat) : s.KeepsTier (s.unpinAll j) :=
  .foldl _ s fun t _ => .ite ((keepsTier_dirMod ..).trans (keepsTier_evalRequest ..)) (.refl t)

/-- A stream's end gives up its pins and its record. -/
theorem keepsTier_endStream (s : State) (j : Nat) : s.KeepsTier { (s.unpinAll j) with streams := serase s.streams j } :=
  (keepsTier_unpinAll s j).trans (.of_regs rfl rfl)

theorem keepsTier_finish (s : State) (j : Nat) (st : Status) (r0 r1 : Word) : s.KeepsTier (s.finish j st r0 r1) := by
  unfold State.finish
  split
  · exact .refl s
  · next e _ =>
    refine .ite (.refl s) ?_
    have hended : s.KeepsTier (s.jmod j fun x => { x with fin := some st.num, res0 := r0, res1 := r1, unit := if x.onTile then x.unit else .none }) := .of_within (within_jmod ..)
    have hstream := State.KeepsTier.ite (c := e.isStream = true) (hended.trans (keepsTier_endStream _ j)) hended
    have hring : ∀ u : State, u.KeepsTier ((u.jmod j fun x => { x with unit := .none }).settleRing e.tileRing) := fun u =>
      (State.KeepsTier.of_within (within_jmod ..)).trans (.of_low (keepsLow_settleFrom ..) (within_settleRing ..).tier_eq)
    have hsettle : ∀ (u : State) (x : JEntry), u.KeepsTier (u.settle j x st.num) := fun u x => .of_low (keepsLow_settle ..) (within_settle ..).tier_eq
    exact .ite (hstream.trans (hring _)) (hstream.trans (hsettle _ _))

end Sys2Proof.Machine

end

section
/-! PROOFS. The slots of the directory (R322, R328 to R331): what write-backs and requests do to a slot's entry, and leave of every other. -/

set_option Elab.async false

namespace Sys2Proof.Machine

/-- What the step of element `x` brings about from where the other elements' steps have led holds after a fold over `x`, if no step undoes it. -/
theorem foldl_of_mem_from {σ α : Type} {f : σ → α → σ} {A B : σ → Prop} {x : α} (made : ∀ t, A t → B (f t x)) {l : List α}
    (other : ∀ t, ∀ y ∈ l, y ≠ x → A t → A (f t y)) (kept : ∀ t, ∀ y ∈ l, B t → B (f t y)) (hx : x ∈ l) {s : σ} (h : A s) : B (l.foldl f s) := by
  induction l generalizing s with
  | nil => cases hx
  | cons y r ih =>
    by_cases hy : y = x
    · subst hy
      exact List.foldlRecOn (motive := B) r f (made s h) fun t ht z hz => kept t z (List.mem_cons_of_mem _ hz) ht
    · exact ih (fun t z hz => other t z (List.mem_cons_of_mem _ hz)) (fun t z hz => kept t z (List.mem_cons_of_mem _ hz)) ((List.mem_cons.mp hx).resolve_left (Ne.symm hy))
        (other s y List.mem_cons_self hy h)

/-! One slot's entry. -/

/-- An entry whose write-back begins in state `st`. -/
def DirEnt.writtenBack (st : DirSt) (e : DirEnt) : DirEnt := { e with st := st, rewritten := 0, redirty := false }

theorem dirEnt_dirMod (s : State) (m n : Nat) (g : DirEnt → DirEnt) : (s.dirMod m g).dirEnt n = (s.dirEnt n).map fun e => if n = m then g e else e :=
  sfind_smodify ..

theorem dirEnt_dirMod_same {s : State} {n : Nat} {e : DirEnt} (h : s.dirEnt n = some e) (g : DirEnt → DirEnt) : (s.dirMod n g).dirEnt n = some (g e) :=
  sfind_smodify_same g h

theorem dirEnt_dirFree_same (s : State) (n : Nat) : (s.dirFree n).dirEnt n = none := sfind_serase_same ..

theorem dirEnt_of_tierIdle {s t : State} (h : t.tierIdle = s.tierIdle) (n : Nat) : t.dirEnt n = s.dirEnt n := by
  rw [State.dirEnt, State.dirEnt, dir_of_tierIdle h]

theorem dirEnt_of_tier {s t : State} (h : t.tier = s.tier) (n : Nat) : t.dirEnt n = s.dirEnt n := dirEnt_of_tierIdle (tierIdle_congr h) n

theorem dirEnt_fitHome {s t : State} {fr k : Nat} (h : s.fitHome fr k = some t) (n : Nat) : t.dirEnt n = s.dirEnt n := by
  obtain rfl | ⟨-, homes, lost, rfl, -⟩ := fitHome_cases h
  · rfl
  · rfl

theorem dirEnt_startWriteBack {s t : State} {m : Nat} {st : DirSt} (h : s.startWriteBack m st = some t) (n : Nat) :
    t.dirEnt n = (s.dirEnt n).map fun e => if n = m then e.writtenBack st else e := by
  unfold State.startWriteBack at h
  split at h
  · cases h
  · obtain ⟨u, hu, rfl⟩ := Option.map_eq_some_iff.mp h
    rw [dirEnt_dirMod, dirEnt_fitHome hu]
    rfl

theorem startWriteBack_of_fit {s : State} {n f : Nat} {e : DirEnt} (h : s.dirEnt n = some e) (hfit : s.Fit e.frame f) (st : DirSt) :
    s.startWriteBack n st = some (s.dirMod n (DirEnt.writtenBack st)) := by
  rw [State.startWriteBack, h]
  simp only [fitHome_of_fit hfit, Option.map_some]
  rfl

/-! Every other slot's entry, and the homes that are fit. -/

/-- Slot `n`'s entry is in `t` what it is in `s`, and the homes fit in `s` are fit in `t`. -/
structure State.KeepsSlot (n : Nat) (s t : State) : Prop where
  ent : t.dirEnt n = s.dirEnt n
  fit : ∀ fr f, s.Fit fr f → t.Fit fr f

namespace State.KeepsSlot

theorem refl (n : Nat) (s : State) : s.KeepsSlot n s := ⟨rfl, fun _ _ h => h⟩

theorem trans {n : Nat} {a b c : State} (h : a.KeepsSlot n b) (k : b.KeepsSlot n c) : a.KeepsSlot n c :=
  ⟨k.ent.trans h.ent, fun fr f hf => k.fit fr f (h.fit fr f hf)⟩

theorem of_tierIdle {n : Nat} {s t : State} (h : t.tierIdle = s.tierIdle) (hr : t.retired = s.retired) : s.KeepsSlot n t where
  ent := dirEnt_of_tierIdle h n
  fit fr f hfit := by
    obtain ⟨hhome, hin, hworn⟩ := hfit
    have hhomes : t.tier.homes = s.tier.homes := show t.tierIdle.homes = s.tierIdle.homes from congrArg TierState.homes h
    have hstacks : t.tier.fstacks = s.tier.fstacks := show t.tierIdle.fstacks = s.tierIdle.fstacks from congrArg TierState.fstacks h
    refine ⟨hhomes ▸ hhome, ?_, ?_⟩
    · rw [State.flashIn, State.isRetired, hr]
      exact hin
    · rw [State.flashStack, hstacks]
      exact hworn

theorem ite {n : Nat} {c : Prop} [Decidable c] {s t u : State} (ht : s.KeepsSlot n t) (hu : s.KeepsSlot n u) : s.KeepsSlot n (if c then t else u) := by
  split <;> assumption

end State.KeepsSlot

theorem keepsSlot_opFinished (n : Nat) (s : State) (m : Nat) : s.KeepsSlot n (s.opFinished m) := .of_tierIdle (tierIdle_opFinished s m) (within_opFinished s m).retired_eq

theorem keepsSlot_opFailed (n : Nat) (s : State) (m : Nat) : s.KeepsSlot n (s.opFailed m) := .of_tierIdle (tierIdle_opFailed s m) (within_opFailed s m).retired_eq

theorem keepsSlot_count (n : Nat) (s : State) (f : Fld) (k : Nat) : s.KeepsSlot n (s.count f k) := .of_tierIdle rfl rfl

section
variable {n m : Nat} (h : m ≠ n) (s : State)
include h

theorem keepsSlot_dirMod (g : DirEnt → DirEnt) : s.KeepsSlot n (s.dirMod m g) := ⟨sfind_smodify_other _ g h.symm, fun _ _ hfit => hfit⟩

theorem keepsSlot_dirFree : s.KeepsSlot n (s.dirFree m) := ⟨sfind_serase_other _ h.symm, fun _ _ hfit => hfit⟩

theorem keepsSlot_freeClean : s.KeepsSlot n (s.freeClean m) :=
  ((keepsSlot_dirFree h s).trans (keepsSlot_count ..)).trans (keepsSlot_opFinished ..)

omit h in
theorem fit_of_fitHome {s t : State} {fr k : Nat} (h : s.fitHome fr k = some t) {fr' f : Nat} (hfit : s.Fit fr' f) : t.Fit fr' f := by
  obtain rfl | ⟨hunfit, homes, lost, rfl, hhomes⟩ := fitHome_cases h
  · exact hfit
  · obtain ⟨hhome, hin, hworn⟩ := hfit
    have hne : fr' ≠ fr := by
      rintro rfl
      exact hunfit f ⟨hhome, hin, hworn⟩
    exact ⟨(hhomes fr' hne).trans hhome, hin, hworn⟩

theorem keepsSlot_startWriteBack {s t : State} {st : DirSt} (hw : s.startWriteBack m st = some t) : s.KeepsSlot n t where
  ent := by
    rw [dirEnt_startWriteBack hw]
    simp only [h.symm, if_false]
    exact Option.map_id'
  fit fr f hfit := by
    unfold State.startWriteBack at hw
    split at hw
    · cases hw
    · obtain ⟨u, hu, rfl⟩ := Option.map_eq_some_iff.mp hw
      exact fit_of_fitHome hu hfit

theorem keepsSlot_flushSlot : s.KeepsSlot n (s.flushSlot m) := by
  unfold State.flushSlot
  split
  · exact .refl n s
  · refine .ite (.refl n s) ?_
    split
    · next hw => exact keepsSlot_startWriteBack h hw
    · exact keepsSlot_opFailed ..

theorem keepsSlot_evalRequest : s.KeepsSlot n (s.evalRequest m) := by
  unfold State.evalRequest
  split
  · exact .refl n s
  · refine .ite (.refl n s) (.ite ((keepsSlot_dirFree h s).trans (keepsSlot_opFinished ..)) (.ite ?_ (.refl n s)))
    split
    · exact keepsSlot_freeClean h s
    · split
      · next hw => exact keepsSlot_startWriteBack h hw
      · exact (keepsSlot_dirMod h s _).trans (keepsSlot_opFailed ..)
    · exact .refl n s

end

/-! A slot's own requests (R329, R331). -/

theorem flushSlot_of_other {s : State} {n : Nat} {e : DirEnt} (h : s.dirEnt n = some e) (hst : e.st ≠ .dirty) : s.flushSlot n = s := by
  simp only [State.flushSlot, h]
  exact if_pos hst

theorem flushSlot_of_fit {s : State} {n f : Nat} {e : DirEnt} (h : s.dirEnt n = some e) (hst : e.st = .dirty) (hfit : s.Fit e.frame f) :
    s.flushSlot n = s.dirMod n (DirEnt.writtenBack .cleaning) := by
  simp only [State.flushSlot, h, hst, ne_eq, not_true_eq_false, if_false, startWriteBack_of_fit h hfit]

/-- A request on a pinned slot waits. -/
theorem evalRequest_of_pinned {s : State} {n : Nat} {e : DirEnt} (h : s.dirEnt n = some e) (hp : e.pins ≠ []) : s.evalRequest n = s := by
  simp only [State.evalRequest, h]
  exact if_pos (.inl (by simpa using hp))

theorem evalRequest_of_free {s : State} {n : Nat} (h : s.dirEnt n = none) : s.evalRequest n = s := by
  simp only [State.evalRequest, h]

theorem evalRequest_of_none {s : State} {n : Nat} {e : DirEnt} (h : s.dirEnt n = some e) (hev : e.evreq = false) (hinv : e.invreq = false) : s.evalRequest n = s := by
  simp [State.evalRequest, h, hev, hinv]

theorem evalRequest_of_evicting {s : State} {n : Nat} {e : DirEnt} (h : s.dirEnt n = some e) (hst : e.st = .evicting) (hinv : e.invreq = false) : s.evalRequest n = s := by
  simp [State.evalRequest, h, hst, hinv]

/-- An invalidation of an unpinned slot frees it. -/
theorem dirEnt_evalRequest_invalidated {s : State} {n : Nat} {e : DirEnt} (h : s.dirEnt n = some e) (hp : e.pins = []) (hst : e.st ≠ .promoting)
    (hinv : e.invreq = true) : (s.evalRequest n).dirEnt n = none := by
  have heval : s.evalRequest n = (s.dirFree n).opFinished n := by simp [State.evalRequest, h, hp, hst, hinv]
  rw [heval, (keepsSlot_opFinished ..).ent, dirEnt_dirFree_same]

/-- An eviction of an unpinned CLEAN slot frees it. -/
theorem dirEnt_evalRequest_evicted {s : State} {n : Nat} {e : DirEnt} (h : s.dirEnt n = some e) (hp : e.pins = []) (hst : e.st = .clean)
    (hev : e.evreq = true) : (s.evalRequest n).dirEnt n = none := by
  cases hinv : e.invreq with
  | true => exact dirEnt_evalRequest_invalidated h hp (by rw [hst]; decide) hinv
  | false =>
    have heval : s.evalRequest n = s.freeClean n := by simp [State.evalRequest, h, hp, hst, hinv, hev]
    rw [heval, State.freeClean, (keepsSlot_opFinished ..).ent]
    exact dirEnt_dirFree_same s n

/-- An eviction of an unpinned DIRTY slot begins its write-back. -/
theorem evalRequest_of_dirty {s : State} {n f : Nat} {e : DirEnt} (h : s.dirEnt n = some e) (hp : e.pins = []) (hst : e.st = .dirty)
    (hev : e.evreq = true) (hinv : e.invreq = false) (hfit : s.Fit e.frame f) : s.evalRequest n = s.dirMod n (DirEnt.writtenBack .evicting) := by
  simp [State.evalRequest, h, hp, hst, hev, hinv, startWriteBack_of_fit h hfit]

end Sys2Proof.Machine

end

section
/-! PROOFS. Frames copied between a slot and the flash tier (R314, R316, R326, R328): which bytes a copy of whole granules writes, and with what. -/

set_option Elab.async false

namespace Sys2Proof.Machine

/-! Keys of a slot's bytes and of an object's flash content. -/

/-- The bytes of an object's largest size: 32 frames (R315). -/
def objectMax : Nat := 2097152

theorem slotByte_lt {s : State} {n o : Nat} (hn : n < s.slotCount) (ho : o < objectMax) : s.slotByte n o < flashBase := by
  have hcache := get_lt s Fld.TIER_STAT_CACHE
  simp only [State.slotCount, objectMax, flashBase, State.slotByte, Fld.TIER_STAT_CACHE] at *
  omega

theorem slotByte_injective (s : State) (n : Nat) : Function.Injective (s.slotByte n) := by
  intro a b h
  simp only [State.slotByte] at h
  omega

theorem slotByte_granule (s : State) (n i : Nat) {o : Nat} (ho : o < 32) : s.slotByte n (32 * i) + o = s.slotByte n (32 * i + o) := by
  simp only [State.slotByte]
  omega

theorem slotByte_congr {s t : State} (h : t.regs = s.regs) : t.slotByte = s.slotByte := by
  have hget : t.get Fld.TIER_STAT_CACHE = s.get Fld.TIER_STAT_CACHE := by rw [State.get, State.get, State.reg, State.reg, h]
  funext n o
  simp only [State.slotByte, hget]

theorem le_frameKey (fr o : Nat) : flashBase ≤ frameKey fr o := by
  simp only [frameKey]
  omega

theorem frameKey_injective (fr : Nat) : Function.Injective (frameKey fr) := by
  intro a b h
  simp only [frameKey] at h
  omega

theorem frameKey_granule (fr i o : Nat) : frameKey fr (32 * i) + o = frameKey fr (32 * i + o) := by
  simp only [frameKey]
  omega

/-! Bytes written at the keys that a map of offsets gives. -/

/-- From `s` to `t` the bytes at `D b` for the offsets `b` in `done` have become `v b`, and no other byte of memory has changed. -/
structure Filled (D : Nat → Nat) (v : Nat → Byte) (done : Nat → Prop) (s t : State) : Prop where
  inside : ∀ b, done b → t.rb (D b) = v b
  outside : ∀ x, (∀ b, done b → x ≠ D b) → t.rb x = s.rb x

theorem Filled.of_mem {D : Nat → Nat} {v : Nat → Byte} {done : Nat → Prop} {s t u : State} (h : Filled D v done s t) (hu : u.mem = t.mem) : Filled D v done s u := by
  have hrb : ∀ x, u.rb x = t.rb x := fun x => by rw [State.rb, State.rb, hu]
  exact ⟨fun b hb => (hrb _).trans (h.inside b hb), fun x hx => (hrb x).trans (h.outside x hx)⟩

theorem Filled.congr {D : Nat → Nat} {v : Nat → Byte} {done done' : Nat → Prop} {s t : State} (h : Filled D v done s t) (hd : ∀ b, done' b ↔ done b) :
    Filled D v done' s t :=
  ⟨fun b hb => h.inside b ((hd b).mp hb), fun x hx => h.outside x fun b hb => hx b ((hd b).mpr hb)⟩

theorem Filled.refl (D : Nat → Nat) (v : Nat → Byte) (s : State) : Filled D v (fun _ => False) s s := ⟨fun _ h => h.elim, fun _ _ => rfl⟩

section
variable {D : Nat → Nat} (hD : Function.Injective D) {v : Nat → Byte}
include hD

theorem Filled.trans {d d' : Nat → Prop} {s u t : State} (h : Filled D v d s u) (k : Filled D v d' u t) : Filled D v (fun b => d b ∨ d' b) s t where
  inside b hb := by
    by_cases hlate : d' b
    · exact k.inside b hlate
    · rw [k.outside (D b) fun b' hb' heq => hlate (hD heq ▸ hb')]
      exact h.inside b (hb.resolve_right hlate)
  outside x hx := (k.outside x fun b hb => hx b (.inr hb)).trans (h.outside x fun b hb => hx b (.inl hb))

/-- A fold whose steps each fill a part fills their union; `I` is what every state on the way satisfies. -/
theorem filled_foldl {α : Type} {f : State → α → State} {done : α → Nat → Prop} {I : State → Prop} (l : List α)
    (step : ∀ u, ∀ a ∈ l, I u → Filled D v (done a) u (f u a) ∧ I (f u a)) {s : State} (hs : I s) :
    Filled D v (fun b => ∃ a ∈ l, done a b) s (l.foldl f s) ∧ I (l.foldl f s) := by
  induction l generalizing s with
  | nil => exact ⟨(Filled.refl D v s).congr (by simp), hs⟩
  | cons a r ih =>
    obtain ⟨hfirst, hi⟩ := step s a (List.mem_cons_self ..) hs
    obtain ⟨hrest, hend⟩ := ih (fun u x hx => step u x (List.mem_cons_of_mem _ hx)) hi
    exact ⟨(hfirst.trans hD hrest).congr (by simp), hend⟩

end

section
variable {D : Nat → Nat} (hgran : ∀ i o, o < 32 → D (32 * i) + o = D (32 * i + o)) {v : Nat → Byte}
include hgran

/-- One granule written. -/
theorem filled_granule (s : State) (i : Nat) {bs : List Byte} (hlen : bs.length = 32) (hv : ∀ o (h : o < bs.length), bs[o] = v (32 * i + o)) :
    Filled D v (fun b => b / 32 = i) s (s.wbs (D (32 * i)) bs) where
  inside b hb := by
    have ho : b % 32 < bs.length := by omega
    have hbyte : 32 * i + b % 32 = b := by omega
    have hkey : D b = D (32 * i) + b % 32 := by rw [hgran i (b % 32) (by omega), hbyte]
    rw [hkey, rb_wbs_same s _ bs (b % 32) ho, hv _ ho, hbyte]
  outside x hx := by
    refine rb_wbs_other s _ bs (Decidable.byContradiction fun hin => ?_)
    have ho : x - D (32 * i) < 32 := by omega
    refine hx (32 * i + (x - D (32 * i))) (by omega) ?_
    rw [← hgran i _ ho]
    omega

end

theorem regs_copyGranules (s : State) (src dst : Nat → Nat) (i n : Nat) : (s.copyGranules src dst i n).regs = s.regs :=
  (within_copyGranules s src dst i n).same .regs (by decide)

section
variable {S D : Nat → Nat} (hD : Function.Injective D) (hgran : ∀ i o, o < 32 → D (32 * i) + o = D (32 * i + o))
  (hsrc : ∀ i o, o < 32 → S (32 * i) + o = S (32 * i + o)) (hapart : ∀ b b', b < objectMax → b' < objectMax → S b ≠ D b') {v : Nat → Byte}
include hD hgran hsrc hapart

/-- A copy fills the destination of its granules with the source's bytes, and leaves the source as it was. -/
theorem filled_copyGranules {s : State} (n : Nat) {i : Nat} (hi : 32 * (i + n) ≤ objectMax) (hs : ∀ b, b < objectMax → s.rb (S b) = v b) :
    Filled D v (fun b => 32 * i ≤ b ∧ b < 32 * (i + n)) s (s.copyGranules (fun k => S (32 * k)) (fun k => D (32 * k)) i n) := by
  induction n generalizing s i with
  | zero => exact (Filled.refl D v s).congr fun b => iff_of_false (by omega) id
  | succ n ih =>
    have hfirst := filled_granule hgran (v := v) s i (bs := s.rbs (S (32 * i)) 32) (length_rbs ..) fun o ho => by
      have ho' : o < 32 := by simpa [length_rbs] using ho
      rw [getElem_rbs, hsrc i o ho', hs _ (by omega)]
    have hkept : ∀ b, b < objectMax → (s.wbs (D (32 * i)) (s.rbs (S (32 * i)) 32)).rb (S b) = v b := fun b hb =>
      (hfirst.outside _ fun b' (hb' : b' / 32 = i) => hapart b b' hb (by omega)).trans (hs b hb)
    have hjoin : ∀ u : State, u.mem = (s.wbs (D (32 * i)) (s.rbs (S (32 * i)) 32)).mem →
        Filled D v (fun b => 32 * i ≤ b ∧ b < 32 * (i + (n + 1))) s (u.copyGranules (fun k => S (32 * k)) (fun k => D (32 * k)) (i + 1) n) := fun u hu => by
      have hrest := ih (s := u) (i := i + 1) (by omega) fun b hb => by
        rw [State.rb, hu]
        exact hkept b hb
      exact ((hfirst.of_mem hu).trans hD hrest).congr fun b => by omega
    unfold State.copyGranules
    dsimp only
    split
    · exact hjoin _ rfl
    · exact hjoin _ rfl

/-- Copies of the frames of a list, one after another, fill the destination of those frames. -/
theorem filled_frames {f : State → Nat → State} {s : State}
    (hf : ∀ u k, u.regs = s.regs → f u k = u.copyGranules (fun i => S (32 * i)) (fun i => D (32 * i)) (2048 * k) 2048) {l : List Nat} (hl : ∀ k ∈ l, k < 32) :
    Filled D (fun b => s.rb (S b)) (fun b => b / 65536 ∈ l) s (l.foldl f s) := by
  have hfold := filled_foldl hD (v := fun b => s.rb (S b)) (f := f) (done := fun k b => b / 65536 = k)
    (I := fun u => u.regs = s.regs ∧ ∀ b, b < objectMax → u.rb (S b) = s.rb (S b)) l (fun u k hk hu => ?_) (s := s) ⟨rfl, fun _ _ => rfl⟩
  · exact hfold.1.congr (by simp)
  · obtain ⟨hregs, hbytes⟩ := hu
    have hk32 := hl k hk
    have hcopy := filled_copyGranules hD hgran hsrc hapart 2048 (i := 2048 * k) (by simp only [objectMax]; omega) hbytes
    rw [hf u k hregs]
    refine ⟨hcopy.congr fun b => by omega, (regs_copyGranules ..).trans hregs, fun b hb => (hcopy.outside _ fun b' hb' => ?_).trans (hbytes b hb)⟩
    exact hapart b b' hb (by simp only [objectMax]; omega)

end

/-! Whole frames (R326, R328). -/

theorem frameKey_ne_slotByte {s : State} {n : Nat} (hn : n < s.slotCount) (fr : Nat) : ∀ b b', b < objectMax → b' < objectMax → frameKey fr b ≠ s.slotByte n b' :=
  fun b b' _ hb' => by
    have hslot := slotByte_lt hn hb'
    have hflash := le_frameKey fr b
    omega

/-- The frames of a list brought from an object's flash content into its slot. -/
theorem filled_framesIn {s : State} {n : Nat} (hn : n < s.slotCount) (fr : Nat) {l : List Nat} (hl : ∀ k ∈ l, k < 32) :
    Filled (s.slotByte n) (fun b => s.rb (frameKey fr b)) (fun b => b / 65536 ∈ l) s (l.foldl (fun (u : State) k => u.frameIn n fr k) s) :=
  filled_frames (slotByte_injective s n) (fun i o => slotByte_granule s n i) (fun i o _ => frameKey_granule fr i o) (frameKey_ne_slotByte hn fr)
    (fun u k hu => by rw [State.frameIn, ← slotByte_congr hu]; rfl) hl

/-- The frames of a list programmed from a slot into the object's flash content. -/
theorem filled_framesOut {s : State} {n : Nat} (hn : n < s.slotCount) (fr : Nat) {l : List Nat} (hl : ∀ k ∈ l, k < 32) :
    Filled (frameKey fr) (fun b => s.rb (s.slotByte n b)) (fun b => b / 65536 ∈ l) s (l.foldl (fun (u : State) k => u.frameOut n fr k) s) :=
  filled_frames (frameKey_injective fr) (fun i o _ => frameKey_granule fr i o) (fun i o => slotByte_granule s n i)
    (fun b b' hb hb' => (frameKey_ne_slotByte hn fr b' b hb' hb).symm) (fun u k hu => by rw [State.frameOut, ← slotByte_congr hu]; rfl) hl

/-- The granules of a slot, as many as `k` frames have, filled with zeros. -/
theorem filled_zeros {s : State} {n : Nat} (k : Nat) :
    Filled (s.slotByte n) (fun _ => 0) (fun b => b < 65536 * k) s
      ((numsFrom 0 (2048 * k)).foldl (fun (u : State) i => (u.zero (u.slotGranule n i) 32).cleanse (u.slotGranule n i) 32) s) := by
  have hfold := filled_foldl (slotByte_injective s n) (v := fun _ => 0) (f := fun (u : State) i => (u.zero (u.slotGranule n i) 32).cleanse (u.slotGranule n i) 32)
    (done := fun i b => b / 32 = i) (I := fun u => u.regs = s.regs) (numsFrom 0 (2048 * k)) (fun u i _ hu => ?_) (s := s) rfl
  · refine hfold.1.congr fun b => ?_
    simp only [numsFrom_eq_range', List.mem_range'_1, exists_eq_right']
    omega
  · have hgranule := filled_granule (fun i o => slotByte_granule s n i) (v := fun _ => 0) u i (bs := List.replicate 32 0) (List.length_replicate ..) fun o ho => List.getElem_replicate ..
    have hkey : u.slotGranule n i = s.slotByte n (32 * i) := by rw [State.slotGranule, slotByte_congr hu]
    rw [State.zero, hkey]
    exact ⟨hgranule.of_mem (State.cleanse_mem ..), ((State.cleanse_regs ..).trans (State.wbs_regs ..)).trans hu⟩

end Sys2Proof.Machine

end

section
/-! PROOFS. Promotions (R324, R326, R333, R334): the slot filled, or freed with the end of the command that waits on it. -/

set_option Elab.async false

namespace Sys2Proof.Machine

/-! A promotion that succeeds (R326). -/

/-- The bytes of entry `e`'s object brought into slot `n`: its flash content, or zeros for an object without a home. -/
def State.broughtIn (s : State) (n : Nat) (e : DirEnt) : State :=
  if (sfind s.tier.homes e.frame).isSome then (numsFrom 0 e.size).foldl (fun (u : State) k => u.frameIn n e.frame k) s
  else (numsFrom 0 (2048 * e.size)).foldl (fun (u : State) i => (u.zero (u.slotGranule n i) 32).cleanse (u.slotGranule n i) 32) s

/-- The entry of an object that has been promoted. -/
def DirEnt.promoted (e : DirEnt) : DirEnt := { e with st := .clean, mask := 0, rewritten := 0 }

theorem within_broughtIn (s : State) (n : Nat) (e : DirEnt) : Within 12 s (s.broughtIn n e) :=
  .ite (.foldl (.refl ..) fun _ _ => within_frameIn ..) (.foldl (.refl ..) fun _ _ => .step (.step (.refl ..) (within_wbs ..)) (within_cleanse ..))

theorem rb_broughtIn {s : State} {n : Nat} {e : DirEnt} (hn : n < s.slotCount) (hsize : e.size ≤ 32) {i : Nat} (hi : i < 65536 * e.size) :
    (s.broughtIn n e).rb (s.slotByte n i) = if (sfind s.tier.homes e.frame).isSome then s.rb (frameKey e.frame i) else 0 := by
  unfold State.broughtIn
  split
  · refine (filled_framesIn hn e.frame fun k hk => ?_).inside i ?_
    · simp only [numsFrom_eq_range', List.mem_range'_1] at hk
      omega
    · simp only [numsFrom_eq_range', List.mem_range'_1]
      omega
  · exact (filled_zeros e.size).inside i hi

theorem State.Up.congr {s s' t t' : State} {f : Fld} (h : s.Up t f) (hs : s'.get f = s.get f) (ht : t'.get f = t.get f) : s'.Up t' f := by
  rw [State.Up, hs, ht]
  exact h

theorem exec_promotion {s : State} {n : Nat} {e : DirEnt} (h : s.dirEnt n = some e) (hst : e.st = .promoting) (hlost : nmem s.tier.lostObjs e.frame = false)
    (hev : e.evreq = false) (hinv : e.invreq = false) :
    exec (.promotion n) s = .next (((s.broughtIn n e).dirMod n DirEnt.promoted).count Fld.TIER_PROMCNT_PROMOTIONS 1) := by
  have hent : (((s.broughtIn n e).dirMod n DirEnt.promoted).count Fld.TIER_PROMCNT_PROMOTIONS 1).dirEnt n = some e.promoted :=
    dirEnt_dirMod_same ((dirEnt_of_tier (within_broughtIn s n e).tier_eq n).trans h) _
  rw [← evalRequest_of_none hent hev hinv]
  show execPromotion n s = _
  simp only [execPromotion, h, hst, ne_eq, not_true_eq_false, if_false, hlost, Bool.false_eq_true]
  rfl

/-! A promotion given up (R333, R334). -/

theorem dirEnt_evalRequest_none {s : State} {n : Nat} (h : s.dirEnt n = none) (m : Nat) : (s.evalRequest m).dirEnt n = none := by
  by_cases hm : m = n
  · subst hm
    rwa [evalRequest_of_free h]
  · exact (keepsSlot_evalRequest hm s).ent.trans h

theorem dirEnt_unpinAll_none {s : State} {n : Nat} (h : s.dirEnt n = none) (j : Nat) : (s.unpinAll j).dirEnt n = none := by
  refine List.foldlRecOn (motive := fun t : State => t.dirEnt n = none) _ _ h fun t ht x _ => ?_
  split
  · exact dirEnt_evalRequest_none (by rw [dirEnt_dirMod, ht]; rfl) _
  · exact ht

theorem dirEnt_endStream_none {s : State} {n : Nat} (h : s.dirEnt n = none) (j : Nat) : ({ (s.unpinAll j) with streams := serase s.streams j } : State).dirEnt n = none :=
  dirEnt_unpinAll_none h j

theorem dirEnt_ite_none {c : Prop} [Decidable c] {s t : State} {n : Nat} (hs : s.dirEnt n = none) (ht : t.dirEnt n = none) : (if c then s else t).dirEnt n = none := by
  split
  · exact hs
  · exact ht

/-- The end of a command fills no slot. -/
theorem dirEnt_finish_none {s : State} {n : Nat} (h : s.dirEnt n = none) (j : Nat) (st : Status) (r0 r1 : Word) : (s.finish j st r0 r1).dirEnt n = none := by
  unfold State.finish
  split
  · exact h
  · next e _ =>
    refine dirEnt_ite_none h ?_
    have hended : (s.jmod j fun x => { x with fin := some st.num, res0 := r0, res1 := r1, unit := if x.onTile then x.unit else .none }).dirEnt n = none := h
    have hstream := dirEnt_ite_none (c := e.isStream = true) (dirEnt_endStream_none hended j) hended
    exact dirEnt_ite_none ((dirEnt_of_tier (within_settleRing ..).tier_eq n).trans hstream) ((dirEnt_of_tier (within_settle ..).tier_eq n).trans hstream)

section
variable {s : State} {n j : Nat} {e : DirEnt} {c : JEntry} (hpins : e.pins = [j]) (hcmd : s.cmd j = some c) (hst : c.st = .dispatched) (hfin : c.fin = none) (st : Status)
include hpins hcmd hst

theorem failPromotion_of_pin : s.failPromotion n e st = ((s.dirFree n).finish j st 0 0).opFinished n := by
  have hdisp : (s.dirFree n).cmdIs j (fun c => c.st == .dispatched) = true := by
    have hcmd' : (s.dirFree n).cmd j = some c := hcmd
    simp [State.cmdIs, hcmd', hst]
  have hdups : [j].eraseDups = [j] := rfl
  simp only [State.failPromotion, hpins, hdups, List.foldl_cons, List.foldl_nil, hdisp, if_true]

theorem dirEnt_failPromotion : (s.failPromotion n e st).dirEnt n = none := by
  rw [failPromotion_of_pin hpins hcmd hst, (keepsSlot_opFinished ..).ent]
  exact dirEnt_finish_none (dirEnt_dirFree_same s n) ..

theorem keepsTier_failPromotion : s.KeepsTier (s.failPromotion n e st) := by
  rw [failPromotion_of_pin hpins hcmd hst]
  exact ((keepsTier_dirFree s n).trans (keepsTier_finish ..)).trans (keepsTier_opFinished ..)

include hfin in
theorem ranTo_failPromotion : (s.failPromotion n e st).RanTo j st := by
  intro x hx
  rw [failPromotion_of_pin hpins hcmd hst, (within_opFinished ..).cmd_eq] at hx
  exact ranTo_finish (s := s.dirFree n) st 0 0 hcmd hfin x hx

end

theorem exec_promotionFailed {s : State} {n f : Nat} {e : DirEnt} (h : s.dirEnt n = some e) (hst : e.st = .promoting) (hhome : sfind s.tier.homes e.frame = some f) :
    exec (.promotionFailed n) s = .next (((s.count Fld.TIER_PROMCNT_FAILED 1).count (Fld.FLS_ERR_UNCORRECTABLE f) 1).failPromotion n e .flashError) := by
  show execPromotionFailed n s = _
  simp [execPromotionFailed, h, hst, hhome, State.promotionLost]

theorem exec_flashReadTimeout {s : State} {n f : Nat} {e : DirEnt} (h : s.dirEnt n = some e) (hst : e.st = .promoting) (hhome : sfind s.tier.homes e.frame = some f) :
    exec (.flashReadTimeout n) s =
      .next (((s.tmod fun t => { t with quarantine := nadd t.quarantine e.tag }).count Fld.TIER_PROMCNT_TIMEOUTS 1).failPromotion n e .timeout) := by
  show execFlashReadTimeout n s = _
  simp [execFlashReadTimeout, h, hst, hhome]

/-! Late data and the end of a quarantine (R334). -/

theorem exec_lateFlashData {s : State} {tag : Nat} (h : nmem s.tier.quarantine tag = true) :
    exec (.lateFlashData tag) s = .next ((s.count Fld.TIER_LATE_COUNT 1).set Fld.TIER_LATE_STACK (tag / 65536)) := by
  show execLateFlashData tag s = _
  rw [execLateFlashData, if_pos h]

theorem nmem_ndel (l : List Nat) (k i : Nat) : nmem (ndel l k) i = (nmem l i && i != k) := by
  rw [Bool.eq_iff_iff]
  simp only [nmem, ndel, List.any_eq_true, List.mem_filter, beq_iff_eq, bne_iff_ne, Bool.and_eq_true]
  constructor
  · rintro ⟨x, ⟨hx, hne⟩, rfl⟩
    exact ⟨⟨x, hx, rfl⟩, hne⟩
  · rintro ⟨⟨x, hx, rfl⟩, hne⟩
    exact ⟨x, ⟨hx, hne⟩, rfl⟩

end Sys2Proof.Machine

open Sys2Proof Sys2Proof.Machine

/-- Settles O33: a promotion's copy goes granule by granule between keys that never meet; a promotion given up frees its slot before the command ends, and neither that end nor the operation in progress writes the counters or fills a slot. -/
theorem promotionRule : Obligations.PromotionRule := by
  refine ⟨fun s n e h hst hlost hev hinv hn hsize => ?promoted, fun s n j f e c h hst hhome hf hpins hcmd hdisp hfin _ => ⟨?failed, ?timeout⟩, fun s tag h => ?late, fun s tag => ?quarantine⟩
  case promoted =>
    have hframe := within_broughtIn s n e
    refine ⟨_, exec_promotion h hst hlost hev hinv, ?_, ?_, fun i hi => ?_⟩
    · exact dirEnt_dirMod_same ((dirEnt_of_tier hframe.tier_eq n).trans h) _
    · exact (up_count ((s.broughtIn n e).dirMod n DirEnt.promoted) _ (by decide)).congr (hframe.get_eq _).symm rfl
    · exact rb_broughtIn hn hsize hi
  case failed =>
    have hcmd' : ((s.count Fld.TIER_PROMCNT_FAILED 1).count (Fld.FLS_ERR_UNCORRECTABLE f) 1).cmd j = some c := hcmd
    have hkeep := keepsTier_failPromotion (n := n) hpins hcmd' hdisp .flashError
    have herr : TierFld (Fld.FLS_ERR_UNCORRECTABLE f) := by
      simp only [TierFld, Fld.FLS_ERR_UNCORRECTABLE, Reg.FLS_ERR, Reg.TIER_OPSTAT, Reg.TIER_EVCNT]
      omega
    have hapart : Fld.TIER_PROMCNT_FAILED.reg ≠ (Fld.FLS_ERR_UNCORRECTABLE f).reg := by
      simp only [Fld.TIER_PROMCNT_FAILED, Reg.TIER_PROMCNT, Fld.FLS_ERR_UNCORRECTABLE, Reg.FLS_ERR]
      omega
    refine ⟨_, exec_promotionFailed h hst hhome, dirEnt_failPromotion hpins hcmd' hdisp _, ?_, ?_, ranTo_failPromotion hpins hcmd' hdisp hfin _, (within_failPromotion ..).mem_eq⟩
    · exact (up_count s _ (by decide)).congr rfl ((hkeep.fld _ (by unfold TierFld; decide)).trans (get_count_other _ _ _ _ (.inl hapart)))
    · exact (up_count (s.count Fld.TIER_PROMCNT_FAILED 1) (Fld.FLS_ERR_UNCORRECTABLE f) (by decide : 0 + 16 ≤ 64)).congr
        (get_count_other _ _ _ _ (.inl hapart.symm)).symm (hkeep.fld _ herr)
  case timeout =>
    have hcmd' : ((s.tmod fun t => { t with quarantine := nadd t.quarantine e.tag }).count Fld.TIER_PROMCNT_TIMEOUTS 1).cmd j = some c := hcmd
    have hkeep := keepsTier_failPromotion (n := n) hpins hcmd' hdisp .timeout
    refine ⟨_, exec_flashReadTimeout h hst hhome, dirEnt_failPromotion hpins hcmd' hdisp _, ?_, ?_, ranTo_failPromotion hpins hcmd' hdisp hfin _, (within_failPromotion ..).mem_eq⟩
    · exact (up_count (s.tmod _) _ (by decide)).congr rfl (hkeep.fld _ (by unfold TierFld; decide))
    · rw [hkeep.quarantine]
      exact (nmem_nadd ..).trans (by rw [beq_self_eq_true, Bool.or_true])
  case late =>
    refine ⟨_, exec_lateFlashData h, ?_, fun htag => ?_, fun a ha => ?_, Within.sameBut (.step (within_count ..) (within_set ..))⟩
    · exact (up_count s _ (by decide)).congr rfl (get_set_other _ _ _ _ (by decide))
    · rw [get_set_same _ _ _ (by decide)]
      exact Nat.mod_eq_of_lt (by simp only [Fld.TIER_LATE_STACK]; omega)
    · have hne : a ≠ Reg.TIER_LATE := fun heq => ha (heq ▸ List.mem_singleton_self _)
      exact (reg_set_other _ _ hne).trans (reg_count_other _ _ hne)
  case quarantine =>
    refine ⟨_, rfl, ?_, fun x hx => ?_, rfl, Within.sameBut (within_tmod ..)⟩
    · exact (nmem_ndel ..).trans (by simp)
    · exact (nmem_ndel ..).trans (by simp [hx])

end

section
/-! PROOFS. Programs of the flash tier (R328, R331, R339, R341): the wear they leave, and the bytes a write-back programs. -/

set_option Elab.async false

namespace Sys2Proof.Machine

/-! The wear a program leaves (R341). -/

/-- A program's counts and wear on flash stack `f`. -/
def State.wearNoted (s : State) (f bytes : Nat) (w : WearObs) (rating life : Nat) : State :=
  ((((((s.count (Fld.FLS_HOSTBYTES_COUNT f) bytes).count (Fld.FLS_PGMBYTES_COUNT f) w.pgm).set (Fld.FLS_WEAR_MAXPE f) w.maxPe).set (Fld.FLS_WEAR_AVGPE f) w.avgPe).set
    (Fld.FLS_WEAR_RATING f) rating).set (Fld.FLS_WEAR_LIFE f) life).set (Fld.FLS_STAT_SPARE f) w.spare

/-- The WEAR event of a stack that reaches its warning. -/
def State.wearWarned (s : State) (f life : Nat) : State :=
  if s.get (Fld.FLS_WEARCFG_WARN f) ≤ life ∧ ¬ (s.flashStack f).warned then (s.fmod f (fun x => { x with warned := true })).raise .wear f (s.reg (Reg.FLS_WEAR f)) 0 else s

/-- A stack at its end of life, or short of spare blocks, counts as worn. -/
def State.wearEnded (s : State) (f life spare : Nat) : State :=
  if 10000 ≤ life ∨ spare < 2 then (s.fmod f (fun x => { x with worn := true })).setFlag (Fld.FLS_STAT_WORN f) true else s

theorem programmed_eq (s : State) (f bytes : Nat) (w : WearObs) : ∃ rating life,
    s.programmed f bytes w = ((s.wearNoted f bytes w rating life).wearWarned f life).wearEnded f life w.spare := ⟨_, _, rfl⟩

/-- A program changes the flash stacks' records and nothing else of the tier controller's state. -/
theorem tier_programmed (s : State) (f bytes : Nat) (w : WearObs) : ∃ x, (s.programmed f bytes w).tier = { s.tier with fstacks := x } := by
  have hwarned : ∀ (u : State) (life : Nat), ∃ x, (u.wearWarned f life).tier = { u.tier with fstacks := x } := fun u life => by
    unfold State.wearWarned
    split
    · rw [(within_raise ..).tier_eq]
      exact ⟨_, rfl⟩
    · exact ⟨_, rfl⟩
  have hended : ∀ (u : State) (life : Nat), ∃ x, (u.wearEnded f life w.spare).tier = { u.tier with fstacks := x } := fun u life => by
    unfold State.wearEnded
    split
    · exact ⟨_, rfl⟩
    · exact ⟨_, rfl⟩
  obtain ⟨rating, life, heq⟩ := programmed_eq s f bytes w
  obtain ⟨x, hx⟩ := hwarned (s.wearNoted f bytes w rating life) life
  obtain ⟨y, hy⟩ := hended ((s.wearNoted f bytes w rating life).wearWarned f life) life
  rw [heq, hy, hx]
  exact ⟨y, rfl⟩

theorem get_wearWarned (s : State) (f life : Nat) {g : Fld} (hg : BlockReg g.reg) : (s.wearWarned f life).get g = s.get g := by
  unfold State.wearWarned
  split
  · exact get_raise_block _ _ _ _ _ hg
  · rfl

/-- A program writes no register below the flash stacks'. -/
theorem get_programmed_below (s : State) (f bytes : Nat) (w : WearObs) {g : Fld} (hlow : 0x100000 ≤ g.reg) (hhigh : g.reg < 0x1A0000) :
    (s.programmed f bytes w).get g = s.get g := by
  have hset : ∀ (u : State) (x : Fld) (v : Nat), 0x1A0000 ≤ x.reg → (u.set x v).get g = u.get g := fun u x v hx => get_set_other _ _ _ _ (.inl (by omega))
  have hstat : 0x1A0000 ≤ Reg.FLS_STAT f := by simp only [Reg.FLS_STAT]; omega
  have hwear : 0x1A0000 ≤ Reg.FLS_WEAR f := by simp only [Reg.FLS_WEAR]; omega
  have hhost : 0x1A0000 ≤ Reg.FLS_HOSTBYTES f := by simp only [Reg.FLS_HOSTBYTES]; omega
  have hpgm : 0x1A0000 ≤ Reg.FLS_PGMBYTES f := by simp only [Reg.FLS_PGMBYTES]; omega
  have hended : ∀ (u : State) (life : Nat), (u.wearEnded f life w.spare).get g = u.get g := fun u life => by
    unfold State.wearEnded
    split
    · exact hset _ _ _ hstat
    · rfl
  obtain ⟨rating, life, heq⟩ := programmed_eq s f bytes w
  rw [heq, hended, get_wearWarned _ _ _ ⟨hlow, by omega⟩, State.wearNoted, hset _ _ _ hstat, hset _ _ _ hwear, hset _ _ _ hwear, hset _ _ _ hwear, hset _ _ _ hwear]
  exact (hset _ _ _ hpgm).trans (hset _ _ _ hhost)

theorem get_programmed_avgpe (s : State) {f : Nat} (hf : f < 4) (bytes : Nat) (w : WearObs) :
    (s.programmed f bytes w).get (Fld.FLS_WEAR_AVGPE f) = w.avgPe % 2 ^ (Fld.FLS_WEAR_AVGPE f).n := by
  have hblock : BlockReg (Fld.FLS_WEAR_AVGPE f).reg := by
    simp only [BlockReg, Fld.FLS_WEAR_AVGPE, Reg.FLS_WEAR]
    omega
  have hstat : (Fld.FLS_WEAR_AVGPE f).reg ≠ Reg.FLS_STAT f := by
    simp only [Fld.FLS_WEAR_AVGPE, Reg.FLS_WEAR, Reg.FLS_STAT]
    omega
  have hended : ∀ (u : State) (life : Nat), (u.wearEnded f life w.spare).get (Fld.FLS_WEAR_AVGPE f) = u.get (Fld.FLS_WEAR_AVGPE f) := fun u life => by
    unfold State.wearEnded
    split
    · exact get_set_other _ _ _ _ (.inl hstat)
    · rfl
  obtain ⟨rating, life, heq⟩ := programmed_eq s f bytes w
  rw [heq, hended, get_wearWarned _ _ _ hblock, State.wearNoted, get_set_other _ _ _ _ (.inl hstat),
    get_set_other _ _ _ _ (.inr (.inr (by decide : 0 + 16 ≤ 32))), get_set_other _ _ _ _ (.inr (.inr (by decide : 16 + 16 ≤ 32))), get_set_same _ _ _ (by decide : 32 + 16 ≤ 64)]

/-! A write-back (R328, R329). -/

/-- The frames of an entry's object that its write-back programs. -/
def DirEnt.dirtyFrames (e : DirEnt) : List Nat := (maskFrames e.mask).filter (fun k => decide (k < e.size))

theorem mem_dirtyFrames {e : DirEnt} (hsize : e.size ≤ 32) {k : Nat} : k ∈ e.dirtyFrames ↔ k < e.size ∧ e.mask / 2 ^ k % 2 = 1 := by
  simp only [DirEnt.dirtyFrames, maskFrames, numsFrom_eq_range', List.mem_filter, List.mem_range'_1, decide_eq_true_eq]
  omega

/-- The dirty frames of slot `n`'s object programmed on flash stack `f`, and counted. -/
def State.writtenOut (s : State) (n f : Nat) (e : DirEnt) (w : WearObs) : State :=
  ((e.dirtyFrames.foldl (fun (u : State) k => u.frameOut n e.frame k) s).programmed f (65536 * e.dirtyFrames.length) w).count Fld.TIER_WBBYTES_COUNT (65536 * e.dirtyFrames.length)

/-- In `t` the dirty frames of slot `n`'s object stand in its flash content, no other byte has changed, and stack `f` reports its wear. -/
structure State.HomeWritten (s : State) (n f : Nat) (e : DirEnt) (w : WearObs) (t : State) : Prop where
  dirty : ∀ k o, k < e.size → e.mask / 2 ^ k % 2 = 1 → o < 65536 → t.rb (frameKey e.frame (65536 * k + o)) = s.rb (s.slotByte n (65536 * k + o))
  rest : ∀ x, x < frameKey e.frame 0 ∨ frameKey e.frame (65536 * e.size) ≤ x → t.rb x = s.rb x
  wear : t.get (Fld.FLS_WEAR_AVGPE f) = w.avgPe % 2 ^ (Fld.FLS_WEAR_AVGPE f).n

section
variable (s : State) (n f : Nat) (e : DirEnt) (w : WearObs)

theorem within_framesOut : Within 12 s (e.dirtyFrames.foldl (fun (u : State) k => u.frameOut n e.frame k) s) := .foldl (.refl ..) fun _ _ => within_frameOut ..

theorem tier_writtenOut : ∃ x, (s.writtenOut n f e w).tier = { s.tier with fstacks := x } := by
  obtain ⟨x, hx⟩ := tier_programmed (e.dirtyFrames.foldl (fun (u : State) k => u.frameOut n e.frame k) s) f (65536 * e.dirtyFrames.length) w
  rw [(within_framesOut s n e).tier_eq] at hx
  exact ⟨x, hx⟩

theorem dirEnt_writtenOut : (s.writtenOut n f e w).dirEnt n = s.dirEnt n := by
  obtain ⟨x, hx⟩ := tier_writtenOut s n f e w
  rw [State.dirEnt, hx]
  rfl

theorem get_writtenOut_evcnt {g : Fld} (hg : g.reg = Reg.TIER_EVCNT) : (s.writtenOut n f e w).get g = s.get g := by
  have hcount : ∀ u : State, (u.count Fld.TIER_WBBYTES_COUNT (65536 * e.dirtyFrames.length)).get g = u.get g := fun u =>
    get_count_other _ _ _ _ (.inl (by rw [hg]; decide))
  rw [State.writtenOut, hcount, get_programmed_below _ _ _ _ (by rw [hg]; decide) (by rw [hg]; decide)]
  exact (within_framesOut s n e).get_eq g

variable {s n f e w}

theorem homeWritten_of_writtenOut {t : State} (hn : n < s.slotCount) (hsize : e.size ≤ 32) (hf : f < 4) (hmem : t.mem = (s.writtenOut n f e w).mem)
    (hwear : t.get (Fld.FLS_WEAR_AVGPE f) = (s.writtenOut n f e w).get (Fld.FLS_WEAR_AVGPE f)) : s.HomeWritten n f e w t := by
  have hframes : ∀ k ∈ e.dirtyFrames, k < 32 := fun k hk => by
    have hlt := ((mem_dirtyFrames hsize).mp hk).1
    omega
  have hfill := (filled_framesOut hn e.frame hframes).of_mem (hmem.trans (within_programmed ..).mem_eq)
  refine ⟨fun k o hk hbit ho => ?_, fun x hx => ?_, ?_⟩
  · refine hfill.inside (65536 * k + o) ?_
    rw [show (65536 * k + o) / 65536 = k by omega, mem_dirtyFrames hsize]
    exact ⟨hk, hbit⟩
  · refine hfill.outside x fun b hb => ?_
    have hlt := ((mem_dirtyFrames hsize).mp hb).1
    simp only [frameKey] at hx ⊢
    omega
  · rw [hwear, State.writtenOut, get_count_other _ _ _ _ (.inl ?_), get_programmed_avgpe _ hf]
    simp only [Fld.FLS_WEAR_AVGPE, Reg.FLS_WEAR, Fld.TIER_WBBYTES_COUNT, Reg.TIER_WBBYTES]
    omega

end

/-- The entry of a slot whose write-back in state CLEANING has committed. -/
def DirEnt.cleaned (e : DirEnt) : DirEnt := { e with st := if e.redirty then .dirty else .clean, mask := e.rewritten, rewritten := 0, redirty := false }

/-- The entry of a pinned slot whose write-back in state EVICTING has committed. -/
def DirEnt.spared (e : DirEnt) : DirEnt := { e with st := .clean, mask := 0, rewritten := 0, redirty := false }

/-- The wear of a flash stack stands apart from the counters of evictions and of re-dirtied frames. -/
theorem avgpe_apart {f : Nat} (hf : f < 4) : TierFld (Fld.FLS_WEAR_AVGPE f) ∧ (Fld.FLS_WEAR_AVGPE f).reg ≠ Reg.TIER_XCNT ∧ (Fld.FLS_WEAR_AVGPE f).reg ≠ Reg.TIER_EVCNT := by
  simp only [TierFld, Fld.FLS_WEAR_AVGPE, Reg.FLS_WEAR, Reg.TIER_OPSTAT, Reg.TIER_EVCNT, Reg.TIER_XCNT]
  omega

/-- The commit of a write-back that met new writes is counted. -/
def State.redirtyCounted (s : State) (e : DirEnt) : State := if e.redirty then s.count Fld.TIER_XCNT_REDIRTY 1 else s

theorem within_redirtyCounted (s : State) (e : DirEnt) : Within 2 s (s.redirtyCounted e) := .ite (within_count ..) (.refl ..)

section
variable {s : State} {n f : Nat} {e : DirEnt} (h : s.dirEnt n = some e) (hfit : s.Fit e.frame f) (w : WearObs)
include h hfit

theorem exec_writeBack_cleaning (hst : e.st = .cleaning) (hop : s.tier.op = none) (hev : e.evreq = false) (hinv : e.invreq = false) :
    exec (.writeBack n w) s = .next (((s.writtenOut n f e w).redirtyCounted e).dirMod n DirEnt.cleaned) := by
  have htier := (within_redirtyCounted (s.writtenOut n f e w) e).tier_eq
  have hent : (((s.writtenOut n f e w).redirtyCounted e).dirMod n DirEnt.cleaned).dirEnt n = some e.cleaned :=
    dirEnt_dirMod_same ((dirEnt_of_tier htier n).trans ((dirEnt_writtenOut s n f e w).trans h)) _
  have hnone : (((s.writtenOut n f e w).redirtyCounted e).dirMod n DirEnt.cleaned).tier.op = none := by
    obtain ⟨x, hx⟩ := tier_writtenOut s n f e w
    show ((s.writtenOut n f e w).redirtyCounted e).tier.op = none
    rw [htier, hx]
    exact hop
  have hflush : ∀ u : State, u.tier.op = none → u.flushCommit n = u := fun u hu => by
    simp only [State.flushCommit, hu]
  rw [← evalRequest_of_none hent hev hinv, ← hflush _ hnone]
  show execWriteBack n w s = _
  simp only [execWriteBack, h, hst, ne_eq, not_true_eq_false, false_and, if_false, fitHome_of_fit hfit, if_true, hfit.1, Option.getD_some]
  rfl

theorem exec_writeBack_evicting (hst : e.st = .evicting) (hp : e.pins = []) :
    exec (.writeBack n w) s = .next ((((s.writtenOut n f e w).dirFree n).count Fld.TIER_EVCNT_WRITTEN 1).opFinished n) := by
  show execWriteBack n w s = _
  simp only [execWriteBack, h, hst, ne_eq, not_true_eq_false, and_false, if_false, fitHome_of_fit hfit, hfit.1, Option.getD_some, hp, List.isEmpty_nil, if_true,
    show ¬ DirSt.evicting = DirSt.cleaning by decide]
  rfl

theorem exec_writeBack_kept (hst : e.st = .evicting) (hp : e.pins ≠ []) :
    exec (.writeBack n w) s = .next (((s.writtenOut n f e w).dirMod n DirEnt.spared).count Fld.TIER_EVCNT_KEPT 1) := by
  have hpinned : e.pins.isEmpty = false := by simpa using hp
  show execWriteBack n w s = _
  simp only [execWriteBack, h, hst, ne_eq, not_true_eq_false, and_false, if_false, fitHome_of_fit hfit, hfit.1, Option.getD_some, hpinned, Bool.false_eq_true,
    show ¬ DirSt.evicting = DirSt.cleaning by decide]
  rfl

variable (hn : n < s.slotCount) (hsize : e.size ≤ 32) (hf : f < 4)
include hn hsize hf

theorem writeBack_cleaning (hst : e.st = .cleaning) (hop : s.tier.op = none) (hev : e.evreq = false) (hinv : e.invreq = false) :
    Answers (exec (.writeBack n w) s) fun t => s.HomeWritten n f e w t ∧ t.dirEnt n = some e.cleaned := by
  have hcount := within_redirtyCounted (s.writtenOut n f e w) e
  have hget : ((s.writtenOut n f e w).redirtyCounted e).get (Fld.FLS_WEAR_AVGPE f) = (s.writtenOut n f e w).get (Fld.FLS_WEAR_AVGPE f) := by
    unfold State.redirtyCounted
    split
    · exact get_count_other _ _ _ _ (.inl (avgpe_apart hf).2.1)
    · rfl
  refine ⟨_, exec_writeBack_cleaning h hfit w hst hop hev hinv, homeWritten_of_writtenOut hn hsize hf hcount.mem_eq hget, ?_⟩
  exact dirEnt_dirMod_same ((dirEnt_of_tier hcount.tier_eq n).trans ((dirEnt_writtenOut s n f e w).trans h)) _

theorem writeBack_evicting (hst : e.st = .evicting) (hp : e.pins = []) :
    Answers (exec (.writeBack n w) s) fun t => s.HomeWritten n f e w t ∧ t.dirEnt n = none ∧ s.Up t Fld.TIER_EVCNT_WRITTEN := by
  refine ⟨_, exec_writeBack_evicting h hfit w hst hp, ?_⟩
  generalize hu : (s.writtenOut n f e w).dirFree n = u
  have hmem : u.mem = (s.writtenOut n f e w).mem := by rw [← hu]; rfl
  have hget : ∀ g, u.get g = (s.writtenOut n f e w).get g := fun g => by rw [← hu]; rfl
  have hend := keepsTier_opFinished (u.count Fld.TIER_EVCNT_WRITTEN 1) n
  refine ⟨homeWritten_of_writtenOut hn hsize hf ((within_opFinished ..).mem_eq.trans hmem) ?_, ?_, ?_⟩
  · rw [hend.fld _ (avgpe_apart hf).1, get_count_other u _ _ 1 (.inl (avgpe_apart hf).2.2), hget]
  · rw [(keepsSlot_opFinished ..).ent, ← hu]
    exact dirEnt_dirFree_same _ n
  · exact (up_count u _ (by decide)).congr ((hget _).trans (get_writtenOut_evcnt s n f e w rfl)).symm (hend.fld _ (by unfold TierFld; decide))

theorem writeBack_kept (hst : e.st = .evicting) (hp : e.pins ≠ []) :
    Answers (exec (.writeBack n w) s) fun t => s.HomeWritten n f e w t ∧ t.dirEnt n = some e.spared ∧ s.Up t Fld.TIER_EVCNT_KEPT := by
  refine ⟨_, exec_writeBack_kept h hfit w hst hp, ?_⟩
  generalize hu : (s.writtenOut n f e w).dirMod n DirEnt.spared = u
  have hget : ∀ g, u.get g = (s.writtenOut n f e w).get g := fun g => by rw [← hu]; rfl
  refine ⟨homeWritten_of_writtenOut hn hsize hf (by rw [← hu]; rfl) ((get_count_other u _ _ 1 (.inl (avgpe_apart hf).2.2)).trans (hget _)), ?_, ?_⟩
  · rw [← hu]
    exact dirEnt_dirMod_same ((dirEnt_writtenOut s n f e w).trans h) _
  · exact (up_count u _ (by decide)).congr ((hget _).trans (get_writtenOut_evcnt s n f e w rfl)).symm rfl

end

/-! CLEANING (R328). -/

/-- The slots that CLEANING takes: those over the watermark, then those that have aged. -/
def State.slotsToClean (s : State) : List Nat :=
  (s.dirtyOldest.take s.overWatermark ++ (s.dirtyOldest.drop s.overWatermark).filter (fun e => decide (max 1 (s.get Fld.TIER_DIRCTL_CLEANAGE) ≤ s.revNow - e.2.wrote))).map (·.1)

/-- The write-back of a slot begun, if its object can be given a home. -/
def State.cleanSlot (s : State) (n : Nat) : State := (s.startWriteBack n .cleaning).getD s

theorem exec_cleaning {s : State} (hcfg : s.get Fld.TIER_STAT_TIERCFG = 2) (hclean : s.flag Fld.TIER_DIRCTL_NOCLEAN = false) :
    exec .cleaning s = .next (s.slotsToClean.foldl State.cleanSlot s) := by
  show execCleaning s = _
  simp only [execCleaning, hcfg, hclean, ne_eq, not_true_eq_false, Bool.false_eq_true, or_self, if_false, State.slotsToClean, List.foldl_map]
  rfl

theorem mem_dirtyOldest {s : State} {x : Nat × DirEnt} : x ∈ s.dirtyOldest ↔ x ∈ s.tier.dir ∧ x.2.st = .dirty ∧ s.canWriteBack x.2 = true := by
  simp [State.dirtyOldest, List.mem_mergeSort]

theorem dirty_of_mem_slotsToClean {s : State} (hdir : srises s.tier.dir = true) {n : Nat} (h : n ∈ s.slotsToClean) : ∃ e, s.dirEnt n = some e ∧ e.st = .dirty := by
  obtain ⟨⟨m, e⟩, hmem, rfl⟩ := List.mem_map.mp h
  have hold : (m, e) ∈ s.dirtyOldest := by
    rcases List.mem_append.mp hmem with htake | hdrop
    · exact List.mem_of_mem_take htake
    · exact List.mem_of_mem_drop (List.mem_filter.mp hdrop).1
  obtain ⟨hin, hst, -⟩ := mem_dirtyOldest.mp hold
  exact ⟨e, sfind_of_mem hdir hin, hst⟩

theorem mem_slotsToClean_of_aged {s : State} {n f : Nat} {e : DirEnt} (h : s.dirEnt n = some e) (hst : e.st = .dirty) (hfit : s.Fit e.frame f)
    (hage : max 1 (s.get Fld.TIER_DIRCTL_CLEANAGE) ≤ s.revNow - e.wrote) : n ∈ s.slotsToClean := by
  have hold : (n, e) ∈ s.dirtyOldest := mem_dirtyOldest.mpr ⟨mem_of_sfind h, hst, by simp [State.canWriteBack, fitHome_of_fit hfit]⟩
  rw [← List.take_append_drop s.overWatermark s.dirtyOldest] at hold
  refine List.mem_map.mpr ⟨(n, e), List.mem_append.mpr ?_, rfl⟩
  exact (List.mem_append.mp hold).imp_right fun hdrop => List.mem_filter.mpr ⟨hdrop, by simpa using hage⟩

theorem keepsSlot_cleanSlot {m n : Nat} (h : m ≠ n) (s : State) : s.KeepsSlot n (s.cleanSlot m) := by
  unfold State.cleanSlot
  cases hw : s.startWriteBack m .cleaning with
  | none => exact .refl n s
  | some t => exact keepsSlot_startWriteBack h hw

/-- A slot already in state CLEANING with nothing rewritten stays as it is. -/
theorem dirEnt_cleanSlot_again {s : State} {n : Nat} {e : DirEnt} (h : s.dirEnt n = some (e.writtenBack .cleaning)) (m : Nat) :
    (s.cleanSlot m).dirEnt n = some (e.writtenBack .cleaning) := by
  unfold State.cleanSlot
  cases hw : s.startWriteBack m .cleaning with
  | none => exact h
  | some t =>
    rw [Option.getD_some, dirEnt_startWriteBack hw, h, Option.map_some]
    split
    · rfl
    · rfl

/-! FILL (R331). -/

theorem exec_fillProgrammed {s : State} {o : TierOp} {fr f : Nat} (hop : s.tier.op = some o) (hpr : o.programming = some fr) (hdir : s.dirOf fr = none) (hfit : s.Fit fr f) (w : WearObs) :
    exec (.fillProgrammed w) s =
      .next ((((((s.wbs (frameKey fr 0) o.staged).cleanse (frameKey fr 0) (65536 * (s.objectOf fr).2)).programmed f (65536 * (s.objectOf fr).2) w).count Fld.TIER_OPSTAT_OBJECTS 1).tmod
        fun t => { t with op := some { o with programming := none, staged := [] }, lostObjs := ndel t.lostObjs fr }).pumpFill.checkTierOp) := by
  show execFillProgrammed w s = _
  simp only [execFillProgrammed, hop, hpr, hdir, Option.any_none, Bool.false_eq_true, if_false, fitHome_of_fit hfit, hfit.1, Option.getD_some]

/-! Evacuation and retirement of a flash stack (R339). -/

theorem exec_evacuation {s : State} {fr f : Nat} (hev : nmem s.tier.evac fr = true) (hhome : sfind s.tier.homes fr = some f) (hout : s.flashIn f = false) (w : WearObs) :
    (∀ g, s.chooseHome (s.objectOf fr).2 = some g → exec (.evacuation fr false w) s =
      .next ((s.tmod fun t => { t with evac := ndel t.evac fr, homes := sinsert t.homes fr g }).programmed g 0 w)) ∧
    exec (.evacuation fr true w) s = .next (s.tmod fun t => { t with evac := ndel t.evac fr, homes := serase t.homes fr, lostObjs := nadd t.lostObjs fr }) := by
  have hhome' : (sfind (s.tmod fun t => { t with evac := ndel t.evac fr }).tier.homes fr).all (fun f => (s.tmod fun t => { t with evac := ndel t.evac fr }).flashIn f) = false := by
    show (sfind s.tier.homes fr).all (fun f => s.flashIn f) = false
    rw [hhome]
    exact hout
  refine ⟨fun g hg => ?_, ?_⟩
  · have hg' : (s.tmod fun t => { t with evac := ndel t.evac fr }).chooseHome (s.objectOf fr).2 = some g := hg
    show execEvacuation fr false w s = _
    simp only [execEvacuation, hev, not_true_eq_false, if_false, hhome', Bool.false_eq_true, hg']
    rfl
  · show execEvacuation fr true w s = _
    simp only [execEvacuation, hev, not_true_eq_false, if_false, hhome', Bool.false_eq_true, if_true]
    rfl

theorem nmem_foldl_nadd {l : List Nat} {x : Nat} (h : x ∈ l) (m : List Nat) : nmem (l.foldl nadd m) x = true :=
  foldl_of_mem (P := fun m => nmem m x = true) (fun m => by simp [nmem_nadd]) (fun m y hm => by simp [nmem_nadd, hm]) h m

/-- A retired flash stack's part of the state before the event: out of service, not eligible, its objects to be evacuated. -/
def State.flashOut (s : State) (k : Nat) : State :=
  (((s.retireUnit 4 (32 + k)).fmod k (fun x => { x with eligible := false })).setFlag (Fld.FLS_STAT_INSERVICE k) false).tmod fun t =>
    { t with evac := ((s.tier.homes.filter (fun h => h.2 == k)).map (fun h => h.1)).foldl nadd t.evac }

theorem exec_flashStackRetired {s : State} {k : Nat} (hk : k < 4) (hret : s.isRetired 4 (32 + k) = false) (hlive : s.live = true) :
    exec (.flashStackRetired k) s = .next (((s.flashOut k).raise .stackRetired (32 + k) 0 0).capChange) := by
  show execFlashStackRetired k s = _
  simp only [execFlashStackRetired, show ¬ 4 ≤ k by omega, hret, hlive, not_true_eq_false, Bool.false_eq_true, or_self, if_false]
  rfl

theorem isRetired_retireUnit (s : State) (cls idx : Nat) : (s.retireUnit cls idx).isRetired cls idx = true :=
  (nmem_nadd ..).trans (by rw [beq_self_eq_true, Bool.or_true])

end Sys2Proof.Machine

open Sys2Proof Sys2Proof.Machine

/-- Settles O34: a write-back's copy goes from the slot's keys to the flash content's, which never meet; a home that is fit stays fit while others are chosen anew, so CLEANING reaches every slot it takes; programs change the stacks' wear alone. -/
theorem writeBackAndHomes : Obligations.WriteBackAndHomes := by
  refine ⟨⟨fun s n f e w h hst hhome hf hin hworn hclean hn hsize => ?writeBack, fun s hdir hcfg hon => ?cleaning⟩,
    fun s o fr f w hop hpr hdir hhome hf hin hworn => ?fill, fun s fr f w hev hhome hout => ⟨fun g hg => ?moved, ?lost⟩, fun s k hk hret hlive => ?retired⟩
  case writeBack =>
    have hfit : s.Fit e.frame f := ⟨hhome, hin, hworn⟩
    rcases hst with hst | hst
    · obtain ⟨hop, hev, hinv⟩ := hclean hst
      obtain ⟨t, hnext, hhome, hent⟩ := writeBack_cleaning h hfit w hn hsize hf hst hop hev hinv
      exact ⟨t, hnext, hhome.dirty, hhome.rest, fun _ => hent, fun hev => (nomatch hst.symm.trans hev), fun hev => (nomatch hst.symm.trans hev), hhome.wear⟩
    · by_cases hp : e.pins = []
      · obtain ⟨t, hnext, hhome, hfree⟩ := writeBack_evicting h hfit w hn hsize hf hst hp
        exact ⟨t, hnext, hhome.dirty, hhome.rest, fun hcl => (nomatch hst.symm.trans hcl), fun _ _ => hfree, fun _ hne => absurd hp hne, hhome.wear⟩
      · obtain ⟨t, hnext, hhome, hkept⟩ := writeBack_kept h hfit w hn hsize hf hst hp
        exact ⟨t, hnext, hhome.dirty, hhome.rest, fun hcl => (nomatch hst.symm.trans hcl), fun _ he => absurd he hp, fun _ _ => hkept, hhome.wear⟩
  case cleaning =>
    have hexec := exec_cleaning hcfg hon
    refine ⟨_, hexec, fun n e f h hst hhome hin hworn hage => ?_, fun n e h hst => ?_, ?_⟩
    · have hfit : s.Fit e.frame f := ⟨hhome, hin, hworn⟩
      refine foldl_of_mem_from (A := fun t : State => t.dirEnt n = some e ∧ t.Fit e.frame f) (B := fun t : State => t.dirEnt n = some (e.writtenBack .cleaning))
        (fun t ht => ?_) (fun t m _ hm ht => ?_) (fun t m _ ht => dirEnt_cleanSlot_again ht m) (mem_slotsToClean_of_aged h hst hfit hage) ⟨h, hfit⟩
      · rw [State.cleanSlot, startWriteBack_of_fit ht.1 ht.2]
        exact dirEnt_dirMod_same ht.1 _
      · have hkeep := keepsSlot_cleanSlot hm t
        exact ⟨hkeep.ent.trans ht.1, hkeep.fit _ _ ht.2⟩
    · refine List.foldlRecOn (motive := fun t : State => t.dirEnt n = some e) _ _ h fun t ht m hm => ?_
      obtain ⟨x, hx, hdirty⟩ := dirty_of_mem_slotsToClean hdir hm
      have hne : m ≠ n := by
        rintro rfl
        obtain rfl := Option.some.inj (h.symm.trans hx)
        exact hst hdirty
      exact (keepsSlot_cleanSlot hne t).ent.trans ht
    · have hframe : Within 32768 s (nextOr s (exec .cleaning s)) := within_execCleaning s
      rw [hexec] at hframe
      exact hframe.sameBut
  case fill =>
    have hfit : s.Fit fr f := ⟨hhome, hin, hworn⟩
    refine ⟨_, exec_fillProgrammed hop hpr hdir hfit w, ?_⟩
    generalize hu : (s.wbs (frameKey fr 0) o.staged).cleanse (frameKey fr 0) (65536 * (s.objectOf fr).2) = u
    generalize hv : ((u.programmed f (65536 * (s.objectOf fr).2) w).count Fld.TIER_OPSTAT_OBJECTS 1).tmod _ = v
    have hrb : ∀ x, v.pumpFill.checkTierOp.rb x = (s.wbs (frameKey fr 0) o.staged).rb x := fun x => by
      rw [(within_checkTierOp ..).rb_eq, (within_pumpFill ..).rb_eq, ← hv]
      exact ((within_programmed u f _ w).rb_eq x).trans (by rw [← hu]; rfl)
    refine ⟨fun i hi => ?_, fun x hx => ?_, ?_⟩
    · have hkey : frameKey fr i = frameKey fr 0 + i := by simp [frameKey]
      rw [hrb, hkey, rb_wbs_same s _ _ i hi]
    · rw [hrb, rb_wbs_other s _ _ hx]
    · have hup := up_count (u.programmed f (65536 * (s.objectOf fr).2) w) Fld.TIER_OPSTAT_OBJECTS (by decide)
      refine hup.congr ?_ ?_
      · rw [get_programmed_below _ _ _ _ (by decide) (by decide), ← hu]
        rfl
      · rw [get_checkTierOp _ ⟨by decide, by decide⟩ (.inr (by decide)), (within_pumpFill ..).get_eq, ← hv]
        rfl
  case moved =>
    refine ⟨_, (exec_evacuation hev hhome hout w).1 g hg, ?_⟩
    obtain ⟨x, hx⟩ := tier_programmed (s.tmod fun t => { t with evac := ndel t.evac fr, homes := sinsert t.homes fr g }) g 0 w
    rw [hx]
    exact ⟨sfind_sinsert_same .., (nmem_ndel ..).trans (by simp), (within_programmed ..).mem_eq⟩
  case lost =>
    refine ⟨_, (exec_evacuation hev hhome hout w).2, sfind_serase_same .., ?_, (nmem_ndel ..).trans (by simp), Within.sameBut (within_tmod ..)⟩
    exact (nmem_nadd ..).trans (by rw [beq_self_eq_true, Bool.or_true])
  case retired =>
    have hret' : (((s.flashOut k).raise .stackRetired (32 + k) 0 0).capChange).isRetired 4 (32 + k) = true := by
      rw [State.isRetired, (within_capChange _).retired_eq, (within_raise ..).retired_eq]
      exact isRetired_retireUnit s 4 (32 + k)
    have hblock : BlockReg (Fld.FLS_STAT_INSERVICE k).reg := by
      simp only [BlockReg, Fld.FLS_STAT_INSERVICE, Reg.FLS_STAT]
      omega
    have hcap : (Fld.FLS_STAT_INSERVICE k).reg ≠ Fld.CAP_GEN_GEN.reg := by
      simp only [Fld.FLS_STAT_INSERVICE, Reg.FLS_STAT, Fld.CAP_GEN_GEN, Reg.CAP_GEN]
      omega
    refine ⟨_, exec_flashStackRetired hk hret hlive, hret', ?_, ?_, fun fr hfr => ?_, ?_⟩
    · have hflag := flag_setFlag_same ((s.retireUnit 4 (32 + k)).fmod k (fun x => { x with eligible := false })) (Fld.FLS_STAT_INSERVICE k) false (by decide : 0 + 1 ≤ 64) (by decide : 0 < 1)
      rw [State.flag, State.capChange, State.wrap, get_set_other _ _ _ _ (.inl hcap), get_raise_block _ _ _ _ _ hblock]
      exact hflag
    · rw [State.takesAlloc, State.flashIn, hret']
      rfl
    · have htier : (((s.flashOut k).raise .stackRetired (32 + k) 0 0).capChange).tier = (s.flashOut k).tier := (within_capChange _).tier_eq.trans (within_raise ..).tier_eq
      rw [htier]
      exact nmem_foldl_nadd (List.mem_map.mpr ⟨(fr, k), List.mem_filter.mpr ⟨hfr, by simp⟩, rfl⟩) _
    · exact (within_capChange _).mem_eq.trans (within_raise ..).mem_eq

end

section
/-! PROOFS. Requested tier operations (R330, R331): what a write of TIER_OPCTL begins, and what each operation does to the slots of its range. -/

set_option Elab.async false

namespace Sys2Proof.Machine

/-! The write of TIER_OPCTL (R48, R49, R561). -/

theorem unlatch_eq (s : State) (src : RegSrc) : ∃ g, s.unlatch src = { s with mgmt := g } := by
  unfold State.unlatch
  split
  · exact ⟨_, rfl⟩
  · exact ⟨s.mgmt, rfl⟩

theorem regSpecAt_opCtl : (regSpecAt Reg.TIER_OPCTL).map (fun x => (x.2, x.1.fields.any (fun f => f.acc.writable))) = some (Reg.TIER_OPCTL, true) := by
  decide +kernel

theorem place_opCtl {s : State} (hu : s.unavailable Reg.TIER_OPCTL = false) :
    ∃ r, s.place Reg.TIER_OPCTL = .at Reg.TIER_OPCTL r ∧ r.fields.any (fun f => f.acc.writable) = true := by
  obtain ⟨⟨r, b⟩, hr, heq⟩ := Option.map_eq_some_iff.mp regSpecAt_opCtl
  obtain ⟨rfl, hw⟩ := Prod.mk.inj heq
  have hlisted : s.listedAt Reg.TIER_OPCTL = some (Reg.TIER_OPCTL, r) := by
    unfold State.listedAt
    rw [if_neg (by decide), if_neg (by decide), if_neg (by decide), hr]
    rfl
  refine ⟨r, ?_, hw⟩
  unfold State.place
  rw [if_neg (by decide), hlisted]
  simp only [hu, Bool.false_eq_true, if_false]

theorem regEffect_opCtl (s : State) (r : RegSpec) (m d : Word) : (s.regEffect Reg.TIER_OPCTL r m d).1 = (s.opCtlWrite d).1 := rfl

/-- The field a write carries in its low bits. -/
theorem bits_withField (v : BitVec 32) {n x : Nat} (hn : n ≤ 32) (hx : x < 2 ^ n) : bits (BitVec.ofNat 64 (withField v 0 n x).toNat) 0 n = x := by
  have hput := bits_putBits_same (BitVec.ofNat 64 v.toNat) 0 n x (by omega)
  have hlow : ∀ w : Word, bits w 0 n = w.toNat % 2 ^ n := fun w => by
    unfold bits
    rw [BitVec.extractLsb'_toNat, Nat.shiftRight_zero]
  rw [bits_ofNat _ _ _ (by omega), withField, BitVec.toNat_ofNat, Nat.pow_zero, Nat.div_one, Nat.mod_mod_of_dvd _ (Nat.pow_dvd_pow 2 hn), ← hlow, hput, Nat.mod_eq_of_lt hx]

/-- A write of operation `op` to TIER_OPCTL begins it, and is recorded. -/
theorem write32_opCtl {s : State} (hpor : s.power.porst = false) (hu : s.unavailable Reg.TIER_OPCTL = false) (src : RegSrc) (v : BitVec 32) {op : Nat} (hop : op < 6) :
    ∃ g c, s.write32 src Reg.TIER_OPCTL (withField v 0 4 op) = (({ s with mgmt := g } : State).tierOp op).record_ c := by
  obtain ⟨g, hg⟩ := unlatch_eq s src
  obtain ⟨r, hplace, hw⟩ := place_opCtl hu
  obtain ⟨c, hc⟩ := writeOne_word ((place_unlatch s src _).trans hplace) hw rfl src (withField v 0 4 op)
  have hbits : bits (BitVec.ofNat 64 (withField v 0 4 op).toNat) 0 4 = op := bits_withField v (by decide) (by omega)
  refine ⟨g, c, ?_⟩
  rw [State.write32, State.write, if_neg (by simp [hpor]), serialWrite_word s src rfl, hc, regEffect_opCtl, State.opCtlWrite]
  simp only [hbits, show ¬ 6 ≤ op by omega, if_false, hg]

theorem answers_opCtl {s : State} {i : Instr} {src : RegSrc} {v : BitVec 32} {op : Nat} {P : State → Prop}
    (hexec : exec i s = .next (s.write32 src Reg.TIER_OPCTL (withField v 0 4 op))) (hpor : s.power.porst = false) (hu : s.unavailable Reg.TIER_OPCTL = false) (hop : op < 6)
    (h : ∀ g c, P ((({ s with mgmt := g } : State).tierOp op).record_ c)) : Answers (exec i s) P := by
  obtain ⟨g, c, hwrite⟩ := write32_opCtl hpor hu src v hop
  exact ⟨_, hexec.trans (congrArg _ hwrite), h g c⟩

theorem get_record (s : State) (c : Change) {f : Fld} (h : f.reg ≠ Reg.MGT_CHJNEXT) : (s.record_ c).get f = s.get f := by
  rw [State.get, State.get, reg_record _ _ h]

/-! The range of an operation, and the operation begun. -/

/-- The first frame of the range that TIER_OPBASE names. -/
def State.opLo (s : State) : Nat := if (s.get Fld.TIER_OPBASE_NFRAMES == 0) = true then 0 else s.get Fld.TIER_OPBASE_FRAME

/-- The end of that range. -/
def State.opHi (s : State) : Nat := if (s.get Fld.TIER_OPBASE_NFRAMES == 0) = true then s.frameTop else s.opLo + s.get Fld.TIER_OPBASE_NFRAMES

/-- No operation runs, and the range is one of whole objects. -/
structure State.OpReady (s : State) : Prop where
  idle : s.tier.op = none
  top : s.opHi ≤ s.frameTop
  first : s.onBoundary s.opLo = true
  last : s.onBoundary s.opHi = true

/-- The entries of the objects in the range. -/
def State.opHere (s : State) : List (Nat × DirEnt) :=
  s.tier.dir.filter fun e => e.2.st != .relocated && decide (s.opLo ≤ e.2.frame) && decide (e.2.frame < s.opHi)

theorem mem_opHere {s : State} {n : Nat} {e : DirEnt} (h : s.dirEnt n = some e) (hlo : s.opLo ≤ e.frame) (hhi : e.frame < s.opHi) (hst : e.st ≠ .relocated) : (n, e) ∈ s.opHere :=
  List.mem_filter.mpr ⟨mem_of_sfind h, by simp [hlo, hhi, hst]⟩

/-- Operation `op` reported as running. -/
def State.opNoted (s : State) (op : Nat) : State := ((s.set Fld.TIER_OPSTAT_LAST op).set Fld.TIER_OPSTAT_CODE 7).set Fld.TIER_OPSTAT_OBJECTS 0

/-- Operation `op` begun on the entries `mine` and the objects `todo`. -/
def State.opBegun (s : State) (op : Nat) (mine : List (Nat × DirEnt)) (todo : List Nat) : State :=
  (s.opNoted op).tmod fun t =>
    { t with op := some ⟨op, s.opLo, s.opHi - s.opLo, mine.map (fun e => (e.1, e.2.st == .dirty)), todo, none, [], false, false⟩ }

section
variable (s : State) (op : Nat) (mine : List (Nat × DirEnt)) (todo : List Nat)

theorem get_opBegun_last (hop : op < 16) : (s.opBegun op mine todo).get Fld.TIER_OPSTAT_LAST = op := by
  show (s.opNoted op).get Fld.TIER_OPSTAT_LAST = op
  rw [State.opNoted, get_set_other _ _ _ _ (by decide), get_set_other _ _ _ _ (by decide), get_set_same _ _ _ (by decide)]
  exact Nat.mod_eq_of_lt hop

theorem get_opBegun_code : (s.opBegun op mine todo).get Fld.TIER_OPSTAT_CODE = 7 := by
  show (s.opNoted op).get Fld.TIER_OPSTAT_CODE = 7
  rw [State.opNoted, get_set_other _ _ _ _ (by decide), get_set_same _ _ _ (by decide)]
  rfl

theorem get_opBegun_other {f : Fld} (h : f.reg ≠ Reg.TIER_OPSTAT) : (s.opBegun op mine todo).get f = s.get f := by
  show (s.opNoted op).get f = s.get f
  rw [State.opNoted, get_set_other _ _ _ _ (.inl h), get_set_other _ _ _ _ (.inl h), get_set_other _ _ _ _ (.inl h)]

end

/-- The entries of the range that a FLUSH waits for. -/
def State.opDirty (s : State) : List (Nat × DirEnt) := s.opHere.filter fun e => e.2.st == .dirty || e.2.st == .cleaning

theorem State.OpReady.inRange {s : State} (h : s.OpReady) : ¬ (s.frameTop < s.opHi ∨ ¬ s.onBoundary s.opLo = true ∨ ¬ s.onBoundary s.opHi = true) := by
  rintro (hover | hb | hb)
  · exact absurd h.top (Nat.not_le.mpr hover)
  · exact hb h.first
  · exact hb h.last

section
variable {s : State} (h : s.OpReady)
include h

theorem tierOp_flush (hcfg : s.get Fld.TIER_STAT_TIERCFG = 2) : s.tierOp 1 = ((s.opDirty.map (·.1)).foldl State.flushSlot (s.opBegun 1 s.opDirty [])).checkTierOp := by
  simp only [State.tierOp, h.idle]
  exact (if_pos (by decide)).trans ((if_neg (by simp [hcfg])).trans ((if_neg h.inRange).trans rfl))

theorem tierOp_evict (hcfg : s.get Fld.TIER_STAT_TIERCFG ≠ 0) : s.tierOp 2 = (s.opBegun 2 s.opHere []).requestRange false (s.opHere.map (·.1)) := by
  simp only [State.tierOp, h.idle]
  exact (if_pos (by decide)).trans ((if_neg (by simp [hcfg])).trans ((if_neg h.inRange).trans rfl))

theorem tierOp_invalidate (hcfg : s.get Fld.TIER_STAT_TIERCFG ≠ 0) : s.tierOp 3 = (s.opBegun 3 s.opHere []).requestRange true (s.opHere.map (·.1)) := by
  simp only [State.tierOp, h.idle]
  exact (if_pos (by decide)).trans ((if_neg (by simp [hcfg])).trans ((if_neg h.inRange).trans rfl))

theorem tierOp_fill (hcfg : s.get Fld.TIER_STAT_TIERCFG = 1) :
    s.tierOp 4 = (s.opBegun 4 [] ((s.opNoted 4).objectsIn s.opHi (s.opHi - s.opLo) s.opLo)).pumpFill.checkTierOp := by
  simp only [State.tierOp, h.idle]
  exact (if_pos (by decide)).trans ((if_neg (by simp [hcfg])).trans ((if_neg h.inRange).trans rfl))

end

/-! FLUSH (R331). -/

theorem keepsTier_flushSlot (s : State) (n : Nat) : s.KeepsTier (s.flushSlot n) := by
  unfold State.flushSlot
  split
  · exact .refl s
  · refine .ite (.refl s) ?_
    split
    · next hw => exact keepsTier_startWriteBack hw
    · exact keepsTier_opFailed ..

section
variable {s : State} (h : s.OpReady) (hcfg : s.get Fld.TIER_STAT_TIERCFG = 2)
include h hcfg

theorem last_flush : (s.tierOp 1).get Fld.TIER_OPSTAT_LAST = 1 := by
  have hkeep : ∀ (l : List Nat) (t : State), t.KeepsTier (l.foldl State.flushSlot t) := fun l t => .foldl l t keepsTier_flushSlot
  rw [tierOp_flush h hcfg, ((hkeep _ _).trans (keepsTier_checkTierOp _)).fld _ (by unfold TierFld; decide)]
  exact get_opBegun_last s 1 _ _ (by decide)

theorem dirEnt_flush {n f : Nat} {e : DirEnt} (hent : s.dirEnt n = some e) (hlo : s.opLo ≤ e.frame) (hhi : e.frame < s.opHi) (hst : e.st = .dirty) (hfit : s.Fit e.frame f) :
    (s.tierOp 1).dirEnt n = some (e.writtenBack .cleaning) := by
  have hmem : n ∈ s.opDirty.map (·.1) :=
    List.mem_map.mpr ⟨(n, e), List.mem_filter.mpr ⟨mem_opHere hent hlo hhi (by rw [hst]; decide), by simp [hst]⟩, rfl⟩
  rw [tierOp_flush h hcfg, dirEnt_of_tierIdle (tierIdle_checkTierOp _)]
  refine foldl_of_mem_from (A := fun t : State => (s.opBegun 1 s.opDirty []).KeepsSlot n t) (B := fun t : State => t.dirEnt n = some (e.writtenBack .cleaning))
    (fun t ht => ?_) (fun t m _ hm ht => ht.trans (keepsSlot_flushSlot hm t)) (fun t m _ ht => ?_) hmem (.refl n _)
  · have hent' : t.dirEnt n = some e := ht.ent.trans hent
    rw [flushSlot_of_fit hent' hst (ht.fit _ _ hfit)]
    exact dirEnt_dirMod_same hent' _
  · by_cases hm : m = n
    · subst hm
      rwa [flushSlot_of_other ht (show DirSt.cleaning ≠ .dirty by decide)]
    · exact (keepsSlot_flushSlot hm t).ent.trans ht

end

/-! EVICT and INVALIDATE (R329, R331). -/

/-- An entry of which an eviction, or an invalidation, has been requested. -/
def DirEnt.requested (inv : Bool) (e : DirEnt) : DirEnt := if inv then { e with invreq := true } else { e with evreq := true }

/-- A request on slot `n` noted, and counted where it waits. -/
def State.requestSlot (inv : Bool) (s : State) (n : Nat) : State :=
  (if s.cmdDeferred n then s.count Fld.TIER_XCNT_DEFERRED 1 else s).dirMod n (DirEnt.requested inv)

theorem requestRange_eq (s : State) (inv : Bool) (ns : List Nat) : s.requestRange inv ns = (ns.foldl State.evalRequest (ns.foldl (State.requestSlot inv) s)).checkTierOp := rfl

theorem requested_requested (inv : Bool) (e : DirEnt) : (e.requested inv).requested inv = e.requested inv := by
  cases inv <;> rfl

theorem dirEnt_requestSlot (inv : Bool) (s : State) (m n : Nat) : (s.requestSlot inv m).dirEnt n = (s.dirEnt n).map fun e => if n = m then e.requested inv else e := by
  have hcount : (if s.cmdDeferred m then s.count Fld.TIER_XCNT_DEFERRED 1 else s).dirEnt n = s.dirEnt n := by
    split
    · rfl
    · rfl
  rw [State.requestSlot, dirEnt_dirMod, hcount]

theorem fit_requestSlot (inv : Bool) {s : State} {fr f : Nat} (h : s.Fit fr f) (m : Nat) : (s.requestSlot inv m).Fit fr f := by
  unfold State.requestSlot
  split
  · exact h
  · exact h

theorem get_requestSlot (inv : Bool) (s : State) (m : Nat) {f : Fld} (h : f.reg ≠ Reg.TIER_XCNT) : (s.requestSlot inv m).get f = s.get f := by
  unfold State.requestSlot
  split
  · exact get_count_other s _ f 1 (.inl h)
  · rfl

/-- Every request of a range is noted before the first is carried out. -/
theorem requests_noted (inv : Bool) {s : State} {ns : List Nat} {n : Nat} {e : DirEnt} (hn : n ∈ ns) (h : s.dirEnt n = some e) :
    (ns.foldl (State.requestSlot inv) s).dirEnt n = some (e.requested inv) ∧ ∀ fr f, s.Fit fr f → (ns.foldl (State.requestSlot inv) s).Fit fr f := by
  refine ⟨?_, fun fr f hfit => List.foldlRecOn (motive := fun t : State => t.Fit fr f) ns _ hfit fun t ht m _ => fit_requestSlot inv ht m⟩
  refine foldl_of_mem_from (A := fun t : State => t.dirEnt n = some e) (B := fun t : State => t.dirEnt n = some (e.requested inv))
    (fun t ht => ?_) (fun t m _ hm ht => ?_) (fun t m _ ht => ?_) hn h
  · rw [dirEnt_requestSlot, ht, Option.map_some, if_pos rfl]
  · rw [dirEnt_requestSlot, ht, Option.map_some, if_neg hm.symm]
  · rw [dirEnt_requestSlot, ht, Option.map_some]
    split
    · rw [requested_requested]
    · rfl

/-- What a request makes of its slot's entry, and leaves there when it is evaluated again, stands there after the whole range's requests. -/
theorem dirEnt_requestRange {inv : Bool} {s : State} {ns : List Nat} {n : Nat} {e : DirEnt} {x : Option DirEnt} (hn : n ∈ ns) (h : s.dirEnt n = some e)
    (made : ∀ t : State, t.dirEnt n = some (e.requested inv) → (∀ f, s.Fit e.frame f → t.Fit e.frame f) → (t.evalRequest n).dirEnt n = x)
    (again : ∀ t : State, t.dirEnt n = x → (t.evalRequest n).dirEnt n = x) : (s.requestRange inv ns).dirEnt n = x := by
  obtain ⟨hnoted, hfit⟩ := requests_noted inv hn h
  rw [requestRange_eq, dirEnt_of_tierIdle (tierIdle_checkTierOp _)]
  refine foldl_of_mem_from (A := fun t : State => (ns.foldl (State.requestSlot inv) s).KeepsSlot n t) (B := fun t : State => t.dirEnt n = x)
    (fun t ht => made t (ht.ent.trans hnoted) fun f hf => ht.fit _ _ (hfit _ _ hf)) (fun t m _ hm ht => ht.trans (keepsSlot_evalRequest hm t)) (fun t m _ ht => ?_) hn (.refl n _)
  by_cases hm : m = n
  · subst hm
    exact again t ht
  · exact (keepsSlot_evalRequest hm t).ent.trans ht

/-- A request on a pinned slot stays with it. -/
theorem dirEnt_requestRange_pinned (inv : Bool) {s : State} {ns : List Nat} {n : Nat} {e : DirEnt} (hn : n ∈ ns) (h : s.dirEnt n = some e) (hp : e.pins ≠ []) :
    (s.requestRange inv ns).dirEnt n = some (e.requested inv) := by
  have hp' : (e.requested inv).pins ≠ [] := by
    cases inv
    · exact hp
    · exact hp
  have hwait : ∀ t : State, t.dirEnt n = some (e.requested inv) → (t.evalRequest n).dirEnt n = some (e.requested inv) := fun t ht => by
    rw [evalRequest_of_pinned ht hp']
    exact ht
  exact dirEnt_requestRange hn h (fun t ht _ => hwait t ht) hwait

theorem last_requestRange (inv : Bool) (s : State) (ns : List Nat) : (s.requestRange inv ns).get Fld.TIER_OPSTAT_LAST = s.get Fld.TIER_OPSTAT_LAST := by
  have hkeep : ∀ t : State, t.KeepsTier (ns.foldl State.evalRequest t) := fun t => .foldl ns t keepsTier_evalRequest
  rw [requestRange_eq, ((hkeep _).trans (keepsTier_checkTierOp _)).fld _ (by unfold TierFld; decide)]
  exact List.foldlRecOn (motive := fun t : State => t.get Fld.TIER_OPSTAT_LAST = s.get Fld.TIER_OPSTAT_LAST) ns _ rfl
    fun t ht m _ => (get_requestSlot inv t m (by decide)).trans ht

section
variable {s : State} (h : s.OpReady) (hcfg : s.get Fld.TIER_STAT_TIERCFG ≠ 0)
include h hcfg

theorem last_evict : (s.tierOp 2).get Fld.TIER_OPSTAT_LAST = 2 := by
  rw [tierOp_evict h hcfg, last_requestRange]
  exact get_opBegun_last s 2 _ _ (by decide)

theorem last_invalidate : (s.tierOp 3).get Fld.TIER_OPSTAT_LAST = 3 := by
  rw [tierOp_invalidate h hcfg, last_requestRange]
  exact get_opBegun_last s 3 _ _ (by decide)

variable {n : Nat} {e : DirEnt} (hent : s.dirEnt n = some e) (hlo : s.opLo ≤ e.frame) (hhi : e.frame < s.opHi)
include hent hlo hhi

theorem dirEnt_evict_clean (hst : e.st = .clean) (hp : e.pins = []) : (s.tierOp 2).dirEnt n = none := by
  rw [tierOp_evict h hcfg]
  exact dirEnt_requestRange (List.mem_map_of_mem (mem_opHere hent hlo hhi (by rw [hst]; decide))) hent
    (fun t ht _ => dirEnt_evalRequest_evicted ht hp hst rfl) fun t ht => dirEnt_evalRequest_none ht n

theorem dirEnt_evict_dirty {f : Nat} (hst : e.st = .dirty) (hp : e.pins = []) (hinv : e.invreq = false) (hfit : s.Fit e.frame f) :
    (s.tierOp 2).dirEnt n = some ((e.requested false).writtenBack .evicting) := by
  rw [tierOp_evict h hcfg]
  refine dirEnt_requestRange (List.mem_map_of_mem (mem_opHere hent hlo hhi (by rw [hst]; decide))) hent (fun t ht hfits => ?_) fun t ht => ?_
  · rw [evalRequest_of_dirty ht hp hst rfl hinv (hfits f hfit)]
    exact dirEnt_dirMod_same ht _
  · rw [evalRequest_of_evicting ht rfl hinv]
    exact ht

theorem dirEnt_evict_pinned (hp : e.pins ≠ []) (hst : e.st ≠ .relocated) : (s.tierOp 2).dirEnt n = some (e.requested false) := by
  rw [tierOp_evict h hcfg]
  exact dirEnt_requestRange_pinned false (List.mem_map_of_mem (mem_opHere hent hlo hhi hst)) hent hp

theorem dirEnt_invalidate_unpinned (hp : e.pins = []) (hpr : e.st ≠ .promoting) (hst : e.st ≠ .relocated) : (s.tierOp 3).dirEnt n = none := by
  rw [tierOp_invalidate h hcfg]
  exact dirEnt_requestRange (List.mem_map_of_mem (mem_opHere hent hlo hhi hst)) hent
    (fun t ht _ => dirEnt_evalRequest_invalidated ht hp hpr rfl) fun t ht => dirEnt_evalRequest_none ht n

theorem dirEnt_invalidate_pinned (hp : e.pins ≠ []) (hst : e.st ≠ .relocated) : (s.tierOp 3).dirEnt n = some (e.requested true) := by
  rw [tierOp_invalidate h hcfg]
  exact dirEnt_requestRange_pinned true (List.mem_map_of_mem (mem_opHere hent hlo hhi hst)) hent hp

end

/-! FILL (R331). -/

/-- No read for a FILL is outstanding. -/
def State.NoFillRead (s : State) : Prop := ∀ i r, (i, r) ∈ s.host.reads → ∀ a b c, r.kind ≠ .fill a b c

/-- The read of a FILL's first piece of object `fr` under tag `tag`. -/
def State.fillAsked (s : State) (fr tag addr n : Nat) : State :=
  ({ s with host := { s.host with reads := sinsert s.host.reads tag ⟨.fill fr 0 n, addr, n⟩ } } : State).tx (.read tag addr n)

theorem pumpFill_of_todo {s : State} {o : TierOp} {fr tag : Nat} {r : List Nat} (hop : s.tier.op = some o) (htodo : o.todo = fr :: r) (hpr : o.programming = none) (hst : o.staged = [])
    (hidle : s.NoFillRead) (hopen : s.hostOpen = true) (hlive : s.live = true) (hlim : s.host.reads.length < s.readLimit) (htag : s.freeTag = some tag) :
    s.pumpFill = s.fillAsked fr tag (4096 * s.get Fld.TIER_FILLSRC_ADDR + 65536 * (fr - o.frame)) (min 4096 (65536 * (s.objectOf fr).2)) := by
  simp only [State.pumpFill, hop, htodo]
  refine (if_neg ?_).trans ?_
  · rintro (hbusy | hprog)
    · obtain ⟨⟨i, q⟩, hmem, hk⟩ := List.any_eq_true.mp hbusy
      split at hk
      · next hfill => exact hidle i q hmem _ _ _ hfill
      · cases hk
    · rw [hpr] at hprog
      cases hprog
  · simp only [hst, State.issueRead, hopen, hlive, not_true_eq_false, show ¬ s.readLimit ≤ s.host.reads.length by omega, or_self, if_false, htag, Option.map_some, Option.getD_some,
      List.length_nil, Nat.add_zero, Nat.sub_zero]
    rfl

/-- An operation with objects left to do goes on. -/
theorem checkTierOp_of_todo {s : State} {o : TierOp} (hop : s.tier.op = some o) (htodo : o.todo ≠ []) : s.checkTierOp = s := by
  simp only [State.checkTierOp, hop, htodo, false_and, and_false, if_false]

theorem objectsIn_first {s : State} (hb : s.onBoundary s.opLo = true) (hlt : s.opLo < s.opHi) (htop : s.opHi ≤ s.frameTop) :
    ∃ r, (s.opNoted 4).objectsIn s.opHi (s.opHi - s.opLo) s.opLo = s.opLo :: r := by
  have hfirst : ((s.opNoted 4).objectOf s.opLo).1 = s.opLo := by
    show (s.objectOf s.opLo).1 = s.opLo
    have hne : s.opLo ≠ s.frameTop := by omega
    simpa [State.onBoundary, hne] using hb
  obtain ⟨k, hk⟩ : ∃ k, s.opHi - s.opLo = k + 1 := ⟨s.opHi - s.opLo - 1, by omega⟩
  rw [hk, State.objectsIn, if_neg (by omega), hfirst]
  exact ⟨_, rfl⟩

theorem tierOp_fill_asks {s : State} {tag : Nat} (h : s.OpReady) (hcfg : s.get Fld.TIER_STAT_TIERCFG = 1) (hlt : s.opLo < s.opHi) (hopen : s.hostOpen = true) (hlive : s.live = true)
    (hlim : s.host.reads.length < s.readLimit) (htag : s.freeTag = some tag) (hidle : s.NoFillRead) :
    ∃ todo, s.tierOp 4 = (s.opBegun 4 [] todo).fillAsked s.opLo tag (4096 * s.get Fld.TIER_FILLSRC_ADDR) (min 4096 (65536 * (s.objectOf s.opLo).2)) := by
  obtain ⟨r, htodo⟩ := objectsIn_first h.first hlt h.top
  rw [tierOp_fill h hcfg, htodo]
  refine ⟨s.opLo :: r, ?_⟩
  generalize hu : s.opBegun 4 [] (s.opLo :: r) = u
  have hget : ∀ f : Fld, f.reg ≠ Reg.TIER_OPSTAT → u.get f = s.get f := fun f hf => by
    rw [← hu]
    exact get_opBegun_other s 4 _ _ hf
  have hopen' : u.hostOpen = true := by
    simp only [State.hostOpen, State.flag, hget Fld.HIF_STAT_LINKUP (by decide), hget Fld.HIF_STAT_BME (by decide), hget Fld.HIF_STAT_D3 (by decide)]
    rw [← hu]
    exact hopen
  have hlim' : u.host.reads.length < u.readLimit := by
    rw [State.readLimit, hget Fld.HIF_TAGS_LIMIT (by decide), ← hu]
    exact hlim
  have hop : u.tier.op = some ⟨4, s.opLo, s.opHi - s.opLo, [], s.opLo :: r, none, [], false, false⟩ := by
    rw [← hu]
    rfl
  have hobj : u.objectOf s.opLo = s.objectOf s.opLo := by
    rw [← hu]
    rfl
  have hpump := pumpFill_of_todo hop rfl rfl rfl (tag := tag) (by rw [← hu]; exact hidle) hopen' (by rw [← hu]; exact hlive) hlim' (by rw [← hu]; exact htag)
  rw [hpump, checkTierOp_of_todo (show (u.fillAsked _ _ _ _).tier.op = _ from hop) (List.cons_ne_nil _ _), hget Fld.TIER_FILLSRC_ADDR (by decide), hobj]
  simp only [Nat.sub_self, Nat.mul_zero, Nat.add_zero]

/-! ABORT (R331). -/

/-- No write-back of the operation's slots is under way. -/
def State.NothingUnderWay (s : State) (o : TierOp) : Prop :=
  ∀ n b, (n, b) ∈ o.slots → ∀ e, s.dirEnt n = some e → e.st ≠ .cleaning ∧ e.st ≠ .evicting

theorem tierOp_abort {s : State} {o : TierOp} (hop : s.tier.op = some o) (hpr : o.programming = none) (hidle : s.NothingUnderWay o) : ∃ u : State, s.tierOp 5 = u.endTierOp 6 := by
  have hunder : ∀ x ∈ o.slots, ((s.dirEnt x.1).any fun e => e.st == .cleaning || e.st == .evicting) = false := fun ⟨n, b⟩ hmem => by
    cases hent : s.dirEnt n with
    | none => rfl
    | some e =>
      obtain ⟨hcl, hev⟩ := hidle n b hmem e hent
      simp [hcl, hev]
  have hnone : o.slots.filter (fun x => (s.dirEnt x.1).any fun e => e.st == .cleaning || e.st == .evicting) = [] :=
    List.filter_eq_nil_iff.mpr fun x hx => by simp [hunder x hx]
  simp only [State.tierOp, hop, State.abortTierOp, hnone, State.checkTierOp, State.tmod, hpr, and_self, if_true]
  exact ⟨_, rfl⟩

theorem endTierOp_ended (u : State) {code : Nat} (hcode : code < 256) :
    (u.endTierOp code).tier.op = none ∧ (u.endTierOp code).get Fld.TIER_OPSTAT_CODE = code ∧ bit ((u.endTierOp code).reg Reg.GLB_EVTSUM) Event.tierDone.classBit = true := by
  refine ⟨?_, ?_, class_raise _ _ _ _ _ _ (classBit_lt _) (.inl rfl)⟩
  · rw [State.endTierOp, (within_raise ..).tier_eq]
    rfl
  · rw [State.endTierOp, get_raise_block _ _ _ _ _ ⟨by decide, by decide⟩, get_set_same _ _ _ (by decide)]
    exact Nat.mod_eq_of_lt hcode

end Sys2Proof.Machine

open Sys2Proof Sys2Proof.Machine

/-- Settles O35: the requests of a range are all noted before the first is carried out, each slot's entry depends on its own requests alone, and a home that is fit stays fit while others are chosen anew. -/
theorem tierOperations : Obligations.TierOperations := by
  intro s src v hpor hu _
  refine ⟨fun hgood hcfg => ?flush, fun hgood hcfg => ?evict, fun hgood hcfg => ?invalidate, fun tag hgood hcfg hlt hopen hlive hlim htag hidle => ?fill, fun o hop hpr hidle => ?abort⟩
  case flush =>
    refine answers_opCtl (op := 1) rfl hpor hu (by decide) fun g c => ?_
    obtain ⟨hop, htop, hfirst, hlast⟩ := hgood
    have hready : ({ s with mgmt := g } : State).OpReady := ⟨hop, htop, hfirst, hlast⟩
    refine ⟨(get_record _ c (by decide)).trans (last_flush hready hcfg), (within_tierOp ..).mem_eq, fun n e hent hin hst hfit => ?_⟩
    obtain ⟨f, hfit⟩ := hfit
    exact dirEnt_flush hready hcfg hent hin.1 hin.2 hst hfit
  case evict =>
    refine answers_opCtl (op := 2) rfl hpor hu (by decide) fun g c => ?_
    obtain ⟨hop, htop, hfirst, hlast⟩ := hgood
    have hready : ({ s with mgmt := g } : State).OpReady := ⟨hop, htop, hfirst, hlast⟩
    refine ⟨(get_record _ c (by decide)).trans (last_evict hready hcfg), (within_tierOp ..).mem_eq, fun n e hent hin hst hp => ?_,
      fun n e hent hin hst hp hinv hfit => ?_, fun n e hent hin hp hst => ?_⟩
    · exact dirEnt_evict_clean hready hcfg hent hin.1 hin.2 hst hp
    · obtain ⟨f, hfit⟩ := hfit
      exact ⟨_, dirEnt_evict_dirty hready hcfg hent hin.1 hin.2 hst hp hinv hfit, rfl, rfl⟩
    · exact dirEnt_evict_pinned hready hcfg hent hin.1 hin.2 hp hst
  case invalidate =>
    refine answers_opCtl (op := 3) rfl hpor hu (by decide) fun g c => ?_
    obtain ⟨hop, htop, hfirst, hlast⟩ := hgood
    have hready : ({ s with mgmt := g } : State).OpReady := ⟨hop, htop, hfirst, hlast⟩
    refine ⟨(get_record _ c (by decide)).trans (last_invalidate hready hcfg), (within_tierOp ..).mem_eq, fun n e hent hin hp hpr hst => ?_, fun n e hent hin hp hst => ?_⟩
    · exact dirEnt_invalidate_unpinned hready hcfg hent hin.1 hin.2 hp hpr hst
    · exact dirEnt_invalidate_pinned hready hcfg hent hin.1 hin.2 hp hst
  case fill =>
    refine answers_opCtl (op := 4) rfl hpor hu (by decide) fun g c => ?_
    obtain ⟨hop, htop, hfirst, hlast⟩ := hgood
    obtain ⟨todo, hasks⟩ := tierOp_fill_asks (s := { s with mgmt := g }) ⟨hop, htop, hfirst, hlast⟩ hcfg hlt hopen hlive hlim htag hidle
    rw [hasks]
    refine ⟨(get_record _ c (by decide)).trans ?_, (get_record _ c (by decide)).trans ?_, rfl, rfl, rfl⟩
    · exact get_opBegun_last _ 4 [] todo (by decide)
    · exact get_opBegun_code _ 4 [] todo
  case abort =>
    refine answers_opCtl (op := 5) rfl hpor hu (by decide) fun g c => ?_
    have hmem : (({ s with mgmt := g } : State).tierOp 5).mem = s.mem := (within_tierOp ..).mem_eq
    obtain ⟨u, habort⟩ := tierOp_abort (s := { s with mgmt := g }) hop hpr hidle
    obtain ⟨hnone, hcode, hbit⟩ := endTierOp_ended u (code := 6) (by decide)
    rw [habort] at hmem ⊢
    refine ⟨hnone, (get_record _ c (by decide)).trans hcode, ?_, hmem⟩
    rw [reg_record _ c (by decide)]
    exact hbit

end

section
/-! PROOFS. Scrubbing, retirement and relocation of DRAM (R314, R336 to R340, R516): what the errors of a pass, the loss of a pseudo-channel and a withdrawn stack leave. -/

set_option Elab.async false

namespace Sys2Proof.Machine

/-! A patrol pass (R314). -/

/-- Errors write the records of errors and no other register. -/
theorem get_farErrors {f : Fld} (hce : ∀ k, f.reg ≠ Reg.DRM_CE k) (hue : ∀ k, f.reg ≠ Reg.DRM_UE k) (s : State) (o : EccObs) : (s.farErrors o).get f = s.get f := by
  have hpoison : ∀ (t : State) (g : Nat), (t.poisonGranule g).get f = t.get f := fun _ _ => rfl
  unfold State.farErrors
  refine List.foldlRecOn (motive := fun t : State => t.get f = s.get f) _ _ ?_ fun t ht a _ => ?_
  · refine List.foldlRecOn (motive := fun t : State => t.get f = s.get f) _ _ rfl fun t ht a _ => ?_
    rw [get_set_other _ _ _ _ (.inl (hce _)), get_count_other _ _ _ _ (.inl (hce _)), ht]
  · rw [hpoison, get_set_other _ _ _ _ (.inl (hue _)), get_count_other _ _ _ _ (.inl (hue _)), ht]

/-- The granule of an uncorrectable error is poisoned. -/
theorem poisonedAt_farErrors (s : State) (o : EccObs) {a : Nat} (ha : a ∈ o.uncorrectable) (hram : regionOf a = .dramA ∨ regionOf a = .dramB) :
    (s.farErrors o).poisonedAt a = true := by
  have hmem : a ∈ o.uncorrectable.filter fun a => regionOf a == .dramA || regionOf a == .dramB := List.mem_filter.mpr ⟨ha, by simpa using hram⟩
  unfold State.farErrors
  refine foldl_of_mem (P := fun t : State => t.poisonedAt a = true) (fun t => ?_) (fun t y ht => ?_) hmem _
  · exact (nmem_nadd ..).trans (by rw [beq_self_eq_true, Bool.or_true])
  · refine (nmem_nadd ..).trans ?_
    rw [Bool.or_eq_true]
    exact .inl ht

/-- The errors that lie on stack `k`. -/
def State.errorsOn (s : State) (k : Nat) (o : EccObs) : EccObs :=
  ⟨o.corrected.filter (fun a => (regionOf a == .dramA || regionOf a == .dramB) && s.stackOf a == k),
    o.uncorrectable.filter (fun a => (regionOf a == .dramA || regionOf a == .dramB) && s.stackOf a == k)⟩

theorem exec_patrolScrub {s : State} {k : Nat} (hk : k < 20) (hon : s.hflag 5 = true) (hlive : s.live = true) (hup : s.unitDown 1 k = false) (hret : s.isRetired 4 k = false) (obs : EccObs) :
    exec (.patrolScrub k obs) s = .next ((s.farErrors (s.errorsOn k obs)).count (Fld.DRM_SCRUBSTAT_PASSES k) 1) := by
  show execPatrolScrub k obs s = _
  simp only [execPatrolScrub, show ¬ 20 ≤ k by omega, hon, hlive, hup, hret, not_true_eq_false, Bool.false_eq_true, or_self, if_false]
  rfl

/-! Barriers and recoveries (R520 to R522): no register of the tier controller or the DRAM stacks is theirs. -/

theorem keepsTier_recoveryDone (s : State) : s.KeepsTier s.recoveryDone := by
  unfold State.recoveryDone
  exact .ite (.refl s) (keepsTier_set_outside s Fld.JRN_RECOV_ACTIVE (b2n false) (.inl (by decide)))

theorem keepsTier_writeEntry (s : State) (c : Nat) (w0 w1 w2 w3 : Word) (now : Bool) : s.KeepsTier (s.writeEntry c w0 w1 w2 w3 now) where
  fld f hf := by
    obtain ⟨hlow, hhigh, -⟩ := hf
    rw [State.get, State.get, reg_writeEntry_block _ _ _ _ _ _ _ ⟨hlow, by omega⟩]
  rest := tierRest_of_tierIdle (tierIdle_congr (within_writeEntry ..).tier_eq)

theorem keepsTier_writeBarrier (s : State) (r : Nat) : s.KeepsTier (s.writeBarrier r) := by
  unfold State.writeBarrier
  split
  · exact .refl s
  · refine .ite (.refl s) ?_
    refine .trans (.trans ?_ (keepsTier_writeEntry ..)) (keepsTier_recoveryDone _)
    exact .of_regs rfl rfl

theorem keepsTier_writeBarriers (s : State) (r n : Nat) : s.KeepsTier (s.writeBarriers r n) := by
  induction n generalizing s with
  | zero => exact .refl s
  | succ n ih => exact (keepsTier_writeBarrier s r).trans (ih _)

theorem keepsTier_beginRecovery (s : State) (cause : Nat) (rings : List Nat) : s.KeepsTier (s.beginRecovery cause rings) := by
  have hset : ∀ (u : State) (f : Fld) (v : Nat), f.reg = Reg.JRN_RECOV → u.KeepsTier (u.set f v) := fun u f v hf => keepsTier_set_outside u f v (.inl (by rw [hf]; decide))
  unfold State.beginRecovery
  extract_lets n u
  have hu : s.KeepsTier u := (((hset s Fld.JRN_RECOV_NUMBER _ rfl).trans (hset _ Fld.JRN_RECOV_CAUSE _ rfl)).trans (hset _ Fld.JRN_RECOV_RINGS _ rfl)).trans
    (hset _ Fld.JRN_RECOV_ACTIVE (b2n !rings.isEmpty) rfl)
  exact hu.trans (.of_regs rfl rfl)

/-! A stack's slots withdrawn (R337). -/

theorem keepsTier_takeSlot {s t : State} {n : Nat} (h : s.takeSlot = some (n, t)) : s.KeepsTier t := by
  unfold State.takeSlot at h
  split at h
  · cases h
    exact .refl s
  · obtain ⟨e, -, he⟩ := Option.map_eq_some_iff.mp h
    cases he
    exact keepsTier_freeClean s e.1

theorem keepsTier_copyGranules (s : State) (src dst : Nat → Nat) (i n : Nat) : s.KeepsTier (s.copyGranules src dst i n) := .of_within (within_copyGranules ..)

theorem keepsTier_withdrawEntry (s : State) (n : Nat) (e : DirEnt) : s.KeepsTier (s.withdrawEntry n e) := by
  unfold State.withdrawEntry
  refine .ite (keepsTier_freeClean ..) ?_
  split
  · exact .refl s
  · next m u hu =>
    have hcopied := State.KeepsTier.ite (c := e.st = .promoting ∨ e.st = .relocated) (.refl u) (keepsTier_copyGranules u (u.slotGranule n) (u.slotGranule m) 0 (2048 * e.size))
    refine (keepsTier_takeSlot hu).trans (hcopied.trans ?_)
    generalize (if e.st = .promoting ∨ e.st = .relocated then u else _ : State) = v
    exact .of_regs rfl rfl

theorem keepsTier_withdraw (s : State) (k : Nat) : ∃ w, (s.tmod fun t => { t with withdrawn := w }).KeepsTier (s.withdraw k) := by
  unfold State.withdraw
  split
  · exact ⟨s.tier.withdrawn, .refl s⟩
  · exact ⟨_, .foldl _ _ fun t e => keepsTier_withdrawEntry t e.1 e.2⟩

/-- With an empty directory the withdrawal of a stack of set A is noted, and moves nothing. -/
theorem withdraw_of_empty {s : State} {k : Nat} (hdir : s.tier.dir = []) (hw : s.tier.withdrawn = []) (hk : k < 16) :
    s.withdraw k = s.tmod fun t => { t with withdrawn := [k] } := by
  have hnot : ¬ (16 ≤ k ∨ nmem s.tier.withdrawn k = true) := by
    rw [hw]
    rintro (hge | hmem)
    · omega
    · cases hmem
  unfold State.withdraw
  rw [if_neg hnot]
  simp only [hdir, hw, List.filter_nil, List.foldl_nil, State.tmod]
  rfl

/-! A pseudo-channel lost (R338, R517), and retired (R336, R337). -/

theorem keepsTier_losePch (s : State) (p : Nat) : (s.tmod fun t => { t with pchs := sinsert t.pchs p .lost }).KeepsTier (s.losePch p) := by
  unfold State.losePch
  refine .ite (.refl _) ?_
  exact (((keepsTier_beginRecovery ..).trans (.foldl _ _ fun t j => keepsTier_finish t j _ _ _)).trans (keepsTier_raise ..)).trans
    (.foldl _ _ fun t r => keepsTier_writeBarriers t r 8)

/-- Pseudo-channel `p` out of service, its stack's slots withdrawn, before it is relocated or lost. -/
def State.pchOut (s : State) (p : Nat) (bad : List Nat) : State :=
  let u := bad.foldl (fun (s : State) a => if (s.dramPlace a).1 = p then s.poisonGranule (a / 32) else s) s
  (u.withdraw (p / 32)).set (Fld.DRM_STAT_PCHRET (p / 32)) (u.get (Fld.DRM_STAT_PCHRET (p / 32)) ||| 2 ^ (p % 32))

theorem within_poisoned (s : State) (p : Nat) (bad : List Nat) :
    Within 8 s (bad.foldl (fun (s : State) a => if (s.dramPlace a).1 = p then s.poisonGranule (a / 32) else s) s) :=
  .foldl (.refl ..) fun _ _ => .ite (within_poisonGranule ..) (.refl ..)

theorem retirePch_of_none {s : State} {p : Nat} (h : sfind s.tier.pchs p = none) (bad : List Nat) :
    s.retirePch p bad = if (s.pchOut p bad).relocRoom < (s.pchOut p bad).relocOwed + (s.pchOut p bad).chunksOfPch p then (s.pchOut p bad).losePch p
      else (s.pchOut p bad).tmod fun t => { t with pchs := sinsert t.pchs p .relocating } := by
  unfold State.retirePch
  rw [if_neg (by simp [h])]
  rfl

end Sys2Proof.Machine

end

section
/-! PROOFS. Pseudo-channels and stacks of DRAM out of service, and back (R336 to R340, R516). -/

set_option Elab.async false

namespace Sys2Proof.Machine

/-! What a retirement leaves (R336 to R338). -/

theorem get_withdraw (s : State) (k : Nat) {f : Fld} (hf : TierFld f) : (s.withdraw k).get f = s.get f := by
  obtain ⟨w, hkeep⟩ := keepsTier_withdraw s k
  exact hkeep.fld f hf

theorem pchs_withdraw (s : State) (k : Nat) : (s.withdraw k).tier.pchs = s.tier.pchs := by
  obtain ⟨w, hkeep⟩ := keepsTier_withdraw s k
  exact hkeep.pchs

section
variable (s : State) (p : Nat) (bad : List Nat)

theorem pchs_pchOut : (s.pchOut p bad).tier.pchs = s.tier.pchs := by
  have hpoison := (within_poisoned s p bad).tier_eq
  show (State.withdraw _ (p / 32)).tier.pchs = s.tier.pchs
  rw [pchs_withdraw, hpoison]

theorem get_pchOut {f : Fld} (hf : TierFld f) (h : f.reg ≠ Reg.DRM_STAT (p / 32) ∨ f.lo + f.n ≤ 32) : (s.pchOut p bad).get f = s.get f := by
  rw [State.pchOut, get_set_other _ _ _ _ (h.imp_right .inl), get_withdraw _ _ hf]
  exact (within_poisoned s p bad).get_eq f

theorem get_pchOut_pchret : (s.pchOut p bad).get (Fld.DRM_STAT_PCHRET (p / 32)) = (s.get (Fld.DRM_STAT_PCHRET (p / 32)) ||| 2 ^ (p % 32)) % 2 ^ 32 := by
  rw [State.pchOut, get_set_same _ _ _ (by decide : 32 + 32 ≤ 64), (within_poisoned s p bad).get_eq]
  rfl

variable {s p}

theorem pchs_retirePch (h : sfind s.tier.pchs p = none) :
    (s.retirePch p bad).tier.pchs =
      sinsert s.tier.pchs p (if (s.pchOut p bad).relocRoom < (s.pchOut p bad).relocOwed + (s.pchOut p bad).chunksOfPch p then .lost else .relocating) := by
  rw [retirePch_of_none h, ← pchs_pchOut s p bad]
  split
  · exact (keepsTier_losePch (s.pchOut p bad) p).pchs
  · rfl

theorem get_retirePch_of_none (h : sfind s.tier.pchs p = none) {f : Fld} (hf : TierFld f) : (s.retirePch p bad).get f = (s.pchOut p bad).get f := by
  rw [retirePch_of_none h]
  split
  · exact (keepsTier_losePch (s.pchOut p bad) p).fld f hf
  · rfl

theorem withdrawn_retirePch_of_none (h : sfind s.tier.pchs p = none) : (s.retirePch p bad).tier.withdrawn = (s.pchOut p bad).tier.withdrawn := by
  rw [retirePch_of_none h]
  split
  · exact (keepsTier_losePch (s.pchOut p bad) p).withdrawn
  · rfl

variable (s p)

/-- A retirement writes no field of the stack's status but the pseudo-channels'. -/
theorem get_retirePch {f : Fld} (hf : TierFld f) (h : f.reg ≠ Reg.DRM_STAT (p / 32) ∨ f.lo + f.n ≤ 32) : (s.retirePch p bad).get f = s.get f := by
  cases hp : sfind s.tier.pchs p with
  | none => rw [get_retirePch_of_none bad hp hf, get_pchOut s p bad hf h]
  | some st =>
    unfold State.retirePch
    rw [if_pos (by simp [hp])]

theorem isSome_retirePch_same : (sfind (s.retirePch p bad).tier.pchs p).isSome = true := by
  cases hp : sfind s.tier.pchs p with
  | none =>
    rw [pchs_retirePch bad hp, sfind_sinsert_same]
    rfl
  | some st =>
    unfold State.retirePch
    rw [if_pos (by simp [hp]), hp]
    rfl

variable {s}

/-- A pseudo-channel that is out of service stays so when another is retired. -/
theorem isSome_retirePch_of {q : Nat} (h : (sfind s.tier.pchs q).isSome = true) : (sfind (s.retirePch p bad).tier.pchs q).isSome = true := by
  by_cases hq : q = p
  · rw [hq]
    exact isSome_retirePch_same s p bad
  · cases hp : sfind s.tier.pchs p with
    | none => rwa [pchs_retirePch bad hp, sfind_sinsert_other _ _ hq]
    | some st =>
      unfold State.retirePch
      rwa [if_pos (by simp [hp])]

end

/-! One pseudo-channel out of service (R336 to R338). -/

theorem bit_of_get (s : State) (f : Fld) {i : Nat} (h : i < f.n) : bit (s.reg f.reg) (f.lo + i) = (s.get f).testBit i := by
  rw [State.get, bits, BitVec.testBit_toNat, BitVec.getLsbD_extractLsb', bit]
  simp [h]

theorem tierFld_pchret {k : Nat} (hk : k < 20) : TierFld (Fld.DRM_STAT_PCHRET k) := by
  simp only [TierFld, Fld.DRM_STAT_PCHRET, Reg.DRM_STAT, Reg.TIER_OPSTAT, Reg.TIER_EVCNT]
  omega

/-- Slots that the relocation of pseudo-channel `p` may take when nothing else is cached, relocated or withdrawn. -/
def State.roomFor (s : State) (p : Nat) : Nat := 32 * s.get Fld.TIER_STAT_CACHE * (if p < 512 then 15 else 16) - tierKeep (s.get Fld.TIER_STAT_TIERCFG)

section
variable {s : State} {p : Nat} (bad : List Nat) (hp : p < 640) (hpchs : s.tier.pchs = []) (hdir : s.tier.dir = []) (hw : s.tier.withdrawn = [])

include hdir hw in
theorem tier_pchOut_of_empty : (s.pchOut p bad).tier = { s.tier with withdrawn := if p < 512 then [p / 32] else [] } := by
  have hpoison := (within_poisoned s p bad).tier_eq
  show (State.withdraw _ (p / 32)).tier = _
  split
  · rw [withdraw_of_empty (by rw [hpoison]; exact hdir) (by rw [hpoison]; exact hw) (by omega), State.tmod, hpoison]
  · unfold State.withdraw
    rw [if_pos (.inl (by omega)), hpoison, ← hw]

include hpchs hdir hw in
theorem pchs_retirePch_of_empty : (s.retirePch p bad).tier.pchs = sinsert [] p (if s.roomFor p < s.chunksOfPch p then .lost else .relocating) := by
  have htier := tier_pchOut_of_empty bad hdir hw (p := p)
  have hcache : (s.pchOut p bad).get Fld.TIER_STAT_CACHE = s.get Fld.TIER_STAT_CACHE :=
    get_pchOut s p bad (by unfold TierFld; decide) (.inl (by simp only [Fld.TIER_STAT_CACHE, Reg.TIER_STAT, Reg.DRM_STAT]; omega))
  have hcfg : (s.pchOut p bad).get Fld.TIER_STAT_TIERCFG = s.get Fld.TIER_STAT_TIERCFG :=
    get_pchOut s p bad (by unfold TierFld; decide) (.inl (by simp only [Fld.TIER_STAT_TIERCFG, Reg.TIER_STAT, Reg.DRM_STAT]; omega))
  have hroom : (s.pchOut p bad).relocRoom = s.roomFor p := by
    rw [State.relocRoom, State.slotsIn, State.dirCount, htier, hcache, hcfg, State.roomFor, hdir]
    split
    · rfl
    · rfl
  have howed : (s.pchOut p bad).relocOwed = 0 := by
    rw [State.relocOwed, htier, hpchs]
    rfl
  have hchunks : (s.pchOut p bad).chunksOfPch p = s.chunksOfPch p := by
    rw [State.chunksOfPch, hcache]
    rfl
  rw [pchs_retirePch bad (by rw [hpchs]; rfl), hroom, howed, hchunks, Nat.zero_add, hpchs]

include hp hpchs in
theorem bit_retirePch : bit ((s.retirePch p bad).reg (Reg.DRM_STAT (p / 32))) ((Fld.DRM_STAT_PCHRET (p / 32)).lo + p % 32) = true := by
  have hlt : p % 32 < 32 := Nat.mod_lt _ (by decide)
  have hbit := bit_of_get (s.retirePch p bad) (Fld.DRM_STAT_PCHRET (p / 32)) hlt
  rw [get_retirePch_of_none bad (by rw [hpchs]; rfl) (tierFld_pchret (by omega)), get_pchOut_pchret] at hbit
  refine hbit.trans ?_
  rw [Nat.testBit_mod_two_pow, Nat.testBit_or, Nat.testBit_two_pow_self, Bool.or_true, Bool.and_true]
  exact decide_eq_true hlt

include hp in
theorem exec_pchRetired (hret : s.isRetired 3 p = false) (hstack : s.isRetired 4 (p / 32) = false) (hlive : s.live = true) (hnone : sfind s.tier.pchs p = none) :
    exec (.pchRetired p bad) s =
      .next ((((s.retireUnit 3 p).retirePch p bad).raise .pchRetired p (((s.retireUnit 3 p).retirePch p bad).pchStat p) 0).capChange) := by
  have hgo : ¬ ((sfind s.tier.pchs p).isSome = true ∨ s.isRetired 3 p = true ∨ s.isRetired 4 (p / 32) = true ∨ ¬ s.live = true) := by
    simp [hnone, hret, hstack, hlive]
  show execPchRetired p bad s = _
  unfold execPchRetired
  rw [if_neg (by omega), if_neg hgo]

end

/-- The event and the generation that end a retirement leave the tier controller as it is. -/
theorem tier_announced (s : State) (e : Event) (i : Nat) (d : Word) : ((s.raise e i d 0).capChange).tier = s.tier :=
  (within_capChange _).tier_eq.trans (within_raise ..).tier_eq

theorem retired_announced (s : State) (e : Event) (i : Nat) (d : Word) : ((s.raise e i d 0).capChange).retired = s.retired :=
  (within_capChange _).retired_eq.trans (within_raise ..).retired_eq

theorem reg_announced (s : State) (e : Event) (i : Nat) (d : Word) {a : Nat} (h : BlockReg a) : ((s.raise e i d 0).capChange).reg a = s.reg a := by
  have hne : a ≠ Reg.CAP_GEN := by
    have hlow := h.1
    simp only [Reg.CAP_GEN]
    omega
  rw [State.capChange, reg_wrap_other _ _ (show a ≠ Fld.CAP_GEN_GEN.reg from hne), reg_raise_block _ _ _ _ _ h]

theorem blockReg_drmStat {k : Nat} (hk : k < 20) : BlockReg (Reg.DRM_STAT k) := by
  simp only [BlockReg, Reg.DRM_STAT]
  omega

/-! A chunk copied, and copied back (R337, R340). -/

/-- The entry of a chunk whose copy has committed. -/
def DirEnt.chunkCopied (p c age : Nat) : DirEnt := { DirEnt.blank with st := .relocated, pch := p, chunk := c, copied := true, age := age }

theorem exec_chunkCopy {s : State} {p c n : Nat} (hp : p < 640) (hst : sfind s.tier.pchs p = some .relocating) (hc : s.nextChunk p = some c) (hn : s.freeSlot = some n) :
    exec (.chunkCopy p []) s = .next (if ((s.dirPut n (DirEnt.chunkCopied p c s.revNow)).nextChunk p).isNone then
      (s.dirPut n (DirEnt.chunkCopied p c s.revNow)).tmod fun t => { t with pchs := sinsert t.pchs p .relocated } else s.dirPut n (DirEnt.chunkCopied p c s.revNow)) := by
  show execChunkCopy p [] s = _
  simp only [execChunkCopy, show ¬ 640 ≤ p by omega, hst, hc, State.takeSlot, hn, ne_eq, not_true_eq_false, if_false, List.foldl_nil]
  rfl

/-- Of two chunks the lower, with its slot. -/
def lowerChunk (m : Option (Nat × Nat)) (e : Nat × DirEnt) : Option (Nat × Nat) :=
  match m with
  | none => some (e.2.chunk, e.1)
  | some x => some (if e.2.chunk < x.1 then (e.2.chunk, e.1) else x)

/-- Whether slots still hold chunks of pseudo-channel `p`. -/
def State.holdsChunk (s : State) (p : Nat) : Bool := s.tier.dir.any fun e => e.2.st == .relocated && e.2.pch == p

/-- The slots that hold chunks of pseudo-channel `p`. -/
def State.chunksHeld (s : State) (p : Nat) : List (Nat × DirEnt) := s.tier.dir.filter fun e => e.2.st == .relocated && e.2.pch == p

theorem mem_chunksHeld {s : State} {p : Nat} {x : Nat × DirEnt} : x ∈ s.chunksHeld p ↔ x ∈ s.tier.dir ∧ x.2.st = .relocated ∧ x.2.pch = p := by
  simp [State.chunksHeld]

section
variable {s : State} {p n : Nat} {e : DirEnt} (hdir : srises s.tier.dir = true) (h : s.dirEnt n = some e) (hst : e.st = .relocated) (hpch : e.pch = p)
include hdir h

include hst hpch in
theorem lowest_chunksHeld (hleast : ∀ m x, s.dirEnt m = some x → x.st = .relocated → x.pch = p → m ≠ n → e.chunk < x.chunk) :
    (s.chunksHeld p).foldl lowerChunk none = some (e.chunk, n) := by
  have hhigher : ∀ y ∈ s.chunksHeld p, y ≠ (n, e) → e.chunk < y.2.chunk := fun ⟨m, x⟩ hy hne => by
    obtain ⟨hin, hx, hxp⟩ := mem_chunksHeld.mp hy
    have hent := sfind_of_mem hdir hin
    refine hleast m x hent hx hxp ?_
    rintro rfl
    exact hne (congrArg _ (Option.some.inj (hent.symm.trans h)))
  refine foldl_of_mem_from (A := fun m : Option (Nat × Nat) => ∀ z ∈ m, e.chunk < z.1) (B := fun m : Option (Nat × Nat) => m = some (e.chunk, n)) (x := (n, e))
    (fun m hm => ?_) (fun m y hy hne hm => ?_) (fun m y hy hm => ?_) (mem_chunksHeld.mpr ⟨mem_of_sfind h, hst, hpch⟩) (fun z hz => nomatch hz)
  · cases m with
    | none => rfl
    | some z => simp [lowerChunk, hm z rfl]
  · have hlt := hhigher y hy hne
    cases m with
    | none => simpa [lowerChunk] using hlt
    | some z =>
      have hz := hm z rfl
      simp only [lowerChunk, Option.mem_def, Option.some.injEq]
      rintro w rfl
      split
      · exact hlt
      · exact hz
  · subst hm
    by_cases hye : y = (n, e)
    · simp [lowerChunk, hye]
    · have hlt := hhigher y hy hye
      simp [lowerChunk, show ¬ y.2.chunk < e.chunk by omega]

theorem holdsChunk_dirFree : (s.dirFree n).holdsChunk p = true ↔ ∃ m x, m ≠ n ∧ s.dirEnt m = some x ∧ x.st = .relocated ∧ x.pch = p := by
  have hrest : srises (s.dirFree n).tier.dir = true := srises_serase n hdir
  simp only [State.holdsChunk, List.any_eq_true, Bool.and_eq_true, beq_iff_eq]
  constructor
  · rintro ⟨⟨m, x⟩, hmem, hx, hxp⟩
    have hent : (s.dirFree n).dirEnt m = some x := sfind_of_mem hrest hmem
    have hne : m ≠ n := by
      rintro rfl
      cases (dirEnt_dirFree_same s m).symm.trans hent
    exact ⟨m, x, hne, (sfind_serase_other _ hne).symm.trans hent, hx, hxp⟩
  · rintro ⟨m, x, hne, hent, hx, hxp⟩
    exact ⟨(m, x), mem_of_sfind ((sfind_serase_other _ hne).trans hent), hx, hxp⟩

end

/-- A pseudo-channel back in service: its stack's slots too, when it was the last one out. -/
def State.pchBack (s : State) (p : Nat) : State :=
  let k := p / 32
  let s := (s.tmod (fun t => { t with pchs := serase t.pchs p })).set (Fld.DRM_STAT_PCHRET k) (s.get (Fld.DRM_STAT_PCHRET k) &&& (0xFFFFFFFF - 2 ^ (p % 32)))
  let s := s.setRastat 3 p 4
  let s := if s.tier.pchs.any (fun e => decide (e.1 / 32 = k)) then s else s.setRastat 4 k 4
  if s.tier.pchs.any (fun e => decide (e.1 / 32 = k)) then s else s.tmod (fun t => { t with withdrawn := ndel t.withdrawn k })

theorem tier_pchBack (s : State) (p : Nat) : ∃ w, (s.pchBack p).tier = { s.tier with pchs := serase s.tier.pchs p, withdrawn := w } := by
  unfold State.pchBack
  extract_lets k u v w
  have hv : v.tier = u.tier := (within_setRastat ..).tier_eq
  have hw : w.tier = u.tier := by
    refine .trans ?_ hv
    show State.tier (if _ then v else v.setRastat 4 k 4) = v.tier
    split
    · rfl
    · exact (within_setRastat ..).tier_eq
  split
  · rw [hw]
    exact ⟨_, rfl⟩
  · rw [State.tmod, hw]
    exact ⟨_, rfl⟩

theorem exec_copyBack {s : State} {p n c : Nat} (hp : p < 640) (hst : sfind s.tier.pchs p = some .copyingBack) (hfirst : (s.chunksHeld p).foldl lowerChunk none = some (c, n)) :
    exec (.copyBack p) s = .next (if (s.dirFree n).holdsChunk p then s.dirFree n else (s.dirFree n).pchBack p) := by
  show execCopyBack p s = _
  unfold execCopyBack
  rw [if_neg (by omega), if_neg (by simp [hst])]
  extract_lets held first u
  have hlowest : first = some (c, n) := hfirst
  clear_value first
  subst hlowest
  exact (apply_ite Host.Outcome.next ..).symm

/-! A stack out of service (R516). -/

/-- A stack out of service, and its pseudo-channels retired in ascending order. -/
def State.stackOut (s : State) (k : Nat) (bad : List Nat) : State :=
  (numsFrom (32 * k) 32).foldl (fun (s : State) p => s.retirePch p bad) ((s.retireUnit 4 k).setFlag (Fld.DRM_STAT_INSERVICE k) false)

theorem exec_stackRetired {s : State} {k : Nat} (hk : k < 20) (hret : s.isRetired 4 k = false) (hlive : s.live = true) (bad : List Nat) :
    exec (.stackRetired k bad) s = .next (((s.stackOut k bad).raise .stackRetired k 0 0).capChange) := by
  show execStackRetired k bad s = _
  simp only [execStackRetired, show ¬ 20 ≤ k by omega, hret, hlive, not_true_eq_false, Bool.false_eq_true, or_self, if_false]
  rfl

section
variable (s : State) (k : Nat) (bad : List Nat)

theorem isRetired_stackOut : (s.stackOut k bad).isRetired 4 k = true := by
  have hframe : Within 84967646 ((s.retireUnit 4 k).setFlag (Fld.DRM_STAT_INSERVICE k) false) (s.stackOut k bad) := .foldl (.refl ..) fun _ _ => within_retirePch ..
  rw [State.isRetired, hframe.retired_eq]
  exact isRetired_retireUnit s 4 k

theorem inService_stackOut (hk : k < 20) : (s.stackOut k bad).flag (Fld.DRM_STAT_INSERVICE k) = false := by
  have htier : TierFld (Fld.DRM_STAT_INSERVICE k) := by
    simp only [TierFld, Fld.DRM_STAT_INSERVICE, Reg.DRM_STAT, Reg.TIER_OPSTAT, Reg.TIER_EVCNT]
    omega
  refine List.foldlRecOn (motive := fun t : State => t.flag (Fld.DRM_STAT_INSERVICE k) = false) _ _ ?_ fun t ht p _ => ?_
  · exact flag_setFlag_same (s.retireUnit 4 k) (Fld.DRM_STAT_INSERVICE k) false (by decide : 0 + 1 ≤ 64) (by decide : 0 < 1)
  · rw [State.flag, get_retirePch t p bad htier (.inr (by decide : 0 + 1 ≤ 32))]
    exact ht

theorem isSome_stackOut {p : Nat} (hp : p < 32) : (sfind (s.stackOut k bad).tier.pchs (32 * k + p)).isSome = true := by
  unfold State.stackOut
  refine foldl_of_mem (f := fun (s : State) p => s.retirePch p bad) (P := fun t : State => (sfind t.tier.pchs (32 * k + p)).isSome = true) (fun t => isSome_retirePch_same t _ bad) (fun t q ht => isSome_retirePch_of q bad ht) ?_ _
  simp only [numsFrom_eq_range', List.mem_range'_1]
  omega

end

end Sys2Proof.Machine

open Sys2Proof Sys2Proof.Machine

/-- Settles O36: neither a withdrawal, nor the commands that a loss ends, nor their barriers write the stacks' status or another pseudo-channel's state; the chunks of a pseudo-channel lie in distinct slots, so the lowest is freed alone. -/
theorem dramRetirement : Obligations.DramRetirement := by
  refine ⟨fun s k obs hk hon hlive hup hret => ?scrub, fun s p bad hp hret hstack hlive hpchs hdir hw => ?retired, fun s p c n hp hst hc hn => ?copied,
    fun s p n e hp hst hdir h hrel hpch hleast => ?back, fun s k bad hk hret hlive => ?stack⟩
  case scrub =>
    have hce : ∀ i, (Fld.DRM_SCRUBSTAT_PASSES k).reg ≠ Reg.DRM_CE i := fun i => by
      simp only [Fld.DRM_SCRUBSTAT_PASSES, Reg.DRM_SCRUBSTAT, Reg.DRM_CE]
      omega
    have hue : ∀ i, (Fld.DRM_SCRUBSTAT_PASSES k).reg ≠ Reg.DRM_UE i := fun i => by
      simp only [Fld.DRM_SCRUBSTAT_PASSES, Reg.DRM_SCRUBSTAT, Reg.DRM_UE]
      omega
    refine ⟨_, exec_patrolScrub hk hon hlive hup hret obs, ?_, (within_farErrors ..).mem_eq, fun a ha hram hmine => ?_⟩
    · exact (up_count (s.farErrors (s.errorsOn k obs)) (Fld.DRM_SCRUBSTAT_PASSES k) (by decide : 32 + 32 ≤ 64)).congr (get_farErrors hce hue s _).symm rfl
    · exact poisonedAt_farErrors s (s.errorsOn k obs) (List.mem_filter.mpr ⟨ha, by simpa [hmine] using hram⟩) hram
  case retired =>
    refine ⟨_, exec_pchRetired bad hp hret hstack hlive (by rw [hpchs]; rfl), ?_, ?_, fun hlow => ?_, ?_⟩
    · rw [State.isRetired, retired_announced, (within_retirePch ..).retired_eq]
      exact isRetired_retireUnit s 3 p
    · rw [reg_announced _ _ _ _ (blockReg_drmStat (by omega))]
      exact bit_retirePch (s := s.retireUnit 3 p) bad hp hpchs
    · have hwithdrawn : (((s.retireUnit 3 p).retirePch p bad).tier.withdrawn) = [p / 32] := by
        rw [withdrawn_retirePch_of_none (s := s.retireUnit 3 p) bad (show sfind s.tier.pchs p = none by rw [hpchs]; rfl), tier_pchOut_of_empty (s := s.retireUnit 3 p) bad hdir hw, if_pos hlow]
      rw [State.slotIn, tier_announced, hwithdrawn]
      simp [nmem, Nat.mod_eq_of_lt (show p / 32 < 16 by omega)]
    · rw [tier_announced, pchs_retirePch_of_empty (s := s.retireUnit 3 p) bad hpchs hdir hw, sfind_sinsert_same]
      rfl
  case copied =>
    have hexec := exec_chunkCopy hp hst hc hn
    generalize hu : s.dirPut n (DirEnt.chunkCopied p c s.revNow) = u at hexec
    have hent : u.dirEnt n = some (DirEnt.chunkCopied p c s.revNow) := by
      rw [← hu]
      exact sfind_sinsert_same ..
    have hframe : Within 32768 s u := by
      rw [← hu]
      exact within_tmod ..
    have hpchs : u.tier.pchs = s.tier.pchs := by
      rw [← hu]
      rfl
    split at hexec
    · next hlast => exact ⟨_, hexec, hent, (sfind_sinsert_same ..).trans (congrArg some (if_pos hlast).symm), (hframe.step (within_tmod ..)).sameBut⟩
    · next hmore => exact ⟨_, hexec, hent, by rw [hpchs, hst, if_neg hmore], hframe.sameBut⟩
  case back =>
    have hexec := exec_copyBack hp hst (lowest_chunksHeld hdir h hrel hpch hleast)
    have hholds := holdsChunk_dirFree (p := p) hdir h
    have hframe : Within 32770 s (nextOr s (exec (.copyBack p) s)) := within_execCopyBack p s
    rw [hexec] at hframe
    obtain ⟨w, hback⟩ := tier_pchBack (s.dirFree n) p
    by_cases hmore : (s.dirFree n).holdsChunk p = true
    · rw [if_pos hmore] at hexec hframe
      refine ⟨_, hexec, dirEnt_dirFree_same s n, fun m hm => sfind_serase_other _ hm, fun _ => hst, fun hnone => ?_, hframe.sameBut⟩
      obtain ⟨m, x, hm, hx, hchunk⟩ := hholds.mp hmore
      exact absurd hchunk (hnone m x hm hx)
    · rw [if_neg hmore] at hexec hframe
      refine ⟨_, hexec, ?_, fun m hm => ?_, fun hsome => absurd (hholds.mpr hsome) hmore, fun _ => ?_, hframe.sameBut⟩
      · rw [State.dirEnt, hback]
        exact dirEnt_dirFree_same s n
      · rw [State.dirEnt, hback]
        exact sfind_serase_other _ hm
      · rw [hback]
        exact sfind_serase_same ..
  case stack =>
    have hblock : BlockReg (Fld.DRM_STAT_INSERVICE k).reg := blockReg_drmStat hk
    refine ⟨_, exec_stackRetired hk hret hlive bad, ?_, ?_, fun p hp => ?_⟩
    · rw [State.isRetired, retired_announced]
      exact isRetired_stackOut s k bad
    · rw [State.flag, State.get, reg_announced _ _ _ _ hblock]
      exact inService_stackOut s k bad hk
    · rw [tier_announced]
      exact isSome_stackOut s k bad hp

end
